-- ==== Sys2Proof/Word.lean ====
section
/-! DEFINITION. Word.lean: the word types of the MLN-7720 and the saturating count. -/
namespace Sys2Proof

/-- A byte. -/
abbrev Byte := BitVec 8
/-- A 32-bit word: one register, one image word, one sample. -/
abbrev Word := BitVec 32
/-- A 64-bit doubleword: a ZG-64 general register. -/
abbrev DWord := BitVec 64

/-- A count that stops at its greatest value `2 ^ w - 1`. -/
def satCount (w n : Nat) : Nat := min n (2 ^ w - 1)

end Sys2Proof
end

