-- ==== Sys2Proof/Syntax.lean ====
section
/-! DEFINITION. Syntax.lean: the commands of the MLN-7720, one constructor per row of the table of operations and
events, and the operand types they carry. A row gives no bits, so each operand is a typed field of what the row's
rule reads: a triad, a register number, a frame's fields. -/
namespace Sys2Proof

/-- A triad, numbered as DBG.CORE numbers them: 0 is the supervisor, 1 + p is physical lane p. -/
abbrev TriadId := Fin 19
/-- A register number of a five-bit field. -/
abbrev Reg := BitVec 5
/-- A 16-bit immediate or branch offset. -/
abbrev Imm16 := BitVec 16
/-- A shift amount. -/
abbrev Sh6 := BitVec 6
/-- The offset of J and CALL. -/
abbrev Off26 := BitVec 26
/-- The 12-bit number of a system instruction. -/
abbrev N12 := BitVec 12

/-- Why a task's check record holds a failure (R23), as TASK_FAILURE reports it. -/
inductive FailCause where
  /-- a residue or duplication check, a voter disagreement in pair mode, a Waymark flag -/
  | check
  /-- an exception raised by Footpath task code: its cause and PC (R35) -/
  | exception (cause : BitVec 8) (pc : DWord)
  /-- an uncorrectable error on data the lane reads; `writer` is the task of the block that wrote it, if one did (R34) -/
  | uncorrectable (writer : Option (BitVec 8))
  deriving DecidableEq, Repr

/-- A sample a task wrote to an output: routing point, sample index within the block, value. -/
structure TaskOut where
  point : BitVec 16
  index : BitVec 6
  value : Word
  deriving DecidableEq, Repr

/-- What a task leaves when it ends: its outputs, the bytes it wrote to the new state buffer, and its exception. -/
structure TaskResult where
  outs : List TaskOut
  state : List (BitVec 22 × Byte)
  deriving DecidableEq, Repr

/-- The operand fields of the VR format (R132). -/
structure VR where
  vd : Reg
  vs1 : Reg
  vs2 : Reg
  pg : BitVec 3
  z : Bool
  ty : BitVec 2
  deriving DecidableEq, Repr

/-- The operand fields of the VM format but its mode (R132). -/
structure VM where
  vt : Reg
  gb : Reg
  ix : Reg
  pg : BitVec 3
  ff : Bool
  ty : BitVec 2
  sc : BitVec 2
  deriving DecidableEq, Repr

/-- A short-vector instruction of a class: its func and the fields of the VR format (R136). -/
structure SV where
  func : BitVec 5
  o : VR
  deriving DecidableEq, Repr

abbrev EntryList := List Word

/-- Ledger offset of a word that fails its second write during the command, if one does (R273). -/
abbrev LedgerBad := Option (BitVec 23)

/-- Destination words of a mover burst that meet WCOL, numbered from the burst's first word, each with whether its retry meets WCOL
again (R245, R300). -/
abbrev ColList := List (BitVec 4 × Bool)
abbrev ByteList := List Byte

/-- What the consumer of a Junction word finds in its check bits (R184). -/
inductive JctCheck where
  | good | correctable | uncorrectable
  deriving DecidableEq, Repr

/-- A media clock source that can be qualified (R226). -/
inductive MediaSource where
  | ptp | wclk
  deriving DecidableEq, Repr

/-- A source that is tested for its qualification: WCLK_IN with the period of its 64 edges, in ps (R226). -/
inductive SourceTest where
  | ptp
  | wclk (period : BitVec 32)
  deriving DecidableEq, Repr

/-- An instant of a PTP message: seconds and nanoseconds. -/
structure PtpTime where
  sec : BitVec 48
  ns : BitVec 32
  deriving DecidableEq, Repr

/-- The dataset an Announce message carries. -/
structure PtpAnnounce where
  gmId : BitVec 64
  prio1 : Byte
  clockClass : Byte
  accuracy : Byte
  variance : BitVec 16
  prio2 : Byte
  steps : BitVec 16
  deriving DecidableEq, Repr

/-- The body of a PTP message (R220 to R224). -/
inductive PtpBody where
  | sync (twoStep : Bool) (origin : PtpTime)
  | followUp (origin : PtpTime)
  | delayReq
  | delayResp (receipt : PtpTime) (requesting : BitVec 80)
  | announce (d : PtpAnnounce)
  /-- peer delay, signaling, management (R201) -/
  | unsupported
  deriving DecidableEq, Repr

/-- A PTP message as a port receives it: header fields and body; `correction` is signed ns, `malformed` covers a length or a
field out of range (R224). -/
structure PtpMessage where
  version : BitVec 4
  domain : Byte
  source : BitVec 80
  seq : BitVec 16
  correction : BitVec 48
  malformed : Bool
  body : PtpBody
  deriving DecidableEq, Repr

/-- What RS-FEC makes of the codewords that carry a frame at 25GBASE-R (R200, R223). -/
inductive FecResult where
  | clean | corrected | uncorrectable
  deriving DecidableEq, Repr

/-- What a port finds of a frame's bits: RS-FEC, and whether the frame check sequence passes (R208, R223). -/
structure FrameCheck where
  fec : FecResult
  fcs : Bool
  deriving DecidableEq, Repr

/-- The messages a port sends on its own schedule (R220). -/
inductive PtpKind where
  | sync | announce | delayReq
  deriving DecidableEq, Repr

/-- How a Sorov frame arrives (R372): serial channel, whether its CRC and its length pass, and its header. -/
structure SovHead where
  chan : Fin 4
  crcOk : Bool
  lenOk : Bool
  seq : Word
  block : BitVec 64
  deriving DecidableEq, Repr

/-- SYNC body (R374). -/
structure SyncBody where
  lanes : BitVec 16
  uncommitted : BitVec 16
  flags : Byte
  boundary : BitVec 64
  paramApplied : Word
  expressCrc : Word
  outCrc : List Word
  stateCrc : List Word
  deriving DecidableEq, Repr

/-- STATE body (R379). -/
structure StateBody where
  kind : Byte
  size : BitVec 16
  tag : Word
  addr : BitVec 40
  data : List Byte
  deriving DecidableEq, Repr

/-- One record of a PARAM body (R375). -/
structure ParamRec where
  id : Word
  value : Word
  delta : Word
  ramp : BitVec 16
  host : Bool
  deriving DecidableEq, Repr

structure ParamBody where
  first : Word
  recs : List ParamRec
  deriving DecidableEq, Repr

/-- HEART body (R376). -/
structure HeartBody where
  role : Byte
  flags : Byte
  ack : Word
  since : BitVec 64
  time : BitVec 64
  deriving DecidableEq, Repr

/-- VERSION body (R378). -/
structure VersionBody where
  proto : BitVec 16
  prosal : BitVec 16
  cls : Word
  imageId : BitVec 64
  serial : BitVec 64
  tolerance : BitVec 16
  rate : Byte
  bsize : Byte
  flags : Byte
  deriving DecidableEq, Repr

/-- An entry of a NEED body (R380). -/
structure NeedEntry where
  stream : BitVec 16
  ts : Word
  deriving DecidableEq, Repr

abbrev NeedList := List NeedEntry

/-- PKT body (R380). -/
structure PktBody where
  stream : BitVec 16
  ts : Word
  payload : List Byte
  deriving DecidableEq, Repr

/-- CMD body without its opcode (R377); `answer` tells an answer from a request. -/
structure SovCmd where
  answer : Bool
  status : BitVec 16
  tag : Word
  arg0 : BitVec 64
  arg1 : BitVec 64
  deriving DecidableEq, Repr

/-- What a CMD HOST frame carries (R413, R421): relay data, or a change of the mode of function 6, 7 or 8 at a block. -/
inductive HostData where
  | relay (a b : BitVec 64)
  | mode (function : BitVec 4) (host : Bool) (block : BitVec 64)
  deriving DecidableEq, Repr


/-- The commands of the block, one constructor per row of the spec's table of operations and events, in its order. -/
inductive Instr where
  | frameBoundary
  | blockBoundary
  | lanePeriodBoundary
  | taskStart (p : Fin 18)
  | taskComplete (p : Fin 18) (r : TaskResult)
  | commitGateOpen (p : Fin 18)
  | mirrorComplete (j : Fin 16)
  | outputStart
  | taskFailure (p : Fin 18) (c : FailCause)
  | laybyReady (l : Fin 2)
  | replayComplete (p : Fin 18) (r : TaskResult)
  | shadowComplete (l : Fin 2)
  | settleComplete (l : Fin 2)
  | laneTestComplete (p : Fin 18) (pass : Bool)
  | stagingComplete
  | idleBlocksExpiry (c : Fin 9)
  | clusterWakeComplete (c : Fin 9)
  | taskBudgetExpiry (p : Fin 18)
  | add (t : TriadId) (rd : Reg) (rs1 : Reg) (rs2 : Reg)
  | sub (t : TriadId) (rd : Reg) (rs1 : Reg) (rs2 : Reg)
  | andCmd (t : TriadId) (rd : Reg) (rs1 : Reg) (rs2 : Reg)
  | orCmd (t : TriadId) (rd : Reg) (rs1 : Reg) (rs2 : Reg)
  | xorCmd (t : TriadId) (rd : Reg) (rs1 : Reg) (rs2 : Reg)
  | shl (t : TriadId) (rd : Reg) (rs1 : Reg) (rs2 : Reg)
  | shr (t : TriadId) (rd : Reg) (rs1 : Reg) (rs2 : Reg)
  | sar (t : TriadId) (rd : Reg) (rs1 : Reg) (rs2 : Reg)
  | setlt (t : TriadId) (rd : Reg) (rs1 : Reg) (rs2 : Reg)
  | setltU (t : TriadId) (rd : Reg) (rs1 : Reg) (rs2 : Reg)
  | minCmd (t : TriadId) (rd : Reg) (rs1 : Reg) (rs2 : Reg)
  | maxCmd (t : TriadId) (rd : Reg) (rs1 : Reg) (rs2 : Reg)
  | minU (t : TriadId) (rd : Reg) (rs1 : Reg) (rs2 : Reg)
  | maxU (t : TriadId) (rd : Reg) (rs1 : Reg) (rs2 : Reg)
  | addW (t : TriadId) (rd : Reg) (rs1 : Reg) (rs2 : Reg)
  | subW (t : TriadId) (rd : Reg) (rs1 : Reg) (rs2 : Reg)
  | shlW (t : TriadId) (rd : Reg) (rs1 : Reg) (rs2 : Reg)
  | shrW (t : TriadId) (rd : Reg) (rs1 : Reg) (rs2 : Reg)
  | sarW (t : TriadId) (rd : Reg) (rs1 : Reg) (rs2 : Reg)
  | mul (t : TriadId) (rd : Reg) (rs1 : Reg) (rs2 : Reg)
  | mulHs (t : TriadId) (rd : Reg) (rs1 : Reg) (rs2 : Reg)
  | mulHu (t : TriadId) (rd : Reg) (rs1 : Reg) (rs2 : Reg)
  | mulW (t : TriadId) (rd : Reg) (rs1 : Reg) (rs2 : Reg)
  | div (t : TriadId) (rd : Reg) (rs1 : Reg) (rs2 : Reg)
  | divU (t : TriadId) (rd : Reg) (rs1 : Reg) (rs2 : Reg)
  | rem (t : TriadId) (rd : Reg) (rs1 : Reg) (rs2 : Reg)
  | remU (t : TriadId) (rd : Reg) (rs1 : Reg) (rs2 : Reg)
  | clz (t : TriadId) (rd : Reg) (rs1 : Reg)
  | ctz (t : TriadId) (rd : Reg) (rs1 : Reg)
  | bitcnt (t : TriadId) (rd : Reg) (rs1 : Reg)
  | rol (t : TriadId) (rd : Reg) (rs1 : Reg) (rs2 : Reg)
  | ror (t : TriadId) (rd : Reg) (rs1 : Reg) (rs2 : Reg)
  | byterev (t : TriadId) (rd : Reg) (rs1 : Reg)
  | sextB (t : TriadId) (rd : Reg) (rs1 : Reg)
  | sextH (t : TriadId) (rd : Reg) (rs1 : Reg)
  | sextW (t : TriadId) (rd : Reg) (rs1 : Reg)
  | addi (t : TriadId) (rd : Reg) (rs1 : Reg) (imm : Imm16)
  | andi (t : TriadId) (rd : Reg) (rs1 : Reg) (imm : Imm16)
  | ori (t : TriadId) (rd : Reg) (rs1 : Reg) (imm : Imm16)
  | xori (t : TriadId) (rd : Reg) (rs1 : Reg) (imm : Imm16)
  | setlti (t : TriadId) (rd : Reg) (rs1 : Reg) (imm : Imm16)
  | setltiU (t : TriadId) (rd : Reg) (rs1 : Reg) (imm : Imm16)
  | shli (t : TriadId) (rd : Reg) (rs1 : Reg) (sh : Sh6)
  | shri (t : TriadId) (rd : Reg) (rs1 : Reg) (sh : Sh6)
  | sari (t : TriadId) (rd : Reg) (rs1 : Reg) (sh : Sh6)
  | shin (t : TriadId) (rd : Reg) (rs1 : Reg) (imm : Imm16)
  | pcadd (t : TriadId) (rd : Reg) (rs1 : Reg) (imm : Imm16)
  | ldB (t : TriadId) (rd : Reg) (rs1 : Reg) (imm : Imm16)
  | ldBu (t : TriadId) (rd : Reg) (rs1 : Reg) (imm : Imm16)
  | ldH (t : TriadId) (rd : Reg) (rs1 : Reg) (imm : Imm16)
  | ldHu (t : TriadId) (rd : Reg) (rs1 : Reg) (imm : Imm16)
  | ldW (t : TriadId) (rd : Reg) (rs1 : Reg) (imm : Imm16)
  | ldWu (t : TriadId) (rd : Reg) (rs1 : Reg) (imm : Imm16)
  | ldD (t : TriadId) (rd : Reg) (rs1 : Reg) (imm : Imm16)
  | stB (t : TriadId) (rs2 : Reg) (rs1 : Reg) (imm : Imm16)
  | stH (t : TriadId) (rs2 : Reg) (rs1 : Reg) (imm : Imm16)
  | stW (t : TriadId) (rs2 : Reg) (rs1 : Reg) (imm : Imm16)
  | stD (t : TriadId) (rs2 : Reg) (rs1 : Reg) (imm : Imm16)
  | aaddW (t : TriadId) (rd : Reg) (rs1 : Reg) (rs2 : Reg)
  | aaddD (t : TriadId) (rd : Reg) (rs1 : Reg) (rs2 : Reg)
  | aswpW (t : TriadId) (rd : Reg) (rs1 : Reg) (rs2 : Reg)
  | aswpD (t : TriadId) (rd : Reg) (rs1 : Reg) (rs2 : Reg)
  | bmove (t : TriadId) (rd : Reg) (rs1 : Reg) (rs2 : Reg)
  | bfill (t : TriadId) (rd : Reg) (rs1 : Reg) (rs2 : Reg)
  | bcrc (t : TriadId) (rd : Reg) (rs1 : Reg) (rs2 : Reg)
  | beq (t : TriadId) (rs1 : Reg) (rs2 : Reg) (off : Imm16)
  | bne (t : TriadId) (rs1 : Reg) (rs2 : Reg) (off : Imm16)
  | blt (t : TriadId) (rs1 : Reg) (rs2 : Reg) (off : Imm16)
  | bge (t : TriadId) (rs1 : Reg) (rs2 : Reg) (off : Imm16)
  | bltU (t : TriadId) (rs1 : Reg) (rs2 : Reg) (off : Imm16)
  | bgeU (t : TriadId) (rs1 : Reg) (rs2 : Reg) (off : Imm16)
  | j (t : TriadId) (off : Off26)
  | call (t : TriadId) (off : Off26)
  | jr (t : TriadId) (rs1 : Reg)
  | callr (t : TriadId) (rs1 : Reg)
  | ret (t : TriadId)
  | mfc (t : TriadId) (g : Reg) (n : N12)
  | mtc (t : TriadId) (g : Reg) (n : N12)
  | syncC (t : TriadId)
  | syncI (t : TriadId)
  | syncM (t : TriadId)
  | eret (t : TriadId)
  | srvc (t : TriadId) (n : N12)
  | waymark (t : TriadId) (n : N12)
  | waitCmd (t : TriadId)
  | breakCmd (t : TriadId)
  | interruptTaken (t : TriadId)
  | asyncCauseTaken (t : TriadId)
  | resyncComplete (t : TriadId)
  | coreHoldOut (t : TriadId)
  | vadd (t : TriadId) (o : VR)
  | vsub (t : TriadId) (o : VR)
  | vsadd (t : TriadId) (o : VR)
  | vssub (t : TriadId) (o : VR)
  | vmul (t : TriadId) (o : VR)
  | vmulh (t : TriadId) (o : VR)
  | vmin (t : TriadId) (o : VR)
  | vmax (t : TriadId) (o : VR)
  | vabs (t : TriadId) (o : VR)
  | vneg (t : TriadId) (o : VR)
  | vand (t : TriadId) (o : VR)
  | vor (t : TriadId) (o : VR)
  | vxor (t : TriadId) (o : VR)
  | vnot (t : TriadId) (o : VR)
  | vshl (t : TriadId) (o : VR)
  | vshr (t : TriadId) (o : VR)
  | vsra (t : TriadId) (o : VR)
  | vshli (t : TriadId) (o : VR)
  | vshri (t : TriadId) (o : VR)
  | vsrai (t : TriadId) (o : VR)
  | vsel (t : TriadId) (o : VR)
  | vmov (t : TriadId) (o : VR)
  | vfadd (t : TriadId) (o : VR)
  | vfsub (t : TriadId) (o : VR)
  | vfmul (t : TriadId) (o : VR)
  | vfma (t : TriadId) (o : VR)
  | vfms (t : TriadId) (o : VR)
  | vfmin (t : TriadId) (o : VR)
  | vfmax (t : TriadId) (o : VR)
  | vfabs (t : TriadId) (o : VR)
  | vfneg (t : TriadId) (o : VR)
  | vcvtfq (t : TriadId) (o : VR)
  | vcvtqf (t : TriadId) (o : VR)
  | vcvtfi (t : TriadId) (o : VR)
  | vcvtif (t : TriadId) (o : VR)
  | vcmpeq (t : TriadId) (o : VR)
  | vcmpne (t : TriadId) (o : VR)
  | vcmplt (t : TriadId) (o : VR)
  | vcmple (t : TriadId) (o : VR)
  | vcmpltu (t : TriadId) (o : VR)
  | vcmpleu (t : TriadId) (o : VR)
  | pand (t : TriadId) (o : VR)
  | por (t : TriadId) (o : VR)
  | pxor (t : TriadId) (o : VR)
  | pandn (t : TriadId) (o : VR)
  | plimit (t : TriadId) (o : VR)
  | vmac (t : TriadId) (o : VR)
  | vmsc (t : TriadId) (o : VR)
  | vzaclr (t : TriadId) (o : VR)
  | vzard (t : TriadId) (o : VR)
  | vzawr (t : TriadId) (o : VR)
  | vsplat (t : TriadId) (o : VR)
  | vextr (t : TriadId) (o : VR)
  | vins (t : TriadId) (o : VR)
  | vperm (t : TriadId) (o : VR)
  | vrev (t : TriadId) (o : VR)
  | vslide (t : TriadId) (o : VR)
  | vweavl (t : TriadId) (o : VR)
  | vweavh (t : TriadId) (o : VR)
  | vsplite (t : TriadId) (o : VR)
  | vsplito (t : TriadId) (o : VR)
  | vwidl (t : TriadId) (o : VR)
  | vwidh (t : TriadId) (o : VR)
  | vnarr (t : TriadId) (o : VR)
  | vrsum (t : TriadId) (o : VR)
  | vrmin (t : TriadId) (o : VR)
  | vrmax (t : TriadId) (o : VR)
  | ffarm (t : TriadId) (o : VR)
  | ffread (t : TriadId) (o : VR)
  | ptally (t : TriadId) (o : VR)
  | pmovg (t : TriadId) (o : VR)
  | gmovp (t : TriadId) (o : VR)
  | vzero (t : TriadId) (o : VR)
  | vzamvl (t : TriadId) (o : VR)
  | vzamvh (t : TriadId) (o : VR)
  | vzars (t : TriadId) (o : VR)
  | vld (t : TriadId) (o : VM)
  | vst (t : TriadId) (o : VM)
  | vldP (t : TriadId) (o : VM)
  | vstP (t : TriadId) (o : VM)
  | vldS (t : TriadId) (o : VM)
  | vstS (t : TriadId) (o : VM)
  | vldX (t : TriadId) (o : VM)
  | vstX (t : TriadId) (o : VM)
  | vldR (t : TriadId) (o : VM)
  | vstR (t : TriadId) (o : VM)
  | shortVectorIntegerOp (t : TriadId) (w : SV)
  | shortVectorFp32Op (t : TriadId) (w : SV)
  | shortVectorCompare (t : TriadId) (w : SV)
  | qbsel (t : TriadId) (o : VR)
  | shortVectorPermute (t : TriadId) (w : SV)
  | qld (t : TriadId) (q : Reg) (rs1 : Reg) (imm : Imm16)
  | qst (t : TriadId) (q : Reg) (rs1 : Reg) (imm : Imm16)
  | qmovg (t : TriadId) (o : VR)
  | gmovq (t : TriadId) (o : VR)
  | junctionTransfer (p : Fin 48) (q : Fin 48) (w : BitVec 13) (e : JctCheck)
  | expressSample (c : BitVec 6)
  | expressResyncComplete (b : Fin 9)
  | expressHoldOut (b : Fin 9)
  | expressLaybyTakeover
  | expressMoveGo (m : BitVec 8) (lvl : BitVec 2) (v : Word)
  | expressMoveTakeEffect
  | frameReceive (k : Fin 4) (chk : FrameCheck) (bs : ByteList)
  | ptpMessage (k : Fin 4) (msg : PtpMessage)
  | ptpMessageSend (k : Fin 4) (kind : PtpKind)
  | announceReceiptTimeout (k : Fin 4)
  | delayRespTimeout (k : Fin 4)
  | followUpTimeout (k : Fin 4)
  | samplePresent (j : BitVec 12)
  | legLoss (j : BitVec 12) (blue : Bool)
  | streamAbsent (j : BitVec 12)
  | packetLaunch (j : BitVec 12)
  | linkDown (k : Fin 4)
  | sourceQualified (src : SourceTest)
  | sourceTaken (e : BitVec 64)
  | lockAchieved
  | sourceLoss (src : MediaSource)
  | holdoverTimeout
  | mediaClockStep
  | stepReq (m : BitVec 8) (lvl : BitVec 2) (v : Word)
  | hostPhaseWrite (m : BitVec 8) (lvl : BitVec 2) (v : Word)
  | srcWrite (m : BitVec 8) (lvl : BitVec 2) (v : Word)
  | tdmFormatWrite (m : BitVec 8) (lvl : BitVec 2) (p : Fin 16) (v : Word)
  | tdmFrame (p : Fin 16) (n : BitVec 16) (phase : BitVec 32) (data : EntryList)
  | tdmPortAcquired (p : Fin 16)
  | tdmPortLoss (p : Fin 16) (missing : Bool)
  | tdmRetime (p : Fin 16)
  | tdmSlip (p : Fin 16)
  | eccWriteBack (w : BitVec 37)
  | bankPowerTransitionComplete (mem : Fin 10) (b : BitVec 7)
  | marchGo (m : BitVec 8) (lvl : BitVec 2) (v : Word)
  | marchRow (ok : Bool)
  | marchComplete
  | dramMarchGranule (sub : BitVec 3) (page : BitVec 21) (ok : Bool)
  | rowRepairCopyComplete (mem : Fin 10) (b : BitVec 7) (sp : BitVec 2)
  | tcwWrite (m : BitVec 8) (lvl : BitVec 2) (a : BitVec 22) (v : Word)
  | tcwMismatch (a : BitVec 22) (c0 : Word) (c1 : Word) (c2 : Word)
  | dramRefresh (r : BitVec 4)
  | scrubRead (mem : Fin 12)
  | scrubPassComplete (mem : Fin 12)
  | remapCopyComplete (j : BitVec 8)
  | ledgerWriteGo (m : BitVec 8) (lvl : BitVec 2) (v : Word)
  | ledgerWriteComplete (ok : Bool)
  | tgSlotWrite (m : BitVec 8) (lvl : BitVec 2) (a : BitVec 22) (v : Word)
  | tgCommit (m : BitVec 8) (lvl : BitVec 2) (u : Fin 28) (v : Word)
  | tgDrainEnd (u : Fin 28)
  | tgLockWrite (m : BitVec 8) (lvl : BitVec 2) (a : BitVec 22) (v : Word)
  | moverGo (m : BitVec 8) (lvl : BitVec 2) (k : Fin 4) (c : BitVec 6)
  | moverResume (m : BitVec 8) (lvl : BitVec 2) (k : Fin 4) (c : BitVec 6)
  | moverAbort (m : BitVec 8) (lvl : BitVec 2) (k : Fin 4) (c : BitVec 6)
  | moverDescriptorFetch (k : Fin 4) (c : BitVec 6)
  | moverBurst (k : Fin 4) (c : BitVec 6) (col : ColList)
  | moverDescriptorComplete (k : Fin 4) (c : BitVec 6)
  | softwareEvent (m : BitVec 8) (lvl : BitVec 2) (v : Word)
  | eventClear (m : BitVec 8) (lvl : BitVec 2) (w : Fin 20) (v : Word)
  | fcuSample
  | deferDeadline (n : Fin 320)
  | fcuDecide (m : BitVec 8) (lvl : BitVec 2) (v : Word)
  | fcuArm (m : BitVec 8) (lvl : BitVec 2) (v : Word)
  | firstAck (m : BitVec 8) (lvl : BitVec 2) (v : Word)
  | pendClear (m : BitVec 8) (lvl : BitVec 2) (n : Fin 320) (v : Word)
  | queueRead (m : BitVec 8) (lvl : BitVec 2) (bad : LedgerBad)
  | safeStateReset
  | milestoneService (m : BitVec 8) (lvl : BitVec 2) (narrow : Bool) (v : Word)
  | windowOpen
  | windowExpiry
  | graceEnd
  | milestoneKeyWrite (m : BitVec 8) (lvl : BitVec 2) (v : Word)
  | milestoneDisableWrite (m : BitVec 8) (lvl : BitVec 2) (v : Word)
  | milestoneRestart (m : BitVec 8) (lvl : BitVec 2) (v : Word)
  | milestoneLockWrite (m : BitVec 8) (lvl : BitVec 2) (v : Word)
  | windowSettingWrite (m : BitVec 8) (lvl : BitVec 2) (a : BitVec 22) (v : Word)
  | waymarkDiscard (m : BitVec 8) (lvl : BitVec 2) (p : Fin 18) (v : Word)
  | supCfgWrite (m : BitVec 8) (lvl : BitVec 2) (a : Fin 16) (v : Word)
  | supCheckin (m : BitVec 8) (lvl : BitVec 2) (a : Fin 16) (v : Word)
  | supWindowEnd (a : Fin 16)
  | powerOnReset
  | resetAccept (ext : Bool)
  | resetEnd (late : Bool)
  | resetPullEnd
  | optionLoadComplete
  | fillComplete
  | bootSlotSelect
  | dramTrainingComplete (raw : BitVec 4) (ranks : BitVec 2)
  | resetRequest (m : BitVec 8) (lvl : BitVec 2) (v : Word)
  | enterSentry (m : BitVec 8) (lvl : BitVec 2) (v : Word)
  | sentryWake (k : Fin 16) (rising : Bool)
  | backupTimeTick
  | backupPowerApply
  | vbkpFall
  | supplyExcursion
  | temperatureAlarm (above10 : Bool)
  | clockMonitorFault (sentry : Bool)
  | xtal32Stop
  | pePerst
  | sorovChannelLock (k : Fin 4)
  | sorovChannelFail (k : Fin 4)
  | sorovChannelRetry (k : Fin 4)
  | heartbeatLost
  | heartSend
  | syncFrame (h : SovHead) (b : SyncBody)
  | syncMissing
  | stateFrame (h : SovHead) (b : StateBody)
  | paramFrame (h : SovHead) (b : ParamBody)
  | paramResend
  | heartFrame (h : SovHead) (b : HeartBody)
  | versionFrame (h : SovHead) (b : VersionBody)
  | repairTick
  | needFrame (h : SovHead) (l : NeedList)
  | pktFrame (h : SovHead) (b : PktBody)
  | swapCmd (h : SovHead) (c : SovCmd)
  | switchCmd (h : SovHead) (c : SovCmd)
  | switchAt (h : SovHead) (c : SovCmd)
  | stepCmd (h : SovHead) (c : SovCmd)
  | joinReq (h : SovHead) (c : SovCmd)
  | joinAck (h : SovHead) (c : SovCmd)
  | expressAt (h : SovHead) (c : SovCmd)
  | divergeCmd (h : SovHead) (c : SovCmd)
  | hostCmd (h : SovHead) (d : HostData)
  | presetCmd (h : SovHead) (c : SovCmd)
  | joinTransferComplete
  | catchupComplete
  | joinComplete
  | joinFail
  | divergenceTimeout
  | peerSample (health : BitVec 2) (take : BitVec 2)
  | twinTakeAssert
  | standbyTakeover
  | outputHandover
  | doorbell (m : BitVec 8) (lvl : BitVec 2) (v : Word)
  | mailboxRelease (m : BitVec 8) (lvl : BitVec 2) (v : Word)
  | commandTake (bad : LedgerBad) (pass : Bool)
  | irqPendClear (m : BitVec 8) (lvl : BitVec 2) (v : Word)
  | ringProducerWrite (m : BitVec 8) (lvl : BitVec 2) (r : Fin 8) (v : Word)
  | ringService (r : Fin 8) (e : EntryList) (ok : Bool)
  | pcieInboundWrite (bar2 : Bool) (off : BitVec 32) (bs : ByteList)
  | pcieInboundRead (bar2 : Bool) (off : BitVec 32) (n : BitVec 13)
  | qspiWrite (a : BitVec 24) (bs : ByteList)
  | qspiRead (a : BitVec 24) (n : BitVec 16)
  | qspiStatus (code : Byte)
  | getInfo (k : Fin 16) (b : ByteList)
  | getStatus (k : Fin 16) (b : ByteList)
  | resetCmd (k : Fin 16) (b : ByteList)
  | powerCmd (k : Fin 16) (b : ByteList)
  | regRead (k : Fin 16) (b : ByteList)
  | regWrite (k : Fin 16) (b : ByteList)
  | graphLoad (k : Fin 16) (b : ByteList)
  | graphSwitch (k : Fin 16) (b : ByteList)
  | graphAbort (k : Fin 16) (b : ByteList)
  | switchAbort (m : BitVec 8) (lvl : BitVec 2) (v : Word)
  | graphRelease (k : Fin 16) (b : ByteList)
  | graphStatus (k : Fin 16) (b : ByteList)
  | graphStop (k : Fin 16) (b : ByteList)
  | paramSet (k : Fin 16) (b : ByteList)
  | paramGet (k : Fin 16) (b : ByteList)
  | ringSetup (k : Fin 16) (b : ByteList)
  | ringStop (k : Fin 16) (b : ByteList)
  | meterSet (k : Fin 16) (b : ByteList)
  | meterRead (k : Fin 16) (b : ByteList)
  | faultFirst (k : Fin 16) (b : ByteList)
  | faultAck (k : Fin 16) (b : ByteList)
  | faultCfg (k : Fin 16) (b : ByteList)
  | countCfg (k : Fin 16) (b : ByteList)
  | faultPending (k : Fin 16) (b : ByteList)
  | faultDecide (k : Fin 16) (b : ByteList)
  | faultClear (k : Fin 16) (b : ByteList)
  | logRead (k : Fin 16) (b : ByteList)
  | logCompact (k : Fin 16) (b : ByteList) (bad : LedgerBad)
  | memWindow (k : Fin 16) (b : ByteList)
  | memCrc (k : Fin 16) (b : ByteList)
  | memStatus (k : Fin 16) (b : ByteList)
  | retirePage (k : Fin 16) (b : ByteList) (bad : LedgerBad)
  | repairRow (k : Fin 16) (b : ByteList) (bad : LedgerBad)
  | retireBank (k : Fin 16) (b : ByteList) (bad : LedgerBad)
  | marchCmd (k : Fin 16) (b : ByteList)
  | scrubRange (k : Fin 16) (b : ByteList)
  | depotPower (k : Fin 16) (b : ByteList)
  | fwProgram (k : Fin 16) (b : ByteList) (bad : LedgerBad)
  | fwStatus (k : Fin 16) (b : ByteList)
  | fwActivate (k : Fin 16) (b : ByteList)
  | prosalStart
  | optionWrite (k : Fin 16) (b : ByteList) (bad : LedgerBad)
  | optionLock (k : Fin 16) (b : ByteList)
  | hostdataRead (k : Fin 16) (b : ByteList)
  | hostdataWrite (k : Fin 16) (b : ByteList) (bad : LedgerBad)
  | twinCfg (k : Fin 16) (b : ByteList)
  | twinStatus (k : Fin 16) (b : ByteList)
  | twinSwap (k : Fin 16) (b : ByteList)
  | twinTake (k : Fin 16) (b : ByteList)
  | twinChoice (k : Fin 16) (b : ByteList)
  | twinJoin (k : Fin 16) (b : ByteList)
  | twinRelay (k : Fin 16) (b : ByteList)
  | twinRelayRead (k : Fin 16) (b : ByteList)
  | modeGet (k : Fin 16) (b : ByteList)
  | modeSet (k : Fin 16) (b : ByteList)
  | laneMove (k : Fin 16) (b : ByteList)
  | laneService (k : Fin 16) (b : ByteList) (pass : Bool)
  | clusterPin (k : Fin 16) (b : ByteList)
  | expressMove (k : Fin 16) (b : ByteList)
  | unlockNonce (k : Fin 16) (b : ByteList)
  | unlockHmac (k : Fin 16) (b : ByteList)
  | unlockPassword (k : Fin 16) (b : ByteList)
  | lockCmd (k : Fin 16) (b : ByteList)
  | keySet (k : Fin 16) (b : ByteList) (bad : LedgerBad)
  | clockCfg (k : Fin 16) (b : ByteList)
  | ptpCfg (k : Fin 16) (b : ByteList)
  | clockStatus (k : Fin 16) (b : ByteList)
  | servoInput (k : Fin 16) (b : ByteList)
  | blockPreset (k : Fin 16) (b : ByteList)
  | presetGo (m : BitVec 8) (lvl : BitVec 2) (v : Word)
  | netPortCfg (k : Fin 16) (b : ByteList)
  | rxStreamSet (k : Fin 16) (b : ByteList)
  | txStreamSet (k : Fin 16) (b : ByteList)
  | streamDelete (k : Fin 16) (b : ByteList)
  | concealChoice (k : Fin 16) (b : ByteList)
  | tdmCfg (k : Fin 16) (b : ByteList)
  | portRecal (k : Fin 16) (b : ByteList)
  | portStatus (k : Fin 16) (b : ByteList)
  | streamStatus (k : Fin 16) (b : ByteList)
  | unlockTimeout
  | bypassCmd
  | idcode
  | samplePreload (cells : ByteList)
  | extest
  | clampCmd
  | highz
  | dbgAccess (a : BitVec 40) (d : Word) (write : Bool)
  | haltCmd (m : BitVec 8) (lvl : BitVec 2) (c : Fin 19) (v : Word)
  | triadStep (m : BitVec 8) (lvl : BitVec 2) (c : Fin 19) (v : Word)
  | resumeCmd (m : BitVec 8) (lvl : BitVec 2) (c : Fin 19) (v : Word)
  | injectGo (m : BitVec 8) (lvl : BitVec 2) (v : Word)
  | breakGo (m : BitVec 8) (lvl : BitVec 2) (v : Word)
  | breakEnd
  | allOff (m : BitVec 8) (lvl : BitVec 2) (v : Word)
  | perturbationWrite (m : BitVec 8) (lvl : BitVec 2) (a : BitVec 22) (v : Word)
  | registerWrite (m : BitVec 8) (lvl : BitVec 2) (a : BitVec 22) (v : Word)
  | linkUp (k : Fin 4)
  | undefinedEncoding (t : TriadId) (w : Word)
  | testLogicReset
  | preMasterQualification (k : Fin 4)
  deriving DecidableEq, Repr

end Sys2Proof
end

