-- ==== Sys2Proof/Decode.lean ====
section
/-! DEFINITION. Decode.lean: the commands of this block are operations and events; the spec's table gives no row any bits, so no word
spells one. The instructions of a triad have words all the same (R75 to R77, R132 to R136): what a triad reads from a word, and the word of
each instruction. -/
namespace Sys2Proof

/-- The command a word spells by the table's bits: none, since the table gives none. -/
def decodeTableWord (_nbits _w : Nat) : Option Instr := none

/-! ## Fields of a word (R75, R132) -/

/-- The `n` bits of `w` from bit `lo` on. -/
def bitsAt (w lo n : Nat) : Nat := w / 2 ^ lo % 2 ^ n

/-- A register field from bit `lo` on. -/
def regAt (w lo : Nat) : Reg := BitVec.ofNat 5 (bitsAt w lo 5)

/-- The fields of the VR format. -/
def vrAt (w : Nat) : VR :=
  { vd := regAt w 21, vs1 := regAt w 16, vs2 := regAt w 11, pg := BitVec.ofNat 3 (bitsAt w 8 3), z := bitsAt w 7 1 = 1,
    ty := BitVec.ofNat 2 (bitsAt w 5 2) }

/-- The fields of the VM format but its mode. -/
def vmAt (w : Nat) : VM :=
  { vt := regAt w 21, gb := regAt w 16, ix := regAt w 11, pg := BitVec.ofNat 3 (bitsAt w 8 3), ff := bitsAt w 7 1 = 1,
    ty := BitVec.ofNat 2 (bitsAt w 5 2), sc := BitVec.ofNat 2 (bitsAt w 3 2) }

/-! ## The tables of R76, R77, R134 to R136 -/

/-- R-format instructions with three registers: major, func. -/
def tripleRows : List (Nat × Nat × (TriadId → Reg → Reg → Reg → Instr)) :=
  [(0x00, 0x00, .add), (0x00, 0x01, .sub), (0x00, 0x02, .andCmd), (0x00, 0x03, .orCmd), (0x00, 0x04, .xorCmd), (0x00, 0x05, .shl),
   (0x00, 0x06, .shr), (0x00, 0x07, .sar), (0x00, 0x08, .setlt), (0x00, 0x09, .setltU), (0x00, 0x0A, .minCmd), (0x00, 0x0B, .maxCmd),
   (0x00, 0x0C, .minU), (0x00, 0x0D, .maxU), (0x00, 0x10, .addW), (0x00, 0x11, .subW), (0x00, 0x15, .shlW), (0x00, 0x16, .shrW),
   (0x00, 0x17, .sarW), (0x01, 0x00, .mul), (0x01, 0x01, .mulHs), (0x01, 0x02, .mulHu), (0x01, 0x03, .mulW), (0x01, 0x08, .div),
   (0x01, 0x09, .divU), (0x01, 0x0A, .rem), (0x01, 0x0B, .remU), (0x02, 0x03, .rol), (0x02, 0x04, .ror), (0x1C, 0x00, .aaddW),
   (0x1C, 0x01, .aaddD), (0x1C, 0x02, .aswpW), (0x1C, 0x03, .aswpD), (0x1D, 0x00, .bmove), (0x1D, 0x01, .bfill), (0x1D, 0x02, .bcrc)]

/-- R-format instructions of major 0x02 that require rs2 = g0: func. -/
def pairRows : List (Nat × (TriadId → Reg → Reg → Instr)) :=
  [(0x00, .clz), (0x01, .ctz), (0x02, .bitcnt), (0x05, .byterev), (0x06, .sextB), (0x07, .sextH), (0x08, .sextW)]

/-- Instructions with two register fields and 16 bits (formats I, S, B and QM), operands in the order of the fields: major. -/
def immRows : List (Nat × (TriadId → Reg → Reg → Imm16 → Instr)) :=
  [(0x04, .addi), (0x05, .andi), (0x06, .ori), (0x07, .xori), (0x08, .setlti), (0x09, .setltiU), (0x0B, .shin), (0x0C, .pcadd),
   (0x10, .ldB), (0x11, .ldBu), (0x12, .ldH), (0x13, .ldHu), (0x14, .ldW), (0x15, .ldWu), (0x16, .ldD), (0x18, .stB), (0x19, .stH),
   (0x1A, .stW), (0x1B, .stD), (0x20, .beq), (0x21, .bne), (0x22, .blt), (0x23, .bge), (0x24, .bltU), (0x25, .bgeU), (0x34, .qld),
   (0x35, .qst)]

/-- Shifts by immediate, major 0x0A: imm16[7:6]. -/
def shiftRows : List (Nat × (TriadId → Reg → Reg → Sh6 → Instr)) := [(0, .shli), (1, .shri), (2, .sari)]

/-- System instructions whose fields g and n12 are 0: sub. -/
def systemRows : List (Nat × (TriadId → Instr)) :=
  [(0x02, .syncC), (0x03, .syncI), (0x04, .syncM), (0x05, .eret), (0x08, .waitCmd), (0x09, .breakCmd)]

/-- VR-format instructions: major, func. -/
def vrRows : List (Nat × Nat × (TriadId → VR → Instr)) :=
  [(0x38, 0x00, .vadd), (0x38, 0x01, .vsub), (0x38, 0x02, .vsadd), (0x38, 0x03, .vssub), (0x38, 0x04, .vmul), (0x38, 0x05, .vmulh),
   (0x38, 0x06, .vmin), (0x38, 0x07, .vmax), (0x38, 0x08, .vabs), (0x38, 0x09, .vneg), (0x38, 0x0A, .vand), (0x38, 0x0B, .vor),
   (0x38, 0x0C, .vxor), (0x38, 0x0D, .vnot), (0x38, 0x0E, .vshl), (0x38, 0x0F, .vshr), (0x38, 0x10, .vsra), (0x38, 0x11, .vshli),
   (0x38, 0x12, .vshri), (0x38, 0x13, .vsrai), (0x38, 0x14, .vsel), (0x38, 0x15, .vmov), (0x39, 0x00, .vfadd), (0x39, 0x01, .vfsub),
   (0x39, 0x02, .vfmul), (0x39, 0x03, .vfma), (0x39, 0x04, .vfms), (0x39, 0x05, .vfmin), (0x39, 0x06, .vfmax), (0x39, 0x07, .vfabs),
   (0x39, 0x08, .vfneg), (0x39, 0x09, .vcvtfq), (0x39, 0x0A, .vcvtqf), (0x39, 0x0B, .vcvtfi), (0x39, 0x0C, .vcvtif), (0x3A, 0x00, .vcmpeq),
   (0x3A, 0x01, .vcmpne), (0x3A, 0x02, .vcmplt), (0x3A, 0x03, .vcmple), (0x3A, 0x04, .vcmpltu), (0x3A, 0x05, .vcmpleu),
   (0x3A, 0x08, .pand), (0x3A, 0x09, .por), (0x3A, 0x0A, .pxor), (0x3A, 0x0B, .pandn), (0x3A, 0x0C, .plimit), (0x3B, 0x00, .vsplat),
   (0x3B, 0x01, .vextr), (0x3B, 0x02, .vins), (0x3B, 0x03, .vperm), (0x3B, 0x04, .vrev), (0x3B, 0x05, .vslide), (0x3B, 0x06, .vweavl),
   (0x3B, 0x07, .vweavh), (0x3B, 0x08, .vsplite), (0x3B, 0x09, .vsplito), (0x3B, 0x0A, .vwidl), (0x3B, 0x0B, .vwidh), (0x3B, 0x0C, .vnarr),
   (0x3B, 0x0D, .vrsum), (0x3B, 0x0E, .vrmin), (0x3B, 0x0F, .vrmax), (0x3E, 0x00, .vmac), (0x3E, 0x01, .vmsc), (0x3E, 0x02, .vzaclr),
   (0x3E, 0x03, .vzard), (0x3E, 0x04, .vzawr), (0x3E, 0x05, .vzamvl), (0x3E, 0x06, .vzamvh), (0x3E, 0x07, .vzars), (0x3F, 0x00, .ffarm),
   (0x3F, 0x01, .ffread), (0x3F, 0x02, .ptally), (0x3F, 0x03, .pmovg), (0x3F, 0x04, .gmovp), (0x3F, 0x05, .vzero), (0x32, 0x06, .qbsel),
   (0x36, 0x00, .qmovg), (0x36, 0x01, .gmovq)]

/-- Short-vector classes: major, the funcs it defines. -/
def svRows : List (Nat × (Nat → Bool) × (TriadId → SV → Instr)) :=
  [(0x30, fun f => f ≤ 0x13 || f = 0x15, .shortVectorIntegerOp), (0x31, fun f => f ≤ 0x0C, .shortVectorFp32Op),
   (0x32, fun f => f ≤ 0x05, .shortVectorCompare), (0x33, fun f => f ≤ 0x0F, .shortVectorPermute)]

/-- VM-format instructions: major, mode. -/
def vmRows : List (Nat × Nat × (TriadId → VM → Instr)) :=
  [(0x3C, 0, .vld), (0x3C, 1, .vldP), (0x3C, 2, .vldS), (0x3C, 3, .vldX), (0x3C, 4, .vldR),
   (0x3D, 0, .vst), (0x3D, 1, .vstP), (0x3D, 2, .vstS), (0x3D, 3, .vstX), (0x3D, 4, .vstR)]

/-! ## Reading a word -/

/-- An R-format word: the reserved bits are 0, and rs2 is g0 where the instruction requires it. -/
def decodeR (t : TriadId) (w : Nat) : Option Instr :=
  let m := bitsAt w 26 6
  let f := bitsAt w 0 6
  if bitsAt w 6 5 ≠ 0 then none
  else match tripleRows.find? fun r => r.1 = m && r.2.1 = f with
    | some r => some (r.2.2 t (regAt w 21) (regAt w 16) (regAt w 11))
    | none =>
      if m = 0x02 && bitsAt w 11 5 = 0 then (pairRows.find? fun r => r.1 = f).map fun r => r.2 t (regAt w 21) (regAt w 16)
      else if m = 0x2B && bitsAt w 21 5 = 0 && bitsAt w 11 5 = 0 then
        if f = 0 then some (.jr t (regAt w 16))
        else if f = 1 then some (.callr t (regAt w 16))
        else if f = 2 && bitsAt w 16 5 = 0 then some (.ret t)
        else none
      else none

/-- A C-format word: bits [3:0] are 0, and g and n12 where the instruction requires it. -/
def decodeC (t : TriadId) (w : Nat) : Option Instr :=
  let g := regAt w 21
  let n : N12 := BitVec.ofNat 12 (bitsAt w 4 12)
  if bitsAt w 0 4 ≠ 0 then none
  else match bitsAt w 16 5 with
    | 0x00 => some (.mfc t g n)
    | 0x01 => some (.mtc t g n)
    | 0x06 => if g = 0 then some (.srvc t n) else none
    | 0x07 => if g = 0 then some (.waymark t n) else none
    | sub => if g = 0 && n = 0 then (systemRows.find? fun r => r.1 = sub).map fun r => r.2 t else none

/-- A VR-format or VM-format word; the supervisor triad has no long-vector unit (R76). -/
def decodeV (t : TriadId) (w : Nat) : Option Instr :=
  let m := bitsAt w 26 6
  let f := bitsAt w 0 5
  if 0x38 ≤ m && t.val = 0 then none
  else match vrRows.find? fun r => r.1 = m && r.2.1 = f with
    | some r => some (r.2.2 t (vrAt w))
    | none => match svRows.find? fun r => r.1 = m && r.2.1 f with
      | some r => some (r.2.2 t ⟨BitVec.ofNat 5 f, vrAt w⟩)
      | none => (vmRows.find? fun r => r.1 = m && r.2.1 = bitsAt w 0 3).map fun r => r.2.2 t (vmAt w)

/-- The instruction triad `t` reads from a word; none for an undefined encoding (R76). Values that an instruction's own rules refuse
(R92, R133) are its meaning's to refuse. -/
def decodeWord (t : TriadId) (w : Nat) : Option Instr :=
  let m := bitsAt w 26 6
  let imm : Imm16 := BitVec.ofNat 16 (bitsAt w 0 16)
  match immRows.find? fun r => r.1 = m with
  | some r => some (r.2 t (regAt w 21) (regAt w 16) imm)
  | none =>
    if m = 0x0A then
      if bitsAt w 8 8 ≠ 0 then none
      else (shiftRows.find? fun r => r.1 = bitsAt w 6 2).map fun r => r.2 t (regAt w 21) (regAt w 16) (BitVec.ofNat 6 (bitsAt w 0 6))
    else if m = 0x28 then some (.j t (BitVec.ofNat 26 (bitsAt w 0 26)))
    else if m = 0x29 then some (.call t (BitVec.ofNat 26 (bitsAt w 0 26)))
    else if m = 0x2A then decodeC t w
    else if 0x30 ≤ m then decodeV t w
    else decodeR t w

/-- Whether a word is an instruction of triad `t`. -/
def definedWord (t : TriadId) (w : Word) : Bool := (decodeWord t w.toNat).isSome

/-! ## The word of an instruction -/

def wordR (m f : Nat) (rd rs1 rs2 : Reg) : Nat := m * 2 ^ 26 + rd.toNat * 2 ^ 21 + rs1.toNat * 2 ^ 16 + rs2.toNat * 2 ^ 11 + f
def wordI (m : Nat) (a b : Reg) (imm : Imm16) : Nat := m * 2 ^ 26 + a.toNat * 2 ^ 21 + b.toNat * 2 ^ 16 + imm.toNat
def wordC (sub : Nat) (g : Reg) (n : N12) : Nat := 0x2A * 2 ^ 26 + g.toNat * 2 ^ 21 + sub * 2 ^ 16 + n.toNat * 2 ^ 4
def wordV (m f : Nat) (o : VR) : Nat :=
  m * 2 ^ 26 + o.vd.toNat * 2 ^ 21 + o.vs1.toNat * 2 ^ 16 + o.vs2.toNat * 2 ^ 11 + o.pg.toNat * 2 ^ 8 + (if o.z then 2 ^ 7 else 0) +
    o.ty.toNat * 2 ^ 5 + f
def wordM (m mode : Nat) (o : VM) : Nat :=
  m * 2 ^ 26 + o.vt.toNat * 2 ^ 21 + o.gb.toNat * 2 ^ 16 + o.ix.toNat * 2 ^ 11 + o.pg.toNat * 2 ^ 8 + (if o.ff then 2 ^ 7 else 0) +
    o.ty.toNat * 2 ^ 5 + o.sc.toNat * 2 ^ 3 + mode

/-- The triad and the word of an instruction; none for a command that is no instruction. A short-vector instruction of an undefined func
has a word too, which decodes to nothing. -/
def encodeWord : Instr → Option (TriadId × Nat)
  | .add t a b c => some (t, wordR 0x00 0x00 a b c)
  | .sub t a b c => some (t, wordR 0x00 0x01 a b c)
  | .andCmd t a b c => some (t, wordR 0x00 0x02 a b c)
  | .orCmd t a b c => some (t, wordR 0x00 0x03 a b c)
  | .xorCmd t a b c => some (t, wordR 0x00 0x04 a b c)
  | .shl t a b c => some (t, wordR 0x00 0x05 a b c)
  | .shr t a b c => some (t, wordR 0x00 0x06 a b c)
  | .sar t a b c => some (t, wordR 0x00 0x07 a b c)
  | .setlt t a b c => some (t, wordR 0x00 0x08 a b c)
  | .setltU t a b c => some (t, wordR 0x00 0x09 a b c)
  | .minCmd t a b c => some (t, wordR 0x00 0x0A a b c)
  | .maxCmd t a b c => some (t, wordR 0x00 0x0B a b c)
  | .minU t a b c => some (t, wordR 0x00 0x0C a b c)
  | .maxU t a b c => some (t, wordR 0x00 0x0D a b c)
  | .addW t a b c => some (t, wordR 0x00 0x10 a b c)
  | .subW t a b c => some (t, wordR 0x00 0x11 a b c)
  | .shlW t a b c => some (t, wordR 0x00 0x15 a b c)
  | .shrW t a b c => some (t, wordR 0x00 0x16 a b c)
  | .sarW t a b c => some (t, wordR 0x00 0x17 a b c)
  | .mul t a b c => some (t, wordR 0x01 0x00 a b c)
  | .mulHs t a b c => some (t, wordR 0x01 0x01 a b c)
  | .mulHu t a b c => some (t, wordR 0x01 0x02 a b c)
  | .mulW t a b c => some (t, wordR 0x01 0x03 a b c)
  | .div t a b c => some (t, wordR 0x01 0x08 a b c)
  | .divU t a b c => some (t, wordR 0x01 0x09 a b c)
  | .rem t a b c => some (t, wordR 0x01 0x0A a b c)
  | .remU t a b c => some (t, wordR 0x01 0x0B a b c)
  | .rol t a b c => some (t, wordR 0x02 0x03 a b c)
  | .ror t a b c => some (t, wordR 0x02 0x04 a b c)
  | .aaddW t a b c => some (t, wordR 0x1C 0x00 a b c)
  | .aaddD t a b c => some (t, wordR 0x1C 0x01 a b c)
  | .aswpW t a b c => some (t, wordR 0x1C 0x02 a b c)
  | .aswpD t a b c => some (t, wordR 0x1C 0x03 a b c)
  | .bmove t a b c => some (t, wordR 0x1D 0x00 a b c)
  | .bfill t a b c => some (t, wordR 0x1D 0x01 a b c)
  | .bcrc t a b c => some (t, wordR 0x1D 0x02 a b c)
  | .clz t a b => some (t, wordR 0x02 0x00 a b 0)
  | .ctz t a b => some (t, wordR 0x02 0x01 a b 0)
  | .bitcnt t a b => some (t, wordR 0x02 0x02 a b 0)
  | .byterev t a b => some (t, wordR 0x02 0x05 a b 0)
  | .sextB t a b => some (t, wordR 0x02 0x06 a b 0)
  | .sextH t a b => some (t, wordR 0x02 0x07 a b 0)
  | .sextW t a b => some (t, wordR 0x02 0x08 a b 0)
  | .addi t a b i => some (t, wordI 0x04 a b i)
  | .andi t a b i => some (t, wordI 0x05 a b i)
  | .ori t a b i => some (t, wordI 0x06 a b i)
  | .xori t a b i => some (t, wordI 0x07 a b i)
  | .setlti t a b i => some (t, wordI 0x08 a b i)
  | .setltiU t a b i => some (t, wordI 0x09 a b i)
  | .shin t a b i => some (t, wordI 0x0B a b i)
  | .pcadd t a b i => some (t, wordI 0x0C a b i)
  | .ldB t a b i => some (t, wordI 0x10 a b i)
  | .ldBu t a b i => some (t, wordI 0x11 a b i)
  | .ldH t a b i => some (t, wordI 0x12 a b i)
  | .ldHu t a b i => some (t, wordI 0x13 a b i)
  | .ldW t a b i => some (t, wordI 0x14 a b i)
  | .ldWu t a b i => some (t, wordI 0x15 a b i)
  | .ldD t a b i => some (t, wordI 0x16 a b i)
  | .stB t a b i => some (t, wordI 0x18 a b i)
  | .stH t a b i => some (t, wordI 0x19 a b i)
  | .stW t a b i => some (t, wordI 0x1A a b i)
  | .stD t a b i => some (t, wordI 0x1B a b i)
  | .beq t a b i => some (t, wordI 0x20 a b i)
  | .bne t a b i => some (t, wordI 0x21 a b i)
  | .blt t a b i => some (t, wordI 0x22 a b i)
  | .bge t a b i => some (t, wordI 0x23 a b i)
  | .bltU t a b i => some (t, wordI 0x24 a b i)
  | .bgeU t a b i => some (t, wordI 0x25 a b i)
  | .qld t a b i => some (t, wordI 0x34 a b i)
  | .qst t a b i => some (t, wordI 0x35 a b i)
  | .shli t a b i => some (t, wordI 0x0A a b (BitVec.ofNat 16 (0 + i.toNat)))
  | .shri t a b i => some (t, wordI 0x0A a b (BitVec.ofNat 16 (64 + i.toNat)))
  | .sari t a b i => some (t, wordI 0x0A a b (BitVec.ofNat 16 (128 + i.toNat)))
  | .j t i => some (t, 0x28 * 2 ^ 26 + i.toNat)
  | .call t i => some (t, 0x29 * 2 ^ 26 + i.toNat)
  | .jr t b => some (t, wordR 0x2B 0x00 0 b 0)
  | .callr t b => some (t, wordR 0x2B 0x01 0 b 0)
  | .ret t => some (t, wordR 0x2B 0x02 0 0 0)
  | .mfc t g n => some (t, wordC 0x00 g n)
  | .mtc t g n => some (t, wordC 0x01 g n)
  | .syncC t => some (t, wordC 0x02 0 0)
  | .syncI t => some (t, wordC 0x03 0 0)
  | .syncM t => some (t, wordC 0x04 0 0)
  | .eret t => some (t, wordC 0x05 0 0)
  | .srvc t n => some (t, wordC 0x06 0 n)
  | .waymark t n => some (t, wordC 0x07 0 n)
  | .waitCmd t => some (t, wordC 0x08 0 0)
  | .breakCmd t => some (t, wordC 0x09 0 0)
  | .vadd t o => some (t, wordV 0x38 0x00 o)
  | .vsub t o => some (t, wordV 0x38 0x01 o)
  | .vsadd t o => some (t, wordV 0x38 0x02 o)
  | .vssub t o => some (t, wordV 0x38 0x03 o)
  | .vmul t o => some (t, wordV 0x38 0x04 o)
  | .vmulh t o => some (t, wordV 0x38 0x05 o)
  | .vmin t o => some (t, wordV 0x38 0x06 o)
  | .vmax t o => some (t, wordV 0x38 0x07 o)
  | .vabs t o => some (t, wordV 0x38 0x08 o)
  | .vneg t o => some (t, wordV 0x38 0x09 o)
  | .vand t o => some (t, wordV 0x38 0x0A o)
  | .vor t o => some (t, wordV 0x38 0x0B o)
  | .vxor t o => some (t, wordV 0x38 0x0C o)
  | .vnot t o => some (t, wordV 0x38 0x0D o)
  | .vshl t o => some (t, wordV 0x38 0x0E o)
  | .vshr t o => some (t, wordV 0x38 0x0F o)
  | .vsra t o => some (t, wordV 0x38 0x10 o)
  | .vshli t o => some (t, wordV 0x38 0x11 o)
  | .vshri t o => some (t, wordV 0x38 0x12 o)
  | .vsrai t o => some (t, wordV 0x38 0x13 o)
  | .vsel t o => some (t, wordV 0x38 0x14 o)
  | .vmov t o => some (t, wordV 0x38 0x15 o)
  | .vfadd t o => some (t, wordV 0x39 0x00 o)
  | .vfsub t o => some (t, wordV 0x39 0x01 o)
  | .vfmul t o => some (t, wordV 0x39 0x02 o)
  | .vfma t o => some (t, wordV 0x39 0x03 o)
  | .vfms t o => some (t, wordV 0x39 0x04 o)
  | .vfmin t o => some (t, wordV 0x39 0x05 o)
  | .vfmax t o => some (t, wordV 0x39 0x06 o)
  | .vfabs t o => some (t, wordV 0x39 0x07 o)
  | .vfneg t o => some (t, wordV 0x39 0x08 o)
  | .vcvtfq t o => some (t, wordV 0x39 0x09 o)
  | .vcvtqf t o => some (t, wordV 0x39 0x0A o)
  | .vcvtfi t o => some (t, wordV 0x39 0x0B o)
  | .vcvtif t o => some (t, wordV 0x39 0x0C o)
  | .vcmpeq t o => some (t, wordV 0x3A 0x00 o)
  | .vcmpne t o => some (t, wordV 0x3A 0x01 o)
  | .vcmplt t o => some (t, wordV 0x3A 0x02 o)
  | .vcmple t o => some (t, wordV 0x3A 0x03 o)
  | .vcmpltu t o => some (t, wordV 0x3A 0x04 o)
  | .vcmpleu t o => some (t, wordV 0x3A 0x05 o)
  | .pand t o => some (t, wordV 0x3A 0x08 o)
  | .por t o => some (t, wordV 0x3A 0x09 o)
  | .pxor t o => some (t, wordV 0x3A 0x0A o)
  | .pandn t o => some (t, wordV 0x3A 0x0B o)
  | .plimit t o => some (t, wordV 0x3A 0x0C o)
  | .vsplat t o => some (t, wordV 0x3B 0x00 o)
  | .vextr t o => some (t, wordV 0x3B 0x01 o)
  | .vins t o => some (t, wordV 0x3B 0x02 o)
  | .vperm t o => some (t, wordV 0x3B 0x03 o)
  | .vrev t o => some (t, wordV 0x3B 0x04 o)
  | .vslide t o => some (t, wordV 0x3B 0x05 o)
  | .vweavl t o => some (t, wordV 0x3B 0x06 o)
  | .vweavh t o => some (t, wordV 0x3B 0x07 o)
  | .vsplite t o => some (t, wordV 0x3B 0x08 o)
  | .vsplito t o => some (t, wordV 0x3B 0x09 o)
  | .vwidl t o => some (t, wordV 0x3B 0x0A o)
  | .vwidh t o => some (t, wordV 0x3B 0x0B o)
  | .vnarr t o => some (t, wordV 0x3B 0x0C o)
  | .vrsum t o => some (t, wordV 0x3B 0x0D o)
  | .vrmin t o => some (t, wordV 0x3B 0x0E o)
  | .vrmax t o => some (t, wordV 0x3B 0x0F o)
  | .vmac t o => some (t, wordV 0x3E 0x00 o)
  | .vmsc t o => some (t, wordV 0x3E 0x01 o)
  | .vzaclr t o => some (t, wordV 0x3E 0x02 o)
  | .vzard t o => some (t, wordV 0x3E 0x03 o)
  | .vzawr t o => some (t, wordV 0x3E 0x04 o)
  | .vzamvl t o => some (t, wordV 0x3E 0x05 o)
  | .vzamvh t o => some (t, wordV 0x3E 0x06 o)
  | .vzars t o => some (t, wordV 0x3E 0x07 o)
  | .ffarm t o => some (t, wordV 0x3F 0x00 o)
  | .ffread t o => some (t, wordV 0x3F 0x01 o)
  | .ptally t o => some (t, wordV 0x3F 0x02 o)
  | .pmovg t o => some (t, wordV 0x3F 0x03 o)
  | .gmovp t o => some (t, wordV 0x3F 0x04 o)
  | .vzero t o => some (t, wordV 0x3F 0x05 o)
  | .qbsel t o => some (t, wordV 0x32 0x06 o)
  | .qmovg t o => some (t, wordV 0x36 0x00 o)
  | .gmovq t o => some (t, wordV 0x36 0x01 o)
  | .shortVectorIntegerOp t w => some (t, wordV 0x30 w.func.toNat w.o)
  | .shortVectorFp32Op t w => some (t, wordV 0x31 w.func.toNat w.o)
  | .shortVectorCompare t w => some (t, wordV 0x32 w.func.toNat w.o)
  | .shortVectorPermute t w => some (t, wordV 0x33 w.func.toNat w.o)
  | .vld t o => some (t, wordM 0x3C 0 o)
  | .vst t o => some (t, wordM 0x3D 0 o)
  | .vldP t o => some (t, wordM 0x3C 1 o)
  | .vstP t o => some (t, wordM 0x3D 1 o)
  | .vldS t o => some (t, wordM 0x3C 2 o)
  | .vstS t o => some (t, wordM 0x3D 2 o)
  | .vldX t o => some (t, wordM 0x3C 3 o)
  | .vstX t o => some (t, wordM 0x3D 3 o)
  | .vldR t o => some (t, wordM 0x3C 4 o)
  | .vstR t o => some (t, wordM 0x3D 4 o)
  | _ => none

end Sys2Proof
end

