-- ==== Sys2Proof/Config.lean ====
section
/-! DEFINITION. Config.lean: what the spec leaves open and each part fixes. Every constant is opaque: no proof can see
a value, so a statement holds whatever the part's value is. -/
namespace Sys2Proof.Config

/-- A fresh free value, drawn with the counter State.drawn: nonces, entropy, values the spec calls undisclosed. -/
opaque fresh : Nat → BitVec 64
/-- The bytes of the boot ROM the spec does not disclose (R485). -/
opaque romByte : Nat → Byte
/-- The bytes of the Ledger as shipped that the spec does not disclose (R484). -/
opaque ledgerByte : Nat → Byte
/-- The device's serial number (R479). -/
opaque serial : BitVec 64
/-- ID.GRADE.INDUSTRIAL (R479). -/
opaque industrial : Bool

/-- Whether an FP32 result that is tiny before rounding and rounds up to the least normal number counts as tiny (R130 and
the VXSTAT table do not say). -/
opaque tinyAtBoundary : Bool
/-- Whether 0 × ∞ added to a quiet NaN sets FINV (R130 does not say). -/
opaque fmaNanInvalid : Bool
/-- Whether VCVTFI of a quiet NaN sets FINV (R134 says it for VCVTFQ alone). -/
opaque cvtNanInvalid : Bool

/-- Whether an ECDSA P-256 signature (64 bytes) verifies over a message under the Oryuth public key, which the spec does
not disclose (R275, R353). -/
opaque signatureGood : List Byte → List Byte → Bool

/-- Coefficients of a half-band rate adapter's stage at a distance from the middle tap, 0 and the odd distances up to 31, and their fraction
bits (R183 fixes the filter's shape and not its coefficients). -/
opaque halfCoef : Nat → Int
opaque halfFrac : Nat
/-- Scratchpad address at which the engine places the code of a partition: the physical lane, 2 × partition + 0 or 1 for the two areas
that running and staged images take in turn (R65 fixes no address). -/
opaque codeBase : Nat → Nat → Nat
/-- Scratchpad addresses of a partition's other areas: physical lane, the same key, kind of area (State.areaAt names them; R45 gives
their total size alone). -/
opaque areaBase : Nat → Nat → Nat → Nat

/-- The servo's filtered offset in ns from the bandwidth code of MCK.CTRL.PTP_BW, the filtered offset before and a new sample
(R226 fixes the loop's bandwidth and not its filter). -/
opaque ptpFilter : Nat → Int → Int → Int
/-- DRAM address of the join area of a logical lane (R393 does not say). -/
opaque joinArea : Nat → Nat

/-- The check byte of a DRAM word, by its address and value (R260 fixes properties of the code and not its matrix). -/
opaque dramCheck : Nat → Nat → Byte
/-- The unused bytes of a raw DRAM page: sub-channel, page, offset (R259). -/
opaque dramSpare : Nat → Nat → Nat → Byte

end Sys2Proof.Config
end

