-- ==== Sys2Proof/Machine/Flags.lean ====
section
/-! DEFINITION. Machine/Flags.lean: the sticky flags of VXSTAT, and the rounding and saturation that set them (R129, R130
and the VXSTAT table). -/
namespace Sys2Proof.Machine

/-- The sticky flags of VXSTAT. -/
structure VFlags where
  sat : Bool := false
  finx : Bool := false
  funf : Bool := false
  fovf : Bool := false
  finv : Bool := false
  deriving DecidableEq, Repr

/-- Both sets of flags. -/
def VFlags.join (a b : VFlags) : VFlags :=
  ⟨a.sat || b.sat, a.finx || b.finx, a.funf || b.funf, a.fovf || b.fovf, a.finv || b.finv⟩

/-- The flags at their places in VXSTAT: SAT 14, FINX 13, FUNF 12, FOVF 11, FINV 10. -/
def VFlags.bits (f : VFlags) : BitVec 64 :=
  (if f.sat then 0x4000 else 0) ||| (if f.finx then 0x2000 else 0) ||| (if f.funf then 0x1000 else 0) |||
    (if f.fovf then 0x800 else 0) ||| (if f.finv then 0x400 else 0)

/-- An e-bit pattern as a two's-complement integer. -/
def sgn (e v : Nat) : Int := if 2 ^ (e - 1) ≤ v % 2 ^ e then (v % 2 ^ e : Int) - 2 ^ e else (v % 2 ^ e : Int)

/-- An integer as an e-bit pattern, wrapping. -/
def unsgn (e : Nat) (i : Int) : Nat := (i % (2 ^ e : Int)).toNat

/-- An integer clipped to e bits; SAT when it was clipped (R129). -/
def satE (e : Nat) (i : Int) : Nat × VFlags :=
  if i < -(2 ^ (e - 1) : Int) then (2 ^ (e - 1), { sat := true })
  else if (2 ^ (e - 1) : Int) ≤ i then (2 ^ (e - 1) - 1, { sat := true })
  else (unsgn e i, {})

/-- Drop the low `k` bits of a magnitude under a rounding of VCFG.FRM, for a value of sign `neg`; true when bits were
lost. -/
def roundMag (frm : Nat) (neg : Bool) (m k : Nat) : Nat × Bool :=
  let q := m / 2 ^ k
  let r := m % 2 ^ k
  let up : Bool := match frm with
    | 0 => decide (2 ^ k < 2 * r) || (decide (2 * r = 2 ^ k) && q % 2 = 1)
    | 1 => false
    | 2 => neg && r != 0
    | _ => !neg && r != 0
  (if up then q + 1 else q, r != 0)

/-- VCFG.QRND as a rounding of FRM: to nearest even, or toward −∞. -/
def qrndFrm (qrnd : Nat) : Nat := if qrnd = 0 then 0 else 2

/-- An integer shifted right by `k` bits, rounded under a rounding of FRM. -/
def roundShift (frm : Nat) (i : Int) (k : Nat) : Int :=
  let m := (roundMag frm (decide (i < 0)) i.natAbs k).1
  if i < 0 then -(m : Int) else (m : Int)

/-- Saturate to Q1.31. -/
def q31 (i : Int) : Word := BitVec.ofInt 32 (max (-(2 ^ 31)) (min i (2 ^ 31 - 1)))

/-- An exact product or sum, rounded once to nearest with ties to even and saturated to Q1.31. -/
def q31Round (i : Int) (k : Nat) : Word := q31 (roundShift 0 i k)

end Sys2Proof.Machine
end

