-- ==== Sys2Proof/Machine/Crypto.lean ====
section
/-! DEFINITION. Machine/Crypto.lean: the checksums and digests the spec names: CRC-32C (R93), SHA-256 and HMAC-SHA-256
(R43, R275, R439, R440; FIPS 180-4 and FIPS 198-1). -/
namespace Sys2Proof.Machine

/-! ## CRC-32C -/

/-- One bit of the reflected CRC-32C. -/
def crcBit (c : Word) : Word := if c.getLsbD 0 then (c >>> 1) ^^^ 0x82F63B78 else c >>> 1

/-- One byte. -/
def crcByte (c : Word) (b : Byte) : Word :=
  let x := c ^^^ b.setWidth 32
  crcBit (crcBit (crcBit (crcBit (crcBit (crcBit (crcBit (crcBit x)))))))

/-- BCRC's update over bytes: no initial value, no final XOR. -/
def crcUpdate (c : Word) (bs : List Byte) : Word := bs.foldl crcByte c

/-- The CRC-32C of the manual: initial value and final XOR all ones. -/
def crc32c (bs : List Byte) : Word := crcUpdate 0xFFFFFFFF bs ^^^ 0xFFFFFFFF

/-! ## SHA-256 -/

/-- The integer k-th root of `v` below 2^n, added bit by bit to `r`. -/
def rootBits (k v : Nat) : Nat → Nat → Nat
  | 0, r => r
  | n + 1, r => rootBits k v n (if (r + 2 ^ n) ^ k ≤ v then r + 2 ^ n else r)

/-- The first 32 bits of the fraction of a k-th root: the constants of FIPS 180-4. -/
def rootFraction (k p : Nat) : Word := BitVec.ofNat 32 (rootBits k (p * 2 ^ (32 * k)) 36 0)

/-- The first 64 primes. -/
def shaPrimes : List Nat :=
  [2, 3, 5, 7, 11, 13, 17, 19, 23, 29, 31, 37, 41, 43, 47, 53, 59, 61, 67, 71, 73, 79] ++
    [83, 89, 97, 101, 103, 107, 109, 113, 127, 131, 137, 139, 149, 151, 157, 163, 167, 173, 179, 181, 191] ++
    [193, 197, 199, 211, 223, 227, 229, 233, 239, 241, 251, 257, 263, 269, 271, 277, 281, 283, 293, 307, 311]

/-- The XOR of three right rotations. -/
def rotations (i j k : Nat) (x : Word) : Word := x.rotateRight i ^^^ x.rotateRight j ^^^ x.rotateRight k

/-- Right rotations by `i` and `j` with a shift by `k`. -/
def rotationsShift (i j k : Nat) (x : Word) : Word := x.rotateRight i ^^^ x.rotateRight j ^^^ (x >>> k)

/-- One round of the eight working words on the sum of its constant and its schedule word. -/
def shaRound : List Word → Word → List Word
  | [a, b, c, d, e, f, g, h], x =>
    let t := h + rotations 6 11 25 e + (g ^^^ (e &&& (f ^^^ g))) + x
    [t + rotations 2 13 22 a + ((a &&& b) ||| (c &&& (a ||| b))), a, b, c, d + t, e, f, g]
  | l, _ => l

/-- The rounds of a chunk: `ws` holds the next sixteen schedule words, and each round appends the one sixteen on. -/
def shaRounds : List Word → List Word → List Word → List Word
  | [], _, s => s
  | k :: ks, ws, s =>
    let w := fun i => ws.getD i 0
    shaRounds ks (ws.drop 1 ++ [w 0 + rotationsShift 7 18 3 (w 1) + w 9 + rotationsShift 17 19 10 (w 14)]) (shaRound s (k + w 0))

/-- Big-endian words of a byte list. -/
def beWords : List Byte → List Word
  | a :: b :: c :: d :: r => (a ++ b ++ c ++ d) :: beWords r
  | _ => []

/-- The digest words after the chunks of a padded message. -/
def shaChunks : Nat → List Word → List Byte → List Word
  | 0, s, _ => s
  | n + 1, s, bs =>
    shaChunks n (List.zipWith (· + ·) s (shaRounds (shaPrimes.map (rootFraction 3)) (beWords (bs.take 64)) s)) (bs.drop 64)

/-- `n` big-endian bytes. -/
def beBytes : Nat → Nat → List Byte
  | 0, _ => []
  | n + 1, v => BitVec.ofNat 8 (v / 256 ^ n) :: beBytes n v

/-- The SHA-256 digest of a message, 32 bytes. -/
def sha256 (m : List Byte) : List Byte :=
  let pad := m ++ [0x80] ++ List.replicate ((119 - m.length % 64) % 64) 0 ++ beBytes 8 (8 * m.length)
  (shaChunks (pad.length / 64) ((shaPrimes.take 8).map (rootFraction 2)) pad).flatMap fun w => beBytes 4 w.toNat

/-- HMAC-SHA-256 under a key of at most 64 bytes. -/
def hmac256 (key m : List Byte) : List Byte :=
  let k := key ++ List.replicate (64 - key.length) 0
  sha256 ((k.map fun b => b ^^^ 0x5C) ++ sha256 ((k.map fun b => b ^^^ 0x36) ++ m))

end Sys2Proof.Machine
end

