-- ==== Sys2Proof/Machine/RegMap.lean ====
section
/-! DEFINITION. Machine/RegMap.lean: the memory-mapped registers of every block, as the register sections of the spec
lay them out (bases from R476): one address per register, one field per table row, and one table of access codes (R8) and reset values.
A reserved field has no row: it reads 0 and ignores writes (R9). -/
namespace Sys2Proof.Machine

/-- A field of a register: the register's physical address, the field's low bit and its width. -/
structure Fld where
  addr : Nat
  lo : Nat
  width : Nat
  deriving DecidableEq, Repr

/-- The access codes of R8. -/
inductive Acc where
  | ro | rw | w1c | wo | rwl | rwb | tcw
  deriving DecidableEq, Repr

/-- One row of a register's field table: low bit, width, access code, reset value. -/
structure FRow where
  lo : Nat
  width : Nat
  acc : Acc
  reset : Nat
  deriving DecidableEq, Repr

/-- One register or register array: base address, (stride, count) per index, field rows. -/
structure RegRow where
  base : Nat
  dims : List (Nat × Nat)
  rows : List FRow
  deriving DecidableEq, Repr

/-- BSQ.CONFIG — running image configuration (02_graph_image_and_scheduler.md). -/
abbrev BSQ_CONFIG : Nat := 0x60100000
abbrev BSQ_CONFIG_IMAGE_TAG : Fld := ⟨BSQ_CONFIG, 16, 16⟩
abbrev BSQ_CONFIG_PARTITIONS : Fld := ⟨BSQ_CONFIG, 8, 5⟩
abbrev BSQ_CONFIG_LAYBY_READY : Fld := ⟨BSQ_CONFIG, 6, 1⟩
abbrev BSQ_CONFIG_BSIZE : Fld := ⟨BSQ_CONFIG, 4, 2⟩
abbrev BSQ_CONFIG_RATE : Fld := ⟨BSQ_CONFIG, 0, 4⟩
/-- BSQ.STATUS — sequencer status (02_graph_image_and_scheduler.md). -/
abbrev BSQ_STATUS : Nat := 0x60100004
abbrev BSQ_STATUS_OVERRUN : Fld := ⟨BSQ_STATUS, 8, 1⟩
abbrev BSQ_STATUS_PARAM_LATE : Fld := ⟨BSQ_STATUS, 7, 1⟩
abbrev BSQ_STATUS_PRESET_IGN : Fld := ⟨BSQ_STATUS, 6, 1⟩
abbrev BSQ_STATUS_SWITCH_DEFERRED : Fld := ⟨BSQ_STATUS, 5, 1⟩
abbrev BSQ_STATUS_RUNNING : Fld := ⟨BSQ_STATUS, 4, 1⟩
abbrev BSQ_STATUS_LOCKED : Fld := ⟨BSQ_STATUS, 3, 1⟩
abbrev BSQ_STATUS_SOURCE : Fld := ⟨BSQ_STATUS, 0, 2⟩
/-- BSQ.CTRL — sequencer control (02_graph_image_and_scheduler.md). -/
abbrev BSQ_CTRL : Nat := 0x60100008
abbrev BSQ_CTRL_SWITCH_HOLD : Fld := ⟨BSQ_CTRL, 1, 1⟩
abbrev BSQ_CTRL_PRESET_GO : Fld := ⟨BSQ_CTRL, 0, 1⟩
/-- BSQ.BLOCK_LO — block number, low word (02_graph_image_and_scheduler.md). -/
abbrev BSQ_BLOCK_LO : Nat := 0x60100010
abbrev BSQ_BLOCK_LO_N_LO : Fld := ⟨BSQ_BLOCK_LO, 0, 32⟩
/-- BSQ.BLOCK_HI — block number, high word (02_graph_image_and_scheduler.md). -/
abbrev BSQ_BLOCK_HI : Nat := 0x60100014
abbrev BSQ_BLOCK_HI_N_HI : Fld := ⟨BSQ_BLOCK_HI, 0, 32⟩
/-- BSQ.PRESET_LO, BSQ.PRESET_HI — block number preset (02_graph_image_and_scheduler.md). -/
abbrev BSQ_PRESET_LO : Nat := 0x60100018
abbrev BSQ_PRESET_LO_PRESET : Fld := ⟨BSQ_PRESET_LO, 0, 32⟩
/-- BSQ.PRESET_LO, BSQ.PRESET_HI — block number preset (02_graph_image_and_scheduler.md). -/
abbrev BSQ_PRESET_HI : Nat := 0x6010001c
abbrev BSQ_PRESET_HI_PRESET : Fld := ⟨BSQ_PRESET_HI, 0, 32⟩
/-- BSQ.SWITCH_LO, BSQ.SWITCH_HI — switch block (02_graph_image_and_scheduler.md). -/
abbrev BSQ_SWITCH_LO : Nat := 0x60100020
abbrev BSQ_SWITCH_LO_S : Fld := ⟨BSQ_SWITCH_LO, 0, 32⟩
/-- BSQ.SWITCH_LO, BSQ.SWITCH_HI — switch block (02_graph_image_and_scheduler.md). -/
abbrev BSQ_SWITCH_HI : Nat := 0x60100024
abbrev BSQ_SWITCH_HI_S : Fld := ⟨BSQ_SWITCH_HI, 0, 32⟩
/-- BSQ.SWITCH_STATE — switch progress (02_graph_image_and_scheduler.md). -/
abbrev BSQ_SWITCH_STATE : Nat := 0x60100028
abbrev BSQ_SWITCH_STATE_K : Fld := ⟨BSQ_SWITCH_STATE, 16, 16⟩
abbrev BSQ_SWITCH_STATE_ABORT : Fld := ⟨BSQ_SWITCH_STATE, 3, 1⟩
abbrev BSQ_SWITCH_STATE_STEP : Fld := ⟨BSQ_SWITCH_STATE, 0, 3⟩
/-- BSQ.BOUNDARY_LO, BSQ.BOUNDARY_HI — last block boundary time (02_graph_image_and_scheduler.md). -/
abbrev BSQ_BOUNDARY_LO : Nat := 0x60100030
abbrev BSQ_BOUNDARY_LO_TIME : Fld := ⟨BSQ_BOUNDARY_LO, 0, 32⟩
/-- BSQ.BOUNDARY_LO, BSQ.BOUNDARY_HI — last block boundary time (02_graph_image_and_scheduler.md). -/
abbrev BSQ_BOUNDARY_HI : Nat := 0x60100034
abbrev BSQ_BOUNDARY_HI_TIME : Fld := ⟨BSQ_BOUNDARY_HI, 0, 32⟩
/-- BSQ.PARAM_COUNT — parameter update counters (02_graph_image_and_scheduler.md). -/
abbrev BSQ_PARAM_COUNT : Nat := 0x60100038
abbrev BSQ_PARAM_COUNT_DISCARDED : Fld := ⟨BSQ_PARAM_COUNT, 16, 16⟩
abbrev BSQ_PARAM_COUNT_LATE : Fld := ⟨BSQ_PARAM_COUNT, 0, 16⟩
/-- BSQ.LANE_MAP(s) — logical lane mapping (02_graph_image_and_scheduler.md). -/
abbrev BSQ_LANE_MAP (s : Nat) : Nat := 0x60100040 + 0x4 * s
abbrev BSQ_LANE_MAP_ON_LAYBY (s : Nat) : Fld := ⟨BSQ_LANE_MAP s, 8, 1⟩
abbrev BSQ_LANE_MAP_PHYS (s : Nat) : Fld := ⟨BSQ_LANE_MAP s, 0, 5⟩
/-- BSQ.LANE_STAT(p) — physical lane status (02_graph_image_and_scheduler.md). -/
abbrev BSQ_LANE_STAT (p : Nat) : Nat := 0x60100080 + 0x4 * p
abbrev BSQ_LANE_STAT_OVERRUNS (p : Nat) : Fld := ⟨BSQ_LANE_STAT p, 24, 8⟩
abbrev BSQ_LANE_STAT_PEAK (p : Nat) : Fld := ⟨BSQ_LANE_STAT p, 16, 8⟩
abbrev BSQ_LANE_STAT_TASK (p : Nat) : Fld := ⟨BSQ_LANE_STAT p, 8, 8⟩
abbrev BSQ_LANE_STAT_STATE (p : Nat) : Fld := ⟨BSQ_LANE_STAT p, 0, 4⟩
/-- BSQ.LAYBY — Layby lane use (06_checking_replay_and_layby.md). -/
abbrev BSQ_LAYBY : Nat := 0x601000d0
abbrev BSQ_LAYBY_SETTLED17 : Fld := ⟨BSQ_LAYBY, 24, 1⟩
abbrev BSQ_LAYBY_LOGICAL17 : Fld := ⟨BSQ_LAYBY, 20, 4⟩
abbrev BSQ_LAYBY_USE17 : Fld := ⟨BSQ_LAYBY, 16, 3⟩
abbrev BSQ_LAYBY_SETTLED16 : Fld := ⟨BSQ_LAYBY, 8, 1⟩
abbrev BSQ_LAYBY_LOGICAL16 : Fld := ⟨BSQ_LAYBY, 4, 4⟩
abbrev BSQ_LAYBY_USE16 : Fld := ⟨BSQ_LAYBY, 0, 3⟩
/-- BSQ.LANE_REC(p) — recovery counters (06_checking_replay_and_layby.md). -/
abbrev BSQ_LANE_REC (p : Nat) : Nat := 0x60100100 + 0x4 * p
abbrev BSQ_LANE_REC_REPLAYS (p : Nat) : Fld := ⟨BSQ_LANE_REC p, 27, 5⟩
abbrev BSQ_LANE_REC_REPLAY_FAILS (p : Nat) : Fld := ⟨BSQ_LANE_REC p, 22, 5⟩
abbrev BSQ_LANE_REC_SHADOW_COMMITS (p : Nat) : Fld := ⟨BSQ_LANE_REC p, 17, 5⟩
abbrev BSQ_LANE_REC_SHADOW_FAILS (p : Nat) : Fld := ⟨BSQ_LANE_REC p, 12, 5⟩
abbrev BSQ_LANE_REC_PAIR_FAILS (p : Nat) : Fld := ⟨BSQ_LANE_REC p, 7, 5⟩
abbrev BSQ_LANE_REC_MIRROR_LATE (p : Nat) : Fld := ⟨BSQ_LANE_REC p, 2, 5⟩
/-- BSQ.MIRROR(s) — mirror slots of logical lane s (06_checking_replay_and_layby.md). -/
abbrev BSQ_MIRROR (s : Nat) : Nat := 0x60100180 + 0x4 * s
abbrev BSQ_MIRROR_NEWEST (s : Nat) : Fld := ⟨BSQ_MIRROR s, 30, 2⟩
abbrev BSQ_MIRROR_BASE (s : Nat) : Fld := ⟨BSQ_MIRROR s, 0, 19⟩
/-- JCT.STATUS — Junction status (07_junction_and_express_paths.md). -/
abbrev JCT_STATUS : Nat := 0x60120000
abbrev JCT_STATUS_UE : Fld := ⟨JCT_STATUS, 2, 1⟩
abbrev JCT_STATUS_ADAPTERS : Fld := ⟨JCT_STATUS, 1, 1⟩
abbrev JCT_STATUS_SCHED_VALID : Fld := ⟨JCT_STATUS, 0, 1⟩
/-- JCT.ECC — Junction word error counts (07_junction_and_express_paths.md). -/
abbrev JCT_ECC : Nat := 0x60120004
abbrev JCT_ECC_UE_COUNT : Fld := ⟨JCT_ECC, 16, 16⟩
abbrev JCT_ECC_CE_COUNT : Fld := ⟨JCT_ECC, 0, 16⟩
/-- JCT.PORT_LOAD(k) — scheduled port load (07_junction_and_express_paths.md). -/
abbrev JCT_PORT_LOAD (k : Nat) : Nat := 0x60120100 + 0x4 * k
abbrev JCT_PORT_LOAD_LOAD (k : Nat) : Fld := ⟨JCT_PORT_LOAD k, 0, 10⟩
/-- EXP.STATUS — express status (07_junction_and_express_paths.md). -/
abbrev EXP_STATUS : Nat := 0x60130000
abbrev EXP_STATUS_LAYBY_BUSY : Fld := ⟨EXP_STATUS, 24, 1⟩
abbrev EXP_STATUS_LAYBY_FOR : Fld := ⟨EXP_STATUS, 20, 4⟩
abbrev EXP_STATUS_ON : Fld := ⟨EXP_STATUS, 0, 9⟩
/-- EXP.MOVE — planned express move (07_junction_and_express_paths.md). -/
abbrev EXP_MOVE : Nat := 0x60130004
abbrev EXP_MOVE_GO : Fld := ⟨EXP_MOVE, 31, 1⟩
abbrev EXP_MOVE_BUSY : Fld := ⟨EXP_MOVE, 30, 1⟩
abbrev EXP_MOVE_RETURN : Fld := ⟨EXP_MOVE, 4, 1⟩
abbrev EXP_MOVE_BLOCK : Fld := ⟨EXP_MOVE, 0, 4⟩
/-- EXP.MOVE_LO, EXP.MOVE_HI — move block (07_junction_and_express_paths.md). -/
abbrev EXP_MOVE_LO : Nat := 0x60130008
abbrev EXP_MOVE_LO_P : Fld := ⟨EXP_MOVE_LO, 0, 32⟩
/-- EXP.MOVE_LO, EXP.MOVE_HI — move block (07_junction_and_express_paths.md). -/
abbrev EXP_MOVE_HI : Nat := 0x6013000c
abbrev EXP_MOVE_HI_P : Fld := ⟨EXP_MOVE_HI, 0, 32⟩
/-- EXP.MAP(c) — logical express channel placement (07_junction_and_express_paths.md). -/
abbrev EXP_MAP (c : Nat) : Nat := 0x60130100 + 0x4 * c
abbrev EXP_MAP_PROGRAMMED (c : Nat) : Fld := ⟨EXP_MAP c, 31, 1⟩
abbrev EXP_MAP_ON_LAYBY (c : Nat) : Fld := ⟨EXP_MAP c, 8, 1⟩
abbrev EXP_MAP_SLOT (c : Nat) : Fld := ⟨EXP_MAP c, 4, 3⟩
abbrev EXP_MAP_BLOCK (c : Nat) : Fld := ⟨EXP_MAP c, 0, 4⟩
/-- EXP.VOTE(b) — express voter status (07_junction_and_express_paths.md). -/
abbrev EXP_VOTE (b : Nat) : Nat := 0x60130200 + 0x4 * b
abbrev EXP_VOTE_OUTVOTES (b : Nat) : Fld := ⟨EXP_VOTE b, 16, 16⟩
abbrev EXP_VOTE_FAILS (b : Nat) : Fld := ⟨EXP_VOTE b, 8, 8⟩
abbrev EXP_VOTE_ODD (b : Nat) : Fld := ⟨EXP_VOTE b, 4, 2⟩
abbrev EXP_VOTE_MODE (b : Nat) : Fld := ⟨EXP_VOTE b, 0, 2⟩
/-- NP.CTRL — port control (08_network_ports.md). -/
abbrev NP_CTRL (k : Nat) : Nat := 0x60180000 + 0x10000 * k
abbrev NP_CTRL_VID (k : Nat) : Fld := ⟨NP_CTRL k, 4, 12⟩
abbrev NP_CTRL_ONE_STEP (k : Nat) : Fld := ⟨NP_CTRL k, 3, 1⟩
abbrev NP_CTRL_PTP_EN (k : Nat) : Fld := ⟨NP_CTRL k, 2, 1⟩
abbrev NP_CTRL_SPEED (k : Nat) : Fld := ⟨NP_CTRL k, 0, 2⟩
/-- NP.STATUS — port status (08_network_ports.md). -/
abbrev NP_STATUS (k : Nat) : Nat := 0x60180004 + 0x10000 * k
abbrev NP_STATUS_PTP_STATE (k : Nat) : Fld := ⟨NP_STATUS k, 4, 3⟩
abbrev NP_STATUS_LEG (k : Nat) : Fld := ⟨NP_STATUS k, 3, 1⟩
abbrev NP_STATUS_FEC_ALIGN (k : Nat) : Fld := ⟨NP_STATUS k, 2, 1⟩
abbrev NP_STATUS_BLOCK_LOCK (k : Nat) : Fld := ⟨NP_STATUS k, 1, 1⟩
abbrev NP_STATUS_LINK (k : Nat) : Fld := ⟨NP_STATUS k, 0, 1⟩
/-- NP.MAC_LO, NP.MAC_HI — port MAC address (08_network_ports.md). -/
abbrev NP_MAC_LO (k : Nat) : Nat := 0x60180008 + 0x10000 * k
abbrev NP_MAC_LO_MAC (k : Nat) : Fld := ⟨NP_MAC_LO k, 0, 32⟩
/-- NP.MAC_LO, NP.MAC_HI — port MAC address (08_network_ports.md). -/
abbrev NP_MAC_HI (k : Nat) : Nat := 0x6018000c + 0x10000 * k
abbrev NP_MAC_HI_MAC (k : Nat) : Fld := ⟨NP_MAC_HI k, 0, 16⟩
/-- NP.IPV4 — port IPv4 address (08_network_ports.md). -/
abbrev NP_IPV4 (k : Nat) : Nat := 0x60180010 + 0x10000 * k
abbrev NP_IPV4_ADDR (k : Nat) : Fld := ⟨NP_IPV4 k, 0, 32⟩
/-- NP.PTP_ASYM — path asymmetry (08_network_ports.md). -/
abbrev NP_PTP_ASYM (k : Nat) : Nat := 0x60180014 + 0x10000 * k
abbrev NP_PTP_ASYM_ASYM (k : Nat) : Fld := ⟨NP_PTP_ASYM k, 0, 16⟩
/-- NP.RX_FRAMES, NP.TX_FRAMES — frame counts (08_network_ports.md). -/
abbrev NP_RX_FRAMES (k : Nat) : Nat := 0x60180020 + 0x10000 * k
abbrev NP_RX_FRAMES_COUNT (k : Nat) : Fld := ⟨NP_RX_FRAMES k, 0, 32⟩
/-- NP.RX_FRAMES, NP.TX_FRAMES — frame counts (08_network_ports.md). -/
abbrev NP_TX_FRAMES (k : Nat) : Nat := 0x60180024 + 0x10000 * k
abbrev NP_TX_FRAMES_COUNT (k : Nat) : Fld := ⟨NP_TX_FRAMES k, 0, 32⟩
/-- NP.ERR_L2, NP.ERR_L3, NP.ERR_RTP, NP.CTRLQ, NP.FEC — violation counts (08_network_ports.md). -/
abbrev NP_ERR_L2 (k : Nat) : Nat := 0x60180030 + 0x10000 * k
abbrev NP_ERR_L2_FCS (k : Nat) : Fld := ⟨NP_ERR_L2 k, 16, 16⟩
abbrev NP_ERR_L2_SIZE (k : Nat) : Fld := ⟨NP_ERR_L2 k, 0, 16⟩
/-- NP.ERR_L2, NP.ERR_L3, NP.ERR_RTP, NP.CTRLQ, NP.FEC — violation counts (08_network_ports.md). -/
abbrev NP_ERR_L3 (k : Nat) : Nat := 0x60180034 + 0x10000 * k
abbrev NP_ERR_L3_NON_IPV4 (k : Nat) : Fld := ⟨NP_ERR_L3 k, 16, 16⟩
abbrev NP_ERR_L3_IP_HDR (k : Nat) : Fld := ⟨NP_ERR_L3 k, 0, 16⟩
/-- NP.ERR_L2, NP.ERR_L3, NP.ERR_RTP, NP.CTRLQ, NP.FEC — violation counts (08_network_ports.md). -/
abbrev NP_ERR_RTP (k : Nat) : Nat := 0x60180038 + 0x10000 * k
abbrev NP_ERR_RTP_NO_STREAM (k : Nat) : Fld := ⟨NP_ERR_RTP k, 16, 16⟩
abbrev NP_ERR_RTP_RTP_HDR (k : Nat) : Fld := ⟨NP_ERR_RTP k, 0, 16⟩
/-- NP.ERR_L2, NP.ERR_L3, NP.ERR_RTP, NP.CTRLQ, NP.FEC — violation counts (08_network_ports.md). -/
abbrev NP_CTRLQ (k : Nat) : Nat := 0x6018003c + 0x10000 * k
abbrev NP_CTRLQ_CTRL_DROP (k : Nat) : Fld := ⟨NP_CTRLQ k, 16, 16⟩
abbrev NP_CTRLQ_PTP_DROP (k : Nat) : Fld := ⟨NP_CTRLQ k, 0, 16⟩
/-- NP.ERR_L2, NP.ERR_L3, NP.ERR_RTP, NP.CTRLQ, NP.FEC — violation counts (08_network_ports.md). -/
abbrev NP_FEC (k : Nat) : Nat := 0x60180040 + 0x10000 * k
abbrev NP_FEC_UNCORR (k : Nat) : Fld := ⟨NP_FEC k, 16, 16⟩
abbrev NP_FEC_CORR (k : Nat) : Fld := ⟨NP_FEC k, 0, 16⟩
/-- NPE.JBUF — jitter buffer region (08_network_ports.md). -/
abbrev NPE_JBUF : Nat := 0x60170000
abbrev NPE_JBUF_SIZE : Fld := ⟨NPE_JBUF, 16, 16⟩
abbrev NPE_JBUF_BASE : Fld := ⟨NPE_JBUF, 0, 16⟩
/-- NPE.STATUS — stream counts (08_network_ports.md). -/
abbrev NPE_STATUS : Nat := 0x60170004
abbrev NPE_STATUS_TX_ACTIVE : Fld := ⟨NPE_STATUS, 16, 13⟩
abbrev NPE_STATUS_RX_ACTIVE : Fld := ⟨NPE_STATUS, 0, 13⟩
/-- NPE.XTWIN — cross-twin transmission (08_network_ports.md). -/
abbrev NPE_XTWIN : Nat := 0x60170008
abbrev NPE_XTWIN_HOLD_BLUE : Fld := ⟨NPE_XTWIN, 2, 1⟩
abbrev NPE_XTWIN_ROLE : Fld := ⟨NPE_XTWIN, 1, 1⟩
abbrev NPE_XTWIN_ENABLE : Fld := ⟨NPE_XTWIN, 0, 1⟩
/-- NPE.STREAM_ERR, NPE.STREAM_ERR2, NPE.STREAM_ERR3, NPE.CONCEAL — device-wide stream counts (08_network_ports.md). -/
abbrev NPE_STREAM_ERR : Nat := 0x60170010
abbrev NPE_STREAM_ERR_LATE : Fld := ⟨NPE_STREAM_ERR, 16, 16⟩
abbrev NPE_STREAM_ERR_EARLY : Fld := ⟨NPE_STREAM_ERR, 0, 16⟩
/-- NPE.STREAM_ERR, NPE.STREAM_ERR2, NPE.STREAM_ERR3, NPE.CONCEAL — device-wide stream counts (08_network_ports.md). -/
abbrev NPE_STREAM_ERR2 : Nat := 0x60170014
abbrev NPE_STREAM_ERR2_SEQ_GAP : Fld := ⟨NPE_STREAM_ERR2, 16, 16⟩
abbrev NPE_STREAM_ERR2_DUP : Fld := ⟨NPE_STREAM_ERR2, 0, 16⟩
/-- NPE.STREAM_ERR, NPE.STREAM_ERR2, NPE.STREAM_ERR3, NPE.CONCEAL — device-wide stream counts (08_network_ports.md). -/
abbrev NPE_STREAM_ERR3 : Nat := 0x60170018
abbrev NPE_STREAM_ERR3_MISMATCH : Fld := ⟨NPE_STREAM_ERR3, 16, 16⟩
abbrev NPE_STREAM_ERR3_SSRC_CHANGE : Fld := ⟨NPE_STREAM_ERR3, 0, 16⟩
/-- NPE.STREAM_ERR, NPE.STREAM_ERR2, NPE.STREAM_ERR3, NPE.CONCEAL — device-wide stream counts (08_network_ports.md). -/
abbrev NPE_CONCEAL : Nat := 0x6017001c
abbrev NPE_CONCEAL_REPAIRED : Fld := ⟨NPE_CONCEAL, 16, 16⟩
abbrev NPE_CONCEAL_CONCEALED : Fld := ⟨NPE_CONCEAL, 0, 16⟩
/-- NPE.RXSTAT(i) — receive stream status (08_network_ports.md). -/
abbrev NPE_RXSTAT (i : Nat) : Nat := 0x60178000 + 0x4 * i
abbrev NPE_RXSTAT_STATE (i : Nat) : Fld := ⟨NPE_RXSTAT i, 29, 3⟩
abbrev NPE_RXSTAT_RED_OK (i : Nat) : Fld := ⟨NPE_RXSTAT i, 28, 1⟩
abbrev NPE_RXSTAT_BLUE_OK (i : Nat) : Fld := ⟨NPE_RXSTAT i, 27, 1⟩
abbrev NPE_RXSTAT_HOST_WAIT (i : Nat) : Fld := ⟨NPE_RXSTAT i, 26, 1⟩
abbrev NPE_RXSTAT_CONCEALED (i : Nat) : Fld := ⟨NPE_RXSTAT i, 0, 16⟩
/-- NPE.TXSTAT(i) — transmit stream status (08_network_ports.md). -/
abbrev NPE_TXSTAT (i : Nat) : Nat := 0x6017c000 + 0x4 * i
abbrev NPE_TXSTAT_STATE (i : Nat) : Fld := ⟨NPE_TXSTAT i, 29, 3⟩
abbrev NPE_TXSTAT_RED_ON (i : Nat) : Fld := ⟨NPE_TXSTAT i, 28, 1⟩
abbrev NPE_TXSTAT_BLUE_ON (i : Nat) : Fld := ⟨NPE_TXSTAT i, 27, 1⟩
abbrev NPE_TXSTAT_SKIPPED (i : Nat) : Fld := ⟨NPE_TXSTAT i, 0, 16⟩
/-- TDM.FORMAT — port format (09_tdm_ports_and_media_clock.md). -/
abbrev TDM_FORMAT (t : Nat) : Nat := 0x60200000 + 0x10000 * t
abbrev TDM_FORMAT_ALIGN (t : Nat) : Fld := ⟨TDM_FORMAT t, 20, 1⟩
abbrev TDM_FORMAT_RATE (t : Nat) : Fld := ⟨TDM_FORMAT t, 16, 3⟩
abbrev TDM_FORMAT_SLOTS (t : Nat) : Fld := ⟨TDM_FORMAT t, 10, 5⟩
abbrev TDM_FORMAT_WIDTH (t : Nat) : Fld := ⟨TDM_FORMAT t, 8, 2⟩
abbrev TDM_FORMAT_HIZ_UNUSED (t : Nat) : Fld := ⟨TDM_FORMAT t, 7, 1⟩
abbrev TDM_FORMAT_FSYNC_INV (t : Nat) : Fld := ⟨TDM_FORMAT t, 6, 1⟩
abbrev TDM_FORMAT_BCLK_INV (t : Nat) : Fld := ⟨TDM_FORMAT t, 5, 1⟩
abbrev TDM_FORMAT_OFFSET (t : Nat) : Fld := ⟨TDM_FORMAT t, 4, 1⟩
abbrev TDM_FORMAT_MODE (t : Nat) : Fld := ⟨TDM_FORMAT t, 2, 2⟩
abbrev TDM_FORMAT_MASTER (t : Nat) : Fld := ⟨TDM_FORMAT t, 1, 1⟩
abbrev TDM_FORMAT_ENABLE (t : Nat) : Fld := ⟨TDM_FORMAT t, 0, 1⟩
/-- TDM.STATUS — port status (09_tdm_ports_and_media_clock.md). -/
abbrev TDM_STATUS (t : Nat) : Nat := 0x60200004 + 0x10000 * t
abbrev TDM_STATUS_LOSSES (t : Nat) : Fld := ⟨TDM_STATUS t, 24, 8⟩
abbrev TDM_STATUS_PHASE (t : Nat) : Fld := ⟨TDM_STATUS t, 16, 8⟩
abbrev TDM_STATUS_RETIMED (t : Nat) : Fld := ⟨TDM_STATUS t, 3, 1⟩
abbrev TDM_STATUS_STATE (t : Nat) : Fld := ⟨TDM_STATUS t, 0, 3⟩
/-- TDM.ERR — violation counts (09_tdm_ports_and_media_clock.md). -/
abbrev TDM_ERR (t : Nat) : Nat := 0x60200008 + 0x10000 * t
abbrev TDM_ERR_FRAME_ERR (t : Nat) : Fld := ⟨TDM_ERR t, 16, 16⟩
abbrev TDM_ERR_SLIP (t : Nat) : Fld := ⟨TDM_ERR t, 0, 16⟩
/-- MCK.CTRL — media clock control (09_tdm_ports_and_media_clock.md). -/
abbrev MCK_CTRL : Nat := 0x60160000
abbrev MCK_CTRL_STEP_REQ : Fld := ⟨MCK_CTRL, 12, 1⟩
abbrev MCK_CTRL_PROFILE : Fld := ⟨MCK_CTRL, 11, 1⟩
abbrev MCK_CTRL_MCLK_SEL : Fld := ⟨MCK_CTRL, 9, 2⟩
abbrev MCK_CTRL_WCLK_OUT_EN : Fld := ⟨MCK_CTRL, 8, 1⟩
abbrev MCK_CTRL_HOST_SERVO : Fld := ⟨MCK_CTRL, 7, 1⟩
abbrev MCK_CTRL_PTP_BW : Fld := ⟨MCK_CTRL, 4, 3⟩
abbrev MCK_CTRL_SRC : Fld := ⟨MCK_CTRL, 0, 3⟩
/-- MCK.STATUS — media clock status (09_tdm_ports_and_media_clock.md). -/
abbrev MCK_STATUS : Nat := 0x60160004
abbrev MCK_STATUS_HOLD_S : Fld := ⟨MCK_STATUS, 16, 16⟩
abbrev MCK_STATUS_QUAL_WCLK : Fld := ⟨MCK_STATUS, 7, 1⟩
abbrev MCK_STATUS_QUAL_PTP : Fld := ⟨MCK_STATUS, 6, 1⟩
abbrev MCK_STATUS_SOURCE : Fld := ⟨MCK_STATUS, 4, 2⟩
abbrev MCK_STATUS_STATE : Fld := ⟨MCK_STATUS, 0, 3⟩
/-- MCK.PHASE_ERR, MCK.FREQ — measured error and frequency (09_tdm_ports_and_media_clock.md). -/
abbrev MCK_PHASE_ERR : Nat := 0x60160008
abbrev MCK_PHASE_ERR_E : Fld := ⟨MCK_PHASE_ERR, 0, 32⟩
/-- MCK.PHASE_ERR, MCK.FREQ — measured error and frequency (09_tdm_ports_and_media_clock.md). -/
abbrev MCK_FREQ : Nat := 0x6016000c
abbrev MCK_FREQ_F : Fld := ⟨MCK_FREQ, 0, 32⟩
/-- MCK.HOST_FREQ, MCK.HOST_PHASE — host servo inputs (09_tdm_ports_and_media_clock.md). -/
abbrev MCK_HOST_FREQ : Nat := 0x60160010
abbrev MCK_HOST_FREQ_VALUE : Fld := ⟨MCK_HOST_FREQ, 0, 32⟩
/-- MCK.HOST_FREQ, MCK.HOST_PHASE — host servo inputs (09_tdm_ports_and_media_clock.md). -/
abbrev MCK_HOST_PHASE : Nat := 0x60160014
abbrev MCK_HOST_PHASE_VALUE : Fld := ⟨MCK_HOST_PHASE, 0, 32⟩
/-- MCK.PTP_CFG — PTP settings (09_tdm_ports_and_media_clock.md). -/
abbrev MCK_PTP_CFG : Nat := 0x60160020
abbrev MCK_PTP_CFG_SLAVE_ONLY : Fld := ⟨MCK_PTP_CFG, 24, 1⟩
abbrev MCK_PTP_CFG_LOG_DREQ : Fld := ⟨MCK_PTP_CFG, 20, 4⟩
abbrev MCK_PTP_CFG_ANN_TIMEOUT : Fld := ⟨MCK_PTP_CFG, 16, 4⟩
abbrev MCK_PTP_CFG_LOG_ANN : Fld := ⟨MCK_PTP_CFG, 12, 4⟩
abbrev MCK_PTP_CFG_LOG_SYNC : Fld := ⟨MCK_PTP_CFG, 8, 4⟩
abbrev MCK_PTP_CFG_DOMAIN : Fld := ⟨MCK_PTP_CFG, 0, 7⟩
/-- MCK.PTP_PRIO — PTP priorities (09_tdm_ports_and_media_clock.md). -/
abbrev MCK_PTP_PRIO : Nat := 0x60160024
abbrev MCK_PTP_PRIO_PRIORITY1 : Fld := ⟨MCK_PTP_PRIO, 8, 8⟩
abbrev MCK_PTP_PRIO_PRIORITY2 : Fld := ⟨MCK_PTP_PRIO, 0, 8⟩
/-- MCK.GM_ID_LO, MCK.GM_ID_HI — grandmaster identity (09_tdm_ports_and_media_clock.md). -/
abbrev MCK_GM_ID_LO : Nat := 0x60160028
abbrev MCK_GM_ID_LO_ID : Fld := ⟨MCK_GM_ID_LO, 0, 32⟩
/-- MCK.GM_ID_LO, MCK.GM_ID_HI — grandmaster identity (09_tdm_ports_and_media_clock.md). -/
abbrev MCK_GM_ID_HI : Nat := 0x6016002c
abbrev MCK_GM_ID_HI_ID : Fld := ⟨MCK_GM_ID_HI, 0, 32⟩
/-- MCK.OFFSET, MCK.MPD — servo inputs (09_tdm_ports_and_media_clock.md). -/
abbrev MCK_OFFSET : Nat := 0x60160030
abbrev MCK_OFFSET_NS : Fld := ⟨MCK_OFFSET, 0, 32⟩
/-- MCK.OFFSET, MCK.MPD — servo inputs (09_tdm_ports_and_media_clock.md). -/
abbrev MCK_MPD : Nat := 0x60160034
abbrev MCK_MPD_NS : Fld := ⟨MCK_MPD, 0, 32⟩
/-- MCK.COUNTS — media clock events (09_tdm_ports_and_media_clock.md). -/
abbrev MCK_COUNTS : Nat := 0x60160038
abbrev MCK_COUNTS_STEPS : Fld := ⟨MCK_COUNTS, 16, 16⟩
abbrev MCK_COUNTS_HOLDOVERS : Fld := ⟨MCK_COUNTS, 0, 16⟩
/-- SPM.PWR_LO(n), SPM.PWR_HI(n), DPT.PWR(j) — bank power states (10_memory_sram_dram_ledger.md). -/
abbrev SPM_PWR_LO (n : Nat) : Nat := 0x600c0000 + 0x20 * n
abbrev SPM_PWR_LO_STATE (n k : Nat) : Fld := ⟨SPM_PWR_LO n, 2 * k, 2⟩
/-- SPM.PWR_LO(n), SPM.PWR_HI(n), DPT.PWR(j) — bank power states (10_memory_sram_dram_ledger.md). -/
abbrev SPM_PWR_HI (n : Nat) : Nat := 0x600c0004 + 0x20 * n
abbrev SPM_PWR_HI_STATE (n k : Nat) : Fld := ⟨SPM_PWR_HI n, 2 * k, 2⟩
/-- SPM.PWR_LO(n), SPM.PWR_HI(n), DPT.PWR(j) — bank power states (10_memory_sram_dram_ledger.md). -/
abbrev DPT_PWR (j : Nat) : Nat := 0x600d0000 + 0x4 * j
abbrev DPT_PWR_STATE (j k : Nat) : Fld := ⟨DPT_PWR j, 2 * k, 2⟩
/-- SPM.ECC(n), DPT.ECC, LPD.ECC — error counts (10_memory_sram_dram_ledger.md). -/
abbrev SPM_ECC (n : Nat) : Nat := 0x600c0008 + 0x20 * n
abbrev SPM_ECC_CE_COUNT (n : Nat) : Fld := ⟨SPM_ECC n, 16, 16⟩
abbrev SPM_ECC_UE_COUNT (n : Nat) : Fld := ⟨SPM_ECC n, 0, 16⟩
/-- SPM.ECC(n), DPT.ECC, LPD.ECC — error counts (10_memory_sram_dram_ledger.md). -/
abbrev DPT_ECC : Nat := 0x600d0020
abbrev DPT_ECC_CE_COUNT : Fld := ⟨DPT_ECC, 16, 16⟩
abbrev DPT_ECC_UE_COUNT : Fld := ⟨DPT_ECC, 0, 16⟩
/-- SPM.ECC(n), DPT.ECC, LPD.ECC — error counts (10_memory_sram_dram_ledger.md). -/
abbrev LPD_ECC : Nat := 0x600e0008
abbrev LPD_ECC_CE_COUNT : Fld := ⟨LPD_ECC, 16, 16⟩
abbrev LPD_ECC_UE_COUNT : Fld := ⟨LPD_ECC, 0, 16⟩
/-- SPM.COLL(n), DPT.COLL — collision counts (10_memory_sram_dram_ledger.md). -/
abbrev SPM_COLL (n : Nat) : Nat := 0x600c000c + 0x20 * n
abbrev SPM_COLL_WCOL (n : Nat) : Fld := ⟨SPM_COLL n, 16, 16⟩
abbrev SPM_COLL_POISON (n : Nat) : Fld := ⟨SPM_COLL n, 0, 16⟩
/-- SPM.COLL(n), DPT.COLL — collision counts (10_memory_sram_dram_ledger.md). -/
abbrev DPT_COLL : Nat := 0x600d0024
abbrev DPT_COLL_WCOL : Fld := ⟨DPT_COLL, 16, 16⟩
abbrev DPT_COLL_POISON : Fld := ⟨DPT_COLL, 0, 16⟩
/-- SPM.RETIRED(n), DPT.RETIRED(k) — retired banks (10_memory_sram_dram_ledger.md). -/
abbrev SPM_RETIRED (n : Nat) : Nat := 0x600c0010 + 0x20 * n
abbrev SPM_RETIRED_BANKS (n : Nat) : Fld := ⟨SPM_RETIRED n, 0, 32⟩
/-- SPM.RETIRED(n), DPT.RETIRED(k) — retired banks (10_memory_sram_dram_ledger.md). -/
abbrev DPT_RETIRED (k : Nat) : Nat := 0x600d0030 + 0x4 * k
abbrev DPT_RETIRED_BANKS (k : Nat) : Fld := ⟨DPT_RETIRED k, 0, 32⟩
/-- LPD.CONFIG — DRAM configuration (10_memory_sram_dram_ledger.md). -/
abbrev LPD_CONFIG : Nat := 0x600e0000
abbrev LPD_CONFIG_KEPT : Fld := ⟨LPD_CONFIG, 7, 1⟩
abbrev LPD_CONFIG_TRAINED : Fld := ⟨LPD_CONFIG, 6, 1⟩
abbrev LPD_CONFIG_RANKS : Fld := ⟨LPD_CONFIG, 4, 2⟩
abbrev LPD_CONFIG_RAW : Fld := ⟨LPD_CONFIG, 0, 4⟩
/-- LPD.STATUS — DRAM status (10_memory_sram_dram_ledger.md). -/
abbrev LPD_STATUS : Nat := 0x600e0004
abbrev LPD_STATUS_REFRESH : Fld := ⟨LPD_STATUS, 8, 4⟩
abbrev LPD_STATUS_SELF_REFRESH : Fld := ⟨LPD_STATUS, 0, 1⟩
/-- LPD.REMAP_STATUS — remap table status (10_memory_sram_dram_ledger.md). -/
abbrev LPD_REMAP_STATUS : Nat := 0x600e000c
abbrev LPD_REMAP_STATUS_FULL : Fld := ⟨LPD_REMAP_STATUS, 9, 1⟩
abbrev LPD_REMAP_STATUS_USED : Fld := ⟨LPD_REMAP_STATUS, 0, 9⟩
/-- LPD.REMAP(i) — remap entry (10_memory_sram_dram_ledger.md). -/
abbrev LPD_REMAP (i : Nat) : Nat := 0x600e0400 + 0x4 * i
abbrev LPD_REMAP_STATE (i : Nat) : Fld := ⟨LPD_REMAP i, 30, 2⟩
abbrev LPD_REMAP_PAGE (i : Nat) : Fld := ⟨LPD_REMAP i, 0, 23⟩
/-- SCB.CTRL — scrubber control (10_memory_sram_dram_ledger.md). -/
abbrev SCB_CTRL : Nat := 0x600f0000
abbrev SCB_CTRL_HOST : Fld := ⟨SCB_CTRL, 4, 1⟩
abbrev SCB_CTRL_LDG_EN : Fld := ⟨SCB_CTRL, 3, 1⟩
abbrev SCB_CTRL_LPD_EN : Fld := ⟨SCB_CTRL, 2, 1⟩
abbrev SCB_CTRL_DPT_EN : Fld := ⟨SCB_CTRL, 1, 1⟩
abbrev SCB_CTRL_SPM_EN : Fld := ⟨SCB_CTRL, 0, 1⟩
/-- SCB.PERIOD — scrub periods (10_memory_sram_dram_ledger.md). -/
abbrev SCB_PERIOD : Nat := 0x600f0004
abbrev SCB_PERIOD_SRAM : Fld := ⟨SCB_PERIOD, 16, 13⟩
abbrev SCB_PERIOD_DRAM : Fld := ⟨SCB_PERIOD, 0, 8⟩
/-- SCB.STATUS — scrubber status (10_memory_sram_dram_ledger.md). -/
abbrev SCB_STATUS : Nat := 0x600f0008
abbrev SCB_STATUS_SLOW : Fld := ⟨SCB_STATUS, 0, 4⟩
/-- SCB.MARCH — march control (10_memory_sram_dram_ledger.md). -/
abbrev SCB_MARCH : Nat := 0x600f0010
abbrev SCB_MARCH_GO : Fld := ⟨SCB_MARCH, 31, 1⟩
abbrev SCB_MARCH_PRESERVE : Fld := ⟨SCB_MARCH, 12, 1⟩
abbrev SCB_MARCH_MEMORY : Fld := ⟨SCB_MARCH, 8, 4⟩
abbrev SCB_MARCH_BANK : Fld := ⟨SCB_MARCH, 0, 7⟩
/-- SCB.MARCH_STATUS — march progress (10_memory_sram_dram_ledger.md). -/
abbrev SCB_MARCH_STATUS : Nat := 0x600f0014
abbrev SCB_MARCH_STATUS_BUSY : Fld := ⟨SCB_MARCH_STATUS, 31, 1⟩
abbrev SCB_MARCH_STATUS_FAIL : Fld := ⟨SCB_MARCH_STATUS, 30, 1⟩
abbrev SCB_MARCH_STATUS_PROGRESS : Fld := ⟨SCB_MARCH_STATUS, 0, 10⟩
/-- SCB.REPAIR_SEL, SCB.REPAIR — row repair table access (10_memory_sram_dram_ledger.md). -/
abbrev SCB_REPAIR_SEL : Nat := 0x600f0020
abbrev SCB_REPAIR_SEL_MEMORY : Fld := ⟨SCB_REPAIR_SEL, 9, 4⟩
abbrev SCB_REPAIR_SEL_BANK : Fld := ⟨SCB_REPAIR_SEL, 2, 7⟩
abbrev SCB_REPAIR_SEL_SPARE : Fld := ⟨SCB_REPAIR_SEL, 0, 2⟩
/-- SCB.REPAIR_SEL, SCB.REPAIR — row repair table access (10_memory_sram_dram_ledger.md). -/
abbrev SCB_REPAIR : Nat := 0x600f0024
abbrev SCB_REPAIR_VALID : Fld := ⟨SCB_REPAIR, 31, 1⟩
abbrev SCB_REPAIR_ROW : Fld := ⟨SCB_REPAIR, 0, 10⟩
/-- LDG.WADDR, LDG.WDATA_LO, LDG.WDATA_HI — Ledger write address and data (10_memory_sram_dram_ledger.md). -/
abbrev LDG_WADDR : Nat := 0x600b0000
abbrev LDG_WADDR_VALUE : Fld := ⟨LDG_WADDR, 3, 29⟩
/-- LDG.WADDR, LDG.WDATA_LO, LDG.WDATA_HI — Ledger write address and data (10_memory_sram_dram_ledger.md). -/
abbrev LDG_WDATA_LO : Nat := 0x600b0004
abbrev LDG_WDATA_LO_VALUE : Fld := ⟨LDG_WDATA_LO, 0, 32⟩
/-- LDG.WADDR, LDG.WDATA_LO, LDG.WDATA_HI — Ledger write address and data (10_memory_sram_dram_ledger.md). -/
abbrev LDG_WDATA_HI : Nat := 0x600b0008
abbrev LDG_WDATA_HI_VALUE : Fld := ⟨LDG_WDATA_HI, 0, 32⟩
/-- LDG.CMD — Ledger write command (10_memory_sram_dram_ledger.md). -/
abbrev LDG_CMD : Nat := 0x600b000c
abbrev LDG_CMD_BUSY : Fld := ⟨LDG_CMD, 31, 1⟩
abbrev LDG_CMD_GO : Fld := ⟨LDG_CMD, 0, 1⟩
/-- LDG.STATUS — Ledger status (10_memory_sram_dram_ledger.md). -/
abbrev LDG_STATUS : Nat := 0x600b0010
abbrev LDG_STATUS_CE_COUNT : Fld := ⟨LDG_STATUS, 16, 16⟩
abbrev LDG_STATUS_LOCKED_WRITE : Fld := ⟨LDG_STATUS, 2, 1⟩
abbrev LDG_STATUS_GO_BUSY : Fld := ⟨LDG_STATUS, 1, 1⟩
abbrev LDG_STATUS_VERIFY_FAIL : Fld := ⟨LDG_STATUS, 0, 1⟩
/-- LDG.LOCK — Ledger region locks (10_memory_sram_dram_ledger.md). -/
abbrev LDG_LOCK : Nat := 0x600b0014
abbrev LDG_LOCK_KEY_READ : Fld := ⟨LDG_LOCK, 2, 1⟩
abbrev LDG_LOCK_KEY_WRITE : Fld := ⟨LDG_LOCK, 1, 1⟩
abbrev LDG_LOCK_OPTION_WRITE : Fld := ⟨LDG_LOCK, 0, 1⟩
/-- TG.CTRL(u) — unit control (11_tollgates_and_data_movers.md). -/
abbrev TG_CTRL (u : Nat) : Nat := 0x60080000 + 0x800 * u
abbrev TG_CTRL_SET (u : Nat) : Fld := ⟨TG_CTRL u, 4, 2⟩
abbrev TG_CTRL_COMMIT (u : Nat) : Fld := ⟨TG_CTRL u, 0, 1⟩
/-- TG.STATUS(u) — unit status (11_tollgates_and_data_movers.md). -/
abbrev TG_STATUS (u : Nat) : Nat := 0x60080004 + 0x800 * u
abbrev TG_STATUS_REFUSALS (u : Nat) : Fld := ⟨TG_STATUS u, 16, 16⟩
abbrev TG_STATUS_LOCK_HIT (u : Nat) : Fld := ⟨TG_STATUS u, 3, 1⟩
abbrev TG_STATUS_CFG_FAULT (u : Nat) : Fld := ⟨TG_STATUS u, 2, 1⟩
abbrev TG_STATUS_PENDING (u : Nat) : Fld := ⟨TG_STATUS u, 1, 1⟩
abbrev TG_STATUS_DRAIN (u : Nat) : Fld := ⟨TG_STATUS u, 0, 1⟩
/-- TG.MBASE(u,s,i), TG.MLIMIT(u,s,i) — memory slot range (11_tollgates_and_data_movers.md). -/
abbrev TG_MBASE (u s i : Nat) : Nat := 0x60080100 + 0x800 * u + 0x180 * s + 0x10 * i
abbrev TG_MBASE_ADDR (u s i : Nat) : Fld := ⟨TG_MBASE u s i, 0, 32⟩
/-- TG.MBASE(u,s,i), TG.MLIMIT(u,s,i) — memory slot range (11_tollgates_and_data_movers.md). -/
abbrev TG_MLIMIT (u s i : Nat) : Nat := 0x60080104 + 0x800 * u + 0x180 * s + 0x10 * i
abbrev TG_MLIMIT_ADDR (u s i : Nat) : Fld := ⟨TG_MLIMIT u s i, 0, 32⟩
/-- TG.MPERM(u,s,i) — memory slot permissions (11_tollgates_and_data_movers.md). -/
abbrev TG_MPERM (u s i : Nat) : Nat := 0x60080108 + 0x800 * u + 0x180 * s + 0x10 * i
abbrev TG_MPERM_VALID (u s i : Nat) : Fld := ⟨TG_MPERM u s i, 31, 1⟩
abbrev TG_MPERM_SHADOW (u s i : Nat) : Fld := ⟨TG_MPERM u s i, 29, 1⟩
abbrev TG_MPERM_PERM (u s i : Nat) : Fld := ⟨TG_MPERM u s i, 0, 9⟩
/-- TG.PSLOT(u,s,w) — peripheral slots (11_tollgates_and_data_movers.md). -/
abbrev TG_PSLOT (u s w : Nat) : Nat := 0x60080200 + 0x800 * u + 0x180 * s + 0x4 * w
abbrev TG_PSLOT_ENTRY (u s w k : Nat) : Fld := ⟨TG_PSLOT u s w, 8 * k, 8⟩
/-- TG.LOCK_BASE(k), TG.LOCK_LIMIT(k) — lock slot range (11_tollgates_and_data_movers.md). -/
abbrev TG_LOCK_BASE (k : Nat) : Nat := 0x6008f000 + 0x10 * k
abbrev TG_LOCK_BASE_ADDR (k : Nat) : Fld := ⟨TG_LOCK_BASE k, 0, 32⟩
/-- TG.LOCK_BASE(k), TG.LOCK_LIMIT(k) — lock slot range (11_tollgates_and_data_movers.md). -/
abbrev TG_LOCK_LIMIT (k : Nat) : Nat := 0x6008f004 + 0x10 * k
abbrev TG_LOCK_LIMIT_ADDR (k : Nat) : Fld := ⟨TG_LOCK_LIMIT k, 0, 32⟩
/-- TG.LOCK_PERM(k) — lock slot permissions (11_tollgates_and_data_movers.md). -/
abbrev TG_LOCK_PERM (k : Nat) : Nat := 0x6008f008 + 0x10 * k
abbrev TG_LOCK_PERM_VALID (k : Nat) : Fld := ⟨TG_LOCK_PERM k, 31, 1⟩
abbrev TG_LOCK_PERM_OWNER (k : Nat) : Fld := ⟨TG_LOCK_PERM k, 16, 8⟩
abbrev TG_LOCK_PERM_OWNER_XWR (k : Nat) : Fld := ⟨TG_LOCK_PERM k, 4, 3⟩
abbrev TG_LOCK_PERM_OTHER_XWR (k : Nat) : Fld := ⟨TG_LOCK_PERM k, 0, 3⟩
/-- TG.LOCK_STATUS — lock slot status (11_tollgates_and_data_movers.md). -/
abbrev TG_LOCK_STATUS : Nat := 0x6008f080
abbrev TG_LOCK_STATUS_OVERLAP : Fld := ⟨TG_LOCK_STATUS, 8, 1⟩
abbrev TG_LOCK_STATUS_VALID : Fld := ⟨TG_LOCK_STATUS, 0, 8⟩
/-- MVR.STATUS(m) — mover status (11_tollgates_and_data_movers.md). -/
abbrev MVR_STATUS (m : Nat) : Nat := 0x60110000 + 0x4000 * m
abbrev MVR_STATUS_HALTS (m : Nat) : Fld := ⟨MVR_STATUS m, 16, 16⟩
abbrev MVR_STATUS_ACTIVE (m : Nat) : Fld := ⟨MVR_STATUS m, 0, 7⟩
/-- MVR.CH_CFG(m,c) — channel configuration (11_tollgates_and_data_movers.md). -/
abbrev MVR_CH_CFG (m c : Nat) : Nat := 0x60110800 + 0x4000 * m + 0x20 * c
abbrev MVR_CH_CFG_OWNER (m c : Nat) : Fld := ⟨MVR_CH_CFG m c, 16, 8⟩
abbrev MVR_CH_CFG_PRIO (m c : Nat) : Fld := ⟨MVR_CH_CFG m c, 8, 2⟩
abbrev MVR_CH_CFG_LEVEL (m c : Nat) : Fld := ⟨MVR_CH_CFG m c, 4, 1⟩
abbrev MVR_CH_CFG_RETRY (m c : Nat) : Fld := ⟨MVR_CH_CFG m c, 1, 1⟩
abbrev MVR_CH_CFG_EN (m c : Nat) : Fld := ⟨MVR_CH_CFG m c, 0, 1⟩
/-- MVR.CH_DESC_LO(m,c), MVR.CH_DESC_HI(m,c) — descriptor address (11_tollgates_and_data_movers.md). -/
abbrev MVR_CH_DESC_LO (m c : Nat) : Nat := 0x60110804 + 0x4000 * m + 0x20 * c
abbrev MVR_CH_DESC_LO_ADDR (m c : Nat) : Fld := ⟨MVR_CH_DESC_LO m c, 5, 27⟩
/-- MVR.CH_DESC_LO(m,c), MVR.CH_DESC_HI(m,c) — descriptor address (11_tollgates_and_data_movers.md). -/
abbrev MVR_CH_DESC_HI (m c : Nat) : Nat := 0x60110808 + 0x4000 * m + 0x20 * c
abbrev MVR_CH_DESC_HI_ADDR (m c : Nat) : Fld := ⟨MVR_CH_DESC_HI m c, 0, 8⟩
/-- MVR.CH_CTRL(m,c) — channel command (11_tollgates_and_data_movers.md). -/
abbrev MVR_CH_CTRL (m c : Nat) : Nat := 0x6011080c + 0x4000 * m + 0x20 * c
abbrev MVR_CH_CTRL_ABORT (m c : Nat) : Fld := ⟨MVR_CH_CTRL m c, 2, 1⟩
abbrev MVR_CH_CTRL_RESUME (m c : Nat) : Fld := ⟨MVR_CH_CTRL m c, 1, 1⟩
abbrev MVR_CH_CTRL_GO (m c : Nat) : Fld := ⟨MVR_CH_CTRL m c, 0, 1⟩
/-- MVR.CH_STATUS(m,c) — channel status (11_tollgates_and_data_movers.md). -/
abbrev MVR_CH_STATUS (m c : Nat) : Nat := 0x60110810 + 0x4000 * m + 0x20 * c
abbrev MVR_CH_STATUS_WCOL (m c : Nat) : Fld := ⟨MVR_CH_STATUS m c, 24, 8⟩
abbrev MVR_CH_STATUS_STATE (m c : Nat) : Fld := ⟨MVR_CH_STATUS m c, 16, 3⟩
abbrev MVR_CH_STATUS_CODE (m c : Nat) : Fld := ⟨MVR_CH_STATUS m c, 0, 16⟩
/-- MVR.CH_FAULT_LO(m,c), MVR.CH_FAULT_HI(m,c), MVR.CH_REMAIN(m,c) — halt details (11_tollgates_and_data_movers.md). -/
abbrev MVR_CH_FAULT_LO (m c : Nat) : Nat := 0x60110814 + 0x4000 * m + 0x20 * c
abbrev MVR_CH_FAULT_LO_VALUE (m c : Nat) : Fld := ⟨MVR_CH_FAULT_LO m c, 0, 32⟩
/-- MVR.CH_FAULT_LO(m,c), MVR.CH_FAULT_HI(m,c), MVR.CH_REMAIN(m,c) — halt details (11_tollgates_and_data_movers.md). -/
abbrev MVR_CH_FAULT_HI (m c : Nat) : Nat := 0x60110818 + 0x4000 * m + 0x20 * c
abbrev MVR_CH_FAULT_HI_VALUE (m c : Nat) : Fld := ⟨MVR_CH_FAULT_HI m c, 0, 8⟩
/-- MVR.CH_FAULT_LO(m,c), MVR.CH_FAULT_HI(m,c), MVR.CH_REMAIN(m,c) — halt details (11_tollgates_and_data_movers.md). -/
abbrev MVR_CH_REMAIN (m c : Nat) : Nat := 0x6011081c + 0x4000 * m + 0x20 * c
abbrev MVR_CH_REMAIN_VALUE (m c : Nat) : Fld := ⟨MVR_CH_REMAIN m c, 0, 24⟩
/-- EVR.SWEV — software event (12_events_and_fault_reaction.md). -/
abbrev EVR_SWEV : Nat := 0x60050000
abbrev EVR_SWEV_NUM : Fld := ⟨EVR_SWEV, 0, 4⟩
/-- EVR.PEND(w) — pending events (12_events_and_fault_reaction.md). -/
abbrev EVR_PEND (w : Nat) : Nat := 0x60050100 + 0x4 * w
abbrev EVR_PEND_PEND (w : Nat) : Fld := ⟨EVR_PEND w, 0, 32⟩
/-- EVR.ROUTE(e) — event route (12_events_and_fault_reaction.md). -/
abbrev EVR_ROUTE (e : Nat) : Nat := 0x60051000 + 0x4 * e
abbrev EVR_ROUTE_TARGET (e : Nat) : Fld := ⟨EVR_ROUTE e, 16, 8⟩
abbrev EVR_ROUTE_LEVEL (e : Nat) : Fld := ⟨EVR_ROUTE e, 8, 1⟩
abbrev EVR_ROUTE_PRIO (e : Nat) : Fld := ⟨EVR_ROUTE e, 0, 4⟩
/-- FCU.CTRL — FCU control (12_events_and_fault_reaction.md). -/
abbrev FCU_CTRL : Nat := 0x60040000
abbrev FCU_CTRL_DEFER_MS : Fld := ⟨FCU_CTRL, 16, 14⟩
abbrev FCU_CTRL_FAULTN_SEV : Fld := ⟨FCU_CTRL, 4, 3⟩
abbrev FCU_CTRL_HOST : Fld := ⟨FCU_CTRL, 0, 1⟩
/-- FCU.STATUS — FCU status (12_events_and_fault_reaction.md). -/
abbrev FCU_STATUS : Nat := 0x60040004
abbrev FCU_STATUS_SAFE : Fld := ⟨FCU_STATUS, 31, 1⟩
abbrev FCU_STATUS_ARMED : Fld := ⟨FCU_STATUS, 30, 1⟩
abbrev FCU_STATUS_RESET_REQ : Fld := ⟨FCU_STATUS, 29, 1⟩
abbrev FCU_STATUS_DECIDE_LATE : Fld := ⟨FCU_STATUS, 28, 1⟩
abbrev FCU_STATUS_SAFE_CH : Fld := ⟨FCU_STATUS, 0, 9⟩
/-- FCU.ARM — leave the start-up safe state (12_events_and_fault_reaction.md). -/
abbrev FCU_ARM : Nat := 0x60040008
abbrev FCU_ARM_ARM : Fld := ⟨FCU_ARM, 0, 1⟩
/-- FCU.MUTE — mute outputs (12_events_and_fault_reaction.md). -/
abbrev FCU_MUTE : Nat := 0x6004000c
abbrev FCU_MUTE_MUTE : Fld := ⟨FCU_MUTE, 0, 4⟩
/-- FCU.SAFE_CFG — safe-state configuration (12_events_and_fault_reaction.md). -/
abbrev FCU_SAFE_CFG : Nat := 0x60040010
abbrev FCU_SAFE_CFG_TDM_HIZ : Fld := ⟨FCU_SAFE_CFG, 16, 1⟩
abbrev FCU_SAFE_CFG_RESET_DELAY : Fld := ⟨FCU_SAFE_CFG, 0, 10⟩
/-- FCU.GPIO_SAFE — GPIO safe levels (12_events_and_fault_reaction.md). -/
abbrev FCU_GPIO_SAFE : Nat := 0x60040014
abbrev FCU_GPIO_SAFE_OE : Fld := ⟨FCU_GPIO_SAFE, 16, 16⟩
abbrev FCU_GPIO_SAFE_LEVEL : Fld := ⟨FCU_GPIO_SAFE, 0, 16⟩
/-- FCU.DECIDE — host choice for a deferred raise (12_events_and_fault_reaction.md). -/
abbrev FCU_DECIDE : Nat := 0x60040018
abbrev FCU_DECIDE_GO : Fld := ⟨FCU_DECIDE, 31, 1⟩
abbrev FCU_DECIDE_SEV : Fld := ⟨FCU_DECIDE, 16, 3⟩
abbrev FCU_DECIDE_CHANNEL : Fld := ⟨FCU_DECIDE, 0, 9⟩
/-- FCU.LOST — lost errors (12_events_and_fault_reaction.md). -/
abbrev FCU_LOST : Nat := 0x6004001c
abbrev FCU_LOST_LOST : Fld := ⟨FCU_LOST, 31, 1⟩
abbrev FCU_LOST_COUNT : Fld := ⟨FCU_LOST, 0, 16⟩
/-- FCU.FIRST_CH — first-error record (12_events_and_fault_reaction.md). -/
abbrev FCU_FIRST_CH : Nat := 0x60040020
abbrev FCU_FIRST_CH_VALID : Fld := ⟨FCU_FIRST_CH, 31, 1⟩
abbrev FCU_FIRST_CH_PTP : Fld := ⟨FCU_FIRST_CH, 30, 1⟩
abbrev FCU_FIRST_CH_ADDR_VALID : Fld := ⟨FCU_FIRST_CH, 29, 1⟩
abbrev FCU_FIRST_CH_SEV : Fld := ⟨FCU_FIRST_CH, 25, 3⟩
abbrev FCU_FIRST_CH_CHANNEL : Fld := ⟨FCU_FIRST_CH, 16, 9⟩
abbrev FCU_FIRST_CH_MASTER : Fld := ⟨FCU_FIRST_CH, 8, 8⟩
abbrev FCU_FIRST_CH_TYPE : Fld := ⟨FCU_FIRST_CH, 0, 4⟩
/-- FCU.FIRST_ADDR_LO, FCU.FIRST_ADDR_HI, FCU.FIRST_TIME_LO, FCU.FIRST_TIME_HI — first-error address and time (12_events_and_fault_reaction.md). -/
abbrev FCU_FIRST_ADDR_LO : Nat := 0x60040024
abbrev FCU_FIRST_ADDR_LO_VALUE : Fld := ⟨FCU_FIRST_ADDR_LO, 0, 32⟩
/-- FCU.FIRST_ADDR_LO, FCU.FIRST_ADDR_HI, FCU.FIRST_TIME_LO, FCU.FIRST_TIME_HI — first-error address and time (12_events_and_fault_reaction.md). -/
abbrev FCU_FIRST_ADDR_HI : Nat := 0x60040028
abbrev FCU_FIRST_ADDR_HI_VALUE : Fld := ⟨FCU_FIRST_ADDR_HI, 0, 8⟩
/-- FCU.FIRST_ADDR_LO, FCU.FIRST_ADDR_HI, FCU.FIRST_TIME_LO, FCU.FIRST_TIME_HI — first-error address and time (12_events_and_fault_reaction.md). -/
abbrev FCU_FIRST_TIME_LO : Nat := 0x6004002c
abbrev FCU_FIRST_TIME_LO_VALUE : Fld := ⟨FCU_FIRST_TIME_LO, 0, 32⟩
/-- FCU.FIRST_ADDR_LO, FCU.FIRST_ADDR_HI, FCU.FIRST_TIME_LO, FCU.FIRST_TIME_HI — first-error address and time (12_events_and_fault_reaction.md). -/
abbrev FCU_FIRST_TIME_HI : Nat := 0x60040030
abbrev FCU_FIRST_TIME_HI_VALUE : Fld := ⟨FCU_FIRST_TIME_HI, 0, 32⟩
/-- FCU.FIRST_ACK — release the record (12_events_and_fault_reaction.md). -/
abbrev FCU_FIRST_ACK : Nat := 0x60040034
abbrev FCU_FIRST_ACK_ACK : Fld := ⟨FCU_FIRST_ACK, 0, 1⟩
/-- FCU.QUEUE — raise queue (12_events_and_fault_reaction.md). -/
abbrev FCU_QUEUE : Nat := 0x60040038
abbrev FCU_QUEUE_VALID : Fld := ⟨FCU_QUEUE, 31, 1⟩
abbrev FCU_QUEUE_SEV : Fld := ⟨FCU_QUEUE, 25, 3⟩
abbrev FCU_QUEUE_CHANNEL : Fld := ⟨FCU_QUEUE, 16, 9⟩
abbrev FCU_QUEUE_TIME_US : Fld := ⟨FCU_QUEUE, 0, 16⟩
/-- FCU.COUNT_CFG(k) — count-in-window classification (12_events_and_fault_reaction.md). -/
abbrev FCU_COUNT_CFG (k : Nat) : Nat := 0x60040040 + 0x4 * k
abbrev FCU_COUNT_CFG_N (k : Nat) : Fld := ⟨FCU_COUNT_CFG k, 24, 8⟩
abbrev FCU_COUNT_CFG_BASE (k : Nat) : Fld := ⟨FCU_COUNT_CFG k, 16, 3⟩
abbrev FCU_COUNT_CFG_T_MS (k : Nat) : Fld := ⟨FCU_COUNT_CFG k, 0, 16⟩
/-- FCU.CH_CFG(n) — channel configuration (12_events_and_fault_reaction.md). -/
abbrev FCU_CH_CFG (n : Nat) : Nat := 0x60041000 + 0x4 * n
abbrev FCU_CH_CFG_DEFERRABLE (n : Nat) : Fld := ⟨FCU_CH_CFG n, 31, 1⟩
abbrev FCU_CH_CFG_RESET (n : Nat) : Fld := ⟨FCU_CH_CFG n, 29, 1⟩
abbrev FCU_CH_CFG_SEV_MIN (n : Nat) : Fld := ⟨FCU_CH_CFG n, 8, 3⟩
abbrev FCU_CH_CFG_SEV (n : Nat) : Fld := ⟨FCU_CH_CFG n, 0, 3⟩
/-- FCU.CH_STATUS(n) — channel status (12_events_and_fault_reaction.md). -/
abbrev FCU_CH_STATUS (n : Nat) : Nat := 0x60042000 + 0x4 * n
abbrev FCU_CH_STATUS_PEND (n : Nat) : Fld := ⟨FCU_CH_STATUS n, 31, 1⟩
abbrev FCU_CH_STATUS_BROKEN (n : Nat) : Fld := ⟨FCU_CH_STATUS n, 30, 1⟩
abbrev FCU_CH_STATUS_DEFERRED (n : Nat) : Fld := ⟨FCU_CH_STATUS n, 29, 1⟩
abbrev FCU_CH_STATUS_LOST (n : Nat) : Fld := ⟨FCU_CH_STATUS n, 28, 1⟩
abbrev FCU_CH_STATUS_LAST_SEV (n : Nat) : Fld := ⟨FCU_CH_STATUS n, 24, 3⟩
abbrev FCU_CH_STATUS_COUNT (n : Nat) : Fld := ⟨FCU_CH_STATUS n, 0, 16⟩
/-- MSW.CTRL — Milestone control (13_milestone_and_waymarks.md). -/
abbrev MSW_CTRL : Nat := 0x60030000
abbrev MSW_CTRL_LOCK : Fld := ⟨MSW_CTRL, 1, 1⟩
abbrev MSW_CTRL_EN : Fld := ⟨MSW_CTRL, 0, 1⟩
/-- MSW.STATUS — Milestone status (13_milestone_and_waymarks.md). -/
abbrev MSW_STATUS : Nat := 0x60030004
abbrev MSW_STATUS_CFG_ERR : Fld := ⟨MSW_STATUS, 10, 1⟩
abbrev MSW_STATUS_DIS_REFUSED : Fld := ⟨MSW_STATUS, 9, 1⟩
abbrev MSW_STATUS_KEY_SET : Fld := ⟨MSW_STATUS, 8, 1⟩
abbrev MSW_STATUS_CAUSE : Fld := ⟨MSW_STATUS, 4, 2⟩
abbrev MSW_STATUS_STATE : Fld := ⟨MSW_STATUS, 0, 2⟩
/-- MSW.OPEN, MSW.CLOSE, MSW.GRACE — window settings (13_milestone_and_waymarks.md). -/
abbrev MSW_OPEN : Nat := 0x60030008
abbrev MSW_OPEN_TICKS : Fld := ⟨MSW_OPEN, 0, 24⟩
/-- MSW.OPEN, MSW.CLOSE, MSW.GRACE — window settings (13_milestone_and_waymarks.md). -/
abbrev MSW_CLOSE : Nat := 0x6003000c
abbrev MSW_CLOSE_TICKS : Fld := ⟨MSW_CLOSE, 0, 24⟩
/-- MSW.OPEN, MSW.CLOSE, MSW.GRACE — window settings (13_milestone_and_waymarks.md). -/
abbrev MSW_GRACE : Nat := 0x60030010
abbrev MSW_GRACE_TICKS : Fld := ⟨MSW_GRACE, 0, 24⟩
/-- MSW.QUESTION — question (13_milestone_and_waymarks.md). -/
abbrev MSW_QUESTION : Nat := 0x60030014
abbrev MSW_QUESTION_Q : Fld := ⟨MSW_QUESTION, 0, 16⟩
/-- MSW.KEY, MSW.TOKEN, MSW.DISABLE — key, service and disable (13_milestone_and_waymarks.md). -/
abbrev MSW_KEY : Nat := 0x60030018
abbrev MSW_KEY_VALUE : Fld := ⟨MSW_KEY, 0, 32⟩
/-- MSW.KEY, MSW.TOKEN, MSW.DISABLE — key, service and disable (13_milestone_and_waymarks.md). -/
abbrev MSW_TOKEN : Nat := 0x6003001c
abbrev MSW_TOKEN_T_HI : Fld := ⟨MSW_TOKEN, 16, 16⟩
abbrev MSW_TOKEN_T_LO : Fld := ⟨MSW_TOKEN, 0, 16⟩
/-- MSW.KEY, MSW.TOKEN, MSW.DISABLE — key, service and disable (13_milestone_and_waymarks.md). -/
abbrev MSW_DISABLE : Nat := 0x60030020
abbrev MSW_DISABLE_VALUE : Fld := ⟨MSW_DISABLE, 0, 32⟩
/-- MSW.TICKS, MSW.LAST_TICK, MSW.BAD_TICK, MSW.BAD_TOKEN — tick count and captures (13_milestone_and_waymarks.md). -/
abbrev MSW_TICKS : Nat := 0x60030024
abbrev MSW_TICKS_VALUE : Fld := ⟨MSW_TICKS, 0, 32⟩
/-- MSW.TICKS, MSW.LAST_TICK, MSW.BAD_TICK, MSW.BAD_TOKEN — tick count and captures (13_milestone_and_waymarks.md). -/
abbrev MSW_LAST_TICK : Nat := 0x60030028
abbrev MSW_LAST_TICK_VALUE : Fld := ⟨MSW_LAST_TICK, 0, 32⟩
/-- MSW.TICKS, MSW.LAST_TICK, MSW.BAD_TICK, MSW.BAD_TOKEN — tick count and captures (13_milestone_and_waymarks.md). -/
abbrev MSW_BAD_TICK : Nat := 0x6003002c
abbrev MSW_BAD_TICK_VALUE : Fld := ⟨MSW_BAD_TICK, 0, 32⟩
/-- MSW.TICKS, MSW.LAST_TICK, MSW.BAD_TICK, MSW.BAD_TOKEN — tick count and captures (13_milestone_and_waymarks.md). -/
abbrev MSW_BAD_TOKEN : Nat := 0x60030030
abbrev MSW_BAD_TOKEN_VALUE : Fld := ⟨MSW_BAD_TOKEN, 0, 32⟩
/-- MSW.COUNTS — service counts (13_milestone_and_waymarks.md). -/
abbrev MSW_COUNTS : Nat := 0x60030034
abbrev MSW_COUNTS_LATE : Fld := ⟨MSW_COUNTS, 16, 16⟩
abbrev MSW_COUNTS_INVALID : Fld := ⟨MSW_COUNTS, 0, 16⟩
/-- MSW.RESETS — watchdog reset count (13_milestone_and_waymarks.md). -/
abbrev MSW_RESETS : Nat := 0x60030038
abbrev MSW_RESETS_COUNT : Fld := ⟨MSW_RESETS, 0, 16⟩
/-- WMK.EXPECT(p,k) — expected check-ins (13_milestone_and_waymarks.md). -/
abbrev WMK_EXPECT (p k : Nat) : Nat := 0x60060000 + 0x1000 * p + 0x4 * k
abbrev WMK_EXPECT_EXPECT (p k : Nat) : Fld := ⟨WMK_EXPECT p k, 0, 16⟩
/-- WMK.WINDOW(p) — open window (13_milestone_and_waymarks.md). -/
abbrev WMK_WINDOW (p : Nat) : Nat := 0x60060400 + 0x1000 * p
abbrev WMK_WINDOW_OPEN (p : Nat) : Fld := ⟨WMK_WINDOW p, 31, 1⟩
abbrev WMK_WINDOW_DISCARD (p : Nat) : Fld := ⟨WMK_WINDOW p, 30, 1⟩
abbrev WMK_WINDOW_FLAGS (p : Nat) : Fld := ⟨WMK_WINDOW p, 16, 8⟩
abbrev WMK_WINDOW_TASK (p : Nat) : Fld := ⟨WMK_WINDOW p, 8, 8⟩
/-- WMK.CAP(p) — last flag (13_milestone_and_waymarks.md). -/
abbrev WMK_CAP (p : Nat) : Nat := 0x60060404 + 0x1000 * p
abbrev WMK_CAP_KIND (p : Nat) : Fld := ⟨WMK_CAP p, 30, 2⟩
abbrev WMK_CAP_NO_CHECKIN (p : Nat) : Fld := ⟨WMK_CAP p, 29, 1⟩
abbrev WMK_CAP_TASK (p : Nat) : Fld := ⟨WMK_CAP p, 16, 8⟩
abbrev WMK_CAP_POINT (p : Nat) : Fld := ⟨WMK_CAP p, 4, 12⟩
/-- WMK.CAP_PC_LO, WMK.CAP_PC_HI, WMK.CAP_TIME_LO, WMK.CAP_TIME_HI — flag captures (13_milestone_and_waymarks.md). -/
abbrev WMK_CAP_PC_LO (p : Nat) : Nat := 0x60060408 + 0x1000 * p
abbrev WMK_CAP_PC_LO_VALUE (p : Nat) : Fld := ⟨WMK_CAP_PC_LO p, 0, 32⟩
/-- WMK.CAP_PC_LO, WMK.CAP_PC_HI, WMK.CAP_TIME_LO, WMK.CAP_TIME_HI — flag captures (13_milestone_and_waymarks.md). -/
abbrev WMK_CAP_PC_HI (p : Nat) : Nat := 0x6006040c + 0x1000 * p
abbrev WMK_CAP_PC_HI_VALUE (p : Nat) : Fld := ⟨WMK_CAP_PC_HI p, 0, 8⟩
/-- WMK.CAP_PC_LO, WMK.CAP_PC_HI, WMK.CAP_TIME_LO, WMK.CAP_TIME_HI — flag captures (13_milestone_and_waymarks.md). -/
abbrev WMK_CAP_TIME_LO (p : Nat) : Nat := 0x60060410 + 0x1000 * p
abbrev WMK_CAP_TIME_LO_VALUE (p : Nat) : Fld := ⟨WMK_CAP_TIME_LO p, 0, 32⟩
/-- WMK.CAP_PC_LO, WMK.CAP_PC_HI, WMK.CAP_TIME_LO, WMK.CAP_TIME_HI — flag captures (13_milestone_and_waymarks.md). -/
abbrev WMK_CAP_TIME_HI (p : Nat) : Nat := 0x60060414 + 0x1000 * p
abbrev WMK_CAP_TIME_HI_VALUE (p : Nat) : Fld := ⟨WMK_CAP_TIME_HI p, 0, 32⟩
/-- WMK.SUP_CFG(a) — supervisor activity (13_milestone_and_waymarks.md). -/
abbrev WMK_SUP_CFG (a : Nat) : Nat := 0x60072000 + 0x8 * a
abbrev WMK_SUP_CFG_EN (a : Nat) : Fld := ⟨WMK_SUP_CFG a, 31, 1⟩
abbrev WMK_SUP_CFG_PERIOD_MS (a : Nat) : Fld := ⟨WMK_SUP_CFG a, 16, 12⟩
abbrev WMK_SUP_CFG_EXPECT (a : Nat) : Fld := ⟨WMK_SUP_CFG a, 0, 16⟩
/-- WMK.SUP_CHECKIN(a) — supervisor check-in (13_milestone_and_waymarks.md). -/
abbrev WMK_SUP_CHECKIN (a : Nat) : Nat := 0x60072004 + 0x8 * a
abbrev WMK_SUP_CHECKIN_SITE (a : Nat) : Fld := ⟨WMK_SUP_CHECKIN a, 0, 32⟩
/-- WMK.SUP_CAP, WMK.SUP_CAP_SITE, WMK.SUP_CAP_TIME_LO, WMK.SUP_CAP_TIME_HI — supervisor flag captures (13_milestone_and_waymarks.md). -/
abbrev WMK_SUP_CAP : Nat := 0x60072100
abbrev WMK_SUP_CAP_KIND : Fld := ⟨WMK_SUP_CAP, 30, 2⟩
abbrev WMK_SUP_CAP_NO_CHECKIN : Fld := ⟨WMK_SUP_CAP, 29, 1⟩
abbrev WMK_SUP_CAP_ACTIVITY : Fld := ⟨WMK_SUP_CAP, 16, 4⟩
abbrev WMK_SUP_CAP_COUNT : Fld := ⟨WMK_SUP_CAP, 0, 16⟩
/-- WMK.SUP_CAP, WMK.SUP_CAP_SITE, WMK.SUP_CAP_TIME_LO, WMK.SUP_CAP_TIME_HI — supervisor flag captures (13_milestone_and_waymarks.md). -/
abbrev WMK_SUP_CAP_SITE : Nat := 0x60072104
abbrev WMK_SUP_CAP_SITE_VALUE : Fld := ⟨WMK_SUP_CAP_SITE, 0, 32⟩
/-- WMK.SUP_CAP, WMK.SUP_CAP_SITE, WMK.SUP_CAP_TIME_LO, WMK.SUP_CAP_TIME_HI — supervisor flag captures (13_milestone_and_waymarks.md). -/
abbrev WMK_SUP_CAP_TIME_LO : Nat := 0x60072108
abbrev WMK_SUP_CAP_TIME_LO_VALUE : Fld := ⟨WMK_SUP_CAP_TIME_LO, 0, 32⟩
/-- WMK.SUP_CAP, WMK.SUP_CAP_SITE, WMK.SUP_CAP_TIME_LO, WMK.SUP_CAP_TIME_HI — supervisor flag captures (13_milestone_and_waymarks.md). -/
abbrev WMK_SUP_CAP_TIME_HI : Nat := 0x6007210c
abbrev WMK_SUP_CAP_TIME_HI_VALUE : Fld := ⟨WMK_SUP_CAP_TIME_HI, 0, 32⟩
/-- RST.CAUSE — reset cause latch (14_reset_power_and_boot.md). -/
abbrev RST_CAUSE : Nat := 0x60010000
abbrev RST_CAUSE_WAKE : Fld := ⟨RST_CAUSE, 5, 1⟩
abbrev RST_CAUSE_PROSAL : Fld := ⟨RST_CAUSE, 4, 1⟩
abbrev RST_CAUSE_SAFE : Fld := ⟨RST_CAUSE, 3, 1⟩
abbrev RST_CAUSE_MILESTONE : Fld := ⟨RST_CAUSE, 2, 1⟩
abbrev RST_CAUSE_EXT : Fld := ⟨RST_CAUSE, 1, 1⟩
abbrev RST_CAUSE_POR : Fld := ⟨RST_CAUSE, 0, 1⟩
/-- RST.COUNT, RST.WDOG — reset counts (14_reset_power_and_boot.md). -/
abbrev RST_COUNT : Nat := 0x60010004
abbrev RST_COUNT_COUNT : Fld := ⟨RST_COUNT, 0, 32⟩
/-- RST.COUNT, RST.WDOG — reset counts (14_reset_power_and_boot.md). -/
abbrev RST_WDOG : Nat := 0x60010008
abbrev RST_WDOG_COUNT : Fld := ⟨RST_WDOG, 0, 16⟩
/-- RST.REQ — Prosal reset (14_reset_power_and_boot.md). -/
abbrev RST_REQ : Nat := 0x6001000c
abbrev RST_REQ_CODE : Fld := ⟨RST_REQ, 0, 16⟩
/-- RST.MARCH — march granule record (14_reset_power_and_boot.md). -/
abbrev RST_MARCH : Nat := 0x60010010
abbrev RST_MARCH_VALID : Fld := ⟨RST_MARCH, 31, 1⟩
abbrev RST_MARCH_SUBCH : Fld := ⟨RST_MARCH, 21, 3⟩
abbrev RST_MARCH_PAGE : Fld := ⟨RST_MARCH, 0, 21⟩
/-- SEN.BKP_STATUS — backup domain status (14_reset_power_and_boot.md). -/
abbrev SEN_BKP_STATUS : Nat := 0x60000000
abbrev SEN_BKP_STATUS_VBKP_LOW : Fld := ⟨SEN_BKP_STATUS, 2, 1⟩
abbrev SEN_BKP_STATUS_LOST : Fld := ⟨SEN_BKP_STATUS, 1, 1⟩
abbrev SEN_BKP_STATUS_TIME_VALID : Fld := ⟨SEN_BKP_STATUS, 0, 1⟩
/-- SEN.TIME_LO, SEN.TIME_HI, SEN.ALARM_LO, SEN.ALARM_HI — backup time (14_reset_power_and_boot.md). -/
abbrev SEN_TIME_LO : Nat := 0x60000008
abbrev SEN_TIME_LO_VALUE : Fld := ⟨SEN_TIME_LO, 0, 32⟩
/-- SEN.TIME_LO, SEN.TIME_HI, SEN.ALARM_LO, SEN.ALARM_HI — backup time (14_reset_power_and_boot.md). -/
abbrev SEN_TIME_HI : Nat := 0x6000000c
abbrev SEN_TIME_HI_VALUE : Fld := ⟨SEN_TIME_HI, 0, 16⟩
/-- SEN.TIME_LO, SEN.TIME_HI, SEN.ALARM_LO, SEN.ALARM_HI — backup time (14_reset_power_and_boot.md). -/
abbrev SEN_ALARM_LO : Nat := 0x60000010
abbrev SEN_ALARM_LO_VALUE : Fld := ⟨SEN_ALARM_LO, 0, 32⟩
/-- SEN.TIME_LO, SEN.TIME_HI, SEN.ALARM_LO, SEN.ALARM_HI — backup time (14_reset_power_and_boot.md). -/
abbrev SEN_ALARM_HI : Nat := 0x60000014
abbrev SEN_ALARM_HI_VALUE : Fld := ⟨SEN_ALARM_HI, 0, 16⟩
/-- SEN.FIRST_CH, SEN.FIRST_ADDR_LO, SEN.FIRST_ADDR_HI, SEN.FIRST_TIME_LO, SEN.FIRST_TIME_HI — first-error copy (14_reset_power_and_boot.md). -/
abbrev SEN_FIRST_CH : Nat := 0x60000020
abbrev SEN_FIRST_CH_VALUE : Fld := ⟨SEN_FIRST_CH, 0, 32⟩
/-- SEN.FIRST_CH, SEN.FIRST_ADDR_LO, SEN.FIRST_ADDR_HI, SEN.FIRST_TIME_LO, SEN.FIRST_TIME_HI — first-error copy (14_reset_power_and_boot.md). -/
abbrev SEN_FIRST_ADDR_LO : Nat := 0x60000024
abbrev SEN_FIRST_ADDR_LO_VALUE : Fld := ⟨SEN_FIRST_ADDR_LO, 0, 32⟩
/-- SEN.FIRST_CH, SEN.FIRST_ADDR_LO, SEN.FIRST_ADDR_HI, SEN.FIRST_TIME_LO, SEN.FIRST_TIME_HI — first-error copy (14_reset_power_and_boot.md). -/
abbrev SEN_FIRST_ADDR_HI : Nat := 0x60000028
abbrev SEN_FIRST_ADDR_HI_VALUE : Fld := ⟨SEN_FIRST_ADDR_HI, 0, 8⟩
/-- SEN.FIRST_CH, SEN.FIRST_ADDR_LO, SEN.FIRST_ADDR_HI, SEN.FIRST_TIME_LO, SEN.FIRST_TIME_HI — first-error copy (14_reset_power_and_boot.md). -/
abbrev SEN_FIRST_TIME_LO : Nat := 0x6000002c
abbrev SEN_FIRST_TIME_LO_VALUE : Fld := ⟨SEN_FIRST_TIME_LO, 0, 32⟩
/-- SEN.FIRST_CH, SEN.FIRST_ADDR_LO, SEN.FIRST_ADDR_HI, SEN.FIRST_TIME_LO, SEN.FIRST_TIME_HI — first-error copy (14_reset_power_and_boot.md). -/
abbrev SEN_FIRST_TIME_HI : Nat := 0x60000030
abbrev SEN_FIRST_TIME_HI_VALUE : Fld := ⟨SEN_FIRST_TIME_HI, 0, 32⟩
/-- SEN.OPTION_LO(i), SEN.OPTION_HI(i) — voted option words (14_reset_power_and_boot.md). -/
abbrev SEN_OPTION_LO (i : Nat) : Nat := 0x60000400 + 0x8 * i
abbrev SEN_OPTION_LO_VALUE (i : Nat) : Fld := ⟨SEN_OPTION_LO i, 0, 32⟩
/-- SEN.OPTION_LO(i), SEN.OPTION_HI(i) — voted option words (14_reset_power_and_boot.md). -/
abbrev SEN_OPTION_HI (i : Nat) : Nat := 0x60000404 + 0x8 * i
abbrev SEN_OPTION_HI_VALUE (i : Nat) : Fld := ⟨SEN_OPTION_HI i, 0, 32⟩
/-- PWR.STATE, PWR.CMD, PWR.WAKE — device power (14_reset_power_and_boot.md). -/
abbrev PWR_STATE : Nat := 0x60020000
abbrev PWR_STATE_STATE : Fld := ⟨PWR_STATE, 0, 3⟩
/-- PWR.STATE, PWR.CMD, PWR.WAKE — device power (14_reset_power_and_boot.md). -/
abbrev PWR_CMD : Nat := 0x60020004
abbrev PWR_CMD_CMD : Fld := ⟨PWR_CMD, 0, 16⟩
/-- PWR.STATE, PWR.CMD, PWR.WAKE — device power (14_reset_power_and_boot.md). -/
abbrev PWR_WAKE : Nat := 0x60020008
abbrev PWR_WAKE_POL : Fld := ⟨PWR_WAKE, 16, 16⟩
abbrev PWR_WAKE_EN : Fld := ⟨PWR_WAKE, 0, 16⟩
/-- PWR.CLUSTER(n) — cluster power (14_reset_power_and_boot.md). -/
abbrev PWR_CLUSTER (n : Nat) : Nat := 0x60020100 + 0x4 * n
abbrev PWR_CLUSTER_STATE (n : Nat) : Fld := ⟨PWR_CLUSTER n, 16, 3⟩
abbrev PWR_CLUSTER_OP (n : Nat) : Fld := ⟨PWR_CLUSTER n, 12, 2⟩
abbrev PWR_CLUSTER_PIN (n : Nat) : Fld := ⟨PWR_CLUSTER n, 8, 3⟩
/-- SOV.CTRL — twin control (15_twin_pairing_sorov_link.md). -/
abbrev SOV_CTRL : Nat := 0x60150000
abbrev SOV_CTRL_REPAIR_LEAD : Fld := ⟨SOV_CTRL, 16, 8⟩
abbrev SOV_CTRL_ROLE_GPIO : Fld := ⟨SOV_CTRL, 5, 4⟩
abbrev SOV_CTRL_ROLE_GPIO_EN : Fld := ⟨SOV_CTRL, 4, 1⟩
abbrev SOV_CTRL_TDM_SHARE : Fld := ⟨SOV_CTRL, 3, 1⟩
abbrev SOV_CTRL_PREFER_PRIMARY : Fld := ⟨SOV_CTRL, 2, 1⟩
abbrev SOV_CTRL_HOST : Fld := ⟨SOV_CTRL, 1, 1⟩
abbrev SOV_CTRL_EN : Fld := ⟨SOV_CTRL, 0, 1⟩
/-- SOV.STATUS — twin status (15_twin_pairing_sorov_link.md). -/
abbrev SOV_STATUS : Nat := 0x60150004
abbrev SOV_STATUS_CHAN_UP : Fld := ⟨SOV_STATUS, 16, 4⟩
abbrev SOV_STATUS_COMPARE : Fld := ⟨SOV_STATUS, 13, 1⟩
abbrev SOV_STATUS_CLASS_DIFF : Fld := ⟨SOV_STATUS, 12, 1⟩
abbrev SOV_STATUS_PEER_TAKE : Fld := ⟨SOV_STATUS, 10, 2⟩
abbrev SOV_STATUS_PEER_HEALTH : Fld := ⟨SOV_STATUS, 8, 2⟩
abbrev SOV_STATUS_PEER_READY : Fld := ⟨SOV_STATUS, 7, 1⟩
abbrev SOV_STATUS_LINK : Fld := ⟨SOV_STATUS, 4, 3⟩
abbrev SOV_STATUS_ROLE : Fld := ⟨SOV_STATUS, 0, 4⟩
/-- SOV.CHAN(k) — serial channel status (15_twin_pairing_sorov_link.md). -/
abbrev SOV_CHAN (k : Nat) : Nat := 0x60150010 + 0x4 * k
abbrev SOV_CHAN_CRC_ERR (k : Nat) : Fld := ⟨SOV_CHAN k, 16, 16⟩
abbrev SOV_CHAN_FAILS (k : Nat) : Fld := ⟨SOV_CHAN k, 8, 8⟩
abbrev SOV_CHAN_STATE (k : Nat) : Fld := ⟨SOV_CHAN k, 0, 2⟩
/-- SOV.PEER, SOV.PEER_CLASS — partner version (15_twin_pairing_sorov_link.md). -/
abbrev SOV_PEER : Nat := 0x60150020
abbrev SOV_PEER_LINK_PROTO : Fld := ⟨SOV_PEER, 16, 16⟩
abbrev SOV_PEER_PROSAL : Fld := ⟨SOV_PEER, 0, 16⟩
/-- SOV.PEER, SOV.PEER_CLASS — partner version (15_twin_pairing_sorov_link.md). -/
abbrev SOV_PEER_CLASS : Nat := 0x60150024
abbrev SOV_PEER_CLASS_VALUE : Fld := ⟨SOV_PEER_CLASS, 0, 32⟩
/-- SOV.TAKE_LO, SOV.TAKE_HI — last takeover or swap (15_twin_pairing_sorov_link.md). -/
abbrev SOV_TAKE_LO : Nat := 0x60150030
abbrev SOV_TAKE_LO_BLOCK : Fld := ⟨SOV_TAKE_LO, 0, 32⟩
/-- SOV.TAKE_LO, SOV.TAKE_HI — last takeover or swap (15_twin_pairing_sorov_link.md). -/
abbrev SOV_TAKE_HI : Nat := 0x60150034
abbrev SOV_TAKE_HI_BLOCK : Fld := ⟨SOV_TAKE_HI, 0, 32⟩
/-- SOV.TAKE_INFO — takeover record (15_twin_pairing_sorov_link.md). -/
abbrev SOV_TAKE_INFO : Nat := 0x60150038
abbrev SOV_TAKE_INFO_COUNT : Fld := ⟨SOV_TAKE_INFO, 16, 16⟩
abbrev SOV_TAKE_INFO_GAVE : Fld := ⟨SOV_TAKE_INFO, 4, 1⟩
abbrev SOV_TAKE_INFO_CAUSE : Fld := ⟨SOV_TAKE_INFO, 0, 4⟩
/-- SOV.COMPARE, SOV.VIOL — comparison and violation counts (15_twin_pairing_sorov_link.md). -/
abbrev SOV_COMPARE : Nat := 0x60150040
abbrev SOV_COMPARE_DIVERGENCES : Fld := ⟨SOV_COMPARE, 16, 16⟩
abbrev SOV_COMPARE_EXCUSED : Fld := ⟨SOV_COMPARE, 0, 16⟩
/-- SOV.COMPARE, SOV.VIOL — comparison and violation counts (15_twin_pairing_sorov_link.md). -/
abbrev SOV_VIOL : Nat := 0x60150044
abbrev SOV_VIOL_FRAME_ERR : Fld := ⟨SOV_VIOL, 16, 16⟩
abbrev SOV_VIOL_SEQ_GAP : Fld := ⟨SOV_VIOL, 0, 16⟩
/-- SOV.JOIN — join progress (15_twin_pairing_sorov_link.md). -/
abbrev SOV_JOIN : Nat := 0x60150048
abbrev SOV_JOIN_PHASE : Fld := ⟨SOV_JOIN, 30, 2⟩
abbrev SOV_JOIN_FAILS : Fld := ⟨SOV_JOIN, 16, 14⟩
abbrev SOV_JOIN_BACKLOG : Fld := ⟨SOV_JOIN, 0, 16⟩
/-- SOV.JOIN_LO, SOV.JOIN_HI — join block (15_twin_pairing_sorov_link.md). -/
abbrev SOV_JOIN_LO : Nat := 0x60150050
abbrev SOV_JOIN_LO_J : Fld := ⟨SOV_JOIN_LO, 0, 32⟩
/-- SOV.JOIN_LO, SOV.JOIN_HI — join block (15_twin_pairing_sorov_link.md). -/
abbrev SOV_JOIN_HI : Nat := 0x60150054
abbrev SOV_JOIN_HI_J : Fld := ⟨SOV_JOIN_HI, 0, 32⟩
/-- SOV.PSEQ — parameter sequence (15_twin_pairing_sorov_link.md). -/
abbrev SOV_PSEQ : Nat := 0x60150058
abbrev SOV_PSEQ_PSEQ : Fld := ⟨SOV_PSEQ, 0, 32⟩
/-- MBX.CTRL — mailbox control (16_prosal_host_interface.md). -/
abbrev MBX_CTRL : Nat := 0x60148000
abbrev MBX_CTRL_QSPI_EN : Fld := ⟨MBX_CTRL, 2, 1⟩
abbrev MBX_CTRL_PCIE_EN : Fld := ⟨MBX_CTRL, 1, 1⟩
abbrev MBX_CTRL_PROSAL_UP : Fld := ⟨MBX_CTRL, 0, 1⟩
/-- MBX.DOORBELL, MBX.RELEASE — post and release (16_prosal_host_interface.md). -/
abbrev MBX_DOORBELL : Nat := 0x60148004
abbrev MBX_DOORBELL_MAILBOX : Fld := ⟨MBX_DOORBELL, 0, 16⟩
/-- MBX.DOORBELL, MBX.RELEASE — post and release (16_prosal_host_interface.md). -/
abbrev MBX_RELEASE : Nat := 0x60148008
abbrev MBX_RELEASE_MAILBOX : Fld := ⟨MBX_RELEASE, 0, 16⟩
/-- MBX.STATE — mailbox states (16_prosal_host_interface.md). -/
abbrev MBX_STATE : Nat := 0x6014800c
abbrev MBX_STATE_STATE (k : Nat) : Fld := ⟨MBX_STATE, 2 * k, 2⟩
/-- MBX.IRQ_PEND, MBX.IRQ_EN — host interrupts (16_prosal_host_interface.md). -/
abbrev MBX_IRQ_PEND : Nat := 0x60148010
abbrev MBX_IRQ_PEND_VECTOR : Fld := ⟨MBX_IRQ_PEND, 0, 32⟩
/-- MBX.IRQ_PEND, MBX.IRQ_EN — host interrupts (16_prosal_host_interface.md). -/
abbrev MBX_IRQ_EN : Nat := 0x60148014
abbrev MBX_IRQ_EN_VECTOR : Fld := ⟨MBX_IRQ_EN, 0, 32⟩
/-- MBX.VIOL — host violation counts (16_prosal_host_interface.md). -/
abbrev MBX_VIOL : Nat := 0x60148018
abbrev MBX_VIOL_STATE : Fld := ⟨MBX_VIOL, 24, 8⟩
abbrev MBX_VIOL_CRC : Fld := ⟨MBX_VIOL, 16, 8⟩
abbrev MBX_VIOL_LENGTH : Fld := ⟨MBX_VIOL, 8, 8⟩
abbrev MBX_VIOL_OPCODE : Fld := ⟨MBX_VIOL, 0, 8⟩
/-- MBX.WINDOW_LO, MBX.WINDOW_HI — memory window (16_prosal_host_interface.md). -/
abbrev MBX_WINDOW_LO : Nat := 0x60148020
abbrev MBX_WINDOW_LO_BASE : Fld := ⟨MBX_WINDOW_LO, 16, 16⟩
abbrev MBX_WINDOW_LO_WRITE : Fld := ⟨MBX_WINDOW_LO, 0, 1⟩
/-- MBX.WINDOW_LO, MBX.WINDOW_HI — memory window (16_prosal_host_interface.md). -/
abbrev MBX_WINDOW_HI : Nat := 0x60148024
abbrev MBX_WINDOW_HI_BASE : Fld := ⟨MBX_WINDOW_HI, 0, 8⟩
/-- MBX.RING_PROD(r), MBX.RING_CONS(r) — ring indices (16_prosal_host_interface.md). -/
abbrev MBX_RING_PROD (r : Nat) : Nat := 0x60149000 + 0x40 * r
abbrev MBX_RING_PROD_INDEX (r : Nat) : Fld := ⟨MBX_RING_PROD r, 0, 32⟩
/-- MBX.RING_PROD(r), MBX.RING_CONS(r) — ring indices (16_prosal_host_interface.md). -/
abbrev MBX_RING_CONS (r : Nat) : Nat := 0x60149004 + 0x40 * r
abbrev MBX_RING_CONS_INDEX (r : Nat) : Fld := ⟨MBX_RING_CONS r, 0, 32⟩
/-- MBX.RING_STAT(r) — ring status (16_prosal_host_interface.md). -/
abbrev MBX_RING_STAT (r : Nat) : Nat := 0x60149008 + 0x40 * r
abbrev MBX_RING_STAT_ON (r : Nat) : Fld := ⟨MBX_RING_STAT r, 31, 1⟩
abbrev MBX_RING_STAT_HALT (r : Nat) : Fld := ⟨MBX_RING_STAT r, 30, 1⟩
abbrev MBX_RING_STAT_HALT_CAUSE (r : Nat) : Fld := ⟨MBX_RING_STAT r, 28, 2⟩
abbrev MBX_RING_STAT_TWIN_DROP (r : Nat) : Fld := ⟨MBX_RING_STAT r, 0, 16⟩
/-- DBG.STATUS — Debug gate status (17_debug_gate_and_roadworks.md). -/
abbrev DBG_STATUS : Nat := 0x60090000
abbrev DBG_STATUS_LOCK_S : Fld := ⟨DBG_STATUS, 16, 16⟩
abbrev DBG_STATUS_FAILS : Fld := ⟨DBG_STATUS, 8, 8⟩
abbrev DBG_STATUS_REFUSED : Fld := ⟨DBG_STATUS, 5, 1⟩
abbrev DBG_STATUS_DEBUG_OFF : Fld := ⟨DBG_STATUS, 4, 1⟩
abbrev DBG_STATUS_METHOD : Fld := ⟨DBG_STATUS, 2, 2⟩
abbrev DBG_STATUS_LEVEL : Fld := ⟨DBG_STATUS, 0, 2⟩
/-- DBG.CORE(t) — triad halt control (17_debug_gate_and_roadworks.md). -/
abbrev DBG_CORE (t : Nat) : Nat := 0x60090100 + 0x4 * t
abbrev DBG_CORE_FORCE (t : Nat) : Fld := ⟨DBG_CORE t, 3, 1⟩
abbrev DBG_CORE_STEP (t : Nat) : Fld := ⟨DBG_CORE t, 2, 1⟩
abbrev DBG_CORE_HALT (t : Nat) : Fld := ⟨DBG_CORE t, 1, 1⟩
abbrev DBG_CORE_HALTED (t : Nat) : Fld := ⟨DBG_CORE t, 0, 1⟩
/-- RWK.CTRL, RWK.FABRIC, RWK.DRAM, RWK.SKEW — perturbations (17_debug_gate_and_roadworks.md). -/
abbrev RWK_CTRL : Nat := 0x600a0000
abbrev RWK_CTRL_ALL_OFF : Fld := ⟨RWK_CTRL, 0, 1⟩
/-- RWK.CTRL, RWK.FABRIC, RWK.DRAM, RWK.SKEW — perturbations (17_debug_gate_and_roadworks.md). -/
abbrev RWK_FABRIC : Nat := 0x600a0004
abbrev RWK_FABRIC_MASTER : Fld := ⟨RWK_FABRIC, 8, 8⟩
abbrev RWK_FABRIC_DELAY : Fld := ⟨RWK_FABRIC, 0, 8⟩
/-- RWK.CTRL, RWK.FABRIC, RWK.DRAM, RWK.SKEW — perturbations (17_debug_gate_and_roadworks.md). -/
abbrev RWK_DRAM : Nat := 0x600a0008
abbrev RWK_DRAM_STRETCH : Fld := ⟨RWK_DRAM, 0, 12⟩
/-- RWK.CTRL, RWK.FABRIC, RWK.DRAM, RWK.SKEW — perturbations (17_debug_gate_and_roadworks.md). -/
abbrev RWK_SKEW : Nat := 0x600a000c
abbrev RWK_SKEW_STEPS : Fld := ⟨RWK_SKEW, 0, 6⟩
/-- RWK.NET(k) — network holds (17_debug_gate_and_roadworks.md). -/
abbrev RWK_NET (k : Nat) : Nat := 0x600a0010 + 0x4 * k
abbrev RWK_NET_TX_HOLD (k : Nat) : Fld := ⟨RWK_NET k, 16, 12⟩
abbrev RWK_NET_RX_HOLD (k : Nat) : Fld := ⟨RWK_NET k, 0, 12⟩
/-- RWK.INJECT — error injection (17_debug_gate_and_roadworks.md). -/
abbrev RWK_INJECT : Nat := 0x600a0020
abbrev RWK_INJECT_GO : Fld := ⟨RWK_INJECT, 31, 1⟩
abbrev RWK_INJECT_BUSY : Fld := ⟨RWK_INJECT, 30, 1⟩
abbrev RWK_INJECT_KIND : Fld := ⟨RWK_INJECT, 27, 3⟩
abbrev RWK_INJECT_TARGET : Fld := ⟨RWK_INJECT, 16, 11⟩
abbrev RWK_INJECT_COUNT : Fld := ⟨RWK_INJECT, 0, 16⟩
/-- RWK.INJ_ADDR_LO, RWK.INJ_ADDR_HI — injection address (17_debug_gate_and_roadworks.md). -/
abbrev RWK_INJ_ADDR_LO : Nat := 0x600a0024
abbrev RWK_INJ_ADDR_LO_ADDR : Fld := ⟨RWK_INJ_ADDR_LO, 3, 29⟩
/-- RWK.INJ_ADDR_LO, RWK.INJ_ADDR_HI — injection address (17_debug_gate_and_roadworks.md). -/
abbrev RWK_INJ_ADDR_HI : Nat := 0x600a0028
abbrev RWK_INJ_ADDR_HI_ADDR : Fld := ⟨RWK_INJ_ADDR_HI, 0, 8⟩
/-- RWK.BREAK — dual-rail simulation (17_debug_gate_and_roadworks.md). -/
abbrev RWK_BREAK : Nat := 0x600a0030
abbrev RWK_BREAK_GO : Fld := ⟨RWK_BREAK, 31, 1⟩
abbrev RWK_BREAK_BUSY : Fld := ⟨RWK_BREAK, 30, 1⟩
abbrev RWK_BREAK_PATTERN : Fld := ⟨RWK_BREAK, 28, 2⟩
abbrev RWK_BREAK_CHANNEL : Fld := ⟨RWK_BREAK, 16, 9⟩
abbrev RWK_BREAK_CYCLES : Fld := ⟨RWK_BREAK, 0, 16⟩
/-- RWK.STATUS — Roadworks status (17_debug_gate_and_roadworks.md). -/
abbrev RWK_STATUS : Nat := 0x600a0034
abbrev RWK_STATUS_COUNT : Fld := ⟨RWK_STATUS, 16, 16⟩
abbrev RWK_STATUS_LEVEL_REFUSED : Fld := ⟨RWK_STATUS, 1, 1⟩
abbrev RWK_STATUS_BAD_ADDR : Fld := ⟨RWK_STATUS, 0, 1⟩
/-- ID.DEVICE — device and stepping (19_address_map.md). -/
abbrev ID_DEVICE : Nat := 0x60300000
abbrev ID_DEVICE_DEVICE : Fld := ⟨ID_DEVICE, 16, 16⟩
abbrev ID_DEVICE_STEP_LETTER : Fld := ⟨ID_DEVICE, 4, 4⟩
abbrev ID_DEVICE_STEP_DIGIT : Fld := ⟨ID_DEVICE, 0, 4⟩
/-- ID.IDCODE — JTAG identification (19_address_map.md). -/
abbrev ID_IDCODE : Nat := 0x60300004
abbrev ID_IDCODE_IDCODE : Fld := ⟨ID_IDCODE, 0, 32⟩
/-- ID.SERIAL_LO, ID.SERIAL_HI — device serial number (19_address_map.md). -/
abbrev ID_SERIAL_LO : Nat := 0x60300008
abbrev ID_SERIAL_LO_SERIAL : Fld := ⟨ID_SERIAL_LO, 0, 32⟩
/-- ID.SERIAL_LO, ID.SERIAL_HI — device serial number (19_address_map.md). -/
abbrev ID_SERIAL_HI : Nat := 0x6030000c
abbrev ID_SERIAL_HI_SERIAL : Fld := ⟨ID_SERIAL_HI, 0, 32⟩
/-- ID.GRADE — grade and resources (19_address_map.md). -/
abbrev ID_GRADE : Nat := 0x60300010
abbrev ID_GRADE_CLUSTERS : Fld := ⟨ID_GRADE, 20, 4⟩
abbrev ID_GRADE_EXPRESS : Fld := ⟨ID_GRADE, 16, 4⟩
abbrev ID_GRADE_LEDGER_MIB : Fld := ⟨ID_GRADE, 8, 8⟩
abbrev ID_GRADE_INDUSTRIAL : Fld := ⟨ID_GRADE, 0, 1⟩
/-- ID.ROM — boot ROM version (19_address_map.md). -/
abbrev ID_ROM : Nat := 0x60300014
abbrev ID_ROM_VERSION : Fld := ⟨ID_ROM, 0, 16⟩

/-- The registers of block BSQ. -/
def rowsBSQ : List RegRow :=
  [ ⟨0x60100000, [], [⟨16, 16, .ro, 0⟩, ⟨8, 5, .ro, 0⟩, ⟨6, 1, .ro, 0⟩, ⟨4, 2, .ro, 0⟩, ⟨0, 4, .ro, 0⟩]⟩
  , ⟨0x60100004, [], [⟨8, 1, .w1c, 0⟩, ⟨7, 1, .w1c, 0⟩, ⟨6, 1, .w1c, 0⟩, ⟨5, 1, .w1c, 0⟩, ⟨4, 1, .ro, 0⟩, ⟨3, 1, .ro, 0⟩, ⟨0, 2, .ro, 0⟩]⟩
  , ⟨0x60100008, [], [⟨1, 1, .rwb, 0⟩, ⟨0, 1, .wo, 0⟩]⟩
  , ⟨0x60100010, [], [⟨0, 32, .ro, 0⟩]⟩
  , ⟨0x60100014, [], [⟨0, 32, .ro, 0⟩]⟩
  , ⟨0x60100018, [], [⟨0, 32, .rwb, 0⟩]⟩
  , ⟨0x6010001c, [], [⟨0, 32, .rwb, 0⟩]⟩
  , ⟨0x60100020, [], [⟨0, 32, .rwb, 0⟩]⟩
  , ⟨0x60100024, [], [⟨0, 32, .rwb, 0⟩]⟩
  , ⟨0x60100028, [], [⟨16, 16, .ro, 0⟩, ⟨3, 1, .wo, 0⟩, ⟨0, 3, .ro, 0⟩]⟩
  , ⟨0x60100030, [], [⟨0, 32, .ro, 0⟩]⟩
  , ⟨0x60100034, [], [⟨0, 32, .ro, 0⟩]⟩
  , ⟨0x60100038, [], [⟨16, 16, .rwb, 0⟩, ⟨0, 16, .rwb, 0⟩]⟩
  , ⟨0x60100040, [(0x4, 16)], [⟨8, 1, .ro, 0⟩, ⟨0, 5, .ro, 0⟩]⟩
  , ⟨0x60100080, [(0x4, 18)], [⟨24, 8, .rwb, 0⟩, ⟨16, 8, .rwb, 0⟩, ⟨8, 8, .ro, 0⟩, ⟨0, 4, .ro, 0⟩]⟩
  , ⟨0x601000d0, [], [⟨24, 1, .ro, 0⟩, ⟨20, 4, .ro, 0⟩, ⟨16, 3, .ro, 0⟩, ⟨8, 1, .ro, 0⟩, ⟨4, 4, .ro, 0⟩, ⟨0, 3, .ro, 0⟩]⟩
  , ⟨0x60100100, [(0x4, 18)], [⟨27, 5, .rwb, 0⟩, ⟨22, 5, .rwb, 0⟩, ⟨17, 5, .rwb, 0⟩, ⟨12, 5, .rwb, 0⟩, ⟨7, 5, .rwb, 0⟩, ⟨2, 5, .rwb, 0⟩]⟩
  , ⟨0x60100180, [(0x4, 16)], [⟨30, 2, .ro, 0⟩, ⟨0, 19, .rwb, 0⟩]⟩ ]

/-- The registers of block JCT. -/
def rowsJCT : List RegRow :=
  [ ⟨0x60120000, [], [⟨2, 1, .w1c, 0⟩, ⟨1, 1, .ro, 0⟩, ⟨0, 1, .ro, 0⟩]⟩
  , ⟨0x60120004, [], [⟨16, 16, .rwb, 0⟩, ⟨0, 16, .rwb, 0⟩]⟩
  , ⟨0x60120100, [(0x4, 48)], [⟨0, 10, .ro, 0⟩]⟩ ]

/-- The registers of block EXP. -/
def rowsEXP : List RegRow :=
  [ ⟨0x60130000, [], [⟨24, 1, .ro, 0⟩, ⟨20, 4, .ro, 0⟩, ⟨0, 9, .ro, 0⟩]⟩
  , ⟨0x60130004, [], [⟨31, 1, .wo, 0⟩, ⟨30, 1, .ro, 0⟩, ⟨4, 1, .rwb, 0⟩, ⟨0, 4, .rwb, 0⟩]⟩
  , ⟨0x60130008, [], [⟨0, 32, .rwb, 0⟩]⟩
  , ⟨0x6013000c, [], [⟨0, 32, .rwb, 0⟩]⟩
  , ⟨0x60130100, [(0x4, 64)], [⟨31, 1, .ro, 0⟩, ⟨8, 1, .ro, 0⟩, ⟨4, 3, .ro, 0⟩, ⟨0, 4, .ro, 0⟩]⟩
  , ⟨0x60130200, [(0x4, 9)], [⟨16, 16, .rwb, 0⟩, ⟨8, 8, .rwb, 0⟩, ⟨4, 2, .ro, 0⟩, ⟨0, 2, .ro, 0⟩]⟩ ]

/-- The registers of block NP. -/
def rowsNP : List RegRow :=
  [ ⟨0x60180000, [(0x10000, 4)], [⟨4, 12, .rwb, 0⟩, ⟨3, 1, .rwb, 0⟩, ⟨2, 1, .rwb, 0⟩, ⟨0, 2, .rwb, 0⟩]⟩
  , ⟨0x60180004, [(0x10000, 4)], [⟨4, 3, .ro, 0⟩, ⟨3, 1, .ro, 0⟩, ⟨2, 1, .ro, 0⟩, ⟨1, 1, .ro, 0⟩, ⟨0, 1, .ro, 0⟩]⟩
  , ⟨0x60180008, [(0x10000, 4)], [⟨0, 32, .rwb, 0⟩]⟩
  , ⟨0x6018000c, [(0x10000, 4)], [⟨0, 16, .rwb, 0⟩]⟩
  , ⟨0x60180010, [(0x10000, 4)], [⟨0, 32, .rwb, 0⟩]⟩
  , ⟨0x60180014, [(0x10000, 4)], [⟨0, 16, .rwb, 0⟩]⟩
  , ⟨0x60180020, [(0x10000, 4)], [⟨0, 32, .ro, 0⟩]⟩
  , ⟨0x60180024, [(0x10000, 4)], [⟨0, 32, .ro, 0⟩]⟩
  , ⟨0x60180030, [(0x10000, 4)], [⟨16, 16, .rwb, 0⟩, ⟨0, 16, .rwb, 0⟩]⟩
  , ⟨0x60180034, [(0x10000, 4)], [⟨16, 16, .rwb, 0⟩, ⟨0, 16, .rwb, 0⟩]⟩
  , ⟨0x60180038, [(0x10000, 4)], [⟨16, 16, .rwb, 0⟩, ⟨0, 16, .rwb, 0⟩]⟩
  , ⟨0x6018003c, [(0x10000, 4)], [⟨16, 16, .rwb, 0⟩, ⟨0, 16, .rwb, 0⟩]⟩
  , ⟨0x60180040, [(0x10000, 4)], [⟨16, 16, .rwb, 0⟩, ⟨0, 16, .rwb, 0⟩]⟩ ]

/-- The registers of block NPE. -/
def rowsNPE : List RegRow :=
  [ ⟨0x60170000, [], [⟨16, 16, .rwb, 0⟩, ⟨0, 16, .rwb, 0⟩]⟩
  , ⟨0x60170004, [], [⟨16, 13, .ro, 0⟩, ⟨0, 13, .ro, 0⟩]⟩
  , ⟨0x60170008, [], [⟨2, 1, .rwb, 0⟩, ⟨1, 1, .ro, 0⟩, ⟨0, 1, .rwb, 0⟩]⟩
  , ⟨0x60170010, [], [⟨16, 16, .rwb, 0⟩, ⟨0, 16, .rwb, 0⟩]⟩
  , ⟨0x60170014, [], [⟨16, 16, .rwb, 0⟩, ⟨0, 16, .rwb, 0⟩]⟩
  , ⟨0x60170018, [], [⟨16, 16, .rwb, 0⟩, ⟨0, 16, .rwb, 0⟩]⟩
  , ⟨0x6017001c, [], [⟨16, 16, .rwb, 0⟩, ⟨0, 16, .rwb, 0⟩]⟩
  , ⟨0x60178000, [(0x4, 4096)], [⟨29, 3, .ro, 0⟩, ⟨28, 1, .ro, 0⟩, ⟨27, 1, .ro, 0⟩, ⟨26, 1, .ro, 0⟩, ⟨0, 16, .rwb, 0⟩]⟩
  , ⟨0x6017c000, [(0x4, 4096)], [⟨29, 3, .ro, 0⟩, ⟨28, 1, .ro, 0⟩, ⟨27, 1, .ro, 0⟩, ⟨0, 16, .rwb, 0⟩]⟩ ]

/-- The registers of block TDM. -/
def rowsTDM : List RegRow :=
  [ ⟨0x60200000, [(0x10000, 16)], [⟨20, 1, .rwb, 0⟩, ⟨16, 3, .rwb, 0⟩, ⟨10, 5, .rwb, 1⟩, ⟨8, 2, .rwb, 2⟩, ⟨7, 1, .rwb, 0⟩, ⟨6, 1, .rwb, 0⟩, ⟨5, 1, .rwb, 0⟩, ⟨4, 1, .rwb, 1⟩, ⟨2, 2, .rwb, 2⟩, ⟨1, 1, .rwb, 0⟩, ⟨0, 1, .rwb, 0⟩]⟩
  , ⟨0x60200004, [(0x10000, 16)], [⟨24, 8, .rwb, 0⟩, ⟨16, 8, .ro, 0⟩, ⟨3, 1, .ro, 0⟩, ⟨0, 3, .ro, 0⟩]⟩
  , ⟨0x60200008, [(0x10000, 16)], [⟨16, 16, .rwb, 0⟩, ⟨0, 16, .rwb, 0⟩]⟩ ]

/-- The registers of block MCK. -/
def rowsMCK : List RegRow :=
  [ ⟨0x60160000, [], [⟨12, 1, .wo, 0⟩, ⟨11, 1, .rwb, 0⟩, ⟨9, 2, .rwb, 0⟩, ⟨8, 1, .rwb, 0⟩, ⟨7, 1, .rwb, 0⟩, ⟨4, 3, .rwb, 3⟩, ⟨0, 3, .rwb, 0⟩]⟩
  , ⟨0x60160004, [], [⟨16, 16, .ro, 0⟩, ⟨7, 1, .ro, 0⟩, ⟨6, 1, .ro, 0⟩, ⟨4, 2, .ro, 0⟩, ⟨0, 3, .ro, 0⟩]⟩
  , ⟨0x60160008, [], [⟨0, 32, .ro, 0⟩]⟩
  , ⟨0x6016000c, [], [⟨0, 32, .ro, 0⟩]⟩
  , ⟨0x60160010, [], [⟨0, 32, .rwb, 0⟩]⟩
  , ⟨0x60160014, [], [⟨0, 32, .wo, 0⟩]⟩
  , ⟨0x60160020, [], [⟨24, 1, .rwb, 1⟩, ⟨20, 4, .rwb, 0⟩, ⟨16, 4, .rwb, 3⟩, ⟨12, 4, .rwb, 1⟩, ⟨8, 4, .rwb, 13⟩, ⟨0, 7, .rwb, 0⟩]⟩
  , ⟨0x60160024, [], [⟨8, 8, .rwb, 128⟩, ⟨0, 8, .rwb, 128⟩]⟩
  , ⟨0x60160028, [], [⟨0, 32, .ro, 0⟩]⟩
  , ⟨0x6016002c, [], [⟨0, 32, .ro, 0⟩]⟩
  , ⟨0x60160030, [], [⟨0, 32, .ro, 0⟩]⟩
  , ⟨0x60160034, [], [⟨0, 32, .ro, 0⟩]⟩
  , ⟨0x60160038, [], [⟨16, 16, .rwb, 0⟩, ⟨0, 16, .rwb, 0⟩]⟩ ]

/-- The registers of block SPM. -/
def rowsSPM : List RegRow :=
  [ ⟨0x600c0000, [(0x20, 9)], [⟨30, 2, .rwb, 2⟩, ⟨28, 2, .rwb, 2⟩, ⟨26, 2, .rwb, 2⟩, ⟨24, 2, .rwb, 2⟩, ⟨22, 2, .rwb, 2⟩, ⟨20, 2, .rwb, 2⟩, ⟨18, 2, .rwb, 2⟩, ⟨16, 2, .rwb, 2⟩, ⟨14, 2, .rwb, 2⟩, ⟨12, 2, .rwb, 2⟩, ⟨10, 2, .rwb, 2⟩, ⟨8, 2, .rwb, 2⟩, ⟨6, 2, .rwb, 2⟩, ⟨4, 2, .rwb, 2⟩, ⟨2, 2, .rwb, 2⟩, ⟨0, 2, .rwb, 2⟩]⟩
  , ⟨0x600c0004, [(0x20, 9)], [⟨30, 2, .rwb, 2⟩, ⟨28, 2, .rwb, 2⟩, ⟨26, 2, .rwb, 2⟩, ⟨24, 2, .rwb, 2⟩, ⟨22, 2, .rwb, 2⟩, ⟨20, 2, .rwb, 2⟩, ⟨18, 2, .rwb, 2⟩, ⟨16, 2, .rwb, 2⟩, ⟨14, 2, .rwb, 2⟩, ⟨12, 2, .rwb, 2⟩, ⟨10, 2, .rwb, 2⟩, ⟨8, 2, .rwb, 2⟩, ⟨6, 2, .rwb, 2⟩, ⟨4, 2, .rwb, 2⟩, ⟨2, 2, .rwb, 2⟩, ⟨0, 2, .rwb, 2⟩]⟩
  , ⟨0x600c0008, [(0x20, 9)], [⟨16, 16, .rwb, 0⟩, ⟨0, 16, .rwb, 0⟩]⟩
  , ⟨0x600c000c, [(0x20, 9)], [⟨16, 16, .rwb, 0⟩, ⟨0, 16, .rwb, 0⟩]⟩
  , ⟨0x600c0010, [(0x20, 9)], [⟨0, 32, .ro, 0⟩]⟩ ]

/-- The registers of block DPT. -/
def rowsDPT : List RegRow :=
  [ ⟨0x600d0000, [(0x4, 6)], [⟨30, 2, .rwb, 2⟩, ⟨28, 2, .rwb, 2⟩, ⟨26, 2, .rwb, 2⟩, ⟨24, 2, .rwb, 2⟩, ⟨22, 2, .rwb, 2⟩, ⟨20, 2, .rwb, 2⟩, ⟨18, 2, .rwb, 2⟩, ⟨16, 2, .rwb, 2⟩, ⟨14, 2, .rwb, 2⟩, ⟨12, 2, .rwb, 2⟩, ⟨10, 2, .rwb, 2⟩, ⟨8, 2, .rwb, 2⟩, ⟨6, 2, .rwb, 2⟩, ⟨4, 2, .rwb, 2⟩, ⟨2, 2, .rwb, 2⟩, ⟨0, 2, .rwb, 2⟩]⟩
  , ⟨0x600d0020, [], [⟨16, 16, .rwb, 0⟩, ⟨0, 16, .rwb, 0⟩]⟩
  , ⟨0x600d0024, [], [⟨16, 16, .rwb, 0⟩, ⟨0, 16, .rwb, 0⟩]⟩
  , ⟨0x600d0030, [(0x4, 3)], [⟨0, 32, .ro, 0⟩]⟩ ]

/-- The registers of block LPD. -/
def rowsLPD : List RegRow :=
  [ ⟨0x600e0008, [], [⟨16, 16, .rwb, 0⟩, ⟨0, 16, .rwb, 0⟩]⟩
  , ⟨0x600e0000, [], [⟨7, 1, .ro, 0⟩, ⟨6, 1, .ro, 0⟩, ⟨4, 2, .ro, 0⟩, ⟨0, 4, .ro, 0⟩]⟩
  , ⟨0x600e0004, [], [⟨8, 4, .ro, 0⟩, ⟨0, 1, .ro, 0⟩]⟩
  , ⟨0x600e000c, [], [⟨9, 1, .ro, 0⟩, ⟨0, 9, .ro, 0⟩]⟩
  , ⟨0x600e0400, [(0x4, 256)], [⟨30, 2, .tcw, 0⟩, ⟨0, 23, .tcw, 0⟩]⟩ ]

/-- The registers of block SCB. -/
def rowsSCB : List RegRow :=
  [ ⟨0x600f0000, [], [⟨4, 1, .rwb, 0⟩, ⟨3, 1, .rwb, 1⟩, ⟨2, 1, .rwb, 1⟩, ⟨1, 1, .rwb, 1⟩, ⟨0, 1, .rwb, 1⟩]⟩
  , ⟨0x600f0004, [], [⟨16, 13, .rwb, 100⟩, ⟨0, 8, .rwb, 24⟩]⟩
  , ⟨0x600f0008, [], [⟨0, 4, .w1c, 0⟩]⟩
  , ⟨0x600f0010, [], [⟨31, 1, .wo, 0⟩, ⟨12, 1, .rwb, 0⟩, ⟨8, 4, .rwb, 0⟩, ⟨0, 7, .rwb, 0⟩]⟩
  , ⟨0x600f0014, [], [⟨31, 1, .ro, 0⟩, ⟨30, 1, .w1c, 0⟩, ⟨0, 10, .ro, 0⟩]⟩
  , ⟨0x600f0020, [], [⟨9, 4, .rwb, 0⟩, ⟨2, 7, .rwb, 0⟩, ⟨0, 2, .rwb, 0⟩]⟩
  , ⟨0x600f0024, [], [⟨31, 1, .tcw, 0⟩, ⟨0, 10, .tcw, 0⟩]⟩ ]

/-- The registers of block LDG. -/
def rowsLDG : List RegRow :=
  [ ⟨0x600b0000, [], [⟨3, 29, .rwb, 0⟩]⟩
  , ⟨0x600b0004, [], [⟨0, 32, .rwb, 0⟩]⟩
  , ⟨0x600b0008, [], [⟨0, 32, .rwb, 0⟩]⟩
  , ⟨0x600b000c, [], [⟨31, 1, .ro, 0⟩, ⟨0, 1, .wo, 0⟩]⟩
  , ⟨0x600b0010, [], [⟨16, 16, .rwb, 0⟩, ⟨2, 1, .w1c, 0⟩, ⟨1, 1, .w1c, 0⟩, ⟨0, 1, .w1c, 0⟩]⟩
  , ⟨0x600b0014, [], [⟨2, 1, .tcw, 0⟩, ⟨1, 1, .tcw, 0⟩, ⟨0, 1, .tcw, 0⟩]⟩ ]

/-- The registers of block TG. -/
def rowsTG : List RegRow :=
  [ ⟨0x60080000, [(0x800, 28)], [⟨4, 2, .rwb, 0⟩, ⟨0, 1, .wo, 0⟩]⟩
  , ⟨0x60080004, [(0x800, 28)], [⟨16, 16, .rwb, 0⟩, ⟨3, 1, .w1c, 0⟩, ⟨2, 1, .w1c, 0⟩, ⟨1, 1, .ro, 0⟩, ⟨0, 1, .ro, 0⟩]⟩
  , ⟨0x60080100, [(0x800, 28), (0x180, 4), (0x10, 16)], [⟨0, 32, .rw, 0⟩]⟩
  , ⟨0x60080104, [(0x800, 28), (0x180, 4), (0x10, 16)], [⟨0, 32, .rw, 0⟩]⟩
  , ⟨0x60080108, [(0x800, 28), (0x180, 4), (0x10, 16)], [⟨31, 1, .rw, 0⟩, ⟨29, 1, .rw, 0⟩, ⟨0, 9, .rw, 0⟩]⟩
  , ⟨0x60080200, [(0x800, 28), (0x180, 4), (0x4, 16)], [⟨24, 8, .rw, 0⟩, ⟨16, 8, .rw, 0⟩, ⟨8, 8, .rw, 0⟩, ⟨0, 8, .rw, 0⟩]⟩
  , ⟨0x6008f000, [(0x10, 8)], [⟨0, 32, .rwl, 0⟩]⟩
  , ⟨0x6008f004, [(0x10, 8)], [⟨0, 32, .rwl, 0⟩]⟩
  , ⟨0x6008f008, [(0x10, 8)], [⟨31, 1, .rwl, 0⟩, ⟨16, 8, .rwl, 255⟩, ⟨4, 3, .rwl, 0⟩, ⟨0, 3, .rwl, 0⟩]⟩
  , ⟨0x6008f080, [], [⟨8, 1, .w1c, 0⟩, ⟨0, 8, .ro, 0⟩]⟩ ]

/-- The registers of block MVR. -/
def rowsMVR : List RegRow :=
  [ ⟨0x60110000, [(0x4000, 4)], [⟨16, 16, .rwb, 0⟩, ⟨0, 7, .ro, 0⟩]⟩
  , ⟨0x60110800, [(0x4000, 4), (0x20, 64)], [⟨16, 8, .rwb, 0⟩, ⟨8, 2, .rwb, 0⟩, ⟨4, 1, .rwb, 0⟩, ⟨1, 1, .rwb, 1⟩, ⟨0, 1, .rwb, 0⟩]⟩
  , ⟨0x60110804, [(0x4000, 4), (0x20, 64)], [⟨5, 27, .rw, 0⟩]⟩
  , ⟨0x60110808, [(0x4000, 4), (0x20, 64)], [⟨0, 8, .rw, 0⟩]⟩
  , ⟨0x6011080c, [(0x4000, 4), (0x20, 64)], [⟨2, 1, .wo, 0⟩, ⟨1, 1, .wo, 0⟩, ⟨0, 1, .wo, 0⟩]⟩
  , ⟨0x60110810, [(0x4000, 4), (0x20, 64)], [⟨24, 8, .rwb, 0⟩, ⟨16, 3, .ro, 0⟩, ⟨0, 16, .ro, 0⟩]⟩
  , ⟨0x60110814, [(0x4000, 4), (0x20, 64)], [⟨0, 32, .ro, 0⟩]⟩
  , ⟨0x60110818, [(0x4000, 4), (0x20, 64)], [⟨0, 8, .ro, 0⟩]⟩
  , ⟨0x6011081c, [(0x4000, 4), (0x20, 64)], [⟨0, 24, .ro, 0⟩]⟩ ]

/-- The registers of block EVR. -/
def rowsEVR : List RegRow :=
  [ ⟨0x60050000, [], [⟨0, 4, .wo, 0⟩]⟩
  , ⟨0x60050100, [(0x4, 20)], [⟨0, 32, .w1c, 0⟩]⟩
  , ⟨0x60051000, [(0x4, 640)], [⟨16, 8, .rwb, 0⟩, ⟨8, 1, .rwb, 1⟩, ⟨0, 4, .rwb, 0⟩]⟩ ]

/-- The registers of block FCU. -/
def rowsFCU : List RegRow :=
  [ ⟨0x60040000, [], [⟨16, 14, .rwb, 100⟩, ⟨4, 3, .rwb, 3⟩, ⟨0, 1, .rwb, 0⟩]⟩
  , ⟨0x60040004, [], [⟨31, 1, .ro, 1⟩, ⟨30, 1, .ro, 0⟩, ⟨29, 1, .ro, 0⟩, ⟨28, 1, .w1c, 0⟩, ⟨0, 9, .ro, 0x1ff⟩]⟩
  , ⟨0x60040008, [], [⟨0, 1, .wo, 0⟩]⟩
  , ⟨0x6004000c, [], [⟨0, 4, .rwb, 15⟩]⟩
  , ⟨0x60040010, [], [⟨16, 1, .tcw, 0⟩, ⟨0, 10, .tcw, 0⟩]⟩
  , ⟨0x60040014, [], [⟨16, 16, .tcw, 0⟩, ⟨0, 16, .tcw, 0⟩]⟩
  , ⟨0x60040018, [], [⟨31, 1, .wo, 0⟩, ⟨16, 3, .rwb, 0⟩, ⟨0, 9, .rwb, 0⟩]⟩
  , ⟨0x6004001c, [], [⟨31, 1, .w1c, 0⟩, ⟨0, 16, .rwb, 0⟩]⟩
  , ⟨0x60040020, [], [⟨31, 1, .ro, 0⟩, ⟨30, 1, .ro, 0⟩, ⟨29, 1, .ro, 0⟩, ⟨25, 3, .ro, 0⟩, ⟨16, 9, .ro, 0⟩, ⟨8, 8, .ro, 0⟩, ⟨0, 4, .ro, 0⟩]⟩
  , ⟨0x60040024, [], [⟨0, 32, .ro, 0⟩]⟩
  , ⟨0x60040028, [], [⟨0, 8, .ro, 0⟩]⟩
  , ⟨0x6004002c, [], [⟨0, 32, .ro, 0⟩]⟩
  , ⟨0x60040030, [], [⟨0, 32, .ro, 0⟩]⟩
  , ⟨0x60040034, [], [⟨0, 1, .wo, 0⟩]⟩
  , ⟨0x60040038, [], [⟨31, 1, .ro, 0⟩, ⟨25, 3, .ro, 0⟩, ⟨16, 9, .ro, 0⟩, ⟨0, 16, .ro, 0⟩]⟩
  , ⟨0x60040040, [(0x4, 2)], [⟨24, 8, .rwb, 8⟩, ⟨16, 3, .rwb, 1⟩, ⟨0, 16, .rwb, 0x2710⟩]⟩
  , ⟨0x60041000, [(0x4, 320)], [⟨31, 1, .ro, 0⟩, ⟨29, 1, .tcw, 0⟩, ⟨8, 3, .ro, 0⟩, ⟨0, 3, .tcw, 0⟩]⟩
  , ⟨0x60042000, [(0x4, 320)], [⟨31, 1, .w1c, 0⟩, ⟨30, 1, .ro, 0⟩, ⟨29, 1, .ro, 0⟩, ⟨28, 1, .w1c, 0⟩, ⟨24, 3, .ro, 0⟩, ⟨0, 16, .rwb, 0⟩]⟩ ]

/-- The registers of block MSW. -/
def rowsMSW : List RegRow :=
  [ ⟨0x60030000, [], [⟨1, 1, .rwb, 0⟩, ⟨0, 1, .rwb, 1⟩]⟩
  , ⟨0x60030004, [], [⟨10, 1, .w1c, 0⟩, ⟨9, 1, .w1c, 0⟩, ⟨8, 1, .ro, 0⟩, ⟨4, 2, .ro, 0⟩, ⟨0, 2, .ro, 1⟩]⟩
  , ⟨0x60030008, [], [⟨0, 24, .rwb, 1⟩]⟩
  , ⟨0x6003000c, [], [⟨0, 24, .rwb, 0x1e8480⟩]⟩
  , ⟨0x60030010, [], [⟨0, 24, .rwb, 0x186a0⟩]⟩
  , ⟨0x60030014, [], [⟨0, 16, .ro, 0⟩]⟩
  , ⟨0x60030018, [], [⟨0, 32, .wo, 0⟩]⟩
  , ⟨0x6003001c, [], [⟨16, 16, .wo, 0⟩, ⟨0, 16, .wo, 0⟩]⟩
  , ⟨0x60030020, [], [⟨0, 32, .wo, 0⟩]⟩
  , ⟨0x60030024, [], [⟨0, 32, .ro, 0⟩]⟩
  , ⟨0x60030028, [], [⟨0, 32, .ro, 0⟩]⟩
  , ⟨0x6003002c, [], [⟨0, 32, .ro, 0⟩]⟩
  , ⟨0x60030030, [], [⟨0, 32, .ro, 0⟩]⟩
  , ⟨0x60030034, [], [⟨16, 16, .rwb, 0⟩, ⟨0, 16, .rwb, 0⟩]⟩
  , ⟨0x60030038, [], [⟨0, 16, .ro, 0⟩]⟩ ]

/-- The registers of block WMK. -/
def rowsWMK : List RegRow :=
  [ ⟨0x60060000, [(0x1000, 18), (0x4, 256)], [⟨0, 16, .rwb, 0⟩]⟩
  , ⟨0x60060400, [(0x1000, 18)], [⟨31, 1, .ro, 0⟩, ⟨30, 1, .wo, 0⟩, ⟨16, 8, .rwb, 0⟩, ⟨8, 8, .ro, 0⟩]⟩
  , ⟨0x60060404, [(0x1000, 18)], [⟨30, 2, .ro, 0⟩, ⟨29, 1, .ro, 0⟩, ⟨16, 8, .ro, 0⟩, ⟨4, 12, .ro, 0⟩]⟩
  , ⟨0x60060408, [(0x1000, 18)], [⟨0, 32, .ro, 0⟩]⟩
  , ⟨0x6006040c, [(0x1000, 18)], [⟨0, 8, .ro, 0⟩]⟩
  , ⟨0x60060410, [(0x1000, 18)], [⟨0, 32, .ro, 0⟩]⟩
  , ⟨0x60060414, [(0x1000, 18)], [⟨0, 32, .ro, 0⟩]⟩
  , ⟨0x60072000, [(0x8, 16)], [⟨31, 1, .rwb, 0⟩, ⟨16, 12, .rwb, 0⟩, ⟨0, 16, .rwb, 0⟩]⟩
  , ⟨0x60072004, [(0x8, 16)], [⟨0, 32, .wo, 0⟩]⟩
  , ⟨0x60072100, [], [⟨30, 2, .ro, 0⟩, ⟨29, 1, .ro, 0⟩, ⟨16, 4, .ro, 0⟩, ⟨0, 16, .ro, 0⟩]⟩
  , ⟨0x60072104, [], [⟨0, 32, .ro, 0⟩]⟩
  , ⟨0x60072108, [], [⟨0, 32, .ro, 0⟩]⟩
  , ⟨0x6007210c, [], [⟨0, 32, .ro, 0⟩]⟩ ]

/-- The registers of block RST. -/
def rowsRST : List RegRow :=
  [ ⟨0x60010000, [], [⟨5, 1, .ro, 0⟩, ⟨4, 1, .ro, 0⟩, ⟨3, 1, .ro, 0⟩, ⟨2, 1, .ro, 0⟩, ⟨1, 1, .ro, 0⟩, ⟨0, 1, .ro, 0⟩]⟩
  , ⟨0x60010004, [], [⟨0, 32, .ro, 0⟩]⟩
  , ⟨0x60010008, [], [⟨0, 16, .ro, 0⟩]⟩
  , ⟨0x6001000c, [], [⟨0, 16, .wo, 0⟩]⟩
  , ⟨0x60010010, [], [⟨31, 1, .ro, 0⟩, ⟨21, 3, .ro, 0⟩, ⟨0, 21, .ro, 0⟩]⟩ ]

/-- The registers of block SEN. -/
def rowsSEN : List RegRow :=
  [ ⟨0x60000000, [], [⟨2, 1, .ro, 0⟩, ⟨1, 1, .w1c, 0⟩, ⟨0, 1, .ro, 0⟩]⟩
  , ⟨0x60000008, [], [⟨0, 32, .ro, 0⟩]⟩
  , ⟨0x6000000c, [], [⟨0, 16, .ro, 0⟩]⟩
  , ⟨0x60000010, [], [⟨0, 32, .rwb, 0⟩]⟩
  , ⟨0x60000014, [], [⟨0, 16, .rwb, 0⟩]⟩
  , ⟨0x60000020, [], [⟨0, 32, .ro, 0⟩]⟩
  , ⟨0x60000024, [], [⟨0, 32, .ro, 0⟩]⟩
  , ⟨0x60000028, [], [⟨0, 8, .ro, 0⟩]⟩
  , ⟨0x6000002c, [], [⟨0, 32, .ro, 0⟩]⟩
  , ⟨0x60000030, [], [⟨0, 32, .ro, 0⟩]⟩
  , ⟨0x60000400, [(0x8, 192)], [⟨0, 32, .ro, 0⟩]⟩
  , ⟨0x60000404, [(0x8, 192)], [⟨0, 32, .ro, 0⟩]⟩ ]

/-- The registers of block PWR. -/
def rowsPWR : List RegRow :=
  [ ⟨0x60020000, [], [⟨0, 3, .ro, 2⟩]⟩
  , ⟨0x60020004, [], [⟨0, 16, .wo, 0⟩]⟩
  , ⟨0x60020008, [], [⟨16, 16, .rwb, 0⟩, ⟨0, 16, .rwb, 0⟩]⟩
  , ⟨0x60020100, [(0x4, 9)], [⟨16, 3, .ro, 0⟩, ⟨12, 2, .ro, 0⟩, ⟨8, 3, .rwb, 0⟩]⟩ ]

/-- The registers of block SOV. -/
def rowsSOV : List RegRow :=
  [ ⟨0x60150000, [], [⟨16, 8, .rwb, 8⟩, ⟨5, 4, .rwb, 0⟩, ⟨4, 1, .rwb, 0⟩, ⟨3, 1, .rwb, 0⟩, ⟨2, 1, .rwb, 0⟩, ⟨1, 1, .rwb, 0⟩, ⟨0, 1, .rwb, 0⟩]⟩
  , ⟨0x60150004, [], [⟨16, 4, .ro, 0⟩, ⟨13, 1, .ro, 0⟩, ⟨12, 1, .ro, 0⟩, ⟨10, 2, .ro, 0⟩, ⟨8, 2, .ro, 0⟩, ⟨7, 1, .ro, 0⟩, ⟨4, 3, .ro, 0⟩, ⟨0, 4, .ro, 0⟩]⟩
  , ⟨0x60150010, [(0x4, 4)], [⟨16, 16, .rwb, 0⟩, ⟨8, 8, .rwb, 0⟩, ⟨0, 2, .ro, 0⟩]⟩
  , ⟨0x60150020, [], [⟨16, 16, .ro, 0⟩, ⟨0, 16, .ro, 0⟩]⟩
  , ⟨0x60150024, [], [⟨0, 32, .ro, 0⟩]⟩
  , ⟨0x60150030, [], [⟨0, 32, .ro, 0⟩]⟩
  , ⟨0x60150034, [], [⟨0, 32, .ro, 0⟩]⟩
  , ⟨0x60150038, [], [⟨16, 16, .rwb, 0⟩, ⟨4, 1, .ro, 0⟩, ⟨0, 4, .ro, 0⟩]⟩
  , ⟨0x60150040, [], [⟨16, 16, .rwb, 0⟩, ⟨0, 16, .rwb, 0⟩]⟩
  , ⟨0x60150044, [], [⟨16, 16, .rwb, 0⟩, ⟨0, 16, .rwb, 0⟩]⟩
  , ⟨0x60150048, [], [⟨30, 2, .ro, 0⟩, ⟨16, 14, .rwb, 0⟩, ⟨0, 16, .ro, 0⟩]⟩
  , ⟨0x60150050, [], [⟨0, 32, .ro, 0⟩]⟩
  , ⟨0x60150054, [], [⟨0, 32, .ro, 0⟩]⟩
  , ⟨0x60150058, [], [⟨0, 32, .ro, 0⟩]⟩ ]

/-- The registers of block MBX. -/
def rowsMBX : List RegRow :=
  [ ⟨0x60148000, [], [⟨2, 1, .rwb, 1⟩, ⟨1, 1, .rwb, 1⟩, ⟨0, 1, .rwb, 0⟩]⟩
  , ⟨0x60148004, [], [⟨0, 16, .wo, 0⟩]⟩
  , ⟨0x60148008, [], [⟨0, 16, .wo, 0⟩]⟩
  , ⟨0x6014800c, [], [⟨30, 2, .ro, 0⟩, ⟨28, 2, .ro, 0⟩, ⟨26, 2, .ro, 0⟩, ⟨24, 2, .ro, 0⟩, ⟨22, 2, .ro, 0⟩, ⟨20, 2, .ro, 0⟩, ⟨18, 2, .ro, 0⟩, ⟨16, 2, .ro, 0⟩, ⟨14, 2, .ro, 0⟩, ⟨12, 2, .ro, 0⟩, ⟨10, 2, .ro, 0⟩, ⟨8, 2, .ro, 0⟩, ⟨6, 2, .ro, 0⟩, ⟨4, 2, .ro, 0⟩, ⟨2, 2, .ro, 0⟩, ⟨0, 2, .ro, 0⟩]⟩
  , ⟨0x60148010, [], [⟨0, 32, .w1c, 0⟩]⟩
  , ⟨0x60148014, [], [⟨0, 32, .rw, 0⟩]⟩
  , ⟨0x60148018, [], [⟨24, 8, .rwb, 0⟩, ⟨16, 8, .rwb, 0⟩, ⟨8, 8, .rwb, 0⟩, ⟨0, 8, .rwb, 0⟩]⟩
  , ⟨0x60148020, [], [⟨16, 16, .rwb, 0⟩, ⟨0, 1, .rwb, 0⟩]⟩
  , ⟨0x60148024, [], [⟨0, 8, .rwb, 0⟩]⟩
  , ⟨0x60149000, [(0x40, 8)], [⟨0, 32, .rw, 0⟩]⟩
  , ⟨0x60149004, [(0x40, 8)], [⟨0, 32, .ro, 0⟩]⟩
  , ⟨0x60149008, [(0x40, 8)], [⟨31, 1, .ro, 0⟩, ⟨30, 1, .ro, 0⟩, ⟨28, 2, .ro, 0⟩, ⟨0, 16, .rwb, 0⟩]⟩ ]

/-- The registers of block DBG. -/
def rowsDBG : List RegRow :=
  [ ⟨0x60090000, [], [⟨16, 16, .ro, 0⟩, ⟨8, 8, .ro, 0⟩, ⟨5, 1, .w1c, 0⟩, ⟨4, 1, .ro, 0⟩, ⟨2, 2, .ro, 0⟩, ⟨0, 2, .ro, 0⟩]⟩
  , ⟨0x60090100, [(0x4, 19)], [⟨3, 1, .wo, 0⟩, ⟨2, 1, .wo, 0⟩, ⟨1, 1, .rw, 0⟩, ⟨0, 1, .ro, 0⟩]⟩ ]

/-- The registers of block RWK. -/
def rowsRWK : List RegRow :=
  [ ⟨0x600a0000, [], [⟨0, 1, .wo, 0⟩]⟩
  , ⟨0x600a0004, [], [⟨8, 8, .rw, 0⟩, ⟨0, 8, .rw, 0⟩]⟩
  , ⟨0x600a0008, [], [⟨0, 12, .rw, 0⟩]⟩
  , ⟨0x600a000c, [], [⟨0, 6, .rw, 0⟩]⟩
  , ⟨0x600a0010, [(0x4, 4)], [⟨16, 12, .rw, 0⟩, ⟨0, 12, .rw, 0⟩]⟩
  , ⟨0x600a0020, [], [⟨31, 1, .wo, 0⟩, ⟨30, 1, .ro, 0⟩, ⟨27, 3, .rw, 0⟩, ⟨16, 11, .rw, 0⟩, ⟨0, 16, .rw, 1⟩]⟩
  , ⟨0x600a0024, [], [⟨3, 29, .rw, 0⟩]⟩
  , ⟨0x600a0028, [], [⟨0, 8, .rw, 0⟩]⟩
  , ⟨0x600a0030, [], [⟨31, 1, .wo, 0⟩, ⟨30, 1, .ro, 0⟩, ⟨28, 2, .rw, 0⟩, ⟨16, 9, .rw, 0⟩, ⟨0, 16, .rw, 1⟩]⟩
  , ⟨0x600a0034, [], [⟨16, 16, .ro, 0⟩, ⟨1, 1, .w1c, 0⟩, ⟨0, 1, .w1c, 0⟩]⟩ ]

/-- The registers of block ID. -/
def rowsID : List RegRow :=
  [ ⟨0x60300000, [], [⟨16, 16, .ro, 0x7720⟩, ⟨4, 4, .ro, 11⟩, ⟨0, 4, .ro, 0⟩]⟩
  , ⟨0x60300004, [], [⟨0, 32, .ro, 0x17720a1b⟩]⟩
  , ⟨0x60300008, [], [⟨0, 32, .ro, 0⟩]⟩
  , ⟨0x6030000c, [], [⟨0, 32, .ro, 0⟩]⟩
  , ⟨0x60300010, [], [⟨20, 4, .ro, 9⟩, ⟨16, 4, .ro, 9⟩, ⟨8, 8, .ro, 8⟩, ⟨0, 1, .ro, 0⟩]⟩
  , ⟨0x60300014, [], [⟨0, 16, .ro, 0x100⟩]⟩ ]

/-- The register rows of the peripheral slot `k` (R476): slots 6 and 7 are both WMK. -/
def slotRows (k : Nat) : List RegRow :=
  match k with
  | 0 => rowsSEN
  | 1 => rowsRST
  | 2 => rowsPWR
  | 3 => rowsMSW
  | 4 => rowsFCU
  | 5 => rowsEVR
  | 6 => rowsWMK | 7 => rowsWMK
  | 8 => rowsTG
  | 9 => rowsDBG
  | 10 => rowsRWK
  | 11 => rowsLDG
  | 12 => rowsSPM
  | 13 => rowsDPT
  | 14 => rowsLPD
  | 15 => rowsSCB
  | 16 => rowsBSQ
  | 17 => rowsMVR
  | 18 => rowsJCT
  | 19 => rowsEXP
  | 20 => rowsMBX
  | 21 => rowsSOV
  | 22 => rowsMCK
  | 23 => rowsNPE
  | 24 => rowsNP | 25 => rowsNP | 26 => rowsNP | 27 => rowsNP
  | 32 => rowsTDM | 33 => rowsTDM | 34 => rowsTDM | 35 => rowsTDM | 36 => rowsTDM | 37 => rowsTDM | 38 => rowsTDM | 39 => rowsTDM | 40 => rowsTDM | 41 => rowsTDM | 42 => rowsTDM | 43 => rowsTDM | 44 => rowsTDM | 45 => rowsTDM | 46 => rowsTDM | 47 => rowsTDM
  | 48 => rowsID
  | _ => []

/-- One row of the channel map of R315: first channel, how many, stride, default severity, minimum, deferrable. -/
structure FcRow where
  first : Nat
  count : Nat
  stride : Nat
  sev : Nat
  min : Nat
  deferrable : Bool
  deriving DecidableEq, Repr

/-- The channel map (R315). -/
def fcRows : List FcRow :=
  [ ⟨0, 1, 1, 7, 7, false⟩
  , ⟨1, 1, 1, 3, 2, false⟩
  , ⟨2, 1, 1, 3, 2, false⟩
  , ⟨3, 1, 1, 2, 2, false⟩
  , ⟨4, 1, 1, 6, 6, false⟩
  , ⟨5, 1, 1, 6, 6, false⟩
  , ⟨6, 1, 1, 2, 1, true⟩
  , ⟨7, 1, 1, 6, 6, false⟩
  , ⟨8, 1, 1, 2, 1, true⟩
  , ⟨9, 1, 1, 2, 1, true⟩
  , ⟨10, 1, 1, 7, 6, false⟩
  , ⟨11, 1, 1, 2, 1, false⟩
  , ⟨12, 1, 1, 3, 2, false⟩
  , ⟨13, 1, 1, 6, 6, false⟩
  , ⟨16, 1, 1, 1, 1, false⟩
  , ⟨17, 1, 1, 2, 1, false⟩
  , ⟨18, 1, 1, 3, 2, false⟩
  , ⟨19, 1, 1, 3, 2, false⟩
  , ⟨20, 1, 1, 3, 2, false⟩
  , ⟨21, 1, 1, 2, 1, false⟩
  , ⟨22, 1, 1, 2, 1, false⟩
  , ⟨23, 1, 1, 1, 1, true⟩
  , ⟨32, 18, 8, 1, 1, false⟩
  , ⟨33, 18, 8, 2, 1, false⟩
  , ⟨34, 18, 8, 4, 1, false⟩
  , ⟨35, 18, 8, 5, 2, false⟩
  , ⟨36, 18, 8, 5, 2, false⟩
  , ⟨37, 18, 8, 1, 1, false⟩
  , ⟨38, 18, 8, 5, 2, false⟩
  , ⟨39, 18, 8, 4, 1, false⟩
  , ⟨176, 9, 1, 1, 1, false⟩
  , ⟨185, 9, 1, 5, 5, false⟩
  , ⟨194, 1, 1, 7, 7, false⟩
  , ⟨195, 1, 1, 6, 6, false⟩
  , ⟨196, 1, 1, 3, 2, true⟩
  , ⟨200, 9, 1, 1, 0, true⟩
  , ⟨209, 9, 1, 2, 1, true⟩
  , ⟨218, 1, 1, 3, 0, true⟩
  , ⟨219, 1, 1, 2, 1, true⟩
  , ⟨220, 1, 1, 3, 0, true⟩
  , ⟨221, 1, 1, 2, 1, true⟩
  , ⟨222, 3, 1, 1, 1, true⟩
  , ⟨225, 2, 1, 2, 1, true⟩
  , ⟨227, 1, 1, 2, 1, true⟩
  , ⟨228, 1, 1, 2, 1, true⟩
  , ⟨229, 1, 1, 1, 1, true⟩
  , ⟨240, 1, 1, 1, 1, true⟩
  , ⟨241, 1, 1, 2, 2, true⟩
  , ⟨242, 1, 1, 2, 1, true⟩
  , ⟨243, 4, 1, 2, 1, true⟩
  , ⟨248, 4, 1, 2, 1, true⟩
  , ⟨252, 1, 1, 1, 1, true⟩
  , ⟨253, 1, 1, 2, 1, true⟩
  , ⟨254, 1, 1, 1, 1, true⟩
  , ⟨255, 1, 1, 2, 1, true⟩
  , ⟨256, 1, 1, 2, 1, false⟩
  , ⟨257, 1, 1, 1, 1, true⟩
  , ⟨258, 1, 1, 2, 1, true⟩
  , ⟨259, 1, 1, 1, 1, true⟩
  , ⟨260, 16, 1, 2, 1, true⟩
  , ⟨288, 1, 1, 2, 1, true⟩
  , ⟨289, 1, 1, 1, 1, true⟩
  , ⟨290, 1, 1, 1, 1, true⟩
  , ⟨291, 1, 1, 2, 1, true⟩
  , ⟨292, 1, 1, 3, 2, false⟩
  , ⟨293, 1, 1, 3, 2, false⟩
  , ⟨294, 1, 1, 2, 1, true⟩
  , ⟨295, 1, 1, 2, 1, true⟩
  , ⟨304, 1, 1, 1, 1, false⟩
  , ⟨305, 1, 1, 2, 1, false⟩
  , ⟨306, 1, 1, 1, 1, false⟩ ]

end Sys2Proof.Machine
end

