-- ==== Sys2Proof/Machine/Sparse.lean ====
section
/-! DEFINITION. Machine/Sparse.lean: sparse data by key, the canonical form every map of `State` keeps: keys strictly
rising, and no entry equal to what an unlisted key reads as. -/
namespace Sys2Proof.Machine

/-- Sparse data: a list of (key, value) pairs. What an unlisted key reads as is the `dflt` handed to each operation. -/
abbrev Sparse (α : Type) := List (Nat × α)

/-- The value at key `k`: the listed one, or the default of `k`. -/
def Sparse.get {α : Type} (dflt : Nat → α) : Sparse α → Nat → α
  | [], k => dflt k
  | (j, v) :: m, k => if j = k then v else Sparse.get dflt m k

/-- Remove key `k` and everything it holds. -/
def Sparse.drop {α : Type} : Sparse α → Nat → Sparse α
  | [], _ => []
  | (j, v) :: m, k => if j = k then Sparse.drop m k else (j, v) :: Sparse.drop m k

/-- Put `v` at key `k`, at its place in the order. -/
def Sparse.put {α : Type} : Sparse α → Nat → α → Sparse α
  | [], k, v => [(k, v)]
  | (j, w) :: m, k, v =>
    if k < j then (k, v) :: (j, w) :: m
    else if j = k then (k, v) :: m
    else (j, w) :: Sparse.put m k v

/-- Write `v` at key `k`: the entry is removed when `v` is what the key reads as unlisted. -/
def Sparse.set {α : Type} [DecidableEq α] (dflt : Nat → α) (m : Sparse α) (k : Nat) (v : α) : Sparse α :=
  if v = dflt k then Sparse.drop m k else Sparse.put m k v

/-- The canonical form: keys strictly rising, no entry equal to its default. -/
def Sparse.wf {α : Type} [DecidableEq α] (dflt : Nat → α) : Sparse α → Bool
  | [] => true
  | (j, v) :: m =>
    decide (v ≠ dflt j) && (match m with
      | [] => true
      | (j', _) :: _ => decide (j < j')) && Sparse.wf dflt m

end Sys2Proof.Machine
end

