-- ==== Sys2Proof/Machine/State.lean ====
section
/-! DEFINITION. Machine/State.lean: the state of the MLN-7720 as plain data, the reasons a command can stop, and
the state after reset. Memory-mapped registers live in `regs`, keyed by physical address (Machine/RegMap.lean names
every one of them); everything else the spec names has a field of its own. -/
namespace Sys2Proof.Machine

/-- Why a command stops the machine. -/
inductive Fault where
  /-- The name for a command the hardware cannot be given (an operand `Instr.wf` refuses). No meaning raises it: every
  command has an effect, which the statements say for the operands the spec allows. Safe: it stops nothing. -/
  | illFormed
  deriving DecidableEq, Repr

/-- Why the model has no meaning for a command. -/
inductive Refusal where
  /-- The command's arm is not written yet: no arm is left that raises it. Safe: the model would stop where the hardware goes on. -/
  | notModelled (mnemonic : String)
  deriving DecidableEq, Repr

/-! ## The triads (R69 to R99, R100 to R119, R120 to R127) -/

/-- The shadow-stack registers of one level (R114). -/
structure Shadow where
  ssp : DWord := 0
  ssbase : DWord := 0
  sslimit : DWord := 0
  deriving DecidableEq, Repr

/-- What a triad is doing. -/
inductive RunState where
  /-- held in reset (R103, R351) -/
  | held
  /-- executing -/
  | running
  /-- clock-gated by WAIT until an interrupt is pending (R77) -/
  | waiting
  /-- halted through DBG.CORE (R445) -/
  | stopped
  /-- halted through DBG.CORE while WAIT clock-gated it -/
  | stoppedWaiting
  /-- halted by a nested fault (R111) -/
  | nested
  /-- failed by its voter (R160) -/
  | failed
  deriving DecidableEq, Repr

/-- A ZG-64 triad with its vector registers. Keys of the sparse maps are register numbers. -/
structure Triad where
  pc : DWord := 0
  g : Sparse DWord := []
  status : DWord := 0xA
  epc : DWord := 0
  eps : DWord := 0
  ecause : DWord := 0
  eval : DWord := 0
  evbase : DWord := 0
  escratch : DWord := 0
  ssFoot : Shadow := {}
  ssCarr : Shadow := {}
  ssRoad : Shadow := {}
  vcfg : DWord := 0
  vxstat : DWord := 0
  tgset : DWord := 0
  evrbase : DWord := 0
  taskid : DWord := 0
  budget : DWord := 0
  cycle : DWord := 0
  instret : DWord := 0
  /-- TRIAD.OUTVOTES, ODD and MODE (R97) -/
  outvotes : Nat := 0
  odd : Nat := 0
  mode : Nat := 0
  /-- 1 + device time at which each core last joined, by core (R159) -/
  joinedAt : Sparse Nat := []
  /-- cores whose retired state differs from the stream's, waiting for the voter to see it (R156): 1 = A, 2 = B, 3 = C -/
  upset : List Nat := []
  /-- pending sync values, by control-register number; the shadow-stack copies of level l at number + 0x1000 × l (R85) -/
  pend : Sparse DWord := []
  run : RunState := .held
  /-- one instruction is permitted, then the triad halts again (DBG.CORE.STEP, R445) -/
  stepping : Bool := false
  /-- addresses of the vector memory instructions that an interrupt abandoned and that have not retired since (R148) -/
  abandoned : List DWord := []
  /-- a pending CHECK_FAILURE, with its EVAL (R107) -/
  check : Option Nat := none
  /-- a pending TASK_BUDGET_OVERRUN (R107) -/
  overrun : Bool := false
  /-- q0 to q31, 128 bits (R121) -/
  q : Sparse (BitVec 128) := []
  /-- z0 to z31, 1024 bits, with the stored residue of each 32-bit container, 3 bits each (R121, R152) -/
  z : Sparse (BitVec 1024) := []
  zres : Sparse (BitVec 96) := []
  /-- p1 to p7 and their second copy (R122, R150) -/
  p : Sparse (BitVec 64) := []
  p2 : Sparse (BitVec 64) := []
  /-- za0 to za3, 32 elements of 48 bits, with the stored residue of each element (R123, R152) -/
  za : Sparse (BitVec 1536) := []
  zares : Sparse (BitVec 96) := []
  /-- the first-fault mask and its second copy (R124) -/
  ffm : BitVec 64 := 0xFFFFFFFFFFFFFFFF
  ffm2 : BitVec 64 := 0xFFFFFFFFFFFFFFFF
  deriving DecidableEq, Repr

/-! ## Memory errors (R248) -/

/-- The check-bit state of one 64-bit word. -/
inductive WErr where
  | good | correctable | uncorrectable | poisoned
  deriving DecidableEq, Repr

/-! ## Fault collection unit (R309 to R324) -/

/-- What a source reports with a raise (R318). `master` 0xFF is none, `kind` is the access type. -/
structure Raise where
  master : BitVec 8 := 0xFF
  kind : Nat := 14
  addr : Option Nat := none
  reduced : Bool := false
  /-- the channel a line break names (R310), or the log's own number; for a memory error 1 after its write-back, 2 in a poisoned word (R248) -/
  note : Nat := 0
  /-- injected or simulated by Roadworks, and tagged so in the log (R267, R310) -/
  tagged : Bool := false
  /-- DETAIL of the log entry, as the source reports it (R418) -/
  detail : List (BitVec 8) := []
  deriving DecidableEq, Repr

/-- One dual-rail pair. -/
structure Pair where
  /-- raises the source still has to signal, oldest first, each one run of 11 -/
  todo : List Raise := []
  /-- a fault condition that holds, and is driven as long as it does -/
  cond : Option Raise := none
  /-- the last sample, none when it was the toggle reference's own code -/
  prev : Option (BitVec 2) := none
  /-- how many samples of 11 in a row -/
  run : Nat := 0
  /-- valid samples in a row while BROKEN is set (R310) -/
  valid : Nat := 0
  deriving DecidableEq, Repr

/-- A raise waiting for the host's choice (R321). -/
structure Deferral where
  channel : Nat
  sev : Nat
  deadline : Nat
  deriving DecidableEq, Repr

/-- An entry of the raise queue (R320). -/
structure QEntry where
  sev : Nat
  channel : Nat
  timeUs : BitVec 16
  /-- what the log entry carries beside the queue's word: the device time of the raise in ns, what the source reported (none
  when the details were lost, R319), and its DETAIL -/
  time : Nat
  info : Option Raise
  detail : List (BitVec 8)
  deriving DecidableEq, Repr

structure Fcu where
  /-- the toggle reference: the code a healthy pair shows at the next sample is 01 when true -/
  ref : Bool := true
  /-- no sample since the end of a reset (R309) -/
  fresh : Bool := true
  pairs : Sparse Pair := []
  queue : List QEntry := []
  /-- times in ms of the last 255 raises of FC 218 and FC 220, newest first (R314) -/
  hist218 : List Nat := []
  hist220 : List Nat := []
  deferred : List Deferral := []
  /-- device time at which a safe-state reset pulls RESET_N (R323 step 7) -/
  resetAt : Option Nat := none
  deriving DecidableEq, Repr

/-! ## Tollgates (R278 to R296) -/

/-- One memory slot as applied (R281). -/
structure MSlot where
  base : BitVec 32 := 0
  limit : BitVec 32 := 0
  valid : Bool := false
  shadow : Bool := false
  perm : BitVec 9 := 0
  deriving DecidableEq, Repr

/-- One applied rule set: 16 memory slots and 64 peripheral entries, both sparse by number (R280). -/
structure RuleSet where
  mem : Sparse MSlot := []
  per : Sparse (BitVec 8) := []
  deriving DecidableEq, Repr

structure Tollgate where
  /-- applied sets, at 4 × unit + set -/
  sets : Sparse RuleSet := []
  /-- staged edits not applied, at 4 × unit + set (TG.STATUS.PENDING) -/
  dirty : List Nat := []
  /-- applied set of units 23 to 27 -/
  sel : Sparse Nat := []
  deriving DecidableEq, Repr

/-! ## Graph images (R41 to R50) -/

/-- A partition table entry (R45). -/
structure Partition where
  laneSlot : Nat
  opPoint : Nat
  firstTask : Nat
  tasks : Nat
  suspendParam : Nat
  wNs : Nat
  codeOffset : Nat
  codeSize : Nat
  footprint : Nat
  stateSize : Nat
  stateKey : Nat
  deriving DecidableEq, Repr

/-- A task table entry (R46); `resv` is the OR of its reserved bytes. -/
structure Task where
  partition : Nat
  waymarks : Nat
  entry : Nat
  dNs : Nat
  sNs : Nat
  waits : Nat
  publishes : Nat
  stack : Nat
  resv : Nat
  deriving DecidableEq, Repr

/-- A coefficient record header (R47); `off` is where it stands in the image. -/
structure Coef where
  setId : Nat
  type : Nat
  place : Nat
  partition : Nat
  resv : Nat
  count : Nat
  crc : Nat
  dramAddr : Nat
  off : Nat
  deriving DecidableEq, Repr

/-- A routing table entry (R48). -/
structure Route where
  source : Nat
  kind : Nat
  resv : Nat
  unit : Nat
  index : Nat
  deriving DecidableEq, Repr

/-- A parameter table entry (R49). -/
structure Param where
  id : Nat
  partition : Nat
  type : Nat
  ramp : Nat
  dfltRamp : Nat
  resv : Nat
  offset : Nat
  deriving DecidableEq, Repr

/-- One biquad section of an express program (R191). -/
structure Biquad where
  b0 : Word
  b1 : Word
  b2 : Word
  a1 : Word
  a2 : Word
  deriving DecidableEq, Repr

/-- One express channel program (R191); `resv` is the OR of its reserved bytes. -/
structure ExpProg where
  channel : Nat
  rate : Nat
  stagesA : Nat
  stagesB : Nat
  flags : Nat
  gainA : Word
  gainB : Word
  thresh : Word
  att : Word
  rel : Word
  pidA : Nat
  pidB : Nat
  pidT : Nat
  dfltRamp : Nat
  resv : Nat
  mixA : List Word
  mixB : List Word
  bqA : List Biquad
  bqB : List Biquad
  deriving DecidableEq, Repr

/-- A directory entry (R43). -/
structure Section where
  type : Nat
  resv : Nat
  offset : Nat
  size : Nat
  crc : Nat
  deriving DecidableEq, Repr

/-- A graph image as Prosal and the engine read it. `base` is the physical address of its Depot copy. -/
structure Image where
  base : Nat
  format : Nat
  sectionsN : Nat
  length : Nat
  device : Nat
  minProsal : Nat
  rate : Nat
  bsize : Nat
  partitionsN : Nat
  laybyIdle : Nat
  idleBlocks : Nat
  hmacKey : Nat
  flags : Nat
  detClass : Nat
  tolerance : Nat
  imageId : Nat
  resv : Nat
  sections : List Section
  parts : List Partition
  tasks : List Task
  coefs : List Coef
  routes : List Route
  express : List ExpProg
  params : List Param
  /-- logical lane of each partition (R53) -/
  lanes : List Nat
  /-- the Depot bytes given to the image's own allocations: start, length (R481) -/
  allocs : List (Nat × Nat)
  deriving DecidableEq, Repr

/-! ## The engine (R15 to R36, R53 to R67, R160 to R175) -/

/-- What a lane does in the lane period. -/
inductive LanePhase where
  /-- gated: no partition -/
  | off
  /-- its partition is suspended for the block (R56) -/
  | suspended
  /-- waits at an exchange point -/
  | waiting
  | running
  | replaying
  /-- a Layby lane being woken and prepared (R167 steps 1 to 4) -/
  | preparing
  /-- clock-gated after its last task (R57) -/
  | finished
  /-- failed for the block (R160, R161) -/
  | failed
  deriving DecidableEq, Repr

/-- A sample a task hands to a routing point: point, sample index within the block, value. -/
structure OutSample where
  point : Nat
  index : Nat
  value : Word
  deriving DecidableEq, Repr

/-- An exception taken by a task: cause and PC (R35). -/
structure TaskExc where
  cause : Nat
  pc : DWord
  deriving DecidableEq, Repr

/-- A physical lane's run of its partition in the current lane period. -/
structure LaneRun where
  phase : LanePhase := .off
  logical : Nat := 0
  part : Nat := 0
  /-- task running or last run, within the partition -/
  task : Nat := 0
  /-- device time of the start of the task, ns -/
  since : Nat := 0
  /-- the check record holds a failure of the running task (R23) -/
  fault : Bool := false
  /-- the task exception of the running task, not yet replayed (R35) -/
  exc : Option TaskExc := none
  /-- the exception behind the running replay (R35) -/
  first : Option TaskExc := none
  /-- tasks replayed in this block (R161) -/
  replayed : List Nat := []
  /-- outputs of the tasks completed clean, of the block -/
  outs : List OutSample := []
  /-- the new state buffer, by byte offset (R21) -/
  fresh : Sparse Byte := []
  /-- the record is clean to the end of the partition and the gate has opened (R24) -/
  committed : Bool := false
  /-- the Layby lane that runs this lane's shadow -/
  shadow : Option Nat := none
  /-- g19 to g30 as the replay-point record of the running task holds them (R162) -/
  saved : Sparse DWord := []
  /-- the block is suspended under R56 -/
  suspended : Bool := false
  /-- outputs and state the running task's predecessors left, by task: where a rollback returns to (R34) -/
  points : List (Nat × List OutSample × Sparse Byte) := []
  /-- the lane whose result was committed (R24, R30) -/
  via : Option Nat := none
  /-- it sits out this lane period, which the standing shadow commits (R168) -/
  sat : Bool := false
  /-- the block's input samples, by input × B + sample (R21) -/
  inputs : Sparse Word := []
  deriving DecidableEq, Repr

/-- What a Layby lane (16 or 17) keeps for the home lane it serves (R164 to R171). -/
structure LaybyLane where
  /-- the physical home lane -/
  home : Option Nat := none
  /-- the slip road is open (R167 step 4 to R169 settle) -/
  road : Bool := false
  /-- diversion table: home granule ↦ 1 + pool granule (R165) -/
  divert : Sparse Nat := []
  /-- the shadow's replay point and the allowance A it started under (R26, R167), and 1 + the Sentry cycle of its assignment (R33) -/
  point : Nat := 0
  allow : Nat := 0
  cycle : Nat := 0
  deriving DecidableEq, Repr

/-- A ramp in progress: samples applied, length in samples, start and target (R58). -/
structure Ramp where
  kind : Nat
  pos : Nat
  len : Nat
  v0 : Word
  v1 : Word
  deriving DecidableEq, Repr

/-- A parameter: its value at the current sample and its ramp. -/
structure ParamVal where
  value : Word := 0
  ramp : Option Ramp := none
  deriving DecidableEq, Repr

/-- An accepted parameter update (R58, R60). -/
structure Update where
  id : Nat
  value : Word
  block : Nat
  /-- ramp length in blocks; none is the parameter's DEFAULT_RAMP -/
  ramp : Option Nat
  /-- PSEQ given when it was forwarded to the standby (R384), 0 for none -/
  pseq : Nat
  /-- a per-block value under R61 -/
  host : Bool := false
  deriving DecidableEq, Repr

/-- A planned move of a partition (R171). -/
structure Park where
  logical : Nat
  /-- the Layby lane that is destination of a park or source of a return -/
  layby : Nat
  back : Bool
  block : Nat
  /-- the Layby lane's BSQ.LAYBY.USE before a return, to which its cancellation goes back -/
  use : Nat
  deriving DecidableEq, Repr

/-- A pending switch (R62 to R66). -/
structure Switch where
  block : Nat
  /-- without a gap (R63) -/
  hot : Bool
  /-- staging has begun, and is complete on every lane (R65) -/
  staging : Bool := false
  staged : Bool := false
  /-- block from which a moved partition's restage is complete (R66) -/
  restage : Nat := 0
  /-- the standby alone switches (R385) -/
  alone : Bool := false
  /-- waits for the host's release (R67) -/
  held : Bool := false
  deriving DecidableEq, Repr

/-- A mirror under way (R172 to R174). -/
structure MirrorRun where
  block : Nat
  body : List Byte
  header : List Byte
  /-- it was under way at the last C_N already -/
  old : Bool := false
  /-- its body has been written over the slot's (R174) -/
  begun : Bool := false
  deriving DecidableEq, Repr

/-- A block's committed outputs, waiting for O_N (R20). -/
structure OutBlock where
  block : Nat
  /-- device time of O_N -/
  start : Nat
  samples : List OutSample
  /-- the image whose output routing applies to it (R65 step 8) -/
  image : Image
  deriving DecidableEq, Repr

structure Engine where
  running : Option Image := none
  pending : Option Image := none
  /-- which of its two scratchpad areas on every lane the running image uses; a pending one is staged in the other (R65) -/
  area : Nat := 0
  /-- the image replaced by a switch without a gap, whose Depot bytes stay held until C_S (R65 step 9) -/
  old : Option Image := none
  /-- the block count: a block number, the device time at which that block starts, and the rate and block-size codes it
  counts at; rate 0: it stands still (R15, R16) -/
  epochN : Nat := 0
  epochT : Nat := 0
  seqRate : Nat := 0
  seqB : Nat := 0
  /-- the block whose inputs were complete at the last block boundary, until its lane period begins (R18) -/
  due : Option Nat := none
  lanes : Sparse LaneRun := []
  layby : Sparse LaybyLane := []
  /-- committed state buffer by logical lane and byte offset (R21) -/
  states : Sparse (Sparse Byte) := []
  /-- parameters of the running image, by index in its table -/
  params : Sparse ParamVal := []
  updates : List Update := []
  /-- values the host supplied in host-assisted ramp mode are updates with L = 1 (R61) -/
  hostRamp : Bool := false
  /-- a change of the parameter ramp mode: block at which it takes effect, the new mode (R429) -/
  rampChange : Option (Nat × Bool) := none
  /-- the ramps of express parameters have stopped for that change already (R190, R429) -/
  rampStopped : Bool := false
  /-- a change of the sparing mode, in the same way (R429) -/
  sparingChange : Option (Nat × Bool) := none
  /-- a preset armed for the next boundary, or for the boundary that ends a block (R17, R377) -/
  preset : Option Nat := none
  presetAt : Option (Nat × Nat) := none
  /-- the preset has just been applied: pending updates apply late (R17) -/
  presetApplied : Bool := false
  /-- the block whose lane period is running, N_a -/
  period : Option Nat := none
  /-- device time at which it began -/
  periodAt : Nat := 0
  /-- exchange points published in the lane period (R22) -/
  published : List Nat := []
  /-- committed outputs by block, oldest first, and the block whose samples leave -/
  outs : List OutBlock := []
  cur : Option OutBlock := none
  /-- consecutive blocks with every partition of the cluster suspended (R56) -/
  idle : Sparse Nat := []
  /-- clusters being woken (R57, R65) -/
  waking : List Nat := []
  switch : Option Switch := none
  parks : List Park := []
  /-- lanes taken out of service (R32, R53, R422) -/
  outOfService : List Nat := []
  /-- lanes whose triad is under the core test (R160) -/
  testing : List Nat := []
  /-- mirrors under way, oldest first, and mirrors started, by logical lane -/
  mirror : Sparse (List MirrorRun) := []
  /-- BODY_CRC of the last mirror started, and of the one before the lane period that runs (R374) -/
  bodyCrc : Sparse Word := []
  bodyPrev : Sparse Word := []
  mirrorSeq : Sparse Nat := []
  /-- 1 + the BLOCK field of mirror slot i of logical lane l, at 2 × l + i, while the slot is valid (R174) -/
  mirrorAt : Sparse Nat := []
  /-- the image stops after this block (GRAPH_STOP, R415) -/
  stopAfter : Option Nat := none
  /-- the host has released the pending image after its load check (R67) -/
  released : Bool := false
  /-- Prosal has cleared FCU.MUTE after the first block of the first image (R357) -/
  unmuted : Bool := false
  /-- a change of the cluster power mode, in force from the next lane-period boundary (R429) -/
  powerChange : Option Bool := none
  /-- host-assisted modes of the engine: sparing, cluster power (R429) -/
  hostSparing : Bool := false
  hostPower : Bool := false
  deriving DecidableEq, Repr

/-! ## Memory units (R247 to R277) -/

/-- One soft row repair entry (R252). -/
structure RowRepair where
  valid : Bool := false
  row : Nat := 0
  deriving DecidableEq, Repr

/-- A march under way (R251): memory 0 to 9, bank, mode, next row. -/
structure MarchRun where
  mem : Nat
  bank : Nat
  preserve : Bool
  row : Nat
  /-- rows, or first DRAM pages with their sub-channel, in which a cell failed -/
  failed : List (Nat × Nat) := []
  deriving DecidableEq, Repr

/-- A three-write sequence to a triplicated control word in progress (R254). -/
structure TcwSeq where
  master : Nat
  addr : Nat
  value : Word
  second : Bool
  time : Nat
  deriving DecidableEq, Repr

/-- A Ledger word write in progress (R273). -/
structure LdgWrite where
  off : Nat
  word : DWord
  retried : Bool
  deriving DecidableEq, Repr

/-- A host scrub range (R265, R419). -/
structure ScrubRange where
  base : Nat
  len : Nat
  /-- seconds -/
  period : Nat
  deriving DecidableEq, Repr

structure MemUnit where
  /-- repair entries at ((memory × 128) + bank) × 4 + spare -/
  repair : Sparse RowRepair := []
  /-- row copies under way: key of `repair`, row (R252) -/
  rowCopy : List (Nat × Nat) := []
  /-- correctable words waiting for their write-back, by word number (address div 8) (R248) -/
  writeBack : List Nat := []
  /-- words already written back after a correction, and the correctable errors seen, (word, ms) (R267) -/
  wroteBack : List Nat := []
  ceSeen : List (Nat × Nat) := []
  march : Option MarchRun := none
  /-- bank transitions under way: memory × 128 + bank ↦ target state + 1 (R249) -/
  moving : Sparse Nat := []
  /-- next word each scrubber reads, and when its pass began, by memory 0 to 11 (R264) -/
  scrubAt : Sparse Nat := []
  scrubFrom : Sparse Nat := []
  /-- host scrub ranges, by index 0 to 15 (R419) -/
  ranges : Sparse ScrubRange := []
  /-- DRAM pages being copied: remap entry (R268) -/
  pageCopy : List Nat := []
  /-- sequences in progress, by peripheral slot -/
  tcw : Sparse TcwSeq := []
  /-- lanes to take out of service once their partitions are parked (R253) -/
  leaving : List Nat := []
  ledger : Option LdgWrite := none
  /-- host-assisted retirement and log compaction (R429) -/
  hostRetire : Bool := false
  hostCompact : Bool := false
  /-- the Depot sets removed from allocation (R253) -/
  depotSetsOut : List Nat := []
  /-- Ledger words that no longer take a write: their offsets (R273) -/
  worn : List Nat := []
  /-- triplicated control words whose three copies differ, by address (R255) -/
  split : List Nat := []
  /-- log entries written in the running second of device time: second, count (R274) -/
  logRate : Nat × Nat := (0, 0)
  /-- next index of the fault log ring, entries it keeps, and those of them unread (R274) -/
  logHead : Nat := 0
  logKept : Nat := 0
  logUnread : Nat := 0
  deriving DecidableEq, Repr

/-! ## Data movers (R297 to R303) -/

/-- The work of a mover channel: its descriptor and how far it has come. -/
structure Chan where
  /-- descriptor address, as fetched -/
  desc : Nat := 0
  src : DWord := 0
  dst : DWord := 0
  len : Nat := 0
  flags : Nat := 0
  next : DWord := 0
  /-- the descriptor has been fetched and is being moved -/
  loaded : Bool := false
  done : Nat := 0
  retried : Bool := false
  abort : Bool := false
  deriving DecidableEq, Repr

/-! ## Twin link (R369 to R399) -/

/-- What a SYNC frame carries of a block (R374). -/
structure SyncRec where
  block : Nat
  lanes : Nat
  uncommitted : Nat
  flags : Nat
  boundary : Nat
  paramApplied : Nat
  expressCrc : Word
  outCrc : List Word
  stateCrc : List Word
  deriving DecidableEq, Repr

/-- A serial channel of the link: the last valid frame, valid HEART frames in a row, times of its CRC errors (newest first),
and its last failure, in device ns (R369). -/
structure LinkChan where
  lastAt : Nat := 0
  hearts : Nat := 0
  errs : List Nat := []
  failedAt : Nat := 0
  deriving DecidableEq, Repr

/-- A frame as it was sent: SEQ, BLOCK and body (R372). -/
structure SovSent where
  seq : Nat
  block : Nat
  body : List Byte
  deriving DecidableEq, Repr

/-- What the partner's VERSION frame said (R378). -/
structure PeerInfo where
  proto : Nat
  prosal : Nat
  cls : Nat
  imageId : Nat
  serial : Nat
  rate : Nat
  bsize : Nat
  outputs : Bool
  prefer : Bool
  source : Nat
  deriving DecidableEq, Repr

/-- A received sideband pair: the last code, how many samples it has held, samples at rest in a row while broken (R371). -/
structure PeerPair where
  code : Nat := 0
  held : Nat := 0
  rest : Nat := 0
  deriving DecidableEq, Repr

/-- A packet named by its stream and RTP timestamp (R380). -/
structure PktName where
  stream : Nat
  ts : Nat
  deriving DecidableEq, Repr

structure Sov where
  chans : Sparse LinkChan := []
  /-- device time of the last valid frame on any channel, and whether heartbeat is lost (R369) -/
  heardAt : Nat := 0
  heartLost : Bool := false
  /-- SEQ of the next frame sent, and of the next critical frame expected, by TYPE (R372, R373) -/
  seqTx : Sparse Nat := []
  seqRx : Sparse Nat := []
  /-- the last frame sent of each TYPE -/
  sent : Sparse SovSent := []
  peer : Option PeerInfo := none
  peerRole : Nat := 0
  /-- block at which this device last became primary (R376) -/
  primarySince : Nat := 0
  /-- the last own SYNC had UNCOMMITTED = 0 and CATCHUP = 0 (R381) -/
  syncGood : Bool := false
  /-- updates forwarded and not acknowledged, with the time they were last sent (R384) -/
  unacked : List (Nat × Update) := []
  /-- PSEQ up to which the standby holds every update (R376) -/
  held : Nat := 0
  /-- updates held beyond a missing one, by PSEQ -/
  ahead : List Nat := []
  /-- a planned swap at block S (R392), and the role under which packets before a time are sent (R218) -/
  swapAt : Option Nat := none
  legSwap : Option (Nat × Nat) := none
  /-- this device became primary by a takeover and keeps the blue legs until its partner stands by again (R218) -/
  keepsBlue : Bool := false
  /-- blocks whose SYNC frame has come from the partner (R387) -/
  heard : List Nat := []
  /-- join block J (R393): while the snapshot is open the DRAM pieces read, and the join log (R394) -/
  join : Option Nat := none
  snapOpen : Bool := false
  snapRead : List Nat := []
  joinLog : List (Nat × List Byte) := []
  /-- express capture block X (R393) -/
  expressAt : Option Nat := none
  /-- blocks the standby has recorded and not yet run are numbered up to this one (R393) -/
  recorded : Nat := 0
  /-- end of the wait for the host's choice after a divergence, and times of the divergences in ns (R387) -/
  choiceBy : Option Nat := none
  diverged : List Nat := []
  /-- relay messages received (R420) -/
  relay : List (Nat × Nat) := []
  health : PeerPair := {}
  takePair : PeerPair := {}
  /-- the cause of a takeover that is due (R389) -/
  cause : Nat := 0
  /-- next repair tick, and packets asked for and held at their cutoff (R386) -/
  tick : Nat := 0
  asked : List PktName := []
  /-- device time of the last HEART frame with READY = 1 (R381) -/
  readyAt : Option Nat := none
  /-- device time of the boundary F of a takeover the primary has raised (R388) -/
  takeAt : Option Nat := none
  /-- that takeover was raised because a block is lost: should it fail, the block-loss channel follows (R36) -/
  takeLoss : Bool := false
  /-- the TWIN_TAKE pair is driven 11 (R370, R388) -/
  takeOut : Bool := false
  /-- the SYNC records of the last blocks, newest first (R374, R387) -/
  own : List SyncRec := []
  /-- REPAIR_MISS flags still to send, and PARAM_MISS of the block that runs (R384, R386) -/
  repairMiss : Nat := 0
  /-- PSEQ of the last update of a settled block, and (block, PSEQ) of those applied for later blocks (R374, R384) -/
  applied : Nat := 0
  appliedAt : List (Nat × Nat) := []
  paramMiss : Bool := false
  deriving DecidableEq, Repr

/-! ## Junction and express blocks (R176 to R197) -/

/-- A biquad's states x[n-1], x[n-2], y[n-1], y[n-2] (R187). -/
structure BqState where
  x1 : Word := 0
  x2 : Word := 0
  y1 : Word := 0
  y2 : Word := 0
  deriving DecidableEq, Repr

/-- The voted state of an express channel (R187). -/
structure ExpChan where
  a : List BqState := []
  b : List BqState := []
  /-- envelopes of the two paths; with LINK both use the first -/
  ea : Word := 0
  eb : Word := 0
  /-- output frames since the Layby block took the channel over from a failed block (R195) -/
  fade : Option Nat := none
  deriving DecidableEq, Repr

structure Express where
  /-- blocks that have failed and wait for the Layby block, in order (R195) -/
  failed : List Nat := []
  /-- blocks out of service (R195, R196) -/
  out : List Nat := []
  /-- express programs in force, with their channels' states, by logical channel -/
  progs : List ExpProg := []
  chans : Sparse ExpChan := []
  /-- last sample delivered to input i of channel c, at 2 × c + i, while one has been delivered since the start (R187) -/
  inp : Sparse Word := []
  /-- copies of a block whose results differ from the others', waiting for the voter: bit 0 = A (R193) -/
  upset : Sparse Nat := []
  /-- 1 + device time at which copy `k` (1 = A) of block `b` was last outvoted, at 4 × b + k (R194) -/
  outvotedAt : Sparse Nat := []
  /-- express output samples of the block that runs, by 2 × channel + path, newest first; CRCs of the last blocks (R374) -/
  outs : Sparse (List Word) := []
  crcs : List (Nat × Word) := []
  /-- newest sample of an express routing point, and the device time of its position, one frame after its input's (R181, R188) -/
  late : Sparse (Word × Nat) := []
  /-- device time before which every express output carries 0 (R230 item 5) -/
  quiet : Nat := 0
  deriving DecidableEq, Repr

structure Junction where
  /-- the input rings of the partitions (R21) and the rings of the Depot buffers (R482): the samples delivered to a destination,
  newest first, by kind × 2 ^ 32 + unit × 2 ^ 16 + index -/
  ring : Sparse (List Word) := []
  /-- input samples of a rate adapter's stages, newest first, by routing-table index × 8 + stage (R183) -/
  taps : Sparse (List Word) := []
  /-- whether a decimating stage holds the first of its two samples, at the same key -/
  phase : Sparse Nat := []
  /-- the sample of a routing point before its most recent one -/
  before : Sparse Word := []
  deriving DecidableEq, Repr

/-! ## Output pins (R324, R348, R370, R390, R403) -/

/-- What a TDM port's DOUT carries. -/
inductive Dout where
  | data | low | highZ
  deriving DecidableEq, Repr

/-- The levels the device drives on its output pins; a Bool is the pin's level, true high or released. -/
structure Pins where
  safeN : Bool := false
  faultN : Bool := false
  irqN : Bool := false
  resetN : Bool := true
  /-- MUTE_A to MUTE_D -/
  mute : BitVec 4 := 0xF
  /-- TWIN_HEALTH holds 11, TWIN_TAKE holds 11 -/
  unhealthy : Bool := true
  take : Bool := false
  /-- DOUT of every TDM port -/
  dout : Dout := .low
  /-- express outputs carry 0, and no packet is launched -/
  silent : Bool := true
  /-- GPIO driven by the safe state or by ROLE_GPIO, and the levels driven -/
  gpioOe : BitVec 16 := 0
  gpio : BitVec 16 := 0
  /-- WCLK_OUT runs; MCLK_OUT's multiple of the processing rate, 0 while it is held low (R232) -/
  wclk : Bool := false
  mclk : Nat := 0
  /-- boundary scan (R443): 0 the functions drive the pins, 1 the preloaded cells do, 2 every pin is high-impedance -/
  scan : Nat := 0
  deriving DecidableEq, Repr

/-! ## Host interface (R401 to R436) -/

/-- A parameter ring as RING_SETUP gave it (R416, R425). -/
structure RingCfg where
  log2 : Nat
  vector : Nat
  base : Nat
  consAddr : Nat
  deriving DecidableEq, Repr

/-- A nonce waiting for its UNLOCK_HMAC (R439). -/
structure Nonce where
  value : BitVec 128
  level : Nat
  issued : Nat
  deriving DecidableEq, Repr

/-- The Debug gate (R437 to R442). -/
structure Gate where
  nonce : Option Nonce := none
  /-- device up-time in ns of the last command or debug access (R442) -/
  lastAt : Nat := 0
  /-- a halt of the supervisor has cleared PROSAL_UP, which resume restores (R447) -/
  heldUp : Bool := false
  deriving DecidableEq, Repr

/-- The TAP (R443, R444): its instruction, the boundary cells preloaded, the pins as last sampled, and the data and status a DBG_ACCESS
captures. -/
structure Jtag where
  ir : Nat := 1
  cells : List Byte := []
  sampled : Option Pins := none
  data : Word := 0
  status : Nat := 0
  deriving DecidableEq, Repr

structure HostIf where
  /-- words of the MSI-X table (R401, R404): 4 for each vector -/
  msix : Sparse Word := []
  /-- the last MSI-X message sent: address and data -/
  sent : Option (Nat × Word) := none
  /-- mailboxes in the order of their posts (R405) -/
  posted : List Nat := []
  /-- rings set up since reset -/
  rings : Sparse RingCfg := []
  /-- the last PCIe completion: status (0 = OK, 1 = Unsupported Request, 2 = Completer Abort) and data (R263, R289) -/
  cpl : Nat × List Byte := (0, [])
  /-- status of the last QSPI WRITE, and the bytes the last transaction returned (R402) -/
  qstat : Nat := 0
  qout : List Byte := []
  /-- recalibrations under way: network port k, Sorov serial channel 4 + k (R433) -/
  recal : List Nat := []
  /-- the restart under way is a planned one (R407, R432) -/
  planned : Bool := false
  /-- the ring served last (R426) -/
  ringTurn : Nat := 7
  /-- SEQ and CRC of the previous request of a mailbox, with its response (R408) -/
  last : Sparse (Nat × Word × List Byte) := []
  /-- routing points metered, with LAST and PEAK (R417) -/
  meters : List (Nat × Word × Word) := []
  deriving DecidableEq, Repr

/-! ## Milestone and Waymark (R326 to R341) -/

structure Milestone where
  /-- the counting of window and grace runs (R327); MSW.CTRL.EN tells a disabled Milestone from one stopped by a reset -/
  running : Bool := false
  /-- OPEN and CLOSE of the window in force (R333) -/
  openT : Nat := 1
  closeT : Nat := 2000000
  /-- tick at which grace began, and its length in force -/
  graceFrom : Nat := 0
  graceLen : Nat := 100000
  /-- tick of the first write of a disable pair in progress (R334) -/
  pair : Option Nat := none
  deriving DecidableEq, Repr

/-- The window of a lane's Waymark monitor (R337), or of a supervisor activity (R340). -/
structure Window where
  count : Nat := 0
  flagged : Bool := false
  /-- device time of the last check-in -/
  lastAt : Option Nat := none
  /-- device time at which the window opened -/
  since : Nat := 0
  deriving DecidableEq, Repr

/-! ## Roadworks (R449, R450) -/

structure Roadworks where
  /-- injections armed and not performed, with the kind, target and 64-bit word they were armed with -/
  left : Nat := 0
  kind : Nat := 0
  target : Nat := 0
  word : Nat := 0
  /-- device up-time in ns at which the simulated pattern ends -/
  breakEnd : Nat := 0
  /-- that pattern, and the fault channel it is driven on -/
  pattern : Nat := 0
  channel : Nat := 0
  deriving DecidableEq, Repr

/-! ## Resets, start-up and the backup domain (R342 to R360) -/

/-- Where the device stands between a reset and its running firmware. -/
inductive Boot where
  /-- held in reset: the SENTRY power state (R343) -/
  | held
  /-- the core domain switched off by PWR.CMD (R361) -/
  | off
  /-- option loading (R349) -/
  | options
  /-- repairs and the SRAM fill (R351) -/
  | fill
  /-- supervisor released: the boot ROM chooses a slot (R352, R353) -/
  | rom
  /-- no slot passed: the boot ROM's recovery (R354) -/
  | recovery
  /-- firmware entered (R353) -/
  | firmware
  deriving DecidableEq, Repr

/-- Backup-domain words that have no register of their own (R347, R358, R441). -/
structure Backup where
  /-- the three copies of the reset counter -/
  c0 : Nat := 1
  c1 : Nat := 1
  c2 : Nat := 1
  /-- pending causes, laid out as RST.CAUSE -/
  causes : Nat := 0
  /-- failure count of the Debug gate, and the backup time at which a lockout ends -/
  fails : Nat := 0
  lockUntil : Nat := 0
  /-- contents kept since they were last initialised; VBKP below its threshold makes them invalid -/
  valid : Bool := true
  /-- XTAL32 has stopped -/
  stopped : Bool := false
  deriving DecidableEq, Repr

/-! ## Network ports, PTP and the media clock (R200 to R240) -/

/-- One leg of a receive stream: destination address, source address (0 = any), destination port. -/
structure RxLeg where
  dstIp : Nat := 0
  srcIp : Nat := 0
  dstPort : Nat := 0
  deriving DecidableEq, Repr

/-- What a receive stream remembers of a leg: the last in-time packet's arrival, in-time packets in a row, whether the leg is
lost, the last sequence number and SSRC. -/
structure LegRun where
  lastAt : Nat := 0
  /-- the first samples of the last packets in time on the leg (R211) -/
  recent : List Nat := []
  lost : Bool := false
  seq : Option Nat := none
  ssrc : Option Nat := none
  deriving DecidableEq, Repr

/-- A receive stream (R204 to R213, R424). FORMAT is kept as the record gives it. -/
structure RxStream where
  channels : Nat
  format : Nat
  firstCh : Nat
  pt : Nat
  conceal : Nat
  ports : Nat
  depthLog : Nat
  lo : Nat
  absentMs : Nat
  offset : Nat
  red : RxLeg
  blue : RxLeg
  redRun : LegRun := {}
  blueRun : LegRun := {}
  /-- where its buffer lies in the jitter-buffer region, and the samples n it holds and has not presented (R209) -/
  base : Nat := 0
  held : List Nat := []
  /-- last P values presented of each channel, newest first -/
  shown : Sparse (List Word) := []
  /-- consecutive concealed samples, and those not yet counted as a packet's worth -/
  missing : Nat := 0
  owed : Nat := 0
  /-- the first samples of the packets in time since the stream began to conceal; arrival of the last one -/
  recent : List Nat := []
  lastAt : Nat := 0
  /-- an episode of host-assisted concealment is open; the host's choice: policy, block (R213) -/
  episode : Bool := false
  choice : Option (Nat × Nat) := none
  /-- the next frame boundary of the stream's rate, as a sample count -/
  next : Option Nat := none
  deriving DecidableEq, Repr

/-- One leg of a transmit stream (R424). -/
structure TxLeg where
  srcMac : Nat := 0
  dstMac : Nat := 0
  vlan : Nat := 0
  dscp : Nat := 0
  ttl : Nat := 0
  srcIp : Nat := 0
  dstIp : Nat := 0
  srcPort : Nat := 0
  dstPort : Nat := 0
  deriving DecidableEq, Repr

/-- A transmit stream (R204 to R207, R215 to R219, R424). -/
structure TxStream where
  channels : Nat
  format : Nat
  pt : Nat
  ports : Nat
  ssrc : Nat
  offset : Nat
  txOffset : Nat
  red : TxLeg
  blue : TxLeg
  /-- last packet index k launched or skipped -/
  last : Option Nat := none
  /-- the legs this device sends: red, blue (R217) -/
  redOn : Bool := true
  blueOn : Bool := true
  /-- committed samples delivered to its channels, by 64 × n + channel -/
  buf : Sparse Word := []
  deriving DecidableEq, Repr

/-- The dataset of an Announce message. -/
structure AnnData where
  gmId : Nat := 0
  prio1 : Nat := 0
  clockClass : Nat := 0
  accuracy : Nat := 0
  variance : Nat := 0
  prio2 : Nat := 0
  steps : Nat := 0
  /-- the sender's portIdentity: clockIdentity × 2 ^ 16 + portNumber -/
  source : Nat := 0
  deriving DecidableEq, Repr

/-- PTP on one port (R220 to R224). -/
structure PtpPort where
  /-- device time at which the port entered LISTENING -/
  since : Nat := 0
  /-- the best foreign master heard, with the arrival of its last Announce and how many have come -/
  best : Option AnnData := none
  annAt : Nat := 0
  annCount : Nat := 0
  badAnn : Nat := 0
  /-- accepted Sync samples of the master; offset outliers and unanswered Delay_Req in a row -/
  syncs : Nat := 0
  outliers : Nat := 0
  noResp : Nat := 0
  /-- a two-step Sync waiting for its Follow_Up: sequenceId, receipt, correction -/
  sync : Option (Nat × Nat × Int) := none
  /-- the last Delay_Req sent and not answered: sequenceId, time of sending -/
  req : Option (Nat × Nat) := none
  /-- the last Sync's receipt minus its origin, for the path delay -/
  forth : Int := 0
  /-- the master has qualified (R222) -/
  qualified : Bool := false
  /-- sequenceIds of the next Sync, Delay_Req and Announce sent -/
  seqSync : Nat := 0
  seqReq : Nat := 0
  seqAnn : Nat := 0
  deriving DecidableEq, Repr

structure Net where
  rx : Sparse RxStream := []
  tx : Sparse TxStream := []
  ptp : Sparse PtpPort := []
  /-- control frames queued to Prosal in the current second of device time, by port: second, count (R208) -/
  ctrl : Sparse (Nat × Nat) := []
  /-- the last frame sent on a port -/
  sent : Sparse (List Byte) := []
  /-- host-assisted stream concealment (R429) -/
  hostConceal : Bool := false
  deriving DecidableEq, Repr

/-- The media clock DPLL (R226 to R231). Its status and its measured error stand in the MCK registers. -/
structure Clock where
  /-- a source has been taken since reset -/
  taken : Bool := false
  /-- device time of entry to holdover -/
  holdAt : Option Nat := none
  /-- the lost-source channel of the 10 s limit has been raised -/
  lostRaised : Bool := false
  /-- consecutive Sync samples, or WCLK_IN frames, inside the lock condition -/
  run : Nat := 0
  /-- the filtered offset from the PTP master in ns, exact -/
  offset : Int := 0
  /-- a step decided, and the PTP time minus device time it makes up: it acts at the end of the lane period (R230) -/
  step : Option Int := none
  /-- the block at whose end a standby steps (R383) -/
  stepAt : Option Nat := none
  /-- host-supplied phase still to slew, ns (R231) -/
  hostPhase : Int := 0
  /-- rate code that the DPLL takes from WCLK_IN while no image runs; 0: none (R226) -/
  wclkRate : Nat := 0
  deriving DecidableEq, Repr

/-- A TDM port's framing (R238, R239). -/
structure TdmPort where
  /-- frames without and with a violation in a row -/
  clean : Nat := 0
  bad : Nat := 0
  /-- aligned frames in a row with |PHASE| > 100 ns, and the last PHASE in billionths of a frame -/
  wander : Nat := 0
  phase : Int := 0
  /-- device time until which a step's effects are not violations (R230 item 8) -/
  grace : Nat := 0
  /-- device time at which the last frame of a master port ended (R237) -/
  last : Nat := 0
  /-- samples delivered to each output slot with the frame boundary of RATE each belongs to, newest first (R238) -/
  out : Sparse (List (Nat × Word)) := []
  /-- the last frame sent on DOUT: slot values, none for high-impedance -/
  sent : List (Option Word) := []
  deriving DecidableEq, Repr

/-! ## The device -/

/-- The MLN-7720. -/
structure State where
  /-- memory-mapped registers that differ from their reset value, by physical address -/
  regs : Sparse Word := []
  /-- high words captured by the last read of their _LO register, by address of the _HI register (R68, R477) -/
  cap : Sparse Word := []
  /-- bytes of the memories that differ from what an unlisted address reads as, by physical address -/
  mem : List Host.Cell := []
  /-- check-bit state of the words that are not good, by word number (address div 8) (R248) -/
  werr : Sparse WErr := []
  triads : Sparse Triad := []
  tg : Tollgate := {}
  fcu : Fcu := {}
  eng : Engine := {}
  memu : MemUnit := {}
  chans : Sparse Chan := []
  /-- the channel each mover served last (R303) -/
  mvrTurn : Sparse Nat := []
  sov : Sov := {}
  exp : Express := {}
  jct : Junction := {}
  host : HostIf := {}
  net : Net := {}
  clk : Clock := {}
  tdm : Sparse TdmPort := []
  pins : Pins := {}
  /-- the device pulls RESET_N low (R342) -/
  pulling : Bool := false
  /-- the most recent sample of each routing point (R181, R185) -/
  points : Sparse Word := []
  /-- device time in ns: PTP time while the media clock is locked to PTP, else free-running REFCLK time (R318) -/
  time : Nat := 0
  /-- Sentry time in ns since the end of the last reset: a Sentry cycle is 250 ns, a tick 1 µs -/
  up : Nat := 0
  boot : Boot := .options
  bkp : Backup := {}
  /-- DRAM contents are kept across the reset that runs (R262, R355) -/
  dramKept : Bool := false
  /-- the firmware slot booted: 0 = A, 1 = B -/
  booted : Nat := 0
  mile : Milestone := {}
  /-- Waymark windows: of physical lane p at p, of supervisor activity a at 32 + a -/
  windows : Sparse Window := []
  rwk : Roadworks := {}
  gate : Gate := {}
  jtag : Jtag := {}
  /-- how many free values have been drawn (Config.fresh) -/
  drawn : Nat := 0
  /-- commands waiting, first in first out -/
  pending : List Instr := []
  deriving DecidableEq, Repr

/-- The machine right after the first power-on reset, at the end of RESET_N: nothing listed anywhere but the registers the reset
itself has set: backup time valid, cause power-on, reset count 1, the first question (R331, R344, R346, R358). -/
def State.reset : State :=
  { regs := [(0x60000000, 1), (0x60010000, 1), (0x60010004, 1), (0x60030014, 1)] }

end Sys2Proof.Machine
end

