-- ==== Sys2Proof/Machine/Base.lean ====
section
/-! DEFINITION. Machine/Base.lean: the operations every meaning shares: a register, a field of a register, a counter,
an event pulse, a fault line. -/
namespace Sys2Proof.Machine

/-- The `n` little-endian bytes of a value. -/
def leBytes (n v : Nat) : List Byte := (List.range n).map fun i => BitVec.ofNat 8 (v / 256 ^ i)

/-! ## Registers -/

/-- The indices an offset names in a register array, outermost first; none when it names no element. -/
def dimIndex : List (Nat × Nat) → Nat → Option (List Nat)
  | [], off => if off = 0 then some [] else none
  | (st, n) :: ds, off =>
    if off / st < n then (dimIndex ds (off % st)).map (off / st :: ·) else none

/-- The register a physical address of peripheral space names, with its indices. -/
def findRow (a : Nat) : List RegRow → Option (RegRow × List Nat)
  | [] => none
  | r :: rs =>
    if r.base ≤ a then
      match dimIndex r.dims (a - r.base) with
      | some ix => some (r, ix)
      | none => findRow a rs
    else findRow a rs

/-- The peripheral slot of a physical address (R476). -/
def slotOf (a : Nat) : Nat := (a - 0x60000000) / 0x10000

/-- The register at a physical address; none at an offset no register occupies (R10). -/
def regAt (a : Nat) : Option (RegRow × List Nat) :=
  if 0x60000000 ≤ a ∧ a < 0x60400000 then findRow a (slotRows (slotOf a)) else none

/-- The channel map's row of a fault channel (R315); none for a reserved channel. -/
def fcRow (n : Nat) : Option FcRow :=
  fcRows.find? fun r => decide (r.first ≤ n ∧ (n - r.first) % r.stride = 0 ∧ (n - r.first) / r.stride < r.count)

/-- The reset value of FCU.CH_CFG(n): DEFERRABLE, SEV_MIN and SEV as in R315; 0 for a reserved channel. -/
def chCfgReset (n : Nat) : Nat :=
  match fcRow n with
  | some r => r.sev + r.min * 256 + (if r.deferrable then 2 ^ 31 else 0)
  | none => 0

/-- Reset values that depend on the index or the part: BSQ.LANE_MAP (PHYS = s), EXP.MAP (SLOT = c mod 8, BLOCK =
c div 8), NP.STATUS.LEG (R225), FCU.CH_CFG (R315), ID.SERIAL and ID.GRADE (R479). -/
def resetExtra (a : Nat) (ix : List Nat) : Nat :=
  let i := ix.headD 0
  match slotOf a, a % 0x10000 with
  | 16, off => if 0x40 ≤ off ∧ off < 0x80 then i else 0
  | 19, off => if 0x100 ≤ off ∧ off < 0x200 then (i % 8) * 16 + i / 8 else 0
  | 24, 4 => 0 | 25, 4 => 8 | 26, 4 => 0 | 27, 4 => 8
  | 4, off => if 0x1000 ≤ off ∧ off < 0x1500 then chCfgReset i else 0
  | 48, 8 => Config.serial.toNat % 2 ^ 32
  | 48, 12 => Config.serial.toNat / 2 ^ 32
  | 48, 16 => if Config.industrial then 1 else 0
  | _, _ => 0

/-- What a register reads as when nothing has changed it: its fields' reset values (R7, R8). -/
def regReset (a : Nat) : Word :=
  match regAt a with
  | some (r, ix) =>
    BitVec.ofNat 32 (r.rows.foldl (fun acc f => acc + f.reset * 2 ^ f.lo) (resetExtra a ix))
  | none => 0

/-- A register by physical address. -/
def State.reg (s : State) (a : Nat) : Word := Sparse.get regReset s.regs a

/-- Set a register whole. -/
def State.setReg (s : State) (a : Nat) (v : Word) : State := { s with regs := Sparse.set regReset s.regs a v }

/-- A field of a register word. -/
def Fld.read (f : Fld) (w : Word) : Nat := w.toNat / 2 ^ f.lo % 2 ^ f.width

/-- A register word with one field replaced. -/
def Fld.write (f : Fld) (w : Word) (v : Nat) : Word :=
  BitVec.ofNat 32 (w.toNat - f.read w * 2 ^ f.lo + v % 2 ^ f.width * 2 ^ f.lo)

/-- A field. -/
def State.get (s : State) (f : Fld) : Nat := f.read (s.reg f.addr)

/-- A one-bit field as a truth value. -/
def State.flag (s : State) (f : Fld) : Bool := s.get f != 0

/-- Set a field. -/
def State.put (s : State) (f : Fld) (v : Nat) : State := s.setReg f.addr (f.write (s.reg f.addr) v)

/-- Set a field when a condition holds. -/
def State.putIf (s : State) (c : Bool) (f : Fld) (v : Nat) : State := if c then s.put f v else s

/-- Count up in a field that saturates at its greatest value. -/
def State.bump (s : State) (f : Fld) : State := s.put f (satCount f.width (s.get f + 1))

/-- Count up by `n` in a saturating field. -/
def State.bumpBy (s : State) (f : Fld) (n : Nat) : State := s.put f (satCount f.width (s.get f + n))

/-- Count up in a field that wraps. -/
def State.count (s : State) (f : Fld) : State := s.put f (s.get f + 1)

/-- A 64-bit value in a _LO register and the _HI register after it. -/
def State.get64 (s : State) (lo : Nat) : Nat := (s.reg lo).toNat + (s.reg (lo + 4)).toNat * 2 ^ 32

/-- Set a 64-bit value in a _LO and _HI pair. -/
def State.put64 (s : State) (lo v : Nat) : State :=
  (s.setReg lo (BitVec.ofNat 32 v)).setReg (lo + 4) (BitVec.ofNat 32 (v / 2 ^ 32))

/-- A write by the supervisor triad at Roadbed, the one most register blocks accept. -/
def bySupervisor (m lvl : Nat) : Bool := m = 0 && decide (2 ≤ lvl)

/-! ## Triads -/

/-- A triad, in the numbering of DBG.CORE. -/
def State.triad (s : State) (t : Nat) : Triad := Sparse.get (fun _ => {}) s.triads t

/-- Replace a triad. -/
def State.setTriad (s : State) (t : Nat) (x : Triad) : State :=
  { s with triads := Sparse.set (fun _ => {}) s.triads t x }

/-- Change a triad. -/
def State.onTriad (s : State) (t : Nat) (f : Triad → Triad) : State := s.setTriad t (f (s.triad t))

/-- The master ID of a triad (R478). -/
def masterOf (t : Nat) : Nat := if t = 0 then 0 else 0x10 + (t - 1)

/-- The privilege level of a triad: STATUS.LEVEL (R100). -/
def Triad.level (x : Triad) : Nat := x.status.toNat % 4

/-- The engine resets triad `t` (R103): its votes since power-on and a core held out stay (R97, R159); a resynchronisation under way ends with
the reset (DESIGN CHOICE). -/
def State.resetTriad (s : State) (t : Nat) (run : RunState) : State :=
  s.onTriad t fun x => { outvotes := x.outvotes, odd := x.odd, mode := if x.mode = 2 then 2 else 0, joinedAt := x.joinedAt, run := run }

/-- The supervisor triad restarts at the boot ROM without a reset (R160, R432): PROSAL_UP is 0 until Prosal has started. -/
def State.restartTriad (s : State) (planned : Bool) : State :=
  { (s.resetTriad 0 .running).put MBX_CTRL_PROSAL_UP 0 with boot := .rom, host := { s.host with planned := planned } }

/-! ## Lanes -/

/-- Key of a destination of a route: kind, unit, index. -/
def destKey (kind unit index : Nat) : Nat := kind * 2 ^ 32 + unit * 2 ^ 16 + index

/-- Whether a physical lane is a Layby lane. -/
def isLayby (p : Nat) : Bool := decide (16 ≤ p)

def State.lane (s : State) (p : Nat) : LaneRun := Sparse.get (fun _ => {}) s.eng.lanes p

def State.setLane (s : State) (p : Nat) (l : LaneRun) : State :=
  { s with eng := { s.eng with lanes := Sparse.set (fun _ => {}) s.eng.lanes p l } }

def State.onLane (s : State) (p : Nat) (f : LaneRun → LaneRun) : State := s.setLane p (f (s.lane p))

def State.layby (s : State) (l : Nat) : LaybyLane := Sparse.get (fun _ => {}) s.eng.layby l

def State.setLayby (s : State) (l : Nat) (x : LaybyLane) : State :=
  { s with eng := { s.eng with layby := Sparse.set (fun _ => {}) s.eng.layby l x } }

/-- Change the engine. -/
def State.onEng (s : State) (f : Engine → Engine) : State := { s with eng := f s.eng }

/-- Change the memory units. -/
def State.onMemu (s : State) (f : MemUnit → MemUnit) : State := { s with memu := f s.memu }

/-! ## Events (R305, R306) -/

/-- A reserved event is never raised (R305). -/
def eventReserved (e : Nat) : Bool := (10 ≤ e && e ≤ 15) || e = 46 || e = 47 || 640 ≤ e

/-- Pulse event `e`: its pending bit is set. Events 320 to 639 mirror FCU.CH_STATUS.PEND and are not stored here (R308). -/
def State.pulse (s : State) (e : Nat) : State :=
  if eventReserved e || 320 ≤ e then s
  else s.setReg (EVR_PEND (e / 32)) (s.reg (EVR_PEND (e / 32)) ||| BitVec.ofNat 32 (2 ^ (e % 32)))

/-- Whether event `e` is pending (R306, R308). -/
def State.eventPending (s : State) (e : Nat) : Bool :=
  if 320 ≤ e then s.flag (FCU_CH_STATUS_PEND (e - 320))
  else (s.reg (EVR_PEND (e / 32))).toNat.testBit (e % 32)

/-! ## Host interrupts (R404) -/

/-- MSI-X table word `k` of vector `v`: address low and high, data, vector control with the mask in bit 0. A vector is
masked at reset (DESIGN CHOICE). -/
def State.msix (s : State) (v k : Nat) : Word := Sparse.get (fun j => if j % 4 = 3 then 1 else 0) s.host.msix (4 * v + k)

/-- A source sets host vector `v`: when the bit rises while it is enabled and unmasked, its MSI-X message is sent. -/
def State.irq (s : State) (v : Nat) : State :=
  let was := (s.reg MBX_IRQ_PEND).getLsbD v
  let s := s.setReg MBX_IRQ_PEND (s.reg MBX_IRQ_PEND ||| BitVec.ofNat 32 (2 ^ v))
  if !was && (s.reg MBX_IRQ_EN).getLsbD v && !(s.msix v 3).getLsbD 0 then
    { s with host := { s.host with
        sent := some ((s.msix v 0).toNat + (s.msix v 1).toNat * 2 ^ 32, s.msix v 2) } }
  else s

/-! ## Fault lines (R309) -/

def State.pair (s : State) (n : Nat) : Pair := Sparse.get (fun _ => {}) s.fcu.pairs n

def State.setPair (s : State) (n : Nat) (p : Pair) : State :=
  { s with fcu := { s.fcu with pairs := Sparse.set (fun _ => {}) s.fcu.pairs n p } }

/-- A source signals a fault on channel `n`: one run of 11 for the FCU to confirm (R309). A reserved channel is never
raised (R315). -/
def State.drive (s : State) (n : Nat) (r : Raise := {}) : State :=
  match fcRow n with
  | some _ => let p := s.pair n; s.setPair n { p with todo := p.todo ++ [r] }
  | none => s

/-- A restart of the supervisor, planned or not, raises FC 21 (R315). -/
def State.restartSupervisor (s : State) (planned : Bool) : State := (s.restartTriad planned).drive 21

/-- A fault condition begins to hold on channel `n`, or ends. -/
def State.holdFault (s : State) (n : Nat) (c : Option Raise) : State := s.setPair n { s.pair n with cond := c }

/-! ## Time -/

/-- The tick count of the Sentry oscillator, MSW.TICKS: 1 µs ticks from the end of the reset, wrapping at 2 ^ 32. -/
def State.ticks (s : State) : Nat := s.up / 1000 % 2 ^ 32

/-- What a triad counts over `d` ns: CYCLE (a lane at its cluster's operating point, the supervisor at 0.8 cycles per ns) while it is not clock-gated
or halted, and the task budget while RUN is 1 (R71, R74). -/
def Triad.count (x : Triad) (cyc : Nat) : Triad :=
  if x.run = .running then
    let left := x.budget.toNat % 2 ^ 32
    { x with
      cycle := x.cycle + BitVec.ofNat 64 cyc
      budget := if x.budget.getLsbD 63 then BitVec.ofNat 64 (2 ^ 63 + (left - cyc)) else x.budget }
  else x

/-- Lane cycles of `d` ns at the operating point of lane triad `t`'s cluster: 0.8, 1.2 or 1.6 per ns (R364). -/
def State.laneCycles (s : State) (t d : Nat) : Nat := d * 2 * (s.get (PWR_CLUSTER_OP ((t - 1) / 2)) + 1) / 5

/-- Steps of 0.25 % of the Sentry clock skew, 400 standing for none (RWK.SKEW, R335, R449). -/
def State.sentryRate (s : State) : Nat :=
  let v := s.get RWK_SKEW_STEPS
  if v < 32 then 400 + v else 336 + v

/-- ns of host-supplied phase that are slewed at 50 ppm (R231) by time `t + d`, since time `t`. -/
def Clock.slewed (c : Clock) (t d : Nat) : Int :=
  let most : Int := ((t + d) / 20000 - t / 20000 : Nat)
  max (-most) (min c.hostPhase most)

/-- `d` ns of device time pass; Sentry time passes at the skewed rate; the host's phase is slewed into device time. -/
def State.pass (s : State) (d : Nat) : State :=
  if d = 0 then s
  else
    { s with
      time := s.time + d
      up := s.up + d * s.sentryRate / 400
      clk := { s.clk with hostPhase := s.clk.hostPhase - s.clk.slewed s.time d, offset := s.clk.offset + s.clk.slewed s.time d }
      triads := s.triads.map fun e => (e.1, e.2.count (if e.1 = 0 then d * 4 / 5 else s.laneCycles e.1 d)) }

/-- Device time moves on to `t`; it never moves back. An event row that stands for a deadline moves time to it. -/
def State.until (s : State) (t : Nat) : State := s.pass (t - s.time)

/-! ## Roadworks injections (R450) -/

/-- Whether an injection of one of the kinds is armed. -/
def State.armed (s : State) (kinds : List Nat) : Bool := s.flag RWK_INJECT_BUSY && kinds.contains s.rwk.kind

/-- One injection is performed: event 9, FC 306, the count; BUSY falls with the last. -/
def State.injected (s : State) : State :=
  let s := ((s.pulse 9).drive 306 { tagged := true }).bump RWK_STATUS_COUNT
  let s := { s with rwk := { s.rwk with left := s.rwk.left - 1 } }
  if s.rwk.left = 0 then s.put RWK_INJECT_BUSY 0 else s

/-- Draw a free value (Config.fresh). -/
def State.draw (s : State) : BitVec 64 × State := (Config.fresh s.drawn, { s with drawn := s.drawn + 1 })

/-- Whether the media clock is locked to PTP: MCK.STATUS.STATE locked with SOURCE PTP (R226). -/
def State.ptpLocked (s : State) : Bool := s.get MCK_STATUS_STATE = 3 && s.get MCK_STATUS_SOURCE = 1

end Sys2Proof.Machine
end

