-- ==== Sys2Proof/Machine/Tollgate.lean ====
section
/-! DEFINITION. Machine/Tollgate.lean: the physical map (R475) and the check of every access by its Tollgate: lock slots,
rule sets, the default map, refusals, staging and application (R278 to R296). -/
namespace Sys2Proof.Machine

/-! ## The physical map (R475) -/

/-- The regions of the physical address space. -/
inductive Region where
  | rom | ledger | depot | spm (n : Nat) | periph | window | dram | none
  deriving DecidableEq, Repr

/-- First data address beyond DRAM data memory, by LPD.CONFIG.RAW: the data window of R257 less the spare pool of R258. -/
def dramEnd (raw : Nat) : Nat :=
  match raw with
  | 3 => 0x11BFF00000
  | 4 => 0x137FF00000
  | 5 => 0x16FFF00000
  | _ => 0x1000000000

/-- The region of an address (R475). -/
def State.region (s : State) (a : Nat) : Region :=
  if a < 0x20000 then .rom
  else if 0x10000000 ≤ a ∧ a < 0x10800000 then .ledger
  else if 0x20000000 ≤ a ∧ a < 0x21800000 then .depot
  else if 0x40000000 ≤ a ∧ a < 0x49000000 then
    if (a - 0x40000000) % 0x1000000 < 0x400000 then .spm ((a - 0x40000000) / 0x1000000) else .none
  else if 0x60000000 ≤ a ∧ a < 0x60400000 then .periph
  else if 0x80000000 ≤ a ∧ a < 0x80040000 then .window
  else if 0x1000000000 ≤ a ∧ a < dramEnd (s.get LPD_CONFIG_RAW) then .dram
  else .none

/-- Device regions: peripheral space and the Junction buffer window (R80, R285). -/
def isDevice (a : Nat) : Bool := (0x60000000 ≤ a && a < 0x60400000) || (0x80000000 ≤ a && a < 0x80040000)

/-- First byte of a cluster's scratchpad. -/
def spmBase (n : Nat) : Nat := 0x40000000 + n * 0x1000000

/-! ## Accesses -/

/-- The kinds of access a Tollgate tells apart (R282). -/
inductive AccKind where
  | fetch | load | store | atomic | push | ret
  deriving DecidableEq, Repr

/-- The permissions an access needs: R, W, X (R282). -/
def AccKind.needs : AccKind → Nat
  | .fetch => 4 | .load => 1 | .store => 2 | .atomic => 3 | .push => 2 | .ret => 1

/-- Whether permission bits `have` (bit 0 R, 1 W, 2 X) cover `need`. -/
def grants (have_ need : Nat) : Bool := Nat.land have_ need = need

/-- Who issues an access: master ID, the level checked, the unit, the rule set in force. -/
structure Issuer where
  master : Nat
  level : Nat
  unit : Nat
  set : Nat
  deriving DecidableEq, Repr

/-- What a check answers: permitted, refused by the master's own rules, refused by a lock slot; the first byte refused. -/
inductive Check where
  | ok
  | own (addr : Nat)
  | lock (addr : Nat)
  deriving DecidableEq, Repr

/-! ## Lock slots (R293) -/

/-- Whether lock slot `k` is in force and covers address `a`. -/
def State.lockCovers (s : State) (k a : Nat) : Bool :=
  s.flag (TG_LOCK_PERM_VALID k) &&
    decide ((s.reg (TG_LOCK_BASE k)).toNat ≤ a / 256 ∧ a / 256 ≤ (s.reg (TG_LOCK_LIMIT k)).toNat)

/-- Whether the lock slots let a master reach an address with the permissions `need` (R293): OWNER = 0xFF or 0x7F names
no master. -/
def State.lockAllows (s : State) (master a need : Nat) : Bool :=
  (List.range 8).all fun k =>
    !s.lockCovers k a ||
      (let own := s.get (TG_LOCK_PERM_OWNER k)
       let p := if own = master && own ≠ 0xFF && own ≠ 0x7F then s.get (TG_LOCK_PERM_OWNER_XWR k)
                else s.get (TG_LOCK_PERM_OTHER_XWR k)
       grants p need)

/-! ## Own rules (R281 to R286) -/

def State.ruleSet (s : State) (unit set : Nat) : RuleSet := Sparse.get (fun _ => {}) s.tg.sets (4 * unit + set)

/-- The permissions of a memory slot for a level: bit 0 R, 1 W, 2 X. -/
def MSlot.permsOf (m : MSlot) (level : Nat) : Nat := m.perm.toNat / 2 ^ (3 * level) % 8

/-- Whether a valid memory slot covers an address and is not transparent to the level (R281, R283). -/
def MSlot.hits (m : MSlot) (level a : Nat) : Bool :=
  m.valid && decide (m.base.toNat ≤ a / 256 ∧ a / 256 ≤ m.limit.toNat) && (m.shadow || m.permsOf level ≠ 0)

/-- What a slot that is hit answers (R282, R283): pushes and RET reads belong to SHADOW slots, loads, stores, atomics, block steps and vector
accesses to the others; a fetch asks for X alone. -/
def MSlot.allows (m : MSlot) (level : Nat) (k : AccKind) : Bool :=
  match k with
  | .push => m.shadow && grants (m.permsOf level) 2
  | .ret => m.shadow && grants (m.permsOf level) 1
  | .fetch => grants (m.permsOf level) 4
  | _ => !m.shadow && grants (m.permsOf level) k.needs

/-- The default map (R286) for Carriageway, Roadbed and mover channels: R, W, X bits of a region. -/
def defaultPerms : Region → Nat
  | .rom => 5 | .ledger => 1 | .depot => 7 | .spm _ => 7 | .periph => 3 | .window => 1 | .dram => 7 | .none => 0

/-- A miss (R286): refused at Footpath and for inbound masters, by the default map otherwise; a push or RET read outside
a SHADOW slot is refused at every level (R283). -/
def State.missAllows (s : State) (u : Issuer) (a : Nat) (k : AccKind) : Bool :=
  match k with
  | .push => false
  | .ret => false
  | _ => decide (u.unit < 23) && decide (1 ≤ u.level) && grants (defaultPerms (s.region a)) k.needs

/-- A peripheral slot entry (R284). -/
def perAllows (e : BitVec 8) (level : Nat) (need : Nat) : Option Bool :=
  let p := e.toNat / 2 ^ (2 * level) % 4
  if !e.getLsbD 7 || p = 0 then none else some (grants p need)

/-- Whether a master's own rules permit an access at address `a` (R281 to R286). -/
def State.ownAllows (s : State) (u : Issuer) (a : Nat) (k : AccKind) : Bool :=
  let rs := s.ruleSet u.unit u.set
  if 0x60000000 ≤ a ∧ a < 0x60400000 then
    if k = .fetch then false
    else match perAllows (Sparse.get (fun _ => 0) rs.per (slotOf a)) u.level k.needs with
      | some b => b
      | none => s.missAllows u a k
  else
    match rs.mem.find? fun x => x.2.hits u.level a with
    | some x => x.2.allows u.level k
    | none => s.missAllows u a k

/-- The first bytes of the 256-byte units an access touches (R288). -/
def unitsOf (a len : Nat) : List Nat :=
  a :: (List.range ((a + len - 1) / 256 - a / 256)).map fun i => (a / 256 + i + 1) * 256

/-- The check of an access in the unit that `x` lies in (R287): the lock slots first, then the master's own rules. -/
def State.checkUnit (s : State) (u : Issuer) (k : AccKind) (x : Nat) : Check :=
  if !s.lockAllows u.master x k.needs then .lock x else if !s.ownAllows u x k then .own x else .ok

/-- The check of an access of `len` bytes at `a`: every unit it touches is checked, in ascending order, and the lowest refused is named
(R90, R288). -/
def State.check (s : State) (u : Issuer) (a len : Nat) (k : AccKind) : Check :=
  (((unitsOf a len).map (s.checkUnit u k)).find? (· ≠ .ok)).getD .ok

/-- What the log entry of a refusal names the slot by (R289), in two bytes (DESIGN CHOICE: no rule gives the places): 0 and a memory slot, 1 and
a peripheral slot, 2 for MISS, 3 and a lock slot. -/
def State.slotNamed (s : State) (u : Issuer) (c : Check) : List (BitVec 8) :=
  let rs := s.ruleSet u.unit u.set
  match c with
  | .ok => []
  | .lock a => [3, BitVec.ofNat 8 (((List.range 8).find? fun k => s.lockCovers k a).getD 0)]
  | .own a =>
    if 0x60000000 ≤ a ∧ a < 0x60400000 then
      if (perAllows (Sparse.get (fun _ => 0) rs.per (slotOf a)) u.level 0).isSome then [1, BitVec.ofNat 8 (slotOf a)] else [2, 0]
    else match rs.mem.find? fun x => x.2.hits u.level a with
      | some x => [0, BitVec.ofNat 8 x.1]
      | none => [2, 0]

/-- DETAIL of the log entry of a refusal (R289): level, rule set, slot. -/
def State.refusalDetail (s : State) (u : Issuer) (c : Check) : List (BitVec 8) :=
  BitVec.ofNat 8 u.level :: BitVec.ofNat 8 u.set :: s.slotNamed u c

/-- A refusal is counted in unit `n`, logged and raised (R289). `kind` is the access type of R318. -/
def State.refuseIn (s : State) (n : Nat) (u : Issuer) (kind : Nat) (c : Check) : State :=
  let r (a : Nat) : Raise := { master := BitVec.ofNat 8 u.master, kind := kind, addr := some a, detail := s.refusalDetail u c }
  match c with
  | .ok => s
  | .own a => (s.bump (TG_STATUS_REFUSALS n)).drive 240 (r a)
  | .lock a => ((s.bump (TG_STATUS_REFUSALS n)).put (TG_STATUS_LOCK_HIT n) 1).drive 241 (r a)

/-- A refusal, counted in the issuer's own unit. -/
def State.refuse (s : State) (u : Issuer) (kind : Nat) (c : Check) : State := s.refuseIn u.unit u kind c

/-! ## Who issues -/

/-- The issuer of a triad's own accesses (R278). -/
def State.triadIssuer (s : State) (t : Nat) : Issuer :=
  let x := s.triad t
  { master := masterOf t, level := x.level, unit := t, set := x.tgset.toNat % 4 }

/-- The issuer of a long-vector instruction's accesses: master 0x30 + p, the triad's unit and set (R278). -/
def State.vectorIssuer (s : State) (t : Nat) : Issuer := { s.triadIssuer t with master := 0x30 + (t - 1) }

/-- The issuer of an inbound master: units 23 to 27 with their applied set (R278). -/
def State.inboundIssuer (s : State) (master unit : Nat) : Issuer :=
  { master := master, level := if unit = 27 then 2 else 1, unit := unit, set := Sparse.get (fun _ => 0) s.tg.sel unit }

/-- The triad that carries a master ID: 0x00 the supervisor, 0x10 + p lane p (R478). -/
def triadOf (master : Nat) : Option Nat :=
  if master = 0 then some 0 else if 0x10 ≤ master ∧ master < 0x22 then some (master - 0x10 + 1) else none

/-- The issuer of a mover channel: its owner's set in force, the channel's level (R297). -/
def State.moverIssuer (s : State) (m c : Nat) : Issuer :=
  let t := (triadOf (s.get (MVR_CH_CFG_OWNER m c))).getD 0
  { master := 0x50 + m, level := if s.flag (MVR_CH_CFG_LEVEL m c) then 2 else 1, unit := t,
    set := (s.triad t).tgset.toNat % 4 }

/-! ## Staging and application (R290, R291) -/

/-- A memory slot as staged in the registers. -/
def State.stagedSlot (s : State) (u set i : Nat) : MSlot :=
  { base := s.reg (TG_MBASE u set i), limit := s.reg (TG_MLIMIT u set i), valid := s.flag (TG_MPERM_VALID u set i),
    shadow := s.flag (TG_MPERM_SHADOW u set i), perm := BitVec.ofNat 9 (s.get (TG_MPERM_PERM u set i)) }

/-- A rule set as staged. -/
def State.stagedSet (s : State) (u set : Nat) : RuleSet :=
  { mem := (List.range 16).foldl (fun m i => Sparse.set (fun _ => {}) m i (s.stagedSlot u set i)) [],
    per := (List.range 64).foldl
      (fun m k => Sparse.set (fun _ => 0) m k (BitVec.ofNat 8 (s.get (TG_PSLOT_ENTRY u set (k / 4) (k % 4))))) [] }

/-- Whether two memory slots share a 256-byte unit. -/
def MSlot.overlaps (a b : MSlot) : Bool := decide (a.base ≤ b.limit ∧ b.base ≤ a.limit)

/-- A unit range lies in the scratchpads and Depot. -/
def shadowPlace (b l : Nat) : Bool :=
  (decide (0x200000 ≤ b ∧ l < 0x218000)) ||
    (decide (0x400000 ≤ b ∧ l < 0x490000) && decide (b / 0x10000 = l / 0x10000) && decide (l % 0x10000 < 0x4000))

/-- A valid memory slot with a fault of its own (R291). -/
def MSlot.bad (m : MSlot) : Bool :=
  m.valid && (decide (m.limit < m.base) || decide (m.base.toNat < 0x604000 ∧ 0x600000 ≤ m.limit.toNat) ||
    (m.shadow && !shadowPlace m.base.toNat m.limit.toNat))

/-- Whether an application of the set is refused (R291). -/
def RuleSet.bad (r : RuleSet) : Bool :=
  (r.mem.any fun x => x.2.bad) ||
    r.mem.any fun x => x.2.valid && r.mem.any fun y => y.2.valid && decide (x.1 < y.1) && x.2.overlaps y.2

/-- Apply the staged edits of a set: the rules in force change, and DRAIN covers the accesses checked before (R291, R292). -/
def State.applySet (s : State) (u set : Nat) : State :=
  let tg := { s.tg with sets := Sparse.set (fun _ => {}) s.tg.sets (4 * u + set) (s.stagedSet u set),
                        dirty := s.tg.dirty.filter (· ≠ 4 * u + set) }
  let s := { s with tg := tg }
  (s.put (TG_STATUS_PENDING u) (if s.tg.dirty.any fun x => x / 4 = u then 1 else 0)).put (TG_STATUS_DRAIN u) 1

/-- The copy a Layby lane's unit takes of its home lane's four applied sets and TGSET (R296). -/
def State.copyRules (s : State) (src dst : Nat) : State :=
  let sets := (List.range 4).foldl
    (fun m i => Sparse.set (fun _ => {}) m (4 * dst + i) (s.ruleSet src i)) s.tg.sets
  ({ s with tg := { s.tg with sets := sets } }).onTriad dst fun x => { x with tgset := (s.triad src).tgset }

/-! ## Rule sets Prosal loads (R294, R410, R438) -/

/-- Prosal loads slot `i` of set `set` of a unit. -/
def State.loadSlot (s : State) (u set i : Nat) (m : MSlot) : State :=
  ((s.setReg (TG_MBASE u set i) m.base).setReg (TG_MLIMIT u set i) m.limit).setReg (TG_MPERM u set i)
    (BitVec.ofNat 32 (m.perm.toNat + (if m.shadow then 2 ^ 29 else 0) + (if m.valid then 2 ^ 31 else 0)))

/-- Prosal loads a whole rule set: memory slots in order, and peripheral entries; what is not given is 0. The set is applied. -/
def State.loadRules (s : State) (u set : Nat) (mem : List MSlot) (per : Nat → Nat) : State :=
  let s := (List.range 16).foldl (fun s i => s.loadSlot u set i ((mem[i]?).getD {})) s
  let s := (List.range 16).foldl (fun s w => s.setReg (TG_PSLOT u set w)
    (BitVec.ofNat 32 (per (4 * w) % 256 + per (4 * w + 1) % 256 * 2 ^ 8 + per (4 * w + 2) % 256 * 2 ^ 16 + per (4 * w + 3) % 256 * 2 ^ 24))) s
  s.applySet u set

/-- The slot that keeps the firmware area from a lane triad and its mover channels (R243): a SHADOW slot that grants nothing refuses every
access at every level (R283), where the default map would grant R W X (R286). That Prosal does it in this way is a DESIGN CHOICE. -/
def areaSlot : MSlot := { base := 0x217C00, limit := 0x217FFF, valid := true, shadow := true, perm := 0 }

/-- Prosal loads it as the last slot of every set of the lane units, and applies it. -/
def State.guardArea (s : State) : State :=
  (List.range 72).foldl (fun s j =>
    let (u, set) := (j / 4 + 1, j % 4)
    let r := Sparse.get (fun _ => {}) s.tg.sets (4 * u + set)
    { s.loadSlot u set 15 areaSlot with tg := { s.tg with
        sets := Sparse.set (fun _ => {}) s.tg.sets (4 * u + set) { r with mem := Sparse.set (fun _ => {}) r.mem 15 areaSlot } } }) s

/-- A peripheral entry that lets an inbound master at Carriageway read and write a slot. -/
def inboundRW : Nat := 0x8C

/-- Rule set 0 of an inbound unit is loaded, and is the set in force. -/
def State.loadUnit (s : State) (u : Nat) (mem : List MSlot) (per : Nat → Nat) : State :=
  let s := (s.loadRules u 0 mem per).put (TG_CTRL_SET u) 0
  { s with tg := { s.tg with sel := Sparse.set (fun _ => 0) s.tg.sel u 0 } }

/-- The rules of the PCIe and QSPI units (R401, R419): the mailbox RAM and the MBX registers, and the memory slots given. -/
def State.loadInbound (s : State) (mem : List MSlot) : State :=
  [23, 24].foldl (fun s u => s.loadUnit u mem fun k => if k = 20 then inboundRW else 0) s

/-- The rules of the packet engine and of Sorov inbound, without which their accesses miss and are refused (R286): Depot below the firmware area
(R243) to read and write, and every DRAM address to read. That Prosal loads them is a DESIGN CHOICE: no rule says what it grants. -/
def State.loadEngines (s : State) : State :=
  (s.loadUnit 25 [{ base := 0x200000, limit := 0x217BFF, valid := true, shadow := false, perm := 0x18 }] fun _ => 0).loadUnit 26
    [{ base := 0x10000000, limit := 0x16FFEFFF, valid := true, shadow := false, perm := 0x08 }] fun _ => 0

end Sys2Proof.Machine
end

