-- ==== Sys2Proof/Machine/Memory.lean ====
section
/-! DEFINITION. Machine/Memory.lean: the memories: what an unlisted byte reads as, bank states, check bits, reads and
writes of normal regions, the slip road (R164 to R166, R241 to R263, R273). -/
namespace Sys2Proof.Machine

/-! ## Bytes -/

/-- What the Ledger holds as shipped (R484): the bytes the spec states, else undisclosed ones. Slot A holds a valid
firmware header (R275); slot B's first word, the option copies, the repair area and the log are 0. -/
def ledgerShipped (o : Nat) : Byte :=
  if o < 0x300000 then
    match o with
    | 0 => 0x50 | 1 => 0x52 | 2 => 0x53 | 3 => 0x4C | 4 => 0x00 | 5 => 0x01 | 6 => 0 | 7 => 0
    | 8 => 0x00 | 9 => 0x01 | 10 => 0x01 | 11 => 0x00 | 12 => 0x01 | 13 => 0 | 14 => 0 | 15 => 0
    | _ => if 0x18 ≤ o ∧ o < 0x20 then 0 else if 0x80 ≤ o ∧ o < 0x100 then 0 else Config.ledgerByte o
  else if 0x300000 ≤ o ∧ o < 0x300008 then 0
  else if 0x300008 ≤ o ∧ o < 0x600000 then Config.ledgerByte o
  else if 0x620000 ≤ o ∧ o < 0x640000 then Config.ledgerByte o
  else 0

/-- What a byte nothing has written reads as: the boot ROM's own, the Ledger's as shipped, else 0 (the fills of R351 and
R355). -/
def memDflt (a : Nat) : Byte :=
  if a < 0x20000 then Config.romByte a
  else if 0x10000000 ≤ a ∧ a < 0x10800000 then ledgerShipped (a - 0x10000000)
  else 0

/-- One byte of memory. -/
def State.byte (s : State) (a : Nat) : Byte := Sparse.get memDflt s.mem a

/-- Write one byte of memory. -/
def State.setByte (s : State) (a : Nat) (v : Byte) : State := { s with mem := Sparse.set memDflt s.mem a v }

/-- The canonical form of memory (Machine/Sparse.lean). -/
abbrev Memory.wf (m : List Host.Cell) : Bool := Sparse.wf memDflt m

/-- `n` bytes from address `a`. -/
def State.bytes (s : State) (a n : Nat) : List Byte := (List.range n).map fun i => s.byte (a + i)

/-- The little-endian value of a byte list (R7). -/
def leVal : List Byte → Nat
  | [] => 0
  | b :: bs => b.toNat + 256 * leVal bs

/-- The `n`-byte little-endian value at address `a`. -/
def State.le (s : State) (a n : Nat) : Nat := leVal (s.bytes a n)

/-- Write bytes at ascending addresses from `a`. -/
def State.setBytes (s : State) : Nat → List Byte → State
  | _, [] => s
  | a, b :: bs => (s.setByte a b).setBytes (a + 1) bs

/-- Drop every listed byte of an address range: it reads as filled again (R249, R351). -/
def State.fill (s : State) (a n : Nat) : State :=
  { s with mem := s.mem.filter (fun c => decide (c.1 < a ∨ a + n ≤ c.1)),
           werr := s.werr.filter (fun c => decide (c.1 < a / 8 ∨ (a + n) / 8 ≤ c.1)) }

/-! ## Banks (R241, R249, R250) -/

/-- The bank of a scratchpad or Depot address: memory 0 to 9 and bank (R241). -/
def bankOf (r : Region) (a : Nat) : Option (Nat × Nat) :=
  match r with
  | .spm n => some (n, a / 8 % 32)
  | .depot => let o := a - 0x20000000; some (9, o / 0x400000 * 16 + o / 8 % 16)
  | _ => none

/-- First byte of a memory 0 to 9. -/
def memBase (mem : Nat) : Nat := if mem < 9 then spmBase mem else 0x20000000

/-- The row of an SRAM address: words fill a bank's rows in ascending order. -/
def rowOf (mem a : Nat) : Nat :=
  let o := a - memBase mem
  if mem < 9 then o / 256 / 32 else o % 0x400000 / 128 / 32

/-- The power field of a bank. -/
def bankPwr (mem bank : Nat) : Fld :=
  if mem < 9 then (if bank < 16 then SPM_PWR_LO_STATE mem bank else SPM_PWR_HI_STATE mem (bank - 16))
  else DPT_PWR_STATE (bank / 16) (bank % 16)

/-- Whether a bank serves accesses: it is ON and not filling (R250). -/
def State.bankOn (s : State) (mem bank : Nat) : Bool := s.get (bankPwr mem bank) = 2

/-- Whether an access at `a` receives an error response (R250, R355, R475): no region, a write to read-only memory, a
bank not ON, DRAM not trained. -/
def State.busError (s : State) (a : Nat) (write : Bool) : Bool :=
  match s.region a with
  | .none => true
  | .rom => write
  | .ledger => write || (s.flag LDG_LOCK_KEY_READ && decide (0x10620000 ≤ a ∧ a < 0x10630000))
  | .dram => !s.flag LPD_CONFIG_TRAINED
  | .periph => (slotRows (slotOf a)).isEmpty
  | .window => false
  | r => match bankOf r a with
    | some (m, b) => !s.bankOn m b
    | none => true

/-! ## Routing points -/

/-- A TDM port's framing. -/
def State.tdmPort (s : State) (p : Nat) : TdmPort := Sparse.get (fun _ => {}) s.tdm p

def State.setTdm (s : State) (p : Nat) (x : TdmPort) : State := { s with tdm := Sparse.set (fun _ => {}) s.tdm p x }

/-- A routing point takes a sample; the one before it is kept (R181, R482). -/
def State.setPoint (s : State) (p : Nat) (v : Word) : State :=
  { s with
    jct := { s.jct with before := Sparse.set (fun _ => 0) s.jct.before p (Sparse.get (fun _ => 0) s.points p) }
    points := Sparse.set (fun _ => 0) s.points p v }

/-! ## Check bits (R248, R263, R270) -/

def State.errOf (s : State) (w : Nat) : WErr := Sparse.get (fun _ => .good) s.werr w

def State.setErr (s : State) (w : Nat) (e : WErr) : State := { s with werr := Sparse.set (fun _ => .good) s.werr w e }

/-- The counters and fault channels of a memory: correctable count, uncorrectable count, poison count, channels. -/
def eccRegs (r : Region) : Option (Fld × Option Fld × Option Fld × Nat × Option Nat) :=
  match r with
  | .spm n => some (SPM_ECC_CE_COUNT n, some (SPM_ECC_UE_COUNT n), some (SPM_COLL_POISON n), 200 + n, some (209 + n))
  | .depot => some (DPT_ECC_CE_COUNT, some DPT_ECC_UE_COUNT, some DPT_COLL_POISON, 218, some 219)
  | .dram => some (LPD_ECC_CE_COUNT, some LPD_ECC_UE_COUNT, none, 220, some 221)
  | _ => none

/-- Whether a Roadworks ECC injection is armed for word `w` (R449). -/
def State.injectAt (s : State) (w : Nat) : Bool :=
  s.armed [2, 3] && decide (s.rwk.word = w)

/-- DETAIL of the log entry of an error in an SRAM word (R248): memory, bank and row, the row in two bytes (DESIGN CHOICE: no rule gives the
places; a DRAM word is named by its address alone). -/
def rowDetail (r : Region) (a : Nat) : List (BitVec 8) :=
  match bankOf r a with
  | some (mem, bank) => [BitVec.ofNat 8 mem, BitVec.ofNat 8 bank] ++ leBytes 2 (rowOf mem a)
  | none => []

/-- The check of one word that is read (R248): a correctable error is corrected, counted, logged and written back; an
uncorrectable or poisoned word answers false, a poisoned one noted as 2 for its log entry. An armed injection flips bits of the data returned, the stored word staying
as it is (R449). -/
def State.readCheck (s : State) (w : Nat) (r : Raise) : State × Bool :=
  let rg := s.region (8 * w)
  let inj := s.injectAt w
  let e : WErr := match s.errOf w with
    | .good => if inj then (if s.rwk.kind = 2 then .correctable else .uncorrectable) else .good
    | .correctable => if inj then .uncorrectable else .correctable
    | x => x
  let s := if inj then s.injected else s
  let r := { r with addr := some (8 * w), tagged := inj, detail := rowDetail rg (8 * w) }
  match e with
  | .good => (s, true)
  | .correctable =>
    match eccRegs rg with
    | some (ce, _, _, fc, _) =>
      let s := (s.bump ce).drive fc { r with note := if s.memu.wroteBack.contains w then 1 else 0 }
      let s := s.onMemu fun m =>
        { m with writeBack := if m.writeBack.contains w then m.writeBack else m.writeBack ++ [w],
                 ceSeen := if inj then m.ceSeen else (w, s.time / 1000000) :: m.ceSeen }
      (s, true)
    | none => (if rg = .ledger then s.bump LDG_STATUS_CE_COUNT else s, true)
  | _ =>
    match eccRegs rg with
    | some (_, ue, po, _, fu) =>
      let s := match ue with | some f => s.bump f | none => s
      let s := match po with | some f => if e = .poisoned then s.bump f else s | none => s
      (match fu with | some n => s.drive n { r with note := if e = .poisoned then 2 else 0 } | none => s, false)
    | none => (s, false)

/-- Check every word of `ws`, in order, up to the first that fails; its number is answered (R90, R248). -/
def State.readChecks (s : State) (r : Raise) : List Nat → State × Option Nat
  | [] => (s, none)
  | w :: ws =>
    let (s1, ok) := s.readCheck w r
    if ok then s1.readChecks r ws else (s1, some w)

/-- The words `n` bytes at `a` lie in. -/
def wordsOf (a n : Nat) : List Nat := (List.range ((a + n - 1) / 8 - a / 8 + 1)).map (a / 8 + ·)

/-! ## Stores (R247, R248) -/

/-- Whether a DRAM address lies in a snapshot range (R394): a valid slot of an applied rule set of a lane unit grants
Footpath W. -/
def State.snapshotHas (s : State) (a : Nat) : Bool :=
  s.tg.sets.any fun e => decide (4 ≤ e.1 ∧ e.1 < 76) && e.2.mem.any fun x =>
    x.2.valid && decide (x.2.base.toNat ≤ a / 256 ∧ a / 256 ≤ x.2.limit.toNat) && decide (x.2.perm.toNat / 2 % 2 = 1)

/-- While the join snapshot is open, a write to a snapshot page whose last 64-byte piece has not been read appends the old
64-byte block and its address to the join log (R394). -/
def State.joinNote (s : State) (a : Nat) : State :=
  if s.sov.snapOpen && s.region a = .dram && s.snapshotHas a && !s.sov.snapRead.contains (a / 4096 * 64 + 63) then
    { s with sov := { s.sov with joinLog := s.sov.joinLog ++ [(a / 64 * 64, s.bytes (a / 64 * 64) 64)] } }
  else s

/-- Write bytes that lie in one word: a whole word is written with new check bits, which clears poison; fewer bytes are a
narrow write, which reads the word first and leaves it unchanged on an uncorrectable error (R247). -/
def State.storeWord (s : State) (a : Nat) (bs : List Byte) (r : Raise) : State × Bool :=
  let w := a / 8
  let done (s : State) : State :=
    (((s.joinNote a).setBytes a bs).setErr w .good).onMemu fun m => { m with writeBack := m.writeBack.filter (· ≠ w) }
  if bs.length = 8 then (done s, true)
  else
    let (s1, ok) := s.readCheck w r
    if ok then (done s1, true) else (s1, false)

/-- Write bytes word by word, in ascending order, up to the first word that fails; its number is answered. Words below it
stay written (R90, R94, R301). `fuel` bounds the number of words. -/
def State.storeBytes (s : State) (r : Raise) : Nat → Nat → List Byte → State × Option Nat
  | 0, _, _ => (s, none)
  | fuel + 1, a, bs =>
    if bs.isEmpty then (s, none)
    else
      let k := 8 - a % 8
      let (s1, ok) := s.storeWord a (bs.take k) r
      if ok then s1.storeBytes r fuel (a + k) (bs.drop k) else (s1, some (a / 8))

/-! ## The slip road (R164 to R166) -/

/-- The home cluster a Layby lane reaches through the slip road. -/
def State.roadTo (s : State) (p : Nat) : Option Nat :=
  let y := s.layby p
  if isLayby p && (y.road || !y.divert.isEmpty) then
    y.home.map fun h => if isLayby h then (match (s.layby h).home with | some g => g / 2 | none => 8) else h / 2
  else none

/-- Where an access of lane `p` at `a` is performed: a Layby lane that serves a home lane reads a diverted granule of the
home scratchpad from its pool copy (R165); the shadow of a Layby lane reads that lane's granules in place (R170). -/
def State.redirect (s : State) (p a : Nat) : Nat :=
  match s.roadTo p, s.region a with
  | some h, .spm n =>
    if n = h then
      let g := (a - spmBase n) / 64
      let own := Sparse.get (fun _ => 0) (s.layby p).divert g
      let via := match (s.layby p).home with
        | some b => if isLayby b then Sparse.get (fun _ => 0) (s.layby b).divert g else 0
        | none => 0
      match if own = 0 then via else own with
      | 0 => a
      | k + 1 => spmBase 8 + 64 * k + a % 64
    else a
  | _, _ => a

/-- The pool granules in use by the two Layby lanes (R165). -/
def State.poolUsed (s : State) : List Nat :=
  ((s.layby 16).divert.map fun x => x.2 - 1) ++ ((s.layby 17).divert.map fun x => x.2 - 1)

/-- Pool granules withheld for the copies of planned parks (R171 item 5). -/
def State.poolWithheld (s : State) : Nat :=
  match s.eng.running with
  | none => 0
  | some im => ((s.eng.parks.filter fun k => !k.back).map fun k =>
      match (im.parts.zip im.lanes).find? fun x => x.2 = k.logical with
      | some x => (x.1.footprint + 63) / 64
      | none => 0).sum

/-- The lowest pool granule free, of the 65,536 (R165): the first number not in use. -/
def lowestFree (used : List Nat) : Nat → Nat → Nat
  | 0, k => k
  | fuel + 1, k => if used.contains k then lowestFree used fuel (k + 1) else k

/-- Depot address of mirror slot `i` of logical lane `l`, slots of `len` bytes (R172). -/
def State.mirrorAddr (s : State) (l i len : Nat) : Nat := 0x20000000 + s.get (BSQ_MIRROR_BASE l) * 64 + i * len

/-- First byte of a slot. -/
def slotBase (k : Nat) : Nat := 0x10000000 + 0x300000 * k

end Sys2Proof.Machine
end

