-- ==== Sys2Proof/Machine/ImageRead.lean ====
section
/-! DEFINITION. Machine/ImageRead.lean: the graph image as it stands in Depot: its header, sections and tables (R41 to R50, R191), and
the places of its parts (R44, R172). -/
namespace Sys2Proof.Machine

/-- Sampling rate in Hz of a rate code of BSQ.CONFIG.RATE (R42, R68). -/
def rateHz (code : Nat) : Nat :=
  match code with
  | 1 => 44100 | 2 => 48000 | 3 => 88200 | 4 => 96000 | 5 => 176400 | 6 => 192000 | 7 => 384000 | _ => 0

/-- Samples of a block of a BSIZE code (R42, R68). -/
def blockSamples (code : Nat) : Nat := 8 * 2 ^ (code % 4)

/-- The next multiple of 64. -/
def up64 (n : Nat) : Nat := (n + 63) / 64 * 64

/-! ## Reading (R41 to R49, R191) -/

/-- A directory entry at address `a` (R43). -/
def State.readSection (s : State) (a : Nat) : Section :=
  { type := s.le a 2, resv := s.le (a + 2) 2, offset := s.le (a + 4) 4, size := s.le (a + 8) 4, crc := s.le (a + 12) 4 }

/-- A partition table entry (R45). -/
def State.readPartition (s : State) (a : Nat) : Partition :=
  { laneSlot := s.le a 1, opPoint := s.le (a + 1) 1, firstTask := s.le (a + 2) 2, tasks := s.le (a + 4) 2,
    suspendParam := s.le (a + 6) 2, wNs := s.le (a + 8) 4, codeOffset := s.le (a + 12) 4, codeSize := s.le (a + 16) 4,
    footprint := s.le (a + 20) 4, stateSize := s.le (a + 24) 4, stateKey := s.le (a + 28) 4 }

/-- A task table entry (R46). -/
def State.readTask (s : State) (a : Nat) : Task :=
  { partition := s.le a 2, waymarks := s.le (a + 2) 2, entry := s.le (a + 4) 4, dNs := s.le (a + 8) 4, sNs := s.le (a + 12) 4,
    waits := s.le (a + 16) 2, publishes := s.le (a + 18) 2, stack := s.le (a + 20) 4, resv := s.le (a + 24) 8 }

/-- A coefficient record header (R47). -/
def State.readCoef (s : State) (base a : Nat) : Coef :=
  { setId := s.le a 2, type := s.le (a + 2) 1, place := s.le (a + 3) 1, partition := s.le (a + 4) 2,
    resv := s.le (a + 6) 2 + s.le (a + 24) 8, count := s.le (a + 8) 4, crc := s.le (a + 12) 4, dramAddr := s.le (a + 16) 8,
    off := a - base }

/-- Data bytes of a coefficient set: 2 for i16, 4 for the other types (R47). -/
def Coef.bytes (c : Coef) : Nat := c.count * (if c.type = 0 then 2 else 4)

/-- Bytes a record takes in the section: a PLACE 3 record is its header alone. -/
def Coef.recLen (c : Coef) : Nat := if c.place = 3 then 32 else 32 + up64 c.bytes

/-- The records of the coefficient section from address `a` to `e` (R47, R480): they are read up to and with the first whose
length cannot be known or that runs past the end. -/
def State.readCoefs (s : State) (base : Nat) : Nat → Nat → Nat → List Coef
  | 0, _, _ => []
  | fuel + 1, a, e =>
    if e ≤ a then []
    else
      let c := s.readCoef base a
      if 3 < c.type ∨ 3 < c.place ∨ e < a + c.recLen then [c]
      else c :: s.readCoefs base fuel (a + c.recLen) e

/-- A routing table entry (R48). -/
def State.readRoute (s : State) (a : Nat) : Route :=
  { source := s.le a 2, kind := s.le (a + 2) 1, resv := s.le (a + 3) 1 + s.le (a + 8) 8, unit := s.le (a + 4) 2,
    index := s.le (a + 6) 2 }

/-- A parameter table entry (R49). -/
def State.readParam (s : State) (a : Nat) : Param :=
  { id := s.le a 4, partition := s.le (a + 4) 2, type := s.le (a + 6) 1, ramp := s.le (a + 7) 1, dfltRamp := s.le (a + 8) 2,
    resv := s.le (a + 10) 2, offset := s.le (a + 12) 4 }

def State.word (s : State) (a : Nat) : Word := BitVec.ofNat 32 (s.le a 4)

def State.readBiquad (s : State) (a : Nat) : Biquad :=
  ⟨s.word a, s.word (a + 4), s.word (a + 8), s.word (a + 12), s.word (a + 16)⟩

/-- Bytes of a program record (R191). -/
def expLen (stages : Nat) : Nat := 192 + up64 (20 * stages)

/-- A program record (R191). -/
def State.readExp (s : State) (a : Nat) : ExpProg :=
  let na := s.le (a + 2) 1
  let nb := s.le (a + 3) 1
  { channel := s.le a 1, rate := s.le (a + 1) 1, stagesA := na, stagesB := nb, flags := s.le (a + 4) 1,
    resv := s.le (a + 5) 3 + s.le (a + 0x2A) 22,
    gainA := s.word (a + 8), gainB := s.word (a + 12), thresh := s.word (a + 16), att := s.word (a + 20),
    rel := s.word (a + 24), pidA := s.le (a + 0x1C) 4, pidB := s.le (a + 0x20) 4, pidT := s.le (a + 0x24) 4,
    dfltRamp := s.le (a + 0x28) 2,
    mixA := (List.range 16).map fun k => s.word (a + 64 + 4 * k)
    mixB := (List.range 16).map fun k => s.word (a + 128 + 4 * k)
    bqA := (List.range na).map fun k => s.readBiquad (a + 192 + 20 * k)
    bqB := (List.range nb).map fun k => s.readBiquad (a + 192 + 20 * (na + k)) }

/-- The records of the express section, up to `n`, while they lie within it; the flag says whether all did. -/
def State.readExps (s : State) : Nat → Nat → Nat → List ExpProg × Bool
  | 0, _, _ => ([], true)
  | n + 1, a, e =>
    if e < a + 192 then ([], false)
    else
      let p := s.readExp a
      if e < a + expLen (p.stagesA + p.stagesB) then ([], false)
      else
        let (l, ok) := s.readExps n (a + expLen (p.stagesA + p.stagesB)) e
        (p :: l, ok)

/-- The section of a type, with its directory index. -/
def findSection (l : List Section) (ty : Nat) : Option (Nat × Section) :=
  (l.zipIdx.find? fun x => x.1.type = ty).map fun x => (x.2, x.1)

/-- Entries of `w` bytes that a section holds. -/
def entriesOf (l : List Section) (ty w : Nat) (base : Nat) : List Nat :=
  match findSection l ty with
  | some (_, x) => (List.range (x.size / w)).map fun k => base + x.offset + w * k
  | none => []

/-- Read the whole image whose copy stands at `base` (R41 to R49); its tables are what the sections hold. -/
def State.readImage (s : State) (base : Nat) : Image :=
  let n := s.le (base + 6) 2
  let secs := (List.range n).map fun k => s.readSection (base + 64 + 16 * k)
  let coefs := match findSection secs 4 with
    | some (_, x) => s.readCoefs base (x.size / 32 + 1) (base + x.offset) (base + x.offset + x.size)
    | none => []
  let exps := match findSection secs 6 with
    | some (_, x) => (s.readExps (s.le (base + x.offset) 2) (base + x.offset + 64) (base + x.offset + x.size)).1
    | none => []
  { base := base, format := s.le (base + 4) 2, sectionsN := n, length := s.le (base + 8) 4, device := s.le (base + 12) 2,
    minProsal := s.le (base + 14) 2, rate := s.le (base + 16) 1, bsize := s.le (base + 17) 1,
    partitionsN := s.le (base + 18) 1, laybyIdle := s.le (base + 19) 1, idleBlocks := s.le (base + 20) 2,
    hmacKey := s.le (base + 22) 1, flags := s.le (base + 23) 1, detClass := s.le (base + 24) 4,
    tolerance := s.le (base + 28) 2, imageId := s.le (base + 32) 8,
    resv := s.le (base + 30) 2 + s.le (base + 40) 24, sections := secs
    parts := (entriesOf secs 1 32 base).map s.readPartition
    tasks := (entriesOf secs 2 32 base).map s.readTask
    coefs := coefs
    routes := (entriesOf secs 5 16 base).map s.readRoute
    express := exps
    params := (entriesOf secs 7 16 base).map s.readParam
    lanes := [], allocs := [] }

/-! ## Parameter areas (R44) -/

/-- Bytes of a value of a TYPE. -/
def typeBytes (ty : Nat) : Nat := if ty = 0 then 2 else 4

/-- The parameter area of partition `q`: its first offset and its size (R44). -/
def Image.paramArea (im : Image) (q : Nat) : Nat × Nat :=
  let l := im.params.filter fun p => p.partition = q
  match l with
  | [] => (0, 0)
  | p :: ps =>
    let lo := ps.foldl (fun m x => min m x.offset) p.offset
    let hi := l.foldl (fun m x => max m (x.offset + typeBytes x.type)) 0
    (lo, up64 (hi - lo))

/-- Where partition `q`'s part of the initial-state section stands in the image (R44): state, then parameter area. -/
def Image.initOff (im : Image) (q : Nat) : Nat :=
  let at_ := match findSection im.sections 8 with | some (_, x) => x.offset | none => 0
  at_ + ((List.range q).map fun k => (match im.parts[k]? with | some p => p.stateSize | none => 0) + (im.paramArea k).2).sum

/-- L_slot of a mirror of partition `q` (R172). -/
def Image.slotLen (im : Image) (q : Nat) : Nat :=
  let st := match im.parts[q]? with | some p => p.stateSize | none => 0
  64 + up64 (st + (im.paramArea q).2 + 32 * (im.params.filter fun p => p.partition = q).length)

/-- Physical address of the code of partition `q` in the image's Depot copy. -/
def Image.codeOff (im : Image) (q : Nat) : Nat :=
  match findSection im.sections 3, im.parts[q]? with
  | some (_, x), some p => im.base + x.offset + p.codeOffset
  | _, _ => im.base

/-- Exchange points that the task table names. -/
def Image.points (im : Image) : List Nat :=
  (List.range 1024).filter fun x => im.tasks.any fun t => t.waits = x || t.publishes = x

end Sys2Proof.Machine
end

