-- ==== Sys2Proof/Machine/Sync.lean ====
section
/-! DEFINITION. Machine/Sync.lean: a triad's pending sync values and its shadow-stack registers (R85, R86, R114). -/
namespace Sys2Proof.Machine

/-- A sync register's applied value is kept in its field; its pending value, when there is one, in `pend` (R85). -/
def Triad.pending (x : Triad) (k : Nat) : Option DWord := (x.pend.find? fun e => e.1 = k).map Prod.snd

def Triad.setPending (x : Triad) (k : Nat) (v : DWord) : Triad := { x with pend := Sparse.put x.pend k v }

def Triad.dropPending (x : Triad) (k : Nat) : Triad := { x with pend := Sparse.drop x.pend k }

/-- The shadow-stack registers of a level (R114). -/
def Triad.shadowOf (x : Triad) (level : Nat) : Shadow :=
  if level = 0 then x.ssFoot else if level = 1 then x.ssCarr else x.ssRoad

def Triad.setShadow (x : Triad) (level : Nat) (v : Shadow) : Triad :=
  if level = 0 then { x with ssFoot := v } else if level = 1 then { x with ssCarr := v } else { x with ssRoad := v }

/-- Apply one pending sync value (R85): `k` is a register number, plus 0x1000 × level for a shadow-stack copy. -/
def Triad.applyPending (x : Triad) (k : Nat) (v : DWord) : Triad :=
  let l := k / 0x1000
  let sh := x.shadowOf l
  match k % 0x1000 with
  | 0x005 => { x with evbase := v }
  | 0x010 => x.setShadow l { sh with ssp := v }
  | 0x011 => x.setShadow l { sh with ssbase := v }
  | 0x012 => x.setShadow l { sh with sslimit := v }
  | 0x020 => { x with vcfg := v }
  | 0x031 => { x with evrbase := v }
  | 0x040 => { x with taskid := v }
  | _ => x

/-- Every pending value but TGSET's is applied at once (R85, R86). -/
def Triad.applyPend (x : Triad) : Triad := { x.pend.foldl (fun x e => x.applyPending e.1 e.2) x with pend := [] }

end Sys2Proof.Machine
end

