-- ==== Sys2Proof/Machine/SlipRoad.lean ====
section
/-! DEFINITION. Machine/SlipRoad.lean: where a partition stands in a scratchpad, the rules under which its tasks run (R163, R295), and a
Layby lane's reads and writes through the slip road (R164 to R166, R170, R174). -/
namespace Sys2Proof.Machine

/-! ## A partition's areas (R45, R65) -/

/-- The lane whose scratchpad area lane `p`'s code and data stand in: a Layby lane's home lane, or that one's (R164, R170). -/
def State.codeLane (s : State) (p : Nat) : Nat :=
  let up (k : Nat) : Nat := if isLayby k then (s.layby k).home.getD k else k
  up (up p)

/-- Key of partition `q` of the running image among the scratchpad areas: each image has one of two (R65). -/
def State.partKey (s : State) (q : Nat) : Nat := 2 * q + s.eng.area

/-- Scratchpad address of the code of the partition on lane `p`. -/
def State.codeAt (s : State) (p : Nat) : Nat := Config.codeBase (s.codeLane p) (s.partKey (s.lane p).part)

/-- Scratchpad address of an area of the partition on lane `p`: 0 committed state, 1 parameter area, 2 input samples, 3 the new
state buffer and the outputs, 4 stack, 5 shadow stack, 8 + k coefficient set k of the image. -/
def State.areaAt (s : State) (p kind : Nat) : Nat := Config.areaBase (s.codeLane p) (s.partKey (s.lane p).part) kind

/-- Bytes of the Footpath shadow stack the lane executive gives a task: one unit of a Tollgate slot (DESIGN CHOICE). -/
def shadowBytes : Nat := 256

/-- Inputs of partition `q` that the routing table feeds, and outputs it takes: one more than the greatest index. -/
def Image.inputsOf (im : Image) (q : Nat) : Nat :=
  (im.routes.filter fun r => r.kind = 0 && r.unit = q).foldl (fun m r => max m (r.index + 1)) 0

def Image.outputsOf (im : Image) (q : Nat) : Nat :=
  (im.routes.filter fun r => decide (0x8000 + 2048 * q ≤ r.source ∧ r.source < 0x8000 + 2048 * (q + 1))).foldl
    (fun m r => max m (r.source % 2048 + 1)) 0

def Image.stateSize (im : Image) (q : Nat) : Nat := match im.parts[q]? with | some p => p.stateSize | none => 0

/-- The coefficient sets a partition uses in a PLACE, its own and shared ones, with their numbers. -/
def Image.coefsFor (im : Image) (q place : Nat) : List (Coef × Nat) :=
  im.coefs.zipIdx.filter fun x => x.1.place = place && (x.1.partition = q || x.1.partition = 0xFFFF)

/-! ## The rules of a task (R163, R295) -/

/-- A memory slot over `n` bytes at `a`, whole units of 256 bytes; permission bits as MPERM has them. -/
def slotOver (a n perm : Nat) (shadow : Bool) : MSlot :=
  { base := BitVec.ofNat 32 (a / 256), limit := BitVec.ofNat 32 ((a + n - 1) / 256), valid := true, shadow := shadow,
    perm := BitVec.ofNat 9 perm }

/-- Add a slot to a set: it joins a slot of the same permissions that it touches, and one that would share a unit with a slot of other
permissions, or find no slot left, is not added. The sixteenth slot keeps the firmware area. -/
def addSlot (l : List MSlot) (m : MSlot) : List MSlot :=
  let joins (x : MSlot) : Bool := x.perm = m.perm && x.shadow = m.shadow &&
    decide (m.base.toNat ≤ x.limit.toNat + 1 ∧ x.base.toNat ≤ m.limit.toNat + 1)
  match l.find? joins with
  | some x =>
    let y := { x with base := BitVec.ofNat 32 (min x.base.toNat m.base.toNat), limit := BitVec.ofNat 32 (max x.limit.toNat m.limit.toNat) }
    if l.any fun z => z ≠ x && z.overlaps y then l else l.map fun z => if z = x then y else z
  | none => if (l.any fun z => z.overlaps m) || 15 ≤ l.length then l else l ++ [m]

/-- The ranges a task of lane `p`'s partition may reach (R295): code, its scratchpad coefficient sets and the checkpoint areas, which it
only reads (R163); work area, stack, shadow stack; its exchange points and their data in Depot, its sets in DRAM. Start, bytes, MPERM
permissions, SHADOW. -/
def State.taskRanges (s : State) (p : Nat) (im : Image) (pt : Partition) (tk : Task) : List (Nat × Nat × Nat × Bool) :=
  let q := (s.lane p).part
  let b := blockSamples im.bsize
  let points := im.points.zipIdx.filter fun x => (List.range pt.tasks).any fun k =>
    match im.tasks[pt.firstTask + k]? with | some t => t.waits = x.1 || t.publishes = x.1 | none => false
  let depot (i : Nat) : Nat := 0x20000000 + (im.allocs.getD i (0, 0)).1
  let ones := (im.coefs.zipIdx.filter fun x => x.1.place = 1).zipIdx
  [(s.codeAt p, pt.codeSize, 0x3D, false),
   (s.areaAt p 0, pt.stateSize, 0x19, false), (s.areaAt p 1, (im.paramArea q).2, 0x19, false),
   (s.areaAt p 2, 4 * b * im.inputsOf q, 0x19, false),
   (s.areaAt p 3, pt.stateSize + 4 * b * im.outputsOf q, 0x1B, false), (s.areaAt p 4, tk.stack, 0x1B, false),
   (s.areaAt p 5, shadowBytes, 0x1B, true)] ++
  ((im.coefsFor q 0).map fun x => (s.areaAt p (8 + x.2), x.1.bytes, 0x19, false)) ++
  (points.map fun x => (depot (ones.length + im.parts.length + x.2), 64, 0x1B, false)) ++
  ((ones.filter fun x => x.1.1.partition = q || x.1.1.partition = 0xFFFF).map fun x => (depot x.2, x.1.1.bytes, 0x1B, false)) ++
  ((im.coefsFor q 2).map fun x => (x.1.dramAddr, x.1.bytes, 0x19, false)) ++
  ((im.coefsFor q 3).map fun x => (x.1.dramAddr, x.1.bytes, 0x1B, false))

/-- The memory slots of a task's rule set. -/
def State.taskSlots (s : State) (p : Nat) (im : Image) (pt : Partition) (tk : Task) : List MSlot :=
  ((s.taskRanges p im pt tk).filter fun r => r.2.1 ≠ 0).foldl (fun l r => addSlot l (slotOver r.1 r.2.1 r.2.2.1 r.2.2.2)) []

/-- The rule set the lane executive keeps for Footpath. Which of the four it is, the spec leaves to the executive (DESIGN CHOICE; R296's
example has 1). -/
def taskSet : Nat := 1

/-- The lane executive loads the rules of a task and selects them (R163, R291, R295): no peripheral slot, the memory slots of the task, and
the slot that keeps the firmware area (R243).
It fills the whole set, so a staged edit of it that no SYNC.C has applied is replaced. -/
def State.loadTaskRules (s : State) (p : Nat) (im : Image) (pt : Partition) (tk : Task) : State :=
  let l := s.taskSlots p im pt tk
  (s.loadRules (p + 1) taskSet (l ++ List.replicate (15 - l.length) ({} : MSlot) ++ [areaSlot]) fun _ => 0).onTriad (p + 1) fun x => { x with tgset := BitVec.ofNat 64 taskSet }

/-! ## Copies for the slip road (R166, R174) -/

/-- Whether mirror slot `i` of logical lane `l`, of partition `q`, is valid (R174): MAGIC, both CRCs, IMAGE_ID. -/
def State.slotValid (s : State) (im : Image) (q l i : Nat) : Bool :=
  let a := s.mirrorAddr l i (im.slotLen q)
  let body := up64 (s.le (a + 0x18) 4 + s.le (a + 0x1C) 4 + 32 * s.le (a + 0x20) 2)
  s.bytes a 4 == [0x4D, 0x49, 0x52, 0x30] && decide (s.le (a + 0x10) 8 = im.imageId) &&
    decide ((crc32c (s.bytes a 0x3C)).toNat = s.le (a + 0x3C) 4) && decide (64 + body ≤ im.slotLen q) &&
    decide ((crc32c (s.bytes (a + 64) body)).toNat = s.le (a + 0x24) 4)

/-- BLOCK of mirror slot `i`. -/
def State.slotBlock (s : State) (im : Image) (q l i : Nat) : Nat := s.le (s.mirrorAddr l i (im.slotLen q) + 8) 8

/-- Depot address of the body of the valid mirror slot of commit N − 1, N the block that runs (R166). -/
def State.mirrorCopy (s : State) (im : Image) (q l : Nat) : Option Nat :=
  ([0, 1].find? fun i => s.slotValid im q l i && decide (s.slotBlock im q l i + 1 = s.eng.period.getD 0)).map fun i =>
    s.mirrorAddr l i (im.slotLen q) + 64

/-- The copy of the byte at `a` of lane `p`'s partition (R166): checkpoint state and parameters from the mirror, code and coefficient sets
from the image in Depot, input samples from the input ring; none for data an earlier task wrote. -/
def State.copyByte (s : State) (p : Nat) (im : Image) (a : Nat) : Option Byte :=
  let r := s.lane p
  let q := r.part
  let at_ (base n : Nat) : Bool := decide (base ≤ a ∧ a < base + n)
  let codeSize := match im.parts[q]? with | some x => x.codeSize | none => 0
  if at_ (s.codeAt p) codeSize then some (s.byte (im.codeOff q + (a - s.codeAt p)))
  else match (im.coefsFor q 0).find? fun x => at_ (s.areaAt p (8 + x.2)) x.1.bytes with
    | some x => some (s.byte (im.base + x.1.off + 32 + (a - s.areaAt p (8 + x.2))))
    | none =>
      if at_ (s.areaAt p 0) (im.stateSize q) then (s.mirrorCopy im q r.logical).map fun b => s.byte (b + (a - s.areaAt p 0))
      else if at_ (s.areaAt p 1) (im.paramArea q).2 then
        (s.mirrorCopy im q r.logical).map fun b => s.byte (b + im.stateSize q + (a - s.areaAt p 1))
      else if at_ (s.areaAt p 2) (4 * blockSamples im.bsize * im.inputsOf q) then
        let i := a - s.areaAt p 2
        some ((Sparse.get (fun _ => (0 : Word)) r.inputs (i / 4)).extractLsb' (8 * (i % 4)) 8)
      else none

/-- The copy of word `w` of the home scratchpad that serves lane `p`, when there is one of all its bytes that belong to the partition. -/
def State.copyWord (s : State) (p w : Nat) : Option (List Byte) :=
  match s.eng.running with
  | none => none
  | some im =>
    let bs := (List.range 8).map fun i => s.copyByte p im (8 * w + i)
    if bs.all (·.isSome) then some (bs.map fun b => b.getD 0) else none

/-! ## Reads and diversion (R165, R166) -/

/-- A word is read where it stands: its bytes, none when they are uncorrectable. -/
def State.readWord (s : State) (r : Raise) (w : Nat) : State × Option (List Byte) :=
  let (s1, ok) := s.readCheck w r
  (s1, if ok then some (s1.bytes (8 * w) 8) else none)

/-- A word that lane `p` addresses as `w` is read where it stands: its bytes, from the copy where it is uncorrectable and the slip road is
used; none when it has none (R166). -/
def State.roadWord (s : State) (p : Nat) (r : Raise) (w : Nat) : State × Option (List Byte) :=
  match s.readWord r (s.redirect p (8 * w) / 8) with
  | (s1, some bs) => (s1, some bs)
  | (s1, none) => (s1, if (s.roadTo p).isSome then s1.copyWord p w else none)

/-- Words that lane `p` reads in order; none when one cannot be had. -/
def State.roadWords (s : State) (p : Nat) (r : Raise) : List Nat → State × Option (List Byte)
  | [] => (s, some [])
  | w :: ws =>
    match s.roadWord p r w with
    | (s1, none) => (s1, none)
    | (s1, some b) =>
      match s1.roadWords p r ws with
      | (s2, some bs) => (s2, some (b ++ bs))
      | (s2, none) => (s2, none)

/-- A Layby lane's first write to a home granule (R165): a pool granule is allocated and the 64 bytes it reads there copied into it, with
new check bits. False when the pool is exhausted, or a word has neither good bytes nor a copy (R166). -/
def State.divertGranule (s : State) (p a : Nat) : State × Bool :=
  match s.roadTo p, s.region a with
  | some h, .spm n =>
    let g := (a - spmBase n) / 64
    if n ≠ h || Sparse.get (fun _ => 0) (s.layby p).divert g ≠ 0 then (s, true)
    else
      let k := lowestFree s.poolUsed s.poolUsed.length 0
      if 65536 ≤ k ∨ 65536 ≤ s.poolUsed.length + s.poolWithheld then (s, false)
      else
        match s.roadWords p { master := BitVec.ofNat 8 (masterOf (p + 1)), kind := 2 } ((List.range 8).map ((spmBase n + 64 * g) / 8 + ·)) with
        | (s1, none) => (s1, false)
        | (s1, some bs) =>
          let s1 := s1.setBytes (spmBase 8 + 64 * k) bs
          let s1 := (List.range 8).foldl (fun s i => s.setErr ((spmBase 8 + 64 * k) / 8 + i) .good) s1
          let y := s1.layby p
          (s1.setLayby p { y with divert := Sparse.set (fun _ => 0) y.divert g (k + 1) }, true)
  | _, _ => (s, true)

end Sys2Proof.Machine
end

