-- ==== Sys2Proof/Machine/Recovery.lean ====
section
/-! DEFINITION. Machine/Recovery.lean: the recovery ladder's own operations on a lane (R28 to R36, R160 to R170):
a failure of the running task, a failed lane, a Layby shadow, a failed express block. -/
namespace Sys2Proof.Machine

/-! ## What runs -/

/-- A block period in ns, rounded down. -/
def blockNs (rate bsize : Nat) : Nat := blockSamples bsize * 1000000000 / rateHz rate

/-- The block period of the running image; 0 when none runs. -/
def State.periodNs (s : State) : Nat :=
  match s.eng.running with
  | some im => blockNs im.rate im.bsize
  | none => 0

/-- The current block number N (BSQ.BLOCK). -/
def State.blockN (s : State) : Nat := s.get64 BSQ_BLOCK_LO

/-- Device time of frame boundary `j` of block `n` under the block count in force (R15, R16): the first ns not before it.
It is time 0 when the count stands still. -/
def State.frameTime (s : State) (n j : Nat) : Nat :=
  let fs := rateHz s.eng.seqRate
  if fs = 0 then 0
  else s.eng.epochT + (((n - s.eng.epochN) * blockSamples s.eng.seqB + j) * 1000000000 + fs - 1) / fs

/-- The first frame boundary of the processing rate at or after `t` (R15); `t` itself when the count stands still. -/
def State.frameAfter (s : State) (t : Nat) : Nat :=
  let fs := rateHz s.eng.seqRate
  if fs = 0 then t
  else s.frameTime s.eng.epochN (((t - s.eng.epochT) * fs + 999999999) / 1000000000)

/-- Frame boundaries of a rate on the grid of the block count (R15): the last one at or before `t`, and the first one after it. -/
def State.rateFloor (s : State) (fs t : Nat) : Nat :=
  s.eng.epochT + ((t - s.eng.epochT) * fs / 1000000000 * 1000000000 + fs - 1) / max 1 fs

def State.rateFrame (s : State) (fs t : Nat) : Nat :=
  s.eng.epochT + (((t - s.eng.epochT) * fs / 1000000000 + 1) * 1000000000 + fs - 1) / max 1 fs

/-- A frame of a TDM port's RATE in ns, rounded up. -/
def State.tdmPeriod (s : State) (p : Nat) : Nat :=
  let fs := rateHz (s.get (TDM_FORMAT_RATE p))
  (1000000000 + fs - 1) / max 1 fs

/-- The partition a lane's run record names, of the running image. -/
def State.partOf (s : State) (p : Nat) : Option Partition :=
  s.eng.running.bind fun im => im.parts[(s.lane p).part]?

/-- Task `k` of the partition on lane `p`. -/
def State.taskOf (s : State) (p k : Nat) : Option Task :=
  s.eng.running.bind fun im => (s.partOf p).bind fun pt => if k < pt.tasks then im.tasks[pt.firstTask + k]? else none

/-- BSQ.LAYBY fields of Layby lane `p` (16 or 17). -/
def laybyUse (p : Nat) : Fld := if p = 16 then BSQ_LAYBY_USE16 else BSQ_LAYBY_USE17
def laybyLogical (p : Nat) : Fld := if p = 16 then BSQ_LAYBY_LOGICAL16 else BSQ_LAYBY_LOGICAL17
def laybySettled (p : Nat) : Fld := if p = 16 then BSQ_LAYBY_SETTLED16 else BSQ_LAYBY_SETTLED17

/-- BSQ.LANE_STAT.STATE of a phase (ch. 2); a lane out of service or parked keeps 5 or 6. A suspended lane reads 4, clock-gated, while its
cluster is in neither GATED nor WARM (DESIGN CHOICE: the register names no code for it). -/
def phaseCode (shadow : Bool) : LanePhase → Option Nat
  | .off => some 0
  | .suspended => some 4
  | .waiting => some (if shadow then 3 else 1)
  | .running => some (if shadow then 3 else 1)
  | .replaying => some 2
  | .preparing => some 3
  | .finished => some 4
  | .failed => none

/-- Roadbed firmware sets a released lane triad's EVRBASE (R307): its own identity, or the home lane's on a Layby lane that carries a
partition; EN is clear on a home triad out of service or parked. -/
def State.setRoute (s : State) (p : Nat) : State :=
  if (s.triad (p + 1)).run = .held then s
  else
    let id := if isLayby p && decide (3 ≤ s.get (laybyUse p)) then s.get (laybyLogical p) else p
    let en := !(s.eng.outOfService.contains p || s.get (BSQ_LANE_STAT_STATE p) = 6)
    s.onTriad (p + 1) fun x => { x with evrbase := BitVec.ofNat 64 ((if en then 0x100 else 0) + 0x10 + id) }

/-- Move a lane to a phase, and its LANE_STAT.STATE with it. -/
def State.setPhase (s : State) (p : Nat) (ph : LanePhase) : State :=
  let s1 := s.onLane p fun l => { l with phase := ph }
  let sh := isLayby p && (s.get (laybyUse p) = 1 || s.get (laybyUse p) = 2)
  match phaseCode sh ph with
  | some c =>
    let c := if ph = .suspended && s.get (PWR_CLUSTER_STATE (p / 2)) ≤ 1 then 0 else c
    if s.get (BSQ_LANE_STAT_STATE p) = 5 || s.get (BSQ_LANE_STAT_STATE p) = 6 then s1
              else s1.put (BSQ_LANE_STAT_STATE p) c
  | none => s1

/-! ## Task entry (R55, R127, R162, R337) -/

def State.window (s : State) (k : Nat) : Window := Sparse.get (fun _ => {}) s.windows k

def State.setWindow (s : State) (k : Nat) (w : Window) : State :=
  { s with windows := Sparse.set (fun _ => {}) s.windows k w }

/-- Open a window for task `k`, or re-arm the one open, with the count at 0 (R337). -/
def State.openWindow (s : State) (p k : Nat) : State :=
  ((s.put (WMK_WINDOW_OPEN p) 1).put (WMK_WINDOW_TASK p) k).setWindow p { since := s.time }

/-- What VZERO clears (R135). -/
def Triad.vzero (x : Triad) : Triad :=
  { x with z := [], zres := [], p := [], p2 := [], za := [], zares := [],
           ffm := BitVec.allOnes 64, ffm2 := BitVec.allOnes 64 }

/-- g19 to g30. -/
def Triad.callee (x : Triad) : Sparse DWord := x.g.filter fun e => decide (19 ≤ e.1 ∧ e.1 ≤ 30)

/-- The lane executive of lane `p` enters task `k` at its entry point (R55, R127, R162 step 3): TASKID armed, BUDGET loaded
with D_NS in lane cycles and running, the vector state of R127, an empty Footpath shadow stack (R114), the task's Tollgate rules (R163,
R295), Footpath. The SYNC.C of the entry applies every pending sync value the executive does not write itself (R85). A replay restores
g19 to g30. -/
def State.enterTask (s : State) (p k : Nat) (restore : Bool) : State :=
  match s.eng.running, s.partOf p, s.taskOf p k with
  | some im, some pt, some tk =>
    let l := s.lane p
    let g := if restore then (s.triad (p + 1)).g.filter (fun e => decide (e.1 < 19)) ++ l.saved ++
                (s.triad (p + 1)).g.filter (fun e => decide (30 < e.1))
             else (s.triad (p + 1)).g
    let cyc := s.laneCycles (p + 1) tk.dNs
    let low := s.areaAt p 5
    let pc := s.codeAt p + tk.entry
    let s := (s.onTriad (p + 1) fun x =>
      { x.applyPend.vzero with
        g := g, vcfg := 0, vxstat := 0, run := .running, check := none, overrun := false
        ssFoot := { ssp := BitVec.ofNat 64 (low + shadowBytes), ssbase := BitVec.ofNat 64 (low + shadowBytes), sslimit := BitVec.ofNat 64 low }
        taskid := BitVec.ofNat 64 (2 ^ 31 + k % 256)
        budget := BitVec.ofNat 64 (2 ^ 63 + cyc % 2 ^ 32)
        status := x.status &&& ~~~ (0xF : DWord)
        pc := BitVec.ofNat 64 pc }).loadTaskRules p im pt tk
    s.openWindow p k
  | _, _, _ => s

/-! ## Failures -/

/-- The Layby cluster is pinned by the host to a state other than the image's idle state (R27). -/
def State.laybyPinned (s : State) : Bool :=
  let pin := s.get (PWR_CLUSTER_PIN 8)
  s.eng.hostPower && (1 ≤ pin && pin ≤ 4) &&
    (match s.eng.running with
     | some im => pin != (if im.laybyIdle = 1 then 3 else 2)
     | none => true)

/-- Whether Layby lane `l` is free for a shadow (R27, R29, R171 item 5, R253). -/
def State.laybyFree (s : State) (l : Nat) : Bool :=
  s.get (laybyUse l) = 0 && !s.eng.outOfService.contains l && !s.laybyPinned &&
    s.reg (SPM_RETIRED 8) = 0

/-- The free Layby lane a shadow for lane `p` takes: the one with the lower master ID (R167, R170). -/
def State.pickLayby (s : State) (p : Nat) : Option Nat :=
  if p ≠ 16 && s.laybyFree 16 then some 16
  else if p ≠ 17 && s.laybyFree 17 then some 17
  else none

/-- Lane STATE in which a Layby lane starts a shadow, and the allowance A that follows (R26, R167): READY and RUN, or WARM. -/
def State.allowance (s : State) : Nat := if 2 ≤ s.get (PWR_CLUSTER_STATE 8) ∧ s.get (PWR_CLUSTER_STATE 8) ≤ 3 then 3000 else 22000

/-- Sentry cycles of 250 ns since the end of the reset. -/
def State.sentryCycle (s : State) : Nat := s.up / 250

/-- A free Layby lane is assigned to lane `p`'s shadow (R167 step 1). It reads the replay-point data in place, so it begins with what the
lane's completed tasks left. -/
def State.assignShadow (s : State) (p : Nat) : State :=
  let l := s.lane p
  match s.pickLayby p with
  | none => s
  | some y =>
    let s := (s.put (laybyUse y) 1).put (laybyLogical y) l.logical
    let s := s.setLayby y { home := some p, road := false, divert := [], point := l.task, allow := s.allowance, cycle := s.sentryCycle + 1 }
    let s := s.setLane y { phase := .preparing, logical := l.logical, part := l.part, task := l.task,
                           outs := l.outs, fresh := l.fresh, saved := l.saved, since := s.time, inputs := l.inputs }
    let s := s.put (BSQ_LANE_STAT_STATE y) 3
    s.onLane p fun r => { r with shadow := some y }

/-- A Layby lane that runs a fault shadow or a standing shadow (BSQ.LAYBY.USE 1 or 2). -/
def State.isShadow (s : State) (p : Nat) : Bool := isLayby p && (s.get (laybyUse p) = 1 || s.get (laybyUse p) = 2)

/-- The shadow on Layby lane `y` is stopped and discarded, and its pool granules are free again (R30, R168): a fault shadow's lane is free,
a standing shadow keeps its lane for the next block. -/
def State.dropShadow (s : State) (y : Nat) : State :=
  if s.get (laybyUse y) = 2 then
    (s.setLayby y { s.layby y with divert := [] }).onLane y fun r => { r with phase := .off, fault := true }
  else if s.get (laybyUse y) ≠ 1 then s
  else
    let s := match (s.layby y).home with
      | some h => s.onLane h fun r => { r with shadow := if r.shadow = some y then none else r.shadow }
      | none => s
    let s := ((s.put (laybyUse y) 0).put (laybyLogical y) 0).setLayby y {}
    (s.setLane y {}).put (BSQ_LANE_STAT_STATE y) 0

/-- The home lanes of the fault shadows assigned in this Sentry cycle. -/
def State.tiedShadows (s : State) : List (Nat × Nat) :=
  [16, 17].filterMap fun y =>
    if s.get (laybyUse y) = 1 && (s.lane y).phase = .preparing && (s.layby y).cycle = s.sentryCycle + 1
    then (s.layby y).home.map fun h => (h, y) else none

/-- Start a shadow of lane `p` from the replay point of its running task (R29, R33). Lanes are served in the order of detection, and
those of one Sentry cycle in the order of their master IDs. -/
def State.startShadow (s : State) (p : Nat) : State :=
  if (s.lane p).shadow.isSome then s
  else
    let tied := s.tiedShadows
    let s := tied.foldl (fun s x => s.dropShadow x.2) s
    ((p :: tied.map Prod.fst).insertionSort (· ≤ ·)).foldl State.assignShadow s

/-- What a channel of lane `p` reports (R175, R418): the lane as master, PHYS, LOGICAL, TASK, CODE, BLOCK, PC and EVAL. -/
def State.laneRaise (s : State) (p code : Nat) (pc eval : DWord) : Raise :=
  let l := s.lane p
  { master := BitVec.ofNat 8 (masterOf (p + 1)), kind := 14,
    detail := [BitVec.ofNat 8 p, BitVec.ofNat 8 l.logical, BitVec.ofNat 8 l.task, BitVec.ofNat 8 code] ++
      leBytes 8 (s.eng.period.getD 0) ++ leBytes 8 pc.toNat ++ leBytes 8 eval.toNat }

/-- The same with the cause, PC and EVAL of the exception the lane's triad took last. -/
def State.laneCause (s : State) (p : Nat) : Raise :=
  let x := s.triad (p + 1)
  s.laneRaise p (x.ecause.toNat % 256) x.epc x.eval

/-- What a shadow reports beside that (R175): EVAL holds the Layby lane in bits [7:0], the replay point in [15:8] and A in ns from bit 16
(DESIGN CHOICE: R418's DETAIL names no place for them). -/
def State.shadowCause (s : State) (p y : Nat) : Raise :=
  let b := s.layby y
  let x := s.triad (p + 1)
  s.laneRaise p (x.ecause.toNat % 256) x.epc (BitVec.ofNat 64 (y + 2 ^ 8 * (b.point % 256) + 2 ^ 16 * b.allow))

/-- A shadow fails, and only the shadow (R170): counted for the home lane. The sparing channel raised is the Layby lane's
own (DEDUCED from R170 and R311: the home lane's would fail the home lane, whose replay may still commit). -/
def State.shadowFail (s : State) (y : Nat) : State :=
  let s := (s.bump (BSQ_LANE_REC_SHADOW_FAILS (((s.layby y).home).getD y))).drive (36 + 8 * y) (s.shadowCause y y)
  let s := s.onLane y fun l => { l with phase := .failed, fault := true }
  s.dropShadow y

/-- Lane `p` fails for the block (R160, R161): it runs nothing further, and its block is served by a shadow when a Layby
lane is free (R29, R33). A lane that runs no block, has failed or has committed is left as it is (R312). -/
def State.laneFail (s : State) (p : Nat) : State :=
  if s.isShadow p then (match (s.lane p).phase with
    | .running | .waiting | .replaying => s.shadowFail p
    | _ => s)
  else match (s.lane p).phase with
  | .running | .waiting | .replaying =>
    let s := (s.startShadow p).setPhase p .failed
    s.onLane p fun l => { l with fault := true }
  | _ => s

/-- The end of the lane period that runs (R18). -/
def State.periodEnd (s : State) : Nat := s.eng.periodAt + s.periodNs

/-- Whether a replay of task `k` of lane `p` may start now (R161 items 1 and 3). -/
def State.mayReplay (s : State) (p k : Nat) : Bool :=
  match s.partOf p, s.taskOf p k with
  | some pt, some tk => !(s.lane p).replayed.contains k && decide (s.time + (pt.wNs - tk.sNs) ≤ s.periodEnd)
  | _, _ => false

/-- The running task of lane `p` fails its check record (R23, R29, R161): it replays from its replay point, beside a
shadow; when it may not, the lane fails for the block. `k` is the task whose replay point is taken (R34), `e` the task
exception behind it, which starts no shadow (R35). A lane that fails for the block keeps task `k` as the replay point of its shadow. The
lane replay channel is raised as a replay starts, when none may start and when one fails (R175). DEDUCED from R312: raised at the end of a
clean replay, the channel's REPLAY action would fail the task that follows. -/
def State.taskFailure (s : State) (p k : Nat) (e : Option TaskExc) : State :=
  let l := s.lane p
  let r := s.laneCause p
  match l.phase with
  | .running | .replaying =>
    if s.isShadow p then s.shadowFail p
    else if s.mayReplay p k then
      let s := s.onLane p fun l => { l with task := k, fault := false, exc := none, first := e,
                                            replayed := k :: l.replayed, since := s.time }
      let s := ((s.setPhase p .replaying).put (BSQ_LANE_STAT_TASK p) k).enterTask p k true
      let s := s.drive (34 + 8 * p) r
      if e.isSome then s else s.startShadow p
    else
      let s := (s.bump (BSQ_LANE_REC_REPLAY_FAILS p)).drive (34 + 8 * p) r
      (s.onLane p fun l => { l with task := k }).laneFail p
  | _ => s

/-- The check record of lane `p` receives a failure of the running task (R23), for the lane executive to act on. -/
def State.noteFailure (s : State) (p : Nat) : State :=
  match (s.lane p).phase with
  | .running | .replaying => s.onLane p fun l => { l with fault := true }
  | _ => s

/-- Express block `b` fails (R195): its copies stop, its outputs carry 0, and it waits for the Layby block. -/
def State.expressFail (s : State) (b : Nat) : State :=
  if s.exp.out.contains b || s.exp.failed.contains b then s
  else
    let s := { s with exp := { s.exp with failed := s.exp.failed ++ [b], out := s.exp.out ++ [b] } }
    ((s.bump (EXP_VOTE_FAILS b)).put (EXP_VOTE_MODE b) 3).drive (185 + b)

end Sys2Proof.Machine
end

