-- ==== Sys2Proof/Machine/Fcu.lean ====
section
/-! DEFINITION. Machine/Fcu.lean: the fault collection unit (R309 to R324): sampling of the dual-rail pairs, raises,
severities, reactions, the first-error record, the raise queue, deferral and the safe state. -/
namespace Sys2Proof.Machine

/-! ## Severity (R313, R314) -/

/-- SEV_MIN of a channel. -/
def State.sevMin (s : State) (n : Nat) : Nat := s.get (FCU_CH_CFG_SEV_MIN n)

/-- The times in ms of the last raises of a counted channel, newest first (R314). -/
def State.raiseTimes (s : State) (n : Nat) : List Nat :=
  if n = 218 then s.fcu.hist218 else if n = 220 then s.fcu.hist220 else []

/-- A raise of a counted channel enters its history, which keeps the last 255 (R314). -/
def State.noteRaiseTime (s : State) (n : Nat) : State :=
  let t := s.time / 1000000
  if n = 218 then { s with fcu := { s.fcu with hist218 := (t :: s.fcu.hist218).take 255 } }
  else if n = 220 then { s with fcu := { s.fcu with hist220 := (t :: s.fcu.hist220).take 255 } }
  else s

/-- Whether the newest raise of the history escalates: the span of the last `N` raises is below `T` (R314). -/
def escalates (times : List Nat) (n t : Nat) : Bool :=
  match times, times[n - 1]? with
  | t0 :: _, some tk => decide (t0 - tk < t)
  | _, _ => false

/-- The effective severity of a raise, the history already holding it (R313, R314). -/
def State.effSev (s : State) (n : Nat) (r : Raise) : Nat :=
  if r.reduced then s.sevMin n
  else if n = 218 || n = 220 then
    let k := if n = 218 then 0 else 1
    if escalates (s.raiseTimes n) (s.get (FCU_COUNT_CFG_N k)) (s.get (FCU_COUNT_CFG_T_MS k))
    then s.get (FCU_CH_CFG_SEV n) else s.get (FCU_COUNT_CFG_BASE k)
  else s.get (FCU_CH_CFG_SEV n)

/-! ## The safe state and takeover (R311, R322, R323, R388) -/

/-- Whether a primary counts its standby as ready (R381): a HEART with READY = 1 within the last 30 µs, and PEER_HEALTH
at rest. -/
def State.standbyReady (s : State) : Bool :=
  s.get SOV_STATUS_ROLE = 2 && s.get SOV_STATUS_PEER_HEALTH = 0 &&
    (match s.sov.readyAt with
     | some t => decide (s.time ≤ t + 30000)
     | none => false)

/-- A safe-state reset is asked for: RESET_N is pulled RESET_DELAY after now, unless one already counts down (R317, R323). -/
def State.askSafeReset (s : State) (n : Nat) : State :=
  if s.flag (FCU_CH_CFG_RESET n) && !s.flag FCU_STATUS_RESET_REQ then
    let s1 := s.put FCU_STATUS_RESET_REQ 1
    { s1 with fcu := { s1.fcu with resetAt := some (s.time + s.get FCU_SAFE_CFG_RESET_DELAY * 1000000) } }
  else s

/-- Entry to the safe state by channel `n` (R322, R323): every deferral waiting is discarded (R317). -/
def State.enterSafe (s : State) (n : Nat) : State :=
  let s := s.fcu.deferred.foldl (fun s d => s.put (FCU_CH_STATUS_DEFERRED d.channel) 0) s
  let s := { s with fcu := { s.fcu with deferred := [] } }
  (((s.put FCU_STATUS_SAFE 1).put FCU_STATUS_SAFE_CH n).askSafeReset n).irq 31

/-- The first processing-rate frame boundary at least `lead` ns after now (R388). -/
def State.nextFrame (s : State) (lead : Nat) : Nat := s.frameAfter (s.time + lead)

/-- T_N (R18): two frames into the block that runs at C_N; the next frame boundary once that has passed. -/
def State.takePoint (s : State) : Nat :=
  let t := s.frameTime s.blockN 2
  if s.time ≤ t then t else s.nextFrame 0

/-- A takeover that was to save a block does not come: the block is lost, and its channel is raised (R36). -/
def State.loseBlock (s : State) : State :=
  if s.sov.takeLoss then ({ s with sov := { s.sov with takeLoss := false } }).drive 194 else s

/-- The TAKEOVER action (R311, R312, R388): a primary with a ready standby asserts TWIN_TAKE for the boundary F, at once
with the safe state when its media clock has stopped (FC 4); any other device enters the safe state. -/
def State.takeover (s : State) (n : Nat) : State :=
  if s.standbyReady then
    if n = 4 then ({ s with sov := { s.sov with takeOut := true } }).enterSafe n
    else match s.sov.takeAt with
      | some _ => s
      | none =>
        let f := if n = 195 then s.takePoint else s.nextFrame 2500
        { s with sov := { s.sov with takeAt := some f } }
  else (s.enterSafe n).loseBlock

/-- The lane of a lane channel (FC 32 to 175), R311. -/
def laneOfFc (n : Nat) : Option Nat := if 32 ≤ n ∧ n ≤ 175 then some ((n - 32) / 8) else none

/-- The express block of an express channel (FC 176 to 193), R311. -/
def blockOfFc (n : Nat) : Option Nat :=
  if 176 ≤ n ∧ n ≤ 184 then some (n - 176) else if 185 ≤ n ∧ n ≤ 193 then some (n - 185) else none

/-- The REPLAY action: the running task of the lane fails and replays (R311, R312, R161). -/
def State.replayAction (s : State) (n : Nat) : State :=
  match laneOfFc n with
  | some p =>
    match (s.lane p).phase with
    | .running => s.taskFailure p (s.lane p).task none
    | _ => s
  | none => s

/-- The SPARE action: the lane fails for the block, or the express block fails (R311, R312). -/
def State.spareAction (s : State) (n : Nat) : State :=
  match laneOfFc n, blockOfFc n with
  | some p, _ => s.laneFail p
  | none, some b => s.expressFail b
  | none, none => s

/-- The actions of severity `sev` beyond INTERRUPT (R311); in the safe state only the reset request of R317. -/
def State.react (s : State) (n sev : Nat) : State :=
  if s.flag FCU_STATUS_SAFE then
    if sev = 7 || (sev = 6 && !s.standbyReady) then s.askSafeReset n else s
  else if sev = 4 then s.replayAction n
  else if sev = 5 then s.spareAction n
  else if sev = 6 then (s.spareAction n).takeover n
  else if sev = 7 then (s.spareAction n).enterSafe n
  else s

/-! ## Raises (R311, R316 to R321) -/

/-- A raise's details are lost (R319). -/
def State.loseDetails (s : State) : State := (s.put FCU_LOST_LOST 1).bump FCU_LOST_COUNT

/-- An entry for the raise queue, or the count of a lost error when the queue is full (R320). `lost` says the details
have been counted lost already. -/
def State.enqueueRaise (s : State) (n sev : Nat) (r : Raise) (lost : Bool) : State :=
  if s.fcu.queue.length < 64 then
    let e : QEntry := ⟨sev, n, BitVec.ofNat 16 (s.time / 1000), s.time, if lost then none else some r, r.detail⟩
    ({ s with fcu := { s.fcu with queue := s.fcu.queue ++ [e] } }).pulse 7
  else if lost then s else s.loseDetails

/-- Fill the first-error record and its backup copy (R318). -/
def State.fillFirst (s : State) (n sev : Nat) (r : Raise) : State :=
  let a := r.addr.getD 0
  let s := (((((((s.put FCU_FIRST_CH_VALID 1).put FCU_FIRST_CH_PTP (if s.ptpLocked then 1 else 0)).put
    FCU_FIRST_CH_ADDR_VALID (if r.addr.isSome then 1 else 0)).put FCU_FIRST_CH_SEV sev).put
    FCU_FIRST_CH_CHANNEL n).put FCU_FIRST_CH_MASTER r.master.toNat).put FCU_FIRST_CH_TYPE r.kind)
  let s := (s.setReg FCU_FIRST_ADDR_LO (BitVec.ofNat 32 a)).setReg FCU_FIRST_ADDR_HI (BitVec.ofNat 32 (a / 2 ^ 32 % 256))
  let s := s.put64 FCU_FIRST_TIME_LO s.time
  let s := s.setReg SEN_FIRST_CH (s.reg FCU_FIRST_CH)
  let s := (s.setReg SEN_FIRST_ADDR_LO (s.reg FCU_FIRST_ADDR_LO)).setReg SEN_FIRST_ADDR_HI (s.reg FCU_FIRST_ADDR_HI)
  s.put64 SEN_FIRST_TIME_LO s.time

/-- A raise of channel `n` (R311 to R321): counted; a second raise while the reaction is in progress is only counted,
queued and lost (R316); else it is logged, made pending, deferred or answered by its severity's actions. -/
def State.raise (s : State) (n : Nat) (r : Raise) : State :=
  let s := (s.bump (FCU_CH_STATUS_COUNT n)).noteRaiseTime n
  let sev := s.effSev n r
  if s.flag (FCU_CH_STATUS_PEND n) then
    let s := (s.put (FCU_CH_STATUS_LOST n) 1).loseDetails
    if 1 ≤ sev then s.enqueueRaise n sev r true else s
  else
    let s := s.put (FCU_CH_STATUS_LAST_SEV n) sev
    if sev = 0 then s
    else
      let held := s.flag FCU_FIRST_CH_VALID
      let s := if held then s.loseDetails else s.fillFirst n sev r
      let s := s.enqueueRaise n sev r held
      if sev < 2 then s
      else
        let s := s.put (FCU_CH_STATUS_PEND n) 1
        if s.flag FCU_CTRL_HOST && s.flag (FCU_CH_CFG_DEFERRABLE n) && (4 ≤ sev && sev ≤ 6) && !s.flag FCU_STATUS_SAFE then
          let s := (s.put (FCU_CH_STATUS_DEFERRED n) 1).irq 24
          { s with fcu := { s.fcu with deferred := s.fcu.deferred ++
              [⟨n, sev, s.time + s.get FCU_CTRL_DEFER_MS * 1000000⟩] } }
        else s.react n sev

/-- End the deferral of channel `n` and carry out the actions of `sev` (R321). -/
def State.endDeferral (s : State) (n sev : Nat) : State :=
  let s := s.put (FCU_CH_STATUS_DEFERRED n) 0
  let s := { s with fcu := { s.fcu with deferred := s.fcu.deferred.filter fun d => decide (d.channel ≠ n) } }
  s.react n sev

/-! ## Sampling (R309, R310) -/

/-- What a sample of a pair shows (R309). -/
inductive Verdict where
  | valid | undecided | confirmed | broken | held
  deriving DecidableEq, Repr

/-- The table of R309: sample `c` after sample `p` (none: the first since a reset), `run` samples of 11 before it. -/
def classify (c : BitVec 2) (p : Option (BitVec 2)) (run : Nat) : Verdict :=
  if c = 0 then .broken
  else if c = 3 then
    if p = some 3 then (if run = 1 then .confirmed else .held) else .undecided
  else match p with
    | none => .valid
    | some q => if q = c then .broken
                else if q = 3 then (if run = 1 then .broken else .valid)
                else .valid

/-- The code pair `n` carried at the sample before: its own, or the reference's; none when no sample was taken yet. -/
def State.prevCode (s : State) (n : Nat) : Option (BitVec 2) :=
  match (s.pair n).prev with
  | some q => some q
  | none => if s.fcu.fresh then none else some (if s.fcu.ref then 2 else 1)

/-- The Roadworks pattern driven on pair `n`, if one is (RWK.BREAK, R449): 0 holds 00, 1 has rail P stuck at 1, 2 freezes
the pair, 3 holds 11. Codes are (P, N). -/
def State.simPattern (s : State) (n : Nat) : Option (BitVec 2) :=
  if s.flag RWK_BREAK_BUSY && s.rwk.channel = n then
    match s.rwk.pattern with
    | 0 => some 0
    | 1 => some (if s.fcu.ref then 3 else 2)
    | 2 => some ((s.prevCode n).getD 1)
    | _ => some 3
  else none

/-- The code pair `n` carries at this sample (R309): a Roadworks pattern; 11 while a fault is signalled or holds; else
the toggle reference. A run that has been confirmed and whose condition has ended gives way to the reference. -/
def State.codeOn (s : State) (n : Nat) : BitVec 2 :=
  let p := s.pair n
  match s.simPattern n with
  | some c => c
  | none => if p.cond.isSome || (!p.todo.isEmpty && p.run < 2) then 3 else if s.fcu.ref then 1 else 2

/-- The raise a confirmed run of 11 stands for. -/
def Pair.signalled (p : Pair) : Raise := (p.todo.head?.orElse fun _ => p.cond).getD {}

/-- Sample pair `n`: its new state, and the raises it causes (channel, raise), R309 and R310. -/
def State.samplePair (s : State) (n : Nat) : State × List (Nat × Raise) :=
  let p := s.pair n
  let c := s.codeOn n
  let tag := (s.simPattern n).isSome
  let v := classify c (s.prevCode n) p.run
  let run := if c = 3 then p.run + 1 else 0
  let back : Option (BitVec 2) := if c = (if s.fcu.ref then 1 else 2) then none else some c
  let broken := s.flag (FCU_CH_STATUS_BROKEN n)
  match v with
  | .broken =>
    let s1 := s.setPair n { p with prev := back, run := run, valid := 0 }
    if broken then (s1, [])
    else (s1.put (FCU_CH_STATUS_BROKEN n) 1, [(n, { kind := 14, tagged := tag }), (12, { note := n, tagged := tag, detail := leBytes 2 n })])
  | .confirmed =>
    (s.setPair n { p with todo := if tag then p.todo else p.todo.drop 1, prev := back, run := 2, valid := 0 },
     [(n, if tag then { tagged := true } else p.signalled)])
  | .undecided => (s.setPair n { p with prev := back, run := run, valid := 0 }, [])
  | .held => (s.setPair n { p with prev := back, run := run, valid := 0 }, [])
  | .valid =>
    let k := if broken then p.valid + 1 else 0
    let s1 := s.setPair n { p with prev := back, run := 0, valid := if k < 64 then k else 0 }
    (if broken && 64 ≤ k then s1.put (FCU_CH_STATUS_BROKEN n) 0 else s1, [])

/-- The order raises of one Sentry cycle take the first-error record: higher effective severity, then lower channel
(R317). -/
def raiseBefore (s : State) (a b : Nat × Raise) : Bool :=
  let sa := s.effSev a.1 a.2
  let sb := s.effSev b.1 b.2
  decide (sb < sa) || (sa = sb && decide (a.1 ≤ b.1))

/-- Insert a raise in the order of R317. -/
def insertRaise (s : State) (x : Nat × Raise) : List (Nat × Raise) → List (Nat × Raise)
  | [] => [x]
  | y :: ys => if raiseBefore s x y then x :: y :: ys else y :: insertRaise s x ys

/-- The pairs that are not at rest on the toggle reference: those a source drives, and the one Roadworks drives. -/
def State.busyPairs (s : State) : List Nat :=
  let l := s.fcu.pairs.map Prod.fst
  let b := s.rwk.channel
  if s.flag RWK_BREAK_BUSY && !l.contains b && (fcRow b).isSome then l ++ [b] else l

/-- One sample of every pair, and the raises it confirms (R309). A pair at rest on the reference is valid. -/
def State.sampleAll (s : State) : State :=
  let (s1, rs) := s.busyPairs.foldl
    (fun (acc : State × List (Nat × Raise)) n => let (s', r) := acc.1.samplePair n; (s', acc.2 ++ r)) (s, [])
  let s2 := { s1 with fcu := { s1.fcu with ref := !s1.fcu.ref, fresh := false } }
  (rs.foldl (fun l x => insertRaise s2 x l) []).foldl (fun s x => s.raise x.1 x.2) s2

end Sys2Proof.Machine
end

