-- ==== Sys2Proof/Machine/Ops.lean ====
section
/-! DEFINITION. Machine/Ops.lean: the end every meaning shares (the pins follow the state), the registers of a triad,
taking an exception (R110, R111), returning from one (R112), and the frame every instruction runs in. -/
namespace Sys2Proof.Machine

/-! ## Pins -/

/-- A channel is pending at or above FCU.CTRL.FAULTN_SEV, or a pair is broken (R324). -/
def State.faultShown (s : State) : Bool :=
  s.regs.any fun x => decide (FCU_CH_STATUS 0 ≤ x.1 ∧ x.1 ≤ FCU_CH_STATUS 319) &&
    (x.2.getLsbD 30 || (x.2.getLsbD 31 && decide (s.get FCU_CTRL_FAULTN_SEV ≤ x.2.toNat / 2 ^ 24 % 8)))

/-- Whether the device is paired as a twin: its role is not SOLO or PAIRING (R381). -/
def State.paired (s : State) : Bool := decide (2 ≤ s.get SOV_STATUS_ROLE)

/-- The levels the output pins take in a state (R324, R370, R390, R403). -/
def State.pinsOf (s : State) : Pins :=
  let safe := s.flag FCU_STATUS_SAFE
  let role := s.flag SOV_CTRL_ROLE_GPIO_EN
  let bit : BitVec 16 := BitVec.ofNat 16 (2 ^ s.get SOV_CTRL_ROLE_GPIO)
  let oe : BitVec 16 := if safe then BitVec.ofNat 16 (s.get FCU_GPIO_SAFE_OE) else 0
  let rl : BitVec 16 := if role && s.get SOV_STATUS_ROLE = 2 then bit else 0
  { safeN := !safe
    faultN := !(safe || s.faultShown)
    irqN := !(safe || (s.reg MBX_IRQ_PEND &&& s.reg MBX_IRQ_EN) != 0)
    resetN := !s.pulling
    mute := if safe then 0xF else BitVec.ofNat 4 (s.get FCU_MUTE_MUTE)
    unhealthy := safe || !s.flag FCU_STATUS_ARMED || !s.flag SOV_CTRL_EN
    take := s.sov.takeOut || (safe && s.paired)
    dout := if safe then (if s.flag FCU_SAFE_CFG_TDM_HIZ then .highZ else .low)
            else if 3 ≤ s.get SOV_STATUS_ROLE then (if s.flag SOV_CTRL_TDM_SHARE then .highZ else .low)
            else .data
    silent := safe || decide (3 ≤ s.get SOV_STATUS_ROLE)
    wclk := s.eng.running.isSome && s.flag MCK_CTRL_WCLK_OUT_EN
    mclk := match s.eng.running, s.get MCK_CTRL_MCLK_SEL with
      | some _, 1 => 256
      | some im, 2 => if rateHz im.rate ≤ 96000 then 512 else 0
      | _, _ => 0
    scan := if s.jtag.ir = 3 ∨ s.jtag.ir = 4 then 1 else if s.jtag.ir = 5 then 2 else 0
    gpioOe := oe ||| (if role then bit else 0)
    gpio := (BitVec.ofNat 16 (s.get FCU_GPIO_SAFE_LEVEL) &&& oe) ||| (rl &&& ~~~ oe) }

/-- Drive the output pins from the state. -/
def State.drivePins (s : State) : State := { s with pins := s.pinsOf }

/-- The end of every command: the machine goes on, its pins driven from its state. -/
def done (s : State) : Host.Outcome State Fault Refusal := .next s.drivePins

/-- An event whose condition holds has its effect; one whose condition does not hold does not occur, and changes
nothing. -/
def occurs (c : Bool) (s t : State) : Host.Outcome State Fault Refusal := done (if c then t else s)

/-- The device is out of reset and its core domain is on: registers answer (R343, R361). -/
def State.live (s : State) : Bool := s.boot ≠ .held && s.boot ≠ .off

/-- A register access by a master: it has its effect while the device is out of reset and its core domain is on. -/
def access (s t : State) : Host.Outcome State Fault Refusal := occurs s.live s t

/-! ## Registers of a triad -/

/-- A general register: g0 reads 0 (R69). -/
def State.gx (s : State) (t : Nat) (r : Reg) : DWord :=
  if r = 0 then 0 else Sparse.get (fun _ => 0) (s.triad t).g r.toNat

/-- Write a general register: a write to g0 is discarded (R69). -/
def State.setG (s : State) (t : Nat) (r : Reg) (v : DWord) : State :=
  if r = 0 then s else s.onTriad t fun x => { x with g := Sparse.set (fun _ => 0) x.g r.toNat v }

/-- STATUS.EXL. -/
def Triad.exl (x : Triad) : Bool := x.status.getLsbD 3

/-! ## Exceptions -/

/-- An exception: cause code and EVAL (R108), raised by a long-vector instruction or not. -/
structure Exc where
  code : Nat
  val : DWord
  vec : Bool := false
  prio : Nat := 0
  deriving DecidableEq, Repr

/-- The level at which a synchronous cause is taken, by the level at which it arose (R108). TOLLGATE_CONFIG from Footpath goes to Roadbed, as
its row says; R118, which has every exception of Footpath on a lane taken at Carriageway, says otherwise (DEDUCED: the row names the one
cause, the rule all; log 65). -/
def syncTarget (code from_ : Nat) : Nat :=
  if code = 0x08 || code = 0x15 then 2 else if from_ = 0 then 1 else 2

/-- The vector offset of a cause at its target level (R110). -/
def vectorOffset (target code : Nat) : Nat :=
  let async := code = 0x20 || code = 0x21 || code = 0x22
  if target = 1 then (if async then 0x200 else 0x000)
  else if code = 0x15 then 0x800
  else if async then 0x600 else 0x400

/-- The physical lane of a lane triad. -/
def laneOf (t : Nat) : Nat := t - 1

/-- The nested-fault channel of a triad (R315): FC 19 for the supervisor, FC 38 + 8p for lane p. -/
def nestedChannel (t : Nat) : Nat := if t = 0 then 19 else 38 + 8 * laneOf t

/-- What a channel of triad `t` reports of a cause (R111, R175, R418): a lane's DETAIL, or the supervisor's with the same places for CODE, PC
and EVAL. -/
def State.triadRaise (s : State) (t code : Nat) (pc eval : DWord) : Raise :=
  if t = 0 then { master := 0, kind := 14, detail := [0, 0, 0, BitVec.ofNat 8 code] ++ leBytes 8 0 ++ leBytes 8 pc.toNat ++ leBytes 8 eval.toNat }
  else s.laneRaise (laneOf t) code pc eval

/-- A nested fault (R111): the triad halts with EPC, EPS, ECAUSE and EVAL unchanged, its channel is raised with the second cause and its
PC, and a lane fails for the block. -/
def State.nestedFault (s : State) (t : Nat) (e : Exc) : State :=
  let s := (s.onTriad t fun x => { x with run := .nested }).drive (nestedChannel t) (s.triadRaise t e.code (s.triad t).pc e.val)
  if t = 0 then s
  else
    let s := s.laneFail (laneOf t)
    if s.eng.outOfService.contains (laneOf t) then s
    else (s.onEng fun e => { e with outOfService := e.outOfService ++ [laneOf t] }).setRoute (laneOf t)

/-- Exception entry (R110): cause, value, target level and the address to resume at. A synchronous cause other than
RETURN_ELEVATION while STATUS.EXL = 1 is a nested fault (R111). -/
def State.enterException (s : State) (t : Nat) (e : Exc) (target : Nat) (resume : DWord) : State :=
  let x := s.triad t
  if e.code ≠ 0x15 && x.exl then s.nestedFault t e
  else
    let cause : DWord := BitVec.ofNat 64 (e.prio * 2 ^ 16 + (if e.vec then 2 ^ 12 else 0) + x.level * 2 ^ 8 + e.code)
    let st : DWord := BitVec.ofNat 64 (x.status.toNat / 2 ^ 8 % 2 ^ 4 * 2 ^ 8 + 2 ^ 3 + target)
    let pc : DWord := BitVec.ofNat 64 (x.evbase.toNat / 2 ^ 12 * 2 ^ 12 + vectorOffset target e.code)
    s.onTriad t fun x =>
      { x with
        epc := if e.code = 0x15 then x.epc else resume
        eps := if e.code = 0x15 then x.eps else x.status
        eval := e.val
        ecause := cause
        status := st
        pc := pc }

/-- Whether a cause that arises at Footpath on a lane triad enters the check record as a failure (R118, R23): the
uncorrectable errors. -/
def isCheckCause (code : Nat) : Bool := code = 0x09 || code = 0x0A || code = 0x0B

/-- A synchronous exception of the instruction at `pc` (R108, R110, R118): entered at its target level; on a lane triad at
Footpath it is noted for the running task, as a task exception (R35) or, for an uncorrectable error, as a check failure
(R23). One that arises at Carriageway is taken at Roadbed, SRVC and BREAK too, and fails the lane for the block (R119); so does RETURN_ELEVATION
at Roadbed (R113). -/
def State.raiseSync (s : State) (t : Nat) (e : Exc) : State :=
  let x := s.triad t
  let lvl := x.level
  let exl := x.exl
  let s' := s.enterException t e (syncTarget e.code lvl) x.pc
  if t = 0 then (if e.code = 0x15 then s'.drive 19 (s.triadRaise 0 e.code x.pc e.val) else s')
  else
    let p := laneOf t
    if exl && e.code ≠ 0x15 then s'
    else if e.code = 0x15 then (s'.laneFail p).drive (nestedChannel t) (s.laneRaise p e.code x.pc e.val)
    else if lvl = 0 then
      if e.code = 0x10 then s'
      else if e.code = 0x11 && s.flag (DBG_CORE_HALT t) then s'
      else if isCheckCause e.code then s'.noteFailure p
      else s'.onLane p fun l => { l with exc := some ⟨e.code, x.pc⟩ }
    else if lvl = 1 && syncTarget e.code 1 = 2 then s'.laneFail p
    else s'

/-- Whether an exception of Footpath task code on a lane may have this cause (R108, R118): SRVC is a service request and no failure. -/
def footCause (c : Nat) : Bool := decide (1 ≤ c ∧ c ≤ 0x0C) || c = 0x11 || decide (0x12 ≤ c ∧ c ≤ 0x14) || c = 0x18 || c = 0x21 || c = 0x22

/-- EVAL of an exception that is reported with its cause and PC alone (R108): what the triad and the word at the PC say; an address the
report does not carry is a free value. -/
def State.reportedEval (s : State) (t code : Nat) (pc : DWord) : DWord × State :=
  let x := s.triad t
  match code with
  | 0x01 | 0x02 => (BitVec.ofNat 64 (s.le (s.redirect (laneOf t) pc.toNat) 4), s)
  | 0x05 | 0x09 => (pc, s)
  | 0x08 => ((x.pending 0x030).getD x.tgset, s)
  | 0x11 | 0x21 => (0, s)
  | 0x12 => (s.gx t 31, s)
  | 0x13 | 0x14 => (x.ssFoot.ssp, s)
  | 0x18 => (x.vcfg, s)
  | 0x22 => (BitVec.ofNat 64 (x.check.getD 1), s)
  | _ => s.draw

/-- Whether the word at the PC of lane `p`'s triad is a long-vector instruction's (R147). -/
def State.vectorAt (s : State) (p : Nat) (pc : DWord) : Bool := decide (0x38 ≤ s.le (s.redirect p pc.toNat) 4 / 2 ^ 26)

/-- The exception a report of a failure stands for, with the PC it arose at. -/
def State.reported (s : State) (p : Nat) (c : FailCause) : Exc × DWord × State :=
  let x := s.triad (p + 1)
  let (code, pc) := match c with
    | .check => (0x22, x.pc)
    | .exception cause pc => (cause.toNat, pc)
    | .uncorrectable _ => (0x0A, x.pc)
  let (v, s1) := s.reportedEval (p + 1) code pc
  let fetched := code = 0x05 || code = 0x09 || code = 0x21 || code = 0x22
  (⟨code, v, !fetched && s.vectorAt p pc, 0⟩, pc, s1)

/-- The lane executive takes a failure of the task on lane `p` as CHECK_FAILURE, or as the exception behind it (R107, R108, R118,
R161), unless the triad has left the task already. -/
def State.failureTaken (s : State) (p : Nat) (c : FailCause) : State :=
  let x := s.triad (p + 1)
  if x.level ≠ 0 || x.exl then s
  else
    let (e, pc, s) := s.reported p c
    s.enterException (p + 1) e (syncTarget e.code 0) pc

/-! ## The frame of an instruction -/

/-- What the body of an instruction answers: the state it leaves, or an exception and the state at it. -/
abbrev Res := Except (Exc × State) State

/-- An exception that leaves the state as the body found it. -/
def trap (s : State) (code : Nat) (val : DWord) : Res := .error (⟨code, val, false, 0⟩, s)

/-- Whether event `e` is pending at triad `t` for target level `l` (R306): its priority, 0 when it is not. -/
def State.pendingAt (s : State) (t l e : Nat) : Nat :=
  let x := s.triad t
  if x.evrbase.getLsbD 8 && s.get (EVR_ROUTE_TARGET e) = x.evrbase.toNat % 256
      && s.get (EVR_ROUTE_LEVEL e) + 1 = l && s.eventPending e
  then s.get (EVR_ROUTE_PRIO e) else 0

/-- The pending event of the highest priority targeted at level `l`, the lowest number among equals, with its priority
(R109); priority 0 when none. -/
def State.bestEvent (s : State) (t l : Nat) : Nat × Nat :=
  (List.range 640).foldl (fun b e => let q := s.pendingAt t l e; if b.2 < q then (e, q) else b) (0, 0)

/-- The interrupt targeted at level `l` that the triad takes at this boundary, if there is one (R106): event, priority. -/
def State.readyAt (s : State) (t l : Nat) : Option (Nat × Nat) :=
  let x := s.triad t
  let b := s.bestEvent t l
  let ipl := x.status.toNat / 2 ^ 8 % 16
  if x.exl || b.2 = 0 then none
  else if x.level < l then some b
  else if x.level = l ∧ x.status.getLsbD 2 ∧ ipl < b.2 then some b
  else none

/-- Whether a CHECK_FAILURE or TASK_BUDGET_OVERRUN may be taken at this boundary (R107). -/
def Triad.asyncOpen (x : Triad) : Bool := x.level = 0 || (x.level = 1 && !x.exl)

/-- A triad at which an asynchronous cause may be taken: it runs, or waits for an interrupt, and is neither halted nor stepped (R77,
R445). -/
def Triad.takes (x : Triad) : Bool := (x.run = .running || x.run = .waiting) && !x.stepping

/-- The interrupt that goes next at this boundary, by the order of R109, with its level: one to Roadbed first; one to
Carriageway only when no CHECK_FAILURE or TASK_BUDGET_OVERRUN is ready. -/
def State.nextInterrupt (s : State) (t : Nat) : Option (Nat × Nat × Nat) :=
  let x := s.triad t
  match s.readyAt t 2 with
  | some (e, q) => some (2, e, q)
  | none =>
    if x.asyncOpen && (x.check.isSome || x.overrun) then none
    else match s.readyAt t 1 with
      | some (e, q) => some (1, e, q)
      | none => none

/-- Whether an interrupt is pending at a triad, taken or not: what ends a WAIT (R77). -/
def State.interruptPending (s : State) (t : Nat) : Bool :=
  (s.triad t).evrbase.getLsbD 8 && (List.range 640).any fun e => s.pendingAt t 1 e ≠ 0 || s.pendingAt t 2 e ≠ 0

/-- Whether a triad executes instructions: it runs, or an interrupt pending has ended its WAIT. -/
def State.runs (s : State) (t : Nat) : Bool :=
  match (s.triad t).run with
  | .running => true
  | .waiting => s.interruptPending t
  | _ => false

/-- A triad that HALT has told to halt and that has not (it was held in reset): it halts before its next instruction (R445). -/
def State.haltDue (s : State) (t : Nat) : Bool := s.flag (DBG_CORE_HALT t) && !(s.triad t).stepping

/-- The voter cannot resolve a disagreement (R157, R160): the triad issues nothing further; a lane fails for the block,
the supervisor restarts. -/
def State.voterFails (s : State) (t : Nat) : State :=
  let s := s.onTriad t fun x => { x with upset := [], run := .failed }
  if t = 0 then (s.drive 18).restartSupervisor false
  else
    let p := laneOf t
    ((s.bump (BSQ_LANE_REC_PAIR_FAILS p)).drive (35 + 8 * p)
      { s.laneRaise p 0 (s.triad t).pc 0 with kind := 1, addr := some ((s.triad t).pc.toNat % 2 ^ 40) }).laneFail p

/-- What an outvote or hold-out of core `k` reports (R175): the request at which the voter saw it, a fetch at the PC; DETAIL's EVAL holds the
core in bits [1:0] and the cause of a hold-out in [3:2], 1 repeat and 2 timeout (DESIGN CHOICE). -/
def State.coreRaise (s : State) (t k cause : Nat) : Raise :=
  let a := (s.triad t).pc.toNat % 2 ^ 40
  { s.triadRaise t 0 (s.triad t).pc (BitVec.ofNat 64 (k + 4 * cause)) with kind := 1, addr := some a }

/-- A fault inside one core that the voter sees as its stream leaves the triad (R156, R157): outvote and start of the
resynchronisation when two cores agree, else the lane has failed for the block (R160); the supervisor's failure restarts
it (R160). -/
def State.vote (s : State) (t : Nat) : State :=
  let x := s.triad t
  match x.upset with
  | [] => s
  | [k] =>
    if x.mode = 0 then
      let joined := Sparse.get (fun _ => 0) x.joinedAt k
      let again := joined ≠ 0 && decide (s.time < joined - 1 + 1000000000)
      let s := s.setTriad t { x with upset := [], mode := if again then 2 else 1, odd := k,
                                     outvotes := satCount 32 (x.outvotes + 1) }
      let s := s.drive (if t = 0 then 16 else 32 + 8 * laneOf t) (s.coreRaise t k 0)
      if again then s.drive (if t = 0 then 17 else 33 + 8 * laneOf t) (s.coreRaise t k 1) else s
    else if x.odd = k then s.setTriad t { x with upset := [] }
    else s.voterFails t
  | _ => s.voterFails t

/-- The access type code of an instruction fetch (R318). -/
def fetchRaise (u : Issuer) : Raise := { master := BitVec.ofNat 8 u.master, kind := 1 }

/-- The fetch of the instruction at the triad's PC (R109 items 1 and 2, R282): the Tollgate's X permission, the region's
answer, the word's check bits. None when it is fetched. -/
def State.fetch (s : State) (t : Nat) : State × Option Exc :=
  let x := s.triad t
  let u := s.triadIssuer t
  let a := x.pc.toNat
  match s.check u a 4 .fetch with
  | .own b => (s.refuse u 1 (.own b), some { code := 0x05, val := x.pc })
  | .lock b => (s.refuse u 1 (.lock b), some { code := 0x0C, val := x.pc })
  | .ok =>
    let b := if t = 0 then a else s.redirect (laneOf t) a
    if s.busError b false then (s, some { code := 0x0C, val := x.pc })
    else
      match if t = 0 then s.readWord (fetchRaise u) (a / 8) else s.roadWord (laneOf t) (fetchRaise u) (a / 8) with
      | (s1, some _) => (s1, none)
      | (s1, none) => (s1, some { code := 0x09, val := x.pc })

/-- Retire one instruction: INSTRET counts (R71). A triad the instruction itself has put into reset counts nothing. -/
def State.retire (s : State) (t : Nat) : State :=
  s.onTriad t fun x => if x.run = .held then x else { x with instret := x.instret + 1 }

/-- After the one instruction a debug step permits, the triad is halted again (R445). -/
def State.endStep (s : State) (t : Nat) : State :=
  let x := s.triad t
  if x.stepping then
    (s.setTriad t { x with stepping := false, run := if x.run = .running then .stopped else x.run }).put
      (DBG_CORE_HALTED t) 1
  else s

/-- Set the PC. -/
def State.setPc (s : State) (t : Nat) (v : DWord) : State := s.onTriad t fun x => { x with pc := v }

/-- The frame of an instruction on triad `t`: a triad that does not run executes nothing; else the instruction is fetched,
its body runs with the PC already past it, and it retires, or its exception is taken with the PC at it (R105, R109). A
debug step permits one instruction (R445). -/
def instr (t : TriadId) (body : State → DWord → Res) (s : State) : Host.Outcome State Fault Refusal :=
  if !s.runs t then done s
  else if s.haltDue t then done ((s.onTriad t fun x => { x with run := .stopped }).put (DBG_CORE_HALTED t) 1)
  else
    let s := (s.onTriad t fun x => { x with run := .running }).vote t
    if !s.runs t then done s
    else
      let pc := (s.triad t).pc
      match s.fetch t with
      | (s1, some e) => done ((s1.raiseSync t e).endStep t)
      | (s1, none) =>
        match body (s1.setPc t (pc + 4)) pc with
        | .ok s2 => done ((s2.retire t).endStep t)
        | .error (e, s2) => done (((s2.setPc t pc).raiseSync t e).endStep t)

/-- An instruction that writes one general register. -/
def instrG (t : TriadId) (rd : Reg) (f : State → DWord → DWord) (s : State) : Host.Outcome State Fault Refusal :=
  instr t (fun s pc => .ok (s.setG t rd (f s pc))) s

end Sys2Proof.Machine
end

