-- ==== Sys2Proof/Machine/Milestone.lean ====
section
/-! DEFINITION. Machine/Milestone.lean: the Milestone watchdog (R326 to R335), and the pull of RESET_N by an internal
requester (R342). -/
namespace Sys2Proof.Machine

/-- Bits of RST.CAUSE. -/
def causePor : Nat := 1
def causeExt : Nat := 2
def causeMilestone : Nat := 4
def causeSafe : Nat := 8
def causeProsal : Nat := 16
def causeWake : Nat := 32

/-- An internal requester sets its bit in the pending cause latch and pulls RESET_N low (R342). -/
def State.pullReset (s : State) (cause : Nat) : State :=
  { s with bkp := { s.bkp with causes := Nat.lor s.bkp.causes cause }, pulling := true }

/-- The correct token for question `q` under key `k` (R331). -/
def mswToken (q k : Nat) : Nat :=
  let hi := Nat.xor ((q * 32 + q / 2 ^ 11) % 2 ^ 16) (k / 2 ^ 16)
  hi * 2 ^ 16 + (q * 0x0101 + k % 2 ^ 16) % 2 ^ 16

/-- The question after `q` (R331). -/
def mswNext (q : Nat) : Nat := (q * 0x6255 + 0x3619) % 2 ^ 16

/-- Ticks since tick `t`, on the 32-bit count. -/
def State.since (s : State) (t : Nat) : Nat := (s.ticks + 2 ^ 32 - t % 2 ^ 32) % 2 ^ 32

/-- A valid service at this tick: the tick becomes s, and the settings written govern (R328, R333). -/
def State.mswServe (s : State) : State :=
  let s := (s.setReg MSW_LAST_TICK (BitVec.ofNat 32 s.ticks)).put MSW_STATUS_STATE 1
  { s with mile := { s.mile with running := true, openT := s.get MSW_OPEN_TICKS, closeT := s.get MSW_CLOSE_TICKS } }

/-- Grace begins at tick `t` for a cause (R330). -/
def State.mswGrace (s : State) (t cause : Nat) : State :=
  let s := (s.put MSW_STATUS_STATE 3).put MSW_STATUS_CAUSE cause
  { s with mile := { s.mile with graceFrom := t % 2 ^ 32, graceLen := s.get MSW_GRACE_TICKS } }

/-- The watchdog reset count increments in the backup domain (R330); MSW.RESETS is the same word. -/
def State.countWdog (s : State) : State :=
  let n := satCount 16 (s.get RST_WDOG_COUNT + 1)
  (s.put RST_WDOG_COUNT n).put MSW_RESETS_COUNT n

/-- Grace ends without a valid service (R330): FC 0, the watchdog reset count, the cause, RESET_N. -/
def State.mswEnd (s : State) : State :=
  let s := s.drive 0 { master := 0xFF, kind := 14 }
  let s := { s with mile := { s.mile with running := false } }
  s.countWdog.pullReset causeMilestone

/-- The window opens when it is due (R329). -/
def State.mswOpen (s : State) : State :=
  if s.mile.running && s.get MSW_STATUS_STATE = 1 && decide (s.mile.openT ≤ s.since (s.get MSW_LAST_TICK_VALUE))
  then (s.put MSW_STATUS_STATE 2).pulse 0 else s

/-- The window expires when it is due (R329). -/
def State.mswExpire (s : State) : State :=
  if s.mile.running && s.get MSW_STATUS_STATE = 2 && decide (s.mile.closeT ≤ s.since (s.get MSW_LAST_TICK_VALUE))
  then (s.mswGrace (s.get MSW_LAST_TICK_VALUE + s.mile.closeT) 1).pulse 1 else s

/-- Grace ends when it is due (R329, R330). -/
def State.mswGraceEnd (s : State) : State :=
  if s.mile.running && s.get MSW_STATUS_STATE = 3 && decide (s.mile.graceLen ≤ s.since s.mile.graceFrom) then s.mswEnd else s

/-- Every edge due at this tick, in order (R329). -/
def State.mswEdges (s : State) : State := s.mswOpen.mswExpire.mswGraceEnd

/-- Move on to `n` ticks after tick `t`, when that is still to come. -/
def State.untilTick (s : State) (t n : Nat) : State :=
  let d := n - s.since t
  let u := (s.up / 1000 + d) * 1000
  if d = 0 then s else { s.pass ((u - s.up) * 400 / s.sentryRate) with up := u }

/-- An invalid service of a token (R328). -/
def State.mswInvalid (s : State) (v : Word) : State :=
  let s := ((s.bump MSW_COUNTS_INVALID).setReg MSW_BAD_TICK (BitVec.ofNat 32 s.ticks)).setReg MSW_BAD_TOKEN v
  s.drive 1 { master := 0, kind := 3, addr := some MSW_TOKEN }

/-- A service judged at this tick (R328, R329); a narrow write carries a wrong token. -/
def State.mswService (s : State) (narrow : Bool) (v : Word) : State :=
  let s := s.mswEdges
  if !s.mile.running then s
  else
    let q := s.get MSW_QUESTION_Q
    let good := !narrow && v.toNat = mswToken q (s.reg MSW_KEY).toNat
    let next := s.put MSW_QUESTION_Q (mswNext q)
    match s.get MSW_STATUS_STATE with
    | 1 => s.mswInvalid v |>.mswGrace s.ticks 2
    | 2 => if good then next.mswServe else s.mswInvalid v |>.mswGrace s.ticks 3
    | 3 =>
      if good then (next.mswServe.bump MSW_COUNTS_LATE).drive 3 { master := 0, kind := 3, addr := some MSW_TOKEN }
      else s.mswInvalid v
    | _ => s

/-- A write to MSW.KEY: accepted once per power-on (R332). -/
def State.mswKey (s : State) (v : Word) : State :=
  if s.flag MSW_STATUS_KEY_SET then s else (s.setReg MSW_KEY v).put MSW_STATUS_KEY_SET 1

/-- A write to MSW.DISABLE (R334). -/
def State.mswDisable (s : State) (v : Word) : State :=
  let code := v.toNat % 2 ^ 16
  let drop := { s with mile := { s.mile with pair := none } }
  if code = 0x5EED then { s with mile := { s.mile with pair := some s.ticks } }
  else
    match s.mile.pair with
    | some t =>
      if code = 0xC0DE ∧ s.since t < 64 then
        if drop.flag MSW_CTRL_LOCK then drop.put MSW_STATUS_DIS_REFUSED 1
        else (({ drop with mile := { drop.mile with running := false } }).put MSW_STATUS_STATE 0).put MSW_CTRL_EN 0
      else drop
    | none => drop

/-- A write to MSW.CTRL (R334): LOCK is set by 1; 1 to EN while it is 0 restarts the Milestone. -/
def State.mswCtrl (s : State) (v : Word) : State :=
  let s := if v.getLsbD 1 then s.put MSW_CTRL_LOCK 1 else s
  if v.getLsbD 0 && !s.flag MSW_CTRL_EN then (s.put MSW_CTRL_EN 1).mswServe else s

/-- Whether window settings are permitted (R333). -/
def mswSettings (o c g : Nat) : Bool := decide (1 ≤ o ∧ o < c ∧ c ≤ 16777215 ∧ 1 ≤ g ∧ g ≤ 16777215)

/-- A write to MSW.OPEN, CLOSE or GRACE at offset `off` of the block (R333). -/
def State.mswSetting (s : State) (off : Nat) (v : Word) : State :=
  let n := v.toNat % 2 ^ 24
  let o := s.get MSW_OPEN_TICKS
  let c := s.get MSW_CLOSE_TICKS
  let g := s.get MSW_GRACE_TICKS
  let bad := s.put MSW_STATUS_CFG_ERR 1
  match off with
  | 0x8 => if mswSettings n c g then s.put MSW_OPEN_TICKS n else bad
  | 0xC => if mswSettings o n g then s.put MSW_CLOSE_TICKS n else bad
  | _ => if mswSettings o c n then s.put MSW_GRACE_TICKS n else bad

/-- A write to the MSW block (R326): only the supervisor triad at Roadbed; any other write is ignored and raises FC 2. -/
def State.mswWrite (s : State) (m lvl off : Nat) (narrow : Bool) (v : Word) : State :=
  if m ≠ 0 ∨ lvl < 2 then s.drive 2 { master := BitVec.ofNat 8 m, kind := 3, addr := some (MSW_CTRL + off) }
  else
    match off with
    | 0x00 => s.mswCtrl v
    | 0x04 =>
      let s := if v.getLsbD 10 then s.put MSW_STATUS_CFG_ERR 0 else s
      if v.getLsbD 9 then s.put MSW_STATUS_DIS_REFUSED 0 else s
    | 0x08 => s.mswSetting 0x8 v
    | 0x0C => s.mswSetting 0xC v
    | 0x10 => s.mswSetting 0x10 v
    | 0x18 => s.mswKey v
    | 0x1C => s.mswService narrow v
    | 0x20 => s.mswDisable v
    | 0x34 => s.setReg MSW_COUNTS v
    | _ => s

/-! ## The rows -/

def execMilestoneService (m : BitVec 8) (lvl : BitVec 2) (narrow : Bool) (v : Word) (s : State) :
    Host.Outcome State Fault Refusal := access s (s.mswWrite m.toNat lvl.toNat 0x1C narrow v)

def execMilestoneKeyWrite (m : BitVec 8) (lvl : BitVec 2) (v : Word) (s : State) : Host.Outcome State Fault Refusal :=
  access s (s.mswWrite m.toNat lvl.toNat 0x18 false v)

def execMilestoneDisableWrite (m : BitVec 8) (lvl : BitVec 2) (v : Word) (s : State) : Host.Outcome State Fault Refusal :=
  access s (s.mswWrite m.toNat lvl.toNat 0x20 false v)

def execMilestoneRestart (m : BitVec 8) (lvl : BitVec 2) (v : Word) (s : State) : Host.Outcome State Fault Refusal :=
  access s (s.mswWrite m.toNat lvl.toNat 0x00 false v)

def execMilestoneLockWrite (m : BitVec 8) (lvl : BitVec 2) (v : Word) (s : State) : Host.Outcome State Fault Refusal :=
  access s (s.mswWrite m.toNat lvl.toNat 0x00 false v)

/-- A write to one of the window settings at word offset 0x08, 0x0C or 0x10. -/
def execWindowSettingWrite (m : BitVec 8) (lvl : BitVec 2) (a : BitVec 22) (v : Word) (s : State) :
    Host.Outcome State Fault Refusal :=
  let off := a.toNat % 0x10000
  access s (if off = 0x8 ∨ off = 0xC ∨ off = 0x10 then s.mswWrite m.toNat lvl.toNat off false v else s)

/-- The window opens at s + OPEN (R329). -/
def execWindowOpen (s : State) : Host.Outcome State Fault Refusal :=
  occurs (s.mile.running && s.get MSW_STATUS_STATE = 1) s
    (s.untilTick (s.get MSW_LAST_TICK_VALUE) s.mile.openT).mswEdges

/-- The window expires at s + CLOSE (R329). -/
def execWindowExpiry (s : State) : Host.Outcome State Fault Refusal :=
  occurs (s.mile.running && (s.get MSW_STATUS_STATE = 1 || s.get MSW_STATUS_STATE = 2)) s
    (s.untilTick (s.get MSW_LAST_TICK_VALUE) s.mile.closeT).mswEdges

/-- Grace ends (R330). -/
def execGraceEnd (s : State) : Host.Outcome State Fault Refusal :=
  occurs (s.mile.running && s.get MSW_STATUS_STATE = 3) s (s.untilTick s.mile.graceFrom s.mile.graceLen).mswEdges

end Sys2Proof.Machine
end

