-- ==== Sys2Proof/Machine/Reset.lean ====
section
/-! DEFINITION. Machine/Reset.lean: resets, what each keeps, option loading, the SRAM fill, the boot ROM's slot choice, DRAM
training, the backup domain and the SENTRY power state (R342 to R361). -/
namespace Sys2Proof.Machine

/-! ## What a reset keeps (R346) -/

/-- The bits of a register a reset keeps: backup-domain words always; the rest of the table of R346 across a pin reset. -/
def keepMask (por : Bool) (a : Nat) : Word :=
  if RST_CAUSE ≤ a ∧ a ≤ RST_MARCH then 0xFFFFFFFF
  else if SEN_BKP_STATUS ≤ a ∧ a ≤ SEN_FIRST_TIME_HI then 0xFFFFFFFF
  else if a = MSW_RESETS then 0xFFFFFFFF
  else if a = DBG_STATUS then 0xFF00
  else if por then 0
  else if a = MSW_KEY then 0xFFFFFFFF
  else if a = MSW_STATUS then 0x100
  else if a = MSW_CTRL then 0x2
  else if TG_LOCK_BASE 0 ≤ a ∧ a < TG_LOCK_STATUS then 0xFFFFFFFF
  else if a = TG_LOCK_STATUS then 0xFF
  else if a = LDG_LOCK then 0x3
  else 0

/-- The registers a reset leaves. -/
def State.keptRegs (s : State) (mask : Nat → Word) : Sparse Word :=
  s.regs.foldl (fun r e => Sparse.set regReset r e.1 ((e.2 &&& mask e.1) ||| (regReset e.1 &&& ~~~ mask e.1))) []

/-- An option bit of word 0 (R350), as voted at the last option loading. -/
def State.option0 (s : State) (bit : Nat) : Bool := (s.reg (SEN_OPTION_LO 0)).getLsbD bit

/-- Whether an address is Ledger. -/
def isLedger (a : Nat) : Bool := decide (0x10000000 ≤ a ∧ a < 0x10800000)

/-- The device in reset (R343, R346): every domain but the always-on and backup domains at its reset values. A word write
to the Ledger that has started completes later; SRAM and DRAM keep their bytes until they are filled. -/
def State.intoReset (s : State) (mask : Nat → Word) (boot : Boot) (dram : Bool) : State :=
  { s with
    regs := s.keptRegs mask, cap := [], triads := [], tg := {}, fcu := {}, eng := {}, 
    memu := { ledger := s.memu.ledger, worn := s.memu.worn, logHead := s.memu.logHead, logKept := s.memu.logKept, logUnread := s.memu.logUnread },
    mem := s.mem.filter fun c => decide (c.1 < 0x60140000 ∨ 0x60142000 ≤ c.1)
    chans := [], mvrTurn := [], sov := {}, exp := {}, jct := {}, host := {}, net := {}, clk := {}, tdm := [], points := [], mile := {}, windows := []
    rwk := {}, gate := {}, boot := boot, dramKept := dram }

/-- Whether DRAM contents survive a pin reset or SENTRY (R262, R355): KEEP_DRAM is set, and the ranks hold contents. -/
def State.keepsDram (s : State) : Bool := s.option0 0 && (s.flag LPD_CONFIG_TRAINED || s.dramKept)

/-- A low pulse on RESET_N is accepted (R343, R344). `ext`: a board source holds the pin too. -/
def State.acceptReset (s : State) (ext : Bool) : State :=
  let causes := Nat.lor s.bkp.causes (if ext || !s.pulling then causeExt else 0)
  let s1 := s.intoReset (keepMask false) .held s.keepsDram
  let s1 := if s.keepsDram then s1.put LPD_STATUS_SELF_REFRESH 1 else s1
  { s1.setReg RST_CAUSE (BitVec.ofNat 32 causes) with bkp := { s1.bkp with causes := 0 } }

/-- `ext`: whether a board source pulls the pin. -/
def execResetAccept (ext : Bool) (s : State) : Host.Outcome State Fault Refusal :=
  occurs (s.boot != .held && (ext || s.pulling)) s (s.acceptReset ext)

/-- An internal requester releases the pin after its 10 µs (R342). -/
def execResetPullEnd (s : State) : Host.Outcome State Fault Refusal := occurs s.pulling s { s with pulling := false }

/-! ## The end of a reset (R344, R347, R359) -/

/-- The majority of the three copies of the reset counter; none when all differ (R347). -/
def Backup.counter (b : Backup) : Option Nat :=
  if b.c0 = b.c1 ∨ b.c0 = b.c2 then some b.c0 else if b.c1 = b.c2 then some b.c1 else none

/-- The reset counter increments (R347), and MSW.QUESTION takes its low bits (R331). -/
def State.countReset (s : State) : State :=
  let n := match s.bkp.counter with | some n => (n + 1) % 2 ^ 32 | none => 0
  let s := if s.bkp.counter.isNone then s.put SEN_BKP_STATUS_LOST 1 else s
  let s := { s with bkp := { s.bkp with c0 := n, c1 := n, c2 := n } }
  (s.setReg RST_COUNT (BitVec.ofNat 32 n)).put MSW_QUESTION_Q (n % 2 ^ 16)

/-- The pin has been high for 1 µs. `late`: it stayed low more than 1 µs after the last internal pull ended (R344). -/
def execResetEnd (late : Bool) (s : State) : Host.Outcome State Fault Refusal :=
  occurs (s.boot = .held && !s.pulling) s
    (let s := if late then s.put RST_CAUSE_EXT 1 else s
     let s := s.countReset
     let t := if s.bkp.stopped then 0 else s.get64 SEN_TIME_LO * 1000000000 / 32768
     let s := if s.bkp.stopped then s.put SEN_BKP_STATUS_TIME_VALID 0 else s
     { s with boot := .options, time := t, up := 0, eng := { s.eng with epochT := t } })

/-- VDD_AON falls below its threshold (R345, R346): POR alone, pending bits discarded, memories lost; backup words read
their initial values when VBKP lost them (R358). -/
def execPowerOnReset (s : State) : Host.Outcome State Fault Refusal :=
  let s1 := s.intoReset (keepMask true) .held false
  let s1 := { s1 with mem := s1.mem.filter fun c => isLedger c.1, werr := s1.werr.filter fun c => isLedger (8 * c.1),
                      pulling := false, jtag := {}, bkp := { s1.bkp with causes := 0 } }
  let s2 := if s1.bkp.valid then s1
    else
      let r := s1.regs.filter fun e => !(decide (SEN_BKP_STATUS ≤ e.1 ∧ e.1 ≤ SEN_FIRST_TIME_HI) ||
        decide (RST_CAUSE ≤ e.1 ∧ e.1 ≤ RST_MARCH) || e.1 = MSW_RESETS || e.1 = DBG_STATUS)
      ({ s1 with regs := r, bkp := { c0 := 0, c1 := 0, c2 := 0, stopped := s1.bkp.stopped } }).put SEN_BKP_STATUS_LOST 1
  done (s2.setReg RST_CAUSE (BitVec.ofNat 32 causePor))

/-! ## Option loading (R349) -/

/-- The three copies of option word `i`. -/
def State.optionCopies (s : State) (i : Nat) : Nat × Nat × Nat :=
  (s.le (0x10600000 + 8 * i) 8, s.le (0x10604000 + 8 * i) 8, s.le (0x10608000 + 8 * i) 8)

/-- The bitwise vote of three copies. -/
def vote3 (a b c : Nat) : Nat := Nat.lor (Nat.lor (Nat.land a b) (Nat.land a c)) (Nat.land b c)

/-- The voted option words, from word `i` for `n` words. -/
def State.loadOptions (s : State) : Nat → Nat → State
  | 0, _ => s
  | n + 1, i =>
    let (a, b, c) := s.optionCopies i
    (s.put64 (SEN_OPTION_LO i) (vote3 a b c)).loadOptions n (i + 1)

def State.optionsDiffer (s : State) : Bool :=
  (List.range 192).any fun i => let (a, b, c) := s.optionCopies i; a != b || a != c

def execOptionLoadComplete (s : State) : Host.Outcome State Fault Refusal :=
  occurs (s.boot = .options) s
    (let s1 := s.loadOptions 192 0
     let s1 := if s.optionsDiffer then s1.drive 11 else s1
     { s1 with boot := .fill })

/-! ## Repairs and the fill (R272, R351, R352) -/

/-- Key of a row-repair entry. -/
def repairKey (mem bank spare : Nat) : Nat := (mem * 128 + bank) * 4 + spare

/-- A bank of memory 0 to 9 is retired (R253). -/
def State.bankRetired (s : State) (mem bank : Nat) : Bool :=
  if mem < 9 then (s.reg (SPM_RETIRED mem)).toNat.testBit bank
  else (s.reg (DPT_RETIRED (bank / 32))).toNat.testBit (bank % 32)

/-- Mark a bank retired (R253). -/
def State.markRetired (s : State) (mem bank : Nat) : State :=
  if mem < 9 then s.setReg (SPM_RETIRED mem) (s.reg (SPM_RETIRED mem) ||| BitVec.ofNat 32 (2 ^ bank))
  else s.setReg (DPT_RETIRED (bank / 32)) (s.reg (DPT_RETIRED (bank / 32)) ||| BitVec.ofNat 32 (2 ^ (bank % 32)))

/-- The remap table's status follows its entries (R268, R269). -/
def State.remapStatus (s : State) : State :=
  let n := ((List.range 256).filter fun i => s.get (LPD_REMAP_STATE i) != 0).length
  (s.put LPD_REMAP_STATUS_USED n).put LPD_REMAP_STATUS_FULL (if n = 256 then 1 else 0)

/-- Apply one entry of the repair area (R272, R351). -/
def State.applyRepair (s : State) (w : Nat) : State :=
  let mem := w / 2 ^ 56 % 16
  let bank := w / 2 ^ 49 % 128
  match w / 2 ^ 60 % 16 with
  | 1 => s.onMemu fun m => { m with repair := Sparse.set (fun _ => {}) m.repair (repairKey mem bank (w / 2 ^ 37 % 4))
                                                { valid := true, row := w / 2 ^ 39 % 1024 } }
  | 2 => let i := w / 2 ^ 52 % 256
         (s.put (LPD_REMAP_STATE i) 2).put (LPD_REMAP_PAGE i) (w / 2 ^ 29 % 2 ^ 23)
  | 3 => (s.markRetired mem bank).put (bankPwr mem bank) 0
  | _ => s

/-- Whether copy `k` of the repair area passes its closing CRC-32C (R271). -/
def State.repairGood (s : State) (k : Nat) : Bool :=
  crc32c (s.bytes (0x10610000 + 0x8000 * k) (8 * 4095)) = BitVec.ofNat 32 (s.le (0x10610000 + 0x8000 * k + 8 * 4095) 4)

/-- Apply the first copy of the repair area that passes (R351 step 1). -/
def State.applyRepairs (s : State) : State :=
  let go (k : Nat) := ((List.range 4095).foldl
    (fun s' i => s'.applyRepair (s.le (0x10610000 + 0x8000 * k + 8 * i) 8)) s).remapStatus
  if s.repairGood 0 then go 0 else if s.repairGood 1 then go 1 else s

/-- Bytes the SRAM fill of R351 leaves as they are: the march shadow area while RST.MARCH.VALID = 1; everything that is no
SRAM. -/
def State.fillSpares (s : State) (a : Nat) : Bool :=
  !(decide (0x20000000 ≤ a ∧ a < 0x21800000) || decide (0x40000000 ≤ a ∧ a < 0x49000000)) ||
    (s.flag RST_MARCH_VALID && decide (0x217C0000 ≤ a ∧ a < 0x217C1040))

/-- SRAM filled with zero and valid check bits (R351 step 3). -/
def State.fillSram (s : State) : State :=
  { s with mem := s.mem.filter fun c => s.fillSpares c.1, werr := s.werr.filter fun c => s.fillSpares (8 * c.1) }

/-- The supervisor triad is released at PC 0 and the Milestone starts at the same tick (R103, R327, R352). -/
def State.releaseSupervisor (s : State) : State :=
  let s := (s.setTriad 0 { run := .running }).put MSW_CTRL_EN 1
  let s := s.mswServe
  if s.option0 4 then s.put MSW_CTRL_LOCK 1 else s

def execFillComplete (s : State) : Host.Outcome State Fault Refusal :=
  occurs (s.boot = .fill) s { s.applyRepairs.fillSram.releaseSupervisor with boot := .rom }

/-! ## The firmware slot (R275, R353, R354) -/

/-- Whether a slot still holds what it held as shipped (R484). -/
def State.slotShipped (s : State) (k : Nat) : Bool :=
  s.mem.all fun c => decide (c.1 < slotBase k ∨ slotBase k + 0x300000 ≤ c.1)

/-- SEQ of a slot. -/
def State.slotSeq (s : State) (k : Nat) : Nat := s.le (slotBase k + 0xC) 4

/-- Whether a slot is a candidate (R353 item 1). As shipped, slot A is (R484). -/
def State.slotCandidate (s : State) (k : Nat) : Bool :=
  let b := slotBase k
  let len := s.le (b + 0x10) 4
  decide (s.le b 4 = 0x4C535250 ∧ s.le (b + 4) 2 = 0x0100) &&
    ((k = 0 && s.slotShipped 0) || decide (len ≤ 0x300000 - 256 ∧ s.le (b + 0x14) 4 < len)) &&
    decide ((s.reg (SEN_OPTION_LO 1)).toNat ≤ s.slotSeq k)

/-- Whether a candidate passes its digest and signature (R353 item 3). -/
def State.slotPasses (s : State) (k : Nat) : Bool :=
  let b := slotBase k
  (k = 0 && s.slotShipped 0) ||
    (sha256 (s.bytes (b + 0x100) (s.le (b + 0x10) 4)) == s.bytes (b + 0x20) 32 &&
      Config.signatureGood (s.bytes (b + 0x40) 64) (s.bytes (b + 4) 60))

/-- The candidates in the order the boot ROM tries them (R353 item 2). -/
def State.slotOrder (s : State) : List Nat :=
  let o := if s.slotSeq 0 < s.slotSeq 1 ∧ s.slotCandidate 1 then [1, 0] else [0, 1]
  o.filter s.slotCandidate

/-- The boot ROM chooses a slot and enters it at Roadbed; FC 22 when it is not the first tried; recovery when none passes, where the host
reaches the mailboxes (R353, R354). -/
def State.selectSlot (s : State) : State :=
  match s.slotOrder.find? s.slotPasses with
  | some k =>
    let s := if s.slotOrder.head? = some k then s else s.drive 22
    let s := { s with boot := .firmware, booted := k }
    s.setPc 0 (BitVec.ofNat 64 (slotBase k + 0x100 + s.le (slotBase k + 0x14) 4))
  | none => { s.loadInbound [] with boot := .recovery }

def execBootSlotSelect (s : State) : Host.Outcome State Fault Refusal := occurs (s.boot = .rom) s s.selectSlot

/-! ## DRAM (R257, R259, R355, R356) -/

/-- The configurations of R257, as LPD.CONFIG.RAW and RANKS. -/
def dramConfig (raw ranks : Nat) : Bool :=
  (raw = 3 && ranks = 1) || (raw = 4 && (ranks = 1 || ranks = 2)) || (raw = 5 && ranks = 2)

/-- Physical address of data slot `t` of DRAM page `p` on sub-channel `sub` (R259). -/
def dramBlock (sub p t : Nat) : Nat := 0x1000000000 + 64 * ((p * 28 + t) * 8 + sub)

/-- The data blocks of the granule of pages p and p + 1, in raw order, with their offset in the granule (R266). -/
def granuleBlocks (sub p : Nat) : List (Nat × Nat) :=
  (List.range 56).map fun i => (i / 28 * 2048 + i % 28 * 64, dramBlock sub (p + i / 28) (i % 28))

/-- March shadow area: a 64-byte header with the record and the CRC-32C of the copy, then the 4 KiB (R266). -/
def shadowArea : Nat := 0x217C0000

/-- Whether the shadow header names the granule in RST.MARCH with a matching CRC-32C (R356). -/
def State.shadowGood (s : State) : Bool :=
  decide (s.le shadowArea 4 = (s.reg RST_MARCH).toNat) &&
    crc32c (s.bytes (shadowArea + 64) 4096) = BitVec.ofNat 32 (s.le (shadowArea + 4) 4)

/-- Write the interrupted granule back, or poison it (R356). -/
def State.restoreGranule (s : State) : State :=
  let bs := granuleBlocks (s.get RST_MARCH_SUBCH) (s.get RST_MARCH_PAGE)
  if s.shadowGood then
    bs.foldl (fun s b => s.setBytes b.2 (s.bytes (shadowArea + 64 + b.1) 64)) s
  else
    bs.foldl (fun s b => (List.range 8).foldl (fun s w => s.setErr (b.2 / 8 + w) .poisoned)
      (s.setBytes b.2 (List.replicate 64 0))) s

/-- Training ends (R355): DRAM is filled with zero, or kept, and the interrupted granule handled (R356). -/
def State.trainDram (s : State) (raw ranks : Nat) : State :=
  let keep := s.dramKept
  let s := (((s.put LPD_CONFIG_RAW raw).put LPD_CONFIG_RANKS ranks).put LPD_CONFIG_TRAINED 1).put LPD_CONFIG_KEPT
    (if keep then 1 else 0)
  let s := (if keep then s else s.fill 0x1000000000 0x800000000).put LPD_STATUS_SELF_REFRESH 0
  let s := { s with dramKept := false }
  if s.flag RST_MARCH_VALID then
    ((if keep then s.restoreGranule else s).setReg RST_MARCH 0).fill shadowArea 4160
  else s

def execDramTrainingComplete (raw : BitVec 4) (ranks : BitVec 2) (s : State) : Host.Outcome State Fault Refusal :=
  occurs (s.boot = .firmware && !s.flag LPD_CONFIG_TRAINED && dramConfig raw.toNat ranks.toNat) s
    (s.trainDram raw.toNat ranks.toNat)

/-! ## Requests and the SENTRY state (R342, R361, R367) -/

/-- A write of RST.REQ (R342). -/
def State.resetRequest (s : State) (m lvl : Nat) (v : Word) : State :=
  if m = 0 ∧ 2 ≤ lvl ∧ v.toNat % 2 ^ 16 = 0xB007 then s.pullReset causeProsal else s

def execResetRequest (m : BitVec 8) (lvl : BitVec 2) (v : Word) (s : State) : Host.Outcome State Fault Refusal :=
  access s (s.resetRequest m.toNat lvl.toNat v)

/-- What SENTRY keeps beside a pin reset's table: the always-on blocks PWR, MSW and FCU, and the voted options. -/
def keepSentry (a : Nat) : Word :=
  if (0x60020000 ≤ a ∧ a < 0x60050000) ∨ (0x60000000 ≤ a ∧ a < 0x60010000) then 0xFFFFFFFF else keepMask false a

/-- A write of PWR.CMD (R361): from STANDBY, the Milestone stops, DRAM is kept if set, the core domain goes off and the
outputs take the levels of R348. -/
def State.powerCommand (s : State) (m lvl : Nat) (v : Word) : State :=
  if m = 0 ∧ 2 ≤ lvl ∧ v.toNat % 2 ^ 16 = 0x5EE9 ∧ s.get PWR_STATE_STATE = 3 then
    let s1 := s.intoReset keepSentry .off s.keepsDram
    let s1 := if s.keepsDram then s1.put LPD_STATUS_SELF_REFRESH 1 else s1
    (((s1.put PWR_STATE_STATE 2).put FCU_STATUS_SAFE 1).put FCU_STATUS_ARMED 0)
  else s

def execEnterSentry (m : BitVec 8) (lvl : BitVec 2) (v : Word) (s : State) : Host.Outcome State Fault Refusal :=
  access s (s.powerCommand m.toNat lvl.toNat v)

/-- An edge on GPIO `k` enabled in PWR.WAKE, in the SENTRY state entered by PWR.CMD (R361). -/
def execSentryWake (k : Fin 16) (rising : Bool) (s : State) : Host.Outcome State Fault Refusal :=
  occurs (s.boot = .off && (s.reg PWR_WAKE).getLsbD k.val && (s.reg PWR_WAKE).getLsbD (16 + k.val) == rising) s
    (s.pullReset causeWake)

/-! ## Backup domain and monitors (R358, R359, R365, R457, R467) -/

/-- One period of XTAL32 (R358): event 4 when the count equals ALARM. -/
def execBackupTimeTick (s : State) : Host.Outcome State Fault Refusal :=
  occurs (!s.bkp.stopped) s
    (let s := s.put64 SEN_TIME_LO ((s.get64 SEN_TIME_LO + 1) % 2 ^ 48)
     if s.get64 SEN_TIME_LO = s.get64 SEN_ALARM_LO then s.pulse 4 else s)

/-- VBKP is applied: contents that were lost start at their initial values (R358, R360); the next power-on sets LOST. -/
def execBackupPowerApply (s : State) : Host.Outcome State Fault Refusal :=
  let s1 := (s.put SEN_BKP_STATUS_VBKP_LOW 0).holdFault 8 none
  done (if s1.bkp.valid then s1
        else { s1.put64 SEN_TIME_LO 0 with bkp := { s1.bkp with c0 := 0, c1 := 0, c2 := 0, causes := 0, fails := 0, lockUntil := 0 } })

/-- VBKP falls below its monitor threshold: FC 8, contents invalid (R358, R457). -/
def execVbkpFall (s : State) : Host.Outcome State Fault Refusal :=
  let s1 := (s.put SEN_BKP_STATUS_VBKP_LOW 1).holdFault 8 (some {})
  done { s1 with bkp := { s1.bkp with valid := false } }

/-- VDD_CORE leaves its monitor window for at least 1 µs: FC 7 (R457); no power-on reset (R345). -/
def execSupplyExcursion (s : State) : Host.Outcome State Fault Refusal := done (s.drive 7)

/-- The highest sensor exceeds the grade's maximum: FC 9, or FC 10 beyond 10 °C more (R467, R315). -/
def execTemperatureAlarm (above10 : Bool) (s : State) : Host.Outcome State Fault Refusal :=
  done (s.drive (if above10 then 10 else 9))

/-- REFCLK departs from the Sentry oscillator (FC 4), or the Sentry oscillator from REFCLK (FC 5) (R365). -/
def execClockMonitorFault (sentry : Bool) (s : State) : Host.Outcome State Fault Refusal :=
  done (s.drive (if sentry then 5 else 4))

/-- XTAL32 stops: FC 6, backup time invalid (R359). -/
def execXtal32Stop (s : State) : Host.Outcome State Fault Refusal :=
  let s1 := (s.drive 6).put SEN_BKP_STATUS_TIME_VALID 0
  done { s1 with bkp := { s1.bkp with stopped := true } }

end Sys2Proof.Machine
end

