-- ==== Sys2Proof/Machine/Image.lean ====
section
/-! DEFINITION. Machine/Image.lean: a graph image is judged and placed: placement (R53), Depot space (R481), and the load checks in their order (R25, R26, R51, R182, R192, R480, R482). -/
namespace Sys2Proof.Machine

/-! ## Placement (R53) -/

/-- Logical lanes of the partitions, in table order; a partition that finds none left free gets none. -/
def logicalLanes (parts : List Partition) : List (Option Nat) :=
  let named := parts.filterMap fun p => if p.laneSlot < 16 then some p.laneSlot else none
  (parts.foldl (fun (acc : List (Option Nat) × List Nat) p =>
    if p.laneSlot < 16 then (acc.1 ++ [some p.laneSlot], acc.2)
    else match (List.range 16).find? fun l => !acc.2.contains l with
      | some l => (acc.1 ++ [some l], acc.2 ++ [l])
      | none => (acc.1 ++ [none], acc.2)) ([], named)).1

/-- The physical lane a logical lane runs on: its own while that is in service, else a Layby lane in service that no other
partition of the image uses (R53). -/
def physFor (out used : List Nat) (l : Nat) : Option Nat :=
  if !out.contains l then some l
  else [16, 17].find? fun y => !out.contains y && !used.contains y

/-- The physical lanes of a list of logical lanes, the lower logical lane placed first; none where one finds no lane. -/
def placeLanes (out : List Nat) (ls : List Nat) : Sparse (Option Nat) :=
  ((List.range 16).filter ls.contains).foldl (fun m l =>
    m ++ [(l, physFor out (m.filterMap fun e => e.2) l)]) []

/-- The physical lane of logical lane `l` in a placement. -/
def physIn (m : Sparse (Option Nat)) (l : Nat) : Option Nat := (m.find? fun e => e.1 = l).bind fun e => e.2

/-- Footprint bytes an image puts on a cluster under a placement of its partitions' logical lanes (R64, SPM_SPACE). -/
def footprintOn (parts : List Partition) (phys : List (Option Nat)) (c : Nat) : Nat :=
  ((parts.zip phys).map fun x => if x.2.map (· / 2) = some c then x.1.footprint else 0).sum

/-! ## Depot space (R243, R481) -/

/-- Take away an interval (start, length) from a list of free intervals. -/
def cutFree (cut : Nat × Nat) : List (Nat × Nat) → List (Nat × Nat)
  | [] => []
  | (a, n) :: l =>
    let e := a + n
    let ce := cut.1 + cut.2
    if ce ≤ a ∨ e ≤ cut.1 then (a, n) :: cutFree cut l
    else ((if a < cut.1 then [(a, cut.1 - a)] else []) ++ (if ce < e then [(ce, e - ce)] else [])) ++ cutFree cut l

/-- The first answer of `f` among `i`, `i + 1`, …, `i + n − 1`. -/
def firstSome {α : Type} (f : Nat → Option α) : Nat → Nat → Option α
  | 0, _ => none
  | n + 1, i => match f i with
    | some x => some x
    | none => firstSome f n (i + 1)

/-- Depot offset of the `i`-th 32 bytes that Depot port 39 + j serves: four of its 12 banks, side by side in a row (R176, R241). -/
def portGranule (j i : Nat) : Nat :=
  let n := 12 * j + 4 * (i % 3)
  n / 16 * 2 ^ 22 + i / 3 * 128 + n % 16 * 8

/-- The first `k` of these 32 bytes that are free, from the `i`-th on. -/
def freeGranules (free : List (Nat × Nat)) (j : Nat) : Nat → Nat → Nat → List (Nat × Nat)
  | 0, _, _ => []
  | _, 0, _ => []
  | n + 1, k + 1, i =>
    let a := portGranule j i
    if free.any fun f => f.1 ≤ a && decide (a + 32 ≤ f.1 + f.2) then (a, 32) :: freeGranules free j n k (i + 1)
    else freeGranules free j n (k + 1) (i + 1)

/-- The rings of an image's Depot buffers, each in banks of its own port (R482): `need` is the 32 bytes each port's rings take. -/
def placeRings (need : List Nat) (free : List (Nat × Nat)) : Option (List (Nat × Nat)) :=
  let got := need.zipIdx.map fun x => freeGranules free x.2 98304 x.1 0
  if (need.zip got).all fun x => x.2.length = x.1 then some got.flatten else none

/-- Place allocations of `sizes` bytes at 64-byte boundaries of the free space, and the rings in what they leave: the first way that places
them all, none when there is none. Where Prosal places them is its own choice (R481); this order is the model's. -/
def packAll (need : List Nat) : List Nat → List (Nat × Nat) → Option (List (Nat × Nat))
  | [], free => placeRings need free
  | n :: l, free =>
    if n = 0 then (packAll need l free).map ((0, 0) :: ·)
    else free.findSome? fun f =>
      firstSome (fun i =>
        let a := up64 f.1 + 64 * i
        (packAll need l (cutFree (a, n) free)).map ((a, n) :: ·)) ((f.1 + f.2 + 64 - up64 f.1 - n) / 64) 0

/-- The allocations of an image in the free space, where they fit at all. -/
def packDepot (need sizes : List Nat) (free : List (Nat × Nat)) : Option (List (Nat × Nat)) :=
  if (free.map Prod.snd).sum < sizes.sum + 32 * need.sum then none else packAll need sizes free

/-- Depot offsets held by the running image, the jitter-buffer region, the firmware area and the sets out of allocation. -/
def State.depotHeld (s : State) : List (Nat × Nat) :=
  (match s.eng.running with
   | some im => (im.base - 0x20000000, im.length) :: im.allocs
   | none => []) ++
  (match s.eng.old with
   | some im => (im.base - 0x20000000, im.length) :: im.allocs
   | none => []) ++
  [(0x17C0000, 0x40000), (s.get NPE_JBUF_BASE * 0x10000, s.get NPE_JBUF_SIZE * 0x10000)] ++
  s.memu.depotSetsOut.map fun k => (k * 0x400000, 0x400000)

/-- The Depot space free for the allocations of a pending image whose copy is (off, len) (R481). -/
def State.depotFree (s : State) (own : Nat × Nat) : List (Nat × Nat) :=
  (own :: s.depotHeld).foldl (fun f c => if c.2 = 0 then f else cutFree c f) [(0, 0x1800000)]

/-- Depot buffers that a DEST_KIND 4 entry names. -/
def Image.buffers (im : Image) : List Nat :=
  (List.range 1024).filter fun b => im.routes.any fun r => r.kind = 4 && r.unit = b

/-- The sizes of an image's Depot allocations (R481): PLACE 1 sets, two mirror slots for each logical lane, a control record
for each exchange point. -/
def Image.allocSizes (im : Image) : List Nat :=
  (im.coefs.filterMap fun c => if c.place = 1 then some (up64 c.bytes) else none) ++
  ((List.range im.parts.length).map fun q => 2 * im.slotLen q) ++
  (im.points.map fun _ => 64)

/-- The 32 bytes that the rings of 2 × B samples of an image's Depot buffers take of each Depot port's banks (R481, R482). -/
def Image.ringNeed (im : Image) : List Nat :=
  (List.range 8).map fun j => (im.buffers.filter fun b => b % 8 = j).length * (blockSamples im.bsize / 4)

/-- The Depot allocations of an image whose copy is (off, len), where they fit. -/
def State.depotFit (s : State) (im : Image) (own : Nat × Nat) : Option (List (Nat × Nat)) :=
  packDepot im.ringNeed im.allocSizes (s.depotFree own)

/-! ## The load checks (R51, R480) -/

/-- A load result: code, SECTION, ENTRY (R480). -/
structure LoadFail where
  code : Nat
  sec : Nat := 0xFFFF
  ent : Nat := 0xFFFF
  deriving DecidableEq, Repr

/-- The first failure of a list of checks. -/
def firstFail : List (Option LoadFail) → Option LoadFail
  | [] => none
  | some f :: _ => some f
  | none :: l => firstFail l

/-- A check of the whole: it fails with `code` when `bad`. -/
def failIf (bad : Bool) (code : Nat) (sec : Nat := 0xFFFF) (ent : Nat := 0xFFFF) : Option LoadFail :=
  if bad then some ⟨code, sec, ent⟩ else none

/-- The first entry of a list that is bad fails the section `sec`. -/
def failFirst {α : Type} (l : List α) (bad : Nat → α → Bool) (code sec : Nat) : Option LoadFail :=
  (l.zipIdx.find? fun x => bad x.2 x.1).map fun x => ⟨code, sec, x.2⟩

/-- Directory index of a type, 0xFFFF when it is absent. -/
def Image.sec (im : Image) (ty : Nat) : Nat := match findSection im.sections ty with | some (k, _) => k | none => 0xFFFF

/-- Size of the section of a type. -/
def Image.secSize (im : Image) (ty : Nat) : Nat := match findSection im.sections ty with | some (_, x) => x.size | none => 0

/-- Header checks, codes 0x02 to 0x0B. `len` is the transferred size. -/
def State.checkHeader (s : State) (im : Image) (len : Nat) : Option LoadFail :=
  let b := im.base
  firstFail [
    failIf (decide (s.le b 4 ≠ 0x474E4C4D)) 0x02,
    failIf (decide (im.format / 256 ≠ 1)) 0x03,
    failIf (decide (im.length < 128 ∨ len < im.length ∨ 0x800000 < im.length ∨ im.length % 64 ≠ 0)) 0x04,
    failIf (decide ((crc32c (s.bytes b (im.length - 64))).toNat ≠ s.le (b + im.length - 64) 4)) 0x05,
    failIf (im.hmacKey = 0xFF && s.option0 2) 0x06,
    failIf (im.hmacKey ≠ 0xFF && (decide (3 < im.hmacKey) || s.le (0x10620020 + 32 * im.hmacKey) 32 = 0 ||
      hmac256 (s.bytes (0x10620020 + 32 * im.hmacKey) 32) (s.bytes b (im.length - 32)) ≠
        s.bytes (b + im.length - 32) 32)) 0x07,
    failIf (decide (im.device ≠ 0x7720)) 0x08,
    failIf (decide (s.le (slotBase s.booted + 8) 2 < im.minProsal)) 0x09,
    failIf (decide (im.rate < 1 ∨ 6 < im.rate ∨ 3 < im.bsize ∨ 1 < im.laybyIdle ∨ im.idleBlocks = 0 ∨ 1 < im.flags ∨
      im.resv ≠ 0)) 0x0A,
    failIf (decide (im.detClass = 0 ∨ im.tolerance < 1200)) 0x0B]

/-- Whether two sections overlap. -/
def Section.meets (a b : Section) : Bool :=
  decide (0 < a.size ∧ 0 < b.size ∧ a.offset < b.offset + b.size ∧ b.offset < a.offset + a.size)

/-- Directory checks, codes 0x0C to 0x0E (R43, R44). -/
def State.checkDirectory (s : State) (im : Image) : Option LoadFail :=
  firstFail [
    failIf (decide (im.sectionsN < 6 ∨ 8 < im.sectionsN)) 0x0C,
    failFirst im.sections (fun k x =>
      decide (x.offset % 64 ≠ 0 ∨ x.offset < 64 + 16 * im.sectionsN ∨ im.length - 64 < x.offset + x.size ∨
        x.type = 0 ∨ 8 < x.type) ||
      (im.sections.take k).any fun y => y.type = x.type || y.meets x) 0x0C 0xFFFF |>.map fun f => ⟨f.code, f.ent, 0xFFFF⟩,
    failIf ([1, 2, 3, 5, 7, 8].any fun ty => (findSection im.sections ty).isNone) 0x0D,
    failFirst im.sections (fun _ x => (crc32c (s.bytes (im.base + x.offset) x.size)).toNat ≠ x.crc) 0x0E 0xFFFF
      |>.map fun f => ⟨f.code, f.ent, 0xFFFF⟩]

/-- Partition table checks, codes 0x0F and 0x10 (R45). -/
def Image.checkPartitions (im : Image) : Option LoadFail :=
  let sec := im.sec 1
  let range (p : Partition) (k : Nat) : Bool := decide (p.firstTask ≤ k ∧ k < p.firstTask + p.tasks)
  firstFail [
    failIf (decide (im.secSize 1 ≠ 32 * im.partitionsN ∨ im.partitionsN = 0 ∨ 16 < im.partitionsN)) 0x0F sec,
    failFirst im.parts (fun q p =>
      decide (p.opPoint < 1 ∨ 3 < p.opPoint ∨ (16 ≤ p.laneSlot ∧ p.laneSlot ≠ 0xFF) ∨ p.tasks = 0 ∨ 256 < p.tasks ∨
        im.tasks.length < p.firstTask + p.tasks ∨ p.codeOffset % 64 ≠ 0 ∨ im.secSize 3 < p.codeOffset + p.codeSize) ||
      ((im.parts.take q).any fun o => decide (o.firstTask < p.firstTask + p.tasks ∧ p.firstTask < o.firstTask + o.tasks))) 0x0F sec,
    failFirst im.tasks (fun k t => !(im.parts.zipIdx.any fun p => range p.1 k && t.partition = p.2)) 0x0F (im.sec 2),
    failFirst im.parts (fun q p => decide (p.laneSlot < 16) && (im.parts.take q).any fun o => o.laneSlot = p.laneSlot)
      0x10 sec]

/-- The logical lanes of the image's partitions; 16 where one found none. -/
def Image.logicals (im : Image) : List Nat := (logicalLanes im.parts).map fun o => o.getD 16

/-- The physical lanes of the partitions under R53 with lanes `out` out of service. -/
def Image.physicals (im : Image) (out : List Nat) : List (Option Nat) :=
  let m := placeLanes out im.logicals
  im.logicals.map fun l => physIn m l

/-- One round over the partitions: each advances past the tasks whose waits are published. State: next task of each
partition, points published. -/
def advanceOnce (im : Image) (st : List Nat × List Nat) : List Nat × List Nat :=
  im.parts.zipIdx.foldl (fun (st : List Nat × List Nat) p =>
    let k := st.1.getD p.2 0
    if p.1.tasks ≤ k then st
    else match im.tasks[p.1.firstTask + k]? with
      | none => st
      | some t =>
        if t.waits = 0xFFFF ∨ st.2.contains t.waits then
          (st.1.set p.2 (k + 1), if t.publishes = 0xFFFF then st.2 else t.publishes :: st.2)
        else st) st

/-- Whether every task can run: the waits and the order of each partition's tasks form no cycle. -/
def Image.acyclic (im : Image) : Bool :=
  let fin := (List.range im.tasks.length).foldl (fun st _ => advanceOnce im st) (im.parts.map (fun _ => 0), [])
  (im.parts.zip fin.1).all fun x => x.1.tasks ≤ x.2

/-- Task table checks, code 0x12, and the bounds of R25, codes 0x13 and 0x14. Bounds compare 100 × ns × fs with
percent × B × 10^9. A cycle of waits fails the task section as a whole (DESIGN CHOICE: R480 names no entry for it). -/
def Image.checkTasks (im : Image) : Option LoadFail :=
  let sec := im.sec 2
  let per := blockSamples im.bsize * 1000000000
  let fs := rateHz im.rate
  let allow := if im.laybyIdle = 1 then 3000 else 22000
  firstFail [
    failIf (decide (im.secSize 2 % 32 ≠ 0)) 0x12 sec,
    failFirst im.tasks (fun k t =>
      let p := im.parts.getD t.partition ⟨0, 0, 0, 0, 0, 0, 0, 0, 0, 0, 0⟩
      decide (p.wNs < t.sNs + t.dNs ∨ t.waymarks = 0 ∨ t.entry % 4 ≠ 0 ∨ p.codeSize ≤ t.entry ∨ t.resv ≠ 0 ∨
        (1023 < t.waits ∧ t.waits ≠ 0xFFFF) ∨ (1023 < t.publishes ∧ t.publishes ≠ 0xFFFF)) ||
      (t.waits ≠ 0xFFFF && !(im.tasks.any fun o => o.publishes = t.waits)) ||
      (t.publishes ≠ 0xFFFF && (im.tasks.take k).any fun o => o.publishes = t.publishes)) 0x12 sec,
    failIf (!im.acyclic) 0x12 sec,
    failFirst im.parts (fun _ p => decide (55 * per < 100 * p.wNs * fs)) 0x13 (im.sec 1),
    failFirst im.tasks (fun _ t => decide (45 * per < 100 * (t.dNs + allow) * fs)) 0x14 sec]

/-- Whether `n` bytes at `a` lie in data memory, outside retired pages, and can be read (R258, R269, R355). -/
def State.dramPlace (s : State) (a n : Nat) : Bool :=
  s.flag LPD_CONFIG_TRAINED && decide (0x1000000000 ≤ a ∧ a + n ≤ dramEnd (s.get LPD_CONFIG_RAW)) &&
    !((List.range 256).any fun i => s.get (LPD_REMAP_STATE i) ≠ 0 &&
        decide (a < 0x1000000000 + 4096 * (s.get (LPD_REMAP_PAGE i) + 1) ∧
                0x1000000000 + 4096 * s.get (LPD_REMAP_PAGE i) < a + n))

/-- Coefficient checks, code 0x17 (R47). -/
def State.checkCoefs (s : State) (im : Image) : Option LoadFail :=
  let sec := im.sec 4
  let last := match findSection im.sections 4 with | some (_, x) => x.offset + x.size | none => 0
  failFirst im.coefs (fun k c =>
    decide (3 < c.type ∨ 3 < c.place ∨ last < c.off + c.recLen ∨ c.resv ≠ 0 ∨
      (c.partition ≠ 0xFFFF ∧ im.parts.length ≤ c.partition) ∨ (c.partition = 0xFFFF ∧ c.place = 0) ∨
      (c.dramAddr ≠ 0 ∧ c.place < 2)) ||
    ((im.coefs.take k).any fun o => o.setId = c.setId) ||
    (2 ≤ c.place && !s.dramPlace c.dramAddr c.bytes) ||
    (crc32c (s.bytes (if c.place = 3 then c.dramAddr else im.base + c.off + 32) c.bytes)).toNat ≠ c.crc) 0x17 sec

/-! ## Routing (R180 to R182, R482) -/

/-- Rate family of a rate code: 1 for 44.1 kHz, 2 for 48 kHz. -/
def family (code : Nat) : Nat := if code = 1 ∨ code = 3 ∨ code = 5 then 1 else if code = 0 ∨ 7 < code then 0 else 2

/-- Whether slot `i` of TDM port `t` exists under the TDM.FORMAT in force. -/
def State.tdmSlot (s : State) (t i : Nat) : Bool :=
  decide (t < 16) && s.flag (TDM_FORMAT_ENABLE t) && decide (i ≤ s.get (TDM_FORMAT_SLOTS t))

/-- Rate code of a stream's FORMAT (R424). -/
def fmtRate (f : Nat) : Nat := f / 2 % 8

/-- The receive stream that holds network receive channel `c`. -/
def State.rxHolding (s : State) (c : Nat) : Option (Nat × RxStream) :=
  s.net.rx.find? fun e => decide (e.2.firstCh ≤ c ∧ c < e.2.firstCh + e.2.channels)

/-- Rate code of a routing point for an image (R180, R181); none when the source does not exist. -/
def State.sourceRate (s : State) (im : Image) (p : Nat) : Option Nat :=
  if p < 0x4000 then (s.rxHolding p).map fun e => fmtRate e.2.format
  else if p < 0x4200 then
    if s.tdmSlot ((p - 0x4000) / 32) (p % 32) then some (s.get (TDM_FORMAT_RATE ((p - 0x4000) / 32))) else none
  else if p < 0x4280 then (im.express.find? fun x => x.channel = (p - 0x4200) / 2).map (·.rate)
  else if p = 0x4300 then some im.rate
  else if 0x4400 ≤ p ∧ p < 0x4800 then if im.buffers.contains (p - 0x4400) then some im.rate else none
  else if 0x8000 ≤ p ∧ p < 0x10000 then if (p - 0x8000) / 2048 < im.parts.length then some im.rate else none
  else none

/-- Rate code of a destination; none when it does not exist. -/
def State.destRate (s : State) (im : Image) (r : Route) : Option Nat :=
  match r.kind with
  | 0 => if r.unit < im.parts.length ∧ r.index < 2048 then some im.rate else none
  | 1 => if s.tdmSlot r.unit r.index then some (s.get (TDM_FORMAT_RATE r.unit)) else none
  | 2 => (s.net.tx.find? fun e => e.1 = r.unit).bind fun e =>
      if r.index < e.2.channels then some (fmtRate e.2.format) else none
  | 3 => (im.express.find? fun x => x.channel = r.unit).bind fun x => if r.index < 2 then some x.rate else none
  | 4 => if r.unit < 1024 then some im.rate else none
  | _ => none

/-- Producer port of a source (R176). The physical lane of partition q is `phys q`. -/
def State.sourcePort (s : State) (phys : Nat → Nat) (p : Nat) : Nat :=
  if p < 0x4000 then 27 + (match s.rxHolding p with | some e => e.2.ports | none => 0)
  else if p < 0x4200 then 35 + (p - 0x4000) / 128
  else if p < 0x4280 then 18 + s.get (EXP_MAP_BLOCK ((p - 0x4200) / 2))
  else if p = 0x4300 then 47
  else if p < 0x4800 then 39 + (p - 0x4400) % 8
  else phys ((p - 0x8000) / 2048)

/-- Consumer port of a destination (R176). -/
def State.destPort (s : State) (phys : Nat → Nat) (r : Route) : Nat :=
  match r.kind with
  | 0 => phys r.unit
  | 1 => 35 + r.unit / 4
  | 2 => 31 + (match s.net.tx.find? fun e => e.1 = r.unit with | some e => e.2.ports | none => 0)
  | 3 => 18 + s.get (EXP_MAP_BLOCK r.unit)
  | _ => 39 + r.unit % 8

/-- Samples a route of rate `r` moves in the fullest frame of the processing rate `pr` (R482): one at a lower rate. -/
def perFrame (r pr : Nat) : Nat := max 1 (rateHz r / rateHz pr)

/-- Junction cycles per frame of port `k`, both directions: each producer and consumer pair packs its samples two to a word (R482). -/
def State.portWords (s : State) (im : Image) (phys : Nat → Nat) (k : Nat) : Nat :=
  let rs := im.routes.filterMap fun r =>
    (s.sourceRate im r.source).map fun c => (s.sourcePort phys r.source, s.destPort phys r, perFrame c im.rate)
  let mine := rs.filter fun x => x.1 = k || x.2.1 = k
  let pairs := mine.foldl (fun (l : List (Nat × Nat)) x => if l.contains (x.1, x.2.1) then l else l ++ [(x.1, x.2.1)]) []
  -- a word within one port holds it for two cycles
  (pairs.map fun pq => (if pq.1 = pq.2 then 2 else 1) *
    ((((mine.filter fun x => x.1 = pq.1 && x.2.1 = pq.2).map fun x => x.2.2).sum + 1) / 2)).sum

/-- JCT.PORT_LOAD of port `k` in units of 0.1 %, rounded up (R482). -/
def State.portLoad (s : State) (im : Image) (phys : Nat → Nat) (k : Nat) : Nat :=
  let cycles := 250000000 / rateHz im.rate
  (s.portWords im phys k * 1000 + cycles - 1) / cycles

/-- Whether an entry's source, or its destination, is an express channel without a program, which the EXPRESS check reports (R192). -/
def Image.noSource (im : Image) (r : Route) : Bool :=
  decide (0x4200 ≤ r.source ∧ r.source < 0x4280) && !(im.express.any fun x => x.channel = (r.source - 0x4200) / 2)

def Image.noDest (im : Image) (r : Route) : Bool :=
  r.kind = 3 && decide (r.unit < 64 ∧ r.index < 2) && !(im.express.any fun x => x.channel = r.unit)

def Image.noProgram (im : Image) (r : Route) : Bool := im.noSource r || im.noDest r

/-- Whether two routes name the same destination: a Depot buffer is one, whatever its DEST_INDEX. -/
def Route.sameDest (o r : Route) : Bool := o.kind = r.kind && o.unit = r.unit && (o.index = r.index || r.kind = 4)

/-- Whether a routing entry breaks R182; a missing express program is the EXPRESS check's. -/
def State.routeBad (s : State) (im : Image) (k : Nat) (r : Route) : Bool :=
  let src := s.sourceRate im r.source
  let dst := s.destRate im r
  let odd (c : Option Nat) : Bool := match c with | some c => family c ≠ family im.rate | none => false
  decide (r.resv ≠ 0 ∨ 4 < r.kind) || odd src || odd dst ||
  (src.isNone && !im.noSource r) || (dst.isNone && !im.noDest r) ||
  (r.kind = 3 && (decide (0x4200 ≤ r.source ∧ r.source < 0x4280) ||
    (match src, dst with | some a, some b => a ≠ b | _, _ => false))) ||
  ((im.routes.take k).any fun o => o.sameDest r)

/-- The ROUTING check, code 0x18 (R182). -/
def State.checkRouting (s : State) (im : Image) : Option LoadFail :=
  let sec := im.sec 5
  let ph := im.physicals s.eng.outOfService
  let phys (q : Nat) : Nat := (ph.getD q none).getD 0
  firstFail [
    failIf (decide (im.secSize 5 % 16 ≠ 0)) 0x18 sec,
    failFirst im.routes (fun k r => s.routeBad im k r) 0x18 sec,
    failIf ((List.range 48).any fun k => decide (900 < s.portLoad im phys k)) 0x18 sec]

/-- The EXPRESS check, code 0x19 (R192). -/
def State.checkExpress (s : State) (im : Image) : Option LoadFail :=
  match findSection im.sections 6 with
  | none => failFirst im.routes (fun _ r => im.noProgram r) 0x19 (im.sec 5)
  | some (k, x) =>
    let a := im.base + x.offset
    let n := s.le a 2
    let pids (p : ExpProg) : List Nat := [p.pidA, p.pidB, p.pidT].filter (· ≠ 0)
    firstFail [
      failIf (decide (n < 1 ∨ 64 < n ∨ x.size < 64 ∨ s.le (a + 2) 62 ≠ 0)) 0x19 k,
      failFirst im.express (fun i p =>
        decide (63 < p.channel ∨ family p.rate ≠ family im.rate ∨ 32 < p.stagesA + p.stagesB ∨ 3 < p.flags ∨ p.resv ≠ 0 ∨
          2 ^ 31 ≤ p.thresh.toNat ∨ 2 ^ 31 ≤ p.att.toNat ∨ 2 ^ 31 ≤ p.rel.toNat) ||
        ((im.express.take i).any fun o => o.channel = p.channel) ||
        ((pids p).zipIdx.any fun y => ((pids p).take y.2).contains y.1 || (im.params.any fun q => q.id = y.1) ||
          (im.express.take i).any fun o => (pids o).contains y.1)) 0x19 k,
      failIf (decide (im.express.length ≠ n)) 0x19 k im.express.length,
      failFirst im.routes (fun _ r => im.noProgram r) 0x19 (im.sec 5)]

/-- The PARAMETERS check, code 0x1A (R49, R44). -/
def Image.checkParams (im : Image) : Option LoadFail :=
  let sec := im.sec 7
  firstFail [
    failIf (decide (im.secSize 7 % 16 ≠ 0)) 0x1A sec,
    failFirst im.params (fun k p =>
      decide (p.id = 0 ∨ im.parts.length ≤ p.partition ∨ 3 < p.type ∨ 2 < p.ramp ∨ 4096 < p.dfltRamp ∨ p.resv ≠ 0) ||
      (im.params.take k).any fun o => o.id = p.id) 0x1A sec,
    failFirst im.parts (fun q p => p.suspendParam ≠ 0xFFFF &&
      (match im.params[p.suspendParam]? with | some x => x.partition ≠ q | none => true)) 0x1A (im.sec 1),
    failIf (decide (im.secSize 8 ≠
      ((List.range im.parts.length).map fun q =>
        (match im.parts[q]? with | some p => p.stateSize | none => 0) + (im.paramArea q).2).sum)) 0x1A (im.sec 8)]

/-- Space, codes 0x15 and 0x16 (R53, R481). Footprints fail the partition section as a whole, Depot space no section (DESIGN CHOICE: R480
names no place for either). -/
def State.checkSpace (s : State) (im : Image) : Option LoadFail :=
  let ph := im.physicals s.eng.outOfService
  firstFail [
    failIf ((List.range 9).any fun c => decide (0x400000 < footprintOn im.parts ph c)) 0x15 (im.sec 1),
    failIf (s.depotFit im (im.base - 0x20000000, im.length)).isNone 0x16]

/-- The load checks of R51 in the order of its table, on the image at Depot offset `off` of `len` transferred bytes: the first
failure, or the image with its logical lanes and Depot allocations. BUSY is Prosal's first answer. -/
def State.checkImage (s : State) (off len : Nat) : Except LoadFail Image :=
  let im := s.readImage (0x20000000 + off)
  match firstFail [
    failIf (s.eng.pending.isSome || s.eng.switch.isSome) 0x01,
    s.checkHeader im len] with
  | some f => .error f
  | none =>
    match firstFail [
      s.checkDirectory im,
      im.checkPartitions,
      failFirst (im.physicals s.eng.outOfService) (fun _ o => o.isNone) 0x11 (im.sec 1),
      im.checkTasks,
      s.checkSpace im,
      s.checkCoefs im,
      s.checkRouting im,
      s.checkExpress im,
      im.checkParams] with
    | some f => .error f
    | none => .ok { im with
        lanes := im.logicals
        allocs := (s.depotFit im (off, im.length)).getD [] }

/-! ## Coefficients in the image -/

/-- Depot offset of slot 0 of partition `q`'s mirror (R172): its place among the allocations. -/
def Image.mirrorOff (im : Image) (q : Nat) : Nat :=
  let n := (im.coefs.filter fun c => c.place = 1).length
  ((im.allocs.getD (n + q) (0, 0)).1)

/-- Copy the PLACE 1 coefficient sets to their Depot allocations (R47, R481), at the load (DESIGN CHOICE: the spec names no instant). -/
def State.placeCoefs (s : State) (im : Image) : State :=
  let ones := im.coefs.filter fun c => c.place = 1
  (ones.zip im.allocs).foldl (fun s x =>
    s.setBytes (0x20000000 + x.2.1) (s.bytes (im.base + x.1.off + 32) x.1.bytes)) s

/-- Copy the PLACE 2 sets to DRAM (R47). -/
def State.placeDram (s : State) (im : Image) : State :=
  (im.coefs.filter fun c => c.place = 2).foldl (fun s c =>
    s.setBytes c.dramAddr (s.bytes (im.base + c.off + 32) c.bytes)) s

/-! ## The host memory window (R419) -/

/-- Base of the memory window. -/
def State.windowBase (s : State) : Nat := s.get MBX_WINDOW_HI_BASE * 2 ^ 32 + s.get MBX_WINDOW_LO_BASE * 2 ^ 16

/-- The bytes of Depot that hold an image: its copy and its allocations (R481). -/
def Image.held (im : Image) : List (Nat × Nat) := (im.base - 0x20000000, im.length) :: im.allocs

/-- The areas of Depot, as 256-byte units, that the window's rules keep from writes: the running image, a pending image, mirror slots and
jitter buffers. -/
def State.windowKept (s : State) : List (Nat × Nat) :=
  let l := (match s.eng.running with | some im => im.held | none => []) ++ (match s.eng.old with | some im => im.held | none => []) ++ (match s.eng.pending with | some im => im.held | none => []) ++
    [(s.get NPE_JBUF_BASE * 0x10000, s.get NPE_JBUF_SIZE * 0x10000)]
  ((l.filter fun x => x.2 ≠ 0).map fun x => (0x200000 + x.1 / 256, 0x200000 + (x.1 + x.2 - 1) / 256)).insertionSort fun a b => a.1 ≤ b.1

/-- One memory slot at Carriageway over a range of units: R, and W with `w`. -/
def windowSlot (a b : Nat) (w : Bool) : MSlot :=
  { base := BitVec.ofNat 32 a, limit := BitVec.ofNat 32 b, valid := true, shadow := false, perm := if w then 0x18 else 0x08 }

/-- The units from `cur` to `hi`, in ranges that may be written and ranges that may not. -/
def windowParts (hi : Nat) : Nat → List (Nat × Nat) → List (Nat × Nat × Bool)
  | cur, [] => if cur ≤ hi then [(cur, hi, true)] else []
  | cur, (a, b) :: l =>
    if b < cur ∨ hi < a then windowParts hi cur l
    else (if cur < a then [(cur, a - 1, true)] else []) ++ (max cur a, min hi b, false) :: windowParts hi (min hi b + 1) l

/-- The memory slots of the window: none over the firmware area; 16 at most, so what a sixteenth would still divide is granted R alone. -/
def State.windowSlots (s : State) : List MSlot :=
  let lo := s.windowBase / 256
  let hi := min ((s.windowBase + 0x7FFFFF) / 256) (if lo < 0x218000 then 0x217BFF else 0xFFFFFFFF)
  if !s.flag MBX_WINDOW_LO_WRITE then [windowSlot lo hi false]
  else
    let l := windowParts hi lo s.windowKept
    (if l.length ≤ 16 then l else l.take 15 ++ [((l.drop 15).headD (hi, hi, false) |>.1, hi, false)]).map fun x => windowSlot x.1 x.2.1 x.2.2

/-- Prosal keeps the rules of a window that grants W as the areas it must keep from writes change (R419). -/
def State.keepWindow (s : State) : State :=
  if s.flag MBX_WINDOW_LO_WRITE && s.flag MBX_CTRL_PROSAL_UP then s.loadInbound s.windowSlots else s

end Sys2Proof.Machine
end

