-- ==== Sys2Proof/Machine/Link.lean ====
section
/-! DEFINITION. Machine/Link.lean: frames sent over the Sorov link and the roles of a twin, as the rest of the engine uses them
(R372 to R378, R381). -/
namespace Sys2Proof.Machine

/-- Change the twin state. -/
def State.onSov (s : State) (f : Sov → Sov) : State := { s with sov := f s.sov }

/-- A frame of a type is sent (R372, R373): the model keeps the last of each type, with its SEQ, BLOCK and body. A critical
type goes out twice, with one SEQ. -/
def State.sovSend (s : State) (ty block : Nat) (body : List Byte) : State :=
  s.onSov fun v =>
    let q := Sparse.get (fun _ => 0) v.seqTx ty
    { v with seqTx := Sparse.set (fun _ => 0) v.seqTx ty ((q + 1) % 2 ^ 32), sent := Sparse.put v.sent ty ⟨q, block, body⟩ }

/-- A CMD frame (R377); BLOCK is the current block. -/
def State.sendCmd (s : State) (op status tag arg0 arg1 : Nat) : State :=
  s.sovSend 5 (s.get64 BSQ_BLOCK_LO)
    (leBytes 2 op ++ leBytes 2 status ++ leBytes 4 tag ++ leBytes 8 arg0 ++ leBytes 8 arg1 ++ leBytes 8 0)

/-- SYNC body (R374). -/
def syncBody (r : SyncRec) : List Byte :=
  leBytes 2 r.lanes ++ leBytes 2 r.uncommitted ++ leBytes 1 r.flags ++ [0, 0, 0] ++ leBytes 8 r.boundary ++
    leBytes 4 r.paramApplied ++ leBytes 4 r.expressCrc.toNat ++ (r.outCrc.flatMap fun w => leBytes 4 w.toNat) ++
    (r.stateCrc.flatMap fun w => leBytes 4 w.toNat)

/-- PARAM body with one record (R375): the base block is the current one. -/
def State.sendParam (s : State) (u : Update) : State :=
  let n := s.get64 BSQ_BLOCK_LO
  let body := leBytes 4 u.pseq ++ leBytes 2 1 ++ [0, 0] ++ leBytes 4 u.id ++ leBytes 4 u.value.toNat ++
    leBytes 4 (u.block - n) ++ leBytes 2 (u.ramp.getD 0xFFFF) ++ leBytes 2 (if u.host then 1 else 0)
  (s.sovSend 3 n body).onSov fun v => { v with unacked := v.unacked.filter (fun e => e.2.pseq ≠ u.pseq) ++ [(s.time, u)] }

/-! ## Versions (R373, R378) -/

/-- LINK_PROTO of the firmware that runs (R275). -/
def State.linkProto (s : State) : Nat := s.le (slotBase s.booted + 10) 2

/-- Prosal's version (R275). -/
def State.prosalVersion (s : State) : Nat := s.le (slotBase s.booted + 8) 2

/-- Whether Prosal serves requests. -/
def State.prosalUp (s : State) : Bool := s.flag MBX_CTRL_PROSAL_UP

/-- DET_CLASS of the running image; 0 when none runs. -/
def State.ownClass (s : State) : Nat := match s.eng.running with | some im => im.detClass | none => 0

/-- The device drives outputs: OUTPUTS of its VERSION frame. -/
def State.drivesOutputs (s : State) : Bool :=
  !s.flag FCU_STATUS_SAFE && (s.get SOV_STATUS_ROLE = 2 || (s.get SOV_STATUS_ROLE < 2 && s.eng.running.isSome))

/-- The fields of the VERSION frame (R378). -/
def State.versionBody (s : State) : List Byte :=
  let (id, tol) := match s.eng.running with | some im => (im.imageId, im.tolerance) | none => (0, 0)
  let flags := (if s.drivesOutputs then 1 else 0) + 2 * s.get SOV_CTRL_PREFER_PRIMARY + 4 * s.get MCK_STATUS_SOURCE
  leBytes 2 s.linkProto ++ leBytes 2 s.prosalVersion ++ leBytes 4 s.ownClass ++ leBytes 8 id ++
    leBytes 8 Config.serial.toNat ++ leBytes 2 tol ++ leBytes 1 (s.get BSQ_CONFIG_RATE) ++ leBytes 1 (s.get BSQ_CONFIG_BSIZE) ++
    leBytes 1 flags ++ List.replicate 19 0

/-- A VERSION frame is sent (R373, R378). -/
def State.sendVersion (s : State) : State :=
  s.sovSend 6 (if s.eng.running.isSome then s.get64 BSQ_BLOCK_LO else 0) s.versionBody

/-- After a change of its fields a VERSION frame goes out, while the link negotiates or is UP (R373). -/
def State.tellVersion (s : State) : State :=
  if s.get SOV_STATUS_LINK = 1 ∨ s.get SOV_STATUS_LINK = 2 then
    match s.sov.sent.find? fun e => e.1 = 6 with
    | some e => if e.2.body = s.versionBody then s else s.sendVersion
    | none => s.sendVersion
  else s

/-! ## Roles (R381) -/

/-- The partner is STANDBY_HOT or STANDBY_WARM. -/
def State.peerStandsBy (s : State) : Bool := s.sov.peerRole = 4 || s.sov.peerRole = 5

/-- The determinism classes of the twins differ. -/
def State.classesDiffer (s : State) : Bool := s.flag SOV_STATUS_CLASS_DIFF

/-- The standby role for the classes as they are (R397). -/
def State.standbyRole (s : State) : Nat := if s.classesDiffer then 5 else 4

/-- Prosal sets SEV of the express block channels to 6 while the device is paired, and to 5 otherwise (R195, R315). -/
def State.expressSeverity (s : State) (sev : Nat) : State :=
  (List.range 9).foldl (fun s b => s.put (FCU_CH_CFG_SEV (185 + b)) sev) s

/-- The device takes a role (R381): host vector 25; JOINING sends JOIN_REQ over an UP link (R393). -/
def State.setRole (s : State) (r : Nat) : State :=
  let old := s.get SOV_STATUS_ROLE
  if old = r then s
  else
    let s := ((s.put SOV_STATUS_ROLE r).put NPE_XTWIN_ROLE (if 3 ≤ r then 1 else 0)).irq 25
    let s := if 2 ≤ r ∧ old < 2 then s.expressSeverity 6 else if r < 2 ∧ 2 ≤ old then s.expressSeverity 5 else s
    let s := s.put SOV_STATUS_COMPARE (if r = 4 then 1 else 0)
    let s := s.onSov fun v => { v with
      primarySince := if r = 2 then s.get64 BSQ_BLOCK_LO else 0
      join := none, snapOpen := false, joinLog := [], snapRead := [], expressAt := none, recorded := 0
      choiceBy := none, keepsBlue := false, syncGood := if r = 3 then false else v.syncGood }
    let s := (s.put SOV_JOIN_PHASE 0).put SOV_JOIN_BACKLOG 0
    (if r = 3 ∧ s.get SOV_STATUS_LINK = 2 then s.sendCmd 5 0 0 0 0 else s).tellVersion

/-- CLASS_DIFF follows the class of the running image and the partner's (R219, R385): a standby whose classes come to differ is WARM, and one
whose classes come to agree joins again, since a warm standby's state is not bit-exact. -/
def State.classNow (s : State) : State :=
  match s.sov.peer with
  | none => s
  | some p =>
    let was := s.classesDiffer
    let now := decide (p.cls ≠ s.ownClass)
    let s := s.put SOV_STATUS_CLASS_DIFF (if now then 1 else 0)
    if now && !was && s.get SOV_STATUS_ROLE = 4 then s.setRole 5
    else if was && !now && s.get SOV_STATUS_ROLE = 5 then s.setRole 3
    else s

/-- Loss of lockstep (R383, R387): a standby passes to JOINING. -/
def State.loseLockstep (s : State) : State :=
  if s.get SOV_STATUS_ROLE = 4 || s.get SOV_STATUS_ROLE = 5 then s.setRole 3 else s

/-- A joining standby that records blocks and has not caught up (R393). -/
def State.catching (s : State) : Bool :=
  s.get SOV_STATUS_ROLE = 3 && s.sov.join.isSome && s.sov.expressAt.isNone

end Sys2Proof.Machine
end

