-- ==== Sys2Proof/Machine/Fp.lean ====
section
/-! DEFINITION. Machine/Fp.lean: IEEE 754 binary32 arithmetic with one rounding, as R130 lays it down: operands become
exact values ±m × 2 ^ e, the result is computed exactly and rounded once. -/
namespace Sys2Proof.Machine

/-- The value of an FP32 operand: NaN (signalling or not), infinity, or ±m × 2 ^ e. -/
inductive FpVal where
  | nan (signalling : Bool)
  | inf (neg : Bool)
  | fin (neg : Bool) (m : Nat) (e : Int)
  deriving DecidableEq, Repr

/-- FRM and FTZ of the configuration in force. -/
structure FpCfg where
  frm : Nat := 0
  ftz : Bool := false
  deriving DecidableEq, Repr

/-- The canonical NaN (R130). -/
def qNan : Nat := 0x7FC00000

def fpSign (x : Nat) : Bool := x / 2 ^ 31 % 2 = 1

/-- Decode an operand; FTZ replaces a subnormal by zero of its sign. -/
def fpDecode (ftz : Bool) (x : Nat) : FpVal :=
  let ex : Nat := x / 2 ^ 23 % 256
  let f : Nat := x % 2 ^ 23
  if ex = 255 then (if f = 0 then .inf (fpSign x) else .nan (f < 2 ^ 22))
  else if ex = 0 then .fin (fpSign x) (if ftz then 0 else f) (-149)
  else .fin (fpSign x) (2 ^ 23 + f) ((ex : Int) - 150)

def fpZero (neg : Bool) : Nat := if neg then 2 ^ 31 else 0
def fpInf (neg : Bool) : Nat := fpZero neg + 0x7F800000
/-- The greatest finite magnitude. -/
def fpMax (neg : Bool) : Nat := fpZero neg + 0x7F7FFFFF

/-- What an overflow rounds to under FRM. -/
def fpOver (frm : Nat) (neg : Bool) : Nat :=
  match frm with
  | 0 => fpInf neg
  | 1 => fpMax neg
  | 2 => if neg then fpInf neg else fpMax neg
  | _ => if neg then fpMax neg else fpInf neg

/-- Round ±m × 2 ^ e to FP32 once, with its flags. A result that is tiny before rounding and rounds up to the least normal
number is tiny or not as Config.tinyAtBoundary says: the spec does not state it. Under FTZ a result that is subnormal after its rounding gives
zero with FUNF and FINX, exact or not (DESIGN CHOICE, log 68: R130 names no flags for a result that is flushed). -/
def fpRound (c : FpCfg) (neg : Bool) (m : Nat) (e : Int) : Nat × VFlags :=
  if m = 0 then (fpZero neg, {})
  else
    let top : Int := e + Nat.log2 m
    let q : Int := max (top - 23) (-149)
    let (m1, lost) := if q ≤ e then (m * 2 ^ (e - q).toNat, false) else roundMag c.frm neg m (q - e).toNat
    let (m2, q2) := if m1 = 2 ^ 24 then (2 ^ 23, q + 1) else (m1, q)
    if 104 < q2 then (fpOver c.frm neg, { fovf := true, finx := true })
    else if m2 < 2 ^ 23 then
      if c.ftz then (fpZero neg, { funf := true, finx := true })
      else (fpZero neg + m2, { funf := lost, finx := lost })
    else (fpZero neg + ((q2 + 150).toNat * 2 ^ 23 + (m2 - 2 ^ 23)),
          { finx := lost, funf := lost && decide (top < -126) && Config.tinyAtBoundary })

/-- The integer ±m × 2 ^ (e − lo), for lo ≤ e. -/
def fpScaled (neg : Bool) (m : Nat) (e lo : Int) : Int :=
  let v : Int := (m : Int) * (2 : Int) ^ (e - lo).toNat
  if neg then -v else v

/-- The exact sum of two finite values, rounded. A zero sum of unlike signs is +0, or −0 toward −∞. -/
def fpSum (c : FpCfg) (n1 : Bool) (m1 : Nat) (e1 : Int) (n2 : Bool) (m2 : Nat) (e2 : Int) : Nat × VFlags :=
  let lo := min e1 e2
  let v := fpScaled n1 m1 e1 lo + fpScaled n2 m2 e2 lo
  if v = 0 then (fpZero (if m1 = 0 ∧ m2 = 0 ∧ n1 = n2 then n1 else c.frm = 2), {})
  else fpRound c (decide (v < 0)) v.natAbs lo

/-- Whether an operand is a signalling NaN. -/
def FpVal.snan : FpVal → Bool
  | .nan b => b
  | _ => false

/-- An invalid operation: the canonical NaN, FINV. -/
def fpInvalid : Nat × VFlags := (qNan, { finv := true })

/-- x + y. -/
def fpAddV (c : FpCfg) (x y : FpVal) : Nat × VFlags :=
  match x, y with
  | .nan a, _ => (qNan, { finv := a || y.snan })
  | _, .nan b => (qNan, { finv := b })
  | .inf n1, .inf n2 => if n1 = n2 then (fpInf n1, {}) else fpInvalid
  | .inf n1, .fin .. => (fpInf n1, {})
  | .fin .., .inf n2 => (fpInf n2, {})
  | .fin n1 m1 e1, .fin n2 m2 e2 => fpSum c n1 m1 e1 n2 m2 e2

/-- −x. -/
def FpVal.flip : FpVal → FpVal
  | .nan b => .nan b
  | .inf n => .inf (!n)
  | .fin n m e => .fin (!n) m e

/-- The exact product x × y; none when it is invalid (0 × ∞). -/
def fpProd (x y : FpVal) : Option FpVal :=
  match x, y with
  | .nan a, _ => some (.nan (a || y.snan))
  | _, .nan b => some (.nan b)
  | .inf n1, .inf n2 => some (.inf (n1 != n2))
  | .inf n1, .fin n2 m2 _ => if m2 = 0 then none else some (.inf (n1 != n2))
  | .fin n1 m1 _, .inf n2 => if m1 = 0 then none else some (.inf (n1 != n2))
  | .fin n1 m1 e1, .fin n2 m2 e2 => some (.fin (n1 != n2) (m1 * m2) (e1 + e2))

def fpAdd (c : FpCfg) (a b : Nat) : Nat × VFlags := fpAddV c (fpDecode c.ftz a) (fpDecode c.ftz b)
def fpSub (c : FpCfg) (a b : Nat) : Nat × VFlags := fpAddV c (fpDecode c.ftz a) (fpDecode c.ftz b).flip

def fpMul (c : FpCfg) (a b : Nat) : Nat × VFlags :=
  match fpProd (fpDecode c.ftz a) (fpDecode c.ftz b) with
  | none => fpInvalid
  | some (.nan s) => (qNan, { finv := s })
  | some (.inf n) => (fpInf n, {})
  | some (.fin n m e) => fpRound c n m e

/-- d + a × b, or d − a × b, with one rounding. Whether 0 × ∞ with a quiet NaN in d is invalid is Config.fmaNanInvalid:
the spec does not state it. -/
def fpFma (c : FpCfg) (minus : Bool) (d a b : Nat) : Nat × VFlags :=
  let dv := fpDecode c.ftz d
  match fpProd (fpDecode c.ftz a) (fpDecode c.ftz b) with
  | none =>
    match dv with
    | .nan s => (qNan, { finv := s || Config.fmaNanInvalid })
    | _ => fpInvalid
  | some p => fpAddV c dv (if minus then p.flip else p)

/-- The operand with FTZ applied. -/
def fpFlush (c : FpCfg) (x : Nat) : Nat := if c.ftz && x / 2 ^ 23 % 256 = 0 then fpZero (fpSign x) else x

def fpIsNan (x : Nat) : Bool := decide (0x7F800000 < x % 2 ^ 31)
def fpIsSnan (x : Nat) : Bool := fpIsNan x && decide (x % 2 ^ 23 < 2 ^ 22)

/-- The place of a number in the order of VFMIN and VFMAX: −0 below +0. -/
def fpOrder (x : Nat) : Int := if fpSign x then -((x % 2 ^ 31 : Nat) : Int) - 1 else ((x % 2 ^ 31 : Nat) : Int)

/-- The numeric order: −0 = +0. -/
def fpNum (x : Nat) : Int := if fpSign x then -((x % 2 ^ 31 : Nat) : Int) else ((x % 2 ^ 31 : Nat) : Int)

/-- VFMIN and VFMAX (R130). -/
def fpPick (c : FpCfg) (greater : Bool) (a b : Nat) : Nat × VFlags :=
  let f : VFlags := { finv := fpIsSnan a || fpIsSnan b }
  let x := fpFlush c a
  let y := fpFlush c b
  if fpIsNan a && fpIsNan b then (qNan, f)
  else if fpIsNan a then (y, f)
  else if fpIsNan b then (x, f)
  else (if (if greater then fpOrder y ≤ fpOrder x else fpOrder x ≤ fpOrder y) then x else y, f)

/-- An FP32 comparison: false on any NaN; a signalling NaN sets FINV. -/
def fpCompare (c : FpCfg) (r : Int → Int → Bool) (a b : Nat) : Bool × VFlags :=
  (!fpIsNan a && !fpIsNan b && r (fpNum (fpFlush c a)) (fpNum (fpFlush c b)), { finv := fpIsSnan a || fpIsSnan b })

/-- ±m × 2 ^ e rounded to an integer under a rounding of FRM. -/
def fpToInt (frm : Nat) (neg : Bool) (m : Nat) (e : Int) : Int :=
  let k := if 0 ≤ e then m * 2 ^ e.toNat else (roundMag frm neg m (-e).toNat).1
  if neg then -(k : Int) else (k : Int)

/-- VCVTFQ (shift 31, QRND) and VCVTFI (shift 0, FRM): to a saturated 32-bit integer. `quiet` says whether a quiet NaN
sets FINV. A value out of range or infinite sets SAT, and one that is inexact no flag (DESIGN CHOICE, log 68: R134 names FINV for a NaN and no
flag else). -/
def fpToFixed (c : FpCfg) (frm shift : Nat) (quiet : Bool) (a : Nat) : Nat × VFlags :=
  match fpDecode c.ftz a with
  | .nan s => (0, { finv := s || quiet })
  | .inf n => satE 32 (if n then -(2 ^ 40) else 2 ^ 40)
  | .fin n m e => satE 32 (fpToInt frm n m (e + shift))

/-- VCVTQF (shift 31) and VCVTIF (shift 0). -/
def fpOfFixed (c : FpCfg) (shift : Nat) (a : Nat) : Nat × VFlags :=
  let i := sgn 32 a
  fpRound c (decide (i < 0)) i.natAbs (-(shift : Int))

end Sys2Proof.Machine
end

