-- ==== Sys2Proof/Machine/Ramp.lean ====
section
/-! DEFINITION. Machine/Ramp.lean: the values of a parameter ramp in FP32, with the engine's fixed logarithm and power
function, each rounded once from the exact result (R58, R59). -/
namespace Sys2Proof.Machine

/-! ## Fixed-point logarithm and power -/

/-- Fraction bits of the fixed-point numbers the two functions are computed in. -/
def fixBits : Nat := 160

/-- `n` more bits of log2 of `x` (fixed point, 1 ≤ x < 2): square, and halve when the square reaches 2. -/
def logBits : Nat → Nat → Nat → Nat
  | 0, _, acc => acc
  | n + 1, x, acc =>
    let q := x * x / 2 ^ fixBits
    if 2 ^ (fixBits + 1) ≤ q then logBits n (q / 2) (2 * acc + 1) else logBits n q (2 * acc)

/-- Bits of the fraction of a logarithm that are computed. -/
def logLen : Nat := 110

/-- log2 of m × 2 ^ e, m > 0, times 2 ^ logLen, rounded down, and whether it is exact (m is a power of two). -/
def log2Fix (m : Nat) (e : Int) : Int × Bool :=
  let k := Nat.log2 m
  let x := m * 2 ^ (fixBits - k)
  (((e + k) * 2 ^ logLen : Int) + (logBits logLen x 0 : Nat), decide (m = 2 ^ k))

/-- log2 |v| of an FP32 value, to nearest with ties to even; a subnormal is taken at its exact value (R59 step 4). The
logarithm of a number that is no power of two is irrational, so a bit below the computed ones stands for the rest. -/
def fpLog2 (a : Nat) : Nat :=
  match fpDecode false (a % 2 ^ 31) with
  | .nan _ => qNan
  | .inf _ => fpInf false
  | .fin _ m e =>
    if m = 0 then fpInf true
    else
      let (i, exact) := log2Fix m e
      let j := 2 * i + (if exact then 0 else 1)
      (fpRound {} (decide (j < 0)) j.natAbs (-(logLen + 1 : Int))).1

/-- Square root of a natural number by bits: the greatest r with r × r ≤ n, below 2 ^ bits. -/
def isqrt : Nat → Nat → Nat → Nat
  | 0, _, r => r
  | b + 1, n, r =>
    let t := r + 2 ^ b
    if t * t ≤ n then isqrt b n t else isqrt b n r

/-- 2 ^ (0.f) in fixed point: `f` holds `n` fraction bits, `root` is 2 ^ (1/2) for its highest bit; each further bit takes
the square root of the root. -/
def expBits : Nat → Nat → Nat → Nat → Nat
  | 0, _, _, acc => acc
  | n + 1, f, root, acc =>
    let acc := if f / 2 ^ n % 2 = 1 then acc * root / 2 ^ fixBits else acc
    expBits n f (isqrt (fixBits + 1) (root * 2 ^ fixBits) 0) acc

/-- 2 ^ l for an FP32 value l, to nearest with ties to even; a result beyond the range rounds as any FP32 result (R59 step 4).
Below 2 ^ -60 in magnitude the result is 1. -/
def fpExp2 (a : Nat) : Nat :=
  match fpDecode false a with
  | .nan _ => qNan
  | .inf n => if n then 0 else fpInf false
  | .fin neg m e =>
    if m = 0 ∨ e + Nat.log2 m < -60 then 0x3F800000
    else if 10 < e + Nat.log2 m then (if neg then 0 else fpInf false)
    else
      let len : Nat := if e < 0 then (-e).toNat else 0
      let v : Int := fpScaled neg m e (-(len : Int))
      let k : Int := v / (2 ^ len : Int)
      let f : Nat := (v % (2 ^ len : Int)).toNat
      if f = 0 then (fpRound {} false 1 k).1
      else
        let x := expBits len f (isqrt (fixBits + 1) (2 * 2 ^ fixBits * 2 ^ fixBits) 0) (2 ^ fixBits)
        (fpRound {} false (2 * x + 1) (k - (fixBits + 1))).1

/-! ## Ramp values -/

/-- The fixed-point place of a TYPE (0 = i16, 1 = i32, 2 = Q1.31, 4 = the Q5.27 of an express gain), R59 step 1. -/
def typeShift (ty : Nat) : Nat := if ty = 2 then 31 else if ty = 4 then 27 else 0

/-- The FP32 of a parameter value (R59 step 1). -/
def toFp32 (ty : Nat) (v : Word) : Nat :=
  if ty = 3 then v.toNat
  else
    let i := sgn (if ty = 0 then 16 else 32) v.toNat
    (fpRound {} (decide (i < 0)) i.natAbs (-(typeShift ty : Int))).1

/-- The parameter value of an FP32 (R59 step 5): the nearest of the TYPE, ties to even, saturated to its range. An i16 is
kept in the low 16 bits. -/
def fromFp32 (ty : Nat) (a : Nat) : Word :=
  if ty = 3 then BitVec.ofNat 32 a
  else
    let w := if ty = 0 then 16 else 32
    match fpDecode false a with
    | .nan _ => 0
    | .inf n => BitVec.ofNat 32 (satE w (if n then -(2 ^ 40) else 2 ^ 40)).1
    | .fin n m e => BitVec.ofNat 32 (satE w (fpToInt 0 n m (e + typeShift ty))).1

/-- v0 + (v1 − v0) × f in the fixed order of R59 step 3. -/
def lerp (v0 v1 f : Nat) : Nat :=
  let d := (fpSub {} v1 v0).1
  let p := (fpMul {} d f).1
  (fpAdd {} v0 p).1

/-- The quotient of two positive integers as an FP32 rounded to nearest even (R59 step 2), for a divisor below 2 ^ 40. -/
def fpRatio (a b : Nat) : Nat :=
  let q := a * 2 ^ 80 / b
  (fpRound {} false (2 * q + (if a * 2 ^ 80 % b = 0 then 0 else 1)) (-81)).1

/-- Whether an EXPONENTIAL ramp between two FP32 values behaves as LINEAR: they differ in sign or either is zero (R58). -/
def expAsLinear (v0 v1 : Nat) : Bool := v0 % 2 ^ 31 = 0 || v1 % 2 ^ 31 = 0 || fpSign v0 != fpSign v1

/-- Sample `i` of a ramp of `len` samples (R58, R59): kind 1 LINEAR, 2 EXPONENTIAL. -/
def rampSample (ty kind : Nat) (v0 v1 : Word) (i len : Nat) : Word :=
  if len ≤ i + 1 then v1
  else
    let a := toFp32 ty v0
    let b := toFp32 ty v1
    let f := fpRatio (i + 1) len
    if kind = 2 && !expAsLinear a b then
      let l := lerp (fpLog2 a) (fpLog2 b) f
      fromFp32 ty (fpExp2 l + (if fpSign a then 2 ^ 31 else 0))
    else fromFp32 ty (lerp a b f)

end Sys2Proof.Machine
end

