-- ==== Sys2Proof/Machine/Params.lean ====
section
/-! DEFINITION. Machine/Params.lean: host parameters: acceptance of an update, its entry into a block's parameter set, ramps
(R57 to R61, R190, R384, R416, R426). -/
namespace Sys2Proof.Machine

/-! ## Parameters of an image -/

/-- What the engine knows of a parameter: its key in the parameter set, TYPE, RAMP and DEFAULT_RAMP. -/
structure ParamInfo where
  key : Nat
  type : Nat
  ramp : Nat
  dflt : Nat
  deriving DecidableEq, Repr

/-- Key of parameter `w` (0 GAIN_A, 1 GAIN_B, 2 THRESH) of express channel `c`, beyond the parameter table's. -/
def expKey (c w : Nat) : Nat := 0x10000 + 4 * c + w

/-- The parameter a PARAM_ID names in an image: of its table, or of an express program (R49, R190). -/
def Image.paramInfo (im : Image) (id : Nat) : Option ParamInfo :=
  if id = 0 then none
  else match im.params.zipIdx.find? fun x => x.1.id = id with
    | some (p, k) => some ⟨k, p.type, p.ramp, p.dfltRamp⟩
    | none =>
      match im.express.find? fun p => p.pidA = id || p.pidB = id || p.pidT = id with
      | none => none
      | some p =>
        if p.pidA = id then some ⟨expKey p.channel 0, 4, 1, p.dfltRamp⟩
        else if p.pidB = id then some ⟨expKey p.channel 1, 4, 1, p.dfltRamp⟩
        else some ⟨expKey p.channel 2, 2, 0, 0⟩

/-- TYPE of the parameter under a key. -/
def Image.keyType (im : Image) (k : Nat) : Nat :=
  if k < 0x10000 then (match im.params[k]? with | some p => p.type | none => 0)
  else if k % 4 = 2 then 2 else 4

def State.param (s : State) (k : Nat) : ParamVal := Sparse.get (fun _ => {}) s.eng.params k

def State.setParam (s : State) (k : Nat) (v : ParamVal) : State :=
  { s with eng := { s.eng with params := Sparse.set (fun _ => {}) s.eng.params k v } }

/-- The value at the sample a ramp has come to (R58): its constant value when none runs. -/
def ParamVal.now (v : ParamVal) (ty : Nat) : Word :=
  match v.ramp with
  | none => v.value
  | some r => rampSample ty r.kind r.v0 r.v1 r.pos r.len

/-- Move on by `n` samples: a ramp that ends leaves its target (R59 step 6). -/
def ParamVal.advance (v : ParamVal) (n : Nat) : ParamVal :=
  match v.ramp with
  | none => v
  | some r => if r.len ≤ r.pos + n then { value := r.v1, ramp := none } else { v with ramp := some { r with pos := r.pos + n } }

/-- A ramp stops at its value (R429 function 7). -/
def ParamVal.stop (v : ParamVal) (ty : Nat) : ParamVal := { value := v.now ty, ramp := none }

/-- A new target over `len` samples of kind `kind` (R58): 0 samples or STEP takes it at once. -/
def ParamVal.target (v : ParamVal) (ty kind len : Nat) (t : Word) : ParamVal :=
  if kind = 0 ∨ len = 0 then { value := t, ramp := none }
  else { value := v.now ty, ramp := some ⟨kind, 0, len, v.now ty, t⟩ }

/-- Samples of an L-block ramp of a parameter: blocks of B at the processing rate, or express samples (R58, R190). -/
def Image.rampLen (im : Image) (k l : Nat) : Nat :=
  let n := l * blockSamples im.bsize
  if k < 0x10000 then n
  else match im.express.find? fun p => p.channel = (k - 0x10000) / 4 with
    | some p => n * rateHz p.rate / rateHz im.rate
    | none => n

/-- Apply one update to the parameter set (R58, R61). -/
def State.applyUpdate (s : State) (im : Image) (u : Update) : State :=
  match im.paramInfo u.id with
  | none => s.bump BSQ_PARAM_COUNT_DISCARDED
  | some i =>
    let l := if u.host then 1 else u.ramp.getD i.dflt
    let v := if i.key % 4 = 2 ∧ 0x10000 ≤ i.key ∧ 2 ^ 31 ≤ u.value.toNat then (0 : Word) else u.value
    s.setParam i.key ((s.param i.key).target i.type i.ramp (im.rampLen i.key l) v)

/-- Whether an update names an express parameter of an image. -/
def Image.isExpress (im : Image) (u : Update) : Bool :=
  match im.paramInfo u.id with | some i => decide (0x10000 ≤ i.key) | none => false

/-- The updates of a list that act: of two for one parameter and block, the one accepted later (R60). -/
def actingUpdates : List Update → List (Update × Bool)
  | [] => []
  | u :: us => (u, !us.any fun v => v.id = u.id && v.block = u.block) :: actingUpdates us

/-- The updates stamped for block `m` or earlier, of one kind, enter the parameter set in the order of acceptance (R58, R60). -/
def State.applyUpdates (s : State) (im : Image) (m : Nat) (express : Bool) : State :=
  let (now, later) := s.eng.updates.partition fun u => decide (u.block ≤ m) && im.isExpress u = express
  let s := { s with eng := { s.eng with updates := later } }
  (actingUpdates now).foldl (fun s x =>
    let u := x.1
    let s := if x.2 then s.applyUpdate im u else s
    if u.pseq = 0 then s
    else
      let s := { s with sov := { s.sov with appliedAt := s.sov.appliedAt ++ [(u.block, u.pseq)] } }
      if s.get SOV_STATUS_ROLE = 2 then s else s.put SOV_PSEQ_PSEQ u.pseq) s

/-- A change of the ramp mode stops the ramps of express parameters at the first sample of its block, once (R190, R429). -/
def State.stopExpressRamps (s : State) (im : Image) (n : Nat) : State :=
  match s.eng.rampChange with
  | some (b, _) =>
    if b ≤ n && !s.eng.rampStopped then
      { s with eng := { s.eng with
          rampStopped := true
          params := s.eng.params.map fun (e : Nat × ParamVal) => if e.1 < 0x10000 then e else (e.1, e.2.stop (im.keyType e.1)) } }
    else s
  | none => s

/-- The parameter set of block `m` at its checkpoint (R21, R58, R60): running ramps move on by the `n` samples of the block
before, a change of ramp mode stops them (R429), and the block's updates enter. -/
def State.parameterApply (s : State) (im : Image) (m n : Nat) : State :=
  let s := { s with eng := { s.eng with
    params := s.eng.params.map fun (e : Nat × ParamVal) => if e.1 < 0x10000 then (e.1, e.2.advance n) else e } }
  let s := match s.eng.rampChange with
    | some (b, h) =>
      if b ≤ m then
        let s := s.stopExpressRamps im m
        { s with eng := { s.eng with
            rampChange := none, hostRamp := h, rampStopped := false
            params := s.eng.params.map fun (e : Nat × ParamVal) => if e.1 < 0x10000 then (e.1, e.2.stop (im.keyType e.1)) else e } }
      else s
    | none => s
  s.applyUpdates im m false

/-- The values the partitions' parameters take from an image's initial state (R44). -/
def State.initParams (s : State) (im : Image) : State :=
  let vals := im.params.zipIdx.map fun x =>
    let st := match im.parts[x.1.partition]? with | some p => p.stateSize | none => 0
    let a := im.base + im.initOff x.1.partition + st + (x.1.offset - (im.paramArea x.1.partition).1)
    (x.2, BitVec.ofNat 32 (s.le a (typeBytes x.1.type)))
  vals.foldl (fun s x => s.setParam x.1 { value := x.2 })
    { s with eng := { s.eng with params := s.eng.params.filter fun e => decide (0x10000 ≤ e.1) } }

/-- The gains and thresholds the express channels take from their programs (R191), those in `kept` apart, whose values go on (R194, R197). -/
def State.initExpressParams (s : State) (im : Image) (kept : List Nat) : State :=
  let vals := (im.express.filter fun p => !kept.contains p.channel).flatMap fun p =>
    [(expKey p.channel 0, p.gainA), (expKey p.channel 1, p.gainB), (expKey p.channel 2, p.thresh)]
  let stays (k : Nat) : Bool := decide (k < 0x10000) || kept.contains ((k - 0x10000) / 4)
  vals.foldl (fun s x => s.setParam x.1 { value := x.2 })
    { s with eng := { s.eng with params := s.eng.params.filter fun e => stays e.1 } }

/-! ## Acceptance (R57, R60, R384, R416) -/

/-- The block whose lane period runs, N_a. With no image running it is the block whose lane period would run: one frame past a
boundary the period of the block before begins (R18). -/
def State.blockA (s : State) : Nat :=
  if s.eng.running.isNone && s.eng.seqRate ≠ 0 then
    let b := blockSamples s.eng.seqB
    s.eng.epochN + ((s.time - s.eng.epochT) * rateHz s.eng.seqRate / 1000000000 + b - 1) / b - 2
  else
    -- after a preset the block whose lane period runs has a number of the old count (R17)
    match s.eng.period with
    | some p => if p < s.blockN ∧ s.blockN ≤ p + 2 then p else s.blockN - (if s.eng.due.isSome then 2 else 1)
    | none => s.blockN - 1

/-- The first block whose checkpoint has not been taken; after a preset, the first that carries the new count (R17). -/
def State.nextCheckpoint (s : State) : Nat := if s.eng.presetApplied then s.blockN else s.eng.due.getD s.blockN

/-- Whether the checkpoint of block `m` has been taken. -/
def State.checkpointTaken (s : State) (m : Nat) : Bool := decide (m < s.nextCheckpoint)

/-- Device time at which lane period `m` begins, under the count in force (R18). -/
def State.periodStart (s : State) (m : Nat) : Nat := s.frameTime (m + 1) 1

/-- Whether a suspend parameter of a TYPE suspends at a value: it is not zero, an FP32 −0 included among the zeros (R56). -/
def suspends (ty : Nat) (v : Word) : Bool :=
  match ty with
  | 0 => v.toNat % 2 ^ 16 ≠ 0
  | 3 => v.toNat % 2 ^ 31 ≠ 0
  | _ => v ≠ 0

/-- A partition's suspend parameter that an update clears, on a cluster that is WARM or being woken late (R57): the physical
lane of the partition. -/
def State.clearsSuspend (s : State) (im : Image) (id : Nat) (v : Word) : Option Nat :=
  match im.params.zipIdx.find? fun x => x.1.id = id with
  | none => none
  | some (_, k) =>
    if suspends (im.keyType k) v then none
    else (im.parts.zipIdx.find? fun p => p.1.suspendParam = k).bind fun p =>
        let ph := s.get (BSQ_LANE_MAP_PHYS (im.lanes.getD p.2 0))
        if s.get (PWR_CLUSTER_STATE (ph / 2)) = 1 then some ph else none

/-- What acceptance of an update gives. -/
inductive Accepted where
  | discarded
  /-- the block at which it applies, and whether it is late -/
  | at_ (block : Nat) (late : Bool)
  deriving DecidableEq, Repr

/-- The block at which an update stamped `m` applies (R57, R60, R190, R384), or that it is discarded. -/
def State.resolve (s : State) (im : Image) (id : Nat) (v : Word) (m : Nat) (rampOk hostOk : Bool) : Accepted :=
  let pendingTakes := match s.eng.switch with | some w => decide (w.block ≤ m) | none => false
  if !rampOk || !hostOk || decide (s.blockN + 2 ^ 24 < m) || ((im.paramInfo id).isNone && !pendingTakes) then .discarded
  else
    let express := match im.paramInfo id with | some i => decide (0x10000 ≤ i.key) | none => false
    if express then
      (if m ≤ s.blockN then .at_ (s.blockN + 1) true else .at_ m false)
    else match s.clearsSuspend im id v with
      | some _ => if m ≤ s.blockA + 1 then .at_ (s.blockA + 2) true else .at_ m false
      | none =>
        let lead := if s.get SOV_STATUS_ROLE = 2 && s.standbyReady then 25000 else 0
        let first := s.nextCheckpoint
        let first := if s.periodStart first < s.time + lead ∧ lead ≠ 0 then first + 1 else first
        if m < first then .at_ first true else .at_ m false

/-- The ramp mode in force at block `m` (R61, R429). -/
def State.hostRampAt (s : State) (m : Nat) : Bool :=
  match s.eng.rampChange with
  | some (b, h) => if b ≤ m then h else s.eng.hostRamp
  | none => s.eng.hostRamp

/-- The block an entry's BLOCK_LO names: the one with those low bits within −2^31 < M − N ≤ 2^31 of N (R416). A block before
block 0 is taken as block 0. -/
def resolveBlock (n lo : Nat) : Nat :=
  let d := (lo + 2 ^ 32 - n % 2 ^ 32) % 2 ^ 32
  if d ≤ 2 ^ 31 then n + d else n + d - 2 ^ 32

/-- Accept one parameter entry (R416, R426): true when it is accepted. A primary gives it its PSEQ (R384). -/
def State.acceptParam (s : State) (id : Nat) (v : Word) (m : Nat) (rampL : Nat) (host : Bool) : State × Bool :=
  match s.eng.running with
  | none => (s.bump BSQ_PARAM_COUNT_DISCARDED, false)
  | some im =>
    match s.resolve im id v m (rampL = 0xFFFF || decide (rampL ≤ 4096)) (host = s.hostRampAt m) with
    | .discarded => (s.bump BSQ_PARAM_COUNT_DISCARDED, false)
    | .at_ b late =>
      let s := if late then (s.bump BSQ_PARAM_COUNT_LATE).put BSQ_STATUS_PARAM_LATE 1 else s
      let twin := s.get SOV_STATUS_ROLE = 2
      let s := if twin then s.count SOV_PSEQ_PSEQ else s
      let u : Update := { id := id, value := v, block := b, ramp := if rampL = 0xFFFF then none else some rampL,
                          pseq := if twin then s.get SOV_PSEQ_PSEQ else 0, host := host }
      let s := if twin then s.sendParam u else s
      (s.onEng fun e => { e with updates := e.updates ++ [u] }, true)

/-- The 16 bytes of an entry (R416) accepted, the reserved flag bits ignored. -/
def State.acceptEntry (s : State) (bs : List Byte) : State × Bool :=
  let w (i n : Nat) := leVal ((bs.drop i).take n)
  s.acceptParam (w 0 4) (BitVec.ofNat 32 (w 4 4)) (resolveBlock s.blockN (w 8 4)) (w 12 2) (w 14 2 % 2 = 1)

end Sys2Proof.Machine
end

