-- ==== Sys2Proof/Machine/Power.lean ====
section
/-! DEFINITION. Machine/Power.lean: cluster and bank power as the scheduler sets it (R26, R54, R56, R57, R249, R362 to R364)
and the device's STANDBY and ACTIVE states (R360). -/
namespace Sys2Proof.Machine

/-! ## Banks (R249) -/

/-- Set a bank's power state: 0 OFF loses the contents, which are zero when it is ON again; a retired bank stays OFF. -/
def State.setBank (s : State) (mem bank st : Nat) : State :=
  if s.bankRetired mem bank then s.put (bankPwr mem bank) 0
  else
    let s := s.put (bankPwr mem bank) st
    if st = 0 then
      let here (a : Nat) : Bool := bankOf (s.region a) a = some (mem, bank)
      { s with mem := s.mem.filter fun c => !here c.1, werr := s.werr.filter fun c => !here (8 * c.1) }
    else s

/-- Set every bank of cluster `n`'s scratchpad. -/
def State.setBanks (s : State) (n st : Nat) : State :=
  (List.range 32).foldl (fun s b => s.setBank n b st) s

/-! ## Clusters (R362) -/

/-- The lanes of a cluster that is GATED or WARM: LANE_STAT.STATE 0, unless they are out of service or parked. -/
def State.lanesStill (s : State) (n : Nat) : State :=
  [2 * n, 2 * n + 1].foldl (fun s p =>
    if s.get (BSQ_LANE_STAT_STATE p) = 5 || s.get (BSQ_LANE_STAT_STATE p) = 6 then s else s.put (BSQ_LANE_STAT_STATE p) 0) s

/-- A cluster goes GATED: banks OFF, lane logic off. -/
def State.gateCluster (s : State) (n : Nat) : State :=
  let s := (((s.put (PWR_CLUSTER_STATE n) 0).put (PWR_CLUSTER_OP n) 0).setBanks n 0).lanesStill n
  let s := [2 * n + 1, 2 * n + 2].foldl (fun s t => s.resetTriad t .held) s
  s.onEng fun e => { e with waking := e.waking.filter (· ≠ n) }

/-- A cluster goes WARM: banks in retention, clocks stopped. -/
def State.warmCluster (s : State) (n : Nat) : State := ((s.put (PWR_CLUSTER_STATE n) 1).setBanks n 1).lanesStill n

/-- A cluster goes READY: banks ON, clocks gated. -/
def State.readyCluster (s : State) (n : Nat) : State := (s.put (PWR_CLUSTER_STATE n) 2).setBanks n 2

/-- Start a wake to RUN (R362, R363). -/
def State.wakeCluster (s : State) (n : Nat) : State :=
  if s.get (PWR_CLUSTER_STATE n) = 3 || s.get (PWR_CLUSTER_STATE n) = 4 then s
  else (s.put (PWR_CLUSTER_STATE n) 4).onEng fun e => { e with waking := e.waking ++ [n] }

/-- A wake completes: RUN, every bank ON, event 3; a lane triad held in reset starts at PC 0 (R103, R357); the first wake
takes the device from STANDBY to ACTIVE, event 2 (R360). -/
def State.wakeDone (s : State) (n : Nat) : State :=
  let s := ((s.put (PWR_CLUSTER_STATE n) 3).setBanks n 2).pulse 3
  let s := s.onEng fun e => { e with waking := e.waking.filter (· ≠ n) }
  let s := [2 * n + 1, 2 * n + 2].foldl (fun s t =>
    if (s.triad t).run = .held then (s.resetTriad t .running).setRoute (t - 1) else s) s
  if s.get PWR_STATE_STATE = 3 then (s.put PWR_STATE_STATE 4).pulse 2 else s

/-- With every cluster GATED and no image running the device is in STANDBY (R360). -/
def State.settlePower (s : State) : State :=
  if s.get PWR_STATE_STATE = 4 && s.eng.running.isNone && (List.range 9).all fun n => s.get (PWR_CLUSTER_STATE n) = 0
  then (s.put PWR_STATE_STATE 3).pulse 2 else s

/-- The physical lane a partition of the running image runs on. -/
def State.lanePhys (s : State) (im : Image) (q : Nat) : Nat := s.get (BSQ_LANE_MAP_PHYS (im.lanes.getD q 0))

/-- Whether the Layby carries work: a lane of it is in use. -/
def State.laybyBusy (s : State) : Bool := s.get BSQ_LAYBY_USE16 ≠ 0 || s.get BSQ_LAYBY_USE17 ≠ 0

/-- Operating points at a lane-period boundary (R54, R364): each cluster at the highest OP_POINT placed on it, the Layby at
the highest of the image. -/
def State.setOps (s : State) (im : Image) : State :=
  (List.range 9).foldl (fun s n =>
    let op := im.parts.zipIdx.foldl (fun m p => if n = 8 || s.lanePhys im p.2 / 2 = n then max m p.1.opPoint else m) 0
    if s.get (PWR_CLUSTER_STATE n) = 0 then s else s.put (PWR_CLUSTER_OP n) op) s

/-- The Layby in the image's idle state while no lane of it carries work (R26). -/
def State.laybyIdle (s : State) (im : Image) : State :=
  if s.laybyBusy || s.eng.hostPower && s.get (PWR_CLUSTER_PIN 8) ≠ 0 then s
  else if im.laybyIdle = 1 then s.readyCluster 8 else s.warmCluster 8

/-- A host pin takes effect at the lane-period boundary (R363): 1 GATED, 2 WARM, 3 READY, 4 RUN. -/
def State.applyPin (s : State) (n : Nat) : State :=
  if !s.eng.hostPower then s
  else match s.get (PWR_CLUSTER_PIN n) with
    | 1 => if s.get (PWR_CLUSTER_STATE n) = 0 then s else s.gateCluster n
    | 2 => if s.get (PWR_CLUSTER_STATE n) = 1 then s else s.warmCluster n
    | 3 => if s.get (PWR_CLUSTER_STATE n) = 2 then s else s.readyCluster n
    | 4 => s.wakeCluster n
    | _ => s

/-- A change of the cluster power mode takes effect (R429 function 10): entering, each PIN takes its cluster's state; leaving, every PIN is
cleared. -/
def State.powerMode (s : State) : State :=
  match s.eng.powerChange with
  | some h =>
    let s := (List.range 9).foldl (fun s n =>
      s.put (PWR_CLUSTER_PIN n) (if h then min 3 (s.get (PWR_CLUSTER_STATE n)) + 1 else 0)) s
    s.onEng fun e => { e with powerChange := none, hostPower := h }
  | none => s

def State.applyPins (s : State) : State := (List.range 9).foldl State.applyPin s.powerMode

/-- Gate the clusters, the Layby apart, that carry no partition of the running image (R54, R363); a pinned cluster stays, and one whose
scratchpad a Layby lane reaches through the slip road (R169). -/
def State.gateUnused (s : State) (im : Image) : State :=
  (List.range 8).foldl (fun s n =>
    if (List.range im.parts.length).any (fun q => s.lanePhys im q / 2 = n) || s.get (PWR_CLUSTER_STATE n) = 0 ||
        (s.eng.hostPower && s.get (PWR_CLUSTER_PIN n) ≠ 0) ||
        s.eng.parks.any (fun k => k.back && k.logical / 2 = n) ||
        [16, 17].any (fun y => (s.layby y).road && (match (s.layby y).home with | some h => h / 2 = n | none => false)) then s
    else s.gateCluster n) s

/-- With no image running and none being staged, every cluster that is not pinned is gated (R54, R360, R363). -/
def State.gateAll (s : State) : State :=
  if s.eng.running.isSome || s.eng.switch.isSome then s
  else (List.range 9).foldl (fun s n =>
    if s.get (PWR_CLUSTER_STATE n) = 0 || (s.eng.hostPower && s.get (PWR_CLUSTER_PIN n) ≠ 0) then s else s.gateCluster n) s

/-- CLUSTER_WAKE_COMPLETE (R362). -/
def execClusterWakeComplete (c : Fin 9) (s : State) : Host.Outcome State Fault Refusal :=
  occurs (s.get (PWR_CLUSTER_STATE c) = 4) s (s.wakeDone c)

/-- IDLE_BLOCKS_EXPIRY (R56): every partition of the cluster has been suspended for IDLE_BLOCKS blocks; the cluster returns
to WARM. -/
def execIdleBlocksExpiry (c : Fin 9) (s : State) : Host.Outcome State Fault Refusal :=
  match s.eng.running with
  | none => done s
  | some im =>
    occurs (decide (im.idleBlocks ≤ Sparse.get (fun _ => 0) s.eng.idle c) && s.get (PWR_CLUSTER_STATE c) = 3 &&
      !(s.eng.hostPower && s.get (PWR_CLUSTER_PIN c) ≠ 0)) s (s.warmCluster c)

end Sys2Proof.Machine
end

