-- ==== Sys2Proof/Machine/Waymark.lean ====
section
/-! DEFINITION. Machine/Waymark.lean: the Waymark monitors of the lanes and of the supervisor's activities (R95, R336 to
R341). -/
namespace Sys2Proof.Machine

/-! ## Lanes (R337, R338) -/

/-- What a flag captures: kind, whether the window held no check-in, point, PC and device time. -/
structure FlagCapture where
  kind : Nat
  empty : Bool
  point : Nat
  pc : Nat
  time : Nat
  deriving DecidableEq, Repr

/-- A flag of lane `p` on task `k` (R338): the count of flags, the capture, FC 39 + 8p, CHECK_FAILURE with EVAL = 2 for
excess and 3 for missing, and the task's check record. -/
def State.flagLane (s : State) (p k : Nat) (c : FlagCapture) : State :=
  let s := s.setWindow p { s.window p with flagged := true }
  let s := s.bump (WMK_WINDOW_FLAGS p)
  let s := (((s.put (WMK_CAP_KIND p) c.kind).put (WMK_CAP_NO_CHECKIN p) (if c.empty then 1 else 0)).put
    (WMK_CAP_TASK p) k).put (WMK_CAP_POINT p) c.point
  let s := (s.put64 (WMK_CAP_PC_LO p) (c.pc % 2 ^ 40)).put64 (WMK_CAP_TIME_LO p) c.time
  let s := s.drive (39 + 8 * p) { s.laneRaise p 0x22 (BitVec.ofNat 64 c.pc) (BitVec.ofNat 64 (c.kind + 1)) with
    addr := if c.kind = 1 then some (c.pc % 2 ^ 40) else none }
  (s.onTriad (p + 1) fun x => { x with check := some (c.kind + 1) }).noteFailure p

/-- Close the window of lane `p`; with evaluation, a count below EXPECT flags the task as missing (R337, R338). -/
def State.closeWindow (s : State) (p : Nat) (evaluate : Bool) : State :=
  if !s.flag (WMK_WINDOW_OPEN p) then s
  else
    let w := s.window p
    let k := s.get (WMK_WINDOW_TASK p)
    let s := if evaluate && !w.flagged && decide (w.count < s.get (WMK_EXPECT_EXPECT p k))
      then s.flagLane p k { kind := 2, empty := w.lastAt.isNone, point := 0, pc := 0, time := w.lastAt.getD w.since }
      else s
    (s.put (WMK_WINDOW_OPEN p) 0).setWindow p {}

/-- The lane executive leaves the task of lane `p` (R95): TASKID.VALID is clear, and the window closes. -/
def State.leaveTask (s : State) (p : Nat) (evaluate : Bool) : State :=
  (s.onTriad (p + 1) fun x => { x with taskid := BitVec.ofNat 64 (x.taskid.toNat % 2 ^ 31) }).closeWindow p evaluate

/-- A SYNC.C applies TASKID on lane `p` (R337). -/
def State.applyTask (s : State) (p : Nat) (v : DWord) : State :=
  let k := v.toNat % 256
  let same := s.flag (WMK_WINDOW_OPEN p) && s.get (WMK_WINDOW_TASK p) = k && v.getLsbD 31
  let s := if same then s else s.closeWindow p true
  if v.getLsbD 31 then s.openWindow p k else s

/-- One check-in of the armed task (R95, R338): the one that makes the count EXPECT + 1 flags the task. -/
def State.checkIn (s : State) (p pc point : Nat) : State :=
  if !s.flag (WMK_WINDOW_OPEN p) then s
  else
    let w := s.window p
    let k := s.get (WMK_WINDOW_TASK p)
    let s := s.setWindow p { w with count := w.count + 1, lastAt := some s.time }
    if w.count = s.get (WMK_EXPECT_EXPECT p k) && !w.flagged
    then s.flagLane p k { kind := 1, empty := false, point := point, pc := pc, time := s.time }
    else s

/-! ## Supervisor activities (R340) -/

/-- A flag of activity `a` (R340): FC 20 and the captures. -/
def State.flagActivity (s : State) (a count site : Nat) (c : FlagCapture) : State :=
  let s := s.setWindow (32 + a) { s.window (32 + a) with flagged := true }
  let s := (((s.put WMK_SUP_CAP_KIND c.kind).put WMK_SUP_CAP_NO_CHECKIN (if c.empty then 1 else 0)).put
    WMK_SUP_CAP_ACTIVITY a).put WMK_SUP_CAP_COUNT count
  let s := if c.kind = 1 then s.setReg WMK_SUP_CAP_SITE (BitVec.ofNat 32 site) else s
  (s.put64 WMK_SUP_CAP_TIME_LO c.time).drive 20 { master := 0, kind := 14 }

/-- End of the activity's running window, in ns of device time. -/
def State.activityEnd (s : State) (a : Nat) : Nat :=
  (s.window (32 + a)).since + s.get (WMK_SUP_CFG_PERIOD_MS a) * 1000000

/-- The window of activity `a` ends (R340): a count below EXPECT flags it missing; the next window begins. -/
def State.endActivity (s : State) (a : Nat) : State :=
  let w := s.window (32 + a)
  let s := if decide (w.count < s.get (WMK_SUP_CFG_EXPECT a)) && !w.flagged
    then s.flagActivity a w.count 0
      { kind := 2, empty := w.lastAt.isNone, point := 0, pc := 0, time := w.lastAt.getD w.since }
    else s
  s.setWindow (32 + a) { since := w.since + s.get (WMK_SUP_CFG_PERIOD_MS a) * 1000000 }

/-- A check-in of activity `a` with its site (R340). -/
def State.activityCheckIn (s : State) (a site : Nat) : State :=
  if !s.flag (WMK_SUP_CFG_EN a) then s
  else
    let w := s.window (32 + a)
    let s := s.setWindow (32 + a) { w with count := w.count + 1, lastAt := some s.time }
    if w.count = s.get (WMK_SUP_CFG_EXPECT a) && !w.flagged
    then s.flagActivity a (w.count + 1) site { kind := 1, empty := false, point := 0, pc := site, time := s.time }
    else s

/-! ## The rows -/

/-- Whether a master and level may write a lane window's DISCARD (R341): the lane triad itself, or the Layby lane carrying
its partition; the supervisor at Roadbed. -/
def State.mayDiscard (s : State) (m lvl p : Nat) : Bool :=
  (m = 0 && decide (2 ≤ lvl)) || (decide (1 ≤ lvl) &&
    (m = 0x10 + p || [16, 17].any fun y => m = 0x10 + y &&
      ((s.layby y).home = some p || (s.get (laybyUse y) ≠ 0 && s.get (laybyLogical y) = p))))

/-- A write to WMK.WINDOW(p): DISCARD closes the window without evaluation (R337); FLAGS is the supervisor's at Roadbed. -/
def State.writeWindow (s : State) (m lvl p : Nat) (v : Word) : State :=
  let s := if v.getLsbD 30 && s.mayDiscard m lvl p then s.closeWindow p false else s
  s.putIf (m = 0 && decide (2 ≤ lvl)) (WMK_WINDOW_FLAGS p) (v.toNat / 2 ^ 16 % 256)

/-- A write to WMK.SUP_CFG(a) (R340, R341). -/
def State.writeSupCfg (s : State) (m lvl a : Nat) (v : Word) : State :=
  if m = 0 ∧ 2 ≤ lvl then
    let s := ((s.put (WMK_SUP_CFG_EN a) (v.toNat / 2 ^ 31)).put (WMK_SUP_CFG_PERIOD_MS a) (v.toNat / 2 ^ 16 % 2 ^ 12)).put
      (WMK_SUP_CFG_EXPECT a) (v.toNat % 2 ^ 16)
    s.setWindow (32 + a) (if v.getLsbD 31 then { since := s.time } else {})
  else s

/-- A store to WMK.SUP_CHECKIN(a) (R340, R341). -/
def State.writeSupCheckin (s : State) (m lvl a : Nat) (v : Word) : State :=
  if m = 0 ∧ 1 ≤ lvl then s.activityCheckIn a v.toNat else s

def execWaymarkDiscard (m : BitVec 8) (lvl : BitVec 2) (p : Fin 18) (v : Word) (s : State) :
    Host.Outcome State Fault Refusal := access s (s.writeWindow m.toNat lvl.toNat p v)

def execSupCfgWrite (m : BitVec 8) (lvl : BitVec 2) (a : Fin 16) (v : Word) (s : State) :
    Host.Outcome State Fault Refusal := access s (s.writeSupCfg m.toNat lvl.toNat a v)

def execSupCheckin (m : BitVec 8) (lvl : BitVec 2) (a : Fin 16) (v : Word) (s : State) :
    Host.Outcome State Fault Refusal := access s (s.writeSupCheckin m.toNat lvl.toNat a v)

/-- An activity window ends: device time reaches its end (R340). -/
def execSupWindowEnd (a : Fin 16) (s : State) : Host.Outcome State Fault Refusal :=
  occurs (s.flag (WMK_SUP_CFG_EN a)) s ((s.until (s.activityEnd a)).endActivity a)

end Sys2Proof.Machine
end

