-- ==== Sys2Proof/Machine/Lanes.lean ====
section
/-! DEFINITION. Machine/Lanes.lean: a lane's work inside a lane period: task runs, replay points, the commit gate, mirrors,
shadows and their commits (R20 to R36, R161 to R174). -/
namespace Sys2Proof.Machine

/-! ## Outputs and state -/

/-- A task's output samples as the model keeps them: those of its partition's own routing points (R180). -/
def ownOuts (q : Nat) (l : List TaskOut) : List OutSample :=
  (l.filter fun o => decide (0x8000 + 2048 * q ≤ o.point.toNat ∧ o.point.toNat < 0x8000 + 2048 * (q + 1))).map
    fun o => ⟨o.point.toNat, o.index.toNat, o.value⟩

/-- The sample of a point at an index: the last written; 0 when none was. -/
def outSample (l : List OutSample) (point index : Nat) : Word :=
  match (l.reverse.find? fun o => o.point = point && o.index = index) with
  | some o => o.value
  | none => 0

/-- Bytes written over a buffer. -/
def overlay (base fresh : Sparse Byte) : Sparse Byte := fresh.foldl (fun m e => Sparse.set (fun _ => 0) m e.1 e.2) base

/-- The committed state buffer of logical lane `l` (R21). -/
def State.stateBuf (s : State) (l : Nat) : Sparse Byte := Sparse.get (fun _ => []) s.eng.states l

def State.setStateBuf (s : State) (l : Nat) (b : Sparse Byte) : State :=
  { s with eng := { s.eng with states := Sparse.set (fun _ => []) s.eng.states l b } }

/-- What a state buffer holds at offset `i`. -/
def bufByte (b : Sparse Byte) (i : Nat) : Byte := Sparse.get (fun _ => 0) b i

/-! ## Exchange points (R20, R22) -/

def State.publish (s : State) (x : Nat) : State :=
  if x = 0xFFFF || s.eng.published.contains x then s
  else { s with eng := { s.eng with published := s.eng.published ++ [x] } }

/-- Whether task `tk` may start: it waits on nothing, or what it waits on is published. -/
def State.mayStart (s : State) (tk : Task) : Bool := tk.waits = 0xFFFF || s.eng.published.contains tk.waits

/-- Publish what a shadow's completed tasks hold, when its result is selected (R30). -/
def State.publishShadow (s : State) (y : Nat) : State :=
  (List.range (s.lane y).task).foldl (fun s k => match s.taskOf y k with | some tk => s.publish tk.publishes | none => s) s

/-! ## The mirror (R172 to R174) -/

/-- Bytes of a partition's parameter area as block N's set leaves them at the first sample of block N + 1 (R173): the
parameters' values at their offsets, the initial state's bytes between them. -/
def State.paramBytes (s : State) (im : Image) (q n : Nat) : List Byte :=
  let (lo, size) := im.paramArea q
  let st := match im.parts[q]? with | some p => p.stateSize | none => 0
  let vals := (im.params.zipIdx.filter fun x => x.1.partition = q).map fun x =>
    (x.1.offset - lo, leBytes (typeBytes x.1.type) (((s.param x.2).advance n).now x.1.type).toNat)
  (List.range size).map fun i =>
    match vals.find? fun v => decide (v.1 ≤ i ∧ i < v.1 + v.2.length) with
    | some v => v.2.getD (i - v.1) 0
    | none => s.byte (im.base + im.initOff q + st + i)

/-- The ramp records of a mirror (R173): one for each ramp that runs at the first sample of block N + 1. -/
def State.rampRecords (s : State) (im : Image) (q n : Nat) : List (List Byte) :=
  (im.params.zipIdx.filter fun x => x.1.partition = q).filterMap fun x =>
    ((s.param x.2).advance n).ramp.map fun r =>
      leBytes 2 x.2 ++ leBytes 1 r.kind ++ [0] ++ leBytes 4 r.pos ++ leBytes 4 r.len ++ leBytes 4 r.v0.toNat ++
        leBytes 4 r.v1.toNat ++ List.replicate 12 0

/-- Zeros up to a multiple of 64 bytes. -/
def pad64 (l : List Byte) : List Byte := l ++ List.replicate (up64 l.length - l.length) 0

/-- The body of a mirror: state, parameter area, ramp records, padding (R173). -/
def State.mirrorBody (s : State) (im : Image) (q l : Nat) : List Byte :=
  let st := match im.parts[q]? with | some p => p.stateSize | none => 0
  let b := s.stateBuf l
  pad64 (((List.range st).map fun i => bufByte b i) ++ s.paramBytes im q (blockSamples im.bsize) ++
    (s.rampRecords im q (blockSamples im.bsize)).flatten)

/-- The header of a mirror (R173). `flags`: bit 0 SHADOW, bit 1 SUSPENDED. -/
def State.mirrorHeader (s : State) (im : Image) (q l phys flags seq : Nat) (body : List Byte) : List Byte :=
  let st := match im.parts[q]? with | some p => p.stateSize | none => 0
  let h := [0x4D, 0x49, 0x52, 0x30] ++ leBytes 1 l ++ leBytes 1 phys ++ leBytes 2 q ++ leBytes 8 (s.eng.period.getD 0) ++
    leBytes 8 im.imageId ++ leBytes 4 st ++ leBytes 4 (im.paramArea q).2 ++
    leBytes 2 (s.rampRecords im q (blockSamples im.bsize)).length ++ leBytes 2 flags ++ leBytes 4 (crc32c body).toNat ++
    leBytes 4 seq ++ List.replicate 16 0
  h ++ leBytes 4 (crc32c h).toNat

def State.mirrors (s : State) (l : Nat) : List MirrorRun := Sparse.get (fun _ => []) s.eng.mirror l

def State.setMirrors (s : State) (l : Nat) (m : List MirrorRun) : State :=
  { s with eng := { s.eng with mirror := Sparse.set (fun _ => []) s.eng.mirror l m } }

/-- Words of Depot that cannot be written now: a Depot write fails (R174). -/
def State.depotFails (s : State) (a n : Nat) : Bool := (wordsOf a n).any fun w => s.busError (8 * w) true

/-- Write a mirror's bytes, with new check bits. -/
def State.putMirror (s : State) (a : Nat) (bytes : List Byte) : State :=
  (wordsOf a bytes.length).foldl (fun s w => s.setErr w .good) (s.setBytes a bytes)

/-- The mirror slot the next mirror of logical lane `l` writes: the one that does not hold the newest valid mirror, slot 0 when none
is (R172). -/
def State.freeSlot (s : State) (l : Nat) : Nat := if s.get (BSQ_MIRROR_NEWEST l) = 1 then 1 else 0

/-- The mover takes up the oldest mirror of logical lane `l`: the body goes over the slot's, whose old header then covers other
bytes (R174). -/
def State.mirrorBegins (s : State) (im : Image) (q l : Nat) : State :=
  match s.mirrors l with
  | [] => s
  | m :: rest =>
    let slot := s.freeSlot l
    let a := s.mirrorAddr l slot (im.slotLen q) + 64
    if m.begun || s.depotFails a m.body.length then s
    else
      let s := (s.putMirror a m.body).setMirrors l ({ m with begun := true } :: rest)
      { s with eng := { s.eng with mirrorAt := Sparse.set (fun _ => 0) s.eng.mirrorAt (2 * l + slot) 0 } }

/-- Start the mirror of a commit (R24, R172). -/
def State.startMirror (s : State) (im : Image) (q l phys flags : Nat) : State :=
  let seq := (Sparse.get (fun _ => 0) s.eng.mirrorSeq l + 1) % 2 ^ 32
  let body := s.mirrorBody im q l
  let head := s.mirrorHeader im q l phys flags seq body
  let s := s.setMirrors l (s.mirrors l ++ [{ block := s.eng.period.getD 0, body := body, header := head }])
  State.mirrorBegins { s with eng := { s.eng with
      mirrorSeq := Sparse.set (fun _ => 0) s.eng.mirrorSeq l seq
      bodyCrc := Sparse.set (fun _ => 0) s.eng.bodyCrc l (crc32c body) } } im q l

/-- The partition of the running image on logical lane `l`. -/
def Image.partOn (im : Image) (l : Nat) : Option Nat :=
  match im.lanes.zipIdx.find? fun x => x.1 = l with | some x => some x.2 | none => none

/-- The oldest mirror under way of logical lane `l` ends: its header goes last (R174). It fails while a Depot bank is not ON. -/
def State.mirrorDone (s : State) (im : Image) (q l : Nat) : State :=
  match s.mirrors l with
  | [] => s
  | m :: rest =>
    let slot := s.freeSlot l
    let a := s.mirrorAddr l slot (im.slotLen q)
    if !m.begun then s.mirrorBegins im q l
    else if s.depotFails a 64 then s
    else
      let s := ((s.putMirror a m.header).setMirrors l rest).put (BSQ_MIRROR_NEWEST l) (slot + 1)
      State.mirrorBegins { s with eng := { s.eng with mirrorAt := Sparse.set (fun _ => 0) s.eng.mirrorAt (2 * l + slot) (m.block + 1) } } im q l

/-- At C_N: a mirror that was under way at the last C_N stops as late, its header unwritten, and the next proceeds (R174). -/
def State.lateMirrors (s : State) (im : Image) : State :=
  (List.range im.parts.length).foldl (fun s q =>
    let l := im.lanes.getD q 0
    let ms := s.mirrors l
    let s := s.bumpBy (BSQ_LANE_REC_MIRROR_LATE (s.lanePhys im q)) (ms.filter (·.old)).length
    (s.setMirrors l ((ms.filter fun m => !m.old).map fun (m : MirrorRun) => { m with old := true })).mirrorBegins im q l) s

/-! ## Clock gating and completion -/

/-- A lane clock-gates: BUDGET stops, CYCLE with it (R57, R74). -/
def State.restLane (s : State) (p : Nat) : State :=
  s.onTriad (p + 1) fun x =>
    { x with budget := BitVec.ofNat 64 (x.budget.toNat % 2 ^ 32), run := if x.run = .running then .waiting else x.run }

/-- Latest end of a lane period's last task, in units of 0.5 % of the block period (BSQ.LANE_STAT.PEAK). -/
def State.notePeak (s : State) (p : Nat) : State :=
  let v := satCount 8 ((s.time - s.eng.periodAt) * 200 / max 1 s.periodNs)
  if s.get (BSQ_LANE_STAT_PEAK p) < v then s.put (BSQ_LANE_STAT_PEAK p) v else s

/-- Task `k` of lane `p` ends with a clean record (R22): its outputs and state become a replay point; they are published at
its exchange point, a shadow's only when it is selected (R30); the next task follows, or the lane clock-gates. -/
def State.taskDone (s : State) (p : Nat) (outs : List OutSample) (fresh : Sparse Byte) : State :=
  let l := s.lane p
  match s.partOf p, s.taskOf p l.task with
  | some pt, some tk =>
    let s := s.onLane p fun l => { l with
      outs := l.outs ++ outs, fresh := overlay l.fresh fresh, exc := none, first := none, task := l.task + 1 }
    let selected := match (s.layby p).home with | some h => (s.lane h).phase = .failed | none => false
    let s := if s.isShadow p && !selected then s else s.publish tk.publishes
    if l.task + 1 < pt.tasks then
      (s.setPhase p .waiting).onTriad (p + 1) fun x => { x with budget := BitVec.ofNat 64 (x.budget.toNat % 2 ^ 32) }
    else
      let s := ((s.setPhase p .finished).restLane p).notePeak p
      s.onLane p fun l => { l with task := pt.tasks - 1 }
  | _, _ => s

/-! ## The commit gate (R24, R30) -/

/-- Commit logical lane `l`'s block from the run on lane `src`: its outputs wait for O_N, its new state becomes the checkpoint
state, its mirror starts. `home` is the lane the partition runs on. -/
def State.commitFrom (s : State) (im : Image) (q l home src : Nat) : State :=
  let r := s.lane src
  let s := if r.phase = .suspended then s else s.setStateBuf l (overlay (s.stateBuf l) r.fresh)
  let s := s.onLane home fun h => { h with committed := true, outs := r.outs, via := some src }
  s.startMirror im q l src ((if src = home then 0 else 1) + (if r.phase = .suspended then 2 else 0))

/-- The lane's own result is committed: a fault shadow is stopped (R30, R168). -/
def State.commitOwn (s : State) (im : Image) (q l p : Nat) : State :=
  let s := s.commitFrom im q l p p
  match (s.lane p).shadow with
  | some y => s.dropShadow y
  | none => s

/-- The block is committed from shadow `y` (R30, R175). -/
def State.commitShadow (s : State) (im : Image) (q l home y : Nat) : State :=
  let s := (s.publishShadow y).commitFrom im q l home y
  (s.bump (BSQ_LANE_REC_SHADOW_COMMITS home)).drive (36 + 8 * home) (s.shadowCause home y)

/-- Whether a lane's run has ended with a clean record. -/
def LaneRun.clean (l : LaneRun) : Bool := l.phase = .finished && !l.fault && l.exc.isNone

/-- A lane that has failed for the block takes its shadow's published data, and its result when that is complete (R30). -/
def State.selectShadow (s : State) (p : Nat) : State :=
  match s.eng.running, (s.lane p).shadow with
  | some im, some y =>
    if (s.lane p).phase ≠ .failed then s
    else
      let s := s.publishShadow y
      if (s.lane y).clean && !(s.lane p).committed
      then s.commitShadow im (s.lane p).part (s.lane p).logical p y
      else s
  | _, _ => s

/-! ## Failures (R23, R34, R35) -/

/-- Undo the tasks of lane `p` from task `k` on (R34): back to its replay point. -/
def State.rollBack (s : State) (p k : Nat) : State :=
  match (s.lane p).points.find? fun x => x.1 = k with
  | some (_, outs, fresh) => s.onLane p fun l => { l with outs := outs, fresh := fresh }
  | none => s

/-- Code of TASK_BUDGET_OVERRUN (R107). -/
def overrunCode : Nat := 0x21

/-- The deterministic task exception of R35: the task's outputs are zero, its state is carried, later tasks run. -/
def State.deterministic (s : State) (p : Nat) (e : TaskExc) : State :=
  let s := (s.leaveTask p false).drive (37 + 8 * p) (s.laneRaise p e.cause e.pc (s.triad (p + 1)).eval)
  let s := s.onLane p fun l => { l with fault := false }
  s.taskDone p [] []

/-- A replay of lane `p` has failed: counted, and reported on the lane replay channel (R161, R175). -/
def State.replayFailed (s : State) (p : Nat) : State :=
  (s.bump (BSQ_LANE_REC_REPLAY_FAILS p)).drive (34 + 8 * p) (s.laneCause p)

/-- A replay that disagrees with the first run (R35): the replay has failed; a shadow starts only when the test of R161
item 3, with the allowance A added, allows it. -/
def State.replayDisagrees (s : State) (p : Nat) : State :=
  let allow := match s.eng.running with | some im => if im.laybyIdle = 1 then 3000 else 22000 | none => 0
  let room := match s.partOf p, s.taskOf p (s.lane p).task with
    | some pt, some tk => decide (s.time + allow + (pt.wNs - tk.sNs) ≤ s.periodEnd)
    | _, _ => false
  let s := s.replayFailed p
  if room then s.laneFail p
  else (s.setPhase p .failed).onLane p fun l => { l with fault := true }

/-- What a failure of the running task leads to, by its cause (R29, R34, R35, R161). -/
def State.actOnFailure (s : State) (p : Nat) (c : FailCause) : State :=
  let l := s.lane p
  match c with
  | .check => s.taskFailure p l.task none
  | .uncorrectable none => s.taskFailure p l.task none
  | .uncorrectable (some w) =>
    if w.toNat < l.task then
      -- a shadow that started after the bad data was written holds it (R34)
      let s := match l.shadow with | some y => s.dropShadow y | none => s
      (s.rollBack p w.toNat).taskFailure p w.toNat none
    else s.taskFailure p l.task none
  | .exception cause pc =>
    let e : TaskExc := ⟨cause.toNat, pc⟩
    -- an error on data the lane read, or CHECK_FAILURE, is a failed check and no task exception (R23)
    if isCheckCause e.cause || e.cause = 0x22 then s.taskFailure p l.task none
    else if s.isShadow p then s.shadowFail p
    else if l.phase = .running then s.taskFailure p l.task (some e)
    else match l.first with
      | some f =>
        if f.cause = e.cause && (e.cause = overrunCode || f.pc = e.pc) then s.deterministic p e else s.replayDisagrees p
      | none => s.replayDisagrees p

/-- The lane executive takes a failure of the running task of lane `p`; a lane that has then failed for the block takes its
shadow's result (R30). -/
def State.takeFailure (s : State) (p : Nat) (c : FailCause) : State :=
  match (s.lane p).phase with
  | .running | .replaying => ((s.failureTaken p c).actOnFailure p c).selectShadow p
  | _ => s

end Sys2Proof.Machine
end

