-- ==== Sys2Proof/Machine/Switch.lean ====
section
/-! DEFINITION. Machine/Switch.lean: an image takes the lanes: staging, switches without a gap and cold switches, stops,
deferral and abort (R53, R54, R62 to R67, R197). -/
namespace Sys2Proof.Machine

/-! ## Progress -/

/-- BSQ.SWITCH_STATE.STEP changes: event 41, host vector 27 (R65, R305, R404). -/
def State.setStep (s : State) (k : Nat) : State :=
  if s.get BSQ_SWITCH_STATE_STEP = k then s else ((s.put BSQ_SWITCH_STATE_STEP k).pulse 41).irq 27

/-- K of R62: blocks in which 4 GB/s move the `f` bytes of a footprint, for an image's rate and block size. -/
def leadBlocks (f rate bsize : Nat) : Nat :=
  let d := 4000000000 * blockSamples bsize
  (f * rateHz rate + d - 1) / d

/-- K of a pending image: F is its largest footprint. -/
def Image.lead (im : Image) : Nat := leadBlocks (im.parts.foldl (fun m p => max m p.footprint) 0) im.rate im.bsize

/-! ## Placement at a switch (R53, R66, R171) -/

/-- The physical lane of each logical lane an image uses: the Layby lane it already runs on, else its own lane, else a free
Layby lane (R53, R66). One that finds neither its own lane in service nor a Layby lane, since it was checked, is put on its own lane, which
runs nothing (DESIGN CHOICE). -/
def State.placement (s : State) (im : Image) : List (Nat × Nat) :=
  let ls := (List.range 16).filter im.lanes.contains
  let held := ls.filterMap fun l => if s.flag (BSQ_LANE_MAP_ON_LAYBY l) then some (s.get (BSQ_LANE_MAP_PHYS l)) else none
  ls.foldl (fun m l =>
    let y := if s.flag (BSQ_LANE_MAP_ON_LAYBY l) then s.get (BSQ_LANE_MAP_PHYS l)
             else (physFor s.eng.outOfService (held ++ m.map Prod.snd) l).getD l
    m ++ [(l, y)]) []

/-- Wake the clusters a pending image needs and that do not run (R57, R65 step 2, R363). -/
def State.wakeFor (s : State) (im : Image) : State :=
  ((s.placement im).map fun x => x.2 / 2).foldl (fun s c => if s.get (PWR_CLUSTER_STATE c) = 3 then s else s.wakeCluster c) s

/-! ## Express programs (R189, R197) -/

/-- The routing points of express channels that run no program read 0. -/
def State.silence (s : State) (cs : List Nat) : State :=
  let gone (p : Nat) : Bool := decide (0x4200 ≤ p ∧ p < 0x4280) && cs.contains ((p - 0x4200) / 2)
  { s with points := s.points.filter fun e => !gone e.1, jct := { s.jct with before := s.jct.before.filter fun e => !gone e.1 },
           exp := { s.exp with late := s.exp.late.filter fun e => !gone e.1 } }

/-- The express channels take the programs of an image: a channel carries its state, its current values and ramps among it (R194), when
both programs set KEEP_STATE and have equal stages; otherwise it starts at zero (R197). -/
def State.setExpress (s : State) (im : Image) : State :=
  let keeps (p : ExpProg) : Bool := match s.exp.progs.find? fun o => o.channel = p.channel with
    | some o => decide (o.flags / 2 % 2 = 1 ∧ p.flags / 2 % 2 = 1 ∧ o.stagesA = p.stagesA ∧ o.stagesB = p.stagesB)
    | none => false
  let kept := (im.express.filter keeps).map (·.channel)
  let s := { s with exp := { s.exp with
    progs := im.express
    chans := s.exp.chans.filter fun e => kept.contains e.1
    inp := s.exp.inp.filter fun e => kept.contains (e.1 / 2) } }
  let s := (List.range 64).foldl (fun s c =>
    s.put (EXP_MAP_PROGRAMMED c) (if im.express.any fun p => p.channel = c then 1 else 0)) s
  let on := (List.range 8).foldl (fun m b => if im.express.any fun p => p.channel / 8 = b then m + 2 ^ b else m) 0
  (s.put EXP_STATUS_ON (if im.express.isEmpty then 0 else on + 2 ^ 8)).initExpressParams im kept
    |>.silence ((List.range 64).filter fun c => !im.express.any fun p => p.channel = c)

/-- No express channel runs (R63, R197). -/
def State.stopExpress (s : State) : State :=
  let s := { s with exp := { s.exp with progs := [], chans := [], inp := [] } }
  (((List.range 64).foldl (fun s c => s.put (EXP_MAP_PROGRAMMED c) 0) s).put EXP_STATUS_ON 0).silence (List.range 64)

/-! ## Taking the lanes (R65 step 6) -/

/-- The lane map and the Layby lanes under an image's placement. -/
def State.mapLanes (s : State) (im : Image) : State :=
  let pl := s.placement im
  let s := (List.range 16).foldl (fun s l =>
    match pl.find? fun x => x.1 = l with
    | some x => (s.put (BSQ_LANE_MAP_PHYS l) x.2).put (BSQ_LANE_MAP_ON_LAYBY l) (if 16 ≤ x.2 then 1 else 0)
    | none => (s.put (BSQ_LANE_MAP_PHYS l) l).put (BSQ_LANE_MAP_ON_LAYBY l) 0) s
  let s := [16, 17].foldl (fun s y =>
    match pl.find? fun x => x.2 = y with
    | some x =>
      let use := s.get (laybyUse y)
      (((s.put (laybyUse y) (if use = 4 ∨ use = 5 then use else 3)).put (laybyLogical y) x.1).put (laybySettled y) 1).setLayby y {}
    | none => (((s.put (laybyUse y) 0).put (laybyLogical y) 0).put (laybySettled y) 0).setLayby y {}) s
  (List.range 18).foldl (fun s p =>
    let parked := decide (p < 16) && (pl.any fun x => x.1 = p && x.2 ≠ p)
    (s.put (BSQ_LANE_STAT_STATE p)
      (if s.eng.outOfService.contains p then 5 else if parked then 6 else 0)).setRoute p) s

/-- A partition's first checkpoint under a new image: the state the running image committed under the same nonzero
STATE_KEY and STATE_SIZE, else its initial state (R65 step 6). -/
def State.firstState (s : State) (im : Image) (old : Option Image) (q : Nat) (p : Partition) : Sparse Byte :=
  let carried := old.bind fun o =>
    (o.parts.zipIdx.find? fun x => p.stateKey ≠ 0 && x.1.stateKey = p.stateKey && x.1.stateSize = p.stateSize).map
      fun x => s.stateBuf (o.lanes.getD x.2 0)
  carried.getD (overlay [] ((List.range p.stateSize).map fun i => (i, s.byte (im.base + im.initOff q + i))))

/-- A partition's code, PLACE 0 coefficient sets, initial state and parameter area, copied to one of its two areas on lane `y`
(R47, R65 step 2): `key` is the area's. -/
def State.stageLane (s : State) (im : Image) (y key q : Nat) (p : Partition) : State :=
  let s := s.setBytes (Config.codeBase y key) (s.bytes (im.codeOff q) p.codeSize)
  let s := (im.coefsFor q 0).foldl (fun s x =>
    s.setBytes (Config.areaBase y key (8 + x.2)) (s.bytes (im.base + x.1.off + 32) x.1.bytes)) s
  let s := s.setBytes (Config.areaBase y key 0) (s.bytes (im.base + im.initOff q) p.stateSize)
  s.setBytes (Config.areaBase y key 1) (s.bytes (im.base + im.initOff q + p.stateSize) (im.paramArea q).2)

/-- Every partition of the pending image to its lane, in the area the running image does not use. -/
def State.stageImage (s : State) (im : Image) : State :=
  let pl := s.placement im
  im.parts.zipIdx.foldl (fun s x =>
    match pl.find? fun y => y.1 = im.lanes.getD x.2 16 with
    | some y => s.stageLane im y.2 (2 * x.2 + (1 - s.eng.area)) x.2 x.1
    | none => s) s

/-- A partition stands on its lane, restaged where it moved after its staging (R66), with the lane's expected counts (R336). -/
def State.loadLane (s : State) (im : Image) (q : Nat) (p : Partition) : State :=
  let y := s.lanePhys im q
  let s := s.stageLane im y (s.partKey q) q p
  (List.range 256).foldl (fun s k =>
    s.put (WMK_EXPECT_EXPECT y k)
      (if k < p.tasks then (match im.tasks[p.firstTask + k]? with | some t => t.waymarks | none => 0) else 0)) s

/-- The mirror slots of an image's lanes (R172). -/
def State.loadMirrors (s : State) (im : Image) : State :=
  let s := (List.range 16).foldl (fun s l => s.setReg (BSQ_MIRROR l) 0) s
  let s := (List.range im.parts.length).foldl (fun s q =>
    s.put (BSQ_MIRROR_BASE (im.lanes.getD q 0)) (im.mirrorOff q / 64)) s
  { s with eng := { s.eng with mirror := [], mirrorSeq := [], mirrorAt := [], bodyCrc := [], bodyPrev := [] } }

/-- JCT.STATUS and JCT.PORT_LOAD of the schedule in force (R178, R183, R482). -/
def State.loadSchedule (s : State) (im : Image) : State :=
  let adapters := im.routes.any fun r => s.sourceRate im r.source ≠ s.destRate im r
  let s := (s.put JCT_STATUS_SCHED_VALID 1).put JCT_STATUS_ADAPTERS (if adapters then 1 else 0)
  (List.range 48).foldl (fun s k => s.put (JCT_PORT_LOAD_LOAD k) (s.portLoad im (s.lanePhys im) k)) s

/-- An image begins to run, in the scratchpad areas it was staged in, with its Layby idle state and operating points (R54, R65 step 6). The
express channels have its programs already. Its PLACE 2 sets go to DRAM (DESIGN CHOICE: the spec names no instant). The image it replaces
keeps its Depot bytes until C_S. -/
def State.takeImage (s : State) (im : Image) : State :=
  let old := s.eng.running
  let states := im.parts.zipIdx.map fun x => (im.lanes.getD x.2 0, s.firstState im old x.2 x.1)
  let s := s.mapLanes im
  let s := { s with eng := { s.eng with
    running := some im, pending := none, old := old, area := 1 - s.eng.area, lanes := [], idle := [], testing := [] } }
  let s := states.foldl (fun s x => s.setStateBuf x.1 x.2) { s with eng := { s.eng with states := [] } }
  let s := (im.parts.zipIdx.foldl (fun s x => s.loadLane im x.2 x.1) ((s.placeDram im).initParams im)).loadMirrors im
  let s := (((s.put BSQ_CONFIG_IMAGE_TAG im.imageId).put BSQ_CONFIG_PARTITIONS im.parts.length).put
    BSQ_CONFIG_LAYBY_READY im.laybyIdle).put BSQ_CONFIG_BSIZE im.bsize
  (((((s.put BSQ_CONFIG_RATE im.rate).put BSQ_STATUS_RUNNING 1).loadSchedule im).laybyIdle im).setOps im).keepWindow.tellVersion

/-- Prosal reports to the host that a park or a return is cancelled (R171): host vector 27, as for a deferral (DESIGN CHOICE: R171 names no
vector). -/
def State.parkCancelled (s : State) : State := s.irq 27

/-- A graph switch at block `b` cancels the planned moves from `b` on (R171 item 6). -/
def State.cancelParks (s : State) (b : Nat) : State :=
  let gone := s.eng.parks.filter fun k => decide (b ≤ k.block)
  let s := (gone.filter fun k => k.back).foldl (fun s k => s.put (laybyUse k.layby) k.use) s
  let s := if gone.isEmpty then s else s.parkCancelled
  s.onEng fun e => { e with parks := e.parks.filter fun k => decide (k.block < b) }

/-- No image runs: at C_{S−1} of a cold switch or a stop (R63, R415). -/
def State.stopImage (s : State) : State :=
  let t := s.frameTime s.blockN 0
  let s := s.onEng fun e => { e with epochN := s.blockN, epochT := t }
  let s := ((s.cancelParks 0).setReg BSQ_CONFIG 0).put BSQ_STATUS_RUNNING 0
  let s := ((s.put JCT_STATUS_SCHED_VALID 0).put JCT_STATUS_ADAPTERS 0).stopExpress
  let s := (List.range 48).foldl (fun s k => s.setReg (JCT_PORT_LOAD k) 0) s
  let s := (List.range 18).foldl (fun s p =>
    if s.get (BSQ_LANE_STAT_STATE p) = 5 || s.get (BSQ_LANE_STAT_STATE p) = 6 then s
    else (s.restLane p).put (BSQ_LANE_STAT_STATE p) 0) s
  let s := [16, 17].foldl (fun s y => s.dropShadow y) s
  State.keepWindow { s with eng := { s.eng with
    running := none, old := none, lanes := [], states := [], mirror := [], mirrorAt := [], idle := [], published := [],
    due := none, period := none, stopAfter := none, testing := [] } }

/-! ## Staging, deferral, abort -/

/-- Staging begins (R65 steps 1 and 2). -/
def State.beginStaging (s : State) (im : Image) (w : Switch) : State :=
  ({ s with eng := { s.eng with switch := some { w with staging := true } } }).wakeFor im

/-- A pending switch moves to block `b`: SWITCH_DEFERRED, and the report to the host (R66). -/
def State.putSwitch (s : State) (w : Switch) (b : Nat) : State :=
  (((s.onEng fun e => { e with switch := some { w with block := b } }).put64 BSQ_SWITCH_LO b).put BSQ_STATUS_SWITCH_DEFERRED 1).irq 27

/-- The device defers its own switch to block `b`, and tells its twin (R66, R385). -/
def State.moveSwitch (s : State) (w : Switch) (b : Nat) : State :=
  let s := s.putSwitch w b
  if 2 ≤ s.get SOV_STATUS_ROLE && !w.alone then s.sendCmd 3 0 0 b 0 else s

/-- A partition of the pending image moved to another lane in lane period `m`: its restage takes K lane periods, and moves
the switch when it cannot end by S − 2 (R66). A move at C_{S−1} itself, for a lane lost in lane period S − 1, lies outside the moves R66
names; it is treated in the same way, so the switch goes to block m + K + 1 (DESIGN CHOICE). -/
def State.deferSwitch (s : State) (l m : Nat) : State :=
  match s.eng.switch, s.eng.pending with
  | some w, some im =>
    if !w.hot || !w.staging || !im.lanes.contains l then s
    else
      let k := im.lead
      if m + k + 1 ≤ w.block then s.onEng fun e => { e with switch := some { w with restage := m + k } }
      else
        s.moveSwitch { w with restage := m + k } (m + k + 1)
  | _, _ => s

/-- Whether the host may still abort the pending switch: lane period S − 1 has not begun, which for a held switch has no time yet (R67). A
switch that a preset finds past that point stays past it. -/
def State.mayAbort (s : State) : Bool :=
  match s.eng.switch with
  | some w => w.held || (s.eng.pending.isSome && !s.eng.presetApplied && (s.eng.seqRate = 0 || decide (s.blockA + 1 < w.block)))
  | none => true

/-- The pending image and its switch are discarded (R67, R230 item 7); the running image continues untouched. -/
def State.abortSwitch (s : State) : State :=
  let s := match s.eng.running with
    | some im => if s.exp.progs = im.express then s else s.setExpress im
    | none => s
  let s := ((s.onEng fun e => { e with pending := none, switch := none, released := false }).put BSQ_SWITCH_STATE_K 0)
  (s.keepWindow.setStep 0).gateAll.settlePower

/-- The image whose routing table delivers input samples at block `n` (R65 step 4). -/
def State.inputImage (s : State) : Option Image :=
  match s.eng.switch, s.eng.pending with
  | some w, some im => if w.hot && !w.held && decide (w.block ≤ s.blockN) then some im else s.eng.running
  | _, _ => s.eng.running

/-! ## Acceptance (R62 to R64, R385, R415) -/

/-- Whether a pending image can replace the running one without a gap (R63, R64): on every cluster the footprints of both fit
in 4 MiB. -/
def State.hotPossible (s : State) (im : Image) : Bool :=
  match s.eng.running with
  | none => false
  | some r =>
    r.flags % 2 = 1 && im.flags % 2 = 1 && r.rate = im.rate && r.bsize = im.bsize &&
      (let pl := s.placement im
       (List.range 9).all fun c =>
         let now : Nat := (r.parts.zipIdx.map fun (x : Partition × Nat) => if s.lanePhys r x.2 / 2 = c then x.1.footprint else 0).sum
         let then_ : Nat := (im.parts.zipIdx.map fun (x : Partition × Nat) =>
           match pl.find? fun y => y.1 = im.lanes.getD x.2 16 with
           | some y => if y.2 / 2 = c then x.1.footprint else 0
           | none => 0).sum
         decide (now + then_ ≤ 0x400000))

/-- With no image running, the count goes on in blocks of a pending image (R16, R63): from the number it last carried, on the
frame boundaries at multiples of its block size; floor(n / B) under PTP lock. -/
def State.countIn (s : State) (im : Image) : State :=
  if s.eng.running.isSome || (s.eng.seqRate = im.rate && s.eng.seqB = im.bsize) then s
  else
    let fs := rateHz im.rate
    let b := blockSamples im.bsize
    let k := if s.ptpLocked then 0 else s.eng.epochT * fs / (b * 1000000000)
    let n := if s.ptpLocked then 0 else s.eng.epochN
    let t := if fs = 0 then 0 else (k * b * 1000000000 + fs - 1) / fs
    let s := s.onEng fun e => { e with epochN := n, epochT := t, seqRate := im.rate, seqB := im.bsize }
    s.put64 BSQ_BLOCK_LO (n + (s.time - t) * fs / (b * 1000000000))

/-- The earliest switch block of a pending image (R62). -/
def State.earliestSwitch (s : State) (im : Image) : Nat := s.blockA + im.lead + 2

/-- Staging of an accepted switch is let begin (R65 step 1): STEP = 2; without a gap it begins with the next lane period, cold once no
image runs. -/
def State.letStage (s : State) (im : Image) (w : Switch) : State :=
  let s := (s.onEng fun e => { e with switch := some w }).setStep 2
  if s.eng.running.isNone then s.beginStaging im w else s

/-- A switch to the pending image at block `b` is accepted (R62, R65 step 1). In host-assisted graph switch mode it waits for the
release after the load check (R67). -/
def State.acceptSwitch (s : State) (im : Image) (b : Nat) (hot alone : Bool) : State :=
  let wait := s.flag BSQ_CTRL_SWITCH_HOLD && !s.eng.released
  let w : Switch := { block := b, hot := hot, alone := alone, held := wait }
  let s := (s.cancelParks b).put64 BSQ_SWITCH_LO b
  if wait then s.onEng fun e => { e with switch := some w } else s.letStage im w

end Sys2Proof.Machine
end

