-- ==== Sys2Proof/Machine/Engine.lean ====
section
/-! DEFINITION. Machine/Engine.lean: what the block sequencer and the scheduler do at a block boundary and at C_N (R16 to R36,
R54 to R58, R62 to R66, R168 to R175, R417). -/
namespace Sys2Proof.Machine

/-! ## The running image's lanes -/

/-- The partitions of an image with their logical and physical lanes. -/
def State.placed (s : State) (im : Image) : List (Nat × Nat × Nat) :=
  (List.range im.parts.length).map fun q => (q, im.lanes.getD q 0, s.lanePhys im q)

/-! ## The end of lane period N (R28 to R36) -/

/-- What is still open on a lane at C_N: its replay has failed (R161 item 4), its window closes (R337), and its block is
committed from its own clean run or from a clean shadow (R24, R30, R56). -/
def State.settleLane (s : State) (im : Image) (q l p : Nat) : State :=
  let r := s.lane p
  let s := if r.phase = .replaying then s.replayFailed p else s
  let s := s.leaveTask p false
  if r.committed then s
  else if r.clean || r.phase = .suspended then s.commitOwn im q l p
  else match r.shadow with
    | some y =>
      let s := s.leaveTask y false
      if (s.lane y).clean then s.commitShadow im q l p y else s
    | none => s

/-- Take a lane out of service (R32). -/
def State.outLane (s : State) (p : Nat) : State :=
  let s := s.put (BSQ_LANE_STAT_STATE p) 5
  let s := if s.eng.outOfService.contains p then s else s.onEng fun e => { e with outOfService := e.outOfService ++ [p] }
  s.setRoute p

/-- Hardware sparing (R32, R169): the partition runs on Layby lane `y` from the next lane period; lane `p` is out of
service. -/
def State.spareLane (s : State) (l p y : Nat) : State :=
  let s := ((s.put (BSQ_LANE_MAP_PHYS l) y).put (BSQ_LANE_MAP_ON_LAYBY l) 1).outLane p
  let s := if isLayby p then ((s.put (laybyUse p) 0).put (laybyLogical p) 0).put (laybySettled p) 0 else s
  let s := ((s.put (laybyUse y) 3).put (laybyLogical y) l).put (laybySettled y) 0
  ((s.setLane p {}).setRoute y).deferSwitch l ((s.eng.period.getD 0) + 1)

/-- Copy the diverted granules of Layby lane `y` back to the home scratchpad (R168). -/
def State.copyBack (s : State) (y : Nat) : State :=
  match s.roadTo y with
  | none => s
  | some n =>
    let d := (s.layby y).divert
    let s := d.foldl (fun s e => s.setBytes (spmBase n + 64 * e.1) (s.bytes (spmBase 8 + 64 * (e.2 - 1)) 64)) s
    s.setLayby y { s.layby y with divert := [] }

/-- Host-assisted sparing (R32, R168): Layby lane `y` stands by with a shadow of every block. -/
def State.standLane (s : State) (l y : Nat) : State := ((s.put (laybyUse y) 2).put (laybyLogical y) l).copyBack y

/-- What follows the commit, or the loss, of lane `p`'s block (R32, R168): the lanes that sit out the next lane period are
collected. A lane whose block the standing shadow served because it sat out, or could not run, does not sit out another for it. -/
def State.afterCommit (st : State × List Nat) (x : Nat × Nat × Nat) : State × List Nat :=
  let (s, sit) := st
  let (_, l, p) := x
  let r := s.lane p
  match r.shadow with
  | none => st
  | some y =>
    if r.committed && r.via = some y then
      if !s.eng.hostSparing then (s.spareLane l p y, sit)
      else (s.standLane l y, if r.sat && s.get (laybyUse y) = 2 then sit else sit ++ [p])
    else (s.dropShadow y, sit)

/-- Prosal clears FCU.MUTE after the first image has committed its first block (R357). -/
def State.unmute (s : State) : State :=
  if s.eng.unmuted || !s.flag MBX_CTRL_PROSAL_UP then s else (s.setReg FCU_MUTE 0).onEng fun e => { e with unmuted := true }

/-- The block is released as a whole when every partition committed it (R36): its outputs wait for O_N. -/
def State.releaseBlock (s : State) (im : Image) (n : Nat) : State :=
  let outs := (s.placed im).flatMap fun x => (s.lane x.2.2).outs
  let s := s.unmute
  { s with eng := { s.eng with outs := s.eng.outs ++ [⟨n, s.frameTime s.blockN 3, outs, im⟩] } }

/-- Routing-table outputs of partition `q`, in index order. -/
def Image.outsOf (im : Image) (q : Nat) : List Nat :=
  (List.range 2048).filter fun i => im.routes.any fun r => r.source = 0x8000 + 2048 * q + i

/-- OUT_CRC of a partition's committed outputs (R374): the outputs the routing table names, by index and then time. -/
def laneOutCrc (im : Image) (q : Nat) (outs : List OutSample) : Word :=
  crc32c ((im.outsOf q).flatMap fun i => (List.range (blockSamples im.bsize)).flatMap fun j =>
    leBytes 4 (outSample outs (0x8000 + 2048 * q + i) j).toNat)

/-- The SYNC record of block `n` (R374), kept with the last eight. -/
def State.recordSync (s : State) (im : Image) (n : Nat) : State :=
  let pl := s.placed im
  let mask (f : Nat × Nat × Nat → Bool) : Nat := pl.foldl (fun m x => if f x then m + 2 ^ x.2.1 else m) 0
  let lanes16 (f : Nat → Nat → Nat → Word) : List Word := (List.range 16).map fun l =>
    match pl.find? fun x => x.2.1 = l with | some x => f x.1 x.2.1 x.2.2 | none => 0
  let (now, later) := s.sov.appliedAt.partition fun e => decide (e.1 ≤ n)
  let ap := now.foldl (fun m e => max m e.2) s.sov.applied
  let shadow := pl.any fun x => match (s.lane x.2.2).via with | some v => v ≠ x.2.2 | none => false
  let r : SyncRec :=
    { block := n, lanes := mask fun _ => true, uncommitted := mask fun x => !(s.lane x.2.2).committed
      flags := (if s.sov.repairMiss = 0 then 0 else 1) + (if s.sov.paramMiss then 2 else 0) + (if shadow then 4 else 0) +
        (if s.get SOV_STATUS_ROLE = 3 ∧ s.sov.expressAt.isNone then 8 else 0)
      boundary := s.frameTime n 0, paramApplied := ap
      expressCrc := match s.exp.crcs.find? fun e => e.1 = n with | some e => e.2 | none => 0
      outCrc := lanes16 fun q _ p => laneOutCrc im q (s.lane p).outs
      stateCrc := lanes16 fun _ l _ => Sparse.get (fun _ => 0) s.eng.bodyPrev l }
  let miss := s.sov.paramMiss
  let s := { s with sov := { s.sov with
      own := (r :: s.sov.own).take 8, applied := ap, appliedAt := later, syncGood := r.uncommitted = 0 && r.flags / 8 % 2 = 0
      repairMiss := s.sov.repairMiss - 1, paramMiss := false } }
  let s := s.sovSend 1 n (syncBody r)
  -- a missing update: the standby rejoins after the block commits (R384)
  if miss then s.loseLockstep else s

/-- Blocks in a row in which every partition of a cluster was suspended, counted as each block ends (R56). -/
def State.countIdle (s : State) (im : Image) : State :=
  (List.range 9).foldl (fun s c =>
    let here := (s.placed im).filter fun x => x.2.2 / 2 = c
    let quiet := !here.isEmpty && here.all fun x => (s.lane x.2.2).suspended
    s.onEng fun e => { e with
      idle := Sparse.set (fun _ => 0) e.idle c (if quiet then Sparse.get (fun _ => 0) e.idle c + 1 else 0) }) s

/-- The join on the primary (R393, R394): at C_J the snapshot opens; by C_J+2 every logical lane's mirror slot of commit J is
copied into its join area, and PHASE = 1. -/
def State.joinSnapshot (s : State) (im : Image) (n : Nat) : State :=
  match s.sov.join with
  | some j =>
    if s.get SOV_STATUS_ROLE ≠ 2 then s
    else if n = j then s.onSov fun v => { v with snapOpen := true, snapRead := [], joinLog := [] }
    else if n = j + 2 then
      let s := (s.placed im).foldl (fun s x =>
        match [0, 1].find? fun i => Sparse.get (fun _ => 0) s.eng.mirrorAt (2 * x.2.1 + i) = j + 1 && s.slotValid im x.1 x.2.1 i with
        | some i => s.setBytes (Config.joinArea x.2.1) (s.bytes (s.mirrorAddr x.2.1 i (im.slotLen x.1)) (im.slotLen x.1))
        | none => s) s
      s.put SOV_JOIN_PHASE 1
    else s
  | none => s

/-- C_N (R18, R24, R28, R36): every partition's block is settled. A block that every partition commits is released to the
output rings; otherwise none of its outputs is, and the takeover or the block-loss channel is raised. The lanes that sit out
the next lane period come with the state. -/
def State.settlePeriod (s : State) (im : Image) (n : Nat) : State × List Nat :=
  let pl := s.placed im
  let s := pl.foldl (fun s x => s.settleLane im x.1 x.2.1 x.2.2) s
  let all := pl.all fun x => (s.lane x.2.2).committed
  let s := if all then s.releaseBlock im n 
    else if s.standbyReady then (s.drive 195).onSov fun v => { v with takeLoss := true } else s.drive 194
  let s := if s.paired then s.recordSync im n else s
  let s := s.joinSnapshot im n
  let s := { s with eng := { s.eng with bodyPrev := s.eng.bodyCrc } }
  pl.foldl State.afterCommit ((s.countIdle im).lateMirrors im, [])

/-! ## What else C_N brings -/

/-- Whether an image ends at C_N: GRAPH_STOP's last block has been settled, or a cold switch is due at `n` (R63, R415). -/
def State.imageEnds (s : State) (n : Nat) : Bool :=
  (match s.eng.stopAfter, s.eng.period with | some b, some m => decide (b ≤ m) | _, _ => false) ||
  (match s.eng.switch with | some w => s.eng.pending.isSome && !w.hot && !w.held && decide (w.block ≤ n) | none => false)

/-- C_{S−1} and C_S of a switch without a gap (R65 steps 6 and 9): at C_S the old image's Depot copy is freed. A switch that is not staged
in time moves on to the block that runs. -/
def State.hotSwitch (s : State) (n : Nat) : State :=
  match s.eng.switch, s.eng.pending with
  | some w, some im =>
    if !w.hot || w.held || decide (n < w.block) then s
    else if w.staged && decide (w.restage ≤ n) then ((if w.alone then (s.takeImage im).classNow else s.takeImage im)).setStep 4
    else s.moveSwitch w s.blockN
  | some w, none =>
    (match s.eng.period with
     | some m => if w.block ≤ m then (s.onEng fun e => { e with switch := none, old := none }).keepWindow.setStep 5 else s
     | none => s)
  | _, _ => s

/-- Copy the footprint of a partition into the Layby pool: every granule not yet diverted. False when the pool cannot hold
it (R169). -/
def State.divertAll (s : State) (y base : Nat) : Nat → State × Bool
  | 0 => (s, true)
  | n + 1 =>
    let (s, ok) := s.divertAll y base n
    if ok then s.divertGranule y (base + 64 * n) else (s, false)

/-- The Layby carries work: its cluster runs (R167, R171). -/
def State.runLayby (s : State) : State := if s.get (PWR_CLUSTER_STATE 8) = 3 then s else s.wakeDone 8

/-- A park takes effect at C_{P−1} (R171 items 3 and 5), or is cancelled when its Layby lane is not free. In host-assisted
sparing the standing shadow's lane takes the partition. -/
def State.takePark (s : State) (im : Image) (k : Park) : State :=
  match im.partOn k.logical with
  | none => s
  | some q =>
    let p := s.lanePhys im q
    let y := k.layby
    if s.get (laybyUse y) = 2 && s.get (laybyLogical y) = k.logical then s.spareLane k.logical p y
    else if p = y || !s.laybyFree y then s.parkCancelled
    else
      let size := match im.parts[q]? with | some x => x.footprint | none => 0
      let s0 := s.runLayby.setLayby y { home := some p, road := true, divert := [] }
      let (s1, ok) := s0.divertAll y (Config.codeBase p (s.partKey q)) ((size + 63) / 64)
      if !ok then s.parkCancelled
      else
        let s1 := s1.setLayby y { s1.layby y with road := false }
        let s1 := ((s1.put (laybyUse y) 4).put (laybyLogical y) k.logical).put (laybySettled y) 1
        let s1 := ((s1.put (BSQ_LANE_MAP_PHYS k.logical) y).put (BSQ_LANE_MAP_ON_LAYBY k.logical) 1)
        let s1 := (s1.setLane p {}).put (BSQ_LANE_STAT_STATE p) 6
        let s1 := if s1.memu.leaving.contains p then s1.outLane p else s1
        ((s1.setRoute p).setRoute y).deferSwitch k.logical k.block

/-- A return takes effect at C_{P−1} (R171): the home lane takes the checkpoint of block P. -/
def State.takeReturn (s : State) (k : Park) : State :=
  let y := k.layby
  let p := k.logical
  let s := s.copyBack y
  let s := (((s.put (laybyUse y) 0).put (laybyLogical y) 0).put (laybySettled y) 0).setLayby y {}
  let s := ((s.setLane y {}).put (BSQ_LANE_STAT_STATE y) 0).put (BSQ_LANE_STAT_STATE p) 0
  let s := (s.put (BSQ_LANE_MAP_PHYS k.logical) p).put (BSQ_LANE_MAP_ON_LAYBY k.logical) 0
  ((s.setRoute p).setRoute y).deferSwitch k.logical k.block

/-- The moves stamped for block `n`. -/
def State.takeParks (s : State) (im : Image) (n : Nat) : State :=
  let (now, later) := s.eng.parks.partition fun k => decide (k.block ≤ n)
  now.foldl (fun s k => if k.back then s.takeReturn k else s.takePark im k) { s with eng := { s.eng with parks := later } }

/-- The engine resets every triad that its voter failed, and its test begins (R160); in hardware sparing the lane is out of service. -/
def State.testLanes (s : State) : State :=
  (List.range 18).foldl (fun s p =>
    if (s.triad (p + 1)).run = .failed then
      let s := (s.resetTriad (p + 1) .running).setRoute p
      let s := if s.eng.hostSparing then s else s.outLane p
      s.onEng fun e => { e with testing := if e.testing.contains p then e.testing else e.testing ++ [p] }
    else s) s

/-- A change of the sparing mode stamped for block `n` or earlier: standing shadows end (R429). -/
def State.sparingMode (s : State) (n : Nat) : State :=
  match s.eng.sparingChange with
  | some (b, h) =>
    if n < b then s
    else
      let s := [16, 17].foldl (fun s y =>
        if s.get (laybyUse y) = 2 then (s.put (laybyUse y) 1).dropShadow y else s) s
      s.onEng fun e => { e with sparingChange := none, hostSparing := h }
  | none => s

/-! ## The checkpoint of block N (R21, R55 to R57) -/

/-- Whether a partition is suspended for the block whose parameter set is in force (R56). -/
def State.suspendedNow (s : State) (im : Image) (pt : Partition) : Bool :=
  pt.suspendParam ≠ 0xFFFF &&
    (let ty := im.keyType pt.suspendParam
     suspends ty ((s.param pt.suspendParam).now ty))

/-- Whether lane `p` cannot run a block: out of service, under test, failed or halted, or its cluster not in RUN (R57, R160). -/
def State.cannotRun (s : State) (p : Nat) : Bool :=
  s.eng.outOfService.contains p || s.eng.testing.contains p || (s.triad (p + 1)).run = .nested ||
    s.get (PWR_CLUSTER_STATE (p / 2)) ≠ 3

/-- The samples of the block whose inputs are complete, of every input of partition `q`, from its input rings: by input × B + sample. -/
def State.blockInputs (s : State) (im : Image) (q : Nat) : Sparse Word :=
  let b := blockSamples im.bsize
  (im.routes.filter fun r => r.kind = 0 && r.unit = q).foldl (fun m r =>
    ((Sparse.get (fun _ => []) s.jct.ring (destKey 0 q r.index)).take b).zipIdx.foldl (fun m x =>
      Sparse.set (fun _ => 0) m (b * r.index + (b - 1 - x.2)) x.1) m) []

/-- The lane of partition `q` at the start of the lane period: suspended, sitting out or unable to run, or waiting for its
first task; a standing shadow runs beside it from the checkpoint (R21, R32, R56, R57). -/
def State.startLane (s : State) (im : Image) (sit : List Nat) (x : Nat × Nat × Nat) : State :=
  let (q, l, p) := x
  let susp := match im.parts[q]? with | some pt => s.suspendedNow im pt | none => true
  let bad := sit.contains p || s.cannotRun p
  let stand := [16, 17].find? fun y => s.get (laybyUse y) = 2 && s.get (laybyLogical y) = l
  let ph : LanePhase := if susp then .suspended else if bad then .failed else .waiting
  let ins := s.blockInputs im q
  let s := (s.setLane p { logical := l, part := q, since := s.time, shadow := if susp then none else stand,
                          suspended := susp, sat := bad, inputs := ins }).setPhase p ph
  if susp then s.restLane p
  else match stand with
    | some y => (s.setLane y { logical := l, part := q, since := s.time, inputs := ins }).setPhase y .waiting
    | none => if bad then s.startShadow p else s

/-- Wakes that begin at the start of lane period `n` for partitions whose suspension an update for block n + 1 clears (R57). -/
def State.wakeSuspended (s : State) (im : Image) (n : Nat) : State :=
  (s.placed im).foldl (fun s x =>
    match im.parts[x.1]? with
    | some pt =>
      let id := match im.params[pt.suspendParam]? with | some a => a.id | none => 0
      let clears := pt.suspendParam ≠ 0xFFFF && s.eng.updates.any fun u =>
        u.id = id && !suspends (im.keyType pt.suspendParam) u.value && decide (u.block ≤ n + 1)
      if clears && s.get (PWR_CLUSTER_STATE (x.2.2 / 2)) = 1 && !(s.eng.hostPower && s.get (PWR_CLUSTER_PIN (x.2.2 / 2)) ≠ 0)
      then (s.wakeCluster (x.2.2 / 2)).onEng fun e => { e with idle := Sparse.set (fun _ => 0) e.idle (x.2.2 / 2) 0 } else s
    | none => s) s

/-- The checkpoint of block `n` (R21): the parameter set, and every lane at its first replay point. After a preset the updates
wait for the first block that carries the new count (R17). -/
def State.checkpoint (s : State) (im : Image) (n : Nat) (sit : List Nat) : State :=
  let b := blockSamples im.bsize
  let s := if s.eng.presetApplied then
      let held := s.eng.updates
      let s := ({ s with eng := { s.eng with updates := [], presetApplied := false } }).parameterApply im n b
      s.onEng fun e => { e with updates := held }
    else s.parameterApply im n b
  let s := { s with eng := { s.eng with period := some n, periodAt := s.time, published := [], due := none } }
  let s := (s.placed im).foldl (fun s x => s.startLane im sit x) s
  s.wakeSuspended im n

/-- Staging of a pending image begins at the start of the lane period after the acceptance (R65 step 2). -/
def State.stagingStart (s : State) : State :=
  match s.eng.switch, s.eng.pending with
  | some w, some im => if w.hot && !w.staging && !w.held then s.beginStaging im w else s
  | _, _ => s

/-- The standby records block `n` and runs no lane (R393); a backlog over 4,096 blocks is for JOIN_FAIL (R395). -/
def State.recordBlock (s : State) (n : Nat) : State :=
  (s.bump SOV_JOIN_BACKLOG).onSov fun v => { v with recorded := n }

/-- A recorded block that every partition has committed gives way to the next (R395); outputs are discarded. -/
def State.catchUp (s : State) : State :=
  match s.eng.running, s.eng.period with
  | some im, some m =>
    if s.catching && s.get SOV_JOIN_PHASE = 2 && (s.placed im).all fun x => (s.lane x.2.2).committed then
      let (s, sit) := s.settlePeriod im m
      let s := (s.put SOV_JOIN_BACKLOG (s.get SOV_JOIN_BACKLOG - 1)).onEng fun e => { e with outs := [], period := none }
      if m < s.sov.recorded then s.checkpoint im (m + 1) sit else s
    else s
  | _, _ => s

/-- The image that runs changes or ends at C_N, before the lane period of block `n` (R63, R65, R415). -/
def State.switchPoint (s : State) (n : Nat) : State :=
  if s.imageEnds n then
    let s := s.stopImage
    match s.eng.switch, s.eng.pending with
    | some w, some im => s.beginStaging im w
    | _, _ => s
  else s.hotSwitch n

/-- LANE_PERIOD_BOUNDARY with the block whose inputs are complete (R18): lane period N ends, the next begins. -/
def State.lanePeriod (s : State) (n : Nat) : State :=
  let s := s.until (s.frameTime s.blockN 1)
  if s.catching then ((s.recordBlock n).onEng fun e => { e with due := none }).catchUp else
  let (s, sit) := match s.eng.running, s.eng.period with
    | some im, some m => s.settlePeriod im m
    | _, _ => (s, [])
  let s := s.switchPoint n
  match s.eng.running with
  | none => (s.onEng fun e => { e with due := none }).gateAll.settlePower
  | some im =>
    let s := (((s.takeParks im n).testLanes).sparingMode n).applyPins
    let s := (s.laybyIdle im).setOps im
    let s := if s.eng.switch.isNone then s.gateUnused im else s
    (s.checkpoint im n sit).stagingStart

/-! ## Block boundaries (R16, R17, R417) -/

/-- A sample's magnitude, −2^31 taken as 2^31 − 1 (R417). -/
def sampleAbs (v : Word) : Nat := min (v.toInt.natAbs) (2 ^ 31 - 1)

/-- The frame of its block that a block's outputs have come to. Both times are rounded up to whole ns, so a frame's worth of rounding is
added before the division. -/
def State.outFrame (s : State) (b : OutBlock) : Nat :=
  let fs := rateHz b.image.rate
  ((s.time - b.start) * fs + fs) / 1000000000

/-- The block whose samples leave now, until its last frame has gone. -/
def State.outBlock (s : State) : Option OutBlock := s.eng.cur.filter fun b => decide (s.outFrame b < blockSamples b.image.bsize)

/-- The newest sample of a routing point below the partitions', and the one before it: an express output's is available at its position,
one frame after its input's (R181). -/
def State.pointPair (s : State) (p : Nat) : Word × Word :=
  let v := Sparse.get (fun _ => (0 : Word)) s.points p
  if 0x4200 ≤ p ∧ p < 0x4280 then
    let (x, t) := Sparse.get (fun _ => ((0 : Word), 0)) s.exp.late p
    if t ≤ s.time then (x, v) else (v, Sparse.get (fun _ => 0) s.jct.before p)
  else (v, Sparse.get (fun _ => 0) s.jct.before p)

/-- The sample of a routing point at the device's present time (R181, R185): a partition output's from the block whose
samples leave, a Depot buffer's and a port's the last one delivered. -/
def State.pointNow (s : State) (p : Nat) : Word :=
  if 0x8000 ≤ p then
    match s.outBlock with
    | some b => outSample b.samples p (s.outFrame b)
    | none => 0
  else if p = 0x4300 then 0
  else (s.pointPair p).1

/-- Whether a routing point has a producer in the running image (R185). -/
def State.hasProducer (s : State) (p : Nat) : Bool :=
  match s.eng.running with
  | some im => (s.sourceRate im p).isSome
  | none => false

/-- A read of the Junction buffer window (R185). -/
def State.windowRead (s : State) (p : Nat) : Word := if s.hasProducer p then s.pointNow p else 0

/-- Meters at a block boundary (R417). -/
def State.readMeters (s : State) : State :=
  { s with host := { s.host with meters := s.host.meters.map fun (m : Nat × Word × Word) =>
      let v := s.windowRead m.1
      (m.1, v, if sampleAbs m.2.2 < sampleAbs v then v else m.2.2) } }

/-- EXPRESS_CRC of the block that ends (R374), kept for the last four blocks. -/
def State.closeExpressCrc (s : State) (n : Nat) : State :=
  let bytes := (List.range 128).flatMap fun k => (Sparse.get (fun _ => []) s.exp.outs k).reverse.flatMap fun v => leBytes 4 v.toNat
  { s with exp := { s.exp with outs := [], crcs := ((n, crc32c bytes) :: s.exp.crcs).take 4 } }

/-- Block `n` starts now: BSQ.BLOCK, BSQ.BOUNDARY, event 40; express parameters and programs for it (R16, R190, R197). -/
def State.beginBlock (s : State) (n : Nat) : State :=
  let s := ((s.put64 BSQ_BLOCK_LO n).put64 BSQ_BOUNDARY_LO s.time).pulse 40
  let s := if s.sov.expressAt = some n then s.put SOV_JOIN_PHASE 3 else s
  let s := match s.eng.switch, s.eng.pending with
    | some w, some im =>
      if w.block = n ∧ w.held = false ∧ s.eng.running.isSome then (if w.hot then s.setExpress im else s.stopExpress) else s
    | _, _ => s
  match s.inputImage with
  | some im => (s.stopExpressRamps im n).applyUpdates im n true
  | none => s

/-- A preset takes the boundary's number (R17): updates waiting become late for it; a switch that may still be aborted is, and one that may
not completes, a cold one at the block whose number it takes. -/
def State.presetApply (s : State) (p : Nat) : State :=
  let n := s.eng.updates.length
  let abort := s.eng.switch.isSome && s.mayAbort
  let cold := s.eng.running.isNone
  let s := { s with eng := { s.eng with
    epochN := p, epochT := s.time, preset := none, presetAt := none
    presetApplied := s.eng.running.isSome
    updates := s.eng.updates.map fun (u : Update) => { u with block := p } } }
  let s := s.bumpBy BSQ_PARAM_COUNT_LATE n
  let s := if n = 0 then s else s.put BSQ_STATUS_PARAM_LATE 1
  if abort then s.abortSwitch
  else if cold then s.onEng fun e => { e with switch := e.switch.map fun (w : Switch) => { w with block := min w.block p } }
  else s

/-- The preset that acts at the boundary that ends block `done`. -/
def State.presetFor (s : State) (done : Nat) : Option Nat :=
  match s.eng.presetAt with
  | some (b, p) => if b = done then some p else s.eng.preset
  | none => s.eng.preset

/-- The preset that acts at that boundary, if it may: under PTP lock it is ignored (R17). -/
def State.takePreset (s : State) (done : Nat) : State × Option Nat :=
  match s.presetFor done with
  | some p =>
    if s.ptpLocked then ((s.onEng fun e => { e with preset := none, presetAt := none }).put BSQ_STATUS_PRESET_IGN 1, none) else (s, some p)
  | none => (s, none)

/-- A staged image starts cold (R63): the count restarts at S when its rate or block size is new, or at floor(n / B) under PTP
lock; otherwise it counts on. The number of the block that starts, and its time. -/
def State.coldCount (s : State) (im : Image) (w : Switch) : State × Nat :=
  if s.eng.seqRate = im.rate ∧ s.eng.seqB = im.bsize then (s, s.blockN + 1)
  else if s.ptpLocked then
    let fs := rateHz im.rate
    let b := blockSamples im.bsize
    let n := (s.time * fs + b * 1000000000 - 1) / (b * 1000000000)
    let s := s.onEng fun e => { e with epochN := 0, epochT := 0, seqRate := im.rate, seqB := im.bsize }
    (s.until (s.frameTime n 0), n)
  else (s.onEng fun e => { e with epochN := w.block, epochT := s.time, seqRate := im.rate, seqB := im.bsize }, w.block)

/-- A block boundary (R16): time moves to it, the block that ends has its inputs complete, the next begins. -/
def State.blockBoundary (s : State) : State :=
  let last := s.blockN
  let counts := s.eng.seqRate ≠ 0
  let s := if counts then s.until (s.frameTime (last + 1) 0) else s
  let s := (if counts then s.closeExpressCrc last else s).readMeters
  let s := s.onEng fun e => { e with due := if counts && s.eng.running.isSome then some last else none }
  let (s, preset) := if counts then s.takePreset last else (s, none)
  let s := match preset with | some p => s.presetApply p | none => s
  match s.eng.running, s.eng.pending, s.eng.switch with
  | none, some im, some w =>
    if w.staged && !w.held && (s.eng.seqRate ≠ im.rate || s.eng.seqB ≠ im.bsize || decide (w.block ≤ preset.getD (last + 1))) then
      let (s, n) := match preset with
        | some p => (s.onEng fun e => { e with epochN := p, epochT := s.time, seqRate := im.rate, seqB := im.bsize }, p)
        | none => s.coldCount im w
      let s := (s.setExpress im).takeImage im
      let s := s.onEng fun e => { e with switch := some { w with block := n }, period := none }
      (s.beginBlock n).setStep 4
    else if counts then s.beginBlock (preset.getD (last + 1)) else s
  | _, _, _ => if counts then s.beginBlock (preset.getD (last + 1)) else s

/-- Whether the next block boundary may come: the count runs or a staged image waits to start, and the lane period of the
block before has begun. -/
def State.blockDue (s : State) : Bool :=
  s.eng.due.isNone && (s.eng.seqRate ≠ 0 ||
    (s.eng.running.isNone && s.eng.pending.isSome && (match s.eng.switch with | some w => w.staged && !w.held | none => false)))

/-- BLOCK_BOUNDARY (R16). -/
def execBlockBoundary (s : State) : Host.Outcome State Fault Refusal := occurs s.blockDue s s.blockBoundary

/-- FRAME_BOUNDARY (R15): device time moves to the next frame boundary of the processing rate. -/
def execFrameBoundary (s : State) : Host.Outcome State Fault Refusal :=
  occurs (s.eng.seqRate ≠ 0) s (s.until (s.frameAfter (s.time + 1)))

end Sys2Proof.Machine
end

