-- ==== Sys2Proof/Machine/Tasks.lean ====
section
/-! DEFINITION. Machine/Tasks.lean: the rows of a lane's work inside a lane period (R22 to R36, R55, R160 to R174). -/
namespace Sys2Proof.Machine

/-! ## Tasks -/

/-- The task a lane would run next, when it may start (R22, R46): the lane waits, its cluster runs, and the exchange point
the task waits on is published. -/
def State.nextTask (s : State) (p : Nat) : Option Task :=
  if (s.lane p).phase = .waiting ∧ s.eng.period.isSome ∧ s.get (PWR_CLUSTER_STATE (p / 2)) = 3 then
    (s.taskOf p (s.lane p).task).filter s.mayStart
  else none

/-- The lane executive enters the next task (R22, R55, R127): its replay point is what the tasks before it left. -/
def State.startTask (s : State) (p : Nat) : State :=
  let l := s.lane p
  let s := s.onLane p fun l => { l with
    since := s.time, fault := false, exc := none, saved := (s.triad (p + 1)).callee
    points := (l.task, l.outs, l.fresh) :: l.points }
  ((s.setPhase p .running).put (BSQ_LANE_STAT_TASK p) l.task).enterTask p l.task false

/-- TASK_START (R46): the lane executive of lane `p` enters its next task. -/
def execTaskStart (p : Fin 18) (s : State) : Host.Outcome State Fault Refusal :=
  occurs (s.nextTask p).isSome s (s.startTask p)

/-- The new state bytes a task wrote, those inside the partition's state buffer. -/
def State.freshBytes (s : State) (p : Nat) (r : TaskResult) : Sparse Byte :=
  let n := match s.partOf p with | some pt => pt.stateSize | none => 0
  (r.state.filter fun e => decide (e.1.toNat < n)).foldl (fun (m : Sparse Byte) e => Sparse.put m e.1.toNat e.2) []

/-- What a check record that is not clean at the end of a task holds (R23). -/
def LaneRun.cause (l : LaneRun) : FailCause :=
  match l.exc with
  | some e => .exception (BitVec.ofNat 8 e.cause) e.pc
  | none => .check

/-- A run of the current task ends (R22, R23): its window is evaluated (R337, R339); a record that is not clean is a failure;
a clean one makes its outputs and state a replay point. A clean replay counts, and stops the shadow (R30, R175). -/
def State.endTask (s : State) (p : Nat) (r : TaskResult) : State :=
  let s := s.leaveTask p true
  let l := s.lane p
  if l.fault || l.exc.isSome then s.takeFailure p l.cause
  else
    let s := if l.phase = .replaying then
        let s := s.bump (BSQ_LANE_REC_REPLAYS p)
        match l.shadow with | some y => s.dropShadow y | none => s
      else s
    s.taskDone p (ownOuts l.part r.outs) (s.freshBytes p r)

/-- TASK_COMPLETE (R22). -/
def execTaskComplete (p : Fin 18) (r : TaskResult) (s : State) : Host.Outcome State Fault Refusal :=
  occurs ((s.lane p).phase = .running) s (s.endTask p r)

/-- REPLAY_COMPLETE (R30). -/
def execReplayComplete (p : Fin 18) (r : TaskResult) (s : State) : Host.Outcome State Fault Refusal :=
  occurs ((s.lane p).phase = .replaying) s (s.endTask p r)

/-- TASK_FAILURE (R29): the executive discards the window of a task that raised an exception (R339). -/
def execTaskFailure (p : Fin 18) (c : FailCause) (s : State) : Host.Outcome State Fault Refusal :=
  let may := match c with | .exception cause _ => footCause cause.toNat | _ => true
  occurs (may && ((s.lane p).phase = .running || (s.lane p).phase = .replaying)) s
    ((match c with | .exception _ _ => s.closeWindow p false | _ => s).takeFailure p c)

/-- ns in which a lane counts `c` cycles, rounded up. -/
def State.cyclesNs (s : State) (t c : Nat) : Nat :=
  let r := 2 * (s.get (PWR_CLUSTER_OP ((t - 1) / 2)) + 1)
  (c * 5 + r - 1) / r

/-- The budget timer of a lane runs out (R55, R74): TASK_BUDGET_OVERRUN is pending, RUN clears, the overrun is counted. -/
def State.budgetExpires (s : State) (p : Nat) : State :=
  let s := s.until (s.time + s.cyclesNs (p + 1) ((s.triad (p + 1)).budget.toNat % 2 ^ 32))
  let s := s.onTriad (p + 1) fun x => { x with budget := 0, overrun := true }
  (s.bump (BSQ_LANE_STAT_OVERRUNS p)).put BSQ_STATUS_OVERRUN 1

/-- TASK_BUDGET_EXPIRY (R74): device time moves on by the cycles left. -/
def execTaskBudgetExpiry (p : Fin 18) (s : State) : Host.Outcome State Fault Refusal :=
  occurs ((s.triad (p.val + 1)).budget.getLsbD 63 && (s.triad (p.val + 1)).run = .running) s (s.budgetExpires p)

/-! ## Commit and mirror -/

/-- Whether the commit gate of lane `p` may open (R24). -/
def State.gateOpens (s : State) (p : Nat) : Bool :=
  s.eng.running.isSome && !s.isShadow p && !(s.lane p).committed && ((s.lane p).clean || (s.lane p).phase = .suspended)

/-- COMMIT_GATE_OPEN (R24). -/
def execCommitGateOpen (p : Fin 18) (s : State) : Host.Outcome State Fault Refusal :=
  match s.eng.running with
  | some im => occurs (s.gateOpens p) s (s.commitOwn im (s.lane p).part (s.lane p).logical p).catchUp
  | none => done s

/-- MIRROR_COMPLETE of logical lane `l` (R174). -/
def execMirrorComplete (l : Fin 16) (s : State) : Host.Outcome State Fault Refusal :=
  match s.eng.running.bind fun im => (im.partOn l).map fun q => (im, q) with
  | some (im, q) => done (s.mirrorDone im q l)
  | none => done s

/-! ## The Layby -/

/-- The home lane's Tollgate rules (R296) and expected counts in a Layby lane (R167 step 4, R336). -/
def State.copyLane (s : State) (p y : Nat) : State :=
  let s := s.copyRules (p + 1) (y + 1)
  (List.range 256).foldl (fun s k => s.put (WMK_EXPECT_EXPECT y k) (s.get (WMK_EXPECT_EXPECT p k))) s

/-- Steps 4 and 5 of R167: the slip road is open, the rules are loaded, and the executive enters the task at its replay
point. -/
def State.laybyEnters (s : State) (y h : Nat) : State :=
  let s := s.runLayby
  let s := s.setLayby y { s.layby y with home := some h, road := true, divert := [] }
  let s := s.copyLane h y
  let k := (s.lane y).task
  match s.taskOf y k with
  | some tk =>
    if s.mayStart tk then
      ((s.setPhase y .running).put (BSQ_LANE_STAT_TASK y) k).enterTask y k true
    else s.setPhase y .waiting
  | none => s

/-- LAYBY_READY (R167). -/
def execLaybyReady (l : Fin 2) (s : State) : Host.Outcome State Fault Refusal :=
  match (s.layby (16 + l.val)).home with
  | some h => occurs ((s.lane (16 + l.val)).phase = .preparing) s (s.laybyEnters (16 + l.val) h)
  | none => done s

/-- SHADOW_COMPLETE (R30): the shadow's result is committed when the lane's own has failed. -/
def execShadowComplete (l : Fin 2) (s : State) : Host.Outcome State Fault Refusal :=
  match (s.layby (16 + l.val)).home with
  | some h => occurs (s.isShadow (16 + l.val)) s (s.selectShadow h).catchUp
  | none => done s

/-- The settling of the partition on Layby lane `y` ends (R169): its footprint stands in the pool, the slip road is
released, and a home cluster whose lanes are all out of service is gated. When the pool cannot hold it, the partition goes on
through the slip road. -/
def State.settleDone (s : State) (y h : Nat) : State :=
  let size := match s.partOf y with | some pt => pt.footprint | none => 0
  let (s1, ok) := s.divertAll y (s.codeAt y) ((size + 63) / 64)
  if !ok then s
  else
    let s1 := (s1.setLayby y { s1.layby y with road := false }).put (laybySettled y) 1
    let c := h / 2
    if c < 8 && s1.eng.outOfService.contains (2 * c) && s1.eng.outOfService.contains (2 * c + 1) then s1.gateCluster c else s1

/-- SETTLE_COMPLETE (R169). -/
def execSettleComplete (l : Fin 2) (s : State) : Host.Outcome State Fault Refusal :=
  let y := 16 + l.val
  match (s.layby y).home with
  | some h => occurs (s.get (laybyUse y) = 3 && s.get (laybySettled y) = 0 && (s.layby y).road) s (s.settleDone y h)
  | none => done s

/-- LANE_TEST_COMPLETE (R160): a lane that passes may run again from a block checkpoint where host-assisted sparing kept it
in service; until a test passes the Layby lane commits its blocks. -/
def execLaneTestComplete (p : Fin 18) (pass : Bool) (s : State) : Host.Outcome State Fault Refusal :=
  occurs (s.eng.testing.contains p.val && (pass || !s.eng.hostSparing)) s
    (s.onEng fun e => { e with testing := e.testing.filter (· ≠ p.val) })

/-! ## Staging -/

/-- Whether every lane of the pending image has its cluster's banks ON (R65). -/
def State.mayStage (s : State) : Bool :=
  match s.eng.switch, s.eng.pending with
  | some w, some im => w.staging && !w.staged &&
      (s.placement im).all fun x => s.get (PWR_CLUSTER_STATE (x.2 / 2)) = 3 || s.get (PWR_CLUSTER_STATE (x.2 / 2)) = 2
  | _, _ => false

/-- STAGING_COMPLETE (R65 step 3): STEP = 3; in host-assisted graph switch mode the switch waits for its release (R67). -/
def execStagingComplete (s : State) : Host.Outcome State Fault Refusal :=
  occurs s.mayStage s
    (((match s.eng.pending with | some im => s.stageImage im | none => s).onEng fun e => { e with
        switch := e.switch.map fun (w : Switch) => { w with staged := true, held := s.flag BSQ_CTRL_SWITCH_HOLD } }).setStep 3)

end Sys2Proof.Machine
end

