-- ==== Sys2Proof/Machine/Express.lean ====
section
/-! DEFINITION. Machine/Express.lean: the express datapath, its voter, the Layby express block and planned moves (R186 to R198). -/
namespace Sys2Proof.Machine

/-! ## Arithmetic (R187) -/

/-- One biquad stage, direct form I: its output and its new states. -/
def biquadStep (c : Biquad) (st : BqState) (x : Word) : Word × BqState :=
  let y := q31Round (c.b0.toInt * x.toInt + c.b1.toInt * st.x1.toInt + c.b2.toInt * st.x2.toInt -
    c.a1.toInt * st.y1.toInt - c.a2.toInt * st.y2.toInt) 30
  (y, { x1 := x, x2 := st.x1, y1 := y, y2 := st.y1 })

/-- A cascade of stages; a stage without a state starts at zero. -/
def cascade : List Biquad → List BqState → Word → Word × List BqState
  | [], _, x => (x, [])
  | c :: cs, sts, x =>
    let (y, st) := biquadStep c (sts.headD {}) x
    let (z, rest) := cascade cs (sts.drop 1) y
    (z, st :: rest)

/-- The mix of 16 inputs by a row of Q2.30 coefficients, rounded once. -/
def mixRow (row ins : List Word) : Word :=
  q31Round (((row.zip ins).map fun p => p.1.toInt * p.2.toInt).foldl (· + ·) 0) 30

/-- The level of a sample: |x|, with |−1| taken as 1 − 2⁻³¹. -/
def level31 (x : Word) : Int := min (Int.ofNat x.toInt.natAbs) (2 ^ 31 - 1)

/-- The envelope's step towards a level. -/
def envStep (att rel e : Word) (v : Int) : Word :=
  let d := v - e.toInt
  q31 (e.toInt + roundShift 0 ((if e.toInt < v then att else rel).toInt * d) 31)

/-- The limiter's output for a sample, with the envelope E and the threshold T. -/
def limit (t e x : Word) : Word :=
  if t = 0x7FFFFFFF then x
  else
    let y := if e.toInt ≤ t.toInt then x.toInt
             else (q31Round (x.toInt * (t.toInt * 2 ^ 31 / e.toInt)) 31).toInt
    BitVec.ofInt 32 (max (-t.toInt) (min y t.toInt))

/-! ## A channel -/

def State.expChan (s : State) (c : Nat) : ExpChan := Sparse.get (fun _ => {}) s.exp.chans c

def State.setExpChan (s : State) (c : Nat) (x : ExpChan) : State :=
  { s with exp := { s.exp with chans := Sparse.set (fun _ => {}) s.exp.chans c x } }

/-- Input `k` of channel `c`'s block: the last sample delivered to it, 0 before the first (R187). -/
def State.expInput (s : State) (c k : Nat) : Word := Sparse.get (fun _ => 0) s.exp.inp (16 * (c / 8) + k)

/-- One sample of a channel: its two outputs and its new state (R187). -/
def expSample (p : ExpProg) (ch : ExpChan) (ins : List Word) (ga gb t : Word) : (Word × Word) × ExpChan :=
  let (xa, sa) := cascade p.bqA ch.a (mixRow p.mixA ins)
  let (xb, sb) := cascade p.bqB ch.b (mixRow p.mixB ins)
  let ya := q31Round (xa.toInt * ga.toInt) 27
  let yb := q31Round (xb.toInt * gb.toInt) 27
  let link := p.flags % 2 = 1
  let va := if link then max (level31 ya) (level31 yb) else level31 ya
  let ea := envStep p.att p.rel ch.ea va
  let eb := if link then ea else envStep p.att p.rel ch.eb (level31 yb)
  ((limit t ea ya, limit t eb yb), { ch with a := sa, b := sb, ea := ea, eb := if link then ch.eb else eb })

/-- The ramp of a takeover by the Layby block (R195): output frame k at (k + 1) / 64. -/
def fadeStep (f : Option Nat) (v : Word) : Word :=
  match f with
  | some k => if k < 63 then q31Round (v.toInt * (k + 1)) 6 else v
  | none => v

/-! ## The voter (R193, R194) -/

/-- The copies whose results differ from the others' in block `b`, bit 0 = A. -/
def State.expUpset (s : State) (b : Nat) : Nat := Sparse.get (fun _ => 0) s.exp.upset b

/-- The voter of block `b` compares the copies. -/
def State.expVote (s : State) (b : Nat) : State :=
  let u := s.expUpset b
  let clear (s : State) : State := { s with exp := { s.exp with upset := Sparse.set (fun _ => 0) s.exp.upset b 0 } }
  let odd := s.get (EXP_VOTE_ODD b)
  if u = 0 then s
  else if s.get (EXP_VOTE_MODE b) = 0 then
    match [1, 2, 3].find? fun k => u = 2 ^ (k - 1) with
    | some k =>
      let before := Sparse.get (fun _ => 0) s.exp.outvotedAt (4 * b + k)
      let again := before ≠ 0 && decide (s.time < before - 1 + 1000000000)
      let s := ((clear s).put (EXP_VOTE_ODD b) k).bump (EXP_VOTE_OUTVOTES b)
      let s := (s.put (EXP_VOTE_MODE b) (if again then 2 else 1)).drive (176 + b) { note := k }
      { s with exp := { s.exp with outvotedAt := Sparse.set (fun _ => 0) s.exp.outvotedAt (4 * b + k) (s.time + 1) } }
    | none => (clear s).expressFail b
  else if odd ≠ 0 && u = 2 ^ (odd - 1) then clear s
  else (clear s).expressFail b

/-- A sample of an express output: it is available at the next frame boundary of the program's rate (R181, R188, R198), where its input's
position is the boundary it was computed after, or an instant since. -/
def State.setLate (s : State) (fs p : Nat) (v : Word) : State :=
  let old := Sparse.get (fun _ => ((0 : Word), 0)) s.exp.late p
  let s := s.setPoint p old.1
  { s with exp := { s.exp with late := Sparse.set (fun _ => (0, 0)) s.exp.late p (v, s.rateFrame fs (max s.time old.2)) } }

/-- EXPRESS_SAMPLE (R188): channel `c` takes one sample of its inputs; its block's copies compute it, the voter compares them,
and the two paths' samples leave. A failed block's outputs carry 0 (R195). -/
def State.expressSample (s : State) (p : ExpProg) : State :=
  let c := p.channel
  let b := s.get (EXP_MAP_BLOCK c)
  let s := s.expVote b
  let dead := s.exp.out.contains b
  let ch := s.expChan c
  let ty := 4
  let ka := s.param (expKey c 0)
  let kb := s.param (expKey c 1)
  let ((a, z), ch') := expSample p ch ((List.range 16).map (s.expInput c)) (ka.now ty) (kb.now ty) (s.param (expKey c 2)).value
  let s := if dead then s else
    let ch' := { ch' with fade := ch'.fade.bind fun k => if k < 63 then some (k + 1) else none }
    ((s.setExpChan c ch').setParam (expKey c 0) (ka.advance 1)).setParam (expKey c 1) (kb.advance 1)
  let silent := dead || decide (s.time < s.exp.quiet)
  let va := if silent then 0 else fadeStep ch.fade a
  let vb := if silent then 0 else fadeStep ch.fade z
  let keep (m : Sparse (List Word)) (k : Nat) (v : Word) : Sparse (List Word) :=
    Sparse.put m k (v :: Sparse.get (fun _ => []) m k)
  let s := (s.setLate (rateHz p.rate) (0x4200 + 2 * c) va).setLate (rateHz p.rate) (0x4201 + 2 * c) vb
  { s with
    exp := { s.exp with outs := keep (keep s.exp.outs (2 * c) va) (2 * c + 1) vb } }

def execExpressSample (c : BitVec 6) (s : State) : Host.Outcome State Fault Refusal :=
  match s.exp.progs.find? fun p => p.channel = c.toNat with
  | some p => done (s.expressSample p)
  | none => done s

/-- EXPRESS_RESYNC_COMPLETE (R194): the odd copy joins at the next frame boundary; MODE = 0. -/
def execExpressResyncComplete (b : Fin 9) (s : State) : Host.Outcome State Fault Refusal :=
  let t := s.until (s.frameAfter s.time)
  occurs (s.get (EXP_VOTE_MODE b) = 1) s
    (t.put (EXP_VOTE_MODE b) 0)

/-- EXPRESS_HOLD_OUT (R194): the resynchronisation misses 8 µs. -/
def execExpressHoldOut (b : Fin 9) (s : State) : Host.Outcome State Fault Refusal :=
  occurs (s.get (EXP_VOTE_MODE b) = 1) s ((s.put (EXP_VOTE_MODE b) 2).drive (176 + b.val) { note := s.get (EXP_VOTE_ODD b) })

/-! ## The Layby express block (R195, R196) -/

/-- The channels of express block `b` move to block `d`, 8 being the Layby's. -/
def State.mapExpress (s : State) (b d : Nat) : State :=
  (List.range 8).foldl (fun s k =>
    (s.put (EXP_MAP_BLOCK (8 * b + k)) d).put (EXP_MAP_ON_LAYBY (8 * b + k)) (if d = 8 then 1 else 0)) s

/-- The channels of block `b` start with every state word zero, and ramp (R195 step 2). -/
def State.clearExpress (s : State) (b : Nat) : State :=
  (List.range 8).foldl (fun s k => s.setExpChan (8 * b + k) { fade := some 0 }) s

/-- EXPRESS_LAYBY_TAKEOVER (R195): at the next frame boundary the Layby block takes the first failed block's channels. -/
def State.laybyTakeover (s : State) (b : Nat) : State :=
  let s := s.until (s.frameAfter s.time)
  let s := ((s.mapExpress b 8).clearExpress b).put EXP_STATUS_LAYBY_BUSY 1
  let s := s.put EXP_STATUS_LAYBY_FOR b
  { s with exp := { s.exp with failed := s.exp.failed.filter (· ≠ b) } }

/-- Whether the Layby express block is free and in service. -/
def State.laybyExpressFree (s : State) : Bool := !s.flag EXP_STATUS_LAYBY_BUSY && !s.exp.out.contains 8

def execExpressLaybyTakeover (s : State) : Host.Outcome State Fault Refusal :=
  match s.exp.failed.find? fun b => decide (b < 8) with
  | some b => occurs s.laybyExpressFree s (s.laybyTakeover b)
  | none => done s

/-- A write to EXP.MOVE (R196, R199): GO arms the move. -/
def State.writeExpMove (s : State) (m lvl : Nat) (v : Word) : State :=
  if !bySupervisor m lvl then s
  else
    let s := (s.put EXP_MOVE_RETURN (v.toNat / 16 % 2)).put EXP_MOVE_BLOCK (v.toNat % 16)
    if v.getLsbD 31 && decide (v.toNat % 16 < 8) then s.put EXP_MOVE_BUSY 1 else s

def execExpressMoveGo (m : BitVec 8) (lvl : BitVec 2) (v : Word) (s : State) : Host.Outcome State Fault Refusal :=
  access s (s.writeExpMove m.toNat lvl.toNat v)

/-- An express block returns to service (R194, R195): its copies take the same state. -/
def State.returnExpress (s : State) (b : Nat) : State :=
  let s := (s.put (EXP_VOTE_MODE b) 0).put (EXP_VOTE_ODD b) 0
  { s with exp := { s.exp with
      out := s.exp.out.filter (· ≠ b), failed := s.exp.failed.filter (· ≠ b)
      upset := Sparse.set (fun _ => 0) s.exp.upset b 0, outvotedAt := s.exp.outvotedAt.filter fun e => decide (e.1 / 4 ≠ b) } }

/-- The armed move takes effect at S_P (R195, R196). -/
def State.expressMove (s : State) : State :=
  let b := s.get EXP_MOVE_BLOCK
  let here := s.flag EXP_STATUS_LAYBY_BUSY && s.get EXP_STATUS_LAYBY_FOR = b
  let s := s.put EXP_MOVE_BUSY 0
  if s.flag EXP_MOVE_RETURN then
    if here then
      -- what a failed Layby block held is no state to take
      let s := if s.exp.out.contains 8 then s.clearExpress b else s
      (((s.mapExpress b b).put EXP_STATUS_LAYBY_BUSY 0).put EXP_STATUS_LAYBY_FOR 0).returnExpress b
    else if s.exp.out.contains b then (s.clearExpress b).returnExpress b
    else s
  else if s.laybyExpressFree && !s.exp.out.contains b then
    ((s.mapExpress b 8).put EXP_STATUS_LAYBY_BUSY 1).put EXP_STATUS_LAYBY_FOR b
  else s

/-- EXPRESS_MOVE_TAKE_EFFECT (R196): frame boundary S_P has come. -/
def execExpressMoveTakeEffect (s : State) : Host.Outcome State Fault Refusal :=
  occurs (s.flag EXP_MOVE_BUSY && decide (s.get64 EXP_MOVE_LO ≤ s.blockN)) s s.expressMove

end Sys2Proof.Machine
end

