-- ==== Sys2Proof/Machine/Net.lean ====
section
/-! DEFINITION. Machine/Net.lean: the network ports: frames received, the jitter buffers and concealment, packets launched, links
(R200 to R219, R223). -/
namespace Sys2Proof.Machine

/-! ## Stream formats (R205, R424) -/

/-- Samples of each channel in a packet (R205): rate code, packet-time code. -/
def packetSamples (rate ptime : Nat) : Nat :=
  let base := match ptime with | 0 => 6 | 1 => 12 | 2 => 16 | _ => if rate % 2 = 1 then 44 else 48
  match rate with
  | 1 => base | 2 => base | 3 => 2 * base | 4 => 2 * base | 5 => 4 * base | 6 => 4 * base | _ => base

/-- P of a FORMAT byte. -/
def fmtP (f : Nat) : Nat := packetSamples (fmtRate f) (f / 16 % 4)

/-- Bytes per sample of a FORMAT byte: L24 or L16. -/
def fmtBytes (f : Nat) : Nat := if f % 2 = 1 then 3 else 2

/-- PROTECTED. -/
def fmtProt (f : Nat) : Bool := f / 64 % 2 = 1

/-- Device time of the frame boundary of sample `n` at `fs` Hz, the first ns not before it (R15, R206). -/
def sampleTime (fs n : Nat) : Nat := (n * 1000000000 + fs - 1) / fs

/-- Sample count of a rate at a time: floor(t × fs) (R206). -/
def sampleCount (fs t : Nat) : Nat := t * fs / 1000000000

/-! ## Frames (R201, R208) -/

/-- `n` big-endian bytes at offset `i`. -/
def beAt (bs : List Byte) (i n : Nat) : Nat := ((bs.drop i).take n).foldl (fun v b => v * 256 + b.toNat) 0

/-- The 16-bit ones' complement sum of bytes. -/
def sum16 : List Byte → Nat
  | a :: b :: r => let v := a.toNat * 256 + b.toNat + sum16 r; v % 65536 + v / 65536
  | [a] => a.toNat * 256
  | [] => 0

/-- What a port makes of a frame (R201, R208, R223). -/
inductive FrameClass where
  | size | nonIpv4 | ipHdr
  /-- to Prosal's control queue (R208) -/
  | control
  /-- a PTP event message: the timestamping path -/
  | ptpEvent
  /-- tagged for another VLAN, or untagged where a VID is set -/
  | otherVlan
  /-- no UDP: nothing can match it -/
  | noUdp
  /-- UDP: source and destination address, destination port, whether the checksum passes, the payload -/
  | udp (src dst port : Nat) (good : Bool) (payload : List Byte)
  deriving DecidableEq, Repr

/-- UDP's checksum over the pseudo-header and the datagram; zero means none was sent. -/
def udpGood (ip udp : List Byte) : Bool :=
  beAt udp 6 2 = 0 ||
    sum16 ((ip.drop 12).take 8 ++ [0, 17] ++ beBytes 2 udp.length ++ udp) = 0xFFFF

/-- Classify an IPv4 packet. -/
def classifyIp (ip : List Byte) : FrameClass :=
  let len := beAt ip 2 2
  if beAt ip 0 1 ≠ 0x45 ∨ beAt ip 6 2 % 0x4000 ≠ 0 ∨ sum16 (ip.take 20) ≠ 0xFFFF ∨ len < 20 ∨ ip.length < len then .ipHdr
  else
    let body := (ip.take len).drop 20
    match beAt ip 9 1 with
    | 2 => .control
    | 1 => if beAt body 0 1 = 8 ∨ beAt body 0 1 = 0 then .control else .noUdp
    | 17 =>
      if body.length < 8 then .noUdp
      else
        let port := beAt body 2 2
        if port = 319 then .ptpEvent
        else if port = 320 then .control
        else
          let n := beAt body 4 2
          .udp (beAt ip 12 4) (beAt ip 16 4) port
            (decide (8 ≤ n ∧ n ≤ body.length) && udpGood ip (body.take n)) ((body.take n).drop 8)
    | _ => .noUdp

/-- Bytes of a frame before its payload: with one VLAN tag, or without (R200). -/
def headBytes (bs : List Byte) : Nat := if beAt bs 12 2 = 0x8100 then 18 else 14

/-- Classify a frame by its header (R200, R201, R208); the FCS is not among `bs`. A second tag is an EtherType that is not supported. A VID
of 0 accepts untagged frames only; another accepts frames that carry it (DEDUCED from NP.CTRL.VID). -/
def classifyFrame (vid : Nat) (bs : List Byte) : FrameClass :=
  let tagged := beAt bs 12 2 = 0x8100
  let h := headBytes bs
  let ty := beAt bs (h - 2) 2
  if bs.length + 4 < 64 ∨ (if tagged then 1522 else 1518) < bs.length + 4 then .size
  else if ty ≠ 0x0806 ∧ ty ≠ 0x0800 then .nonIpv4
  else if (if tagged then vid = 0 ∨ beAt bs 14 2 % 4096 ≠ vid else vid ≠ 0) then .otherVlan
  else if ty = 0x0806 then .control
  else classifyIp (bs.drop h)

/-! ## Receive streams (R208 to R213) -/

def State.setRx (s : State) (i : Nat) (r : RxStream) : State := { s with net := { s.net with rx := Sparse.put s.net.rx i r } }

/-- A receive stream that exists. -/
def State.rxAt (s : State) (i : Nat) : Option RxStream := (s.net.rx.find? fun e => e.1 = i).map Prod.snd

/-- The leg of a stream a port carries: none, or whether it is the blue one (R202, R211). -/
def legOn (ports : Nat) (prot : Bool) (k : Nat) : Option Bool :=
  if prot then (if k = ports then some false else if k = ports + 1 then some true else none)
  else if k = ports then some false else none

/-- The stream a UDP packet on port `k` matches, with its leg (R208). -/
def State.matchStream (s : State) (k src dst port : Nat) : Option (Nat × RxStream × Bool) :=
  s.net.rx.findSome? fun e =>
    (legOn e.2.ports (fmtProt e.2.format) k).bind fun blue =>
      let l := if blue then e.2.blue else e.2.red
      if l.dstIp = dst ∧ l.dstPort = port ∧ (l.srcIp = 0 ∨ l.srcIp = src) then some (e.1, e.2, blue) else none

/-- An RTP packet as the engine uses it: sequence number, timestamp, SSRC, samples. -/
structure Rtp where
  seq : Nat
  ts : Nat
  ssrc : Nat
  payload : List Byte
  deriving DecidableEq, Repr

/-- Read an RTP packet for a stream; none when its header or its length breaks R208. -/
def readRtp (r : RxStream) (bs : List Byte) : Option Rtp :=
  let b0 := beAt bs 0 1
  let skip := if b0 / 16 % 2 = 1 then 16 + 4 * beAt bs 14 2 else 12
  if bs.length < 12 ∨ b0 / 64 ≠ 2 ∨ b0 / 32 % 2 ≠ 0 ∨ b0 % 16 ≠ 0 ∨ beAt bs 1 1 % 128 ≠ r.pt ∨
      bs.length < skip ∨ bs.length - skip ≠ r.channels * fmtP r.format * fmtBytes r.format then none
  else some ⟨beAt bs 2 2, beAt bs 4 4, beAt bs 8 4, bs.drop skip⟩

/-- The sample of channel `c`, index `j` of a payload: L24 in bits [31:8], L16 in [31:16] (R207). -/
def payloadSample (r : RxStream) (p : List Byte) (c j : Nat) : Word :=
  let w := fmtBytes r.format
  BitVec.ofNat 32 (beAt p ((j * r.channels + c) * w) w * 2 ^ (32 - 8 * w))

/-- n of a timestamp: the value nearest to the current sample count `cur` (R206). -/
def recoverN (cur offset ts : Nat) : Nat :=
  let lo := (ts + 2 ^ 32 - offset % 2 ^ 32) % 2 ^ 32
  let d := (lo + 2 ^ 32 - cur % 2 ^ 32) % 2 ^ 32
  if d < 2 ^ 31 then cur + d else cur + d - 2 ^ 32

def RxStream.leg (r : RxStream) (blue : Bool) : LegRun := if blue then r.blueRun else r.redRun
def RxStream.setLeg (r : RxStream) (blue : Bool) (l : LegRun) : RxStream :=
  if blue then { r with blueRun := l } else { r with redRun := l }

/-- RXSTAT's flag of a leg. -/
def legOk (i : Nat) (blue : Bool) : Fld := if blue then NPE_RXSTAT_BLUE_OK i else NPE_RXSTAT_RED_OK i

/-- Header violations that are accepted and counted (R223): SSRC change, repeat, sequence gap. -/
def State.countLeg (s : State) (r : RxStream) (blue : Bool) (p : Rtp) : State × RxStream :=
  let l := r.leg blue
  let s := match l.ssrc with | some x => if x ≠ p.ssrc then s.bump NPE_STREAM_ERR3_SSRC_CHANGE else s | none => s
  let s := match l.seq with
    | some q => if p.seq = q then s.bump NPE_STREAM_ERR2_DUP
                else if p.seq ≠ (q + 1) % 65536 then s.bump NPE_STREAM_ERR2_SEQ_GAP else s
    | none => s
  (s, r.setLeg blue { l with seq := some p.seq, ssrc := some p.ssrc })

/-! ### The jitter buffer (R209, R211) -/

/-- Jitter-buffer bytes of a stream (R209). -/
def jitterBytes (channels depthLog : Nat) : Nat := up64 (channels * 2 ^ depthLog * 4)

/-- Where the word of sample `n`, channel `c` of a stream lies in Depot: each channel's DEPTH words stand together, sample n at n mod DEPTH
(DESIGN CHOICE: R209 gives the size of the buffer and the width of its words). -/
def State.jitterAddr (s : State) (r : RxStream) (n c : Nat) : Nat :=
  0x20000000 + s.get NPE_JBUF_BASE * 0x10000 + r.base + 4 * (c * 2 ^ r.depthLog + n % 2 ^ r.depthLog)

/-- The word the jitter buffer holds there. -/
def State.jitterWord (s : State) (r : RxStream) (n c : Nat) : Word := BitVec.ofNat 32 (s.le (s.jitterAddr r n c) 4)

/-- Place sample `j` of a packet whose first is `n`: one already present is kept; whether it differs (R210, R211). -/
def State.placeSample (s : State) (r : RxStream) (n : Nat) (payload : List Byte) (j : Nat) : State × RxStream × Bool :=
  let v (c : Nat) : Word := payloadSample r payload c j
  if r.held.contains (n + j) then (s, r, (List.range r.channels).any fun c => s.jitterWord r (n + j) c ≠ v c)
  else
    ((List.range r.channels).foldl (fun s c => s.setBytes (s.jitterAddr r (n + j) c) (leBytes 4 (v c).toNat)) s,
      { r with held := (n + j) :: r.held }, false)

/-- Place a packet's samples; whether one already present differs. -/
def State.placePacket (s : State) (r : RxStream) (n : Nat) (payload : List Byte) : State × RxStream × Bool :=
  (List.range (fmtP r.format)).foldl (fun acc j =>
    let x := acc.1.placeSample acc.2.1 n payload j
    (x.1, x.2.1, acc.2.2 || x.2.2)) (s, r, false)

/-- The packet engine's accesses (R278). -/
def State.engineIssuer (s : State) : Issuer := s.inboundIssuer 0x70 25

/-- The check of placing a packet whose first sample is `n` (R289): the first of its words that is refused. -/
def State.placeCheck (s : State) (r : RxStream) (n : Nat) : Check :=
  ((List.range (fmtP r.format)).findSome? fun j => (List.range r.channels).findSome? fun c =>
    match s.check s.engineIssuer (s.jitterAddr r (n + j) c) 4 .store with | .ok => none | x => some x).getD .ok

/-! ### Runs of packets in time (R211 to R213) -/

/-- A packet joins the run it is counted in; a second copy counts once. -/
def noteRun (n : Nat) (l : List Nat) : List Nat := if l.contains n then l else (n :: l).take 64

/-- Eight consecutive packets are among them. -/
def eightInTime (p : Nat) (l : List Nat) : Bool :=
  l.any fun m => decide (7 * p ≤ m) && (List.range 8).all fun j => l.contains (m - j * p)

/-- What a packet in time does to its stream, whichever leg or twin brings it (R212, R213): the first one, or eight consecutive ones, make
the stream RUNNING, and eight end an episode of host-assisted concealment. -/
def State.streamInTime (s : State) (i : Nat) (r : RxStream) (n : Nat) : State :=
  let r := { r with recent := noteRun n r.recent, lastAt := s.time }
  let full := eightInTime (fmtP r.format) r.recent
  let s := if s.get (NPE_RXSTAT_STATE i) = 1 ∨ full = true then s.put (NPE_RXSTAT_STATE i) 2 else s
  if full && r.episode then (s.setRx i { r with episode := false, choice := none }).put (NPE_RXSTAT_HOST_WAIT i) 0
  else s.setRx i r

/-- A packet in time on a leg that may be placed (R210, R211): after eight in a row a lost leg is good again. -/
def State.placeOn (s : State) (i : Nat) (r : RxStream) (blue : Bool) (n : Nat) (p : Rtp) : State :=
  let l := r.leg blue
  let recent := noteRun n l.recent
  let ok := !l.lost || eightInTime (fmtP r.format) recent
  let s := if ok then s.put (legOk i blue) 1 else s
  let x := s.placePacket (r.setLeg blue { l with lastAt := s.time, recent := recent, lost := !ok }) n p.payload
  (if x.2.2 then x.1.bump NPE_STREAM_ERR3_MISMATCH else x.1).streamInTime i x.2.1 n

/-- A packet in time: one the Tollgate refuses is not placed, and its samples are missing (R289). -/
def State.inTime (s : State) (i : Nat) (r : RxStream) (blue : Bool) (n : Nat) (p : Rtp) : State :=
  match s.placeCheck r n with
  | .ok => s.placeOn i r blue n p
  | c => (s.refuse s.engineIssuer 11 c).setRx i r

/-- Latest arrival in time of a packet whose first sample is presented at `t` (R210): its decision instant; in a twin its
cutoff, the last repair tick at least REPAIR_LEAD before that (R386). -/
def State.lastArrival (s : State) (t : Nat) : Nat :=
  if s.paired then (t - 2000 - s.get SOV_CTRL_REPAIR_LEAD * 1000) / 5000 * 5000 else t - 2000

/-- A matching packet (R206, R208, R210, R223), placed after the port's hold (R449). -/
def State.receiveRtp (s : State) (k i : Nat) (r : RxStream) (blue good : Bool) (bs : List Byte) : State :=
  match if good then readRtp r bs else none with
  | none => s.bump (NP_ERR_RTP_RTP_HDR k)
  | some p =>
    let (s, r) := s.countLeg r blue p
    let fs := rateHz (fmtRate r.format)
    let n := recoverN (sampleCount fs s.time) r.offset p.ts
    let present := sampleTime fs (n + r.lo)
    let placed := s.time + s.get (RWK_NET_RX_HOLD k) * 1000
    if s.lastArrival present < placed then (s.bump NPE_STREAM_ERR_LATE).setRx i r
    else if (2 ^ r.depthLog - fmtP r.format) * 1000000000 < (present - placed) * fs then
      (s.bump NPE_STREAM_ERR_EARLY).setRx i r
    else s.inTime i r blue n p

/-! ### Frames sent -/

/-- Whether a port is up: it is enabled and has link. -/
def State.portUp (s : State) (k : Nat) : Bool := s.get (NP_CTRL_SPEED k) ≠ 0 && s.flag (NP_STATUS_LINK k)

/-- A frame leaves on port `k`, when it is up. -/
def State.sendFrame (s : State) (k : Nat) (bs : List Byte) : State :=
  if s.portUp k then
    { s.count (NP_TX_FRAMES_COUNT k) with net := { s.net with sent := Sparse.put s.net.sent k bs } }
  else s

/-- The VLAN tag of a VLAN word, [15] TAGGED, [14:12] PCP, [11:0] VID (R424). -/
def vlanTag (vlan : Nat) : List Byte :=
  if vlan / 2 ^ 15 % 2 = 1 then beBytes 2 0x8100 ++ beBytes 2 (vlan % 2 ^ 15 / 2 ^ 12 * 2 ^ 13 + vlan % 2 ^ 12) else []

/-- An Ethernet frame. -/
def etherFrame (dst src vlan ty : Nat) (body : List Byte) : List Byte :=
  beBytes 6 dst ++ beBytes 6 src ++ vlanTag vlan ++ beBytes 2 ty ++ body

/-- An IPv4 packet of protocol `proto` in its frame, identification 0 and DF set (R215). -/
def ipFrame (l : TxLeg) (proto : Byte) (body : List Byte) : List Byte :=
  let addr := beBytes 4 l.srcIp ++ beBytes 4 l.dstIp
  let ip0 := [0x45, BitVec.ofNat 8 (4 * l.dscp)] ++ beBytes 2 (20 + body.length) ++ [0, 0, 0x40, 0, BitVec.ofNat 8 l.ttl, proto]
  etherFrame l.dstMac l.srcMac l.vlan 0x0800 (ip0 ++ beBytes 2 (0xFFFF - sum16 (ip0 ++ [0, 0] ++ addr)) ++ addr ++ body)

/-- A UDP datagram of a leg in its frame. -/
def udpFrame (l : TxLeg) (payload : List Byte) : List Byte :=
  let ulen := 8 + payload.length
  let udp0 := beBytes 2 l.srcPort ++ beBytes 2 l.dstPort ++ beBytes 2 ulen
  let uc := 0xFFFF - sum16 (beBytes 4 l.srcIp ++ beBytes 4 l.dstIp ++ [0, 17] ++ beBytes 2 ulen ++ udp0 ++ [0, 0] ++ payload)
  ipFrame l 17 (udp0 ++ beBytes 2 (if uc = 0 then 0xFFFF else uc) ++ payload)

/-! ### The control queue (R200, R202, R208) -/

/-- A port's MAC address. -/
def State.portMac (s : State) (k : Nat) : Nat := s.get (NP_MAC_HI_MAC k) * 2 ^ 32 + s.get (NP_MAC_LO_MAC k)

/-- The VLAN word of frames a port sends for itself: its VID; PCP 0 (PRESUMED: no register holds a port's PCP). -/
def State.portVlan (s : State) (k : Nat) : Nat := if s.get (NP_CTRL_VID k) = 0 then 0 else 2 ^ 15 + s.get (NP_CTRL_VID k)

/-- Prosal answers an ARP request for the port's IPv4 address (R202), in the layout of RFC 826 (PRESUMED); `a` is the ARP packet. -/
def State.arpAnswer (s : State) (k : Nat) (a : List Byte) : State :=
  if beAt a 0 8 = 0x0001080006040001 ∧ beAt a 24 4 = s.get (NP_IPV4_ADDR k) ∧ s.get (NP_IPV4_ADDR k) ≠ 0 then
    s.sendFrame k (etherFrame (beAt a 8 6) (s.portMac k) (s.portVlan k) 0x0806
      (beBytes 8 0x0001080006040002 ++ beBytes 6 (s.portMac k) ++ beBytes 4 (s.get (NP_IPV4_ADDR k)) ++ (a.drop 8).take 10 ++ List.replicate 18 0))
  else s

/-- An IPv4 multicast address. -/
def multicast (ip : Nat) : Bool := ip / 2 ^ 28 = 14

/-- The groups the streams of a port join there, each with its source; source 0 is any source (R424). -/
def State.joins (s : State) (k : Nat) : List (Nat × Nat) :=
  ((s.net.rx.filterMap fun e => (legOn e.2.ports (fmtProt e.2.format) k).map fun blue =>
    let l := if blue then e.2.blue else e.2.red
    (l.dstIp, l.srcIp)).filter fun g => multicast g.1).dedup

/-- An IGMPv3 report of one group (R200), in the layout of RFC 3376 but without an IPv4 option (PRESUMED; R200: no options): TYPE of the record
when the group has a source, and when it has none. -/
def State.sendReport (s : State) (k : Nat) (g : Nat × Nat) (inc exc : Byte) : State :=
  let rec_ := (if g.2 = 0 then [exc, 0, 0, 0] ++ beBytes 4 g.1 else [inc, 0, 0, 1] ++ beBytes 4 g.1 ++ beBytes 4 g.2)
  let body (sum : Nat) : List Byte := [0x22, 0] ++ beBytes 2 sum ++ [0, 0, 0, 1] ++ rec_
  s.sendFrame k (ipFrame { dstMac := 0x01005E000016, srcMac := s.portMac k, vlan := s.portVlan k, dscp := 48, ttl := 1
                           srcIp := s.get (NP_IPV4_ADDR k), dstIp := 0xE0000016 } 2 (body (0xFFFF - sum16 (body 0))))

/-- An IGMP query of any version is answered at once with a v3 report for each group it asks after (R200; DESIGN CHOICE: no delay is named). -/
def State.igmpAnswer (s : State) (k : Nat) (m : List Byte) : State :=
  if beAt m 0 1 = 0x11 ∧ 8 ≤ m.length ∧ sum16 m = 0xFFFF then
    ((s.joins k).filter fun g => beAt m 4 4 = 0 || beAt m 4 4 = g.1).foldl (fun s g => s.sendReport k g 1 2) s
  else s

/-- Prosal takes a control frame from the queue, while it serves. ICMP echo and PTP general messages have no answer here: the spec gives the
first none, and the second arrives as PTP_MESSAGE. -/
def State.serveControl (s : State) (k : Nat) (bs : List Byte) : State :=
  let b := bs.drop (headBytes bs)
  if !s.flag MBX_CTRL_PROSAL_UP then s
  else if beAt bs (headBytes bs - 2) 2 = 0x0806 then s.arpAnswer k b
  else if beAt b 9 1 = 2 then s.igmpAnswer k ((b.take (beAt b 2 2)).drop 20)
  else s

/-- A control frame goes to Prosal, 10,000 in a second of device time (R208, R223). -/
def State.controlFrame (s : State) (k : Nat) (bs : List Byte) : State :=
  let sec := s.time / 1000000000
  let (t, n) := Sparse.get (fun _ => (0, 0)) s.net.ctrl k
  let n := if t = sec then n else 0
  if 10000 ≤ n then s.bump (NP_CTRLQ_CTRL_DROP k)
  else State.serveControl { s with net := { s.net with ctrl := Sparse.put s.net.ctrl k (sec, n + 1) } } k bs

/-- What RS-FEC found, counted at 25GBASE-R (R200, R223). -/
def State.countFec (s : State) (k : Nat) (fec : FecResult) : State :=
  if s.get (NP_CTRL_SPEED k) ≠ 1 then s
  else match fec with
    | .clean => s
    | .corrected => s.bump (NP_FEC_CORR k)
    | .uncorrectable => s.bump (NP_FEC_UNCORR k)

/-- A frame ends on port `k` (R201, R208, R223). -/
def State.receiveFrame (s : State) (k : Nat) (fcs : Bool) (bs : List Byte) : State :=
  if !fcs then s.bump (NP_ERR_L2_FCS k)
  else
    let c := classifyFrame (s.get (NP_CTRL_VID k)) bs
    if c = .size then s.bump (NP_ERR_L2_SIZE k)
    else
      let s := s.count (NP_RX_FRAMES_COUNT k)
      match c with
      | .size => s
      | .nonIpv4 => s.bump (NP_ERR_L3_NON_IPV4 k)
      | .ipHdr => s.bump (NP_ERR_L3_IP_HDR k)
      | .control => s.controlFrame k bs
      | .ptpEvent => s
      | .otherVlan => s
      | .noUdp => s.bump (NP_ERR_RTP_NO_STREAM k)
      | .udp src dst port good payload =>
        match s.matchStream k src dst port with
        | some (i, r, blue) => s.receiveRtp k i r blue good payload
        | none => s.bump (NP_ERR_RTP_NO_STREAM k)

/-- FRAME_RECEIVE (R208): a frame in a codeword that cannot be corrected fails its FCS (R223). -/
def execFrameReceive (k : Fin 4) (chk : FrameCheck) (bs : ByteList) (s : State) : Host.Outcome State Fault Refusal :=
  occurs (s.portUp k) s
    ((s.countFec k chk.fec).receiveFrame k (chk.fcs && !decide (chk.fec = .uncorrectable ∧ s.get (NP_CTRL_SPEED k) = 1)) bs)

/-! ## Presentation and concealment (R209, R212, R213) -/

/-- The value that conceals channel `c` of a stream (R212). -/
def RxStream.concealed (r : RxStream) (policy c : Nat) : Word :=
  let p := fmtP r.format
  if policy = 1 ∧ r.missing < 8 * p then (Sparse.get (fun _ => []) r.shown c).getD (p - 1) 0 else 0

/-- The policy of a sample that is missing (R212, R213). -/
def State.concealPolicy (s : State) (r : RxStream) : Nat :=
  if r.episode then
    match r.choice with
    | some (p, m) => if m ≤ s.blockN then p else 0
    | none => 0
  else r.conceal

/-- A sample is missing: a packet's worth of them counts one; in host-assisted concealment the first opens an episode
(R212, R213). -/
def State.noteMissing (s : State) (i : Nat) (r : RxStream) : State × RxStream :=
  let owed := r.owed + 1
  let full := fmtP r.format ≤ owed
  let s := if full then (s.bump (NPE_RXSTAT_CONCEALED i)).bump NPE_CONCEAL_CONCEALED else s
  let st := s.get (NPE_RXSTAT_STATE i)
  -- a mode change is for episodes that start after it (R429)
  let starts := !(st = 3 || (st = 4 && r.missing ≠ 0))
  let s := if st = 4 then s else s.put (NPE_RXSTAT_STATE i) 3
  let r := { r with missing := r.missing + 1, owed := if full then 0 else owed, recent := if st = 3 ∨ st = 4 then r.recent else [] }
  if s.net.hostConceal && !r.episode && starts then
    (((s.put (NPE_RXSTAT_HOST_WAIT i) 1).drive 253 { note := i }).irq 28, { r with episode := true })
  else (s, r)

/-- Sample n = m − LO of stream `i` is presented at frame boundary `m` of its rate (R209, R212). Before the first packet every
channel reads 0. -/
def State.presentSample (s : State) (i : Nat) (r : RxStream) (m : Nat) : State :=
  let s := s.until (sampleTime (rateHz (fmtRate r.format)) m)
  let n := m - r.lo
  let here := r.held.contains n
  let waiting := s.get (NPE_RXSTAT_STATE i) = 1
  let r0 := r
  let (s, r) := if here then (s, { r with missing := 0 }) else if waiting then (s, r) else s.noteMissing i r
  let pol := s.concealPolicy r
  let vals := (List.range r.channels).map fun c =>
    if here then s.jitterWord r n c else if waiting then 0 else r0.concealed pol c
  let shown := vals.zipIdx.foldl (fun (h : Sparse (List Word)) x =>
    Sparse.put h x.2 ((x.1 :: Sparse.get (fun _ => []) h x.2).take (fmtP r.format))) r.shown
  let s := s.setRx i { r with shown := shown, next := some (m + 1), held := r.held.filter (n < ·) }
  vals.zipIdx.foldl (fun s x => s.setPoint (r.firstCh + x.2) x.1) s

/-- SAMPLE_PRESENT (R209): the stream's next frame boundary. -/
def execSamplePresent (i : BitVec 12) (s : State) : Host.Outcome State Fault Refusal :=
  match s.rxAt i.toNat with
  | some r => done (s.presentSample i.toNat r (r.next.getD (sampleCount (rateHz (fmtRate r.format)) s.time + 1)))
  | none => done s

/-- LEG_LOSS (R211): ABSENT_MS without a packet in time on the leg. -/
def execLegLoss (i : BitVec 12) (blue : Bool) (s : State) : Host.Outcome State Fault Refusal :=
  match s.rxAt i.toNat with
  | some r =>
    let l := r.leg blue
    let s1 := ((s.until (l.lastAt + r.absentMs * 1000000)).put (legOk i.toNat blue) 0).drive 252 { note := i.toNat }
    occurs (!l.lost && (fmtProt r.format || !blue)) s (s1.setRx i.toNat (r.setLeg blue { l with lost := true, recent := [] }))
  | none => done s

/-- STREAM_ABSENT (R212). -/
def execStreamAbsent (i : BitVec 12) (s : State) : Host.Outcome State Fault Refusal :=
  match s.rxAt i.toNat with
  | some r =>
    let s1 := ((s.until (r.lastAt + r.absentMs * 1000000)).put (NPE_RXSTAT_STATE i.toNat) 4).drive 253 { note := i.toNat }
    occurs (s.get (NPE_RXSTAT_STATE i.toNat) ≠ 4) s (s1.setRx i.toNat { r with recent := [] })
  | none => done s

/-! ## Transmitting (R206, R207, R215 to R219) -/

def State.setTx (s : State) (i : Nat) (r : TxStream) : State := { s with net := { s.net with tx := Sparse.put s.net.tx i r } }

def State.txAt (s : State) (i : Nat) : Option TxStream := (s.net.tx.find? fun e => e.1 = i).map Prod.snd

/-- A sample rounded to `w` bits, to nearest with ties to even, then saturated (R207, R236). -/
def roundSample (w : Nat) (v : Word) : Nat :=
  let x : Int := roundShift 0 v.toInt (32 - w)
  (BitVec.ofInt w (max (-(2 ^ (w - 1) : Int)) (min x (2 ^ (w - 1) - 1)))).toNat

/-- The role a packet is sent under (R218): a planned swap changes legs at the first packet whose first sample lies in its
block. -/
def State.legRole (s : State) (t : Nat) : Nat :=
  match s.sov.legSwap with
  | some (t0, old) => if t < t0 then old else s.get SOV_STATUS_ROLE
  | none => s.get SOV_STATUS_ROLE

/-- The legs this device sends of a stream, red and blue, for a packet whose first sample lies at `t` (R216 to R219). -/
def State.legsOf (s : State) (x : TxStream) (t : Nat) : Bool × Bool :=
  let role := s.legRole t
  let prot := fmtProt x.format
  let split := prot && s.flag NPE_XTWIN_ENABLE
  if s.flag FCU_STATUS_SAFE then (false, false)
  else if role ≤ 1 then (true, prot)
  else if role = 2 then (true, if split then s.sov.keepsBlue else prot)
  else if role = 4 ∨ role = 5 then (false, split && !(s.flag NPE_XTWIN_HOLD_BLUE && s.classesDiffer))
  else (false, false)

/-- The sample a transmit stream has for (n, channel), if it has been delivered. -/
def bufAt (b : Sparse Word) (n c : Nat) : Option Word := (b.find? fun e => e.1 = 64 * n + c).map Prod.snd

/-- One packet of a leg, from the Ethernet header (R207, R215). -/
def packetBytes (x : TxStream) (l : TxLeg) (k : Nat) (samples : Nat → Nat → Word) : List Byte :=
  let p := fmtP x.format
  let w := fmtBytes x.format
  let payload := (List.range p).flatMap fun j => (List.range x.channels).flatMap fun c =>
    beBytes w (roundSample (8 * w) (samples (k * p + j) c))
  udpFrame l ([0x80, BitVec.ofNat 8 x.pt] ++ beBytes 2 k ++ beBytes 4 (k * p + x.offset) ++ beBytes 4 x.ssrc ++ payload)

/-- Launch instant of packet `k` of a stream (R215). -/
def launchAt (x : TxStream) (k : Nat) : Nat :=
  sampleTime (rateHz (fmtRate x.format)) ((k + 1) * fmtP x.format) + 10 * x.txOffset

/-- The next packet of a stream: the one after the last, or the first whose launch is still to come. -/
def State.nextPacket (s : State) (x : TxStream) : Nat :=
  match x.last with
  | some k => k + 1
  | none =>
    let k := sampleCount (rateHz (fmtRate x.format)) (s.time - 10 * x.txOffset) / fmtP x.format - 1
    if s.time ≤ launchAt x k then k else if s.time ≤ launchAt x (k + 1) then k + 1 else k + 2

/-- Packet `k` of transmit stream `i` is launched on the legs this device sends, or skipped when a sample is no committed
output of this device (R215 to R219) or no port of those legs is up; a Roadworks hold delays it (R449). -/
def State.launchPacket (s : State) (i : Nat) (x : TxStream) (k : Nat) : State :=
  let p := fmtP x.format
  let fs := rateHz (fmtRate x.format)
  let s := s.until (launchAt x k + s.get (RWK_NET_TX_HOLD x.ports) * 1000)
  let whole := (List.range p).all fun j => (List.range x.channels).all fun c => (bufAt x.buf (k * p + j) c).isSome
  let (red, blue) := s.legsOf x (sampleTime fs (k * p))
  let get (n c : Nat) : Word := (bufAt x.buf n c).getD 0
  let on (b : Bool) : Nat := if b then 1 else 0
  let s := (s.put (NPE_TXSTAT_RED_ON i) (on red)).put (NPE_TXSTAT_BLUE_ON i) (on blue)
  let s := s.setTx i { x with last := some k, redOn := red, blueOn := blue
                              buf := x.buf.filter fun e => decide ((k + 1) * p ≤ e.1 / 64) }
  if s.flag FCU_STATUS_SAFE || !whole then (s.bump (NPE_TXSTAT_SKIPPED i)).put (NPE_TXSTAT_STATE i) 2
  else
    let s := s.put (NPE_TXSTAT_STATE i) 1
    let s := if (red || blue) && !((red && s.portUp x.ports) || (blue && s.portUp (x.ports + 1))) then s.bump (NPE_TXSTAT_SKIPPED i) else s
    let s := if red then s.sendFrame x.ports (packetBytes x x.red k get) else s
    if blue then s.sendFrame (x.ports + 1) (packetBytes x x.blue k get) else s

/-- Two transmit streams that have a port in common. -/
def sharesPort (x y : TxStream) : Bool :=
  (List.range 4).any fun k => (legOn x.ports (fmtProt x.format) k).isSome && (legOn y.ports (fmtProt y.format) k).isSome

/-- A lower stream on one of its ports has a packet due at the same instant: it leaves first (R215). -/
def State.lowerFirst (s : State) (i : Nat) (x : TxStream) : Bool :=
  s.net.tx.any fun e => decide (e.1 < i) && sharesPort e.2 x && launchAt e.2 (s.nextPacket e.2) = launchAt x (s.nextPacket x)

/-- PACKET_LAUNCH (R215). -/
def execPacketLaunch (i : BitVec 12) (s : State) : Host.Outcome State Fault Refusal :=
  match s.txAt i.toNat with
  | some x => occurs (!s.lowerFirst i.toNat x) s (s.launchPacket i.toNat x (s.nextPacket x))
  | none => done s

/-! ## Links (R223) -/

/-- Every stream a port carries is a leg of a protected stream whose other leg is up. -/
def State.linkProtected (s : State) (k : Nat) : Bool :=
  let other := k / 2 * 2 + (1 - k % 2)
  let here := (s.net.rx.filterMap fun e => (legOn e.2.ports (fmtProt e.2.format) k).map fun _ => fmtProt e.2.format) ++
    (s.net.tx.filterMap fun e => (legOn e.2.ports (fmtProt e.2.format) k).map fun _ => fmtProt e.2.format)
  !here.isEmpty && here.all id && s.portUp other

/-- LINK_DOWN (R223): the port's streams conceal; the network link channel is raised, at LOG on a protected leg whose other
leg is up. -/
def execLinkDown (k : Fin 4) (s : State) : Host.Outcome State Fault Refusal :=
  let s1 := ((s.put (NP_STATUS_LINK k) 0).put (NP_STATUS_BLOCK_LOCK k) 0).put (NP_STATUS_FEC_ALIGN k) 0
  occurs (s.flag (NP_STATUS_LINK k)) s (s1.drive (248 + k.val) { reduced := s.linkProtected k })

/-- A recalibration of a port or serial channel has ended (R433). -/
def State.recalDone (s : State) (k : Nat) : State := { s with host := { s.host with recal := s.host.recal.filter (· ≠ k) } }

/-- LINK_UP (R202, R223). It ends a recalibration of the port (R433). -/
def execLinkUp (k : Fin 4) (s : State) : Host.Outcome State Fault Refusal :=
  occurs (s.get (NP_CTRL_SPEED k) ≠ 0) s
    ((((s.recalDone k).put (NP_STATUS_LINK k) 1).put (NP_STATUS_BLOCK_LOCK k) 1).put (NP_STATUS_FEC_ALIGN k)
      (if s.get (NP_CTRL_SPEED k) = 1 then 1 else 0))

end Sys2Proof.Machine
end

