-- ==== Sys2Proof/Machine/Junction.lean ====
section
/-! DEFINITION. Machine/Junction.lean: the words Junction moves from a producer port to a consumer port (R176 to R184, R482, R483). -/
namespace Sys2Proof.Machine

/-! ## What a frame moves (R482) -/

/-- One sample of a route in a frame: the route's index in the table, the route, the sample's place in the frame. -/
structure Move where
  index : Nat
  route : Route
  j : Nat
  deriving DecidableEq, Repr

/-- Samples a route of rate code `r` moves in the frame of the processing rate `pr` that begins now: one in every so many
frames at a lower rate. -/
def State.movesNow (s : State) (r pr : Nat) : Nat :=
  if rateHz pr ≤ rateHz r then rateHz r / rateHz pr
  else if sampleCount (rateHz pr) s.time % (rateHz pr / max 1 (rateHz r)) = 0 then 1 else 0

/-- The group of samples from port `p` to port `q` in this frame, ordered by index and then time. -/
def State.group (s : State) (im : Image) (p q : Nat) (kinds : List Nat) : List Move :=
  (im.routes.zipIdx.filter fun x => kinds.contains x.1.kind &&
      s.sourcePort (s.lanePhys im) x.1.source = p && s.destPort (s.lanePhys im) x.1 = q).flatMap fun x =>
    (List.range (s.movesNow ((s.sourceRate im x.1.source).getD im.rate) im.rate)).map fun j => ⟨x.2, x.1, j⟩

/-- Whether a route's source is an express output. -/
def Route.express (r : Route) : Bool := decide (0x4200 ≤ r.source ∧ r.source < 0x4280)

/-- The image whose routes carry the express outputs (R188, R197): from one frame after S_S, when the first samples of a pending image's
programs are computed, that image. -/
def State.expressImage (s : State) : Option Image :=
  match s.eng.switch, s.eng.pending with
  | some w, some im => if w.hot && !w.held && decide (w.block ≤ s.blockN ∧ s.frameTime w.block 1 ≤ s.time) then some im else s.eng.running
  | _, _ => s.eng.running

/-- The output routes in force: an express output's by the express programs' image, every other by the image whose block leaves. -/
def State.outGroup (s : State) (p q : Nat) : List (Image × Move) :=
  let cur := match s.outBlock with | some b => (s.group b.image p q [1, 2]).map fun m => (b.image, m) | none => []
  let ex := match s.expressImage with | some im => (s.group im p q [1, 2]).map fun m => (im, m) | none => []
  if s.outBlock.map (·.image) = s.expressImage then cur
  else (ex.filter fun x => x.2.route.express) ++ cur.filter fun x => !x.2.route.express

/-- The two samples of word `w` of the groups of this frame: input routes follow the image whose inputs are delivered, output
routes the image whose outputs leave (R65 steps 4 and 8). -/
def State.wordMoves (s : State) (p q w : Nat) : List (Image × Move) :=
  let ins := match s.inputImage with
    | some im => (s.group im p q [0, 3, 4]).map fun m => (im, m)
    | none => []
  ((ins ++ s.outGroup p q).drop (2 * w)).take 2

/-- Whether a rate, where there is one, is of the image's family (R483). -/
def inFamily (im : Image) (rate : Option Nat) : Bool := match rate with | some c => family c = family im.rate | none => false

/-- The value of a move: the point's sample, or the one before it when the word's other half is the later sample of the same
route. A source that does not exist at a rate of the image's family reads 0 (R483). -/
def State.moveValue (s : State) (l : List (Image × Move)) (x : Image × Move) : Word :=
  if !inFamily x.1 (s.sourceRate x.1 x.2.route.source) then 0
  else if l.any fun y => y.2.index = x.2.index && decide (x.2.j < y.2.j) then (s.pointPair x.2.route.source).2
  else s.pointNow x.2.route.source

/-! ## Rate adapters (R183) -/

def State.tapsAt (s : State) (k : Nat) : List Word := Sparse.get (fun _ => []) s.jct.taps k

/-- A sample enters the taps of a stage. -/
def State.pushTap (s : State) (k : Nat) (v : Word) : State :=
  { s with jct := { s.jct with taps := Sparse.put s.jct.taps k ((v :: s.tapsAt k).take 65) } }

/-- A stage's output from its last samples, newest first (R183): 65 taps, those an even distance from the middle zero, the two sides equal;
exact products and one rounding, with one bit less to drop behind an interpolation, whose every second sample is 0 (DEDUCED from the
pass band's 0 dB). -/
def halfBand (up : Bool) (taps : List Word) : Word :=
  let coef (i : Nat) : Int := let d := if i < 32 then 32 - i else i - 32
    if d = 0 ∨ d % 2 = 1 then Config.halfCoef d else 0
  q31Round ((taps.zipIdx.map fun x => coef x.2 * x.1.toInt).foldl (· + ·) 0) (Config.halfFrac - if up then 1 else 0)

/-- A decimating stage: every second sample gives one. -/
def State.stageDown (s : State) (k : Nat) (v : Word) : State × List Word :=
  let s := s.pushTap k v
  let ph := Sparse.get (fun _ => 0) s.jct.phase k
  ({ s with jct := { s.jct with phase := Sparse.set (fun _ => 0) s.jct.phase k (1 - ph) } },
   if ph = 1 then [halfBand false (s.tapsAt k)] else [])

/-- An interpolating stage: every sample gives two. -/
def State.stageUp (s : State) (k : Nat) (v : Word) : State × List Word :=
  let s := s.pushTap k v
  let a := halfBand true (s.tapsAt k)
  let s := s.pushTap k 0
  (s, [a, halfBand true (s.tapsAt k)])

/-- The stages of an adapter, `n` of them, at keys from `k`. -/
def State.adapt (s : State) (up : Bool) : Nat → Nat → List Word → State × List Word
  | 0, _, vs => (s, vs)
  | n + 1, k, vs =>
    let (s1, out) := vs.foldl (fun (acc : State × List Word) v =>
      let (s', o) := if up then acc.1.stageUp k v else acc.1.stageDown k v
      (s', acc.2 ++ o)) (s, [])
    s1.adapt up n (k + 1) out

/-- Factors of 2 between two rates of one family. -/
def rateSteps (a b : Nat) : Nat := Nat.log2 (max a b / max 1 (min a b))

/-- A sample through the adapter of a route: what it delivers at the destination's rate. -/
def State.adaptRoute (s : State) (im : Image) (m : Move) (v : Word) : State × List Word :=
  match s.sourceRate im m.route.source, s.destRate im m.route with
  | some a, some b => s.adapt (rateHz a < rateHz b) (rateSteps (rateHz a) (rateHz b)) (8 * m.index) [v]
  | _, _ => (s, [v])

/-! ## Delivery -/

/-- Key of a route's destination: a Depot buffer is one destination, whatever its DEST_INDEX. -/
def Route.key (r : Route) : Nat := destKey r.kind r.unit (if r.kind = 4 then 0 else r.index)

/-- The last frame boundary of the processing rate; the present time while the count stands still. -/
def State.frameStart (s : State) : Nat :=
  let fs := rateHz s.eng.seqRate
  if fs = 0 then s.time else s.frameTime s.eng.epochN ((s.time - s.eng.epochT) * fs / 1000000000)

/-- The `k`-th sample of a frame arrives at a destination; one that does not exist at a rate of the image's family drops it (R483). The rings
of partition inputs and Depot buffers hold 2 × B samples (R21, R482); a TDM slot holds each with its frame boundary. A transmit channel takes it as
the sample of its stream's frame boundary (R206, R215). -/
def State.deliver (s : State) (im : Image) (r : Route) (k : Nat) (v : Word) : State :=
  if !inFamily im (s.destRate im r) then s
  else
    let ring := (v :: Sparse.get (fun _ => []) s.jct.ring r.key).take (2 * blockSamples im.bsize)
    let s := { s with jct := { s.jct with
      ring := if r.kind = 0 || r.kind = 4 then Sparse.set (fun _ => []) s.jct.ring r.key ring else s.jct.ring } }
    match r.kind with
    | 1 =>
      let x := s.tdmPort r.unit
      let at_ := s.frameStart + k * 1000000000 / max 1 (rateHz (s.get (TDM_FORMAT_RATE r.unit)))
      s.setTdm r.unit { x with out := Sparse.put x.out r.index (((at_, v) :: Sparse.get (fun _ => []) x.out r.index).take 16) }
    | 2 => (match s.txAt r.unit with
      | some x => s.setTx r.unit
          { x with buf := Sparse.put x.buf (64 * (sampleCount (rateHz (fmtRate x.format)) s.frameStart + k) + r.index) v }
      | none => s)
    | 3 => { s with exp := { s.exp with inp := Sparse.put s.exp.inp (2 * r.unit + r.index) v } }
    | 4 => s.setPoint (0x4400 + r.unit) v
    | _ => s

/-- What a consumer takes for a sample of a discarded word (R184, R23): a lane's network input is concealed as a lost packet's
is, everything else is 0. -/
def State.lostSample (s : State) (r : Route) : Word :=
  if r.kind = 0 ∧ r.source < 0x4000 then
    match s.rxHolding r.source with
    | some e => e.2.concealed (s.concealPolicy e.2) (r.source - e.2.firstCh)
    | none => 0
  else 0

/-- One word is delivered (R184). -/
def State.junctionWord (s : State) (l : List (Image × Move)) (e : JctCheck) : State :=
  let s := match e with
    | .good => s
    | .correctable => s.bump JCT_ECC_CE_COUNT
    | .uncorrectable => ((s.bump JCT_ECC_UE_COUNT).put JCT_STATUS_UE 1).drive 229
  l.foldl (fun s x =>
    let v := if e = .uncorrectable then s.lostSample x.2.route else s.moveValue l x
    let (s, vs) := s.adaptRoute x.1 x.2 v
    vs.zipIdx.foldl (fun s v => s.deliver x.1 x.2.route (vs.length * x.2.j + v.2) v.1) s) s

/-- What the consumer finds when an injection is armed for a port of the transfer (R449). -/
def State.jctInjected (s : State) (p q : Nat) (e : JctCheck) : State × JctCheck :=
  if s.armed [4, 5] && (s.rwk.target = p || s.rwk.target = q) then
    (s.injected, if e = .good && s.rwk.kind = 4 then .correctable else .uncorrectable)
  else (s, e)

/-- JUNCTION_TRANSFER (R178): word `w` of this frame from port `p` to port `q`. -/
def execJunctionTransfer (p q : Fin 48) (w : BitVec 13) (e : JctCheck) (s : State) : Host.Outcome State Fault Refusal :=
  let l := s.wordMoves p q w.toNat
  let (s1, e1) := s.jctInjected p q e
  occurs (!l.isEmpty) s (s1.junctionWord l e1)

end Sys2Proof.Machine
end

