-- ==== Sys2Proof/Machine/Clock.lean ====
section
/-! DEFINITION. Machine/Clock.lean: the media clock DPLL: sources, lock, holdover, steps, the host servo (R226 to R232, R240). -/
namespace Sys2Proof.Machine

/-! ## State and sources -/

/-- MCK.STATUS.STATE changes: event 42, host vector 26; BSQ.STATUS follows (R227, R305, R404). -/
def State.setClock (s : State) (st : Nat) : State :=
  let s := if s.get MCK_STATUS_STATE = st then s else ((s.put MCK_STATUS_STATE st).pulse 42).irq 26
  (s.put BSQ_STATUS_SOURCE (s.get MCK_STATUS_SOURCE)).put BSQ_STATUS_LOCKED (if st = 3 then 1 else 0)

def State.onClk (s : State) (f : Clock → Clock) : State := { s with clk := f s.clk }

/-- The sources MCK.CTRL.SRC names, in priority order: 1 PTP, 2 WCLK_IN (R227). -/
def srcOrder (src : Nat) : List Nat :=
  match src with
  | 1 => [1] | 2 => [2] | 3 => [1, 2] | 4 => [2, 1] | _ => []

/-- Whether a source is qualified. -/
def State.qualified (s : State) (k : Nat) : Bool := if k = 1 then s.flag MCK_STATUS_QUAL_PTP else s.flag MCK_STATUS_QUAL_WCLK

/-- The highest-priority source that is qualified. -/
def State.bestSource (s : State) : Option Nat := (srcOrder (s.get MCK_CTRL_SRC)).find? s.qualified

/-- A source is in use: taken, and not lost. -/
def State.inUse (s : State) : Bool := decide (1 ≤ s.get MCK_STATUS_STATE ∧ s.get MCK_STATUS_STATE ≤ 3) && s.get MCK_STATUS_SOURCE ≠ 0

/-- A signed 32-bit register, saturating. -/
def sat32 (i : Int) : Word := BitVec.ofInt 32 (max (-(2 ^ 31)) (min i (2 ^ 31 - 1)))

/-- A new value of a measured register that the spec leaves to the hardware: a free value. -/
def State.drawReg (s : State) (a : Nat) : State := let (v, s) := s.draw; s.setReg a (v.setWidth 32)

/-- MCK.FREQ as the DPLL steers: MCK.HOST_FREQ in host-assisted servo mode (R231), else a frequency the spec leaves to the hardware. -/
def State.steer (s : State) : State :=
  if s.flag MCK_CTRL_HOST_SERVO then s.setReg MCK_FREQ (s.reg MCK_HOST_FREQ) else s.drawReg MCK_FREQ

/-! ## Holdover (R228) -/

/-- Holdover begins: HOLDOVERS counts, SOURCE stays, the 10 s run; MCK.FREQ holds the averaged frequency, or the host's in
host-assisted servo (R231). -/
def State.enterHoldover (s : State) : State :=
  let s := (s.bump MCK_COUNTS_HOLDOVERS).onClk fun c => { c with holdAt := some s.time, lostRaised := false, run := 0, step := none }
  s.steer.setClock 4

/-- A source is lost (R222, R228): it is not qualified; in use, it puts the DPLL into holdover and its channel is raised. -/
def State.loseSource (s : State) (k : Nat) : State :=
  let s := if k = 1 then s.put MCK_STATUS_QUAL_PTP 0 else s.put MCK_STATUS_QUAL_WCLK 0
  if s.inUse && s.get MCK_STATUS_SOURCE = k then s.enterHoldover.drive (if k = 1 then 254 else 257) else s

/-! ## Taking a source (R227, R229) -/

/-- Rate code of the media clock: the running image's, or while none runs the one taken from WCLK_IN (R226). -/
def State.clockRate (s : State) : Nat := match s.eng.running with | some im => im.rate | none => s.clk.wclkRate

/-- e of a source as it is taken, in ns: PTP's filtered offset, WCLK_IN's as measured, within half a frame either way (R226). -/
def State.phaseError (s : State) (k : Nat) (e : Int) : Int :=
  if k = 1 then s.clk.offset
  else match rateHz s.clockRate with
    | 0 => e
    | fs => e.bmod (1000000000 / fs)

/-- How far in ns the block count stands from PTP time, with e device time less PTP time (R16, R229): the block that runs began at PTP time
frameTime − e, and begins at sample N × B of it. -/
def State.countError (s : State) (e : Int) : Int :=
  (s.frameTime s.blockN 0 : Int) - e - sampleTime (rateHz s.eng.seqRate) (s.blockN * blockSamples s.eng.seqB)

/-- Whether PTP is taken with a step (R229): device time, or the block count, stands more than 1 ms from PTP time. -/
def State.mustStep (s : State) (e : Int) : Bool :=
  decide (1000000 < e.natAbs) || (s.eng.seqRate ≠ 0 && decide (1000000 < (s.countError e).natAbs))

/-- The block at whose end a primary steps with its standby, at least 2 ahead of its CMD (R383): it sends the STEP. -/
def State.planStep (s : State) (d : Int) : State :=
  let n := s.blockN + 2
  if s.get SOV_STATUS_ROLE = 2 then
    (s.onClk fun c => { c with step := some d, stepAt := some n }).sendCmd 4 0 0 n 0
  else if 3 ≤ s.get SOV_STATUS_ROLE then s
  else s.onClk fun c => { c with step := some d, stepAt := none }

/-- The DPLL takes source `k` (R229): PTP beyond 1 ms steps, unless the host has the servo (R231); everything else slews,
which brings the block count to PTP time with device time. -/
def State.takeSource (s : State) (k : Nat) (e : Int) : State :=
  let e := s.phaseError k e
  let s := ((s.put MCK_STATUS_SOURCE k).setReg MCK_PHASE_ERR (sat32 e)).steer
  let s := s.onClk fun c => { c with taken := true, holdAt := none, lostRaised := false, run := 0, step := none }
  if k = 1 ∧ s.mustStep e then
    let s := s.setClock 1
    if s.flag MCK_CTRL_HOST_SERVO then s else s.planStep (-e)
  else s.setClock 2

/-- The source the DPLL takes next, if it takes one (R227): the best one when none is in use, when it has a higher priority
than the one in use or held over, or when holdover has lasted 10 s. -/
def State.sourceDue (s : State) : Option Nat :=
  s.bestSource.filter fun k =>
    let order := srcOrder (s.get MCK_CTRL_SRC)
    let cur := s.get MCK_STATUS_SOURCE
    let at_ (x : Nat) := (order.findIdx? (· = x)).getD 9
    if s.get MCK_STATUS_STATE = 4 then
      at_ k ≤ at_ cur || (match s.clk.holdAt with | some t => decide (t + 10000000000 ≤ s.time) | none => true)
    else if s.inUse then decide (at_ k < at_ cur)
    else true

/-- The processing rate whose frame lies nearest a period in ps, as a rate code (R226). -/
def nearestRate (ps : Nat) : Nat :=
  let far (k : Nat) : Nat := let f := 1000000000000 / rateHz k; if f < ps then ps - f else f - ps
  [2, 3, 4, 5, 6].foldl (fun b k => if far k < far b then k else b) 1

/-- Whether a period in ps lies within ±200 ppm of a frame of a rate (R226). -/
def withinPpm (rate ps : Nat) : Bool :=
  let x := ps * rateHz rate
  decide (x ≤ 1000200000000 ∧ 999800000000 ≤ x)

/-- The rate WCLK_IN must have: the running image's, or the nearest one while none runs. -/
def State.wclkFor (s : State) (ps : Nat) : Nat := match s.eng.running with | some im => im.rate | none => nearestRate ps

/-- SOURCE_QUALIFIED (R226): a source meets its condition. -/
def State.qualify (s : State) (k : Nat) : State :=
  let s := if k = 1 then s.put MCK_STATUS_QUAL_PTP 1 else s.put MCK_STATUS_QUAL_WCLK 1
  if s.get MCK_STATUS_STATE = 0 && (srcOrder (s.get MCK_CTRL_SRC)).contains k then s.setClock 1 else s

/-- Whether a port is SLAVE to a qualified master (R222). -/
def State.ptpQualified (s : State) : Bool :=
  (List.range 4).any fun k => s.get (NP_STATUS_PTP_STATE k) = 6 && (Sparse.get (fun _ => {}) s.net.ptp k).qualified

/-- SOURCE_QUALIFIED (R226): PTP's condition is a SLAVE port with a qualified master; WCLK_IN's is 64 edges whose period, in ps, the board
sends. -/
def execSourceQualified (src : SourceTest) (s : State) : Host.Outcome State Fault Refusal :=
  match src with
  | .ptp => occurs s.ptpQualified s (s.qualify 1)
  | .wclk period =>
    let r := s.wclkFor period.toNat
    occurs (withinPpm r period.toNat) s ((s.onClk fun c => { c with wclkRate := r }).qualify 2)

/-- A measurement of e against WCLK_IN while it is in use (R226): beyond 20 ns the DPLL is not locked. -/
def State.wclkError (s : State) (e : Int) : State :=
  let e := s.phaseError 2 e
  let s := s.setReg MCK_PHASE_ERR (sat32 e)
  if s.get MCK_STATUS_STATE = 3 && decide (20 < e.natAbs) then s.setClock 2 else s

/-- SOURCE_TAKEN (R229); `e` is the phase error measured against WCLK_IN, in ns. With none to take, it is the error of the WCLK_IN in use. -/
def execSourceTaken (e : BitVec 64) (s : State) : Host.Outcome State Fault Refusal :=
  match s.sourceDue with
  | some k => done (s.takeSource k e.toInt)
  | none => occurs (s.inUse && s.get MCK_STATUS_SOURCE = 2) s (s.wclkError e.toInt)

/-- The DPLL locks (R226): under PTP device time is PTP time and block 0 starts at its epoch (R16). A count that a preset or a cold start has
since moved away from PTP time is stepped to it first; the host's servo never steps by itself, and the count goes on as it is (DESIGN CHOICE:
R16 gives N under lock, and R229 and R231 no other way to it). -/
def State.lockClock (s : State) : State :=
  if s.get MCK_STATUS_SOURCE = 1 && s.eng.seqRate ≠ 0 then
    if !s.mustStep s.clk.offset then (s.setClock 3).steer.onEng fun e => { e with epochN := 0, epochT := 0 }
    else if s.flag MCK_CTRL_HOST_SERVO then (s.setClock 3).steer
    else (s.setClock 1).planStep (-s.clk.offset)
  else (s.setClock 3).steer

/-- LOCK_ACHIEVED (R226): 16 accepted Sync samples within 100 ns, or 1,024 frames of WCLK_IN within 20 ns. -/
def execLockAchieved (s : State) : Host.Outcome State Fault Refusal :=
  occurs (s.inUse && s.clk.step.isNone && s.get MCK_STATUS_STATE ≠ 3 &&
      (s.get MCK_STATUS_SOURCE = 2 || decide (16 ≤ s.clk.run))) s s.lockClock

/-- SOURCE_LOSS (R228): WCLK_IN's loss is the board's; PTP's is a master lost on its port, and here the loss as such. -/
def execSourceLoss (src : MediaSource) (s : State) : Host.Outcome State Fault Refusal :=
  match src with
  | .ptp => occurs (s.flag MCK_STATUS_QUAL_PTP && !s.ptpQualified) s (s.loseSource 1)
  | .wclk => occurs (s.flag MCK_STATUS_QUAL_WCLK) s (s.loseSource 2)

/-- Whether PTP runs on a port: it is enabled and has left its initial state, whether or not the link is up (R222). -/
def State.ptpRuns (s : State) (k : Nat) : Bool :=
  s.flag (NP_CTRL_PTP_EN k) && s.get (NP_CTRL_SPEED k) ≠ 0 && s.get (NP_STATUS_PTP_STATE k) ≠ 0

/-- A PTP message is discarded and counted (R224). -/
def State.dropPtp (s : State) (k : Nat) : State := s.bump (NP_CTRLQ_PTP_DROP k)

/-- HOLDOVER_TIMEOUT (R222, R228): 10 s of holdover. PTP's counts in NP.CTRLQ.PTP_DROP (R224) of every port where PTP runs (DESIGN CHOICE: the
rule names no port). -/
def execHoldoverTimeout (s : State) : Host.Outcome State Fault Refusal :=
  match s.clk.holdAt with
  | some t =>
    occurs (s.get MCK_STATUS_STATE = 4 && !s.clk.lostRaised) s
      (let s := (s.until (t + 10000000000)).onClk fun c => { c with lostRaised := true }
       if s.get MCK_STATUS_SOURCE = 1 then (((List.range 4).filter s.ptpRuns).foldl State.dropPtp s).drive 255 else s.drive 258)
  | none => done s

/-! ## The step (R230) -/

/-- Whether a decided step acts now: at the end of the lane period that runs, or with none running at once; at the block a
CMD named (R383). -/
def State.stepDue (s : State) : Bool :=
  s.clk.step.isSome &&
    (match s.eng.period, s.clk.stepAt with
     | some n, some m => decide (m ≤ n)
     | _, _ => true)

/-- The count, the updates and a switch that completes, after a step of `d` ns (R230 items 2 to 7); samples not sent are discarded, and no
output has one before the first block reaches it (items 1 and 4). -/
def State.stepTime (s : State) (d : Int) : State :=
  let n := s.eng.updates.length
  let s := { s with time := ((s.time : Int) + d).toNat }
  let fs := rateHz s.eng.seqRate
  let b := blockSamples s.eng.seqB
  let f := (s.time * fs + 999999999) / 1000000000
  let m := if fs = 0 then s.blockN else f / b
  let s := if fs = 0 then s else (s.until (sampleTime fs f)).onEng fun e => { e with epochN := 0, epochT := 0 }
  let s := s.onEng fun e => { e with
    due := none, period := none, outs := [], cur := none, presetApplied := false
    switch := e.switch.map fun (w : Switch) => { w with block := m, restage := min w.restage m }
    updates := e.updates.map fun (u : Update) => { u with block := m } }
  let s := s.bumpBy BSQ_PARAM_COUNT_LATE n
  let s := if n = 0 then s else s.put BSQ_STATUS_PARAM_LATE 1
  let s := (s.put64 BSQ_BLOCK_LO m).put64 BSQ_BOUNDARY_LO (s.frameTime m 0)
  let s := { s with exp := { s.exp with
    quiet := if fs = 0 then 0 else sampleTime fs (f + 2)
    late := s.exp.late.map fun (e : Nat × (Word × Nat)) => (e.1, (e.2.1, 0)) } }
  -- presentation and launches follow the new time
  let s := { s with net := { s.net with
    rx := s.net.rx.map fun (e : Nat × RxStream) => (e.1, { e.2 with next := none })
    tx := s.net.tx.map fun (e : Nat × TxStream) => (e.1, { e.2 with last := none, buf := [] }) } }
  { s with tdm := s.tdm.map fun (e : Nat × TdmPort) =>
      (e.1, { e.2 with grace := s.time + 2 * s.tdmPeriod e.1, last := s.time, out := [] }) }

/-- MEDIA_CLOCK_STEP (R230): the lane period that runs ends with its commits; a pending switch due at its end is taken, another
is aborted where R67 allows; then the time moves. -/
def State.clockStep (s : State) (d : Int) : State :=
  let s := match s.eng.running, s.eng.period with
    | some im, some m =>
      let s := (s.until (s.frameTime s.blockN 1)).settlePeriod im m |>.1
      if s.imageEnds (m + 1) || (s.eng.switch.isSome && !s.mayAbort) then s.switchPoint (m + 1) else s
    | _, _ => s
  let s := if s.eng.switch.isSome && s.mayAbort && s.eng.running.isSome then s.abortSwitch else s
  let s := (s.stepTime d).onClk fun c => { c with step := none, stepAt := none, offset := 0 }
  ((s.bump MCK_COUNTS_STEPS).drive 256).irq 26

def execMediaClockStep (s : State) : Host.Outcome State Fault Refusal :=
  match s.clk.step with
  | some d => occurs s.stepDue s (s.clockStep d)
  | none => done s

/-! ## Register writes (R227, R231, R240) -/

/-- MCK.CTRL as written: a field out of range keeps its value, STEP_REQ is not kept (R240). -/
def State.clockFields (s : State) (v : Word) : State :=
  let n := v.toNat
  let s := s.putIf (n % 8 ≤ 4) MCK_CTRL_SRC (n % 8)
  let s := s.putIf (n / 16 % 8 ≤ 6) MCK_CTRL_PTP_BW (n / 16 % 8)
  let s := s.putIf (n / 512 % 4 ≤ 2) MCK_CTRL_MCLK_SEL (n / 512 % 4)
  (s.put MCK_CTRL_WCLK_OUT_EN (n / 256 % 2)).put MCK_CTRL_PROFILE (n / 2048 % 2)

/-- HOST_SERVO changes (R231, R429): entering, HOST_FREQ takes the current frequency. -/
def State.setServo (s : State) (on : Bool) : State :=
  if on = s.flag MCK_CTRL_HOST_SERVO then s
  else
    let s := s.put MCK_CTRL_HOST_SERVO (if on then 1 else 0)
    if on then (s.setReg MCK_HOST_FREQ (s.reg MCK_FREQ)).onClk fun c => { c with hostPhase := 0 }
    else if s.get MCK_STATUS_STATE = 3 then s.setClock 2 else s

/-- A write of SRC that no longer names the source in use (R227): the best of the new setting is taken at once, else holdover
without a channel; REFCLK only runs free. -/
def State.srcChanged (s : State) (e : Int) : State :=
  let order := srcOrder (s.get MCK_CTRL_SRC)
  let cur := s.get MCK_STATUS_SOURCE
  if cur = 0 || order.contains cur then s
  else match s.bestSource with
    | some k => s.takeSource k e
    | none =>
      if order.isEmpty then
        ((s.put MCK_STATUS_SOURCE 0).onClk fun c => { c with holdAt := none, run := 0, step := none }).setClock 0
          |>.setReg MCK_FREQ (if s.flag MCK_CTRL_HOST_SERVO then s.reg MCK_HOST_FREQ else 0)
      else if s.get MCK_STATUS_STATE = 4 then s else s.enterHoldover

/-- A host step (R231): STEP_REQ acts only in host-assisted servo mode, towards PTP time. -/
def State.hostStep (s : State) : State :=
  if s.flag MCK_CTRL_HOST_SERVO && s.get MCK_STATUS_SOURCE = 1 then s.planStep (-s.clk.offset) else s

/-- The profile sets the defaults of the PTP settings (R220): those of AES67 are MCK.PTP_CFG's reset values; those of SMPTE ST 2059-2 are domain
127, intervals −2, −3 and −3, timeout 3 (PRESUMED from that standard: the spec lists no defaults of the profiles). SLAVE_ONLY is no part
of them. -/
def State.profileDefaults (s : State) : State :=
  let d : Nat × Nat × Nat × Nat := if s.flag MCK_CTRL_PROFILE then (127, 14, 13, 13) else (0, 1, 13, 0)
  let s := ((s.put MCK_PTP_CFG_DOMAIN d.1).put MCK_PTP_CFG_LOG_ANN d.2.1).put MCK_PTP_CFG_LOG_SYNC d.2.2.1
  ((s.put MCK_PTP_CFG_LOG_DREQ d.2.2.2).put MCK_PTP_CFG_ANN_TIMEOUT 3).setReg MCK_PTP_PRIO 0x8080

/-- A write to MCK.CTRL. The phase error against WCLK_IN measured when it makes the DPLL take that source is a free value. -/
def State.writeMckCtrl (s : State) (m lvl : Nat) (v : Word) : State :=
  if !bySupervisor m lvl then s
  else
    let was := s.flag MCK_CTRL_PROFILE
    let s := (s.clockFields v).setServo (v.getLsbD 7)
    let s := if s.flag MCK_CTRL_PROFILE = was then s else s.profileDefaults
    let (e, s) := s.draw
    let s := s.srcChanged (e.setWidth 32).toInt
    if v.getLsbD 12 then s.hostStep else s

/-- HOST_FREQ is clipped to ±200 ppm, in units of 0.001 ppm (R231). -/
def State.writeHostFreq (s : State) (m lvl : Nat) (v : Word) : State :=
  if !bySupervisor m lvl then s
  else
    let s := s.setReg MCK_HOST_FREQ (BitVec.ofInt 32 (max (-200000) (min v.toInt 200000)))
    if s.flag MCK_CTRL_HOST_SERVO then s.setReg MCK_FREQ (s.reg MCK_HOST_FREQ) else s

/-- A write to MCK.HOST_PHASE (R231): ns to slew. -/
def State.writeHostPhase (s : State) (m lvl : Nat) (v : Word) : State :=
  if !bySupervisor m lvl then s
  else if s.flag MCK_CTRL_HOST_SERVO then s.onClk fun c => { c with hostPhase := c.hostPhase + v.toInt } else s

/-- MCK.PTP_CFG: a field out of range keeps its value (R220, R240). -/
def State.writePtpCfg (s : State) (m lvl : Nat) (v : Word) : State :=
  if !bySupervisor m lvl then s
  else
    let n := v.toNat
    let sg (x : Nat) : Int := (BitVec.ofNat 4 x).toInt
    let f (k : Nat) := n / 2 ^ k % 16
    let s := (s.put MCK_PTP_CFG_SLAVE_ONLY (n / 2 ^ 24 % 2)).put MCK_PTP_CFG_DOMAIN (n % 128)
    let s := s.putIf (decide (-7 ≤ sg (f 20) ∧ sg (f 20) ≤ 5)) MCK_PTP_CFG_LOG_DREQ (f 20)
    let s := s.putIf (decide (2 ≤ f 16 ∧ f 16 ≤ 10)) MCK_PTP_CFG_ANN_TIMEOUT (f 16)
    let s := s.putIf (decide (-3 ≤ sg (f 12) ∧ sg (f 12) ≤ 4)) MCK_PTP_CFG_LOG_ANN (f 12)
    s.putIf (decide (-7 ≤ sg (f 8) ∧ sg (f 8) ≤ 1)) MCK_PTP_CFG_LOG_SYNC (f 8)

/-- STEP_REQ: a write to MCK.CTRL with the bit set (R231). -/
def execStepReq (m : BitVec 8) (lvl : BitVec 2) (v : Word) (s : State) : Host.Outcome State Fault Refusal :=
  access s (s.writeMckCtrl m.toNat lvl.toNat v)

def execHostPhaseWrite (m : BitVec 8) (lvl : BitVec 2) (v : Word) (s : State) : Host.Outcome State Fault Refusal :=
  access s (s.writeHostPhase m.toNat lvl.toNat v)

/-- SRC_WRITE: a write to MCK.CTRL that changes SRC (R227). -/
def execSrcWrite (m : BitVec 8) (lvl : BitVec 2) (v : Word) (s : State) : Host.Outcome State Fault Refusal :=
  access s (s.writeMckCtrl m.toNat lvl.toNat v)

end Sys2Proof.Machine
end

