-- ==== Sys2Proof/Machine/Ptp.lean ====
section
/-! DEFINITION. Machine/Ptp.lean: PTP on the network ports: the default BMCA of IEEE 1588-2019 (PRESUMED where R220 only names
it), timestamps, offset and path delay, the loss of a master (R220 to R224). -/
namespace Sys2Proof.Machine

/-! ## Ports -/

def State.ptp (s : State) (k : Nat) : PtpPort := Sparse.get (fun _ => {}) s.net.ptp k

def State.setPtp (s : State) (k : Nat) (p : PtpPort) : State :=
  { s with net := { s.net with ptp := Sparse.set (fun _ => {}) s.net.ptp k p } }

def State.onPtp (s : State) (k : Nat) (f : PtpPort → PtpPort) : State := s.setPtp k (f (s.ptp k))

/-- NP.STATUS.PTP_STATE changes: event 43 (R305). -/
def State.setPtpState (s : State) (k st : Nat) : State :=
  if s.get (NP_STATUS_PTP_STATE k) = st then s else (s.put (NP_STATUS_PTP_STATE k) st).pulse 43

/-- Whether PTP messages pass on a port: it runs there, over a link. -/
def State.ptpOn (s : State) (k : Nat) : Bool := s.ptpRuns k && s.flag (NP_STATUS_LINK k)

/-- A port enters LISTENING (R222): nothing heard before counts. -/
def State.listen (s : State) (k : Nat) : State :=
  let p := s.ptp k
  (s.setPtp k { since := s.time, seqSync := p.seqSync, seqReq := p.seqReq, seqAnn := p.seqAnn }).setPtpState k 1

/-- clockIdentity of the device: the EUI-64 of port 0's MAC address, with FF FE in the middle (PRESUMED). -/
def State.clockId (s : State) : Nat :=
  let mac := s.portMac 0
  mac / 2 ^ 24 * 2 ^ 40 + 0xFFFE * 2 ^ 24 + mac % 2 ^ 24

/-- The device's own dataset D0: class 248, accuracy 0xFE, variance 0xFFFF (PRESUMED, the defaults of IEEE 1588-2019). -/
def State.ownData (s : State) : AnnData :=
  { gmId := s.clockId, prio1 := s.get MCK_PTP_PRIO_PRIORITY1, clockClass := 248, accuracy := 0xFE, variance := 0xFFFF,
    prio2 := s.get MCK_PTP_PRIO_PRIORITY2, steps := 0, source := s.clockId * 2 ^ 16 }

/-! ## The best master (R220) -/

/-- The fields the comparison goes by, in order: of the grandmaster, or of the path to the same one. -/
def AnnData.rank (d : AnnData) : List Nat := [d.prio1, d.clockClass, d.accuracy, d.variance, d.prio2, d.gmId]

/-- Lexicographic order of lists of one length. -/
def lexLt : List Nat → List Nat → Bool
  | a :: as, b :: bs => decide (a < b) || (a = b && lexLt as bs)
  | _, _ => false

/-- Whether dataset `a` is better than `b`. -/
def AnnData.better (a b : AnnData) : Bool :=
  if a.gmId = b.gmId then lexLt [a.steps, a.source] [b.steps, b.source] else lexLt a.rank b.rank

/-- The best foreign master over every enabled port, with its port. -/
def State.bestMaster (s : State) : Option (Nat × AnnData) :=
  ((List.range 4).filter s.ptpRuns).foldl (fun b k =>
    match b, (s.ptp k).best with
    | none, some d => some (k, d)
    | some (j, c), some d => if d.better c then some (k, d) else some (j, c)
    | b, none => b) none

/-- The BMCA's decision for a port (R220): the state it takes. A port that becomes master does so through PRE_MASTER; one
that has heard no master stays LISTENING until its announce receipt timeout. -/
def State.decidePort (s : State) (k : Nat) : Nat :=
  let cur := s.get (NP_STATUS_PTP_STATE k)
  let master := if cur = 3 then 3 else if cur = 1 ∧ (s.ptp k).best.isNone then 1 else 2
  let slaveOnly := s.flag MCK_PTP_CFG_SLAVE_ONLY
  match s.bestMaster with
  | none => if slaveOnly then 1 else master
  | some (j, d) =>
    if !slaveOnly && s.ownData.better d then master
    else if j = k then (if (s.ptp k).qualified then 6 else 5)
    else match (s.ptp k).best with
      | none => if slaveOnly then 1 else master
      | some e => if slaveOnly || e.gmId = d.gmId then 4 else master

/-- Every running port takes the state the BMCA gives it; the grandmaster's identity follows (R220, MCK.GM_ID). -/
def State.runBmca (s : State) : State :=
  let s := (List.range 4).foldl (fun s k => if s.ptpRuns k then s.setPtpState k (s.decidePort k) else s) s
  match s.bestMaster with
  | some (_, d) => s.put64 MCK_GM_ID_LO (if !s.flag MCK_PTP_CFG_SLAVE_ONLY && s.ownData.better d then s.clockId else d.gmId)
  | none => s.put64 MCK_GM_ID_LO (if (List.range 4).any fun k => s.get (NP_STATUS_PTP_STATE k) = 3 then s.clockId else 0)

/-- The port loses its master (R222): it listens again; when no port is SLAVE to a qualified one PTP is lost (R228). -/
def State.loseMaster (s : State) (k : Nat) : State :=
  let s := (s.listen k).runBmca
  if s.flag MCK_STATUS_QUAL_PTP && !s.ptpQualified then s.loseSource 1 else s

/-! ## Time -/

/-- ns of a signed base-2 logarithm of seconds, 4 bits. -/
def logNs (f : Nat) : Nat :=
  let e : Int := (BitVec.ofNat 4 f).toInt
  if 0 ≤ e then 1000000000 * 2 ^ e.toNat else 1000000000 / 2 ^ (-e).toNat

/-- An instant of a message, in ns. -/
def timeNanos (t : PtpTime) : Int := Int.ofNat (t.sec.toNat * 1000000000 + t.ns.toNat)

/-- NP.PTP_ASYM, signed ns; it is taken as IEEE 1588's delayAsymmetry (PRESUMED). -/
def State.asym (s : State) (k : Nat) : Int := (BitVec.ofNat 16 (s.get (NP_PTP_ASYM_ASYM k))).toInt

/-- Whether the port hears its master: the message comes from the best one's port. -/
def State.fromMaster (s : State) (k : Nat) (m : PtpMessage) : Bool :=
  (s.get (NP_STATUS_PTP_STATE k) = 5 || s.get (NP_STATUS_PTP_STATE k) = 6) &&
    (match (s.ptp k).best with | some d => d.source = m.source.toNat | none => false)

/-- A master qualifies after 4 announce intervals and 16 accepted Sync samples (R222). -/
def State.checkQualified (s : State) (k : Nat) : State :=
  let p := s.ptp k
  if !p.qualified && decide (5 ≤ p.annCount ∧ 16 ≤ p.syncs) then
    (s.setPtp k { p with qualified := true }).runBmca
  else s

/-- An offset sample of the master (R222, R226): an outlier over 1 µs is discarded, and the eighth in a row loses the master;
else the filtered offset takes it, and the run of samples within 100 ns goes on or breaks. -/
def State.takeOffset (s : State) (k : Nat) (forth : Int) : State :=
  let p := s.ptp k
  let x := forth - (s.reg MCK_MPD).toInt
  let old := s.clk.offset
  if p.syncs ≠ 0 ∧ 1000 < (x - old).natAbs then
    if 8 ≤ p.outliers + 1 then (s.dropPtp k).loseMaster k
    else (s.dropPtp k).setPtp k { p with outliers := p.outliers + 1 }
  else
    let f := if p.syncs = 0 then x else Config.ptpFilter (s.get MCK_CTRL_PTP_BW) old x
    let s := (s.setPtp k { p with syncs := p.syncs + 1, outliers := 0, forth := forth }).setReg MCK_OFFSET (sat32 f)
    let s := s.onClk fun c => { c with offset := f, run := if f.natAbs ≤ 100 then c.run + 1 else 0 }
    let s := if s.inUse && s.get MCK_STATUS_SOURCE = 1 then
        let s := s.setReg MCK_PHASE_ERR (sat32 f)
        if s.get MCK_STATUS_STATE = 3 ∧ 100 < f.natAbs then s.setClock 2 else s
      else s
    s.checkQualified k

/-! ## Messages sent (R200, R220, R221), in the layout of IEEE 1588-2019 over UDP and IPv4 multicast (PRESUMED) -/

/-- The addresses of a port's PTP messages: 224.0.1.129, TTL 1, DSCP 46 (PRESUMED). -/
def State.ptpLeg (s : State) (k port : Nat) : TxLeg :=
  { dstMac := 0x01005E000181, srcMac := s.portMac k, vlan := s.portVlan k, dscp := 46, ttl := 1
    srcIp := s.get (NP_IPV4_ADDR k), dstIp := 0xE0000181, srcPort := port, dstPort := port }

/-- This port's portIdentity: clockIdentity and port number k + 1. -/
def State.portId (s : State) (k : Nat) : Nat := s.clockId * 2 ^ 16 + (k + 1)

/-- An instant as a message carries it: 6 bytes of seconds, 4 of nanoseconds. -/
def ptpStamp (t : Nat) : List Byte := beBytes 6 (t / 1000000000) ++ beBytes 4 (t % 1000000000)

/-- A message of port `k`: its type, flags, sequenceId, correctionField, controlField, logMessageInterval and body. -/
def State.ptpBytes (s : State) (k ty flags seq corr ctl log : Nat) (body : List Byte) : List Byte :=
  [BitVec.ofNat 8 ty, 0x12] ++ beBytes 2 (34 + body.length) ++ [BitVec.ofNat 8 (s.get MCK_PTP_CFG_DOMAIN), 0] ++ beBytes 2 flags ++
    beBytes 8 corr ++ beBytes 4 0 ++ beBytes 10 (s.portId k) ++ beBytes 2 seq ++ [BitVec.ofNat 8 ctl, BitVec.ofNat 8 log] ++ body

/-- A message leaves on its UDP port: 319 for the event types, 320 for the others. -/
def State.sendPtp (s : State) (k ty flags seq corr ctl log : Nat) (body : List Byte) : State :=
  s.sendFrame k (udpFrame (s.ptpLeg k (if ty < 8 then 319 else 320)) (s.ptpBytes k ty flags seq corr ctl log body))

/-- A signed 4-bit interval field as logMessageInterval. -/
def logByte (f : Nat) : Nat := ((BitVec.ofNat 4 f).signExtend 8).toNat

/-- The dataset a MASTER port announces: the device's own where it is the best, else the master's with stepsRemoved + 1 (R220). -/
def State.announced (s : State) : AnnData :=
  match s.bestMaster with
  | some (_, d) => if !s.flag MCK_PTP_CFG_SLAVE_ONLY && s.ownData.better d then s.ownData else { d with steps := d.steps + 1 }
  | none => s.ownData

/-- Body of an Announce; currentUtcOffset 37 and timeSource 0xA0 are PRESUMED. -/
def AnnData.body (d : AnnData) : List Byte :=
  ptpStamp 0 ++ beBytes 2 37 ++ [0, BitVec.ofNat 8 d.prio1, BitVec.ofNat 8 d.clockClass, BitVec.ofNat 8 d.accuracy] ++
    beBytes 2 d.variance ++ [BitVec.ofNat 8 d.prio2] ++ beBytes 8 d.gmId ++ beBytes 2 d.steps ++ [0xA0]

/-- A Delay_Resp: the request's receipt, its correctionField and its sender. -/
def State.sendDelayResp (s : State) (k : Nat) (m : PtpMessage) : State :=
  s.sendPtp k 9 0 m.seq.toNat ((m.correction.signExtend 64).toNat) 3 (logByte (s.get MCK_PTP_CFG_LOG_DREQ))
    (ptpStamp s.time ++ beBytes 10 m.source.toNat)

/-! ## Messages received -/

/-- A dataset as it comes in an Announce. -/
def annOf (m : PtpMessage) (d : PtpAnnounce) : AnnData :=
  { gmId := d.gmId.toNat, prio1 := d.prio1.toNat, clockClass := d.clockClass.toNat, accuracy := d.accuracy.toNat,
    variance := d.variance.toNat, prio2 := d.prio2.toNat, steps := d.steps.toNat, source := m.source.toNat }

/-- An invalid Announce (R222, R224): from the current master, the eighth in a row loses it. -/
def State.badAnnounce (s : State) (k : Nat) (m : PtpMessage) : State :=
  let s := s.dropPtp k
  if s.fromMaster k m then
    if 8 ≤ (s.ptp k).badAnn + 1 then s.loseMaster k else s.onPtp k fun p => { p with badAnn := p.badAnn + 1 }
  else s

/-- An Announce (R220, R222): the current master's refreshes it, and a change of its grandmaster's identity loses it; a better
one replaces it, and changes the grandmaster's identity where it has another (R224). -/
def State.takeAnnounce (s : State) (k : Nat) (m : PtpMessage) (d : PtpAnnounce) : State :=
  let a := annOf m d
  if 255 ≤ d.steps.toNat then s.badAnnounce k m
  else match (s.ptp k).best with
    | none => (s.onPtp k fun p => { p with best := some a, annAt := s.time, annCount := 1, badAnn := 0 }).runBmca
    | some b =>
      if b.source = a.source then
        if b.gmId ≠ a.gmId then (s.loseMaster k).dropPtp k
        else
          let s := s.onPtp k fun p => { p with best := some a, annAt := s.time, annCount := p.annCount + 1, badAnn := 0 }
          s.runBmca.checkQualified k
      else if a.better b then
        let was := s.get (NP_STATUS_PTP_STATE k) = 6
        let s := if was then s.loseMaster k else s.listen k
        let s := if a.gmId = b.gmId then s else s.dropPtp k
        (s.onPtp k fun p => { p with best := some a, annAt := s.time, annCount := 1 }).runBmca
      else s

/-- A Sync of the master (R221, R224): its receipt is stamped; a two-step one waits for its Follow_Up. A Sync still waiting
has none, and its sample is discarded. -/
def State.takeSync (s : State) (k : Nat) (m : PtpMessage) (twoStep : Bool) (t : PtpTime) : State :=
  if !s.fromMaster k m then s
  else
    let s := if (s.ptp k).sync.isSome then s.dropPtp k else s
    let c := m.correction.toInt + s.asym k
    if twoStep then s.onPtp k fun p => { p with sync := some (m.seq.toNat, s.time, c) }
    else (s.onPtp k fun p => { p with sync := none }).takeOffset k (Int.ofNat s.time - timeNanos t - c)

/-- A Follow_Up (R224). -/
def State.takeFollowUp (s : State) (k : Nat) (m : PtpMessage) (t : PtpTime) : State :=
  match (s.ptp k).sync with
  | some (q, at_, c) =>
    if s.fromMaster k m && decide (q = m.seq.toNat) then
      (s.onPtp k fun p => { p with sync := none }).takeOffset k (Int.ofNat at_ - timeNanos t - c - m.correction.toInt)
    else s.dropPtp k
  | none => s.dropPtp k

/-- A Delay_Resp (R224): the mean path delay is half of both ways. -/
def State.takeDelayResp (s : State) (k : Nat) (m : PtpMessage) (t : PtpTime) (who : Nat) : State :=
  match (s.ptp k).req with
  | some (q, sent) =>
    if s.fromMaster k m && decide (q = m.seq.toNat ∧ who = s.portId k) then
      let back : Int := timeNanos t - Int.ofNat sent - m.correction.toInt + s.asym k
      (s.onPtp k fun p => { p with req := none, noResp := 0 }).setReg MCK_MPD (sat32 (((s.ptp k).forth + back) / 2))
    else s.dropPtp k
  | none => s.dropPtp k

/-- A PTP message arrives on a port where PTP runs (R200, R201, R220 to R224). A MASTER port answers a Delay_Req. -/
def State.ptpMessage (s : State) (k : Nat) (m : PtpMessage) : State :=
  if m.version ≠ 2 ∨ m.domain.toNat ≠ s.get MCK_PTP_CFG_DOMAIN then s.dropPtp k
  else match m.body with
    | .unsupported => s.dropPtp k
    | .announce d => if m.malformed then s.badAnnounce k m else s.takeAnnounce k m d
    | .sync two t => if m.malformed then s.dropPtp k else s.takeSync k m two t
    | .followUp t => if m.malformed then s.dropPtp k else s.takeFollowUp k m t
    | .delayReq =>
      if m.malformed then s.dropPtp k
      else if s.get (NP_STATUS_PTP_STATE k) = 3 then s.sendDelayResp k m else s
    | .delayResp t who => if m.malformed then s.dropPtp k else s.takeDelayResp k m t who.toNat

def execPtpMessage (k : Fin 4) (msg : PtpMessage) (s : State) : Host.Outcome State Fault Refusal :=
  occurs (s.ptpOn k) s (s.ptpMessage k msg)

/-! ## Scheduled messages and timers -/

/-- A port sends its scheduled message (R220): a MASTER its Sync or Announce, a slave its Delay_Req; a Delay_Req not answered is given up
(R224). A one-step Sync carries its own originTimestamp, with the UDP checksum over it (R221); a two-step one is followed by the
Follow_Up that carries it. -/
def State.ptpSend (s : State) (k : Nat) (kind : PtpKind) : State :=
  let st := s.get (NP_STATUS_PTP_STATE k)
  let p := s.ptp k
  match kind with
  | .sync =>
    if st ≠ 3 then s
    else
      let s := s.setPtp k { p with seqSync := (p.seqSync + 1) % 65536 }
      let log := logByte (s.get MCK_PTP_CFG_LOG_SYNC)
      if s.flag (NP_CTRL_ONE_STEP k) then s.sendPtp k 0 0 p.seqSync 0 0 log (ptpStamp s.time)
      else (s.sendPtp k 0 0x0200 p.seqSync 0 0 log (ptpStamp 0)).sendPtp k 8 0 p.seqSync 0 2 log (ptpStamp s.time)
  | .announce =>
    if st ≠ 3 then s
    else (s.setPtp k { p with seqAnn := (p.seqAnn + 1) % 65536 }).sendPtp k 11 8 p.seqAnn 0 5 (logByte (s.get MCK_PTP_CFG_LOG_ANN))
      s.announced.body
  | .delayReq =>
    if st ≠ 5 ∧ st ≠ 6 then s
    else (s.setPtp k { p with req := some (p.seqReq, s.time), seqReq := (p.seqReq + 1) % 65536 }).sendPtp k 1 0 p.seqReq 0 1 0x7F
      (ptpStamp 0)

def execPtpMessageSend (k : Fin 4) (kind : PtpKind) (s : State) : Host.Outcome State Fault Refusal :=
  occurs (s.ptpOn k) s (s.ptpSend k kind)

/-- The announce receipt timeout of port `k` ends (R222): announceReceiptTimeout announce intervals after the last Announce. A
port that could become MASTER and hears none goes to PRE_MASTER (R220). -/
def State.announceTimeout (s : State) (k : Nat) : State :=
  let p := s.ptp k
  let wait := s.get MCK_PTP_CFG_ANN_TIMEOUT * logNs (s.get MCK_PTP_CFG_LOG_ANN)
  match p.best with
  | some _ => (s.until (p.annAt + wait)).loseMaster k
  | none =>
    let s := s.until (p.since + wait)
    if s.get (NP_STATUS_PTP_STATE k) = 1 && !s.flag MCK_PTP_CFG_SLAVE_ONLY then s.setPtpState k 2 else s

def execAnnounceReceiptTimeout (k : Fin 4) (s : State) : Host.Outcome State Fault Refusal :=
  occurs (s.ptpRuns k) s (s.announceTimeout k)

/-- DELAY_RESP_TIMEOUT (R222, R224): one Delay_Req interval without the answer; the sixteenth in a row loses the master. -/
def State.delayTimeout (s : State) (k sent : Nat) : State :=
  let s := (s.until (sent + logNs (s.get MCK_PTP_CFG_LOG_DREQ))).dropPtp k
  let s := s.onPtp k fun p => { p with req := none, noResp := p.noResp + 1 }
  if 16 ≤ (s.ptp k).noResp then s.loseMaster k else s

def execDelayRespTimeout (k : Fin 4) (s : State) : Host.Outcome State Fault Refusal :=
  match (s.ptp k).req with
  | some (_, sent) => occurs (s.ptpRuns k) s (s.delayTimeout k sent)
  | none => done s

/-- FOLLOW_UP_TIMEOUT (R224): one Sync interval without the Follow_Up; the sample is discarded. -/
def execFollowUpTimeout (k : Fin 4) (s : State) : Host.Outcome State Fault Refusal :=
  match (s.ptp k).sync with
  | some (_, at_, _) =>
    occurs (s.ptpRuns k) s
      (((s.until (at_ + logNs (s.get MCK_PTP_CFG_LOG_SYNC))).dropPtp k).onPtp k fun p => { p with sync := none })
  | none => done s

/-- PRE_MASTER_QUALIFICATION (R220): the port becomes MASTER. -/
def execPreMasterQualification (k : Fin 4) (s : State) : Host.Outcome State Fault Refusal :=
  occurs (s.ptpRuns k && s.get (NP_STATUS_PTP_STATE k) = 2 && !s.flag MCK_PTP_CFG_SLAVE_ONLY) s (s.setPtpState k 3).runBmca

/-- PTP_EN or the port's link changes (R222): the port starts listening, or stops. -/
def State.ptpEnable (s : State) (k : Nat) : State :=
  let on := s.flag (NP_CTRL_PTP_EN k) && s.get (NP_CTRL_SPEED k) ≠ 0
  if on && s.get (NP_STATUS_PTP_STATE k) = 0 then s.listen k
  else if !on && s.get (NP_STATUS_PTP_STATE k) ≠ 0 then
    ((s.loseMaster k).setPtp k {}).setPtpState k 0
  else s

end Sys2Proof.Machine
end

