-- ==== Sys2Proof/Machine/Tdm.lean ====
section
/-! DEFINITION. Machine/Tdm.lean: the TDM ports: formats, frames in and out, master and slave, framing violations (R234 to R240). -/
namespace Sys2Proof.Machine

/-! ## Formats (R234, R235) -/

/-- Bits per frame at most, by rate code (R235). -/
def tdmMaxBits (rate : Nat) : Nat :=
  match rate with | 1 | 2 => 1024 | 3 | 4 => 512 | 5 | 6 => 256 | 7 => 128 | _ => 0

/-- Whether a TDM.FORMAT value is a format the port can run (R234, R235). -/
def tdmValid (v : Word) : Bool :=
  let f (x : Fld) := x.read v
  let slots := f (TDM_FORMAT_SLOTS 0) + 1
  let rate := f (TDM_FORMAT_RATE 0)
  let mode := f (TDM_FORMAT_MODE 0)
  let off := f (TDM_FORMAT_OFFSET 0)
  decide (f (TDM_FORMAT_WIDTH 0) < 3 ∧ 1 ≤ rate) &&
    decide (slots * widthOf (f (TDM_FORMAT_WIDTH 0)) ≤ tdmMaxBits rate) &&
    (match mode with
     | 2 => slots = 2 && off = 1
     | 3 => slots = 2 && off = 0
     | _ => true)
where
  widthOf (w : Nat) : Nat := if w = 0 then 16 else if w = 1 then 24 else 32

/-- WIDTH in bits. -/
def State.tdmWidth (s : State) (p : Nat) : Nat :=
  match s.get (TDM_FORMAT_WIDTH p) with | 0 => 16 | 1 => 24 | _ => 32

/-- Slots of a frame; the field holds one less. -/
def State.tdmSlots (s : State) (p : Nat) : Nat := s.get (TDM_FORMAT_SLOTS p) + 1

/-- Every input slot of a port reads 0. -/
def State.tdmSilence (s : State) (p : Nat) : State :=
  (List.range 32).foldl (fun s k => s.setPoint (0x4000 + 32 * p + k) 0) s

/-- What DOUT carries while a port is not running (R236, R239). -/
def State.tdmIdle (s : State) (p : Nat) : List (Option Word) :=
  (List.range (s.tdmSlots p)).map fun _ => if s.flag (TDM_FORMAT_HIZ_UNUSED p) then none else some 0

/-- A write to TDM.FORMAT (R235, R236, R238, R240): the port restarts, a slave with ALIGN = 1 retimed, or its configuration is
rejected. An invalid WIDTH is kept only where it is part of a rejected configuration. -/
def State.writeTdmFormat (s : State) (p m lvl : Nat) (v : Word) : State :=
  if !bySupervisor m lvl then s
  else
    let width := s.get (TDM_FORMAT_WIDTH p)
    let s := ((s.setReg (TDM_FORMAT p) (v &&& 0x00177FFF)).put (TDM_STATUS_RETIMED p) 0).tdmSilence p
    let s := if s.get (TDM_FORMAT_WIDTH p) = 3 && !v.getLsbD 0 then s.put (TDM_FORMAT_WIDTH p) width else s
    let s := if v.getLsbD 1 then s.put (TDM_STATUS_PHASE p) 0 else s
    let s := s.setTdm p {}
    if !v.getLsbD 0 then s.put (TDM_STATUS_STATE p) 0
    else if tdmValid v then
      let s := if v.getLsbD 20 && !v.getLsbD 1 then s.put (TDM_STATUS_RETIMED p) 1 else s
      ((s.put (TDM_STATUS_STATE p) 1).setTdm p { sent := s.tdmIdle p, last := s.time })
    else s.put (TDM_STATUS_STATE p) 4

def execTdmFormatWrite (m : BitVec 8) (lvl : BitVec 2) (p : Fin 16) (v : Word) (s : State) :
    Host.Outcome State Fault Refusal := access s (s.writeTdmFormat p m.toNat lvl.toNat v)

/-! ## Frames (R236 to R239) -/

/-- Whether a port runs retimed (R238): set so, or gone so. -/
def State.tdmRetimed (s : State) (p : Nat) : Bool :=
  !s.flag (TDM_FORMAT_MASTER p) && (s.flag (TDM_FORMAT_ALIGN p) || s.flag (TDM_STATUS_RETIMED p))

/-- The device time by which a port's frame that ends now is timed (R237, R238): a master's ends at a frame boundary of RATE, the first after
its last frame or, if that has gone, the last one; an aligned slave's is timed by the nearest boundary, the later of two equally near; a retimed
one's by its external end. -/
def State.tdmEnd (s : State) (p : Nat) : Nat :=
  let fs := rateHz (s.get (TDM_FORMAT_RATE p))
  if s.flag (TDM_FORMAT_MASTER p) then max (s.rateFrame fs (s.tdmPort p).last) (s.rateFloor fs s.time)
  else if s.tdmRetimed p then s.time
  else s.rateFrame fs (s.time - s.tdmPeriod p / 2 - 1)

/-- The sample that slot `k` sends in the frame that ends at `t` (R238): that of the media-clock frame it is timed by; retimed, that of the
last media-clock frame that began 500 ns or more before it; 0 when none was delivered for that frame. Where PHASE crosses half a frame, a
sample is so left out or sent twice (R239). -/
def State.tdmSample (s : State) (p k t : Nat) : Word :=
  let period : Int := s.tdmPeriod p
  let limit : Int := if s.tdmRetimed p then (t : Int) - period - 500 else (t : Int) - period / 2
  match (Sparse.get (fun _ => []) (s.tdmPort p).out k).find? fun e => decide ((e.1 : Int) ≤ limit) with
  | some e => if limit ≤ (e.1 : Int) + period then e.2 else 0
  | none => 0

/-- The value of output slot `k`: the routed sample rounded to WIDTH, in its high bits; zeros or high-impedance when no routing
entry of the image whose outputs leave feeds it (R236). -/
def State.tdmOut (s : State) (p t k : Nat) : Option Word :=
  let feeds (im : Image) (f : Route → Bool) : Bool := im.routes.any fun r => r.kind = 1 && r.unit = p && r.index = k && f r
  let routed := (match s.eng.cur with
    | some b => feeds b.image fun _ => true
    | none => (match s.eng.running with | some im => feeds im fun _ => true | none => false)) ||
    (match s.expressImage with | some im => feeds im Route.express | none => false)
  if routed then
    let w := s.tdmWidth p
    some (BitVec.ofNat 32 (roundSample w (s.tdmSample p k t) * 2 ^ (32 - w)))
  else if s.flag (TDM_FORMAT_HIZ_UNUSED p) then none else some 0

/-- A frame's DOUT (R236, R323, R381, R390): the safe state's level; a standby sends nothing; idle until STATE = 2. -/
def State.tdmFrameOut (s : State) (p t : Nat) : List (Option Word) :=
  let n := List.range (s.tdmSlots p)
  match s.pinsOf.dout with
  | .highZ => n.map fun _ => none
  | .low => n.map fun _ => some 0
  | .data => if s.get (TDM_STATUS_STATE p) = 2 then n.map (s.tdmOut p t) else s.tdmIdle p

/-- The input samples of a frame: WIDTH bits each in the high bits of their routing points (R236). -/
def State.tdmFrameIn (s : State) (p : Nat) (data : List Word) : State :=
  let w := s.tdmWidth p
  (List.range (s.tdmSlots p)).foldl (fun s k =>
    s.setPoint (0x4000 + 32 * p + k)
      (BitVec.ofNat 32 ((data.getD k 0).toNat / 2 ^ (32 - w) * 2 ^ (32 - w)))) s

/-- A frame of a slave port with the wrong number of BCLK periods (R239): its inputs are 0 and it counts, unless a step's
grace excuses it (R230). -/
def State.tdmBadFrame (s : State) (p : Nat) : State :=
  let x := s.tdmPort p
  let s := s.tdmSilence p
  if s.time < x.grace then s
  else (s.bump (TDM_ERR_FRAME_ERR p)).setTdm p { x with bad := x.bad + 1, clean := 0 }

/-- PHASE of an external frame boundary `ns` after a media-clock one, in billionths of a frame: from −0.5 frame up to but not including
+0.5 (R238). -/
def tdmPhase (fs : Nat) (ns : Int) : Int := (ns * fs).bmod 1000000000

/-- A frame without a framing violation. An input sample is there at the frame boundary that times its frame; a retimed one at the first
boundary at least 100 ns after the external frame ends (R238), so that a second one before that boundary takes its place, and with none the last
stays (R239). -/
def State.tdmGoodFrame (s : State) (p : Nat) (ns : Int) (data : List Word) : State :=
  let x := s.tdmPort p
  let fs := rateHz (s.get (TDM_FORMAT_RATE p))
  let ph := tdmPhase fs ns
  let s := s.put (TDM_STATUS_PHASE p) (BitVec.ofInt 8 (ph * 256 / 1000000000)).toNat
  let s := s.setTdm p { x with
    clean := x.clean + 1, bad := 0, phase := ph
    wander := if !s.tdmRetimed p && decide (x.grace ≤ s.time) && decide (100 * fs < ph.natAbs) then x.wander + 1 else 0 }
  let s := s.until (if s.tdmRetimed p then s.rateFrame fs (s.time + 99) else s.tdmEnd p)
  if s.get (TDM_STATUS_STATE p) = 2 then s.tdmFrameIn p data else s

/-- A frame of a master port: it ends at a frame boundary of RATE, and the port runs from its second frame on (R237). -/
def State.tdmMasterFrame (s : State) (p : Nat) (data : List Word) : State :=
  let x := s.tdmPort p
  let s := s.setTdm p { x with clean := x.clean + 1, last := s.time }
  if s.get (TDM_STATUS_STATE p) = 2 then s.tdmFrameIn p data
  else if 1 ≤ x.clean then s.put (TDM_STATUS_STATE p) 2 else s

/-- A frame of a port ends (R236 to R239): the slots sent, and the slots received. `n` is the number of BCLK periods since the
last FSYNC edge, `ns` the phase. -/
def State.tdmFrame (s : State) (p n : Nat) (ns : Int) (data : List Word) : State :=
  let t := s.tdmEnd p
  let master := s.flag (TDM_FORMAT_MASTER p)
  let s := if master then s.until t else s
  let s := s.setTdm p { s.tdmPort p with sent := s.tdmFrameOut p t }
  if master then s.tdmMasterFrame p data
  else if n ≠ s.tdmSlots p * s.tdmWidth p then s.tdmBadFrame p
  else s.tdmGoodFrame p ns data

/-- TDM_FRAME (R234). -/
def execTdmFrame (p : Fin 16) (n : BitVec 16) (phase : BitVec 32) (data : EntryList) (s : State) :
    Host.Outcome State Fault Refusal :=
  occurs (decide (1 ≤ s.get (TDM_STATUS_STATE p) ∧ s.get (TDM_STATUS_STATE p) ≤ 3)) s (s.tdmFrame p n.toNat phase.toInt data)

/-- TDM_PORT_ACQUIRED (R237, R238): a slave after 16 clean frames, a master within 2 frames. -/
def execTdmPortAcquired (p : Fin 16) (s : State) : Host.Outcome State Fault Refusal :=
  occurs ((s.get (TDM_STATUS_STATE p) = 1 || s.get (TDM_STATUS_STATE p) = 3) &&
      (s.flag (TDM_FORMAT_MASTER p) || decide (16 ≤ (s.tdmPort p).clean))) s (s.put (TDM_STATUS_STATE p) 2)

/-- A slave port loses its partner's framing (R239): a running port is lost and reports it; an acquiring one starts its count
again. -/
def State.tdmLoss (s : State) (p : Nat) : State :=
  let s := s.setTdm p { s.tdmPort p with clean := 0, bad := 0, wander := 0, sent := s.tdmIdle p }
  if s.get (TDM_STATUS_STATE p) = 2 then
    (((s.put (TDM_STATUS_STATE p) 3).tdmSilence p).bump (TDM_STATUS_LOSSES p)).drive (260 + p)
  else s

/-- TDM_PORT_LOSS (R239): the third frame in violation in a row, or `missing`: no FSYNC edge for 2 frames or no BCLK edge for
4. -/
def execTdmPortLoss (p : Fin 16) (missing : Bool) (s : State) : Host.Outcome State Fault Refusal :=
  occurs (!s.flag (TDM_FORMAT_MASTER p) && (s.get (TDM_STATUS_STATE p) = 1 || s.get (TDM_STATUS_STATE p) = 2) &&
      decide ((s.tdmPort p).grace ≤ s.time) && (missing || decide (3 ≤ (s.tdmPort p).bad))) s (s.tdmLoss p)

/-- TDM_RETIME (R239): an aligned port out of phase for 16 frames in a row goes on retimed. -/
def execTdmRetime (p : Fin 16) (s : State) : Host.Outcome State Fault Refusal :=
  occurs (decide (16 ≤ (s.tdmPort p).wander) && !s.flag (TDM_STATUS_RETIMED p)) s
    (((s.put (TDM_STATUS_RETIMED p) 1).bump (TDM_ERR_SLIP p)).drive 259 { note := p.val })

/-- TDM_SLIP (R239): PHASE crosses half a frame. The timing of the frames around the crossing drops or repeats one sample each way: an
input that the next frame's replaces before a boundary takes it, or that stays for two (State.tdmGoodFrame); an output that no frame is timed
by, or that two are (State.tdmSample). -/
def execTdmSlip (p : Fin 16) (s : State) : Host.Outcome State Fault Refusal :=
  occurs (!s.flag (TDM_FORMAT_MASTER p) && s.get (TDM_STATUS_STATE p) = 2 && decide ((s.tdmPort p).grace ≤ s.time)) s
    ((s.bump (TDM_ERR_SLIP p)).drive 259 { note := p.val })

end Sys2Proof.Machine
end

