-- ==== Sys2Proof/Machine/Sov.lean ====
section
/-! DEFINITION. Machine/Sov.lean: the Sorov link and the twin: channels, sideband pairs, frames, roles, comparison, takeover, joining
(R369 to R400). -/
namespace Sys2Proof.Machine

/-! ## Roles (R382) -/

/-- Whether the pairing's conditions hold (R382): equal RATE and BSIZE, media clocks locked to one kind of source. -/
def State.mayPair (s : State) (p : PeerInfo) : Bool :=
  p.rate = s.get BSQ_CONFIG_RATE && p.bsize = s.get BSQ_CONFIG_BSIZE && s.flag BSQ_STATUS_LOCKED &&
    p.source = s.get MCK_STATUS_SOURCE

/-- The rules of R382 in their order: whether this device becomes primary. -/
def State.becomesPrimary (s : State) (p : PeerInfo) : Bool :=
  let mine := s.drivesOutputs
  let pref := s.flag SOV_CTRL_PREFER_PRIMARY
  if mine ≠ p.outputs then mine
  else if pref ≠ p.prefer then pref
  else decide (Config.serial.toNat < p.serial)

/-- A frame violation on channel 290 (R399). -/
def State.frameViolation (s : State) : State := (s.bump SOV_VIOL_FRAME_ERR).drive 290

/-- This device leaves PRIMARY at the next processing-rate frame boundary (R382). -/
def State.yieldPrimary (s : State) : State := (s.until (s.frameAfter s.time)).setRole 3

/-- The roles that follow from the partner's VERSION frame (R382). -/
def State.decideRole (s : State) (p : PeerInfo) : State :=
  if s.get SOV_STATUS_ROLE = 1 then
    if s.mayPair p then s.setRole (if s.becomesPrimary p then 2 else 3) else s
  else if s.get SOV_STATUS_ROLE = 2 && s.drivesOutputs && p.outputs && s.sov.peerRole = 2 then
    let s := s.frameViolation
    if p.serial < Config.serial.toNat then s.yieldPrimary else s
  else s

/-! ## The link (R369) -/

def State.linkChan (s : State) (k : Nat) : LinkChan := Sparse.get (fun _ => {}) s.sov.chans k

def State.setLinkChan (s : State) (k : Nat) (x : LinkChan) : State :=
  s.onSov fun v => { v with chans := Sparse.set (fun _ => {}) v.chans k x }

/-- A join that runs on the standby fails (R395): counted, and it starts again from JOIN_REQ. -/
def State.failJoin (s : State) : State :=
  let s := (s.bump SOV_JOIN_FAILS).put SOV_JOIN_PHASE 0
  let s := (s.put SOV_JOIN_BACKLOG 0).onSov fun v => { v with join := none, expressAt := none, recorded := 0 }
  let s := s.onEng fun e => { e with period := none }
  if s.get SOV_STATUS_LINK = 2 then s.sendCmd 5 0 0 0 0 else s

/-- The link comes UP (R369, R373): sequence counts start, an unpaired device begins pairing, a standby joins again (R381). -/
def State.linkUp (s : State) : State :=
  let s := (s.put SOV_STATUS_LINK 2).onSov fun v => { v with seqTx := [], seqRx := [], unacked := [] }
  match s.get SOV_STATUS_ROLE with
  | 0 => s.setRole 1
  | 3 => s.sendCmd 5 0 0 0 0
  | 4 => s.setRole 3
  | 5 => s.setRole 3
  | _ => s

/-- The link goes DOWN (R369, R381, R395). -/
def State.linkDown (s : State) : State :=
  let s := if s.get SOV_STATUS_LINK = 2 then s.drive 288 else s
  let s := (s.put SOV_STATUS_LINK 0).put SOV_STATUS_PEER_READY 0
  let s := s.onSov fun v => { v with readyAt := none }
  if s.get SOV_STATUS_ROLE = 1 then s.setRole 0
  else if s.get SOV_STATUS_ROLE = 3 && s.sov.join.isSome then s.failJoin
  else s

/-- CHAN_UP and the link follow the channels (R369). -/
def State.linkFollows (s : State) : State :=
  let up := (List.range 4).filter fun k => s.get (SOV_CHAN_STATE k) = 2
  let s := s.put SOV_STATUS_CHAN_UP (up.foldl (fun m k => m + 2 ^ k) 0)
  if up.length < 2 then (if s.get SOV_STATUS_LINK = 0 then s else s.linkDown)
  else if s.get SOV_STATUS_LINK = 0 then (s.put SOV_STATUS_LINK 1).sendVersion
  else s

def execSorovChannelLock (k : Fin 4) (s : State) : Host.Outcome State Fault Refusal :=
  occurs (s.get (SOV_CHAN_STATE k) = 1 && decide (8 ≤ (s.linkChan k).hearts)) s
    (((s.recalDone (4 + k)).put (SOV_CHAN_STATE k) 2).setLinkChan k { s.linkChan k with lastAt := s.time, errs := [] }).linkFollows

/-- More than 16 CRC errors within 1 ms. -/
def State.manyErrors (s : State) (k : Nat) : Bool :=
  match (s.linkChan k).errs[16]? with
  | some t => decide (s.time ≤ t + 1000000)
  | none => false

/-- A channel fails (R369): at once on its CRC errors, else 30 µs after its last valid frame. -/
def State.channelFails (s : State) (k : Nat) : State :=
  let s := if s.manyErrors k then s else s.until ((s.linkChan k).lastAt + 30000)
  let s := if s.get SOV_STATUS_LINK = 2 then s.drive 289 { note := k } else s
  let s := (s.put (SOV_CHAN_STATE k) 3).bump (SOV_CHAN_FAILS k)
  (s.setLinkChan k { failedAt := s.time }).linkFollows

def execSorovChannelFail (k : Fin 4) (s : State) : Host.Outcome State Fault Refusal :=
  occurs (s.get (SOV_CHAN_STATE k) = 2) s (s.channelFails k)

def execSorovChannelRetry (k : Fin 4) (s : State) : Host.Outcome State Fault Refusal :=
  occurs (s.get (SOV_CHAN_STATE k) = 3) s
    (((s.until ((s.linkChan k).failedAt + 10000000)).put (SOV_CHAN_STATE k) 1).setLinkChan k {})

def execHeartbeatLost (s : State) : Host.Outcome State Fault Refusal :=
  occurs (s.flag SOV_CTRL_EN && !s.sov.heartLost && s.sov.peer.isSome) s
    (((s.until (s.sov.heardAt + 30000)).onSov fun v => { v with heartLost := true }).drive 291)

/-- A write to SOV.CTRL (R369, R381, R400, R429): EN starts and stops the link; REPAIR_LEAD outside 6 to 64 keeps its value;
leaving host-assisted mode resolves a divergence as in hardware mode. -/
def State.writeSovCtrl (s : State) (v : Word) : State :=
  let was := s.flag SOV_CTRL_EN
  let lead := v.toNat / 2 ^ 16 % 256
  let old := s.get SOV_CTRL_REPAIR_LEAD
  let s := (s.setReg SOV_CTRL (v &&& 0x00FF01FF)).put SOV_CTRL_REPAIR_LEAD (if 6 ≤ lead ∧ lead ≤ 64 then lead else old)
  let s := if !s.flag SOV_CTRL_HOST && s.sov.choiceBy.isSome then s.setRole 3 else s
  if s.flag SOV_CTRL_EN && !was then
    (List.range 4).foldl (fun s k => (s.put (SOV_CHAN_STATE k) 1).setLinkChan k {}) s
  else if !s.flag SOV_CTRL_EN && was then
    let s := (List.range 4).foldl (fun s k => (s.put (SOV_CHAN_STATE k) 0).setLinkChan k {}) s
    ((s.linkFollows).setRole 0).onSov fun x => { x with takeAt := none, takeOut := false, peer := none, swapAt := none }
  else s

/-! ## Receiving (R372, R373, R399) -/

/-- The critical types (R373). -/
def sovCritical (ty : Nat) : Bool := ty = 1 || ty = 3 || ty = 5 || ty = 6 || ty = 7

/-- A frame of TYPE `ty` arrives: a CRC error or a wrong length drops it; a valid one is the channel's and the link's latest.
Of a critical type the first copy of each SEQ is kept, and a gap is counted. Whether it is taken, and whether a gap came before
it. -/
def State.sovAccept (s : State) (ty : Nat) (h : SovHead) : State × Bool × Bool :=
  let k := h.chan.val
  let x := s.linkChan k
  let st := s.get (SOV_CHAN_STATE k)
  if st ≠ 1 ∧ st ≠ 2 then (s, false, false)
  else if !h.crcOk then
    ((s.bump (SOV_CHAN_CRC_ERR k)).setLinkChan k { x with errs := (s.time :: x.errs).take 17, hearts := 0 }, false, false)
  else if !h.lenOk then (s.frameViolation, false, false)
  else
    let s := s.setLinkChan k { x with lastAt := s.time, hearts := if ty = 4 then x.hearts + 1 else x.hearts }
    let s := s.onSov fun v => { v with heardAt := s.time, heartLost := false }
    if ty = 4 then (s, true, false)
    else if st ≠ 2 ∨ (ty ≠ 6 ∧ s.get SOV_STATUS_LINK ≠ 2) then (s, false, false)
    else if !sovCritical ty then (s, true, false)
    else
      let want := Sparse.get (fun _ => 0) s.sov.seqRx ty
      let d := (h.seq.toNat + 2 ^ 32 - want) % 2 ^ 32
      if 2 ^ 31 ≤ d then (s, false, false)
      else
        let s := s.onSov fun v => { v with seqRx := Sparse.set (fun _ => 0) v.seqRx ty ((h.seq.toNat + 1) % 2 ^ 32) }
        (if d = 0 then s else s.bump SOV_VIOL_SEQ_GAP, true, d ≠ 0)

/-- A frame that is taken has its effect. -/
def State.onFrame (s : State) (ty : Nat) (h : SovHead) (f : State → Bool → State) : Host.Outcome State Fault Refusal :=
  let (s, ok, gap) := s.sovAccept ty h
  done (if ok then f s gap else s)

/-! ## HEART and VERSION (R376, R378, R381, R382, R396) -/

/-- READY of a standby (R381). -/
def State.selfReady (s : State) : Bool :=
  (s.get SOV_STATUS_ROLE = 4 || s.get SOV_STATUS_ROLE = 5) && s.get SOV_STATUS_LINK = 2 && s.sov.syncGood &&
    s.sov.choiceBy.isNone && !s.pinsOf.unhealthy

/-- HEART body (R376) on channel `k`. -/
def State.heartBody (s : State) (k : Nat) : List Byte :=
  leBytes 1 (s.get SOV_STATUS_ROLE) ++
    leBytes 1 ((if s.selfReady then 1 else 0) + (if s.pinsOf.unhealthy then 0 else 2) + 4 * s.get SOV_CTRL_HOST +
      (if s.prosalUp then 0 else 8)) ++
    leBytes 1 k ++ leBytes 1 (s.get SOV_STATUS_CHAN_UP) ++ leBytes 4 s.sov.held ++ leBytes 8 s.sov.primarySince ++
    leBytes 8 s.time ++ leBytes 8 0

/-- HEART_SEND (R373, R376). A change of a VERSION field that no other command has told the partner goes with it (DESIGN CHOICE: R373 names
no delay). -/
def execHeartSend (s : State) : Host.Outcome State Fault Refusal :=
  done ((List.range 4).foldl (fun s k =>
    if s.get (SOV_CHAN_STATE k) = 1 ∨ s.get (SOV_CHAN_STATE k) = 2 then s.sovSend 4 s.blockN (s.heartBody k) else s) s.tellVersion)

/-- A HEART frame's content (R376, R381, R382, R384). -/
def State.takeHeart (s : State) (b : HeartBody) : State :=
  let ready := b.flags.getLsbD 0
  let s := (s.put SOV_STATUS_PEER_READY (if ready then 1 else 0)).onSov fun v => { v with
    peerRole := b.role.toNat % 16
    readyAt := if ready then some s.time else none
    keepsBlue := v.keepsBlue && !(b.role.toNat % 16 = 4 || b.role.toNat % 16 = 5)
    unacked := v.unacked.filter fun e => decide (b.ack.toNat < e.2.pseq) }
  let s := if s.get SOV_STATUS_ROLE = 2 then
      let s := s.put SOV_STATUS_COMPARE (if s.sov.peerRole = 4 then 1 else 0)
      -- the standby has joined: the snapshot closes
      if s.peerStandsBy && s.sov.join.isSome then
        (s.put SOV_JOIN_PHASE 0).onSov fun v => { v with join := none, snapOpen := false, snapRead := [], joinLog := [] }
      else s
    else s
  if s.get SOV_STATUS_ROLE = 2 && b.role.toNat = 2 then
    let s := s.frameViolation
    let mine := s.sov.primarySince
    let later := decide (b.since.toNat < mine) ||
      (mine = b.since.toNat && (match s.sov.peer with | some p => decide (p.serial < Config.serial.toNat) | none => false))
    if later then s.yieldPrimary else s
  else s

def execHeartFrame (h : SovHead) (b : HeartBody) (s : State) : Host.Outcome State Fault Refusal :=
  s.onFrame 4 h fun s _ => s.takeHeart b

/-- A VERSION frame's content (R378, R382, R396, R397). -/
def State.takeVersion (s : State) (b : VersionBody) : State :=
  let p : PeerInfo :=
    { proto := b.proto.toNat, prosal := b.prosal.toNat, cls := b.cls.toNat, imageId := b.imageId.toNat,
      serial := b.serial.toNat, rate := b.rate.toNat, bsize := b.bsize.toNat, outputs := b.flags.getLsbD 0,
      prefer := b.flags.getLsbD 1, source := b.flags.toNat / 4 % 4 }
  let s := (s.onSov fun v => { v with peer := some p }).setReg SOV_PEER (b.proto ++ b.prosal)
  let s := s.setReg SOV_PEER_CLASS b.cls
  let s := s.classNow
  if s.linkProto ≤ p.proto + 1 ∧ p.proto ≤ s.linkProto + 1 then
    (if s.get SOV_STATUS_LINK = 2 then s else s.linkUp).decideRole p
  else if s.get SOV_STATUS_LINK = 3 then s
  else
    let s := (s.put SOV_STATUS_LINK 3).drive 294
    if s.get SOV_STATUS_ROLE = 2 then s else s.setRole 0

def execVersionFrame (h : SovHead) (b : VersionBody) (s : State) : Host.Outcome State Fault Refusal :=
  s.onFrame 6 h fun s _ => s.takeVersion b

/-! ## SYNC (R374, R383, R387) -/

/-- The lanes whose CRCs differ, bit 16 for EXPRESS_CRC (R387). -/
def syncDiff (a : SyncRec) (b : SyncBody) : Nat :=
  let lane (i : Nat) : Nat :=
    if a.outCrc.getD i 0 = b.outCrc.getD i 0 ∧ a.stateCrc.getD i 0 = b.stateCrc.getD i 0 then 0 else 2 ^ i
  ((List.range 16).map lane).sum + (if a.expressCrc = b.expressCrc then 0 else 2 ^ 16)

/-- Whether three divergences happened within 600 s, the latest now (R387). -/
def State.thirdDivergence (s : State) : Bool :=
  match s.sov.diverged[2]? with
  | some t => decide (s.time < t + 600000000000)
  | none => false

/-- A divergence (R387): counted, raised and reported; the standby rejoins, waits for its host's choice, or passes to OUT the
third time within 600 s. -/
def State.diverge (s : State) (n mask : Nat) : State :=
  let s := ((s.bump SOV_COMPARE_DIVERGENCES).drive 196).sendCmd 8 0 0 n mask
  let s := s.onSov fun v => { v with diverged := (s.time :: v.diverged).take 3 }
  if s.get SOV_STATUS_ROLE = 2 then s
  else
    if s.thirdDivergence then s.setRole 6
    else if s.flag SOV_CTRL_HOST then
      (s.onSov fun v => { v with choiceBy := some (s.time + 1000000000), syncGood := false }).irq 25
    else s.setRole 3

/-- The comparison of a block's SYNC frames (R383, R387). -/
def State.compareSync (s : State) (a : SyncRec) (b : SyncBody) : State :=
  if 1000 < ((a.boundary : Int) - (b.boundary.toNat : Int)).natAbs then s.frameViolation.loseLockstep
  else
    let diff := syncDiff a b
    if !s.flag SOV_STATUS_COMPARE || b.flags.getLsbD 3 || a.flags / 8 % 2 = 1 || diff = 0 then s
    else if a.uncommitted ≠ 0 ∨ b.uncommitted ≠ 0 ∨ a.flags % 4 ≠ 0 ∨ b.flags.toNat % 4 ≠ 0 then
      (s.bump SOV_COMPARE_EXCUSED).loseLockstep
    else s.diverge a.block diff

/-- A SYNC frame's content. A joining standby under WCLK_IN presets its count from the primary's: block N's frame comes while
block N + 2 runs (R16, R383). -/
def State.takeSyncFrame (s : State) (n : Nat) (b : SyncBody) : State :=
  let late := s.paired && s.eng.period = some (n + 1) && decide (s.eng.periodAt + 20000 < s.time)
  let s := s.onSov fun v => { v with heard := (n :: v.heard).take 8 }
  if late then s.frameViolation.loseLockstep
  else
    let s := if s.get SOV_STATUS_ROLE = 3 && s.get MCK_STATUS_SOURCE = 2 && s.blockN ≠ n + 2 then
        s.onEng fun e => { e with preset := some (n + 3) } else s
    match s.sov.own.find? fun r => r.block = n with
    | some r => if s.get SOV_STATUS_ROLE = 2 ∨ 4 ≤ s.get SOV_STATUS_ROLE ∨ s.sov.expressAt.isSome then s.compareSync r b else s
    | none => s

def execSyncFrame (h : SovHead) (b : SyncBody) (s : State) : Host.Outcome State Fault Refusal :=
  s.onFrame 1 h fun s _ => s.takeSyncFrame h.block.toNat b

/-- SYNC_MISSING (R387, R399): 20 µs after C_N. -/
def execSyncMissing (s : State) : Host.Outcome State Fault Refusal :=
  match s.eng.period with
  | some (n + 1) =>
    occurs (s.paired && s.get SOV_STATUS_ROLE ≠ 3 && !s.sov.heard.contains n) s
      ((s.until (s.eng.periodAt + 20000)).frameViolation.loseLockstep.onSov fun v => { v with heard := (n :: v.heard).take 8 })
  | _ => done s

/-! ## PARAM (R375, R384) -/

/-- One forwarded update enters the standby's parameter set (R384). One for a block whose checkpoint has been taken is missed
(R399). -/
def State.enterParam (s : State) (pseq block : Nat) (r : ParamRec) : State :=
  if pseq ≤ s.sov.held ∨ s.sov.ahead.contains pseq then s
  else
    let s := s.onSov fun v => { v with ahead := v.ahead ++ [pseq] }
    let s := (List.range 128).foldl (fun s _ =>
      if s.sov.ahead.contains (s.sov.held + 1) then
        s.onSov fun v => { v with held := v.held + 1, ahead := v.ahead.filter (· ≠ v.held + 1) }
      else s) s
    let s := if s.checkpointTaken block && !s.catching then
        ((s.onSov fun v => { v with paramMiss := true }).bump SOV_VIOL_SEQ_GAP).drive 290
      else s
    let u : Update := { id := r.id.toNat, value := r.value, block := block,
                        ramp := if r.ramp = 0xFFFF then none else some r.ramp.toNat, pseq := pseq, host := r.host }
    s.onEng fun e => { e with updates := e.updates ++ [u] }

def execParamFrame (h : SovHead) (b : ParamBody) (s : State) : Host.Outcome State Fault Refusal :=
  s.onFrame 3 h fun s _ =>
    if s.get SOV_STATUS_ROLE < 3 then s
    else b.recs.zipIdx.foldl (fun s x => s.enterParam (b.first.toNat + x.2) (h.block.toNat + x.1.delta.toNat) x.1) s

/-- PARAM_RESEND (R384): 10 µs after the oldest update not acknowledged was sent. -/
def State.resendParams (s : State) (t : Nat) : State :=
  let s := s.until (t + 10000)
  (s.sov.unacked.filter fun e => decide (e.1 + 10000 ≤ s.time)).foldl (fun s e => s.sendParam e.2) s

def execParamResend (s : State) : Host.Outcome State Fault Refusal :=
  match s.sov.unacked with
  | (t, _) :: _ => occurs (s.get SOV_STATUS_ROLE = 2 && s.get SOV_STATUS_LINK = 2) s (s.resendParams t)
  | [] => done s

/-! ## Input repair (R380, R386) -/

/-- The packets of a stream whose cutoff is the tick `t`: their first samples. -/
def State.packetsAt (s : State) (r : RxStream) (t : Nat) : List Nat :=
  let fs := rateHz (fmtRate r.format)
  let p := fmtP r.format
  let k0 := (sampleCount fs t - r.lo) / p
  ((List.range 4096).map fun j => (k0 + j) * p).filter fun n =>
    s.lastArrival (sampleTime fs (n + r.lo)) = t

/-- The list of a NEED frame at the tick `t`: the packets not held. -/
def State.needList (s : State) (t : Nat) : List PktName :=
  (s.net.rx.flatMap fun e => ((s.packetsAt e.2 t).filter fun n => !e.2.held.contains n).map fun n =>
    (⟨e.1, (n + e.2.offset) % 2 ^ 32⟩ : PktName)).take 255

/-- A repair tick (R386): a NEED frame goes out even when it lists nothing. -/
def State.repairTick (s : State) : State :=
  let t := max (s.sov.tick + 5000) ((s.time + 4999) / 5000 * 5000)
  let s := s.until t
  let l := s.needList t
  let s := s.sovSend 7 s.blockN (leBytes 2 l.length ++ List.replicate 6 0 ++
    l.flatMap fun e => leBytes 2 e.stream ++ [0, 0] ++ leBytes 4 e.ts)
  s.onSov fun v => { v with tick := t, asked := l ++ v.asked.take 1020 }

def execRepairTick (s : State) : Host.Outcome State Fault Refusal :=
  occurs (s.paired && s.get SOV_STATUS_LINK = 2) s s.repairTick

/-- The payload of a packet a stream holds, first sample `n`. -/
def State.heldPayload (s : State) (r : RxStream) (n : Nat) : List Byte :=
  let w := fmtBytes r.format
  (List.range (fmtP r.format)).flatMap fun j => (List.range r.channels).flatMap fun c =>
    beBytes w ((s.jitterWord r (n + j) c).toNat / 2 ^ (32 - 8 * w))

/-- A listed packet that is held is answered with a PKT frame. -/
def State.answerNeed (s : State) (e : NeedEntry) : State :=
  match s.rxAt e.stream.toNat with
  | some r =>
    let n := recoverN (sampleCount (rateHz (fmtRate r.format)) s.time) r.offset e.ts.toNat
    if r.held.contains n then
      let p := s.heldPayload r n
      s.sovSend 8 s.blockN (leBytes 2 e.stream.toNat ++ leBytes 2 p.length ++ leBytes 4 e.ts.toNat ++ p ++
        List.replicate ((8 - p.length % 8) % 8) 0)
    else s
  | none => s

/-- NEED_FRAME (R386): a gap before it sets REPAIR_MISS in the next two SYNC frames. -/
def execNeedFrame (h : SovHead) (l : NeedList) (s : State) : Host.Outcome State Fault Refusal :=
  s.onFrame 7 h fun s gap =>
    let s := if gap then s.onSov fun v => { v with repairMiss := 2 } else s
    l.foldl (fun s e => s.answerNeed e) s

/-- A PKT frame asked for and before the decision instant is placed as a copy in time; another is discarded (R386, R399). The frame names no
leg, so it counts for the stream and for neither leg (DESIGN CHOICE). -/
def State.takePkt (s : State) (b : PktBody) : State :=
  let name : PktName := ⟨b.stream.toNat, b.ts.toNat⟩
  match s.rxAt b.stream.toNat with
  | some r =>
    let fs := rateHz (fmtRate r.format)
    let n := recoverN (sampleCount fs s.time) r.offset b.ts.toNat
    if s.sov.asked.contains name && decide (s.time + 2000 ≤ sampleTime fs (n + r.lo)) &&
        b.payload.length = r.channels * fmtP r.format * fmtBytes r.format then
      let s := match s.placeCheck r n with
        | .ok =>
          let x := s.placePacket r n b.payload
          (x.1.streamInTime b.stream.toNat x.2.1 n).bump NPE_CONCEAL_REPAIRED
        | c => s.refuse s.engineIssuer 11 c
      s.onSov fun v => { v with asked := v.asked.filter (· ≠ name) }
    else s.bump SOV_VIOL_FRAME_ERR
  | none => s.bump SOV_VIOL_FRAME_ERR

def execPktFrame (h : SovHead) (b : PktBody) (s : State) : Host.Outcome State Fault Refusal :=
  s.onFrame 8 h fun s _ => s.takePkt b

/-! ## CMD (R377, R383, R385, R392, R393) -/

/-- A CMD frame is taken: event 45. During a Prosal restart a request is answered BUSY (R384, R399). -/
def State.onCmd (s : State) (op : Nat) (h : SovHead) (c : SovCmd) (f : State → State) : Host.Outcome State Fault Refusal :=
  s.onFrame 5 h fun s _ =>
    let s := s.pulse 45
    if !c.answer && !s.prosalUp then s.sendCmd op 1 c.tag.toNat 0 0 else f s

/-- An answer that repeats OPCODE and TAG. -/
def State.answer (s : State) (op status : Nat) (c : SovCmd) : State :=
  s.sendCmd op status c.tag.toNat c.arg0.toNat c.arg1.toNat

/-- SWAP (R392): a ready standby arms it; the primary's is given up on another answer than OK. -/
def execSwapCmd (h : SovHead) (c : SovCmd) (s : State) : Host.Outcome State Fault Refusal :=
  s.onCmd 1 h c fun s =>
    if c.answer then (if c.status = 0 then s else s.onSov fun v => { v with swapAt := none })
    else if s.selfReady && s.eng.switch.isNone && s.clk.step.isNone then
      (s.onSov fun v => { v with swapAt := some c.arg0.toNat }).answer 1 0 c
    else s.answer 1 2 c

/-- SWITCH (R385): the standby's own pending image switches at the primary's block, and its block goes back in SWITCH_AT. -/
def execSwitchCmd (h : SovHead) (c : SovCmd) (s : State) : Host.Outcome State Fault Refusal :=
  s.onCmd 2 h c fun s =>
    if c.answer then s
    else match s.eng.pending with
      | some im =>
        if 3 ≤ s.get SOV_STATUS_ROLE ∧ s.eng.switch = none then
          let s := s.countIn im
          let b := max c.arg0.toNat (s.earliestSwitch im)
          ((s.acceptSwitch im b (s.hotPossible im) (c.arg1.getLsbD 0)).answer 2 0 c).sendCmd 3 0 0 b 0
        else s.answer 2 2 c
      | none => s.answer 2 2 c

/-- SWITCH_AT (R66, R385): both twins switch at the later block. -/
def execSwitchAt (h : SovHead) (c : SovCmd) (s : State) : Host.Outcome State Fault Refusal :=
  s.onCmd 3 h c fun s =>
    match s.eng.switch with
    | some w =>
      if w.alone || s.eng.pending.isNone || decide (c.arg0.toNat ≤ w.block) then s else s.putSwitch w c.arg0.toNat
    | none => s

/-- STEP (R383): the standby steps at the end of the block named. -/
def execStepCmd (h : SovHead) (c : SovCmd) (s : State) : Host.Outcome State Fault Refusal :=
  s.onCmd 4 h c fun s =>
    if c.answer || s.get SOV_STATUS_ROLE < 3 then s
    else (s.onClk fun k => { k with step := some (-k.offset), stepAt := some c.arg0.toNat }).answer 4 0 c

/-- JOIN_REQ (R393): the primary answers JOIN_ACK with J = N_a + 2. -/
def execJoinReq (h : SovHead) (c : SovCmd) (s : State) : Host.Outcome State Fault Refusal :=
  s.onCmd 5 h c fun s =>
    if s.get SOV_STATUS_ROLE ≠ 2 then s.answer 5 2 c
    else
      let j := s.blockA + 2
      (((s.onSov fun v => { v with join := some j, snapOpen := false, snapRead := [], joinLog := [], expressAt := none }).put64
        SOV_JOIN_LO j).put SOV_JOIN_PHASE 0).sendCmd 6 0 c.tag.toNat j 0

/-- JOIN_ACK (R393): the standby learns J. -/
def execJoinAck (h : SovHead) (c : SovCmd) (s : State) : Host.Outcome State Fault Refusal :=
  s.onCmd 6 h c fun s =>
    if s.get SOV_STATUS_ROLE ≠ 3 then s
    else
      (((s.onSov fun v => { v with join := some c.arg0.toNat, recorded := c.arg0.toNat, expressAt := none }).put64
        SOV_JOIN_LO c.arg0.toNat).put SOV_JOIN_PHASE 0).put SOV_JOIN_BACKLOG 0

/-- EXPRESS_AT (R393): the primary captures the voted express state at S_X. -/
def execExpressAt (h : SovHead) (c : SovCmd) (s : State) : Host.Outcome State Fault Refusal :=
  s.onCmd 7 h c fun s =>
    if s.get SOV_STATUS_ROLE ≠ 2 then s.answer 7 2 c
    else (s.onSov fun v => { v with expressAt := some c.arg0.toNat }).answer 7 0 c

/-- DIVERGE (R377): the partner's report; this twin compares for itself (R387). -/
def execDivergeCmd (h : SovHead) (c : SovCmd) (s : State) : Host.Outcome State Fault Refusal :=
  s.onCmd 8 h c fun s => s

/-- A mode of function 6, 7 or 8 forwarded by the primary (R413, R429). -/
def State.forwardedMode (s : State) (f : Nat) (host : Bool) (block : Nat) : State :=
  match f with
  | 6 => s.put BSQ_CTRL_SWITCH_HOLD (if host then 1 else 0)
  | 7 => s.onEng fun e => { e with rampChange := some (block, host), rampStopped := false }
  | 8 => { s with net := { s.net with hostConceal := host } }
  | _ => s

/-- HOST (R377, R413, R421): relay data wait for the host, 16 messages at most; a mode change is made. -/
def execHostCmd (h : SovHead) (d : HostData) (s : State) : Host.Outcome State Fault Refusal :=
  s.onFrame 5 h fun s _ =>
    let s := s.pulse 45
    match d with
    | .relay a b =>
      if 16 ≤ s.sov.relay.length then s
      else (s.onSov fun v => { v with relay := v.relay ++ [(a.toNat, b.toNat)] }).irq 25
    | .mode f host block => if s.get SOV_STATUS_ROLE < 3 then s else s.forwardedMode f.toNat host block.toNat

/-- PRESET (R17, R377): the standby loads P at the boundary that ends the block named. -/
def execPresetCmd (h : SovHead) (c : SovCmd) (s : State) : Host.Outcome State Fault Refusal :=
  s.onCmd 10 h c fun s =>
    if c.answer || s.get SOV_STATUS_ROLE < 3 then s
    else (s.onEng fun e => { e with presetAt := some (c.arg0.toNat, c.arg1.toNat) }).answer 10 0 c

/-! ## Joining (R393 to R395) -/

/-- Whether an address range lies in what a join reads: the join area or the snapshot ranges. -/
def State.joinReads (s : State) (a n : Nat) : Bool :=
  (s.snapshotHas a && s.snapshotHas (a + n - 1)) ||
    (match s.eng.running with
     | some im => (List.range im.parts.length).any fun q =>
         let b := Config.joinArea (im.lanes.getD q 0)
         decide (b ≤ a ∧ a + n ≤ b + im.slotLen q)
     | none => false)

/-- STATE body (R379). -/
def stateBody (kind size tag addr : Nat) (data : List Byte) : List Byte :=
  leBytes 1 kind ++ [0] ++ leBytes 2 size ++ leBytes 4 tag ++ leBytes 8 addr ++ data

/-- A read request is answered, as master 0x78 under Tollgate unit 26 (R379). -/
def State.answerRead (s : State) (b : StateBody) : State :=
  let a := b.addr.toNat
  let n := b.size.toNat
  let err (s : State) (k : Nat) : State := s.sovSend 2 (s.get64 SOV_JOIN_LO)
    (stateBody 2 n b.tag.toNat a (leBytes 1 k ++ List.replicate 7 0))
  let u := s.inboundIssuer 0x78 26
  if n = 0 ∨ n % 8 ≠ 0 ∨ 2032 < n then s.frameViolation
  else if !s.joinReads a n || s.busError a false then err s 3
  else match s.check u a n .load with
    | .ok =>
      let (s1, bad) := s.readChecks { master := 0x78, kind := 10 } (wordsOf a n)
      if bad.isSome then err s1 2
      else
        let s1 := s1.onSov fun v => { v with
          snapRead := v.snapRead ++ ((List.range (n / 64 + 2)).map (a / 64 + ·)).filter fun k => decide (a ≤ 64 * k ∧ 64 * k + 64 ≤ a + n) }
        s1.sovSend 2 (s1.get64 SOV_JOIN_LO) (stateBody 1 n b.tag.toNat a (s1.bytes a n))
    | c => err (s.refuse u 10 c) 1

/-- STATE_FRAME (R379, R394, R395): a request is answered; data are installed by a standby in transfer; an error fails the
join. -/
def execStateFrame (h : SovHead) (b : StateBody) (s : State) : Host.Outcome State Fault Refusal :=
  s.onFrame 2 h fun s _ =>
    match b.kind.toNat with
    | 0 => s.answerRead b
    | 1 =>
      if s.catching && s.region b.addr.toNat = .dram then
        let s := s.setBytes b.addr.toNat b.data
        (wordsOf b.addr.toNat (max 1 b.data.length)).foldl (fun s w => s.setErr w .good) s
      else s
    | 2 => if s.catching then s.failJoin else s
    | _ => s.frameViolation

/-- The checkpoint of logical lane `l` out of its mirror in the join area (R173, R393): state, parameter values, ramps. A
partition whose state has another size starts from its own initial state. -/
def State.installLane (s : State) (im : Image) (q l : Nat) : State :=
  let a := Config.joinArea l
  let st := match im.parts[q]? with | some p => p.stateSize | none => 0
  let (lo, size) := im.paramArea q
  if s.le (a + 24) 4 ≠ st ∨ s.le (a + 28) 4 ≠ size then
    s.setStateBuf l (overlay [] ((List.range st).map fun i => (i, s.byte (im.base + im.initOff q + i))))
  else
    let s := s.setStateBuf l (overlay [] ((List.range st).map fun i => (i, s.byte (a + 64 + i))))
    let s := (im.params.zipIdx.filter fun x => x.1.partition = q).foldl (fun s x =>
      s.setParam x.2 { value := BitVec.ofNat 32 (s.le (a + 64 + st + (x.1.offset - lo)) (typeBytes x.1.type)) }) s
    (List.range (s.le (a + 32) 2)).foldl (fun s i =>
      let r := a + 64 + st + size + 32 * i
      s.setParam (s.le r 2)
        { s.param (s.le r 2) with
          ramp := some ⟨s.le (r + 2) 1, s.le (r + 4) 4, s.le (r + 8) 4, s.word (r + 12), s.word (r + 16)⟩ }) s

/-- JOIN_TRANSFER_COMPLETE (R393 step 4): the checkpoint state of block J + 1; recorded blocks run back to back. -/
def State.installJoin (s : State) (im : Image) (j : Nat) : State :=
  let s := (List.range im.parts.length).foldl (fun s q => s.installLane im q (im.lanes.getD q 0)) s
  let s := (s.put SOV_JOIN_PHASE 2).onEng fun e => { e with outs := [], cur := none }
  if j + 1 ≤ s.sov.recorded then s.checkpoint im (j + 1) [] else s

def execJoinTransferComplete (s : State) : Host.Outcome State Fault Refusal :=
  match s.eng.running, s.sov.join with
  | some im, some j => occurs (s.catching && decide (s.get SOV_JOIN_PHASE ≤ 1)) s (s.installJoin im j)
  | _, _ => done s

/-- CATCHUP_COMPLETE (R393 step 5). -/
def execCatchupComplete (s : State) : Host.Outcome State Fault Refusal :=
  occurs (s.catching && s.get SOV_JOIN_PHASE = 2 && s.get SOV_JOIN_BACKLOG = 0) s
    ((s.onSov fun v => { v with expressAt := some (s.blockN + 2) }).sendCmd 7 0 0 (s.blockN + 2) 0)

/-- JOIN_COMPLETE (R393 step 7). -/
def execJoinComplete (s : State) : Host.Outcome State Fault Refusal :=
  occurs (s.get SOV_STATUS_ROLE = 3 && s.get SOV_JOIN_PHASE = 3) s (s.setRole s.standbyRole)

/-- JOIN_FAIL (R395). -/
def execJoinFail (s : State) : Host.Outcome State Fault Refusal :=
  occurs (s.get SOV_STATUS_ROLE = 3 && s.sov.join.isSome) s s.failJoin

/-- DIVERGENCE_TIMEOUT (R387): no choice within 1 s. -/
def execDivergenceTimeout (s : State) : Host.Outcome State Fault Refusal :=
  match s.sov.choiceBy with
  | some t => done ((s.until t).setRole 3)
  | none => done s

/-! ## The sideband pairs (R371) -/

/-- A sample of a received pair: its new memory and the result, 0 at rest, 1 confirmed, 2 break; `was` is the result so far. -/
def peerSample (x : PeerPair) (was : Nat) (c : Nat) : PeerPair × Nat :=
  let held := if c = x.code then x.held + 1 else 1
  let broke := c = 0 || (c ≠ 3 && (decide (5 ≤ held) || (x.code = 3 && decide (x.held < 3) && decide (0 < x.held))))
  if broke then ({ code := c, held := held, rest := 0 }, 2)
  else if c = 3 then ({ code := c, held := held, rest := 0 }, if 3 ≤ held then 1 else was)
  else
    let rest := x.rest + 1
    if was = 2 ∧ rest < 64 then ({ code := c, held := held, rest := rest }, 2)
    else ({ code := c, held := held, rest := 0 }, 0)

/-- PEER_HEALTH's result changes (R371, R388, R391, R399). -/
def State.peerHealth (s : State) (r : Nat) : State :=
  if s.get SOV_STATUS_PEER_HEALTH = r then s
  else
    let s := s.put SOV_STATUS_PEER_HEALTH r
    let s := if r = 2 ∧ s.flag SOV_CTRL_EN then s.drive 292 else s
    let s := if r = 1 ∧ s.get SOV_STATUS_ROLE = 2 then s.drive 295 else s
    if r ≠ 0 && s.get SOV_STATUS_ROLE = 2 && s.sov.takeOut && s.sov.takeAt.isSome then (s.enterSafe 195).loseBlock else s

/-- PEER_TAKE's result changes (R371, R399): a primary ignores it and reports it. -/
def State.peerTake (s : State) (r : Nat) : State :=
  if s.get SOV_STATUS_PEER_TAKE = r then s
  else
    let s := s.put SOV_STATUS_PEER_TAKE r
    let s := if r = 2 ∧ s.flag SOV_CTRL_EN then s.drive 293 else s
    if r = 1 ∧ s.get SOV_STATUS_ROLE = 2 then s.drive 295 else s

/-- PEER_SAMPLE (R371): the codes (P, N) of both pairs at one Sentry cycle. -/
def execPeerSample (health take : BitVec 2) (s : State) : Host.Outcome State Fault Refusal :=
  let (h, rh) := peerSample s.sov.health (s.get SOV_STATUS_PEER_HEALTH) health.toNat
  let (t, rt) := peerSample s.sov.takePair (s.get SOV_STATUS_PEER_TAKE) take.toNat
  let s := s.onSov fun v => { v with health := h, takePair := t }
  done ((s.peerHealth rh).peerTake rt)

/-! ## Takeover and swap (R388 to R392) -/

/-- TWIN_TAKE_ASSERT (R388): 2.0 µs before F. The device that gives the outputs raises FC 195 (R391), unless it is pending. -/
def State.assertTake (s : State) (f : Nat) : State :=
  let s := (s.until (f - 2000)).onSov fun v => { v with takeOut := true }
  if s.flag (FCU_CH_STATUS_PEND 195) then s else s.drive 195

def execTwinTakeAssert (s : State) : Host.Outcome State Fault Refusal :=
  match s.sov.takeAt with
  | some f => occurs (s.get SOV_STATUS_ROLE = 2 && !s.sov.takeOut) s (s.assertTake f)
  | none => done s

/-- SOV.TAKE and SOV.TAKE_INFO record a takeover or a swap; the host is told (R391). -/
def State.recordTake (s : State) (gave : Bool) (cause : Nat) : State :=
  let s := (s.put64 SOV_TAKE_LO s.blockN).bump SOV_TAKE_INFO_COUNT
  ((s.put SOV_TAKE_INFO_GAVE (if gave then 1 else 0)).put SOV_TAKE_INFO_CAUSE cause).irq 25

/-- The cause for which a ready standby takes the outputs (R389); 0 none. A break counts once heartbeat is lost, and in
host-assisted mode only on the host's command. -/
def State.takeCause (s : State) : Nat :=
  let role := s.get SOV_STATUS_ROLE
  if (role ≠ 4 ∧ role ≠ 5) ∨ !s.sov.syncGood ∨ s.sov.choiceBy.isSome ∨ s.flag FCU_STATUS_SAFE then 0
  else if s.sov.cause = 4 then 4
  else if s.get SOV_STATUS_PEER_TAKE = 1 then 1
  else if s.get SOV_STATUS_PEER_HEALTH = 1 then 2
  else if s.get SOV_STATUS_PEER_HEALTH = 2 && s.sov.heartLost && !s.flag SOV_CTRL_HOST then 3
  else 0

/-- The standby becomes primary at the next processing-rate frame boundary (R389, R391). -/
def State.takeOutputs (s : State) (cause : Nat) : State :=
  let s := (s.until (s.frameAfter s.time)).recordTake false cause
  (s.setRole 2).onSov fun v => { v with cause := 0, legSwap := none, keepsBlue := true }

def execStandbyTakeover (s : State) : Host.Outcome State Fault Refusal :=
  occurs (s.takeCause ≠ 0) s (s.takeOutputs s.takeCause)

/-- The primary gives the outputs at F (R388, R390, R391). -/
def State.giveOutputs (s : State) (f : Nat) : State :=
  let s := (s.until f).recordTake true 6
  let s := s.onSov fun v => { v with takeAt := none, takeOut := false, takeLoss := false }
  if s.flag FCU_STATUS_SAFE then s else s.setRole (if s.flag SOV_CTRL_HOST then 6 else 3)

/-- The two devices exchange the outputs at O_S of a planned swap (R218, R392). -/
def State.swapOutputs (s : State) (b : Nat) : State :=
  let t := s.frameTime (b + 2) 3
  let s := s.until t
  let old := s.get SOV_STATUS_ROLE
  let s := (s.recordTake (old = 2) 5).onSov fun v => { v with swapAt := none, legSwap := some (t, old) }
  if old = 2 then s.setRole s.standbyRole else s.setRole 2

/-- OUTPUT_HANDOVER (R390): the takeover boundary F, or O_S of a planned swap. -/
def execOutputHandover (s : State) : Host.Outcome State Fault Refusal :=
  match s.sov.takeAt, s.sov.swapAt with
  | some f, _ => occurs (s.get SOV_STATUS_ROLE = 2) s (s.giveOutputs f)
  | none, some b =>
    occurs (s.get SOV_STATUS_ROLE = 2 || s.get SOV_STATUS_ROLE = 4 || s.get SOV_STATUS_ROLE = 5) s (s.swapOutputs b)
  | none, none => done s

end Sys2Proof.Machine
end

