-- ==== Sys2Proof/Machine/Boundary.lean ====
section
/-! DEFINITION. Machine/Boundary.lean: the lane-period boundary, the start of a block's outputs, and the writes of BSQ.CTRL and
BSQ.SWITCH_STATE (R17, R18, R20, R67, R377). -/
namespace Sys2Proof.Machine

/-- LANE_PERIOD_BOUNDARY (R18): C_N, when a block's inputs are complete. A clock step that is due comes first (R230). -/
def execLanePeriodBoundary (s : State) : Host.Outcome State Fault Refusal :=
  match s.eng.due with
  | some n => occurs (!s.stepDue) s (s.lanePeriod n)
  | none => done s

/-- The oldest block waiting begins to leave the output rings (R20). -/
def State.startOutput (s : State) (b : OutBlock) (rest : List OutBlock) : State :=
  (s.until b.start).onEng fun e => { e with cur := some b, outs := rest }

def execOutputStart (s : State) : Host.Outcome State Fault Refusal :=
  match s.eng.outs with
  | b :: rest => done (s.startOutput b rest)
  | [] => done s

/-- A write of ABORT to BSQ.SWITCH_STATE (R67): from the start of lane period S − 1 it has no effect. -/
def State.writeSwitchState (s : State) (m lvl : Nat) (v : Word) : State :=
  if bySupervisor m lvl && v.getLsbD 3 && s.eng.switch.isSome && s.mayAbort then s.abortSwitch else s

def execSwitchAbort (m : BitVec 8) (lvl : BitVec 2) (v : Word) (s : State) : Host.Outcome State Fault Refusal :=
  access s (s.writeSwitchState m.toNat lvl.toNat v)

/-- The preset of BSQ.PRESET (R17): ignored under PTP lock; a paired standby refuses it (R413); a primary takes it at a boundary
two blocks ahead, which it names to the standby; otherwise it acts at the next block boundary, or at once while the count stands still. -/
def State.armPreset (s : State) : State :=
  let p := s.get64 BSQ_PRESET_LO
  if s.ptpLocked then s.put BSQ_STATUS_PRESET_IGN 1
  else if 3 ≤ s.get SOV_STATUS_ROLE then s
  else if s.get SOV_STATUS_ROLE = 2 then
    let last := s.blockN + 1
    (s.onEng fun e => { e with presetAt := some (last, p) }).sendCmd 10 0 0 last p
  else if s.eng.seqRate = 0 then (s.put64 BSQ_BLOCK_LO p).onEng fun e => { e with epochN := p, epochT := s.time }
  else s.onEng fun e => { e with preset := some p }

/-- A write to BSQ.CTRL: the host-assisted graph switch mode, and PRESET_GO (R17, R67). -/
def State.writeBsqCtrl (s : State) (m lvl : Nat) (v : Word) : State :=
  if !bySupervisor m lvl then s
  else
    let s := s.put BSQ_CTRL_SWITCH_HOLD (v.toNat / 2 % 2)
    if v.getLsbD 0 then s.armPreset else s

def execPresetGo (m : BitVec 8) (lvl : BitVec 2) (v : Word) (s : State) : Host.Outcome State Fault Refusal :=
  access s (s.writeBsqCtrl m.toNat lvl.toNat v)

end Sys2Proof.Machine
end

