-- ==== Sys2Proof/Machine/RegWrite.lean ====
section
/-! DEFINITION. Machine/RegWrite.lean: what a write leaves in a register by the access codes of R8. -/
namespace Sys2Proof.Machine

/-- The value a field holds after a write of `v` to its register at a privilege level, from its value `old` (R8). A triplicated control
word is not written this way, and a lock is tested by the register's own rule. -/
def FRow.after (f : FRow) (lvl old v : Nat) : Nat :=
  match f.acc with
  | .ro => old
  | .rw => v
  | .w1c => old - Nat.land old v
  | .wo => 0
  | .rwl => v
  | .rwb => if 2 ≤ lvl then v else old
  | .tcw => old

/-- A register word after a write (R8, R9): reserved bits ignore it. -/
def FRow.write (lvl : Nat) (v : Word) (w : Word) (f : FRow) : Word :=
  let g : Fld := ⟨0, f.lo, f.width⟩
  g.write w (f.after lvl (g.read w) (g.read v))

/-- A write by the access codes alone; an offset no register occupies is unchanged (R10). -/
def State.writePlain (s : State) (lvl a : Nat) (v : Word) : State :=
  match regAt a with
  | some (r, _) => s.setReg a (r.rows.foldl (FRow.write lvl v) (s.reg a))
  | none => s

end Sys2Proof.Machine
end

