-- ==== Sys2Proof/Machine/HostRegs.lean ====
section
/-! DEFINITION. Machine/HostRegs.lean: the MBX block: mailbox states, host vectors, parameter rings, the MSI-X table (R401 to R408, R425 to
R428, R435, R436). -/
namespace Sys2Proof.Machine

/-! ## Mailboxes (R405, R406, R410, R435) -/

/-- First byte of mailbox `k`. -/
def mboxAddr (k : Nat) : Nat := 0x60140000 + 0x200 * k

/-- A field of the header in mailbox `k`. -/
def State.mboxLe (s : State) (k off n : Nat) : Nat := s.le (mboxAddr k + off) n

/-- The bytes of a response (R410). -/
def respBytes (op seq flags target status : Nat) (body : List Byte) : List Byte :=
  let h := leBytes 2 op ++ leBytes 2 seq ++ leBytes 2 body.length ++ leBytes 1 flags ++ leBytes 1 target ++ leBytes 2 status ++
    List.replicate 6 0 ++ body
  h ++ leBytes 4 (crc32c h).toNat

/-- A host violation is counted and raises FC 23 (R435). -/
def State.hostViolation (s : State) (f : Fld) (m : Nat) : State :=
  (s.bump f).drive 23 { master := BitVec.ofNat 8 m, kind := 11 }

/-- A response is complete: its bytes, DONE, and vector `k` unless the request had NO_IRQ (R404, R405). -/
def State.finishMbox (s : State) (k : Nat) (bs : List Byte) (noIrq : Bool) : State :=
  let s := (s.setBytes (mboxAddr k) bs).put (MBX_STATE_STATE k) 3
  if noIrq then s else s.irq k

/-- A response without a body in mailbox `k`, its header echoing the request's. -/
def State.shortAnswer (s : State) (k status : Nat) : State :=
  let f := s.mboxLe k 6 1
  s.finishMbox k (respBytes (s.mboxLe k 0 2) (s.mboxLe k 2 2) (1 + f / 2 % 2 * 2) (s.mboxLe k 7 1) status []) (f / 2 % 2 = 1)

/-- One doorbell bit (R405, R406, R435). -/
def State.postMbox (s : State) (m k : Nat) : State :=
  if s.get (MBX_STATE_STATE k) ≠ 0 then s.hostViolation MBX_VIOL_STATE m
  else
    let s := (s.put (MBX_STATE_STATE k) 1).pulse (16 + k)
    if s.prosalUp || s.boot = .recovery then { s with host := { s.host with posted := s.host.posted ++ [k] } } else s.shortAnswer k 1

def State.doorbell (s : State) (m : Nat) (v : Word) : State :=
  (List.range 16).foldl (fun s k => if v.getLsbD k then s.postMbox m k else s) s

/-- One release bit (R405, R435). -/
def State.releaseMbox (s : State) (m k : Nat) : State :=
  if s.get (MBX_STATE_STATE k) = 3 then s.put (MBX_STATE_STATE k) 0 else s.hostViolation MBX_VIOL_STATE m

def State.release (s : State) (m : Nat) (v : Word) : State :=
  (List.range 16).foldl (fun s k => if v.getLsbD k then s.releaseMbox m k else s) s

/-- Bytes written to the mailbox RAM, byte by byte: the supervisor anywhere, the host in a FREE mailbox (R435, R436); each mailbox that is not
FREE counts one violation. -/
def State.writeMboxRam (s : State) (m lvl a : Nat) (bs : List Byte) : State :=
  if bySupervisor m lvl then s.setBytes a bs
  else if m = 0x60 ∨ m = 0x61 then
    (List.range 16).foldl (fun s k =>
      let hit := bs.zipIdx.filter fun b => decide (mboxAddr k ≤ a + b.2 ∧ a + b.2 < mboxAddr (k + 1))
      if hit.isEmpty then s
      else if s.get (MBX_STATE_STATE k) ≠ 0 then s.hostViolation MBX_VIOL_STATE m
      else hit.foldl (fun s b => s.setByte (a + b.2) b.1) s) s
  else s

/-! ## Parameter rings (R425 to R428) -/

def State.ring (s : State) (r : Nat) : RingCfg := Sparse.get (fun _ => ⟨0, 0xFF, 0, 0⟩) s.host.rings r

/-- Entries a ring holds: its indices are free-running 32-bit counts. -/
def State.ringHeld (s : State) (r : Nat) : Nat := ((s.reg (MBX_RING_PROD r)).toNat + 2 ^ 32 - (s.reg (MBX_RING_CONS r)).toNat) % 2 ^ 32

/-- A ring's vector is set, if it has one. -/
def State.ringIrq (s : State) (r : Nat) : State :=
  let v := (s.ring r).vector
  if v < 32 then s.irq v else s

/-- A ring halts (R428): its entries stay; causes 1 and 2 raise FC 23 (R435). -/
def State.haltRing (s : State) (r cause : Nat) : State :=
  let s := (((s.put (MBX_RING_STAT_ON r) 0).put (MBX_RING_STAT_HALT r) 1).put (MBX_RING_STAT_HALT_CAUSE r) cause).ringIrq r
  if cause = 3 then s else s.drive 23 { master := 0x60, kind := 11 }

/-- A producer index offers entries (R425, R428): the ring's doorbell event, or the overrun of a ring that is on. -/
def State.writeProd (s : State) (r : Nat) (v : Word) : State :=
  let s := (s.setReg (MBX_RING_PROD r) v).pulse (32 + r)
  if s.flag (MBX_RING_STAT_ON r) && decide (2 ^ (s.ring r).log2 < s.ringHeld r) then s.haltRing r 1 else s

/-- Whether the ring engine has entries to serve in a ring. -/
def State.ringReady (s : State) (r : Nat) : Bool := s.flag (MBX_RING_STAT_ON r) && s.ringHeld r ≠ 0

/-- The ring whose turn it is (R426): round robin over those that hold entries. -/
def State.ringNext (s : State) : Option Nat :=
  ((List.range 8).map fun i => (s.host.ringTurn + 1 + i) % 8).find? s.ringReady

/-- A list of words four by four. -/
def fours : List Word → List (List Word)
  | a :: b :: c :: d :: l => [a, b, c, d] :: fours l
  | _ => []

/-- The engine takes fetched entries of ring `r` (R426, R428): accepted in order, or discarded on a paired standby; the consumer index
passes them, and the vector is set when the ring becomes empty. -/
def State.takeEntries (s : State) (r : Nat) (e : List Word) : State :=
  let es := fours e
  let s := if 3 ≤ s.get SOV_STATUS_ROLE then s.bumpBy (MBX_RING_STAT_TWIN_DROP r) es.length
    else es.foldl (fun s x => (s.acceptEntry (x.flatMap fun w => leBytes 4 w.toNat)).1) s
  let s := s.setReg (MBX_RING_CONS r) (s.reg (MBX_RING_CONS r) + BitVec.ofNat 32 es.length)
  let s : State := { s with host := { s.host with ringTurn := r } }
  if s.ringHeld r = 0 then s.ringIrq r else s

/-! ## The block's registers (R436) -/

/-- A write to the MSI-X table (R401, DEDUCED: by the PCIe host), words 4 v + k. -/
def State.writeMsix (s : State) (k : Nat) (v : Word) : State :=
  let w := if k % 4 = 3 then v &&& 1 else if k % 4 = 0 then v &&& ~~~3 else v
  { s with host := { s.host with msix := Sparse.set (fun j => if j % 4 = 3 then 1 else 0) s.host.msix k w } }

/-- A word of the MSI-X table or of its pending bits, at offset 0xE000 or beyond. -/
def State.readMsix (s : State) (off : Nat) : Word :=
  if off < 0xE200 then s.msix ((off - 0xE000) / 16) (off / 4 % 4)
  else if off = 0xF000 then
    BitVec.ofNat 32 ((List.range 32).foldl (fun acc v =>
      if (s.reg MBX_IRQ_PEND).getLsbD v && (s.reg MBX_IRQ_EN).getLsbD v && (s.msix v 3).getLsbD 0 then acc + 2 ^ v else acc) 0)
  else 0

/-- A word written to the MBX block beyond the mailbox RAM (R436). -/
def State.writeMbx (s : State) (m lvl a : Nat) (v : Word) : State :=
  let sup := bySupervisor m lvl
  let host := m = 0x60 || m = 0x61
  if a = MBX_DOORBELL then (if sup || host then s.doorbell m v else s)
  else if a = MBX_RELEASE then (if sup || host then s.release m v else s)
  else if a = MBX_IRQ_PEND ∨ a = MBX_IRQ_EN then (if sup || host then s.writePlain lvl a v else s)
  else if MBX_RING_PROD 0 ≤ a ∧ a < MBX_RING_PROD 8 ∧ a % 0x40 = 0 then
    (if sup || m = 0x60 then s.writeProd ((a - MBX_RING_PROD 0) / 0x40) v else s)
  else if 0x6014E000 ≤ a ∧ a < 0x6014E200 then (if sup || m = 0x60 then s.writeMsix ((a - 0x6014E000) / 4) v else s)
  else if sup then s.writePlain lvl a v
  else s

/-! ## The rows -/

def execDoorbell (m : BitVec 8) (lvl : BitVec 2) (v : Word) (s : State) : Host.Outcome State Fault Refusal :=
  access s (s.writeMbx m.toNat lvl.toNat MBX_DOORBELL v)

def execMailboxRelease (m : BitVec 8) (lvl : BitVec 2) (v : Word) (s : State) : Host.Outcome State Fault Refusal :=
  access s (s.writeMbx m.toNat lvl.toNat MBX_RELEASE v)

def execIrqPendClear (m : BitVec 8) (lvl : BitVec 2) (v : Word) (s : State) : Host.Outcome State Fault Refusal :=
  access s (s.writeMbx m.toNat lvl.toNat MBX_IRQ_PEND v)

def execRingProducerWrite (m : BitVec 8) (lvl : BitVec 2) (r : Fin 8) (v : Word) (s : State) : Host.Outcome State Fault Refusal :=
  access s (s.writeMbx m.toNat lvl.toNat (MBX_RING_PROD r) v)

/-- RING_SERVICE: the entries fetched (four words each, one to 32 of those the ring holds), and whether the fetch completed. -/
def execRingService (r : Fin 8) (e : EntryList) (ok : Bool) (s : State) : Host.Outcome State Fault Refusal :=
  occurs (s.ringNext = some r.val && (!ok || (e.length % 4 = 0 && decide (4 ≤ e.length ∧ e.length ≤ 4 * min 32 (s.ringHeld r))))) s
    (if ok then s.takeEntries r e else s.haltRing r 2)

/-- PE_PERST_N resets the PCIe endpoint only (R460): its MSI-X table. -/
def execPePerst (s : State) : Host.Outcome State Fault Refusal := done { s with host := { s.host with msix := [] } }

end Sys2Proof.Machine
end

