-- ==== Sys2Proof/Machine/TgRegs.lean ====
section
/-! DEFINITION. Machine/TgRegs.lean: writes to the TG block: staging, COMMIT, lock slots (R290 to R296, R304). -/
namespace Sys2Proof.Machine

/-- Who may write the registers of a unit (R290). -/
def tgWriter (m lvl u : Nat) : Bool :=
  bySupervisor m lvl || (m = 0 && u = 0 && decide (1 ≤ lvl)) ||
    (decide (1 ≤ u ∧ u ≤ 18) && m = 0x10 + (u - 1) && decide (1 ≤ lvl))

/-- The units that hold rule sets (R278): the movers' have none. -/
def tgHasSets (u : Nat) : Bool := decide (u < 19) || decide (23 ≤ u ∧ u < 28)

/-- A write to a register of a set that TGSET selects, applied or pending, makes TGSET pending (R291). -/
def State.tgsetPending (s : State) (u set : Nat) : State :=
  let x := s.triad u
  match x.pending 0x030 with
  | some _ => s
  | none => if x.tgset.toNat % 4 = set then s.setTriad u (x.setPending 0x030 x.tgset) else s

/-- A register of a rule set is written: staged (R290, R291). -/
def State.stageRule (s : State) (u set lvl a : Nat) (v : Word) : State :=
  -- bit 6 of a peripheral entry is reserved and reads 0 (R9)
  let s := s.writePlain lvl a (if TG_PSLOT u set 0 ≤ a then v &&& 0xBFBFBFBF else v)
  let k := 4 * u + set
  let s := { s with tg := { s.tg with dirty := if s.tg.dirty.contains k then s.tg.dirty else s.tg.dirty ++ [k] } }
  let s := s.put (TG_STATUS_PENDING u) 1
  if u ≤ 18 then s.tgsetPending u set else s

/-- The sets of a unit with staged edits. -/
def State.dirtySets (s : State) (u : Nat) : List Nat := (s.tg.dirty.filter fun k => k / 4 = u).map (· % 4)

/-- COMMIT (R291): every staged edit and SET of units 23 to 27 are applied, or none is. -/
def State.tgCommit (s : State) (u : Nat) : State :=
  if (s.dirtySets u).any fun k => (s.stagedSet u k).bad then
    (s.put (TG_STATUS_CFG_FAULT u) 1).drive 242 { kind := 14, note := u }
  else
    let s := (s.dirtySets u).foldl (fun s k => s.applySet u k) s
    { s with tg := { s.tg with sel := Sparse.set (fun _ => 0) s.tg.sel u (s.get (TG_CTRL_SET u)) } }.put (TG_STATUS_DRAIN u) 1

/-- A write to TG.CTRL(u): SET and COMMIT have their meaning on units 23 to 27 alone. -/
def State.writeTgCtrl (s : State) (m lvl u : Nat) (v : Word) : State :=
  if bySupervisor m lvl && decide (23 ≤ u) then
    let s := s.put (TG_CTRL_SET u) (v.toNat / 16 % 4)
    if v.getLsbD 0 then s.tgCommit u else s
  else s

/-- Whether two inclusive ranges share a unit. -/
def rangesMeet (b l b' l' : Nat) : Bool := decide (b ≤ l' ∧ b' ≤ l ∧ b ≤ l ∧ b' ≤ l')

/-- Whether lock slot `k`'s range meets another valid one. -/
def State.lockOverlaps (s : State) (k : Nat) : Bool :=
  (List.range 8).any fun j => j ≠ k && s.flag (TG_LOCK_PERM_VALID j) &&
    rangesMeet (s.reg (TG_LOCK_BASE k)).toNat (s.reg (TG_LOCK_LIMIT k)).toNat (s.reg (TG_LOCK_BASE j)).toNat (s.reg (TG_LOCK_LIMIT j)).toNat

/-- A write to a register of lock slot `k` (R293): nothing changes once the slot is valid; a validating write that overlaps another valid
slot is ignored and sets OVERLAP; OWNER = 0x7F is taken as 0xFF. -/
def State.writeLock (s : State) (m lvl a : Nat) (v : Word) : State :=
  let k := (a - TG_LOCK_BASE 0) / 16
  if !bySupervisor m lvl || s.flag (TG_LOCK_PERM_VALID k) then s
  else if a = TG_LOCK_PERM k ∧ v.getLsbD 31 then
    if s.lockOverlaps k then s.put TG_LOCK_STATUS_OVERLAP 1
    else
      let s := s.writePlain lvl a v
      let s := if s.get (TG_LOCK_PERM_OWNER k) = 0x7F then s.put (TG_LOCK_PERM_OWNER k) 0xFF else s
      s.put TG_LOCK_STATUS_VALID (Nat.lor (s.get TG_LOCK_STATUS_VALID) (2 ^ k))
  else
    let s := s.writePlain lvl a v
    if s.get (TG_LOCK_PERM_OWNER k) = 0x7F then s.put (TG_LOCK_PERM_OWNER k) 0xFF else s

/-- A write to the TG block at a physical address (R290, R293, R304). -/
def State.writeTg (s : State) (m lvl a : Nat) (v : Word) : State :=
  let off := a - TG_CTRL 0
  let u := off / 0x800
  let r := off % 0x800
  if TG_LOCK_BASE 0 ≤ a ∧ a < TG_LOCK_BASE 8 then s.writeLock m lvl a v
  else if a = TG_LOCK_STATUS then (if bySupervisor m lvl then s.writePlain lvl a v else s)
  else if 28 ≤ u ∨ !tgWriter m lvl u then s
  else if r = 0 then s.writeTgCtrl m lvl u v
  else if r = 4 then s.writePlain lvl a v
  else if 0x100 ≤ r ∧ r < 0x700 ∧ tgHasSets u ∧ (regAt a).isSome then s.stageRule u ((r - 0x100) / 0x180) lvl a v
  else s

/-! ## The rows -/

/-- TG_SLOT_WRITE: a write to a register of a rule set, at offset `a` of peripheral space. -/
def execTgSlotWrite (m : BitVec 8) (lvl : BitVec 2) (a : BitVec 22) (v : Word) (s : State) : Host.Outcome State Fault Refusal :=
  let p := 0x60000000 + a.toNat
  occurs (s.live && decide (TG_CTRL 0 ≤ p ∧ p < TG_CTRL 28 ∧ 0x100 ≤ (p - TG_CTRL 0) % 0x800)) s (s.writeTg m.toNat lvl.toNat p v)

def execTgCommit (m : BitVec 8) (lvl : BitVec 2) (u : Fin 28) (v : Word) (s : State) : Host.Outcome State Fault Refusal :=
  access s (s.writeTg m.toNat lvl.toNat (TG_CTRL u) v)

/-- TG_DRAIN_END (R292): DRAIN falls. -/
def execTgDrainEnd (u : Fin 28) (s : State) : Host.Outcome State Fault Refusal := done (s.put (TG_STATUS_DRAIN u) 0)

/-- TG_LOCK_WRITE: a write to a lock slot, at offset `a` of peripheral space. -/
def execTgLockWrite (m : BitVec 8) (lvl : BitVec 2) (a : BitVec 22) (v : Word) (s : State) : Host.Outcome State Fault Refusal :=
  let p := 0x60000000 + a.toNat
  occurs (s.live && decide (TG_LOCK_BASE 0 ≤ p ∧ p < TG_LOCK_BASE 8)) s (s.writeTg m.toNat lvl.toNat p v)

end Sys2Proof.Machine
end

