-- ==== Sys2Proof/Machine/Debug.lean ====
section
/-! DEFINITION. Machine/Debug.lean: the Debug gate, halting and stepping, Roadworks, the TAP (R437 to R452). -/
namespace Sys2Proof.Machine

/-! ## Roadworks (R448 to R450) -/

/-- An entry Roadworks causes, tagged so in the log (R450). -/
def State.roadworks (s : State) : State := s.drive 306 { tagged := true }

/-- ALL_OFF (R450): every control ends, injections not performed are cancelled, the skew returns to 0. -/
def State.allOff (s : State) : State :=
  let any := [RWK_FABRIC, RWK_DRAM, RWK_SKEW, RWK_NET 0, RWK_NET 1, RWK_NET 2, RWK_NET 3].any fun a => s.reg a ≠ 0
  let s := [RWK_FABRIC, RWK_DRAM, RWK_SKEW, RWK_NET 0, RWK_NET 1, RWK_NET 2, RWK_NET 3].foldl (fun s a => s.setReg a 0) s
  let s := { (s.put RWK_INJECT_BUSY 0).put RWK_BREAK_BUSY 0 with rwk := {} }
  let s := s.holdFault 5 none
  if any then s.roadworks else s

/-- A write to RWK.INJECT (R449, R450): GO while BUSY is ignored; a two-bit error needs Deep; an ECC address outside the scratchpads, Depot
and DRAM data memory is refused. -/
def State.writeInject (s : State) (level : Nat) (v : Word) : State :=
  let kind := v.toNat / 2 ^ 27 % 8
  let target := v.toNat / 2 ^ 16 % 2 ^ 11
  let n := v.toNat % 2 ^ 16
  let s := ((s.put RWK_INJECT_KIND kind).put RWK_INJECT_TARGET target).put RWK_INJECT_COUNT n
  let a := s.get RWK_INJ_ADDR_HI_ADDR * 2 ^ 32 + s.get RWK_INJ_ADDR_LO_ADDR * 8
  let place : Bool := match s.region a with | .spm _ => true | .depot => true | .dram => true | _ => false
  if !v.getLsbD 31 || s.flag RWK_INJECT_BUSY then s
    else if (kind = 3 ∨ kind = 5) ∧ level < 2 then s.put RWK_STATUS_LEVEL_REFUSED 1
    else if (kind = 2 ∨ kind = 3) ∧ !place then s.put RWK_STATUS_BAD_ADDR 1
    else if kind = 0 ∨ 5 < kind ∨ n = 0 then s
    else { s.put RWK_INJECT_BUSY 1 with rwk := { s.rwk with left := n, kind := kind, target := target, word := a / 8 } }

/-- A write to RWK.BREAK (R449, R450): a channel whose SEV is 6 or 7 needs Deep. The application counts as one injection. -/
def State.writeBreak (s : State) (level : Nat) (v : Word) : State :=
  let ch := v.toNat / 2 ^ 16 % 2 ^ 9
  let n := v.toNat % 2 ^ 16
  let pat := v.toNat / 2 ^ 28 % 4
  let s := ((s.put RWK_BREAK_PATTERN pat).put RWK_BREAK_CHANNEL ch).put RWK_BREAK_CYCLES n
  if !v.getLsbD 31 ∨ s.flag RWK_BREAK_BUSY = true ∨ n = 0 ∨ (fcRow ch).isNone then s
    else if 6 ≤ s.get (FCU_CH_CFG_SEV ch) ∧ level < 2 then s.put RWK_STATUS_LEVEL_REFUSED 1
    else
      let s := { s.put RWK_BREAK_BUSY 1 with rwk := { s.rwk with breakEnd := s.up + 250 * n, pattern := pat, channel := ch } }
      (((s.pulse 9).roadworks).bump RWK_STATUS_COUNT)

/-- A write to a delay, hold, stretch or skew (R449, R450): a change raises FC 306; a skew beyond ±4.75 % needs Deep, beyond ±5 % FC 5 is
raised, and one beyond ±6 % is not taken. -/
def State.writePerturbation (s : State) (level a : Nat) (v : Word) : State :=
  let t := s.writePlain level a v
  if a = RWK_SKEW then
    let k := v.toNat % 64
    let size := if k < 32 then k else 64 - k
    if 24 < size then s
    else if 19 < size ∧ level < 2 then s.put RWK_STATUS_LEVEL_REFUSED 1
    else
      let t := if t.reg a = s.reg a then t else t.roadworks
      t.holdFault 5 (if 20 < size then some { tagged := true } else none)
  else if t.reg a = s.reg a then t else t.roadworks

/-- Whether Roadworks takes a write (R438, R448): level 1 or 2, from the supervisor at Roadbed or the debug master. -/
def State.rwkOpen (s : State) (m lvl : Nat) : Bool :=
  decide (1 ≤ s.get DBG_STATUS_LEVEL) && (bySupervisor m lvl || m = 0x7F)

/-- A write to the RWK block at a physical address. -/
def State.writeRwk (s : State) (m lvl a : Nat) (v : Word) : State :=
  let level := s.get DBG_STATUS_LEVEL
  if !s.rwkOpen m lvl then s
  else if a = RWK_CTRL then (if v.getLsbD 0 then s.allOff else s)
  else if a = RWK_INJECT then s.writeInject level v
  else if a = RWK_BREAK then s.writeBreak level v
  else if a = RWK_FABRIC ∨ a = RWK_DRAM ∨ a = RWK_SKEW ∨ (RWK_NET 0 ≤ a ∧ a ≤ RWK_NET 3) then s.writePerturbation level a v
  else s.writePlain lvl a v

/-! ## Halting and stepping (R445 to R447) -/

/-- HALT of triad `t` (R445 to R447). -/
def State.haltTriad (s : State) (t : Nat) (force : Bool) : State :=
  let halted (s : State) : State :=
    let s := s.put (DBG_CORE_HALT t) 1
    match (s.triad t).run with
    | .running => (s.onTriad t fun x => { x with run := .stopped, stepping := false }).put (DBG_CORE_HALTED t) 1
    | .waiting => (s.onTriad t fun x => { x with run := .stoppedWaiting, stepping := false }).put (DBG_CORE_HALTED t) 1
    | _ => s
  if s.flag (DBG_CORE_HALTED t) then s
  else if t = 0 then
    let s := halted s
    { s.put MBX_CTRL_PROSAL_UP 0 with gate := { s.gate with heldUp := s.gate.heldUp || s.flag MBX_CTRL_PROSAL_UP } }
  else
    let p := laneOf t
    let st := s.get (BSQ_LANE_STAT_STATE p)
    if s.eng.running.isNone ∨ st = 0 ∨ st = 5 ∨ st = 6 then halted s
    else if !force then s.put DBG_STATUS_REFUSED 1
    else
      let s := halted (s.laneFail p)
      if s.eng.outOfService.contains p then s
      else (s.onEng fun e => { e with outOfService := e.outOfService ++ [p] }).setRoute p

/-- Resume of triad `t`: it runs again if a halt had stopped it. -/
def State.resumeTriad (s : State) (t : Nat) : State :=
  let s := (s.put (DBG_CORE_HALT t) 0).put (DBG_CORE_HALTED t) 0
  let s := s.onTriad t fun x =>
    { x with stepping := false, run := if x.run = .stopped then .running else if x.run = .stoppedWaiting then .waiting else x.run }
  if t = 0 ∧ s.gate.heldUp = true then { s.put MBX_CTRL_PROSAL_UP 1 with gate := { s.gate with heldUp := false } } else s

/-- A write to DBG.CORE(t) (R445, R452): the debug master alone, at Deep. -/
def State.writeCore (s : State) (m t : Nat) (v : Word) : State :=
  if m ≠ 0x7F ∨ s.get DBG_STATUS_LEVEL < 2 then s
  else
    let s := if v.getLsbD 1 then s.haltTriad t (v.getLsbD 3) else s.resumeTriad t
    if v.getLsbD 2 && s.flag (DBG_CORE_HALTED t) then
      (s.onTriad t fun x => { x with run := if x.run = .stoppedWaiting then .waiting else .running, stepping := true }).put (DBG_CORE_HALTED t) 0
    else s

/-- A write to the DBG block at a physical address (R452). -/
def State.writeDbg (s : State) (m lvl a : Nat) (v : Word) : State :=
  if a = DBG_STATUS then
    (if v.getLsbD 5 && ((m = 0x7F && decide (1 ≤ s.get DBG_STATUS_LEVEL)) || bySupervisor m lvl) then s.put DBG_STATUS_REFUSED 0 else s)
  else if DBG_CORE 0 ≤ a ∧ a ≤ DBG_CORE 18 then s.writeCore m ((a - DBG_CORE 0) / 4) v
  else s

/-! ## The unlock level (R437, R442) -/

/-- Bits of a peripheral entry for Roadbed reads and writes. -/
def perRW (r w : Bool) : Nat := 0x80 + (if r then 0x10 else 0) + (if w then 0x20 else 0)

/-- Peripheral slots the debug master is granted at a level: MBX alone when closed; every slot readable, MBX and RWK writable at Maintenance;
every slot writable at Deep. The DBG slot is writable at Maintenance too, for DBG.STATUS.REFUSED (R452). -/
def gateSlot (level k : Nat) : Nat :=
  if level = 0 then (if k = 20 then perRW true true else 0)
  else if level = 1 then perRW true (k = 20 || k = 10 || k = 9)
  else perRW true true

/-- One memory slot that grants Roadbed R, and W with `w`, over a byte range. -/
def gateMem (a b : Nat) (w : Bool) : MSlot :=
  { base := BitVec.ofNat 32 (a / 256), limit := BitVec.ofNat 32 (b / 256), valid := true, shadow := false
    perm := if w then 0xC0 else 0x40 }

/-- Memory the debug master is granted at a level (R437): none when closed; read at Maintenance, and written at Deep; never the Ledger's key
area, nor the firmware area (R243). -/
def gateMemory (level : Nat) : List MSlot :=
  if level = 0 then []
  else
    let w := decide (2 ≤ level)
    [gateMem 0 0x1FFFF w, gateMem 0x10000000 0x1061FFFF w, gateMem 0x10630000 0x107FFFFF w, gateMem 0x20000000 0x217BFFFF w,
     gateMem 0x40000000 0x48FFFFFF w, gateMem 0x80000000 0x8003FFFF w, gateMem 0x1000000000 0x1FFFFFFFFF w]

/-- Rule set 0 of unit 27 for the level in force (R294, R437): what no slot covers is refused, since a miss is refused for the debug master. -/
def State.loadGate (s : State) : State :=
  let l := s.get DBG_STATUS_LEVEL
  s.loadUnit 27 (gateMemory l) (gateSlot l)

/-- The level changes (R437, R442): event 8; FC 304 on a change to 1 or 2; halted triads resume below Deep; a fall below 1 ends Roadworks. -/
def State.setLevel (s : State) (l method : Nat) : State :=
  let was := s.get DBG_STATUS_LEVEL
  let s := s.put DBG_STATUS_METHOD method
  if l = was then s
  else
    let s := (s.put DBG_STATUS_LEVEL l).pulse 8
    let s := if l = 0 then s else s.drive 304 { kind := 14, note := l }
    let s := if l < 2 then (List.range 19).foldl (fun s t => if s.flag (DBG_CORE_HALT t) || s.flag (DBG_CORE_HALTED t) then s.resumeTriad t else s) s else s
    (if l = 0 then s.allOff else s).loadGate

/-- A command or a debug access restarts the ten minutes (R442). -/
def State.gateUsed (s : State) : State := { s with gate := { s.gate with lastAt := s.up } }

/-! ## The rows -/

/-- UNLOCK_TIMEOUT (R442): ten minutes after the last command or debug access. -/
def execUnlockTimeout (s : State) : Host.Outcome State Fault Refusal :=
  let s1 := s.pass (s.gate.lastAt + 600000000000 - s.up)
  occurs (s.get DBG_STATUS_LEVEL ≠ 0) s (s1.setLevel 0 0)

def execHaltCmd (m : BitVec 8) (lvl : BitVec 2) (c : Fin 19) (v : Word) (s : State) : Host.Outcome State Fault Refusal :=
  access s (s.writeDbg m.toNat lvl.toNat (DBG_CORE c) v)

def execTriadStep (m : BitVec 8) (lvl : BitVec 2) (c : Fin 19) (v : Word) (s : State) : Host.Outcome State Fault Refusal :=
  access s (s.writeDbg m.toNat lvl.toNat (DBG_CORE c) v)

def execResumeCmd (m : BitVec 8) (lvl : BitVec 2) (c : Fin 19) (v : Word) (s : State) : Host.Outcome State Fault Refusal :=
  access s (s.writeDbg m.toNat lvl.toNat (DBG_CORE c) v)

def execInjectGo (m : BitVec 8) (lvl : BitVec 2) (v : Word) (s : State) : Host.Outcome State Fault Refusal :=
  access s (s.writeRwk m.toNat lvl.toNat RWK_INJECT v)

def execBreakGo (m : BitVec 8) (lvl : BitVec 2) (v : Word) (s : State) : Host.Outcome State Fault Refusal :=
  access s (s.writeRwk m.toNat lvl.toNat RWK_BREAK v)

/-- BREAK_END (R449): CYCLES Sentry cycles have passed. -/
def execBreakEnd (s : State) : Host.Outcome State Fault Refusal :=
  occurs (s.flag RWK_BREAK_BUSY) s ((s.pass (s.rwk.breakEnd - s.up)).put RWK_BREAK_BUSY 0)

def execAllOff (m : BitVec 8) (lvl : BitVec 2) (v : Word) (s : State) : Host.Outcome State Fault Refusal :=
  access s (s.writeRwk m.toNat lvl.toNat RWK_CTRL v)

/-- A write to a perturbation register at offset `a` of peripheral space. -/
def execPerturbationWrite (m : BitVec 8) (lvl : BitVec 2) (a : BitVec 22) (v : Word) (s : State) : Host.Outcome State Fault Refusal :=
  let p := 0x60000000 + a.toNat
  occurs (s.live && decide (RWK_FABRIC ≤ p ∧ p ≤ RWK_NET 3)) s (s.writeRwk m.toNat lvl.toNat p v)

/-! ## The TAP (R443) -/

/-- The TAP loads an instruction. -/
def State.tap (s : State) (ir : Nat) : State := { s with jtag := { s.jtag with ir := ir } }

/-- EXTEST, CLAMP and HIGHZ are accepted while the device is not armed; else the TAP loads BYPASS. -/
def State.tapPins (s : State) (ir : Nat) : State := s.tap (if s.flag FCU_STATUS_ARMED then 0x3F else ir)

def execBypassCmd (s : State) : Host.Outcome State Fault Refusal := done (s.tap 0x3F)

def execIdcode (s : State) : Host.Outcome State Fault Refusal := done (s.tap 1)

def execTestLogicReset (s : State) : Host.Outcome State Fault Refusal := done (s.tap 1)

/-- SAMPLE/PRELOAD: the pins are sampled, and the cells take what is shifted in. -/
def execSamplePreload (cells : ByteList) (s : State) : Host.Outcome State Fault Refusal :=
  done { s with jtag := { s.jtag with ir := 2, cells := cells, sampled := some s.pinsOf } }

def execExtest (s : State) : Host.Outcome State Fault Refusal := done (s.tapPins 3)

def execClampCmd (s : State) : Host.Outcome State Fault Refusal := done (s.tapPins 4)

def execHighz (s : State) : Host.Outcome State Fault Refusal := done (s.tapPins 5)

end Sys2Proof.Machine
end

