-- ==== Sys2Proof/Machine/Events.lean ====
section
/-! DEFINITION. Machine/Events.lean: writes to the EVR and FCU blocks and the events of the fault collection unit (R305 to R325). -/
namespace Sys2Proof.Machine

/-! ## Event router -/

/-- Bits of EVR.PEND(w) a master may clear (R308): the supervisor any, a lane triad those of events routed to its applied ROUTE_ID. -/
def State.clearable (s : State) (m lvl w : Nat) : Nat :=
  if 10 ≤ w ∨ lvl = 0 then 0
  else match triadOf m with
    | none => 0
    | some 0 => 2 ^ 32 - 1
    | some t => (List.range 32).foldl (fun acc i =>
        if s.get (EVR_ROUTE_TARGET (32 * w + i)) = (s.triad t).evrbase.toNat % 256 then acc + 2 ^ i else acc) 0

/-- A write to EVR.PEND(w) (R308). Event 7 stays pending while the raise queue is not empty (R320, DEDUCED). -/
def State.writePend (s : State) (m lvl w : Nat) (v : Word) : State :=
  let s' := s.setReg (EVR_PEND w) (s.reg (EVR_PEND w) &&& ~~~(v &&& BitVec.ofNat 32 (s.clearable m lvl w)))
  if w = 0 ∧ s.fcu.queue ≠ [] then s'.pulse 7 else s'

/-- A write to EVR.SWEV (R305, R325). -/
def State.writeSwev (s : State) (m lvl : Nat) (v : Word) : State :=
  if (triadOf m).isSome && decide (1 ≤ lvl) then s.pulse (48 + v.toNat % 16) else s

/-- A write to the EVR block at a physical address (R325). -/
def State.writeEvr (s : State) (m lvl a : Nat) (v : Word) : State :=
  if a = EVR_SWEV then s.writeSwev m lvl v
  else if EVR_PEND 0 ≤ a ∧ a < EVR_PEND 10 then s.writePend m lvl ((a - EVR_PEND 0) / 4) v
  else if EVR_ROUTE 0 ≤ a ∧ bySupervisor m lvl then s.writePlain lvl a v
  else s

def execSoftwareEvent (m : BitVec 8) (lvl : BitVec 2) (v : Word) (s : State) : Host.Outcome State Fault Refusal :=
  access s (s.writeSwev m.toNat lvl.toNat v)

def execEventClear (m : BitVec 8) (lvl : BitVec 2) (w : Fin 20) (v : Word) (s : State) : Host.Outcome State Fault Refusal :=
  access s (if w.val < 10 then s.writePend m.toNat lvl.toNat w v else s)

/-! ## Fault collection unit -/

/-- A channel forbids FCU.ARM (R322): it is pending, or its pair is broken, at effective severity 7. -/
def State.holdsArm (s : State) (n : Nat) : Bool :=
  (s.flag (FCU_CH_STATUS_PEND n) && s.get (FCU_CH_STATUS_LAST_SEV n) = 7) ||
    (s.flag (FCU_CH_STATUS_BROKEN n) && s.effSev n {} = 7)

/-- Whether FCU.ARM is accepted (R322). -/
def State.armable (s : State) : Bool := !s.flag FCU_STATUS_ARMED && (List.range 320).all fun n => !s.holdsArm n

/-- A write to FCU.ARM: the start-up safe state is left, and the device is ACTIVE or STANDBY-ready by R359. -/
def State.writeArm (s : State) (m lvl : Nat) (v : Word) : State :=
  if bySupervisor m lvl && v.getLsbD 0 && s.armable then
    ((s.put FCU_STATUS_SAFE 0).put FCU_STATUS_ARMED 1).put PWR_STATE_STATE 3
  else s

/-- A write to FCU.DECIDE (R321): a severity below SEV_MIN is taken as SEV_MIN. -/
def State.writeDecide (s : State) (m lvl : Nat) (v : Word) : State :=
  if !bySupervisor m lvl then s
  else
    let n := v.toNat % 512
    let sev := v.toNat / 2 ^ 16 % 8
    let s := (s.put FCU_DECIDE_SEV sev).put FCU_DECIDE_CHANNEL n
    if !v.getLsbD 31 then s
    else if n < 320 ∧ s.flag (FCU_CH_STATUS_DEFERRED n) then s.endDeferral n (max sev (s.sevMin n))
    else s.put FCU_STATUS_DECIDE_LATE 1

/-- A write to FCU.FIRST_ACK (R318). -/
def State.writeFirstAck (s : State) (m lvl : Nat) (v : Word) : State :=
  if bySupervisor m lvl && v.getLsbD 0 then s.put FCU_FIRST_CH_VALID 0 else s

/-- A write to FCU.CH_STATUS(n) (R316, R325): PEND by the supervisor at Carriageway too, LOST and COUNT at Roadbed. -/
def State.writeChStatus (s : State) (m lvl n : Nat) (v : Word) : State :=
  if m ≠ 0 ∨ lvl = 0 then s
  else
    let s := if v.getLsbD 31 then s.put (FCU_CH_STATUS_PEND n) 0 else s
    if 2 ≤ lvl then
      (if v.getLsbD 28 then s.put (FCU_CH_STATUS_LOST n) 0 else s).put (FCU_CH_STATUS_COUNT n) (v.toNat % 2 ^ 16)
    else s

/-- A write to FCU.CTRL: a DEFER_MS outside 1 to 10,000 or a FAULTN_SEV below 2 leaves its field unchanged (DESIGN CHOICE). -/
def State.writeFcuCtrl (s : State) (v : Word) : State :=
  let d := v.toNat / 2 ^ 16 % 2 ^ 14
  let f := v.toNat / 16 % 8
  ((s.putIf (decide (1 ≤ d ∧ d ≤ 10000)) FCU_CTRL_DEFER_MS d).putIf (decide (2 ≤ f)) FCU_CTRL_FAULTN_SEV f).put FCU_CTRL_HOST (v.toNat % 2)

/-- A write to FCU.COUNT_CFG(k) (R314): a value outside a field's range leaves it unchanged (DESIGN CHOICE). -/
def State.writeCountCfg (s : State) (k : Nat) (v : Word) : State :=
  let n := v.toNat / 2 ^ 24
  let b := v.toNat / 2 ^ 16 % 8
  let t := v.toNat % 2 ^ 16
  ((s.putIf (n ≠ 0) (FCU_COUNT_CFG_N k) n).putIf (decide (s.sevMin (if k = 0 then 218 else 220) ≤ b)) (FCU_COUNT_CFG_BASE k) b).putIf
    (t ≠ 0) (FCU_COUNT_CFG_T_MS k) t

/-- A write to the FCU block at a physical address, but to its triplicated control words (R325). -/
def State.writeFcu (s : State) (m lvl a : Nat) (v : Word) : State :=
  if a = FCU_ARM then s.writeArm m lvl v
  else if a = FCU_DECIDE then s.writeDecide m lvl v
  else if a = FCU_FIRST_ACK then s.writeFirstAck m lvl v
  else if FCU_CH_STATUS 0 ≤ a ∧ a ≤ FCU_CH_STATUS 319 then s.writeChStatus m lvl ((a - FCU_CH_STATUS 0) / 4) v
  else if !bySupervisor m lvl then s
  else if a = FCU_CTRL then s.writeFcuCtrl v
  else if a = FCU_COUNT_CFG 0 ∨ a = FCU_COUNT_CFG 1 then s.writeCountCfg ((a - FCU_COUNT_CFG 0) / 4) v
  else s.writePlain lvl a v

/-- FCU_SAMPLE (R309): one Sentry cycle's sample of every pair; none is taken between the acceptance of a reset and its end. -/
def execFcuSample (s : State) : Host.Outcome State Fault Refusal := occurs (s.boot != .held) s s.sampleAll

/-- DEFER_DEADLINE (R321): no choice has come by the deadline, and the raise's own severity applies. -/
def execDeferDeadline (n : Fin 320) (s : State) : Host.Outcome State Fault Refusal :=
  match s.fcu.deferred.find? fun d => d.channel = n.val with
  | some d => done ((s.until d.deadline).endDeferral n d.sev)
  | none => done s

def execFcuDecide (m : BitVec 8) (lvl : BitVec 2) (v : Word) (s : State) : Host.Outcome State Fault Refusal :=
  access s (s.writeFcu m.toNat lvl.toNat FCU_DECIDE v)

def execFcuArm (m : BitVec 8) (lvl : BitVec 2) (v : Word) (s : State) : Host.Outcome State Fault Refusal :=
  access s (s.writeFcu m.toNat lvl.toNat FCU_ARM v)

def execFirstAck (m : BitVec 8) (lvl : BitVec 2) (v : Word) (s : State) : Host.Outcome State Fault Refusal :=
  access s (s.writeFcu m.toNat lvl.toNat FCU_FIRST_ACK v)

def execPendClear (m : BitVec 8) (lvl : BitVec 2) (n : Fin 320) (v : Word) (s : State) : Host.Outcome State Fault Refusal :=
  access s (s.writeFcu m.toNat lvl.toNat (FCU_CH_STATUS n) v)

/-- SAFE_STATE_RESET (R323 step 7): RESET_DELAY has passed, and the FCU pulls RESET_N. -/
def execSafeStateReset (s : State) : Host.Outcome State Fault Refusal :=
  match s.fcu.resetAt with
  | some t =>
    let s := s.until t
    done ({ s with fcu := { s.fcu with resetAt := none } }.pullReset causeSafe)
  | none => done s

end Sys2Proof.Machine
end

