-- ==== Sys2Proof/Machine/MemUnit.lean ====
section
/-! DEFINITION. Machine/MemUnit.lean: the memory units: write-backs, bank power, marches, row repair, triplicated control words,
scrubbing, page retirement, Ledger writes, the fault log and Prosal's retirement policy (R248 to R277, R418). -/
namespace Sys2Proof.Machine

/-! ## Ledger words (R273, R274) -/

/-- One Ledger word is written and read back (R273). A worn word fails its second write too: it holds an unknown value, VERIFY_FAIL
is set and FC 228 raised; false is answered. A word that keeps its value is not written (R274). -/
def State.putLedger (s : State) (off v : Nat) : State × Bool :=
  let a := 0x10000000 + off / 8 * 8
  if s.le a 8 = v % 2 ^ 64 then (s, true)
  else
    let s := s.setErr (a / 8) .good
    if s.memu.worn.contains (off / 8 * 8) then
      let (x, s) := s.draw
      (((s.setBytes a (leBytes 8 x.toNat)).put LDG_STATUS_VERIFY_FAIL 1).drive 228 { addr := some a }, false)
    else (s.setBytes a (leBytes 8 v), true)

/-- Words written in turn, up to the first that fails (R273). -/
def State.putLedgers (s : State) (off : Nat) : List Nat → State × Bool
  | [] => (s, true)
  | v :: vs =>
    let (s, ok) := s.putLedger off v
    if ok then s.putLedgers (off + 8) vs else (s, false)

/-- The 64-bit words of a byte list, the last one filled with zeros. -/
def wordsOfBytes (n : Nat) (bs : List Byte) : List Nat := (List.range n).map fun i => leVal ((bs.drop (8 * i)).take 8)

/-- A Ledger word stops taking writes (R273). -/
def State.wear (s : State) (w : Option (BitVec 23)) : State :=
  match w with
  | some o => s.onMemu fun m => { m with worn := if m.worn.contains (o.toNat / 8 * 8) then m.worn else (o.toNat / 8 * 8) :: m.worn }
  | none => s

/-- Whether a lock refuses a write at a Ledger offset (R277). -/
def State.ledgerLocked (s : State) (off : Nat) : Bool :=
  (s.flag LDG_LOCK_OPTION_WRITE && decide (0x600000 ≤ off ∧ off < 0x610000)) ||
    (s.flag LDG_LOCK_KEY_WRITE && decide (0x620000 ≤ off ∧ off < 0x630000))

/-- A write to LDG.CMD (R273): GO starts the write of one word. -/
def State.writeLdgCmd (s : State) (m lvl : Nat) (v : Word) : State :=
  let off := s.get LDG_WADDR_VALUE * 8
  if !(bySupervisor m lvl && v.getLsbD 0) then s
  else if s.flag LDG_CMD_BUSY then s.put LDG_STATUS_GO_BUSY 1
  else if s.ledgerLocked off then s.put LDG_STATUS_LOCKED_WRITE 1
  else if 0x800000 ≤ off then s
  else
    (s.put LDG_CMD_BUSY 1).onMemu fun u => { u with
      ledger := some ⟨off, BitVec.ofNat 64 (s.get64 LDG_WDATA_LO), false⟩ }

def execLedgerWriteGo (m : BitVec 8) (lvl : BitVec 2) (v : Word) (s : State) : Host.Outcome State Fault Refusal :=
  access s (s.writeLdgCmd m.toNat lvl.toNat v)

/-- The word write that runs is read back (R273): on a mismatch it is written once more, and then fails. -/
def State.ledgerReadBack (s : State) (w : LdgWrite) (ok : Bool) : State :=
  if !ok && !w.retried then s.onMemu fun u => { u with ledger := some { w with retried := true } }
  else
    let s := if ok then s else s.wear (some (BitVec.ofNat 23 w.off))
    let (s, _) := s.putLedger w.off w.word.toNat
    ((s.put LDG_CMD_BUSY 0).onMemu fun u => { u with ledger := none }).pulse 5

/-- LEDGER_WRITE_COMPLETE: `ok` is what the read-back finds. A started write completes across a reset. -/
def execLedgerWriteComplete (ok : Bool) (s : State) : Host.Outcome State Fault Refusal :=
  match s.memu.ledger with
  | some w => done (s.ledgerReadBack w ok)
  | none => done s

/-! ## The repair area (R271, R272) -/

/-- Whether a repair entry is empty. -/
def entryEmpty (w : Nat) : Bool := w / 2 ^ 60 = 0 || w / 2 ^ 60 = 15

/-- One copy of the repair area takes an entry: at its first empty place, with the closing CRC-32C after it. -/
def State.putRepairCopy (s : State) (k w : Nat) : State × Bool :=
  let o := 0x610000 + 0x8000 * k
  match (List.range 4095).find? fun i => entryEmpty (s.le (0x10000000 + o + 8 * i) 8) with
  | none => (s, true)
  | some i =>
    let (s, ok) := s.putLedger (o + 8 * i) w
    if !ok then (s, false)
    else s.putLedger (o + 8 * 4095) (crc32c (s.bytes (0x10000000 + o) (8 * 4095))).toNat

/-- Prosal writes a repair entry to both copies, the first before the second (R274). -/
def State.putRepair (s : State) (w : Nat) : State × Bool :=
  let (s, ok) := s.putRepairCopy 0 w
  if ok then s.putRepairCopy 1 w else (s, false)

/-! ## Rows and banks (R241, R249, R252, R253) -/

/-- Banks of a memory. -/
def memBanks (mem : Nat) : Nat := if mem < 9 then 32 else 96

/-- Rows of a bank. -/
def memRows (mem : Nat) : Nat := if mem < 9 then 512 else 1024

/-- Word numbers (address div 8) of a row. -/
def rowWords (mem bank row : Nat) : List Nat :=
  (List.range 32).map fun j =>
    let i := row * 32 + j
    let o := if mem < 9 then i * 256 + bank * 8 else bank / 16 * 0x400000 + i * 128 + bank % 16 * 8
    (memBase mem + o) / 8

/-- Words copied to a spare place: correctable ones corrected, uncorrectable ones poisoned (R252, R268). -/
def State.copyWords (s : State) (ws : List Nat) : State :=
  ws.foldl (fun s w => match s.errOf w with
    | .correctable => s.setErr w .good
    | .uncorrectable => s.setErr w .poisoned
    | _ => s) s

def State.repairEntry (s : State) (key : Nat) : RowRepair := Sparse.get (fun _ => {}) s.memu.repair key

def State.setRepairEntry (s : State) (key : Nat) (e : RowRepair) : State :=
  s.onMemu fun m => { m with repair := Sparse.set (fun _ => {}) m.repair key e }

/-- A copy of a row to a spare row begins (R252). -/
def State.startRowCopy (s : State) (key row : Nat) : State :=
  s.onMemu fun m => { m with rowCopy := m.rowCopy.filter (fun x => x.1 ≠ key) ++ [(key, row)] }

/-- ROW_REPAIR_COPY_COMPLETE (R252): the entry becomes valid; vector 30. -/
def State.endRowCopy (s : State) (key mem bank row : Nat) : State :=
  let s := (s.copyWords (rowWords mem bank row)).setRepairEntry key { valid := true, row := row }
  (s.onMemu fun m => { m with rowCopy := m.rowCopy.filter fun x => x.1 ≠ key }).irq 30

def execRowRepairCopyComplete (mem : Fin 10) (b : BitVec 7) (sp : BitVec 2) (s : State) : Host.Outcome State Fault Refusal :=
  match s.memu.rowCopy.find? fun x => x.1 = repairKey mem b.toNat sp.toNat with
  | some (key, row) => done (s.endRowCopy key mem b.toNat row)
  | none => done s

/-- A bank's power state is asked for (R249): the move ends with BANK_POWER_TRANSITION_COMPLETE. OFF to ON fills the bank, and reads
3 meanwhile (R250). -/
def State.moveBank (s : State) (mem bank target : Nat) : State :=
  let key := mem * 128 + bank
  let now := s.get (bankPwr mem bank)
  let drop (s : State) : State := s.onMemu fun m => { m with moving := Sparse.drop m.moving key }
  if target = 3 ∨ memBanks mem ≤ bank then s
  else if now = target then drop s
  else if now = 3 ∧ target = 2 then s
  else
    let s := s.onMemu fun m => { m with moving := Sparse.put m.moving key (target + 1) }
    if now = 0 ∧ target = 2 then s.put (bankPwr mem bank) 3 else s

/-- The bytes of a bank read as filled again. -/
def State.fillBank (s : State) (mem bank : Nat) : State :=
  let here (a : Nat) : Bool := bankOf (s.region a) a = some (mem, bank)
  { s with mem := s.mem.filter fun c => !here c.1, werr := s.werr.filter fun c => !here (8 * c.1) }

/-- The move of a bank ends (R249): its contents are lost when it goes OFF or comes from OFF. -/
def State.endBankMove (s : State) (mem bank target : Nat) : State :=
  let was := s.get (bankPwr mem bank)
  let s := if target = 0 ∨ was = 3 then s.fillBank mem bank else s
  (s.put (bankPwr mem bank) target).onMemu fun m => { m with moving := Sparse.drop m.moving (mem * 128 + bank) }

def execBankPowerTransitionComplete (mem : Fin 10) (b : BitVec 7) (s : State) : Host.Outcome State Fault Refusal :=
  match Sparse.get (fun _ => 0) s.memu.moving (mem * 128 + b.toNat) with
  | t + 1 => occurs (decide (b.toNat < memBanks mem)) s (s.endBankMove mem b.toNat t)
  | 0 => done s

/-- A write to SPM.PWR_LO, SPM.PWR_HI or DPT.PWR: the 16 banks from `first` (R249, R277). -/
def State.writeBankPwr (s : State) (mem first : Nat) (v : Word) : State :=
  (List.range 16).foldl (fun s k => s.moveBank mem (first + k) (v.toNat / 4 ^ k % 4)) s

/-! ## Parking for retirement (R171, R196, R253) -/

/-- The raise of a repair or a retirement: the first word of the row, and the row as R248's entries name it (DESIGN CHOICE). -/
def placeRaise (mem bank row : Nat) : Raise :=
  { addr := some (8 * (rowWords mem bank row).headD 0), detail := [BitVec.ofNat 8 mem, BitVec.ofNat 8 bank] ++ leBytes 2 row }

/-- Park a logical lane on Layby lane `y` at the earliest block R171 accepts. -/
def State.planPark (s : State) (l y footprint : Nat) (im : Image) : State :=
  let p := s.blockA + leadBlocks footprint im.rate im.bsize + 2
  s.onEng fun e => { e with parks := e.parks ++ [⟨l, y, false, p, 0⟩] }

/-- Prosal moves the work of cluster `c` to the Layby and takes both lanes out of service, when the Layby can take all of it (R253). -/
def State.emptyCluster (s : State) (c : Nat) : State :=
  match s.eng.running with
  | none => [2 * c, 2 * c + 1].foldl (fun s p => s.outLane p) s
  | some im =>
    let here := (s.placed im).filter fun x => x.2.2 / 2 = c
    let free := [16, 17].filter fun y => s.laybyFree y
    if free.length < here.length then s
    else
      let s := (here.zip free).foldl (fun s x =>
        let f := match im.parts[x.1.1]? with | some p => p.footprint | none => 0
        s.planPark x.1.2.1 x.2 f im) s
      let s := [2 * c, 2 * c + 1].foldl (fun s p =>
        if here.any fun x => x.2.2 = p then s.onMemu fun m => { m with leaving := p :: m.leaving } else s.outLane p) s
      let s := ((s.put EXP_MOVE_RETURN 0).put EXP_MOVE_BLOCK c).put64 EXP_MOVE_LO (s.blockA + 2)
      s.put EXP_MOVE_BUSY 1

/-- Prosal retires a bank (R253): the register, FC 224, the Ledger entry; a Depot bank's set leaves allocation; an active cluster is
emptied. -/
def State.retireBank (s : State) (mem bank : Nat) : State × Bool :=
  let s := ((s.markRetired mem bank).drive 224 (placeRaise mem bank 0)).irq 30
  let out := s.memu.depotSetsOut
  let s := if mem = 9 then s.onMemu fun m => { m with
        depotSetsOut := if out.contains (bank / 16) then out else out ++ [bank / 16] }
    else if mem < 8 ∧ s.get (PWR_CLUSTER_STATE mem) ≠ 0 then s.emptyCluster mem else s
  s.putRepair (3 * 2 ^ 60 + mem * 2 ^ 56 + bank * 2 ^ 49)

/-- Prosal repairs a row (R252): the lowest spare takes it, FC 222, and the Ledger entry; with no spare left FC 225 is raised. The
spare, and whether the Ledger took the entry. -/
def State.repairRow (s : State) (mem bank row : Nat) : State × Option Nat × Bool :=
  let free := (List.range 4).find? fun sp =>
    let key := repairKey mem bank sp
    !(s.repairEntry key).valid && !s.memu.rowCopy.any fun x => x.1 = key
  match free with
  | some sp =>
    let s := (s.startRowCopy (repairKey mem bank sp) row).drive 222 (placeRaise mem bank row)
    let (s, ok) := s.putRepair (2 ^ 60 + mem * 2 ^ 56 + bank * 2 ^ 49 + row * 2 ^ 39 + sp * 2 ^ 37)
    (s, some sp, ok)
  | none => (s.drive 225 (placeRaise mem bank row), none, true)

/-- The data page of a DRAM address. -/
def pageOf (a : Nat) : Nat := (a - 0x1000000000) / 4096

/-- Word numbers of a data page. -/
def pageWords (p : Nat) : List Nat := (List.range 512).map fun j => (0x1000000000 + 4096 * p) / 8 + j

/-- Whether a data page has a remap entry. -/
def State.remapped (s : State) (p : Nat) : Option Nat :=
  (List.range 256).find? fun i => s.get (LPD_REMAP_STATE i) ≠ 0 && s.get (LPD_REMAP_PAGE i) = p

/-- A remap entry begins to copy its page (R268). -/
def State.startPageCopy (s : State) (i p : Nat) : State :=
  let s := (((s.put (LPD_REMAP_STATE i) 1).put (LPD_REMAP_PAGE i) p).remapStatus)
  s.onMemu fun m => { m with pageCopy := m.pageCopy.filter (· ≠ i) ++ [i] }

/-- Prosal retires a data page (R268, R269): the lowest free entry takes it, FC 223, and the Ledger entry; with the table full FC 226
is raised. A page that has an entry keeps it. -/
def State.retirePage (s : State) (p : Nat) : State × Option Nat × Bool :=
  match s.remapped p with
  | some i => (s, some i, true)
  | none =>
    match (List.range 256).find? fun i => s.get (LPD_REMAP_STATE i) = 0 with
    | some i =>
      let s := (s.startPageCopy i p).drive 223 { addr := some (0x1000000000 + 4096 * p) }
      let (s, ok) := s.putRepair (2 * 2 ^ 60 + i * 2 ^ 52 + p * 2 ^ 29)
      (s, some i, ok)
    | none => (s.drive 226 { addr := some (0x1000000000 + 4096 * p) }, none, true)

/-- REMAP_COPY_COMPLETE (R268): the entry becomes ACTIVE. -/
def State.endPageCopy (s : State) (i : Nat) : State :=
  let s := (s.copyWords (pageWords (s.get (LPD_REMAP_PAGE i)))).put (LPD_REMAP_STATE i) 2
  ((s.onMemu fun m => { m with pageCopy := m.pageCopy.filter (· ≠ i) }).remapStatus).irq 30

def execRemapCopyComplete (i : BitVec 8) (s : State) : Host.Outcome State Fault Refusal :=
  occurs (s.memu.pageCopy.contains i.toNat) s (s.endPageCopy i.toNat)

/-! ## Write-back and refresh (R248, R262) -/

/-- ECC_WRITE_BACK: the corrected word goes back to its bank. -/
def State.writeBackWord (s : State) (w : Nat) : State :=
  let s := if s.errOf w = .correctable then s.setErr w .good else s
  s.onMemu fun m => { m with writeBack := m.writeBack.filter (· ≠ w)
                             wroteBack := if m.wroteBack.contains w then m.wroteBack else w :: m.wroteBack }

def execEccWriteBack (w : BitVec 37) (s : State) : Host.Outcome State Fault Refusal :=
  occurs (s.memu.writeBack.contains w.toNat && !s.busError (8 * w.toNat) true) s (s.writeBackWord w.toNat)

/-- DRAM_REFRESH: `r` is the highest MR4 refresh-rate code of any rank. -/
def execDramRefresh (r : BitVec 4) (s : State) : Host.Outcome State Fault Refusal :=
  occurs (s.flag LPD_CONFIG_TRAINED && !s.flag LPD_STATUS_SELF_REFRESH) s (s.put LPD_STATUS_REFRESH r.toNat)

/-! ## Marches (R251, R266) -/

/-- GiB of raw DRAM, by LPD.CONFIG.RAW. -/
def rawGib (raw : Nat) : Nat := if raw = 3 then 8 else if raw = 4 then 16 else if raw = 5 then 32 else 0

/-- Rows or granules of a march. -/
def State.marchTotal (s : State) (mem : Nat) : Nat :=
  if mem = 10 then rawGib (s.get LPD_CONFIG_RAW) * 2 ^ 18 else memRows mem

/-- Whether a march may start: none runs; a destructive one needs a bank that is OFF to all users, a preserving one a bank that serves,
and DRAM is marched preserving only. -/
def State.mayMarch (s : State) (mem bank : Nat) (preserve : Bool) : Bool :=
  !s.flag SCB_MARCH_STATUS_BUSY &&
    (if mem = 10 then preserve && s.flag LPD_CONFIG_TRAINED
     else decide (mem < 10 ∧ bank < memBanks mem) && s.get (bankPwr mem bank) = (if preserve then 2 else 0))

def State.startMarch (s : State) (mem bank : Nat) (preserve : Bool) : State :=
  if s.mayMarch mem bank preserve then
    ((s.put SCB_MARCH_STATUS_BUSY 1).put SCB_MARCH_STATUS_PROGRESS 0).onMemu fun m => { m with
      march := some { mem := mem, bank := bank, preserve := preserve, row := 0 } }
  else s

/-- A write to SCB.MARCH. -/
def State.writeMarch (s : State) (m lvl : Nat) (v : Word) : State :=
  if !bySupervisor m lvl then s
  else
    let s := s.setReg SCB_MARCH (v &&& 0x00001F7F)
    if v.getLsbD 31 then s.startMarch (s.get SCB_MARCH_MEMORY) (s.get SCB_MARCH_BANK) (s.flag SCB_MARCH_PRESERVE) else s

def execMarchGo (m : BitVec 8) (lvl : BitVec 2) (v : Word) (s : State) : Host.Outcome State Fault Refusal :=
  access s (s.writeMarch m.toNat lvl.toNat v)

/-- One row or granule more is tested; a failing cell is noted. -/
def State.marchOn (s : State) (r : MarchRun) (ok : Bool) (place : Nat × Nat) : State :=
  let s := if ok then s else s.put SCB_MARCH_STATUS_FAIL 1
  let s := s.put SCB_MARCH_STATUS_PROGRESS ((r.row + 1) * 1000 / max 1 (s.marchTotal r.mem))
  s.onMemu fun m => { m with
    march := some { r with row := r.row + 1, failed := if ok then r.failed else r.failed ++ [place] } }

/-- MARCH_ROW: `ok` is whether every cell of the row passed. A preserving march restores the row. -/
def execMarchRow (ok : Bool) (s : State) : Host.Outcome State Fault Refusal :=
  match s.memu.march with
  | some r => occurs (decide (r.mem < 10 ∧ r.row < s.marchTotal r.mem)) s (s.marchOn r ok (r.row, 0))
  | none => done s

/-- The 4 KiB of a raw granule of DRAM pages p and p + 1: data, then check bytes, then the bytes that are not used (R259). -/
def State.rawGranule (s : State) (sub p : Nat) : List Byte :=
  (List.range 4096).map fun i =>
    let q := p + i / 2048
    let o := i % 2048
    if o < 1792 then s.byte (dramBlock sub q (o / 64) + o % 64)
    else if o < 2016 then
      let w := dramBlock sub q ((o - 1792) / 8) + 8 * ((o - 1792) % 8)
      Config.dramCheck w (s.le w 8)
    else Config.dramSpare sub q o

/-- A granule is copied to the shadow area with its header, recorded, tested, written back, and the record cleared (R266). -/
def State.marchGranule (s : State) (r : MarchRun) (sub p : Nat) (ok : Bool) : State :=
  let copy := s.rawGranule sub p
  let record := 2 ^ 31 + sub * 2 ^ 21 + p
  let s := s.setBytes shadowArea (leBytes 4 record ++ leBytes 4 (crc32c copy).toNat ++ List.replicate 56 0 ++ copy)
  (s.setReg RST_MARCH 0).marchOn r ok (sub, p)

def execDramMarchGranule (sub : BitVec 3) (page : BitVec 21) (ok : Bool) (s : State) : Host.Outcome State Fault Refusal :=
  match s.memu.march with
  | some r => occurs (r.mem = 10 && decide (r.row < s.marchTotal 10) && !page.getLsbD 0) s (s.marchGranule r sub.toNat page.toNat ok)
  | none => done s

/-- Every data page with a block in DRAM pages p and p + 1 of a sub-channel (R267). -/
def granulePages (sub p : Nat) : List Nat := ((granuleBlocks sub p).map fun b => pageOf b.2).dedup

/-- What Prosal does about the cells a march found bad, in hardware retirement mode (R253, R267). -/
def State.answerMarch (s : State) (r : MarchRun) : State :=
  if s.memu.hostRetire then s
  else r.failed.foldl (fun s f =>
    if r.mem = 10 then (granulePages f.1 f.2).foldl (fun s p => (s.retirePage p).1) s
    else
      let (s, sp, _) := s.repairRow r.mem r.bank f.1
      if sp.isSome then s else (s.retireBank r.mem r.bank).1) s

/-- MARCH_COMPLETE: BUSY falls, event 6, vector 30. -/
def State.endMarch (s : State) (r : MarchRun) : State :=
  let s := (((s.put SCB_MARCH_STATUS_BUSY 0).put SCB_MARCH_STATUS_PROGRESS 1000).onMemu fun m => { m with march := none }).pulse 6
  (s.irq 30).answerMarch r

def execMarchComplete (s : State) : Host.Outcome State Fault Refusal :=
  match s.memu.march with
  | some r => occurs (decide (s.marchTotal r.mem ≤ r.row)) s (s.endMarch r)
  | none => done s

/-! ## Scrubbing (R264, R265) -/

/-- First word and number of words of a memory 0 to 11: scratchpads, Depot, DRAM data memory, Ledger. -/
def State.scrubRange (s : State) (mem : Nat) : Nat × Nat :=
  if mem < 9 then (spmBase mem / 8, 0x80000)
  else if mem = 9 then (0x20000000 / 8, 0x300000)
  else if mem = 10 then (0x1000000000 / 8, (dramEnd (s.get LPD_CONFIG_RAW) - 0x1000000000) / 8)
  else (0x10000000 / 8, 0x100000)

/-- The enable bit of a memory, and its bit in SCB.STATUS.SLOW. -/
def scrubEn (mem : Nat) : Fld :=
  if mem < 9 then SCB_CTRL_SPM_EN else if mem = 9 then SCB_CTRL_DPT_EN else if mem = 10 then SCB_CTRL_LPD_EN else SCB_CTRL_LDG_EN
def scrubBit (mem : Nat) : Nat := if mem < 9 then 0 else mem - 8

/-- The host ranges that reach into a memory. -/
def State.hostRanges (s : State) (mem : Nat) : List ScrubRange :=
  let (f, n) := s.scrubRange mem
  (s.memu.ranges.map Prod.snd).filter fun r => decide (r.base < 8 * (f + n) ∧ 8 * f < r.base + r.len)

/-- The word the scrubber of a memory reads next, from word `k` on: in host mode the next one a host range covers. -/
def State.scrubNext (s : State) (mem k : Nat) : Nat :=
  let (f, n) := s.scrubRange mem
  if !s.flag SCB_CTRL_HOST then k
  else
    let a := 8 * (f + k)
    let rs := s.hostRanges mem
    if rs.any fun r => decide (r.base / 8 * 8 ≤ a ∧ a < r.base + r.len) then k
    else (rs.filter fun r => decide (a < r.base)).foldl (fun m r => min m (r.base / 8 - f)) n

/-- SCRUB_READ: the next word is read and any error treated; the words of a bank that does not serve are skipped. A corrected Ledger
word is rewritten. -/
def State.scrubRead (s : State) (mem : Nat) : State :=
  let (f, n) := s.scrubRange mem
  let k := s.scrubNext mem (Sparse.get (fun _ => 0) s.memu.scrubAt mem)
  if n ≤ k then s.onMemu fun m => { m with scrubAt := Sparse.set (fun _ => 0) m.scrubAt mem n }
  else
    let w := f + k
    let s := if s.busError (8 * w) false then s else (s.readCheck w { kind := 12 }).1
    let s := if mem = 11 ∧ s.errOf w = .correctable then s.setErr w .good else s
    s.onMemu fun m => { m with scrubAt := Sparse.set (fun _ => 0) m.scrubAt mem (k + 1) }

def execScrubRead (mem : Fin 12) (s : State) : Host.Outcome State Fault Refusal :=
  occurs (s.flag (scrubEn mem) && (mem ≠ 10 || s.flag LPD_CONFIG_TRAINED)) s (s.scrubRead mem)

/-- The period of a memory in ns: SCB.PERIOD, 24 h for the Ledger, or the shortest of its host ranges. -/
def State.scrubPeriod (s : State) (mem : Nat) : Nat :=
  if s.flag SCB_CTRL_HOST then (s.hostRanges mem).foldl (fun m r => min m (r.period * 1000000000)) (604800 * 1000000000)
  else if mem < 10 then s.get SCB_PERIOD_SRAM * 10000000
  else if mem = 10 then s.get SCB_PERIOD_DRAM * 3600000000000
  else 24 * 3600000000000

/-- SCRUB_PASS_COMPLETE: event 44, and SLOW after more than twice the period. -/
def State.endScrub (s : State) (mem : Nat) : State :=
  let began := Sparse.get (fun _ => 0) s.memu.scrubFrom mem
  let s := if began + 2 * s.scrubPeriod mem < s.time
    then s.put SCB_STATUS_SLOW (Nat.lor (s.get SCB_STATUS_SLOW) (2 ^ scrubBit mem)) else s
  (s.onMemu fun m => { m with scrubAt := Sparse.set (fun _ => 0) m.scrubAt mem 0
                              scrubFrom := Sparse.set (fun _ => 0) m.scrubFrom mem s.time }).pulse 44

def execScrubPassComplete (mem : Fin 12) (s : State) : Host.Outcome State Fault Refusal :=
  occurs (decide ((s.scrubRange mem).2 ≤ Sparse.get (fun _ => 0) s.memu.scrubAt mem)) s (s.endScrub mem)

/-! ## Triplicated control words (R254 to R256, R325) -/

/-- A write to a triplicated control word (R254): whether it is the third of a sequence. -/
def State.tcwStep (s : State) (m a : Nat) (v : Word) : State × Bool :=
  let k := slotOf a
  let fresh : TcwSeq := ⟨m, a, v, false, s.time⟩
  let keep (q : TcwSeq) (s : State) : State := s.onMemu fun u => { u with tcw := Sparse.put u.tcw k q }
  match (s.memu.tcw.find? fun e => e.1 = k).map Prod.snd with
  | none => (keep fresh s, false)
  | some q =>
    if q.master ≠ m ∨ q.addr ≠ a ∨ q.time + 1000 < s.time then (keep fresh s, false)
    else if !q.second then
      (if v = ~~~q.value then keep { q with second := true } s else keep fresh s, false)
    else if v = q.value then (s.onMemu fun u => { u with tcw := Sparse.drop u.tcw k }, true)
    else (keep fresh s, false)

/-- Another write to the block ends a sequence in progress (R254). -/
def State.tcwBroken (s : State) (a : Nat) : State := s.onMemu fun u => { u with tcw := Sparse.drop u.tcw (slotOf a) }

/-- Key of the row-repair entry SCB.REPAIR_SEL names. -/
def State.repairSel (s : State) : Nat :=
  repairKey (s.get SCB_REPAIR_SEL_MEMORY) (s.get SCB_REPAIR_SEL_BANK) (s.get SCB_REPAIR_SEL_SPARE)

/-- A write of SCB.REPAIR takes effect (R252): VALID = 1 has the engine copy the row, VALID = 0 frees the spare. -/
def State.writeRepair (s : State) (v : Word) : State :=
  if v.getLsbD 31 then s.startRowCopy s.repairSel (v.toNat % 1024)
  else (s.setRepairEntry s.repairSel {}).onMemu fun m => { m with rowCopy := m.rowCopy.filter fun x => x.1 ≠ s.repairSel }

/-- A write of LPD.REMAP(i) takes effect (R268): COPYING starts the copy; STATE 3 is invalid and changes nothing. -/
def State.writeRemap (s : State) (i : Nat) (v : Word) : State :=
  match v.toNat / 2 ^ 30 with
  | 1 => s.startPageCopy i (v.toNat % 2 ^ 23)
  | 3 => s
  | k => ((s.put (LPD_REMAP_STATE i) k).put (LPD_REMAP_PAGE i) (v.toNat % 2 ^ 23)).remapStatus

/-- A channel's configuration (R313, R325): a severity below SEV_MIN leaves SEV unchanged. -/
def State.writeChCfg (s : State) (n : Nat) (v : Word) : State :=
  let s := s.put (FCU_CH_CFG_RESET n) (v.toNat / 2 ^ 29 % 2)
  if s.sevMin n ≤ v.toNat % 8 then s.put (FCU_CH_CFG_SEV n) (v.toNat % 8) else s

/-- The three copies of the word at `a` take the value `v`. -/
def State.tcwApply (s : State) (a : Nat) (v : Word) : State :=
  let s := s.onMemu fun m => { m with split := m.split.filter (· ≠ a) }
  if a = SCB_REPAIR then s.writeRepair v
  else if a = LDG_LOCK then s.setReg LDG_LOCK (s.reg LDG_LOCK ||| (v &&& 7))
  else if LPD_REMAP 0 ≤ a ∧ a ≤ LPD_REMAP 255 then s.writeRemap ((a - LPD_REMAP 0) / 4) v
  else if FCU_CH_CFG 0 ≤ a ∧ a ≤ FCU_CH_CFG 319 then s.writeChCfg ((a - FCU_CH_CFG 0) / 4) v
  else if a = FCU_SAFE_CFG then
    (s.put FCU_SAFE_CFG_TDM_HIZ (v.toNat / 2 ^ 16 % 2)).putIf (decide (v.toNat % 1024 ≤ 1000)) FCU_SAFE_CFG_RESET_DELAY (v.toNat % 1024)
  else if a = FCU_GPIO_SAFE then s.setReg a v
  else s

/-- Whether a register is a triplicated control word. -/
def isTcw (a : Nat) : Bool :=
  match regAt a with
  | some (r, _) => r.rows.any fun f => f.acc = .tcw
  | none => false

/-- The stored word of a triplicated control word, for the register that selects it. -/
def State.setTcw (s : State) (a : Nat) (v : Word) : State :=
  if a = SCB_REPAIR then s.setRepairEntry s.repairSel { valid := v.getLsbD 31, row := v.toNat % 1024 }
  else (s.setReg a v).remapStatus

/-- The copies of a control word disagree (R255). -/
def State.tcwDisagree (s : State) (a : Nat) (c0 c1 c2 : Word) : State :=
  if c0 = c1 ∧ c1 = c2 then s
  else if c0 = c1 ∨ c0 = c2 then (s.setTcw a c0).drive 227 { addr := some a, reduced := true }
  else if c1 = c2 then (s.setTcw a c1).drive 227 { addr := some a, reduced := true }
  else
    ((s.setTcw a (if a = SCB_REPAIR then 0 else regReset a)).onMemu fun m => { m with
      split := if m.split.contains a then m.split else m.split ++ [a] }).drive 227 { addr := some a }

/-- TCW_MISMATCH: what the hardware finds in the three copies of the word at offset `a` of peripheral space. -/
def execTcwMismatch (a : BitVec 22) (c0 c1 c2 : Word) (s : State) : Host.Outcome State Fault Refusal :=
  occurs (isTcw (0x60000000 + a.toNat)) s (s.tcwDisagree (0x60000000 + a.toNat) c0 c1 c2)

/-! ## The fault log (R274, R320, R418) -/

/-- First byte of the log ring, and its entries. -/
def logBase : Nat := 0x640000
def logSize : Nat := 16384

/-- The 64 bytes of an entry without its CRC. -/
structure LogEntry where
  time : Nat
  addr : Nat
  channel : Nat
  master : Nat
  kind : Nat
  sev : Nat
  flags : Nat
  count : Nat
  last : Nat
  detail : List Byte
  deriving DecidableEq, Repr

def LogEntry.bytes (e : LogEntry) : List Byte :=
  let b := leBytes 8 e.time ++ leBytes 8 e.addr ++ leBytes 2 e.channel ++ leBytes 1 e.master ++ leBytes 1 e.kind ++
    leBytes 1 e.sev ++ leBytes 1 e.flags ++ leBytes 2 e.count ++ leBytes 8 e.last ++ (e.detail ++ List.replicate 28 0).take 28
  b ++ leBytes 4 (crc32c b).toNat

/-- The bytes of ring entry `i`. -/
def State.logBytes (s : State) (i : Nat) : List Byte := s.bytes (0x10000000 + logBase + 64 * (i % logSize)) 64

/-- Ring entry `i` as stored. -/
def State.logAt (s : State) (i : Nat) : LogEntry :=
  let b := s.logBytes i
  let f (o n : Nat) : Nat := leVal ((b.drop o).take n)
  { time := f 0 8, addr := f 8 8, channel := f 16 2, master := f 18 1, kind := f 19 1, sev := f 20 1, flags := f 21 1
    count := f 22 2, last := f 24 8, detail := (b.drop 32).take 28 }

/-- Write an entry at ring index `i`. -/
def State.putLog (s : State) (i : Nat) (e : LogEntry) : State × Bool :=
  s.putLedgers (logBase + 64 * (i % logSize)) (wordsOfBytes 8 e.bytes)

/-- Oldest unread index. -/
def State.logOldest (s : State) : Nat := (s.memu.logHead + logSize - s.memu.logUnread) % logSize

/-- Two entries of one kind merged (R274). -/
def LogEntry.merge (a b : LogEntry) : LogEntry :=
  { a with count := min 0xFFFF (a.count + b.count), last := b.last, flags := Nat.lor a.flags 4 }

/-- Entries of the same channel, master and 4 KiB address are merged, in the order of their first raise. -/
def mergeLog (es : List LogEntry) : List LogEntry :=
  es.foldl (fun acc e =>
    if acc.any fun x => x.channel = e.channel && x.master = e.master && x.addr / 4096 = e.addr / 4096 then
      acc.map fun x =>
        if x.channel = e.channel && x.master = e.master && x.addr / 4096 = e.addr / 4096 then x.merge e else x
    else acc ++ [e]) []

/-- Compaction of the unread entries (R274). -/
def State.compactLog (s : State) : State × Bool :=
  let o := s.logOldest
  let es := mergeLog ((List.range s.memu.logUnread).map fun i => s.logAt (o + i))
  let (s, ok) := es.zipIdx.foldl (fun (acc : State × Bool) x => if acc.2 then acc.1.putLog (o + x.2) x.1 else acc) (s, true)
  (s.onMemu fun m => { m with logHead := (o + es.length) % logSize, logKept := m.logKept - (m.logUnread - es.length), logUnread := es.length }, ok)

/-- Prosal logs an entry: beyond 1,000 in one second it is merged into the last one; over 12,288 unread entries compaction runs, unless
the host commands it (R274). -/
def State.appendLog (s : State) (e : LogEntry) : State :=
  let sec := s.time / 1000000000
  let n := if s.memu.logRate.1 = sec then s.memu.logRate.2 else 0
  if 1000 ≤ n then
    let i := s.memu.logHead + logSize - 1
    (s.putLog i { s.logAt i with count := min 0xFFFF ((s.logAt i).count + 1), last := e.time }).1
  else
    let s := (s.putLog s.memu.logHead e).1
    let s := s.onMemu fun m => { m with
      logHead := (m.logHead + 1) % logSize, logKept := min logSize (m.logKept + 1), logUnread := min logSize (m.logUnread + 1)
      logRate := (sec, n + 1) }
    if 12288 < s.memu.logUnread && !s.memu.hostCompact then s.compactLog.1 else s

/-- DETAIL of an entry (R418): what the source of a lane channel reported, else the lane as it stands, with no cause. -/
def State.detailOf (s : State) (e : QEntry) : List Byte :=
  match laneOfFc e.channel with
  | some p => if e.detail.isEmpty then (s.laneRaise p 0 (s.triad (p + 1)).pc 0).detail else e.detail
  | none => e.detail

/-- The entry Prosal writes for an entry of the raise queue (R418). -/
def State.logEntry (s : State) (e : QEntry) : LogEntry :=
  let t := e.time
  let r := e.info.getD {}
  let addr := r.addr.getD 0
  let poison := r.note = 2 && (e.channel = 219 || e.channel = 221 || decide (209 ≤ e.channel ∧ e.channel ≤ 217))
  { time := t, addr := addr, channel := e.channel, master := if e.info.isSome then r.master.toNat else 0xFF
    kind := if e.info.isSome then r.kind else 0, sev := e.sev
    flags := (if r.tagged then 1 else 0) + (if poison then 2 else 0) + (if e.info.isSome then 0 else 8)
    count := 1, last := t
    detail := s.detailOf e }

/-! ## Retirement in hardware mode (R267) -/

/-- Correctable errors in three different words of a data page within 24 h. -/
def State.pageWorn (s : State) (p : Nat) : Bool :=
  let now := s.time / 1000000
  let ws := (s.memu.ceSeen.filter fun e => decide (now < e.2 + 86400000) && pageOf (8 * e.1) = p && decide (0x1000000000 ≤ 8 * e.1)).map Prod.fst
  decide (3 ≤ ws.dedup.length)

/-- Repair the row of an SRAM address, or retire its bank when no spare row is left. -/
def State.repairAt (s : State) (mem bank a : Nat) : State :=
  let (s, sp, _) := s.repairRow mem bank (rowOf mem a)
  if sp.isSome then s else (s.retireBank mem bank).1

/-- What Prosal does about a raise it logs: nothing in host-assisted mode, for an injected error, or with no address. -/
def State.retirePolicy (s : State) (channel : Nat) (r : Raise) : State :=
  match r.addr with
  | none => s
  | some a =>
    if s.memu.hostRetire || r.tagged then s
    else if channel = 221 then (s.retirePage (pageOf a)).1
    else if channel = 220 then (if r.note = 1 || s.pageWorn (pageOf a) then (s.retirePage (pageOf a)).1 else s)
    else match bankOf (s.region a) a with
      | some (mem, bank) =>
        if channel = 219 || decide (209 ≤ channel ∧ channel ≤ 217) then s.repairAt mem bank a
        else if (channel = 218 || decide (200 ≤ channel ∧ channel ≤ 208)) && r.note = 1 then s.repairAt mem bank a
        else s
      | none => s

/-- Prosal logs an entry of the raise queue and acts on it; an INTERRUPT-class raise sets host vector 24 (R404). -/
def State.prosalLogs (s : State) (e : QEntry) : State :=
  let s := s.appendLog (s.logEntry e)
  let s := if 2 ≤ e.sev then s.irq 24 else s
  match e.info with
  | some r => s.retirePolicy e.channel r
  | none => s

/-- A read of FCU.QUEUE (R320): the word, and the oldest entry removed. -/
def State.queueWord (s : State) : Word :=
  match s.fcu.queue with
  | [] => 0
  | e :: _ => BitVec.ofNat 32 (2 ^ 31 + e.sev * 2 ^ 25 + e.channel * 2 ^ 16 + e.timeUs.toNat)

def State.popQueue (s : State) : State := { s with fcu := { s.fcu with queue := s.fcu.queue.drop 1 } }

/-- QUEUE_READ (R320): the supervisor's read removes the entry, which Prosal logs. -/
def State.queueRead (s : State) : State :=
  match s.fcu.queue with
  | [] => s
  | e :: _ => s.popQueue.prosalLogs e

/-- What a read of FCU.QUEUE leaves: an entry the supervisor reads is logged. -/
def State.queueReadBy (s : State) (m lvl : Nat) : State := if bySupervisor m lvl then s.queueRead else s.popQueue

def execQueueRead (m : BitVec 8) (lvl : BitVec 2) (bad : LedgerBad) (s : State) : Host.Outcome State Fault Refusal :=
  access s ((s.wear bad).queueReadBy m.toNat lvl.toNat)

end Sys2Proof.Machine
end

