-- ==== Sys2Proof/Machine/Access.lean ====
section
/-! DEFINITION. Machine/Access.lean: loads and stores of a triad in normal regions, checked whole before any byte moves
(R80 to R94, R108, R109, R165, R166, R282 to R289). -/
namespace Sys2Proof.Machine

/-- The issuer's raise of an access kind (R318). -/
def raiseOf (u : Issuer) (kind : Nat) : Raise := { master := BitVec.ofNat 8 u.master, kind := kind }

/-- The exception a check's refusal becomes on a triad (R289): its own rules' refusal TOLLGATE_LOAD or TOLLGATE_STORE, a
lock's BUS_ERROR; the refusal is counted and raised. -/
def State.refused (s : State) (u : Issuer) (kind : Nat) (store vec : Bool) (c : Check) : Option (Exc × State) :=
  match c with
  | .ok => none
  | .own a => some (⟨if store then 0x07 else 0x06, BitVec.ofNat 64 a, vec, 0⟩, s.refuse u kind c)
  | .lock a => some (⟨0x0C, BitVec.ofNat 64 a, vec, 0⟩, s.refuse u kind c)

/-- The lane whose slip road an issuer's accesses take: a triad's or its vector unit's. -/
def Issuer.lane (u : Issuer) : Nat := u.unit - 1

/-- Where the issuer's access at `a` is performed (R165). -/
def State.place (s : State) (u : Issuer) (a : Nat) : Nat :=
  if 1 ≤ u.unit ∧ u.unit ≤ 18 then s.redirect u.lane a else a

/-- A word an issuer reads (R248): a lane's may come from a copy through the slip road (R166). -/
def State.issuerWord (s : State) (u : Issuer) (r : Raise) (w : Nat) : State × Option (List Byte) :=
  if 1 ≤ u.unit ∧ u.unit ≤ 18 then s.roadWord u.lane r w else s.readWord r w

/-- What a read of words answers: the state, the bytes of the words before the first that fails, and its cause and number. -/
structure WordsRead where
  s : State
  bytes : List Byte
  bad : Option (Nat × Nat)

/-- The words of an access that checked, read in ascending order: the target's error response is met before the word's own check
(R109, R248, R250, R475). -/
def State.readEach (s : State) (u : Issuer) (r : Raise) : List Nat → WordsRead
  | [] => ⟨s, [], none⟩
  | w :: ws =>
    if s.busError (s.place u (8 * w)) false then ⟨s, [], some (0x0C, w)⟩
    else match s.issuerWord u r w with
      | (s1, none) => ⟨s1, [], some (0x0A, w)⟩
      | (s1, some b) => let x := s1.readEach u r ws; ⟨x.s, b ++ x.bytes, x.bad⟩

/-- The exception a word's cause becomes for an access that starts at `a`: EVAL is the failing word, or for a bus error the first byte
of the access in it (R90, R108). -/
def wordExc (vec : Bool) (a : Nat) (c : Nat × Nat) : Exc :=
  ⟨c.1, BitVec.ofNat 64 (if c.1 = 0x0C then max a (8 * c.2) else 8 * c.2), vec, 0⟩

/-- Read `n` bytes of a normal region for a triad: checks, then the bytes (R90, R108). `k` is the permission asked for,
`kind` the access type of R318. -/
def State.loadBytes (s : State) (u : Issuer) (a n : Nat) (k : AccKind) (kind : Nat) (vec : Bool) :
    Except (Exc × State) (State × List Byte) :=
  match s.refused u kind false vec (s.check u a n k) with
  | some e => .error e
  | none =>
    let x := s.readEach u (raiseOf u kind) (wordsOf a n)
    match x.bad with
    | some c => .error (wordExc vec a c, x.s)
    | none => .ok (x.s, (x.bytes.drop (a % 8)).take n)

/-- Write the bytes of an access already checked, word by word; a Layby lane's first write to a home granule diverts it
(R165). A word that fails, with its cause, leaves the words below written (R90, R94). -/
def State.putWords (s : State) (u : Issuer) (r : Raise) : Nat → Nat → List Byte → State × Option (Nat × Nat)
  | 0, _, _ => (s, none)
  | fuel + 1, a, bs =>
    if bs.isEmpty then (s, none)
    else if s.busError (s.place u a) true then (s, some (0x0C, a / 8))
    else
      let k := 8 - a % 8
      let (s0, room) := if 1 ≤ u.unit ∧ u.unit ≤ 18 then s.divertGranule u.lane a else (s, true)
      if !room then
        (s0.laneFail u.lane, none)
      else
        let (s1, ok) := s0.storeWord (s0.place u a) (bs.take k) r
        if ok then s1.putWords u r fuel (a + k) (bs.drop k) else (s1, some (0x0B, a / 8))

/-- Write bytes to a normal region for a triad (R90, R108). -/
def State.storeAt (s : State) (u : Issuer) (a : Nat) (bs : List Byte) (k : AccKind) (kind : Nat) (vec : Bool) : Res :=
  match s.refused u kind true vec (s.check u a bs.length k) with
  | some e => .error e
  | none =>
    match s.putWords u (raiseOf u kind) (bs.length + 1) a bs with
    | (s1, some c) => .error (wordExc vec a c, s1)
    | (s1, none) => .ok s1

end Sys2Proof.Machine
end

