-- ==== Sys2Proof/Machine/MvrRegs.lean ====
section
/-! DEFINITION. Machine/MvrRegs.lean: the registers of the data movers: configuration, GO, RESUME, ABORT (R297, R299, R301, R302, R304). -/
namespace Sys2Proof.Machine

/-- Channel `c` of mover `k`: its key. -/
def chanKey (k c : Nat) : Nat := 64 * k + c

def State.chan (s : State) (k c : Nat) : Chan := Sparse.get (fun _ => {}) s.chans (chanKey k c)

def State.setChan (s : State) (k c : Nat) (x : Chan) : State :=
  { s with chans := Sparse.set (fun _ => {}) s.chans (chanKey k c) x }

/-- CH_DESC as an address. -/
def State.chDesc (s : State) (k c : Nat) : Nat := s.get (MVR_CH_DESC_HI_ADDR k c) * 2 ^ 32 + s.get (MVR_CH_DESC_LO_ADDR k c) * 32

/-- Set CH_DESC. -/
def State.setChDesc (s : State) (k c a : Nat) : State :=
  (s.put (MVR_CH_DESC_LO_ADDR k c) (a / 32 % 2 ^ 27)).put (MVR_CH_DESC_HI_ADDR k c) (a / 2 ^ 32 % 256)

/-- The mover's refusal counts at its own unit (R278, R289). -/
def State.refuseMover (s : State) (k : Nat) (u : Issuer) (kind : Nat) (c : Check) : State := s.refuseIn (19 + k) u kind c

/-- The code of a refused access (R301). -/
def Check.moverCode : Check → Nat
  | .ok => 0
  | .own _ => 0x11
  | .lock _ => 0x12

/-- Write the completion code to the STATUS of the descriptor at `d`, when the write is permitted; else the code of its failure. -/
def State.writeDescStatus (s : State) (k c d code : Nat) : State × Nat :=
  let u := s.moverIssuer k c
  let a := d + 0x16
  match s.check u a 2 .store with
  | .ok =>
    if isDevice a || s.busError a true then (s, 0x14)
    else
      let (s1, ok) := s.storeWord a (leBytes 2 code) (raiseOf u 9)
      (s1, if ok then 0 else 0x10)
  | r => (s.refuseMover k u 9 r, r.moverCode)

/-- A halt (R301): the failing address, what remains, the descriptor, the code; the halt channel and the event. -/
def State.haltChan (s : State) (k c code fault : Nat) : State :=
  let x := s.chan k c
  let s := (s.setReg (MVR_CH_FAULT_LO k c) (BitVec.ofNat 32 fault)).setReg (MVR_CH_FAULT_HI k c) (BitVec.ofNat 32 (fault / 2 ^ 32 % 256))
  let s := (s.setReg (MVR_CH_REMAIN k c) (BitVec.ofNat 32 ((x.len - x.done) % 2 ^ 24))).setChDesc k c x.desc
  let s := ((s.put (MVR_CH_STATUS_CODE k c) code).put (MVR_CH_STATUS_STATE k c) 2).bump (MVR_STATUS_HALTS k)
  let s := (s.writeDescStatus k c x.desc code).1
  (s.drive (243 + k) { master := BitVec.ofNat 8 (0x50 + k), kind := 8, addr := some fault, note := code }).pulse (64 + 64 * k + c)

/-- Who controls a channel (R302, R304). -/
def State.chanWriter (s : State) (m lvl k c : Nat) : Bool :=
  bySupervisor m lvl || (m = s.get (MVR_CH_CFG_OWNER k c) && decide (1 ≤ lvl))

/-- GO to an enabled idle channel (R299). -/
def State.chanGo (s : State) (k c : Nat) : State :=
  if s.get (MVR_CH_STATUS_STATE k c) = 0 ∧ s.flag (MVR_CH_CFG_EN k c) = true then
    (s.setChan k c { desc := s.chDesc k c }).put (MVR_CH_STATUS_STATE k c) 1
  else s

/-- RESUME of a halted channel, at the start of the failing burst (R302). -/
def State.chanResume (s : State) (k c : Nat) : State :=
  if s.get (MVR_CH_STATUS_STATE k c) = 2 then s.put (MVR_CH_STATUS_STATE k c) 1 else s

/-- ABORT (R302): at the burst boundary it stands at, the current descriptor's STATUS is ABORTED and the channel is idle. -/
def State.chanAbort (s : State) (k c : Nat) : State :=
  if s.get (MVR_CH_STATUS_STATE k c) = 0 then s
  else
    let s := (s.writeDescStatus k c (s.chan k c).desc 0x16).1
    ((s.put (MVR_CH_STATUS_CODE k c) 0x16).put (MVR_CH_STATUS_STATE k c) 0).setChan k c {}

/-- A write to CH_CTRL (R299, R302). -/
def State.writeChCtrl (s : State) (m lvl k c : Nat) (v : Word) : State :=
  if !s.chanWriter m lvl k c then s
  else
    let s := if v.getLsbD 0 then s.chanGo k c else s
    let s := if v.getLsbD 1 then s.chanResume k c else s
    if v.getLsbD 2 then s.chanAbort k c else s

/-- A write to the MVR block at a physical address (R304). -/
def State.writeMvr (s : State) (m lvl a : Nat) (v : Word) : State :=
  let k := (a - MVR_STATUS 0) / 0x4000
  let r := (a - MVR_STATUS 0) % 0x4000
  let c := (r - 0x800) / 0x20
  if 0x800 ≤ r ∧ r < 0x1000 ∧ k < 4 then
    match r % 0x20 with
    | 0x0C => s.writeChCtrl m lvl k c v
    | 0x04 => if s.chanWriter m lvl k c && s.get (MVR_CH_STATUS_STATE k c) ≠ 1 then s.writePlain lvl a v else s
    | 0x08 => if s.chanWriter m lvl k c && s.get (MVR_CH_STATUS_STATE k c) ≠ 1 then s.writePlain lvl a v else s
    | _ => if bySupervisor m lvl then s.writePlain lvl a v else s
  else if bySupervisor m lvl then s.writePlain lvl a v
  else s

/-- A row that writes CH_CTRL: channel `c` of mover `k`. -/
def execMoverGo (m : BitVec 8) (lvl : BitVec 2) (k : Fin 4) (c : BitVec 6) (s : State) : Host.Outcome State Fault Refusal :=
  access s (s.writeChCtrl m.toNat lvl.toNat k c.toNat 1)

def execMoverResume (m : BitVec 8) (lvl : BitVec 2) (k : Fin 4) (c : BitVec 6) (s : State) : Host.Outcome State Fault Refusal :=
  access s (s.writeChCtrl m.toNat lvl.toNat k c.toNat 2)

def execMoverAbort (m : BitVec 8) (lvl : BitVec 2) (k : Fin 4) (c : BitVec 6) (s : State) : Host.Outcome State Fault Refusal :=
  access s (s.writeChCtrl m.toNat lvl.toNat k c.toNat 4)

end Sys2Proof.Machine
end

