-- ==== Sys2Proof/Machine/Device.lean ====
section
/-! DEFINITION. Machine/Device.lean: a read or a write of peripheral space and of the Junction buffer window, by any master (R8 to R10, R68,
R185, R277, R304, R325, R326, R341, R367, R400, R436, R448, R452, R475 to R477). -/
namespace Sys2Proof.Machine

/-! ## What a register reads as -/

/-- Registers that mirror other state: EVR.PEND(10) to (19) (R308), FCU.QUEUE (R320), MSW.TICKS and MSW.KEY (R327, R332), DBG.STATUS (R441,
R452), SCB.REPAIR (R252), TG.CTRL(u).SET of a triad's unit (R304), MCK.STATUS.HOLD_S (R240), NPE.STATUS (R225), MVR.STATUS.ACTIVE (R304). -/
def State.mirrored (s : State) (m lvl a : Nat) : Option Word :=
  if EVR_PEND 10 ≤ a ∧ a < EVR_PEND 20 then
    let w := (a - EVR_PEND 10) / 4
    some (BitVec.ofNat 32 ((List.range 32).foldl (fun acc i => if s.flag (FCU_CH_STATUS_PEND (32 * w + i)) then acc + 2 ^ i else acc) 0))
  else if a = FCU_QUEUE then some s.queueWord
  else if a = MSW_TICKS then some (BitVec.ofNat 32 s.ticks)
  else if a = MSW_KEY then some (if bySupervisor m lvl then s.reg MSW_KEY else 0)
  else if a = DBG_STATUS then
    let left := (s.bkp.lockUntil - s.get64 SEN_TIME_LO + 32767) / 32768
    let v := (DBG_STATUS_LOCK_S.write (s.reg a) (satCount 16 left))
    some (DBG_STATUS_DEBUG_OFF.write (DBG_STATUS_FAILS.write v (satCount 8 s.bkp.fails)) (if s.option0 3 then 1 else 0))
  else if a = SCB_REPAIR then
    let e := s.repairEntry s.repairSel
    some (BitVec.ofNat 32 ((if e.valid then 2 ^ 31 else 0) + e.row % 1024))
  else if TG_CTRL 0 ≤ a ∧ a < TG_CTRL 28 ∧ (a - TG_CTRL 0) % 0x800 = 0 then
    let u := (a - TG_CTRL 0) / 0x800
    if u ≤ 18 then some ((TG_CTRL_SET u).write 0 ((s.triad u).tgset.toNat % 4))
    else if u < 23 then some 0
    else none
  else if a = MCK_STATUS then
    match s.clk.holdAt with
    | some t => if s.get MCK_STATUS_STATE = 4 then some (MCK_STATUS_HOLD_S.write (s.reg a) (satCount 16 ((s.time - t) / 1000000000))) else none
    | none => none
  else if a = NPE_STATUS then
    some (NPE_STATUS_TX_ACTIVE.write (NPE_STATUS_RX_ACTIVE.write 0 s.net.rx.length) s.net.tx.length)
  else if MVR_STATUS 0 ≤ a ∧ a ≤ MVR_STATUS 3 ∧ (a - MVR_STATUS 0) % 0x4000 = 0 then
    let k := (a - MVR_STATUS 0) / 0x4000
    some ((MVR_STATUS_ACTIVE k).write (s.reg a) ((List.range 64).filter fun c => s.get (MVR_CH_STATUS_STATE k c) = 1).length)
  else none

/-- The _LO registers whose reading captures the matching _HI register (R68, R325, R367, R400). -/
def capturesHi (a : Nat) : Bool :=
  a = BSQ_BLOCK_LO || a = BSQ_PRESET_LO || a = BSQ_SWITCH_LO || a = BSQ_BOUNDARY_LO || a = SEN_TIME_LO || a = SEN_ALARM_LO ||
    a = SEN_FIRST_ADDR_LO || a = SEN_FIRST_TIME_LO || a = FCU_FIRST_TIME_LO || a = SOV_TAKE_LO || a = SOV_JOIN_LO ||
    (decide (SEN_OPTION_LO 0 ≤ a ∧ a ≤ SEN_OPTION_LO 191) && (a - SEN_OPTION_LO 0) % 8 = 0)

/-- What a read of the word at `a` of a device region returns to master `m` at a level. -/
def State.devWord (s : State) (m lvl a : Nat) : Word :=
  if 0x80000000 ≤ a then s.windowRead ((a - 0x80000000) / 4)
  else if 0x60140000 ≤ a ∧ a < 0x60142000 then BitVec.ofNat 32 (s.le a 4)
  else if 0x6014E000 ≤ a ∧ a < 0x60150000 then s.readMsix (a - 0x60140000)
  else if capturesHi (a - 4) ∧ (s.cap.any fun e => e.1 = a) then Sparse.get (fun _ => 0) s.cap a
  else match s.mirrored m lvl a with
    | some v => v
    | none => if s.memu.split.contains a then 0 else s.reg a

/-- What a read of the word at `a` leaves: a _LO register captures its _HI, FCU.QUEUE gives up its entry. -/
def State.devRead (s : State) (m lvl a : Nat) : State × Word :=
  let v := s.devWord m lvl a
  if capturesHi a then ({ s with cap := Sparse.put s.cap (a + 4) (s.reg (a + 4)) }, v)
  else if a = FCU_QUEUE then (s.queueReadBy m lvl, v)
  else (s, v)

/-! ## What a write does -/

/-- A write to the SEN block (R358, R367): clearing LOST makes backup time valid again, while its clock runs. -/
def State.writeSen (s : State) (lvl a : Nat) (v : Word) : State :=
  let t := s.writePlain lvl a v
  if a = SEN_BKP_STATUS && v.getLsbD 1 && s.flag SEN_BKP_STATUS_LOST && !s.bkp.stopped then t.put SEN_BKP_STATUS_TIME_VALID 1 else t

/-- A write to the PWR block beyond PWR.CMD: PIN values 5 to 7 are not used, and leave the field unchanged (DESIGN CHOICE). -/
def State.writePwr (s : State) (lvl a : Nat) (v : Word) : State :=
  if PWR_CLUSTER 0 ≤ a ∧ 4 < v.toNat / 256 % 8 then s else s.writePlain lvl a v

/-- A write to the SCB block (R251, R264, R277): a period out of its range keeps its value (DESIGN CHOICE). -/
def State.writeScb (s : State) (m lvl a : Nat) (v : Word) : State :=
  if a = SCB_MARCH then s.writeMarch m lvl v
  else if a = SCB_PERIOD then
    let h := v.toNat / 2 ^ 16 % 2 ^ 13
    let d := v.toNat % 256
    (s.putIf (decide (1 ≤ h ∧ h ≤ 6000)) SCB_PERIOD_SRAM h).putIf (decide (1 ≤ d ∧ d ≤ 168)) SCB_PERIOD_DRAM d
  else s.writePlain lvl a v

/-- A write to an SPM or DPT power register asks for 16 banks' states (R249). -/
def State.writeSpm (s : State) (lvl a : Nat) (v : Word) : State :=
  let n := (a - SPM_PWR_LO 0) / 0x20
  if 9 ≤ n then s
  else if a = SPM_PWR_LO n then s.writeBankPwr n 0 v
  else if a = SPM_PWR_HI n then s.writeBankPwr n 16 v
  else s.writePlain lvl a v

def State.writeDpt (s : State) (lvl a : Nat) (v : Word) : State :=
  if a ≤ DPT_PWR 5 then s.writeBankPwr 9 (16 * ((a - DPT_PWR 0) / 4)) v else s.writePlain lvl a v

/-- A write to NPE.JBUF (R209, R225): SIZE over 256 keeps its value (R8). A region that would leave Depot, overlap the firmware area or the
Depot space of an image, or no longer hold the buffer of a stream is not taken (DESIGN CHOICE: R209 says it must not overlap, and names no
effect). -/
def State.writeJbuf (s : State) (lvl : Nat) (v : Word) : State :=
  let size := if 256 < v.toNat / 0x10000 then s.get NPE_JBUF_SIZE else v.toNat / 0x10000
  let (lo, len) := (v.toNat % 0x10000 * 0x10000, size * 0x10000)
  let images := s.eng.running.toList ++ s.eng.old.toList ++ s.eng.pending.toList
  let clear := ((0x17C0000, 0x40000) :: images.flatMap Image.held).all fun c => decide (c.2 = 0 ∨ lo + len ≤ c.1 ∨ c.1 + c.2 ≤ lo)
  let whole := s.net.rx.all fun e => decide (e.2.base + jitterBytes e.2.channels e.2.depthLog ≤ len)
  if (len = 0 || decide (lo + len ≤ 0x1800000) && clear) && whole then
    (s.writePlain lvl NPE_JBUF (BitVec.ofNat 32 (size * 0x10000 + v.toNat % 0x10000))).keepWindow
  else s

/-- A write to an NP block (R202, R225): speed 3 is not used, and leaves SPEED unchanged (DESIGN CHOICE); a change of speed drops the link. -/
def State.writeNp (s : State) (lvl a : Nat) (v : Word) : State :=
  let k := slotOf a - 24
  if a = NP_CTRL k then
    let sp := s.get (NP_CTRL_SPEED k)
    let s := s.writePlain lvl a (if v.toNat % 4 = 3 then (v &&& ~~~3) ||| BitVec.ofNat 32 sp else v)
    let s := if s.get (NP_CTRL_SPEED k) = sp then s
      else ((s.put (NP_STATUS_LINK k) 0).put (NP_STATUS_BLOCK_LOCK k) 0).put (NP_STATUS_FEC_ALIGN k) 0
    s.ptpEnable k
  else s.writePlain lvl a v

/-- A write to the MCK block (R231, R240). -/
def State.writeMck (s : State) (m lvl a : Nat) (v : Word) : State :=
  if a = MCK_CTRL then s.writeMckCtrl m lvl v
  else if a = MCK_HOST_FREQ then s.writeHostFreq m lvl v
  else if a = MCK_HOST_PHASE then s.writeHostPhase m lvl v
  else if a = MCK_PTP_CFG then s.writePtpCfg m lvl v
  else s.writePlain lvl a v

/-- A write to the BSQ block (R17, R67, R68). -/
def State.writeBsq (s : State) (m lvl a : Nat) (v : Word) : State :=
  if a = BSQ_CTRL then s.writeBsqCtrl m lvl v
  else if a = BSQ_SWITCH_STATE then s.writeSwitchState m lvl v
  else s.writePlain lvl a v

/-- A write to the WMK block (R341). -/
def State.writeWmk (s : State) (m lvl a : Nat) (v : Word) : State :=
  let p := (a - WMK_WINDOW 0) / 0x1000
  if WMK_WINDOW 0 ≤ a ∧ p < 18 ∧ a = WMK_WINDOW p then s.writeWindow m lvl p v
  else if WMK_SUP_CFG 0 ≤ a ∧ a < WMK_SUP_CFG 16 then
    (if a % 8 = 0 then s.writeSupCfg m lvl ((a - WMK_SUP_CFG 0) / 8) v else s.writeSupCheckin m lvl ((a - WMK_SUP_CFG 0) / 8) v)
  else if bySupervisor m lvl then s.writePlain lvl a v
  else s

/-- A write to a block that accepts writes from the supervisor triad at Roadbed alone. -/
def State.writeOwn (s : State) (m lvl a : Nat) (v : Word) : State :=
  match slotOf a with
  | 0 => s.writeSen lvl a v
  | 1 => if a = RST_REQ then s.resetRequest m lvl v else s.writePlain lvl a v
  | 2 => if a = PWR_CMD then s.powerCommand m lvl v else s.writePwr lvl a v
  | 11 => if a = LDG_CMD then s.writeLdgCmd m lvl v else s.writePlain lvl a v
  | 12 => s.writeSpm lvl a v
  | 13 => s.writeDpt lvl a v
  | 15 => s.writeScb m lvl a v
  | 16 => s.writeBsq m lvl a v
  | 19 => if a = EXP_MOVE then s.writeExpMove m lvl v else s.writePlain lvl a v
  | 21 => if a = SOV_CTRL then s.writeSovCtrl v else s.writePlain lvl a v
  | 22 => s.writeMck m lvl a v
  | 23 => if a = NPE_JBUF then s.writeJbuf lvl v else s.writePlain lvl a v
  | 24 => s.writeNp lvl a v
  | 25 => s.writeNp lvl a v
  | 26 => s.writeNp lvl a v
  | 27 => s.writeNp lvl a v
  | k => if 32 ≤ k ∧ k < 48 ∧ a = TDM_FORMAT (k - 32) then s.writeTdmFormat (k - 32) m lvl v else s.writePlain lvl a v

/-- A 32-bit write to the register at `a`, not a triplicated control word. -/
def State.writeReg (s : State) (m lvl a : Nat) (v : Word) : State :=
  match slotOf a with
  | 3 => s.mswWrite m lvl (a - MSW_CTRL) false v
  | 4 => s.writeFcu m lvl a v
  | 5 => s.writeEvr m lvl a v
  | 6 => s.writeWmk m lvl a v
  | 7 => s.writeWmk m lvl a v
  | 8 => s.writeTg m lvl a v
  | 9 => s.writeDbg m lvl a v
  | 10 => s.writeRwk m lvl a v
  | 17 => s.writeMvr m lvl a v
  | 20 => s.writeMbx m lvl a v
  | _ => if bySupervisor m lvl then s.writeOwn m lvl a v else s

/-- A 32-bit write to a triplicated control word (R254): the third of a sequence by the supervisor at Roadbed takes effect. -/
def State.writeTcw (s : State) (m lvl a : Nat) (v : Word) : State :=
  if bySupervisor m lvl then
    let r := s.tcwStep m a v
    if r.2 then r.1.tcwApply a v else r.1
  else s.tcwBroken a

/-- A 32-bit write to a device region. -/
def State.devWrite (s : State) (m lvl a : Nat) (v : Word) : State :=
  if 0x80000000 ≤ a then s
  else if 0x60140000 ≤ a ∧ a < 0x60142000 then s.writeMboxRam m lvl a (leBytes 4 v.toNat)
  else if isTcw a then s.writeTcw m lvl a v
  else (s.tcwBroken a).writeReg m lvl a v

/-- A write narrower than 32 bits (R477): the mailbox RAM takes the bytes, MSW.TOKEN judges it (R328), every other register ignores it. -/
def State.devNarrow (s : State) (m lvl a : Nat) (bs : List Byte) : State :=
  if 0x60140000 ≤ a ∧ a < 0x60142000 then s.writeMboxRam m lvl a bs
  else if a / 4 * 4 = MSW_TOKEN then s.mswWrite m lvl 0x1C true (BitVec.ofNat 32 (leVal bs))
  else s

/-! ## Accesses by bytes -/

/-- A write of bytes at ascending addresses: aligned groups of four are 32-bit writes, the rest narrow ones (R477). `fuel` bounds the groups. -/
def State.devStore (s : State) (m lvl : Nat) : Nat → Nat → List Byte → State
  | 0, _, _ => s
  | fuel + 1, a, bs =>
    if bs.isEmpty then s
    else
      let k := 4 - a % 4
      let b := bs.take k
      let s := if b.length = 4 then s.devWrite m lvl a (BitVec.ofNat 32 (leVal b)) else s.devNarrow m lvl a b
      s.devStore m lvl fuel (a + k) (bs.drop k)

/-- A read of `n` bytes at ascending addresses, each word read once (R477). -/
def State.devLoad (s : State) (m lvl : Nat) : Nat → Nat → Nat → State × List Byte
  | 0, _, _ => (s, [])
  | fuel + 1, a, n =>
    if n = 0 then (s, [])
    else
      let k := min n (4 - a % 4)
      let (s1, w) := s.devRead m lvl (a / 4 * 4)
      let (s2, bs) := s1.devLoad m lvl fuel (a + k) (n - k)
      (s2, ((leBytes 4 w.toNat).drop (a % 4)).take k ++ bs)

/-! ## The rows -/

/-- REGISTER_WRITE: a 32-bit write by master `m` at a level to the register at offset `a` of peripheral space, which its Tollgate has
permitted. -/
def execRegisterWrite (m : BitVec 8) (lvl : BitVec 2) (a : BitVec 22) (v : Word) (s : State) : Host.Outcome State Fault Refusal :=
  access s (s.devWrite m.toNat lvl.toNat (0x60000000 + a.toNat / 4 * 4) v)

/-- TCW_WRITE: a write to a triplicated control word. -/
def execTcwWrite (m : BitVec 8) (lvl : BitVec 2) (a : BitVec 22) (v : Word) (s : State) : Host.Outcome State Fault Refusal :=
  let p := 0x60000000 + a.toNat / 4 * 4
  occurs (s.live && isTcw p) s (s.writeTcw m.toNat lvl.toNat p v)

end Sys2Proof.Machine
end

