-- ==== Sys2Proof/Machine/Scalar.lean ====
section
/-! DEFINITION. Machine/Scalar.lean: the integer, multiply, divide, bit, immediate, branch and jump instructions of R77
and R78. x is g[rs1], y is g[rs2]; W forms work on bits 31..0 and sign-extend a 32-bit result. -/
namespace Sys2Proof.Machine

/-- Sign-extend a 32-bit result (R77). -/
def sxW (v : BitVec 32) : DWord := v.signExtend 64
/-- Bits 31..0. -/
def lowW (v : DWord) : BitVec 32 := v.setWidth 32
/-- A truth value as 1 or 0. -/
def bit01 (b : Bool) : DWord := if b then 1 else 0

/-- An R-format instruction that computes from x and y. -/
def aluR (t : TriadId) (rd rs1 rs2 : Reg) (f : DWord → DWord → DWord) (s : State) : Host.Outcome State Fault Refusal :=
  instrG t rd (fun s _ => f (s.gx t rs1) (s.gx t rs2)) s

/-- An instruction that computes from x alone. -/
def alu1 (t : TriadId) (rd rs1 : Reg) (f : DWord → DWord) (s : State) : Host.Outcome State Fault Refusal :=
  instrG t rd (fun s _ => f (s.gx t rs1)) s

/-! ## Integer ALU -/

def execAdd (t : TriadId) (rd rs1 rs2 : Reg) (s : State) := aluR t rd rs1 rs2 (fun x y => x + y) s
def execSub (t : TriadId) (rd rs1 rs2 : Reg) (s : State) := aluR t rd rs1 rs2 (fun x y => x - y) s
def execAndCmd (t : TriadId) (rd rs1 rs2 : Reg) (s : State) := aluR t rd rs1 rs2 (fun x y => x &&& y) s
def execOrCmd (t : TriadId) (rd rs1 rs2 : Reg) (s : State) := aluR t rd rs1 rs2 (fun x y => x ||| y) s
def execXorCmd (t : TriadId) (rd rs1 rs2 : Reg) (s : State) := aluR t rd rs1 rs2 (fun x y => x ^^^ y) s
/-- Shifts take y[5:0]. -/
def execShl (t : TriadId) (rd rs1 rs2 : Reg) (s : State) := aluR t rd rs1 rs2 (fun x y => x <<< (y.toNat % 64)) s
def execShr (t : TriadId) (rd rs1 rs2 : Reg) (s : State) := aluR t rd rs1 rs2 (fun x y => x >>> (y.toNat % 64)) s
def execSar (t : TriadId) (rd rs1 rs2 : Reg) (s : State) := aluR t rd rs1 rs2 (fun x y => x.sshiftRight (y.toNat % 64)) s
def execSetlt (t : TriadId) (rd rs1 rs2 : Reg) (s : State) := aluR t rd rs1 rs2 (fun x y => bit01 (x.slt y)) s
def execSetltU (t : TriadId) (rd rs1 rs2 : Reg) (s : State) := aluR t rd rs1 rs2 (fun x y => bit01 (x.ult y)) s
def execMinCmd (t : TriadId) (rd rs1 rs2 : Reg) (s : State) := aluR t rd rs1 rs2 (fun x y => if x.slt y then x else y) s
def execMaxCmd (t : TriadId) (rd rs1 rs2 : Reg) (s : State) := aluR t rd rs1 rs2 (fun x y => if x.slt y then y else x) s
def execMinU (t : TriadId) (rd rs1 rs2 : Reg) (s : State) := aluR t rd rs1 rs2 (fun x y => if x.ult y then x else y) s
def execMaxU (t : TriadId) (rd rs1 rs2 : Reg) (s : State) := aluR t rd rs1 rs2 (fun x y => if x.ult y then y else x) s
def execAddW (t : TriadId) (rd rs1 rs2 : Reg) (s : State) := aluR t rd rs1 rs2 (fun x y => sxW (lowW x + lowW y)) s
def execSubW (t : TriadId) (rd rs1 rs2 : Reg) (s : State) := aluR t rd rs1 rs2 (fun x y => sxW (lowW x - lowW y)) s
/-- W shifts take y[4:0]. -/
def execShlW (t : TriadId) (rd rs1 rs2 : Reg) (s : State) := aluR t rd rs1 rs2 (fun x y => sxW (lowW x <<< (y.toNat % 32))) s
def execShrW (t : TriadId) (rd rs1 rs2 : Reg) (s : State) := aluR t rd rs1 rs2 (fun x y => sxW (lowW x >>> (y.toNat % 32))) s
def execSarW (t : TriadId) (rd rs1 rs2 : Reg) (s : State) :=
  aluR t rd rs1 rs2 (fun x y => sxW ((lowW x).sshiftRight (y.toNat % 32))) s

/-! ## Multiply and divide (R77, R78) -/

/-- The high 64 bits of an exact product. -/
def highOf (p : Int) : DWord := BitVec.ofInt 64 (p / 2 ^ 64)

def execMul (t : TriadId) (rd rs1 rs2 : Reg) (s : State) := aluR t rd rs1 rs2 (fun x y => x * y) s
def execMulHs (t : TriadId) (rd rs1 rs2 : Reg) (s : State) := aluR t rd rs1 rs2 (fun x y => highOf (x.toInt * y.toInt)) s
def execMulHu (t : TriadId) (rd rs1 rs2 : Reg) (s : State) := aluR t rd rs1 rs2 (fun x y => highOf (x.toNat * y.toNat)) s
def execMulW (t : TriadId) (rd rs1 rs2 : Reg) (s : State) := aluR t rd rs1 rs2 (fun x y => sxW (lowW x * lowW y)) s
/-- Quotient rounded toward zero; by zero 0; −2⁶³ by −1 gives −2⁶³ (R78). -/
def execDiv (t : TriadId) (rd rs1 rs2 : Reg) (s : State) :=
  aluR t rd rs1 rs2 (fun x y => if y = 0 then 0 else BitVec.ofInt 64 (x.toInt.tdiv y.toInt)) s
def execDivU (t : TriadId) (rd rs1 rs2 : Reg) (s : State) :=
  aluR t rd rs1 rs2 (fun x y => if y = 0 then 0 else BitVec.ofNat 64 (x.toNat / y.toNat)) s
/-- Remainder with the dividend's sign; by zero the dividend (R78). -/
def execRem (t : TriadId) (rd rs1 rs2 : Reg) (s : State) :=
  aluR t rd rs1 rs2 (fun x y => if y = 0 then x else BitVec.ofInt 64 (x.toInt.tmod y.toInt)) s
def execRemU (t : TriadId) (rd rs1 rs2 : Reg) (s : State) :=
  aluR t rd rs1 rs2 (fun x y => if y = 0 then x else BitVec.ofNat 64 (x.toNat % y.toNat)) s

/-! ## Bits -/

/-- Leading zeros of the low `n` bits of `v`, from bit n − 1 down. -/
def leadingZeros : Nat → Nat → Nat
  | 0, _ => 0
  | n + 1, v => if v.testBit n then 0 else leadingZeros n v + 1

/-- Trailing zeros of a value of `n` bits, from bit `i` up. -/
def trailingZeros : Nat → Nat → Nat → Nat
  | 0, _, _ => 0
  | n + 1, i, v => if v.testBit i then 0 else trailingZeros n (i + 1) v + 1

/-- Set bits of the low `n` bits. -/
def popCount : Nat → Nat → Nat
  | 0, _ => 0
  | n + 1, v => (if v.testBit n then 1 else 0) + popCount n v

def execClz (t : TriadId) (rd rs1 : Reg) (s : State) := alu1 t rd rs1 (fun x => BitVec.ofNat 64 (leadingZeros 64 x.toNat)) s
def execCtz (t : TriadId) (rd rs1 : Reg) (s : State) := alu1 t rd rs1 (fun x => BitVec.ofNat 64 (trailingZeros 64 0 x.toNat)) s
def execBitcnt (t : TriadId) (rd rs1 : Reg) (s : State) := alu1 t rd rs1 (fun x => BitVec.ofNat 64 (popCount 64 x.toNat)) s
def execRol (t : TriadId) (rd rs1 rs2 : Reg) (s : State) := aluR t rd rs1 rs2 (fun x y => x.rotateLeft (y.toNat % 64)) s
def execRor (t : TriadId) (rd rs1 rs2 : Reg) (s : State) := aluR t rd rs1 rs2 (fun x y => x.rotateRight (y.toNat % 64)) s
def execByterev (t : TriadId) (rd rs1 : Reg) (s : State) :=
  alu1 t rd rs1 (fun x => BitVec.ofNat 64 (leVal (leBytes 8 x.toNat).reverse)) s
def execSextB (t : TriadId) (rd rs1 : Reg) (s : State) := alu1 t rd rs1 (fun x => (x.setWidth 8).signExtend 64) s
def execSextH (t : TriadId) (rd rs1 : Reg) (s : State) := alu1 t rd rs1 (fun x => (x.setWidth 16).signExtend 64) s
def execSextW (t : TriadId) (rd rs1 : Reg) (s : State) := alu1 t rd rs1 (fun x => sxW (lowW x)) s

/-! ## Immediates -/

def sxI (i : Imm16) : DWord := i.signExtend 64
def zxI (i : Imm16) : DWord := i.setWidth 64

def execAddi (t : TriadId) (rd rs1 : Reg) (imm : Imm16) (s : State) := alu1 t rd rs1 (fun x => x + sxI imm) s
def execAndi (t : TriadId) (rd rs1 : Reg) (imm : Imm16) (s : State) := alu1 t rd rs1 (fun x => x &&& zxI imm) s
def execOri (t : TriadId) (rd rs1 : Reg) (imm : Imm16) (s : State) := alu1 t rd rs1 (fun x => x ||| zxI imm) s
def execXori (t : TriadId) (rd rs1 : Reg) (imm : Imm16) (s : State) := alu1 t rd rs1 (fun x => x ^^^ zxI imm) s
def execSetlti (t : TriadId) (rd rs1 : Reg) (imm : Imm16) (s : State) := alu1 t rd rs1 (fun x => bit01 (x.slt (sxI imm))) s
def execSetltiU (t : TriadId) (rd rs1 : Reg) (imm : Imm16) (s : State) := alu1 t rd rs1 (fun x => bit01 (x.ult (sxI imm))) s
def execShli (t : TriadId) (rd rs1 : Reg) (sh : Sh6) (s : State) := alu1 t rd rs1 (fun x => x <<< sh.toNat) s
def execShri (t : TriadId) (rd rs1 : Reg) (sh : Sh6) (s : State) := alu1 t rd rs1 (fun x => x >>> sh.toNat) s
def execSari (t : TriadId) (rd rs1 : Reg) (sh : Sh6) (s : State) := alu1 t rd rs1 (fun x => x.sshiftRight sh.toNat) s
def execShin (t : TriadId) (rd rs1 : Reg) (imm : Imm16) (s : State) := alu1 t rd rs1 (fun x => (x <<< 16) ||| zxI imm) s
/-- rd = PC + (x << 16) + sext(imm16). -/
def execPcadd (t : TriadId) (rd rs1 : Reg) (imm : Imm16) (s : State) :=
  instrG t rd (fun s pc => pc + (s.gx t rs1 <<< 16) + sxI imm) s

/-! ## Branches and jumps -/

/-- A B-format branch: target PC + 4 × sext(off16) (R75). -/
def branch (t : TriadId) (rs1 rs2 : Reg) (off : Imm16) (c : DWord → DWord → Bool) (s : State) :
    Host.Outcome State Fault Refusal :=
  instr t (fun s pc => .ok (if c (s.gx t rs1) (s.gx t rs2) then s.setPc t (pc + (sxI off <<< 2)) else s)) s

def execBeq (t : TriadId) (rs1 rs2 : Reg) (off : Imm16) (s : State) := branch t rs1 rs2 off (fun x y => x == y) s
def execBne (t : TriadId) (rs1 rs2 : Reg) (off : Imm16) (s : State) := branch t rs1 rs2 off (fun x y => x != y) s
def execBlt (t : TriadId) (rs1 rs2 : Reg) (off : Imm16) (s : State) := branch t rs1 rs2 off (fun x y => x.slt y) s
def execBge (t : TriadId) (rs1 rs2 : Reg) (off : Imm16) (s : State) := branch t rs1 rs2 off (fun x y => !x.slt y) s
def execBltU (t : TriadId) (rs1 rs2 : Reg) (off : Imm16) (s : State) := branch t rs1 rs2 off (fun x y => x.ult y) s
def execBgeU (t : TriadId) (rs1 rs2 : Reg) (off : Imm16) (s : State) := branch t rs1 rs2 off (fun x y => !x.ult y) s

/-- The J-format target: PC + 4 × sext(off26) (R75). -/
def jTarget (pc : DWord) (off : Off26) : DWord := pc + (off.signExtend 64 <<< 2)

def execJ (t : TriadId) (off : Off26) (s : State) : Host.Outcome State Fault Refusal :=
  instr t (fun s pc => .ok (s.setPc t (jTarget pc off))) s

/-- JR. A target that is not a multiple of 4 becomes the PC as it is, and the fetch takes place there: the spec names neither an exception nor
a truncation for it (DESIGN CHOICE, log 67); CALLR and RET are the same. -/
def execJr (t : TriadId) (rs1 : Reg) (s : State) : Host.Outcome State Fault Refusal :=
  instr t (fun s _ => .ok (s.setPc t (s.gx t rs1))) s

end Sys2Proof.Machine
end

