-- ==== Sys2Proof/Machine/ScalarMem.lean ====
section
/-! DEFINITION. Machine/ScalarMem.lean: scalar loads and stores, bank atomics and the resumable block instructions (R77, R80, R82, R90 to R94,
R142, R289, R477). -/
namespace Sys2Proof.Machine

/-! ## Loads and stores (R77, R90, R91) -/

/-- The effective address of a load or store. -/
def State.eaddr (s : State) (t : Nat) (rs1 : Reg) (imm : Imm16) : Nat := (s.gx t rs1 + imm.signExtend 64).toNat

/-- Whether an access of `n` bytes at `a` reaches a device region. -/
def devRange (a n : Nat) : Bool := isDevice a || isDevice (a + n - 1)

/-- A device access of a triad that is aligned, checked and answered, or its exception (R91, R289, R475). -/
def State.devFault (s : State) (u : Issuer) (a n : Nat) (write : Bool) : Option (Exc × State) :=
  if a % n ≠ 0 then some (⟨0x03, BitVec.ofNat 64 a, false, 0⟩, s)
  else match s.refused u (if write then 3 else 2) write false (s.check u a n (if write then .store else .load)) with
    | some e => some e
    | none => if s.busError a write then some (⟨0x0C, BitVec.ofNat 64 a, false, 0⟩, s) else none

/-- A scalar load of `n` bytes. -/
def State.scalarLoad (s : State) (t a n : Nat) : Except (Exc × State) (State × Nat) :=
  let u := s.triadIssuer t
  if devRange a n then
    match s.devFault u a n false with
    | some e => .error e
    | none => let r := s.devLoad u.master u.level n a n; .ok (r.1, leVal r.2)
  else match s.loadBytes u a n .load 2 false with
    | .error e => .error e
    | .ok (s1, bs) => .ok (s1, leVal bs)

/-- A scalar store. -/
def State.scalarStore (s : State) (t a : Nat) (bs : List Byte) : Res :=
  let u := s.triadIssuer t
  if devRange a bs.length then
    match s.devFault u a bs.length true with
    | some e => .error e
    | none => .ok (s.devStore u.master u.level bs.length a bs)
  else s.storeAt u a bs .store 3 false

/-- A load instruction: `n` bytes, extended by `f`. -/
def loadInstr (n : Nat) (f : Nat → DWord) (t : TriadId) (rd rs1 : Reg) (imm : Imm16) (s : State) : Host.Outcome State Fault Refusal :=
  instr t (fun s _ => match s.scalarLoad t (s.eaddr t rs1 imm) n with
    | .error e => .error e
    | .ok (s1, v) => .ok (s1.setG t rd (f v))) s

/-- A store instruction: the low `n` bytes of g[rs2]. -/
def storeInstr (n : Nat) (t : TriadId) (rs2 rs1 : Reg) (imm : Imm16) (s : State) : Host.Outcome State Fault Refusal :=
  instr t (fun s _ => s.scalarStore t (s.eaddr t rs1 imm) (leBytes n (s.gx t rs2).toNat)) s

def execLdB (t : TriadId) (rd rs1 : Reg) (imm : Imm16) (s : State) := loadInstr 1 (fun v => (BitVec.ofNat 8 v).signExtend 64) t rd rs1 imm s
def execLdBu (t : TriadId) (rd rs1 : Reg) (imm : Imm16) (s : State) := loadInstr 1 (fun v => BitVec.ofNat 64 v) t rd rs1 imm s
def execLdH (t : TriadId) (rd rs1 : Reg) (imm : Imm16) (s : State) := loadInstr 2 (fun v => (BitVec.ofNat 16 v).signExtend 64) t rd rs1 imm s
def execLdHu (t : TriadId) (rd rs1 : Reg) (imm : Imm16) (s : State) := loadInstr 2 (fun v => BitVec.ofNat 64 v) t rd rs1 imm s
def execLdW (t : TriadId) (rd rs1 : Reg) (imm : Imm16) (s : State) := loadInstr 4 (fun v => (BitVec.ofNat 32 v).signExtend 64) t rd rs1 imm s
def execLdWu (t : TriadId) (rd rs1 : Reg) (imm : Imm16) (s : State) := loadInstr 4 (fun v => BitVec.ofNat 64 v) t rd rs1 imm s
def execLdD (t : TriadId) (rd rs1 : Reg) (imm : Imm16) (s : State) := loadInstr 8 (fun v => BitVec.ofNat 64 v) t rd rs1 imm s
def execStB (t : TriadId) (rs2 rs1 : Reg) (imm : Imm16) (s : State) := storeInstr 1 t rs2 rs1 imm s
def execStH (t : TriadId) (rs2 rs1 : Reg) (imm : Imm16) (s : State) := storeInstr 2 t rs2 rs1 imm s
def execStW (t : TriadId) (rs2 rs1 : Reg) (imm : Imm16) (s : State) := storeInstr 4 t rs2 rs1 imm s
def execStD (t : TriadId) (rs2 rs1 : Reg) (imm : Imm16) (s : State) := storeInstr 8 t rs2 rs1 imm s

/-! ## Bank atomics (R82, R109) -/

/-- What stops an atomic of `n` bytes at `a` before it reaches its bank. -/
def State.atomicFault (s : State) (u : Issuer) (a n : Nat) : Option (Exc × State) :=
  if a % n ≠ 0 then some (⟨0x03, BitVec.ofNat 64 a, false, 0⟩, s)
  else if (bankOf (s.region a) a).isNone then some (⟨0x04, BitVec.ofNat 64 a, false, 0⟩, s)
  else s.refused u 4 true false (s.check u a n .atomic)

/-- One indivisible read-modify-write: the old value of `n` bytes, replaced by `f` of it. The word is read and checked once. -/
def State.atomic (s : State) (t a n : Nat) (f : Nat → Nat) : Except (Exc × State) (State × Nat) :=
  let u := s.triadIssuer t
  match s.atomicFault u a n with
  | some e => .error e
  | none =>
    let x := s.readEach u (raiseOf u 4) [a / 8]
    match x.bad with
    | some c => .error (wordExc false a c, x.s)
    | none =>
      let k := a % 8
      let old := leVal ((x.bytes.drop k).take n)
      .ok ((x.s.putWords u (raiseOf u 4) 2 (a - k) (x.bytes.take k ++ leBytes n (f old) ++ x.bytes.drop (k + n))).1, old)

/-- An atomic instruction at x with operand y: rd is the old value. -/
def atomicInstr (n : Nat) (f : Nat → Nat → Nat) (g : Nat → DWord) (t : TriadId) (rd rs1 rs2 : Reg) (s : State) :
    Host.Outcome State Fault Refusal :=
  instr t (fun s _ => match s.atomic t (s.gx t rs1).toNat n (fun old => f old (s.gx t rs2).toNat) with
    | .error e => .error e
    | .ok (s1, old) => .ok (s1.setG t rd (g old))) s

def execAaddW (t : TriadId) (rd rs1 rs2 : Reg) (s : State) :=
  atomicInstr 4 (fun old y => old + y) (fun v => (BitVec.ofNat 32 v).signExtend 64) t rd rs1 rs2 s
def execAaddD (t : TriadId) (rd rs1 rs2 : Reg) (s : State) := atomicInstr 8 (fun old y => old + y) (fun v => BitVec.ofNat 64 v) t rd rs1 rs2 s
def execAswpW (t : TriadId) (rd rs1 rs2 : Reg) (s : State) :=
  atomicInstr 4 (fun _ y => y) (fun v => (BitVec.ofNat 32 v).signExtend 64) t rd rs1 rs2 s
def execAswpD (t : TriadId) (rd rs1 rs2 : Reg) (s : State) := atomicInstr 8 (fun _ y => y) (fun v => BitVec.ofNat 64 v) t rd rs1 rs2 s

/-! ## Resumable block instructions (R92 to R94) -/

/-- The word of an R-format instruction of major 0x1D. -/
def encBlock (func : Nat) (rd rs1 rs2 : Reg) : DWord :=
  BitVec.ofNat 64 (wordR 0x1D func rd rs1 rs2)

/-- Whether the registers of a block instruction are permitted (R92): three different ones; only BFILL's pattern may be g0. -/
def blockRegs (fill : Bool) (rd rs1 rs2 : Reg) : Bool :=
  rd != rs1 && rd != rs2 && rs1 != rs2 && rd != 0 && rs2 != 0 && (fill || rs1 != 0)

/-- The `k` bytes of a byte-ascending copy to a place `d` bytes above the source, from the source bytes the copy does not write itself:
where the ranges overlap, bytes already copied are copied again (R94). -/
def ascending (d k : Nat) (src : List Byte) : List Byte :=
  if d = 0 then src else (List.range k).map fun j => src.getD (j % d) 0

/-- What the read of a step's bytes at `a` answers: the state, the bytes before the first word that fails, and the exception. Its
Tollgate check has passed. -/
def State.blockRead (s : State) (u : Issuer) (a k : Nat) : State × List Byte × Option Exc :=
  if isDevice a then
    if s.busError a false then (s, [], some ⟨0x0C, BitVec.ofNat 64 a, false, 0⟩)
    else let r := s.devLoad u.master u.level k a k; (r.1, r.2, none)
  else
    let x := s.readEach u (raiseOf u 5) (wordsOf a k)
    (x.s, (x.bytes.drop (a % 8)).take k, x.bad.map (wordExc false a))

/-- Write the bytes of a step at `a`, its Tollgate check passed; those below a failing word stay written. -/
def State.blockWrite (s : State) (u : Issuer) (a : Nat) (bs : List Byte) : Res :=
  if isDevice a then
    if s.busError a true then .error (⟨0x0C, BitVec.ofNat 64 a, false, 0⟩, s) else .ok (s.devStore u.master u.level bs.length a bs)
  else match s.putWords u (raiseOf u 5) (bs.length + 1) a bs with
    | (s1, some c) => .error (wordExc false a c, s1)
    | (s1, none) => .ok s1

/-- After a step of `k` bytes: the count falls. The instruction runs again from its own address while bytes remain, and where an
interrupt is pending after the step, which is taken with EPC there (R93). -/
def State.stepDone (s : State) (t : Nat) (rs2 : Reg) (k : Nat) (pc : DWord) : State :=
  let n := s.gx t rs2 - BitVec.ofNat 64 k
  let s := s.setG t rs2 n
  if n = 0 && (s.nextInterrupt t).isNone then s else s.setPc t pc

/-- Bytes of the next step. -/
def State.stepLen (s : State) (t : Nat) (rs2 : Reg) : Nat := min 64 (s.gx t rs2).toNat

/-- A block instruction: illegal operands, nothing at count 0, else one step. -/
def blockInstr (func : Nat) (t : TriadId) (rd rs1 rs2 : Reg) (step : State → Nat → DWord → Res) (s : State) : Host.Outcome State Fault Refusal :=
  instr t (fun s pc =>
    if !blockRegs (func = 1) rd rs1 rs2 then trap s 0x01 (encBlock func rd rs1 rs2)
    else if s.gx t rs2 = 0 then .ok s
    else step s (s.stepLen t rs2) pc) s

/-- One step of BMOVE. The bytes that the copy itself writes below the step's end are not read from memory (R94); where a source word
fails, the bytes below it have been copied. -/
def State.bmoveStep (s : State) (t : Nat) (rd rs1 rs2 : Reg) (k : Nat) (pc : DWord) : Res :=
  let u := s.triadIssuer t
  let src := (s.gx t rs1).toNat
  let dst := (s.gx t rd).toNat
  let d := dst - src
  match (s.refused u 5 false false (s.check u src k .load)).orElse fun _ => s.refused u 5 true false (s.check u dst k .store) with
  | some e => .error e
  | none =>
    let (s1, bs, bad) := s.blockRead u src (if d = 0 then k else min d k)
    match s1.blockWrite u dst (if bad.isSome then bs else ascending d k bs), bad with
    | .error e, _ => .error e
    | .ok s2, some e => .error (e, s2)
    | .ok s2, none => .ok (((s2.setG t rd (s2.gx t rd + BitVec.ofNat 64 k)).setG t rs1 (s2.gx t rs1 + BitVec.ofNat 64 k)).stepDone t rs2 k pc)

/-- One step of BFILL: byte a mod 8 of the pattern goes to address a. -/
def State.bfillStep (s : State) (t : Nat) (rd rs1 rs2 : Reg) (k : Nat) (pc : DWord) : Res :=
  let u := s.triadIssuer t
  let dst := (s.gx t rd).toNat
  let p := (s.gx t rs1).toNat
  match s.refused u 5 true false (s.check u dst k .store) with
  | some e => .error e
  | none => match s.blockWrite u dst ((List.range k).map fun i => BitVec.ofNat 8 (p / 256 ^ ((dst + i) % 8))) with
    | .error e => .error e
    | .ok s1 => .ok ((s1.setG t rd (s1.gx t rd + BitVec.ofNat 64 k)).stepDone t rs2 k pc)

/-- One step of BCRC. -/
def State.bcrcStep (s : State) (t : Nat) (rd rs1 rs2 : Reg) (k : Nat) (pc : DWord) : Res :=
  let u := s.triadIssuer t
  let src := (s.gx t rs1).toNat
  match s.refused u 5 false false (s.check u src k .load) with
  | some e => .error e
  | none =>
    let (s1, bs, bad) := s.blockRead u src k
    match bad with
    | some e => .error (e, s1)
    | none =>
      let c := crcUpdate ((s1.gx t rd).setWidth 32) bs
      .ok (((s1.setG t rd (c.setWidth 64)).setG t rs1 (s1.gx t rs1 + BitVec.ofNat 64 k)).stepDone t rs2 k pc)

def execBmove (t : TriadId) (rd rs1 rs2 : Reg) (s : State) := blockInstr 0 t rd rs1 rs2 (fun s k pc => s.bmoveStep t rd rs1 rs2 k pc) s
def execBfill (t : TriadId) (rd rs1 rs2 : Reg) (s : State) := blockInstr 1 t rd rs1 rs2 (fun s k pc => s.bfillStep t rd rs1 rs2 k pc) s
def execBcrc (t : TriadId) (rd rs1 rs2 : Reg) (s : State) := blockInstr 2 t rd rs1 rs2 (fun s k pc => s.bcrcStep t rd rs1 rs2 k pc) s

end Sys2Proof.Machine
end

