-- ==== Sys2Proof/Machine/Inbound.lean ====
section
/-! DEFINITION. Machine/Inbound.lean: accesses from outside: PCIe, QSPI and the debug master (R263, R278, R288, R289, R292, R401, R402, R419,
R435, R443, R444). -/
namespace Sys2Proof.Machine

/-! ## Checked accesses of an inbound master -/

/-- What an inbound access answers. -/
inductive Answer where
  | ok (bs : List Byte)
  /-- refused by the Tollgate, or an error response of the target -/
  | refused
  /-- an uncorrectable or poisoned word -/
  | uncorrectable
  deriving DecidableEq, Repr

/-- The first address of a range whose target answers with an error. -/
def State.rangeError (s : State) (a n : Nat) (write : Bool) : Bool := (wordsOf a n).any fun w => s.busError (8 * w) write

/-- The check of an inbound access. While Prosal is absent the host's accesses to the MBX block pass unit 23 or 24 though no
rule grants them yet: the block itself answers each post from reset on (DEDUCED from R406 and R278). Lock slots apply. -/
def State.inboundCheck (s : State) (u : Issuer) (a n : Nat) (k : AccKind) : Check :=
  match s.check u a n k with
  | .own x => if !s.prosalUp && decide ((u.unit = 23 ∨ u.unit = 24) ∧ 0x60140000 ≤ a ∧ a + n ≤ 0x60150000) then .ok else .own x
  | c => c

/-- A read of `n` bytes at `a`, checked whole on arrival. -/
def State.inRead (s : State) (u : Issuer) (a n : Nat) : State × Answer :=
  match s.inboundCheck u a n .load with
  | .ok =>
    if s.rangeError a n false then (s, .refused)
    else if isDevice a then let r := s.devLoad u.master u.level n a n; (r.1, .ok r.2)
    else match s.readChecks (raiseOf u 10) (wordsOf a n) with
      | (s1, some _) => (s1, .uncorrectable)
      | (s1, none) => (s1, .ok (s1.bytes a n))
  | c => (s.refuse u 10 c, .refused)

/-- A write of bytes at `a`, checked whole on arrival; a word whose narrow write fails ends it. -/
def State.inWrite (s : State) (u : Issuer) (a : Nat) (bs : List Byte) : State × Answer :=
  match s.inboundCheck u a bs.length .store with
  | .ok =>
    if s.rangeError a bs.length true then (s, .refused)
    else if isDevice a then (s.devStore u.master u.level bs.length a bs, .ok [])
    else match s.storeBytes (raiseOf u 11) (bs.length + 1) a bs with
      | (s1, some _) => (s1, .uncorrectable)
      | (s1, none) => (s1, .ok [])
  | c => (s.refuse u 11 c, .refused)

/-! ## PCIe (R401, R436) -/

/-- The physical address of a byte of a BAR; none where the BAR maps nothing. -/
def State.barAddr (s : State) (bar2 : Bool) (off : Nat) : Option Nat :=
  if !bar2 then (if off < 0x10000 then some (0x60140000 + off) else none)
  else if off < 0x1000 then some (MBX_RING_PROD 0 + off)
  else if 0x800000 ≤ off ∧ off < 0x1000000 then some (s.windowBase + (off - 0x800000))
  else none

/-- A BAR range: its address, when both ends map into one resource. -/
def State.barRange (s : State) (bar2 : Bool) (off n : Nat) : Option Nat :=
  match s.barAddr bar2 off, s.barAddr bar2 (off + n - 1) with
  | some a, some b => if 1 ≤ n ∧ b = a + n - 1 then some a else none
  | _, _ => none

/-- A posted write: discarded when it is refused or reaches no resource. -/
def State.pcieWrite (s : State) (bar2 : Bool) (off : Nat) (bs : List Byte) : State :=
  match s.barRange bar2 off bs.length with
  | some a => (s.inWrite (s.inboundIssuer 0x60 23) a bs).1
  | none => s

/-- The completion of a read: status 0, 1 (Unsupported Request) or 2 (Completer Abort) with its data (R263, R289). -/
def State.complete (s : State) (x : Answer) : State :=
  { s with host := { s.host with cpl := match x with
      | .ok bs => (0, bs)
      | .refused => (1, [])
      | .uncorrectable => (2, []) } }

def State.pcieRead (s : State) (bar2 : Bool) (off n : Nat) : State :=
  match s.barRange bar2 off n with
  | some a => let r := s.inRead (s.inboundIssuer 0x60 23) a n; r.1.complete r.2
  | none => s.complete .refused

/-- PCIE_INBOUND_WRITE: at a byte offset of BAR0 or BAR2, while the endpoint trains. -/
def execPcieInboundWrite (bar2 : Bool) (off : BitVec 32) (bs : ByteList) (s : State) : Host.Outcome State Fault Refusal :=
  occurs (s.live && s.flag MBX_CTRL_PCIE_EN) s (s.pcieWrite bar2 off.toNat bs)

def execPcieInboundRead (bar2 : Bool) (off : BitVec 32) (n : BitVec 13) (s : State) : Host.Outcome State Fault Refusal :=
  occurs (s.live && s.flag MBX_CTRL_PCIE_EN) s (s.pcieRead bar2 off.toNat n.toNat)

/-! ## QSPI (R402, R435) -/

/-- The physical address of a QSPI byte; none where R402 refuses it. -/
def State.qspiAddr (s : State) (a : Nat) : Option Nat :=
  if a < 0x10000 then (if 0x9000 ≤ a ∧ a < 0x9200 then none else some (0x60140000 + a))
  else if 0x800000 ≤ a then some (s.windowBase + (a - 0x800000))
  else none

/-- A transaction of `n` bytes: its address, when R402 refuses none of its bytes. -/
def State.qspiRange (s : State) (a n : Nat) : Option Nat :=
  if a + n ≤ 0x1000000 ∧ ((List.range n).all fun i => (s.qspiAddr (a + i)).isSome) = true ∧ (a < 0x10000 → a + n ≤ 0x10000) then s.qspiAddr a
  else none

/-- A refusal by address counts at unit 24 and raises no channel (R435). -/
def State.qspiRefuse (s : State) : State := s.bump (TG_STATUS_REFUSALS 24)

/-- The status byte of an answer. -/
def Answer.status : Answer → Nat
  | .ok _ => 0
  | _ => 1

/-- The status of a WRITE is kept for STATUS. -/
def State.setQstat (s : State) (n : Nat) : State := { s with host := { s.host with qstat := n } }

/-- The bytes the port shifts out. -/
def State.setQout (s : State) (bs : List Byte) : State := { s with host := { s.host with qout := bs } }

/-- A WRITE: whole words; one that ends within a word discards that word. -/
def State.qspiWrite (s : State) (a : Nat) (bs : List Byte) : State :=
  let keep := bs.take (bs.length - (a + bs.length) % 4)
  match s.qspiRange a (max 1 bs.length) with
  | some p =>
    if keep.isEmpty then s.setQstat 0
    else let r := s.inWrite (s.inboundIssuer 0x61 24) p keep; r.1.setQstat r.2.status
  | none => s.qspiRefuse.setQstat 1

def State.qspiRead (s : State) (a n : Nat) : State :=
  if n = 0 then s.setQout [0]
  else match s.qspiRange a n with
    | some p => match s.inRead (s.inboundIssuer 0x61 24) p n with
      | (s1, .ok bs) => s1.setQout (0 :: bs)
      | (s1, _) => s1.setQout [1]
    | none => s.qspiRefuse.setQout [1]

def execQspiWrite (a : BitVec 24) (bs : ByteList) (s : State) : Host.Outcome State Fault Refusal :=
  occurs (s.live && s.flag MBX_CTRL_QSPI_EN) s (s.qspiWrite a.toNat bs)

def execQspiRead (a : BitVec 24) (n : BitVec 16) (s : State) : Host.Outcome State Fault Refusal :=
  occurs (s.live && s.flag MBX_CTRL_QSPI_EN) s (s.qspiRead a.toNat n.toNat)

/-- QSPI_STATUS: a transaction by its code; STATUS answers the last WRITE's, an unknown code 0x02. -/
def execQspiStatus (code : Byte) (s : State) : Host.Outcome State Fault Refusal :=
  occurs (s.live && s.flag MBX_CTRL_QSPI_EN && code != 0x02 && code != 0x0B) s
    (s.setQout [if code = 0x05 then BitVec.ofNat 8 s.host.qstat else 2])

/-! ## The debug master (R443, R444) -/

/-- What the next Capture-DR takes: status and data. -/
def State.dbgAnswer (s : State) (x : Answer) : State :=
  match x with
  | .ok [] => { s with jtag := { s.jtag with status := 0 } }
  | .ok bs => { s with jtag := { s.jtag with status := 0, data := BitVec.ofNat 32 (leVal bs) } }
  | _ => { s with jtag := { s.jtag with status := 1 } }

/-- One 32-bit access of the debug master; an address that is not a multiple of 4 is refused. -/
def State.dbgAccess (s : State) (a : Nat) (d : Word) (write : Bool) : State :=
  let s := s.gateUsed
  let u := s.inboundIssuer 0x7F 27
  if a % 4 ≠ 0 then s.dbgAnswer .refused
  else
    let r := if write then s.inWrite u a (leBytes 4 d.toNat) else s.inRead u a 4
    r.1.dbgAnswer r.2

/-- DBG_ACCESS: with DEBUG_OFF set the TAP loads BYPASS; else Update-DR issues the access. -/
def execDbgAccess (a : BitVec 40) (d : Word) (write : Bool) (s : State) : Host.Outcome State Fault Refusal :=
  if s.option0 3 then done (s.tap 0x3F)
  else occurs s.live (s.tap 0x10) ((s.tap 0x10).dbgAccess a.toNat d write)

end Sys2Proof.Machine
end

