-- ==== Sys2Proof/Machine/Mover.lean ====
section
/-! DEFINITION. Machine/Mover.lean: the work of the data movers: descriptors, bursts, write collisions and completion (R245, R246, R287, R297 to
R303). -/
namespace Sys2Proof.Machine

/-- A channel is running. -/
def State.chanRuns (s : State) (k c : Nat) : Bool := s.get (MVR_CH_STATUS_STATE k c) = 1

/-! ## Descriptors (R298) -/

/-- Whether the fields of a descriptor are valid. -/
def descGood (src dst len flags next : Nat) : Bool :=
  (flags % 2 = 1 || decide (src < 2 ^ 40)) && decide (dst < 2 ^ 40) && decide (1 ≤ len ∧ len < 2 ^ 24) && decide (flags < 8) &&
    decide (next < 2 ^ 40) && decide (next % 32 = 0)

/-- Whether a descriptor may stand at `a`: scratchpad, Depot or DRAM. -/
def State.descPlace (s : State) (a : Nat) : Bool :=
  match s.region a with
  | .spm _ => true
  | .depot => true
  | .dram => true
  | _ => false

/-- The first address of `n` bytes at `a` whose target answers with an error. -/
def State.moverBus (s : State) (a n : Nat) (write : Bool) : Option Nat :=
  ((wordsOf a n).find? fun w => s.busError (8 * w) write).map fun w => max a (8 * w)

/-- A channel takes the 32 bytes of its descriptor, already read. -/
def State.takeDesc (s : State) (k c a : Nat) : State :=
  let src := s.le a 8
  let dst := s.le (a + 8) 8
  let len := s.le (a + 16) 4
  let flags := s.le (a + 20) 2
  let next := s.le (a + 24) 8
  if !descGood src dst len flags next then s.haltChan k c 0x15 a
  else s.setChan k c { desc := a, src := BitVec.ofNat 64 src, dst := BitVec.ofNat 64 dst, len := len, flags := flags,
                       next := BitVec.ofNat 64 next, loaded := true }

/-- The fetch of the descriptor at CH_DESC. -/
def State.fetchDesc (s : State) (k c : Nat) : State :=
  let a := s.chDesc k c
  let u := s.moverIssuer k c
  let s := s.setChan k c { desc := a }
  match s.check u a 32 .load with
  | .ok =>
    if !s.descPlace a then s.haltChan k c 0x15 a
    else match s.moverBus a 32 false with
      | some b => s.haltChan k c 0x14 b
      | none => match s.readChecks (raiseOf u 8) (wordsOf a 32) with
        | (s1, some w) => s1.haltChan k c 0x10 (8 * w)
        | (s1, none) => s1.takeDesc k c a
  | .own b => (s.refuseMover k u 8 (.own b)).haltChan k c 0x11 b
  | .lock b => (s.refuseMover k u 8 (.lock b)).haltChan k c 0x12 b

/-! ## Bursts (R299, R300, R303) -/

/-- A channel has bytes left to move. -/
def State.chanActive (s : State) (k c : Nat) : Bool :=
  s.chanRuns k c && (s.chan k c).loaded && decide ((s.chan k c).done < (s.chan k c).len)

/-- The channel a mover serves next (R303): the highest PRIO, round robin within it. -/
def State.moverNext (s : State) (k : Nat) : Option Nat :=
  let turn := Sparse.get (fun _ => 63) s.mvrTurn k
  let act := ((List.range 64).map fun i => (turn + 1 + i) % 64).filter fun c => s.chanActive k c
  let top := act.foldl (fun m c => max m (s.get (MVR_CH_CFG_PRIO k c))) 0
  act.find? fun c => s.get (MVR_CH_CFG_PRIO k c) = top

/-- The counter of write collisions of a memory. -/
def collField (r : Region) : Option Fld :=
  match r with
  | .spm n => some (SPM_COLL_WCOL n)
  | .depot => some DPT_COLL_WCOL
  | _ => none

/-- `n` WCOL responses are counted (R246, R300). -/
def State.countWcol (s : State) (k c a n : Nat) : State :=
  let s := s.bumpBy (MVR_CH_STATUS_WCOL k c) n
  match collField (s.region a) with
  | some f => s.bumpBy f n
  | none => s

/-- How a write of one word meets a collision (R245, R300): none, or counts and whether the word is lost. A narrow write holds its word, and
meets none; DRAM and device regions have no second port. -/
def State.wcolAt (s : State) (col : ColList) (i a len : Nat) (retry : Bool) : Option (Nat × Bool) :=
  if len = 8 && (collField (s.region a)).isSome then
    (col.find? fun x => x.1.toNat = i).map fun x => if retry then (if x.2 then (2, true) else (1, false)) else (1, true)
  else none

/-- The destination words of a burst in ascending order, up to the first that fails: its code and address. `fuel` bounds the words. -/
def State.moverPut (s : State) (k c : Nat) (r : Raise) (col : ColList) (retry : Bool) :
    Nat → Nat → Nat → List Byte → State × Option (Nat × Nat)
  | 0, _, _, _ => (s, none)
  | fuel + 1, i, a, bs =>
    if bs.isEmpty then (s, none)
    else
      let n := 8 - a % 8
      let b := bs.take n
      let hit := s.wcolAt col i a b.length retry
      let s := match hit with
        | some h => (s.countWcol k c a h.1).setChan k c { s.chan k c with retried := true }
        | none => s
      match hit with
      | some (_, true) => (s, some (0x13, a))
      | _ =>
        let (s1, ok) := s.storeWord a b r
        if ok then s1.moverPut k c r col retry fuel (i + 1) (a + n) (bs.drop n) else (s1, some (0x10, a / 8 * 8))

/-- The source bytes of a burst: the pattern, or memory. None with the code and address where a read fails. -/
def State.moverGet (s : State) (u : Issuer) (x : Chan) (n : Nat) : State × Except (Nat × Nat) (List Byte) :=
  let src := x.src.toNat + x.done
  let dst := x.dst.toNat + x.done
  if x.flags % 2 = 1 then (s, .ok ((List.range n).map fun i => BitVec.ofNat 8 (x.src.toNat / 256 ^ ((dst + i) % 8))))
  else match s.moverBus src n false with
    | some b => (s, .error (0x14, b))
    | none =>
      if isDevice src then
        let r := s.devLoad u.master u.level n src n
        (r.1, .ok (ascending (dst - src) n r.2))
      else match s.readChecks (raiseOf u 8) (wordsOf src n) with
        | (s1, some w) => (s1, .error (0x10, 8 * w))
        | (s1, none) => (s1, .ok (ascending (dst - src) n (s1.bytes src n)))

/-- Write a burst. -/
def State.moverStore (s : State) (k c : Nat) (u : Issuer) (x : Chan) (bs : List Byte) (col : ColList) : State × Option (Nat × Nat) :=
  let dst := x.dst.toNat + x.done
  match s.moverBus dst bs.length true with
  | some b => (s, some (0x14, b))
  | none =>
    if isDevice dst then (s.devStore u.master u.level bs.length dst bs, none)
    else s.moverPut k c (raiseOf u 9) col (s.flag (MVR_CH_CFG_RETRY k c) && x.flags / 4 % 2 = 0) (bs.length + 1) 0 dst bs

/-- Both checks of a burst (R299): the refusal, its access type, and whether there is one. -/
def State.moverCheck (s : State) (u : Issuer) (x : Chan) (n : Nat) : Nat × Check :=
  let r := if x.flags % 2 = 1 then .ok else s.check u (x.src.toNat + x.done) n .load
  if r = .ok then (9, s.check u (x.dst.toNat + x.done) n .store) else (8, r)

/-- Bytes of the next burst: up to the destination's next 64-byte boundary. -/
def Chan.burst (x : Chan) : Nat := min (x.len - x.done) (64 - (x.dst.toNat + x.done) % 64)

/-- One burst of channel `c`. -/
def State.moverBurst (s : State) (k c : Nat) (col : ColList) : State :=
  let x := s.chan k c
  let u := s.moverIssuer k c
  let n := x.burst
  let s : State := { s with mvrTurn := Sparse.set (fun _ => 63) s.mvrTurn k c }
  match s.moverCheck u x n with
  | (kind, .own b) => (s.refuseMover k u kind (.own b)).haltChan k c 0x11 b
  | (kind, .lock b) => (s.refuseMover k u kind (.lock b)).haltChan k c 0x12 b
  | (_, .ok) => match s.moverGet u x n with
    | (s1, .error (code, b)) => s1.haltChan k c code b
    | (s1, .ok bs) => match s1.moverStore k c u x bs col with
      | (s2, some (code, b)) => s2.haltChan k c code b
      | (s2, none) => s2.setChan k c { s2.chan k c with done := x.done + n }

/-! ## Completion (R299, R301) -/

/-- Every write of the descriptor has been acknowledged: STATUS, the event, NEXT. -/
def State.endDesc (s : State) (k c : Nat) : State :=
  let x := s.chan k c
  let code := if x.retried then 2 else 1
  match s.writeDescStatus k c x.desc code with
  | (s1, 0) =>
    let s1 := s1.put (MVR_CH_STATUS_CODE k c) code
    let s1 := if x.flags / 2 % 2 = 1 then s1.pulse (64 + 64 * k + c) else s1
    if x.next = 0 then (s1.setChan k c {}).put (MVR_CH_STATUS_STATE k c) 0
    else (s1.setChan k c { desc := x.next.toNat }).setChDesc k c x.next.toNat
  | (s1, bad) => s1.haltChan k c bad (x.desc + 0x16)

/-! ## The rows -/

/-- MOVER_DESCRIPTOR_FETCH: a running channel without a descriptor fetches the one at CH_DESC. -/
def execMoverDescriptorFetch (k : Fin 4) (c : BitVec 6) (s : State) : Host.Outcome State Fault Refusal :=
  occurs (s.chanRuns k c.toNat && !(s.chan k c.toNat).loaded) s (s.fetchDesc k c.toNat)

/-- MOVER_BURST: one burst of the channel whose turn it is. -/
def execMoverBurst (k : Fin 4) (c : BitVec 6) (col : ColList) (s : State) : Host.Outcome State Fault Refusal :=
  occurs (s.moverNext k = some c.toNat) s (s.moverBurst k c.toNat col)

/-- MOVER_DESCRIPTOR_COMPLETE. -/
def execMoverDescriptorComplete (k : Fin 4) (c : BitVec 6) (s : State) : Host.Outcome State Fault Refusal :=
  occurs (s.chanRuns k c.toNat && (s.chan k c.toNat).loaded && !s.chanActive k c.toNat) s (s.endDesc k c.toNat)

end Sys2Proof.Machine
end

