-- ==== Sys2Proof/Machine/Prosal.lean ====
section
/-! DEFINITION. Machine/Prosal.lean: what Prosal's commands share: status codes, responses, request bodies, who serves the mailboxes
(R354, R405 to R413). -/
namespace Sys2Proof.Machine

/-! ## Status codes (R412) -/

inductive Status where
  | ok | busy | badCrc | badLength | unknownOpcode | badArgument | notPermitted | locked | twinStandby | tooSoon | tooLate | noSpace
  | bandwidth | mode | state | loadFailed | accessRefused | lockout | restarted | ledgerWrite
  deriving DecidableEq, Repr

def Status.code : Status → Nat
  | .ok => 0x00 | .busy => 0x01 | .badCrc => 0x02 | .badLength => 0x03 | .unknownOpcode => 0x04 | .badArgument => 0x05
  | .notPermitted => 0x06 | .locked => 0x07 | .twinStandby => 0x08 | .tooSoon => 0x09 | .tooLate => 0x0A | .noSpace => 0x0B
  | .bandwidth => 0x0C | .mode => 0x0D | .state => 0x0E | .loadFailed => 0x0F | .accessRefused => 0x10 | .lockout => 0x11
  | .restarted => 0x12 | .ledgerWrite => 0x13

/-- What a command answers: a status and a body. -/
structure Resp where
  status : Status
  body : List Byte
  deriving DecidableEq, Repr

/-- What a command does: the state it leaves and its response. -/
abbrev Reply := State × Resp

/-- The command answers a status with no body (R411), and changes nothing more. -/
def State.answers (s : State) (st : Status) : Reply := (s, ⟨st, []⟩)

/-- The command has taken effect. -/
def State.okay (s : State) (body : List Byte := []) : Reply := (s, ⟨.ok, body⟩)

/-- OK, or LEDGER_WRITE when a Ledger word has failed (R273). -/
def State.ledgerDone (s : State) (ok : Bool) (body : List Byte := []) : Reply := if ok then s.okay body else s.answers .ledgerWrite

/-! ## Bodies (R411) -/

/-- The little-endian field of `n` bytes at body offset `o`. -/
def fld (b : List Byte) (o n : Nat) : Nat := leVal ((b.drop o).take n)

/-- Reserved bytes must be 0. -/
def zeros (b : List Byte) (o n : Nat) : Bool := fld b o n = 0

/-- The 32-bit field at offset `o`. -/
def fldW (b : List Byte) (o : Nat) : Word := BitVec.ofNat 32 (fld b o 4)

/-- A register as a 4-byte field. -/
def State.regField (s : State) (a : Nat) : List Byte := leBytes 4 (s.devWord 0 1 a).toNat

/-- Length of the body each opcode takes (R411, R414 to R424); a body with a COUNT or LENGTH of its own has the length these give. -/
def bodyLength (op : Nat) (b : List Byte) : Option Nat :=
  if op = 0x0301 then some (4 + 16 * fld b 0 2)
  else if op = 0x0401 then some (4 + (2 * fld b 0 2 + 3) / 4 * 4)
  else if op = 0x0707 then some (8 + fld b 4 4)
  else if op = 0x0204 then some (if fld b 0 1 = 1 then 4 else if fld b 0 1 = 3 then 12 else if b.length = 12 then 12 else 4)
  else (([
    (0x0101, 0), (0x0102, 0), (0x0103, 4), (0x0104, 4), (0x0105, 12), (0x0106, 16),
    (0x0201, 8), (0x0202, 12), (0x0203, 0), (0x0205, 0), (0x0206, 8),
    (0x0302, 4), (0x0303, 20), (0x0304, 4), (0x0402, 4),
    (0x0501, 0), (0x0502, 4), (0x0503, 4), (0x0504, 8), (0x0505, 4), (0x0506, 4), (0x0507, 4), (0x0508, 8), (0x0509, 0),
    (0x0601, 12), (0x0602, 16), (0x0603, 0), (0x0604, 8), (0x0605, 4), (0x0606, 4), (0x0607, 4), (0x0608, 24), (0x0609, 4)] ++ [
    (0x0701, 8), (0x0702, 0), (0x0703, 0), (0x0704, 12), (0x0705, 4), (0x0706, 8),
    (0x0801, 4), (0x0802, 0), (0x0803, 8), (0x0804, 0), (0x0805, 4), (0x0806, 0), (0x0807, 16), (0x0808, 0),
    (0x0901, 0), (0x0902, 12), (0x0903, 12), (0x0904, 4), (0x0905, 4), (0x0906, 12),
    (0x0A01, 4), (0x0A02, 36), (0x0A03, 20), (0x0A04, 0), (0x0A05, 36),
    (0x0B01, 4), (0x0B02, 8), (0x0B03, 0), (0x0B04, 12), (0x0B05, 8),
    (0x0C01, 20), (0x0C02, 56), (0x0C03, 88), (0x0C04, 4), (0x0C05, 12), (0x0C06, 4), (0x0C07, 4), (0x0C08, 4), (0x0C09, 8)]
    : List (Nat × Nat)).find? fun e => e.1 = op).map Prod.snd

/-- Whether an opcode is defined. -/
def opcodeKnown (op : Nat) : Bool := (bodyLength op []).isSome

/-- LENGTH is at most 492, a multiple of 4 (R410, R412). -/
def lengthGood (n : Nat) : Bool := decide (n ≤ 492) && n % 4 = 0

/-- The largest TARGET of an opcode: a port number for NET_PORT_CFG and TDM_CFG, 0 otherwise (R410). -/
def targetMax (op : Nat) : Nat := if op = 0x0C01 then 3 else if op = 0x0C06 then 15 else 0

/-! ## Who may command what (R354, R413, R437) -/

/-- The commands the boot ROM answers in recovery (R354, R420). -/
def recoveryOps : List Nat := [0x0101, 0x0102, 0x0601, 0x0701, 0x0702, 0x0703]

/-- A paired standby (R381): it refuses what R413 lists. -/
def State.standsBy (s : State) : Bool := decide (3 ≤ s.get SOV_STATUS_ROLE)

/-- The unlock level is at least Maintenance. -/
def State.maintained (s : State) : Bool := decide (1 ≤ s.get DBG_STATUS_LEVEL)

end Sys2Proof.Machine
end

