-- ==== Sys2Proof/Machine/ProsalSys.lean ====
section
/-! DEFINITION. Machine/ProsalSys.lean: the system, graph, parameter, metering and fault families of Prosal's commands (R414 to R418). -/
namespace Sys2Proof.Machine

/-! ## The system family (R414) -/

/-- GET_INFO. The boot ROM's own version in recovery is not in the spec: two free values. -/
def State.cmdGetInfo (s : State) : Reply :=
  let rom := s.boot = .recovery
  let (v, t) := s.draw
  let ver := if rom then leBytes 4 v.toNat else leBytes 2 s.prosalVersion ++ leBytes 2 s.linkProto
  (if rom then t else s).okay
    (leBytes 2 0x7720 ++ leBytes 2 0x00B0 ++ ver ++ leBytes 8 Config.serial.toNat ++
      leBytes 1 (if rom then 0xFF else s.booted) ++ leBytes 1 (s.get DBG_STATUS_LEVEL) ++ leBytes 2 0 ++
      s.regField RST_COUNT ++ s.regField RST_CAUSE)

/-- IMAGE_ID of an image, 0 for none. -/
def imageIdOf : Option Image → Nat
  | some im => im.imageId
  | none => 0

def State.cmdGetStatus (s : State) : Reply :=
  s.okay (leBytes 1 (s.get PWR_STATE_STATE) ++ leBytes 1 (s.get SOV_STATUS_ROLE) ++
    leBytes 1 ((s.get FCU_STATUS_SAFE) * 2 + s.get FCU_STATUS_ARMED) ++ leBytes 1 (s.get MCK_STATUS_STATE) ++ leBytes 4 0 ++
    leBytes 8 s.blockN ++ leBytes 8 s.time ++ leBytes 8 (imageIdOf s.eng.running))

/-- RESET with a good code; in recovery FW_ACTIVATE acts so (R420). -/
def State.cmdReset (s : State) (b : List Byte) : Reply := if fld b 0 4 = 0xB007 then s.okay else s.answers .badArgument

/-- What follows the response of RESET: Prosal writes RST.REQ 1 ms later. -/
def State.afterReset (s : State) : State := (s.pass 1000000).resetRequest 0 2 0xB007

/-- POWER: SENTRY is entered from STANDBY alone (R361). -/
def State.cmdPower (s : State) (b : List Byte) : Reply :=
  if fld b 0 1 ≠ 2 || !zeros b 1 3 then s.answers .badArgument
  else if s.eng.running.isSome || s.get PWR_STATE_STATE ≠ 3 then s.answers .state
  else s.okay

/-- What follows the response of POWER: Prosal writes PWR.CMD. -/
def State.afterPower (s : State) : State := s.powerCommand 0 2 0x5EE9

/-- The supervisor at a level, under the rule set in force. -/
def State.prosalIssuer (s : State) (lvl : Nat) : Issuer := { s.triadIssuer 0 with level := lvl }

/-- Words read one after another, as Carriageway code reads them; none when one may not be read. -/
def State.readWords (s : State) : Nat → Nat → State × Option (List Byte)
  | _, 0 => (s, some [])
  | a, n + 1 =>
    match s.check (s.prosalIssuer 1) a 4 .load with
    | .ok =>
      if s.busError a false then (s, none)
      else
        let (s1, v) := s.devRead 0 1 a
        match s1.readWords (a + 4) n with
        | (s2, some l) => (s2, some (leBytes 4 v.toNat ++ l))
        | (s2, none) => (s2, none)
    | c => (s.refuse (s.prosalIssuer 1) 2 c, none)

def State.cmdRegRead (s : State) (b : List Byte) : Reply :=
  let a := fld b 0 8
  let n := fld b 8 2
  if a % 4 ≠ 0 || !decide (1 ≤ n ∧ n ≤ 120) || !zeros b 10 2 then s.answers .badArgument
  else if a < 0x60000000 ∨ 0x60400000 < a + 4 * n then s.answers .accessRefused
  else match s.readWords a n with
    | (s1, some l) => s1.okay l
    | (s1, none) => s1.answers .accessRefused

/-- REG_WRITE: a lock slot's refusal answers LOCKED (R412); the Milestone's registers lie beyond every Prosal command (R326). -/
def State.cmdRegWrite (s : State) (b : List Byte) : Reply :=
  let a := fld b 0 8
  let u := s.prosalIssuer 2
  if !s.maintained then s.answers .notPermitted
  else if a % 4 ≠ 0 || !zeros b 12 4 then s.answers .badArgument
  else if a < 0x60000000 ∨ 0x60400000 ≤ a ∨ (MSW_CTRL ≤ a ∧ a < MSW_CTRL + 0x10000) then s.answers .accessRefused
  else match s.check u a 4 .store with
    | .ok => if s.busError a true then s.answers .accessRefused else (s.devWrite 0 2 a (fldW b 8)).okay
    | .lock x => (s.refuse u 3 (.lock x)).answers .locked
    | .own x => (s.refuse u 3 (.own x)).answers .accessRefused

/-! ## The graph family (R415) -/

/-- The response of GRAPH_LOAD. -/
def loadBody (result k sec ent : Nat) : List Byte := leBytes 1 result ++ [0] ++ leBytes 2 k ++ leBytes 2 sec ++ leBytes 2 ent

/-- A pending image that has passed (R51, R62): its coefficient sets are placed; STEP = 1. -/
def State.takePending (s : State) (im : Image) : State :=
  let s := (s.placeCoefs im).onEng fun e => { e with pending := some im, released := false }
  (s.put BSQ_SWITCH_STATE_K (min im.lead 0xFFFF)).keepWindow.setStep 1

def State.cmdGraphLoad (s : State) (b : List Byte) : Reply :=
  let off := fld b 0 4
  let len := fld b 4 4
  if off % 64 ≠ 0 then s.answers .badArgument
  else if 0x17C0000 < off + len then s.answers .accessRefused
  else match s.checkImage off len with
    | .error f => (s, ⟨.loadFailed, loadBody f.code 0 f.sec f.ent⟩)
    | .ok im => (s.takePending im).okay (loadBody 0 im.lead 0xFFFF 0xFFFF)

/-- The response of GRAPH_SWITCH. -/
def switchBody (b k : Nat) (hot : Bool) (result : Nat) : List Byte :=
  leBytes 8 b ++ leBytes 2 k ++ leBytes 1 (if hot then 1 else 0) ++ leBytes 1 result

/-- A primary tells its standby of a switch (R385): SWITCH with its block, bit 0 of the second operand STANDBY_ONLY; and SWITCH_AT when it
switches itself. -/
def State.tellSwitch (s : State) (b : Nat) (alone : Bool) : State :=
  if s.get SOV_STATUS_ROLE ≠ 2 then s
  else
    let s := s.sendCmd 2 0 0 b (if alone then 1 else 0)
    if alone then s else s.sendCmd 3 0 0 b 0

def State.cmdGraphSwitch (s : State) (b : List Byte) : Reply :=
  let req := fld b 0 8
  let flags := fld b 8 4
  if s.standsBy then s.answers .twinStandby
  else if 4 ≤ flags then s.answers .badArgument
  else if s.get SOV_STATUS_ROLE = 2 && decide (2 ≤ flags) then
    -- STANDBY_ONLY: the primary keeps its image (R385)
    let first := s.blockA + (match s.eng.pending with | some im => im.lead | none => 0) + 2
    let at_ := if req = 0 then first else req
    if at_ < first then s.answers .tooSoon
    else (s.tellSwitch at_ true).okay (switchBody at_ (match s.eng.pending with | some im => im.lead | none => 0) false 0)
  else match s.eng.pending with
    | none => s.answers .state
    | some im =>
      if s.eng.switch.isSome || s.eng.stopAfter.isSome then s.answers .state
      else
        let s := s.countIn im
        let hot := s.hotPossible im
        let first := s.earliestSwitch im
        let at_ := if req = 0 then first else req
        if !hot && flags % 2 = 0 then (s, ⟨.state, switchBody 0 im.lead false 0x1B⟩)
        else if at_ < first then s.answers .tooSoon
        else ((s.acceptSwitch im at_ hot false).tellSwitch at_ false).okay (switchBody at_ im.lead hot 0)

def State.cmdGraphAbort (s : State) : Reply :=
  if s.standsBy then s.answers .twinStandby
  else if s.eng.pending.isNone && s.eng.switch.isNone then s.answers .state
  else if s.eng.pending.isNone || !s.mayAbort then s.answers .tooLate
  else s.abortSwitch.okay

/-- The release after the load check, before or after the switch request (R67). -/
def State.releaseLoad (s : State) : Reply :=
  match s.eng.pending, s.eng.switch with
  | some _, none => if s.eng.released then s.answers .state else (s.onEng fun e => { e with released := true }).okay
  | some im, some w =>
    if w.held && !w.staging && !s.eng.released then
      ((s.onEng fun e => { e with released := true }).letStage im { w with held := false }).okay
    else s.answers .state
  | _, _ => s.answers .state

/-- The release after step 3, which names S (R67). -/
def State.releaseStaged (s : State) (req : Nat) : Reply :=
  match s.eng.switch with
  | some w =>
    if !(w.held && w.staged) then s.answers .state
    else
      let first := s.blockA + 2
      let at_ := if req = 0 then first else req
      if at_ < first then s.answers .tooSoon
      else
        let s := s.cancelParks at_
        let s := s.onEng fun e => { e with switch := some { w with block := at_, held := false } }
        ((s.put64 BSQ_SWITCH_LO at_).tellSwitch at_ false).okay
  | none => s.answers .state

def State.cmdGraphRelease (s : State) (b : List Byte) : Reply :=
  let step := fld b 0 1
  if s.standsBy then s.answers .twinStandby
  else if !(step = 1 || step = 3) || !zeros b 1 3 then s.answers .badArgument
  else if !s.flag BSQ_CTRL_SWITCH_HOLD then s.answers .mode
  else if step = 1 then s.releaseLoad
  else s.releaseStaged (fld b 4 8)

def State.cmdGraphStatus (s : State) : Reply :=
  let hot : Nat := match s.eng.switch with | some w => (if w.hot then 1 else 0) | none => 0
  s.okay (leBytes 1 (s.get BSQ_SWITCH_STATE_STEP) ++ leBytes 1 hot ++ leBytes 2 (s.get BSQ_SWITCH_STATE_K) ++ leBytes 4 0 ++
    leBytes 8 (s.get64 BSQ_SWITCH_LO) ++ leBytes 8 (imageIdOf s.eng.running) ++ leBytes 8 (imageIdOf s.eng.pending))

/-- GRAPH_STOP: block S − 1 is the image's last. -/
def State.cmdGraphStop (s : State) (b : List Byte) : Reply :=
  let at_ := fld b 0 8
  if s.standsBy then s.answers .twinStandby
  else if s.eng.running.isNone || s.eng.switch.isSome || s.eng.stopAfter.isSome then s.answers .state
  else if at_ < s.blockA + 2 then s.answers .tooSoon
  else (s.onEng fun e => { e with stopAfter := some (at_ - 1) }).okay

/-! ## The parameter family (R416) -/

/-- Entries accepted in order: how many, and the PSEQ of the first (R384). -/
def State.acceptAll (s : State) : List (List Byte) → State × Nat × Nat
  | [] => (s, 0, 0)
  | e :: es =>
    let (s1, ok) := s.acceptEntry e
    let p := if s1.get SOV_STATUS_ROLE = 2 then s1.get SOV_PSEQ_PSEQ else 0
    let (s2, n, q) := s1.acceptAll es
    if ok then (s2, n + 1, p) else (s2, n, q)

def State.cmdParamSet (s : State) (b : List Byte) : Reply :=
  let n := fld b 0 2
  let es := (List.range n).map fun i => (b.drop (4 + 16 * i)).take 16
  if s.standsBy then s.answers .twinStandby
  else if !decide (1 ≤ n ∧ n ≤ 30) || !zeros b 2 2 || es.any (fun e => decide (2 ≤ fld e 14 2)) then s.answers .badArgument
  else
    let (s1, k, p) := s.acceptAll es
    s1.okay (leBytes 2 k ++ leBytes 2 (n - k) ++ leBytes 4 p)

def State.cmdParamGet (s : State) (b : List Byte) : Reply :=
  match s.eng.running with
  | none => s.answers .badArgument
  | some im =>
    match im.paramInfo (fld b 0 4) with
    | none => s.answers .badArgument
    | some i =>
      let v := s.param i.key
      let now := v.now i.type
      let (t, pos, len) := match v.ramp with | some r => (r.v1, r.pos, r.len) | none => (now, 0, 0)
      s.okay (leBytes 4 now.toNat ++ leBytes 4 t.toNat ++ leBytes 4 pos ++ leBytes 4 len)

/-- RING_SETUP (R428): a ring goes on from its consumer index; a producer index too far ahead halts it at once. -/
def State.setupRing (s : State) (r : Nat) (c : RingCfg) : State :=
  let s : State := { s with host := { s.host with rings := Sparse.put s.host.rings r c } }
  let s := ((s.put (MBX_RING_STAT_ON r) 1).put (MBX_RING_STAT_HALT r) 0).put (MBX_RING_STAT_HALT_CAUSE r) 0
  if 2 ^ c.log2 < s.ringHeld r then s.haltRing r 1 else s

def State.cmdRingSetup (s : State) (b : List Byte) : Reply :=
  let r := fld b 0 1
  let c : RingCfg := ⟨fld b 1 1, fld b 2 1, fld b 4 8, fld b 12 8⟩
  if !decide (r ≤ 7 ∧ 4 ≤ c.log2 ∧ c.log2 ≤ 16) || !(c.vector = 16 + r || c.vector = 0xFF) || !zeros b 3 1 ||
      c.base % 64 ≠ 0 || c.consAddr % 4 ≠ 0 then s.answers .badArgument
  else if s.flag (MBX_RING_STAT_ON r) then s.answers .state
  else (s.setupRing r c).okay

/-- RING_STOP: a ring that is on halts; one that is not is left as it is. -/
def State.cmdRingStop (s : State) (b : List Byte) : Reply :=
  let r := fld b 0 1
  if 7 < r || !zeros b 1 3 then s.answers .badArgument
  else
    let s := if s.flag (MBX_RING_STAT_ON r) then s.haltRing r 3 else s
    s.okay (s.regField (MBX_RING_CONS r))

/-! ## The metering family (R417) -/

def State.cmdMeterSet (s : State) (b : List Byte) : Reply :=
  let n := fld b 0 2
  if 240 < n || !zeros b 2 2 then s.answers .badArgument
  else State.okay { s with host := { s.host with
    meters := (List.range n).map fun i => (fld b (4 + 2 * i) 2, (0 : Word), (0 : Word)) } }

def State.cmdMeterRead (s : State) (b : List Byte) : Reply :=
  let f := fld b 0 2
  let n := fld b 2 2
  let ms := s.host.meters
  if !decide (1 ≤ n ∧ n ≤ 60 ∧ f + n ≤ ms.length) then s.answers .badArgument
  else
    let body := ((ms.drop f).take n).flatMap fun m => leBytes 4 m.2.1.toNat ++ leBytes 4 m.2.2.toNat
    let left := ms.take f ++ (((ms.drop f).take n).map fun m => (m.1, m.2.1, (0 : Word))) ++ ms.drop (f + n)
    State.okay { s with host := { s.host with meters := left } } body

/-! ## The fault family (R418) -/

/-- A channel of the channel map (R315). -/
def channelKnown (n : Nat) : Bool := (fcRow n).isSome

def State.cmdFaultFirst (s : State) : Reply :=
  s.okay (s.regField FCU_FIRST_CH ++ leBytes 8 (s.get64 FCU_FIRST_ADDR_LO) ++ leBytes 8 (s.get64 FCU_FIRST_TIME_LO) ++ s.regField FCU_LOST)

def State.cmdFaultAck (s : State) (b : List Byte) : Reply :=
  let n := fld b 0 2
  if !channelKnown n || !zeros b 2 2 then s.answers .badArgument
  else if !s.flag FCU_FIRST_CH_VALID || s.get FCU_FIRST_CH_CHANNEL ≠ n then s.answers .state
  else (s.put FCU_FIRST_CH_VALID 0).okay

/-- FAULT_CFG: Prosal writes the channel's control word (R313); a severity below SEV_MIN leaves SEV as it is. -/
def State.cmdFaultCfg (s : State) (b : List Byte) : Reply :=
  let n := fld b 0 2
  let sev := fld b 2 1
  let rst := fld b 3 1
  if !channelKnown n || 7 < sev || 1 < rst then s.answers .badArgument
  else
    let s := s.tcwApply (FCU_CH_CFG n) (BitVec.ofNat 32 (rst * 2 ^ 29 + sev))
    s.okay (leBytes 1 (s.get (FCU_CH_CFG_SEV n)) ++ leBytes 1 (s.sevMin n) ++ leBytes 2 0)

def State.cmdCountCfg (s : State) (b : List Byte) : Reply :=
  let n := fld b 0 2
  let (cnt, base, t) := (fld b 2 1, fld b 3 1, fld b 4 4)
  if !(n = 218 || n = 220) || cnt = 0 || !decide (s.sevMin n ≤ base ∧ base ≤ 7 ∧ 1 ≤ t ∧ t ≤ 65535) then s.answers .badArgument
  else (s.writeCountCfg (if n = 218 then 0 else 1) (BitVec.ofNat 32 (cnt * 2 ^ 24 + base * 2 ^ 16 + t))).okay

/-- A record of FAULT_PENDING: LEFT_MS rounded up. -/
def State.pendingRecord (s : State) (n : Nat) : List Byte :=
  let left := match s.fcu.deferred.find? fun d => d.channel = n with
    | some d => (d.deadline - s.time + 999999) / 1000000
    | none => 0
  leBytes 2 n ++ leBytes 1 (s.get (FCU_CH_STATUS_LAST_SEV n)) ++
    leBytes 1 (s.get (FCU_CH_STATUS_PEND n) + 2 * s.get (FCU_CH_STATUS_BROKEN n) + 4 * s.get (FCU_CH_STATUS_DEFERRED n)) ++ leBytes 4 left

def State.cmdFaultPending (s : State) (b : List Byte) : Reply :=
  let f := fld b 0 2
  if 319 < f || !zeros b 2 2 then s.answers .badArgument
  else
    let ns := ((List.range 320).filter fun n => decide (f ≤ n) &&
      (s.flag (FCU_CH_STATUS_PEND n) || s.flag (FCU_CH_STATUS_BROKEN n) || s.flag (FCU_CH_STATUS_DEFERRED n))).take 40
    s.okay (leBytes 2 ns.length ++ leBytes 2 0 ++ ns.flatMap s.pendingRecord)

def State.cmdFaultDecide (s : State) (b : List Byte) : Reply :=
  let n := fld b 0 2
  let sev := fld b 2 1
  if !channelKnown n || 7 < sev || !zeros b 3 1 then s.answers .badArgument
  else if !s.flag FCU_CTRL_HOST then s.answers .mode
  else if !s.flag (FCU_CH_STATUS_DEFERRED n) then s.answers .state
  else (s.writeDecide 0 2 (BitVec.ofNat 32 (2 ^ 31 + sev * 2 ^ 16 + n))).okay

def State.cmdFaultClear (s : State) (b : List Byte) : Reply :=
  let n := fld b 0 2
  if !channelKnown n || !zeros b 2 2 then s.answers .badArgument
  else (s.put (FCU_CH_STATUS_PEND n) 0).okay

/-- How many entries from ring index `i` on the log keeps. -/
def State.logFrom (s : State) (i : Nat) : Nat :=
  let d := (s.memu.logHead + logSize - 1 - i) % logSize
  if d < s.memu.logKept then d + 1 else 0

/-- Entries `i` to `i + n` have been read: those unread among them no longer are. -/
def State.logSeen (s : State) (i n : Nat) : State :=
  let rel := (s.logOldest + logSize - i) % logSize
  if rel < n ∧ 0 < s.memu.logUnread then s.onMemu fun m => { m with logUnread := m.logUnread - (n - rel) } else s

def State.cmdLogRead (s : State) (b : List Byte) : Reply :=
  let i := fld b 0 4
  let n := fld b 4 1
  if logSize ≤ i || !decide (1 ≤ n ∧ n ≤ 7) || !zeros b 5 3 then s.answers .badArgument
  else
    let k := min n (s.logFrom i)
    let body := (List.range k).flatMap fun j => s.logBytes (i + j)
    let s := s.logSeen i k
    s.okay (leBytes 4 s.logOldest ++ leBytes 1 k ++ leBytes 3 0 ++ body)

def State.cmdLogCompact (s : State) : Reply :=
  let (s, ok) := s.compactLog
  s.ledgerDone ok (leBytes 4 s.memu.logUnread)

end Sys2Proof.Machine
end

