-- ==== Sys2Proof/Machine/ProsalMem.lean ====
section
/-! DEFINITION. Machine/ProsalMem.lean: the memory, firmware and Ledger, and security families of Prosal's commands (R419, R420, R423, R432,
R437 to R441). -/
namespace Sys2Proof.Machine

/-! ## The memory family (R419) -/

/-- The 8 MiB window from `a` lies wholly in Depot or wholly in data memory. -/
def State.windowGood (s : State) (a : Nat) : Bool :=
  let r := s.region a
  s.region (a + 0x7FFFFF) = r && (r = .depot || r = .dram)

def State.cmdMemWindow (s : State) (b : List Byte) : Reply :=
  let a := fld b 0 8
  let w := fld b 8 4
  if a % 0x10000 ≠ 0 || 1 < w || !s.windowGood a then s.answers .badArgument
  else if s.boot = .recovery && s.region a ≠ .depot then s.answers .accessRefused
  else
    let s := ((s.put MBX_WINDOW_LO_BASE (a / 0x10000)).put MBX_WINDOW_HI_BASE (a / 2 ^ 32)).put MBX_WINDOW_LO_WRITE w
    (s.loadInbound s.windowSlots).okay

/-- Whether two ranges (start, length) meet. -/
def meets (a n c m : Nat) : Bool := decide (a < c + m ∧ c < a + n)

/-- A range MEM_CRC may read: one region of memory, clear of the firmware area and of the key area. -/
def State.crcRange (s : State) (a n : Nat) : Bool :=
  let r := s.region a
  s.region (a + n - 1) = r && (match r with | .rom => true | .ledger => true | .depot => true | .spm _ => true | .dram => true | _ => false) &&
    !meets a n 0x217C0000 0x40000 && !meets a n 0x10620000 0x10000

def State.cmdMemCrc (s : State) (b : List Byte) : Reply :=
  let a := fld b 0 8
  let n := fld b 8 4
  if !decide (1 ≤ n ∧ n ≤ 0x4000000) || !zeros b 12 4 then s.answers .badArgument
  else if !s.crcRange a n || s.rangeError a n false then s.answers .accessRefused
  else match s.check (s.prosalIssuer 2) a n .load with
    | .ok =>
      match s.readChecks (raiseOf (s.prosalIssuer 2) 2) (wordsOf a n) with
      | (s1, none) => s1.okay (leBytes 4 (crc32c (s1.bytes a n)).toNat)
      | (s1, some _) => s1.answers .accessRefused
    | c => (s.refuse (s.prosalIssuer 2) 2 c).answers .accessRefused

def State.cmdMemStatus (s : State) : Reply :=
  s.okay (s.regField LPD_CONFIG ++ s.regField LPD_REMAP_STATUS ++ s.regField SCB_MARCH_STATUS ++
    (List.range 3).flatMap (fun k => s.regField (DPT_RETIRED k)) ++ (List.range 9).flatMap (fun n => s.regField (SPM_RETIRED n)))

def State.cmdRetirePage (s : State) (b : List Byte) : Reply :=
  if s.region (fld b 0 8) ≠ .dram then s.answers .accessRefused
  else match s.retirePage (pageOf (fld b 0 8)) with
    | (s1, some i, ok) => s1.ledgerDone ok (leBytes 4 i)
    | (s1, none, _) => s1.answers .noSpace

/-- A bank of a memory 0 to 9. -/
def bankKnown (mem bank : Nat) : Bool := decide (mem ≤ 9 ∧ bank < memBanks mem)

def State.cmdRepairRow (s : State) (b : List Byte) : Reply :=
  let (mem, bank, row) := (fld b 0 1, fld b 1 1, fld b 2 2)
  if !bankKnown mem bank || decide (memRows mem ≤ row) then s.answers .badArgument
  else match s.repairRow mem bank row with
    | (s1, some sp, ok) => s1.ledgerDone ok (leBytes 4 sp)
    | (s1, none, _) => s1.answers .noSpace

/-- Whether a running partition uses a scratchpad (R253): its lane belongs to the cluster, or a Layby lane holds it. -/
def State.spmUsed (s : State) (mem : Nat) : Bool :=
  match s.eng.running with
  | none => false
  | some im => (s.placed im).any fun x => x.2.2 / 2 = mem

/-- Whether a Depot bank's set holds a part of an image, of the firmware area or of the jitter buffers. -/
def State.depotUsed (s : State) (set : Nat) : Bool :=
  let held := s.depotHeld.take (s.depotHeld.length - s.memu.depotSetsOut.length) ++
    (match s.eng.pending with | some im => im.held | none => [])
  held.any fun x => x.2 ≠ 0 && meets x.1 x.2 (set * 0x400000) 0x400000

def State.cmdRetireBank (s : State) (b : List Byte) : Reply :=
  let (mem, bank) := (fld b 0 1, fld b 1 1)
  if !bankKnown mem bank || !zeros b 2 2 then s.answers .badArgument
  else if decide (mem < 9) && s.spmUsed mem then s.answers .state
  else
    let (s1, ok) := s.retireBank mem bank
    s1.ledgerDone ok

/-- MARCH starts through SCB.MARCH (R251, R266). -/
def State.cmdMarch (s : State) (b : List Byte) : Reply :=
  let (mem, bank, p) := (fld b 0 1, fld b 1 1, fld b 2 1)
  if !(mem = 10 || bankKnown mem bank) || 1 < p || !zeros b 3 1 || (mem = 10 && p = 0) then s.answers .badArgument
  else
    let bank := if mem = 10 then 0 else bank
    if !s.mayMarch mem bank (p = 1) then s.answers .state
    else (s.writeMarch 0 2 (BitVec.ofNat 32 (2 ^ 31 + p * 2 ^ 12 + mem * 2 ^ 8 + bank))).okay

/-- SCRUB_RANGE (R265): the range lies within one scrubbed memory. -/
def State.cmdScrubRange (s : State) (b : List Byte) : Reply :=
  let (i, a, n, p) := (fld b 0 1, fld b 4 8, fld b 12 8, fld b 20 4)
  let r := s.region a
  if 15 < i || !zeros b 1 3 || !decide (1 ≤ p ∧ p ≤ 604800) then s.answers .badArgument
  else if n = 0 then (s.onMemu fun m => { m with ranges := Sparse.drop m.ranges i }).okay
  else if s.region (a + n - 1) ≠ r || !(match r with | .ledger => true | .depot => true | .spm _ => true | .dram => true | _ => false) then
    s.answers .accessRefused
  else (s.onMemu fun m => { m with ranges := Sparse.put m.ranges i ⟨a, n, p⟩ }).okay

def State.cmdDepotPower (s : State) (b : List Byte) : Reply :=
  let (set, bank, st) := (fld b 0 1, fld b 1 1, fld b 2 1)
  if 5 < set || 15 < bank || 2 < st || !zeros b 3 1 then s.answers .badArgument
  else if st ≠ 2 && s.depotUsed set then s.answers .state
  else (s.moveBank 9 (16 * set + bank) st).okay

/-! ## The firmware and Ledger family (R420) -/

/-- What R353 item 1 asks of the header of a slot image at Depot address `a` of `n` bytes, and R420 of its SEQ. -/
def State.slotImageGood (s : State) (a n : Nat) : Bool :=
  let len := s.le (a + 0x10) 4
  let seq := s.le (a + 0xC) 4
  decide (256 ≤ n) && decide (s.le a 4 = 0x4C535250 ∧ s.le (a + 4) 2 = 0x0100) && decide (len ≤ 0x300000 - 256 ∧ 256 + len ≤ n) &&
    decide (s.le (a + 0x14) 4 < len) && decide ((s.reg (SEN_OPTION_LO 1)).toNat ≤ seq) &&
    (s.boot = .recovery || decide (s.slotSeq s.booted < seq))

/-- Step 2's check of a slot whose first word is still 0 (R276): DIGEST over the written body, SIGNATURE over the header with its FORMAT from
the first word about to be written. -/
def State.slotWritten (s : State) (k first : Nat) : Bool :=
  let o := slotBase k
  sha256 (s.bytes (o + 0x100) (s.le (o + 0x10) 4)) == s.bytes (o + 0x20) 32 &&
    Config.signatureGood (s.bytes (o + 0x40) 64) ((leBytes 8 first).drop 4 ++ s.bytes (o + 8) 56)

/-- FW_PROGRAM's two phases (R276). -/
def State.programSlot (s : State) (k a : Nat) : Reply :=
  let o := 0x300000 * k
  let total := (256 + s.le (a + 0x10) 4 + 7) / 8
  let first := s.le a 8
  let (s1, ok1) := s.putLedger o 0
  if !ok1 then s1.answers .ledgerWrite
  else
    let (s2, ok2) := s1.putLedgers (o + 8) (wordsOfBytes (total - 1) (s.bytes (a + 8) (256 + s.le (a + 0x10) 4 - 8)))
    if !ok2 then s2.answers .ledgerWrite
    else if !s2.slotWritten k first then s2.answers .badArgument
    else
      let (s3, ok3) := s2.putLedger o first
      s3.ledgerDone ok3 (leBytes 4 k ++ leBytes 4 (s3.slotSeq k))

def State.cmdFwProgram (s : State) (b : List Byte) : Reply :=
  let a := 0x20000000 + fld b 0 4
  let n := fld b 4 4
  let u := s.prosalIssuer 2
  if n < 256 then s.answers .badArgument
  else if 0x17C0000 < fld b 0 4 + n || s.rangeError a n false then s.answers .accessRefused
  else match s.check u a n .load with
    | .ok =>
      match s.readChecks (raiseOf u 2) (wordsOf a n) with
      | (s1, some _) => s1.answers .accessRefused
      | (s1, none) => if !s1.slotImageGood a n then s1.answers .badArgument else s1.programSlot (1 - s1.booted) a
    | c => (s.refuse u 2 c).answers .accessRefused

/-- One slot's record of FW_STATUS. -/
def State.slotRecord (s : State) (k : Nat) : List Byte :=
  let o := slotBase k
  leBytes 2 (if s.slotCandidate k && s.slotPasses k then 1 else 0) ++ s.bytes (o + 8) 2 ++ s.bytes (o + 0xA) 2 ++ leBytes 2 0 ++ s.bytes (o + 0xC) 4

def State.cmdFwStatus (s : State) : Reply :=
  s.okay (s.slotRecord 0 ++ s.slotRecord 1 ++ leBytes 4 (if s.boot = .recovery then 0xFF else s.booted))

/-- Whether FW_ACTIVATE is refused (R432 step 2). -/
def State.activateBusy (s : State) : Bool :=
  !s.fcu.deferred.isEmpty || s.sov.choiceBy.isSome || s.eng.switch.isSome || !s.eng.parks.isEmpty || s.flag EXP_MOVE_BUSY || !s.host.recal.isEmpty

def State.cmdFwActivate (s : State) : Reply :=
  if s.boot = .recovery then s.okay
  else if s.activateBusy then s.answers .state
  else s.okay

/-- Prosal serves the Milestone with the token it expects, not before its window opens (R328, R335). -/
def State.serveMilestone (s : State) : State :=
  let s := if s.mile.running && s.get MSW_STATUS_STATE = 1 then s.untilTick (s.get MSW_LAST_TICK_VALUE) s.mile.openT else s
  s.mswService false (BitVec.ofNat 32 (mswToken (s.get MSW_QUESTION_Q) (s.reg MSW_KEY).toNat))

/-- R432 step 3, after the posted commands: the activities are disabled, the Milestone's settings changed and served, and the supervisor restarts
at the boot ROM with FC 21. The settings stand before the service that opens a window under them. -/
def State.afterActivate (s : State) : State :=
  if s.boot = .recovery then s.afterReset
  else
    let s := (List.range 16).foldl (fun s a => s.put (WMK_SUP_CFG_EN a) 0) s
    let s := (s.mswSetting 0x0C (BitVec.ofNat 32 1000000)).mswSetting 0x10 (BitVec.ofNat 32 200000)
    s.serveMilestone.restartSupervisor true

/-- OPTION_WRITE: the word in its three copies, copy by copy (R274). -/
def State.cmdOptionWrite (s : State) (b : List Byte) : Reply :=
  let w := fld b 0 2
  if !s.maintained then s.answers .notPermitted
  else if 191 < w || !zeros b 2 2 then s.answers .badArgument
  else if s.flag LDG_LOCK_OPTION_WRITE then s.answers .locked
  else
    let (s1, ok) := [0, 1, 2].foldl (fun (acc : State × Bool) k =>
      if acc.2 then acc.1.putLedger (0x600000 + 0x4000 * k + 8 * w) (fld b 4 8) else acc) (s, true)
    s1.ledgerDone ok

def State.cmdOptionLock (s : State) (b : List Byte) : Reply :=
  if !s.maintained then s.answers .notPermitted
  else if 3 < fld b 0 4 then s.answers .badArgument
  else (s.tcwApply LDG_LOCK (fldW b 0)).okay

/-- The argument check of both host data commands: their status, none when they may go on. -/
def hostdataBad (b : List Byte) : Option Status :=
  let o := fld b 0 4
  let n := fld b 4 4
  if o % 8 ≠ 0 || n % 8 ≠ 0 || !decide (8 ≤ n ∧ n ≤ 480) then some .badArgument
  else if 0x40000 < o + n then some .accessRefused
  else none

def State.cmdHostdataRead (s : State) (b : List Byte) : Reply :=
  match hostdataBad b with
  | some st => s.answers st
  | none =>
    let a := 0x107C0000 + fld b 0 4
    let n := fld b 4 4
    match s.readChecks (raiseOf (s.prosalIssuer 2) 2) (wordsOf a n) with
    | (s1, none) => s1.okay (s1.bytes a n)
    | (s1, some _) => s1.answers .accessRefused

def State.cmdHostdataWrite (s : State) (b : List Byte) : Reply :=
  match hostdataBad b with
  | some st => s.answers st
  | none =>
    let (s1, ok) := s.putLedgers (0x7C0000 + fld b 0 4) (wordsOfBytes (fld b 4 4 / 8) (b.drop 8))
    s1.ledgerDone ok

/-! ## The security family (R423, R437 to R442) -/

/-- Backup counts per ms of a lockout left, rounded up to the next ms (R331, R441). -/
def State.lockoutMs (s : State) : Nat := ((s.bkp.lockUntil - s.get64 SEN_TIME_LO) * 1000 + 32767) / 32768

/-- What every unlock command meets first (R438, R441), after it its arguments; none when it goes on. -/
def State.unlockBar (s : State) (badArg : Bool) : Option Resp :=
  if s.option0 3 then some ⟨.notPermitted, []⟩
  else if badArg then some ⟨.badArgument, []⟩
  else if s.get64 SEN_TIME_LO < s.bkp.lockUntil then some ⟨.lockout, leBytes 4 s.lockoutMs⟩
  else none

/-- A failure is counted (R441). -/
def State.unlockFails (s : State) : Reply :=
  let f := s.bkp.fails + 1
  let s : State := { s with bkp := { s.bkp with
    fails := f
    lockUntil := if 8 ≤ f then s.get64 SEN_TIME_LO + 32768 * min (2 ^ (f - 8)) 4096 else s.bkp.lockUntil } }
  (s.drive 305).answers .notPermitted

/-- A successful unlock (R441): the failures are forgotten, and a level in force is never lowered. -/
def State.unlocks (s : State) (l method : Nat) : Reply :=
  let s : State := { s with bkp := { s.bkp with fails := 0 } }
  let s := if l < s.get DBG_STATUS_LEVEL then s else s.setLevel l method
  s.okay (leBytes 4 (s.get DBG_STATUS_LEVEL))

/-- A LEVEL field of 1 or 2 with three reserved bytes after it. -/
def levelBad (b : List Byte) : Bool := !(fld b 0 1 = 1 || fld b 0 1 = 2) || !zeros b 1 3

def State.cmdUnlockNonce (s : State) (b : List Byte) : Reply :=
  match s.unlockBar (levelBad b) with
  | some r => (s, r)
  | none =>
    let (x, s) := s.draw
    let (y, s) := s.draw
    let s : State := { s with gate := { s.gate with nonce := some ⟨x ++ y, fld b 0 1, s.up⟩ } }
    s.okay (leBytes 16 (x ++ y).toNat)

/-- The 25 bytes an HMAC unlock covers (R439). -/
def unlockMessage (n : Nonce) : List Byte := leBytes 16 n.value.toNat ++ leBytes 1 n.level ++ leBytes 8 Config.serial.toNat

/-- First byte of the device unlock key; the digests of the two levels follow the image keys. -/
def keyArea : Nat := 0x10620000

def State.cmdUnlockHmac (s : State) (b : List Byte) : Reply :=
  match s.unlockBar (levelBad b) with
  | some r => (s, r)
  | none =>
    let n := s.gate.nonce
    let s : State := { s with gate := { s.gate with nonce := none } }
    match n with
    | none => s.answers .state
    | some n =>
      if 10000000000 < s.up - n.issued || n.level ≠ fld b 0 1 then s.answers .state
      else if hmac256 (s.bytes keyArea 32) (unlockMessage n) == (b.drop 4).take 32 then s.unlocks n.level 1
      else s.unlockFails

def State.cmdUnlockPassword (s : State) (b : List Byte) : Reply :=
  match s.unlockBar (levelBad b) with
  | some r => (s, r)
  | none =>
    let l := fld b 0 1
    let d := s.bytes (keyArea + 0xA0 + 0x20 * (l - 1)) 32
    if d.all (· = 0) then s.answers .notPermitted
    else if sha256 ((b.drop 4).take 16) == d then s.unlocks l 2
    else s.unlockFails

def State.cmdLock (s : State) : Reply := (s.setLevel 0 0).okay

/-- KEY_SET: an image key slot that is empty (all zero) takes a key. -/
def State.cmdKeySet (s : State) (b : List Byte) : Reply :=
  let k := fld b 0 1
  if !s.maintained then s.answers .notPermitted
  else if 3 < k || !zeros b 1 3 then s.answers .badArgument
  else if s.flag LDG_LOCK_KEY_WRITE then s.answers .locked
  else if (s.bytes (keyArea + 0x20 + 0x20 * k) 32).any (· ≠ 0) then s.answers .state
  else
    let (s1, ok) := s.putLedgers (0x620020 + 0x20 * k) (wordsOfBytes 4 ((b.drop 4).take 32))
    s1.ledgerDone ok

end Sys2Proof.Machine
end

