-- ==== Sys2Proof/Machine/ProsalTwin.lean ====
section
/-! DEFINITION. Machine/ProsalTwin.lean: the twin and mode families of Prosal's commands (R421, R422, R429 to R431). -/
namespace Sys2Proof.Machine

/-! ## The twin family (R421) -/

/-- TWIN_CFG: reserved bits must be 0, and REPAIR_LEAD lies in 6 to 64. -/
def State.cmdTwinCfg (s : State) (b : List Byte) : Reply :=
  let v := fldW b 0
  let lead := v.toNat / 2 ^ 16 % 256
  if v &&& ~~~0x00FF01FF ≠ 0 || !decide (6 ≤ lead ∧ lead ≤ 64) then s.answers .badArgument
  else (s.writeSovCtrl v).okay

def State.cmdTwinStatus (s : State) : Reply :=
  s.okay (s.regField SOV_STATUS ++ s.regField SOV_PEER ++ s.regField SOV_PEER_CLASS ++ s.regField SOV_TAKE_INFO ++
    leBytes 8 (s.get64 SOV_TAKE_LO) ++ s.regField SOV_COMPARE ++ s.regField SOV_JOIN)

/-- TWIN_SWAP (R392). -/
def State.cmdTwinSwap (s : State) (b : List Byte) : Reply :=
  let at_ := fld b 0 8
  if s.standsBy then s.answers .twinStandby
  else if !s.standbyReady || s.sov.join.isSome || s.eng.switch.isSome || s.clk.step.isSome || s.sov.swapAt.isSome then s.answers .state
  else if at_ < s.blockA + 2 then s.answers .tooSoon
  else ((s.onSov fun v => { v with swapAt := some at_ }).sendCmd 1 0 0 at_ 0).okay (leBytes 8 at_)

/-- Whether case 3 of R389 holds for a ready standby in host-assisted mode. -/
def State.mayTake (s : State) : Bool :=
  (s.get SOV_STATUS_ROLE = 4 || s.get SOV_STATUS_ROLE = 5) && s.sov.syncGood && s.sov.choiceBy.isNone && !s.flag FCU_STATUS_SAFE &&
    s.flag SOV_CTRL_HOST && s.get SOV_STATUS_PEER_HEALTH = 2 && s.sov.heartLost

/-- TWIN_TAKE: the takeover follows at the next processing-rate frame boundary (STANDBY_TAKEOVER), with cause 4. -/
def State.cmdTwinTake (s : State) : Reply :=
  if !s.mayTake then s.answers .state
  else (s.onSov fun v => { v with cause := 4 }).okay

/-- TWIN_CHOICE (R387): rejoin, swap roles, OUT. -/
def State.cmdTwinChoice (s : State) (b : List Byte) : Reply :=
  let c := fld b 0 1
  if 2 < c || !zeros b 1 3 then s.answers .badArgument
  else if s.sov.choiceBy.isNone then s.answers .state
  else State.okay (match c with
    | 0 => s.setRole 3
    | 1 => s.takeOutputs 5
    | _ => s.setRole 6)

def State.cmdTwinJoin (s : State) : Reply :=
  if s.get SOV_STATUS_ROLE ≠ 6 then s.answers .state else (s.setRole 3).okay

def State.cmdTwinRelay (s : State) (b : List Byte) : Reply :=
  if s.get SOV_STATUS_LINK ≠ 2 then s.answers .state
  else (s.sendCmd 9 0 0 (fld b 0 8) (fld b 8 8)).okay

def State.cmdRelayRead (s : State) : Reply :=
  match s.sov.relay with
  | [] => s.okay (List.replicate 20 0)
  | (x, y) :: l => (s.onSov fun v => { v with relay := l }).okay (leBytes 4 l.length ++ leBytes 8 x ++ leBytes 8 y)

/-! ## Modes (R422, R429, R430) -/

/-- Whether function `f` is host-assisted. -/
def State.modeOf (s : State) (f : Nat) : Bool :=
  match f with
  | 0 => s.flag SCB_CTRL_HOST
  | 1 => s.memu.hostRetire
  | 2 => s.flag FCU_CTRL_HOST
  | 3 => s.eng.hostSparing
  | 4 => s.flag SOV_CTRL_HOST
  | 5 => s.flag MCK_CTRL_HOST_SERVO
  | 6 => s.flag BSQ_CTRL_SWITCH_HOLD
  | 7 => s.eng.hostRamp
  | 8 => s.net.hostConceal
  | 9 => s.memu.hostCompact
  | 10 => s.eng.hostPower
  | _ => false

/-- Whether a change of function `f` is stamped and not yet in force. -/
def State.modePending (s : State) (f : Nat) : Bool :=
  match f with
  | 3 => s.eng.sparingChange.isSome
  | 7 => s.eng.rampChange.isSome
  | 10 => s.eng.powerChange.isSome
  | _ => false

/-- A set of functions as bits. -/
def bitsOf (p : Nat → Bool) : Nat := (List.range 11).foldl (fun m f => if p f then m + 2 ^ f else m) 0

def State.cmdModeGet (s : State) : Reply := s.okay (leBytes 4 (bitsOf s.modeOf) ++ leBytes 4 (bitsOf s.modePending))

/-- A pending change of function `f` is given up. -/
def State.dropMode (s : State) (f : Nat) : State :=
  match f with
  | 3 => s.onEng fun e => { e with sparingChange := none }
  | 7 => s.onEng fun e => { e with rampChange := none, rampStopped := false }
  | 10 => s.onEng fun e => { e with powerChange := none }
  | _ => s

/-- On return to hardware retirement, Prosal applies R267 to the log entries of the last 24 h, oldest first: a correctable error of a word with an
earlier entry came after its write-back. -/
def State.retireLogged (s : State) : State :=
  let n := s.memu.logKept
  let es := (List.range n).map fun i => s.logAt (s.memu.logHead + logSize - n + i)
  let es := es.filter fun e => decide (s.time ≤ e.last + 86400000000000)
  es.zipIdx.foldl (fun s x =>
    let again := (es.take x.2).any fun e => e.channel = x.1.channel && e.addr / 8 = x.1.addr / 8
    s.retirePolicy x.1.channel { addr := some x.1.addr, tagged := x.1.flags % 2 = 1, note := if again then 1 else 0 }) s

/-- The block at which a change of function 3 or 7 takes effect. -/
def State.modeBlock (s : State) (b : Nat) : Nat := if b = 0 ∨ s.checkpointTaken b then s.nextCheckpoint else b

/-- A change of mode is made or stamped: the state, and the block at which it takes effect, 0 at once. -/
def State.changeMode (s : State) (f : Nat) (h : Bool) (b : Nat) : State × Nat :=
  let bit : Nat := if h then 1 else 0
  match f with
  | 0 => (s.put SCB_CTRL_HOST bit, 0)
  | 1 =>
    let s := s.onMemu fun m => { m with hostRetire := h }
    (if h then s else s.retireLogged, 0)
  | 2 => (s.put FCU_CTRL_HOST bit, 0)
  | 3 => (s.onEng fun e => { e with sparingChange := some (s.modeBlock b, h) }, s.modeBlock b)
  | 4 => (s.writeSovCtrl (SOV_CTRL_HOST.write (s.reg SOV_CTRL) bit), 0)
  | 5 => (s.setServo h, 0)
  | 6 => (s.put BSQ_CTRL_SWITCH_HOLD bit, 0)
  | 7 => (s.onEng fun e => { e with rampChange := some (s.modeBlock b, h), rampStopped := false }, s.modeBlock b)
  | 8 => ({ s with net := { s.net with hostConceal := h } }, 0)
  | 9 => (s.onMemu fun m => { m with hostCompact := h }, 0)
  | _ =>
    let s := s.onEng fun e => { e with powerChange := some h }
    if s.eng.running.isNone then (s.powerMode, 0) else (s, s.nextCheckpoint)

/-- A primary forwards a change of function 6, 7 or 8 in a CMD HOST frame (R413), whose host data the spec does not lay out: two free
values. -/
def State.forwardMode (s : State) (f : Nat) : State :=
  if s.get SOV_STATUS_ROLE = 2 && decide (6 ≤ f ∧ f ≤ 8) && s.get SOV_STATUS_LINK = 2 then
    let (x, s) := s.draw
    let (y, s) := s.draw
    s.sendCmd 9 0 0 x.toNat y.toNat
  else s

/-- Whether the rules of R429 refuse a change of function `f`. -/
def State.modeRefused (s : State) (f : Nat) : Bool := (f = 5 && s.paired) || (f = 6 && s.eng.switch.isSome)

def State.cmdModeSet (s : State) (b : List Byte) : Reply :=
  let f := fld b 0 1
  let m := fld b 1 1
  let h := m = 1
  if s.standsBy && decide (6 ≤ f ∧ f ≤ 8) then s.answers .twinStandby
  else if 10 < f || 1 < m || !zeros b 2 2 then s.answers .badArgument
  else if s.modeOf f = h then (s.dropMode f).okay (leBytes 8 0)
  else if s.modeRefused f then s.answers .state
  else
    let (s1, n) := s.changeMode f h (fld b 4 8)
    (s1.forwardMode f).okay (leBytes 8 n)

/-! ## Lanes (R422, R431) -/

/-- Layby lanes free for a further park: free, and no planned park's destination. -/
def State.parkLanes (s : State) : List Nat :=
  [16, 17].filter fun y => s.laybyFree y && !s.eng.parks.any fun k => !k.back && k.layby = y

/-- Whether a move that leaves `left` free Layby lanes needs FORCE (R422). -/
def State.needsForce (s : State) (left : Nat) : Bool := left = 0 && !s.standbyReady

/-- A move of logical lane `l` is planned. -/
def State.planMove (s : State) (k : Park) (lead : Nat) : Reply :=
  (s.onEng fun e => { e with parks := e.parks ++ [k] }).okay (leBytes 8 k.block ++ leBytes 4 lead)

/-- A park to a free Layby lane; the copy of the footprint must fit in the pool. -/
def State.parkLane (s : State) (l p lead footprint : Nat) (force : Bool) : Reply :=
  match s.parkLanes with
  | [] => s.answers .state
  | y :: rest =>
    if s.flag (BSQ_LANE_MAP_ON_LAYBY l) || s.eng.outOfService.contains l then s.answers .state
    else if !force && s.needsForce rest.length then s.answers .state
    else if 65536 < s.poolUsed.length + s.poolWithheld + (footprint + 63) / 64 then s.answers .noSpace
    else s.planMove ⟨l, y, false, p, 0⟩ lead

/-- A return to the home lane: its cluster is woken, and the Layby lane reads 5 (R68). -/
def State.returnLane (s : State) (l p lead : Nat) : Reply :=
  let y := s.get (BSQ_LANE_MAP_PHYS l)
  if !s.flag (BSQ_LANE_MAP_ON_LAYBY l) || s.eng.outOfService.contains l then s.answers .state
  else
    let use := s.get (laybyUse y)
    let s := if s.get (PWR_CLUSTER_STATE (l / 2)) = 3 then s else s.wakeCluster (l / 2)
    (s.put (laybyUse y) 5).planMove ⟨l, y, true, p, use⟩ lead

/-- In host-assisted sparing, the Layby lane whose standing shadow serves the lane takes its partition (R32). -/
def State.spareByHost (s : State) (l p lead : Nat) (force : Bool) : Reply :=
  if !s.eng.hostSparing then s.answers .mode
  else match [16, 17].find? fun y => s.get (laybyUse y) = 2 && s.get (laybyLogical y) = l with
    | none => s.answers .state
    | some y =>
      if !force && s.needsForce s.parkLanes.length then s.answers .state else s.planMove ⟨l, y, false, p, 0⟩ lead

def State.cmdLaneMove (s : State) (b : List Byte) : Reply :=
  let (l, act, flags) := (fld b 0 1, fld b 1 1, fld b 2 2)
  if 15 < l || 2 < act || 1 < flags then s.answers .badArgument
  else match s.eng.running with
    | none => s.answers .state
    | some im =>
      match im.partOn l with
      | none => s.answers .state
      | some q =>
        let f := match im.parts[q]? with | some x => x.footprint | none => 0
        let k := leadBlocks f im.rate im.bsize
        let first := s.blockA + k + 2
        let p := if fld b 4 8 = 0 then first else fld b 4 8
        if s.eng.parks.any fun m => m.logical = l then s.answers .state
        else if p < first then s.answers .tooSoon
        else if (match s.eng.switch with | some w => decide (w.block ≤ p) | none => false) then s.answers .state
        else match act with
          | 0 => s.parkLane l p k f (flags = 1)
          | 1 => s.returnLane l p k
          | _ => s.spareByHost l p k (flags = 1)

/-- Whether a lane carries a partition, or a Layby lane serves or will serve one. -/
def State.laneCarries (s : State) (p : Nat) : Bool :=
  (match s.eng.running with
   | some im => (s.placed im).any fun x => x.2.2 = p
   | none => false) ||
    (isLayby p && (s.get (laybyUse p) ≠ 0 || s.eng.parks.any fun k => k.layby = p))

/-- A lane that passes its test is in service again, with the three cores of its triad (R159, R431). -/
def State.serveLane (s : State) (p : Nat) : State :=
  let parked := [16, 17].any fun y => 4 ≤ s.get (laybyUse y) && s.get (laybyLogical y) = p && !isLayby p
  let s := s.onEng fun e => { e with outOfService := e.outOfService.filter (· ≠ p), testing := e.testing.filter (· ≠ p) }
  let s := s.onTriad (p + 1) fun x => { x with mode := 0, odd := 0, joinedAt := [], upset := [] }
  (s.put (BSQ_LANE_STAT_STATE p) (if parked then 6 else 0)).setRoute p

def State.cmdLaneService (s : State) (b : List Byte) (pass : Bool) : Reply :=
  let (p, act) := (fld b 0 1, fld b 1 1)
  if 17 < p || 1 < act || !zeros b 2 2 then s.answers .badArgument
  else if s.laneCarries p then s.answers .state
  else if act = 1 then (s.outLane p).okay (leBytes 4 0)
  else if pass then (s.serveLane p).okay (leBytes 4 0)
  else (s.outLane p).okay (leBytes 4 1)

def State.cmdClusterPin (s : State) (b : List Byte) : Reply :=
  let (c, pin) := (fld b 0 1, fld b 1 1)
  if 8 < c || 4 < pin || !zeros b 2 2 then s.answers .badArgument
  else if !s.eng.hostPower && pin ≠ 0 then s.answers .mode
  else (s.put (PWR_CLUSTER_PIN c) pin).okay

/-- Whether an express move may be armed now (R195, R196). -/
def State.expressMayMove (s : State) (blk : Nat) (back : Bool) : Bool :=
  let here := s.flag EXP_STATUS_LAYBY_BUSY && s.get EXP_STATUS_LAYBY_FOR = blk
  s.eng.running.isSome && !s.flag EXP_MOVE_BUSY &&
    (if back then here || s.exp.out.contains blk else s.laybyExpressFree && !here && !s.exp.out.contains blk)

def State.cmdExpressMove (s : State) (b : List Byte) : Reply :=
  let (blk, back) := (fld b 0 1, fld b 1 1)
  let p := fld b 4 8
  if 7 < blk || 1 < back || !zeros b 2 2 then s.answers .badArgument
  else if p < s.blockA + 2 then s.answers .tooSoon
  else if !s.expressMayMove blk (back = 1) then s.answers .state
  else ((s.put64 EXP_MOVE_LO p).writeExpMove 0 2 (BitVec.ofNat 32 (2 ^ 31 + back * 16 + blk))).okay (leBytes 8 p)

end Sys2Proof.Machine
end

