-- ==== Sys2Proof/Machine/ProsalPort.lean ====
section
/-! DEFINITION. Machine/ProsalPort.lean: the clock and port families of Prosal's commands (R203 to R205, R209, R424, R433). -/
namespace Sys2Proof.Machine

/-- Whether a register value sets no reserved bit of the register at `a` (R9, R412). -/
def regFits (a : Nat) (v : Word) : Bool :=
  match regAt a with
  | some (r, _) => (List.range 32).all fun i => !v.getLsbD i || r.rows.any fun f => decide (f.lo ≤ i ∧ i < f.lo + f.width)
  | none => false

/-! ## The clock family -/

/-- CLOCK_CFG: MCK.CTRL without STEP_REQ; HOST_SERVO stays as function 5 has it. -/
def State.cmdClockCfg (s : State) (b : List Byte) : Reply :=
  let v := fldW b 0
  let n := v.toNat
  if !regFits MCK_CTRL v || 4 < n % 8 || 6 < n / 16 % 8 || 2 < n / 512 % 4 then s.answers .badArgument
  else (s.writeMckCtrl 0 2 (MCK_CTRL_HOST_SERVO.write (MCK_CTRL_STEP_REQ.write v 0) (s.get MCK_CTRL_HOST_SERVO))).okay

/-- The signed value of a 4-bit field. -/
def signed4 (v : Word) (lo : Nat) : Int := (BitVec.ofNat 4 (v.toNat / 2 ^ lo)).toInt

def State.cmdPtpCfg (s : State) (b : List Byte) : Reply :=
  let v := fldW b 0
  let p := fldW b 4
  let within (lo : Nat) (a z : Int) : Bool := decide (a ≤ signed4 v lo ∧ signed4 v lo ≤ z)
  if !regFits MCK_PTP_CFG v || !regFits MCK_PTP_PRIO p || !within 20 (-7) 5 || !within 12 (-3) 4 || !within 8 (-7) 1 ||
      !decide (2 ≤ v.toNat / 2 ^ 16 % 16 ∧ v.toNat / 2 ^ 16 % 16 ≤ 10) then s.answers .badArgument
  else ((s.writePtpCfg 0 2 v).writePlain 2 MCK_PTP_PRIO p).okay

def State.cmdClockStatus (s : State) : Reply :=
  s.okay (s.regField MCK_STATUS ++ s.regField MCK_PHASE_ERR ++ s.regField MCK_FREQ ++ s.regField MCK_OFFSET ++ s.regField MCK_MPD ++
    s.regField MCK_COUNTS ++ leBytes 8 (s.get64 MCK_GM_ID_LO))

/-- SERVO_INPUT (R231). -/
def State.cmdServoInput (s : State) (b : List Byte) : Reply :=
  let flags := fld b 8 4
  if s.standsBy then s.answers .twinStandby
  else if 3 < flags then s.answers .badArgument
  else if !s.flag MCK_CTRL_HOST_SERVO then s.answers .mode
  else
    let s := s.writeHostFreq 0 2 (fldW b 0)
    let s := if flags % 2 = 1 then s.writeHostPhase 0 2 (fldW b 4) else s
    (if 2 ≤ flags then s.writeMckCtrl 0 2 (MCK_CTRL_STEP_REQ.write (s.reg MCK_CTRL) 1) else s).okay

/-- BLOCK_PRESET (R16, R17). -/
def State.cmdBlockPreset (s : State) (b : List Byte) : Reply :=
  if s.standsBy then s.answers .twinStandby
  else if s.ptpLocked then s.answers .state
  else (s.put64 BSQ_PRESET_LO (fld b 0 8)).armPreset.okay

/-! ## Limits of streams (R203 to R205, R209) -/

/-- Channels as R204 counts them: twice at 176.4 and 192 kHz. -/
def weight (channels format : Nat) : Nat := if 5 ≤ fmtRate format then 2 * channels else channels

/-- Channels the receive streams other than `i` hold. -/
def State.rxHeld (s : State) (i : Nat) : Nat := ((s.net.rx.filter fun e => e.1 ≠ i).map fun e => weight e.2.channels e.2.format).sum

def State.txHeld (s : State) (i : Nat) : Nat := ((s.net.tx.filter fun e => e.1 ≠ i).map fun e => weight e.2.channels e.2.format).sum

/-- Where the buffer of stream `i` lies in the region: at the least offset clear of the other streams' (DESIGN CHOICE: R209 names no place). -/
def State.jitterBase (s : State) (i need : Nat) : Option Nat :=
  let others := (s.net.rx.filter fun e => e.1 ≠ i).map fun e => (e.2.base, jitterBytes e.2.channels e.2.depthLog)
  let clear (c : Nat) : Bool := decide (c + need ≤ s.get NPE_JBUF_SIZE * 0x10000) && others.all fun o => decide (c + need ≤ o.1 ∨ o.1 + o.2 ≤ c)
  ((0 :: others.map fun o => o.1 + o.2).filter clear).min?

/-- Payload bytes of a packet. -/
def payloadBytes (channels format : Nat) : Nat := channels * fmtP format * fmtBytes format

/-- 2,112 times the wire rate of a stream in bit/s (R203); every P divides 2,112. -/
def wireRate (channels format : Nat) (tagged : Bool) : Nat :=
  2112 / fmtP format * rateHz (fmtRate format) * (payloadBytes channels format + 78 + (if tagged then 4 else 0)) * 8

/-- 2,112 times what the streams received on a port take. -/
def State.rxWire (s : State) (k : Nat) : Nat :=
  (s.net.rx.map fun e => if (legOn e.2.ports (fmtProt e.2.format) k).isSome
    then wireRate e.2.channels e.2.format (s.get (NP_CTRL_VID k) ≠ 0) else 0).sum

/-- 2,112 times what the streams sent on a port take. -/
def State.txWire (s : State) (k : Nat) : Nat :=
  (s.net.tx.map fun e => match legOn e.2.ports (fmtProt e.2.format) k with
    | some blue => wireRate e.2.channels e.2.format (decide (2 ^ 15 ≤ (if blue then e.2.blue else e.2.red).vlan))
    | none => 0).sum

/-- 95 % of a port's MAC rate in bit/s; none while it is disabled. -/
def State.portLimit (s : State) (k : Nat) : Option Nat :=
  match s.get (NP_CTRL_SPEED k) with | 1 => some 23750000000 | 2 => some 9500000000 | _ => none

/-- A port's wire rate exceeds R203 in one direction. -/
def State.overRate (s : State) (k : Nat) : Bool :=
  match s.portLimit k with
  | some l => decide (2112 * l < s.rxWire k ∨ 2112 * l < s.txWire k)
  | none => false

def State.anyOverRate (s : State) : Bool := (List.range 4).any s.overRate

/-- A FORMAT byte with PORTS: bit 7 is 0, a rate of R205, a payload within its bound; a protected stream names the pair. -/
def formatGood (channels format ports : Nat) : Bool :=
  decide (1 ≤ channels ∧ channels ≤ 64 ∧ format < 128 ∧ 1 ≤ fmtRate format ∧ fmtRate format ≤ 6) &&
    decide (payloadBytes channels format ≤ 1440) && (if fmtProt format then ports = 0 || ports = 2 else decide (ports ≤ 3))

/-! ## Stream records (R424) -/

/-- A receive leg of a record. -/
def rxLeg (b : List Byte) (o : Nat) : RxLeg := ⟨fld b o 4, fld b (o + 4) 4, fld b (o + 8) 2⟩

/-- The stream of a receive record. -/
def rxRecord (b : List Byte) : RxStream :=
  { channels := fld b 2 1, format := fld b 3 1, firstCh := fld b 4 2, pt := fld b 6 1, conceal := fld b 7 1, ports := fld b 8 1
    depthLog := fld b 0xA 1, lo := fld b 0xC 2, absentMs := if fld b 0xE 2 = 0 then 50 else fld b 0xE 2, offset := fld b 0x10 4
    red := rxLeg b 0x18, blue := rxLeg b 0x28 }

/-- The rules of a receive record. -/
def rxRecordGood (b : List Byte) : Bool :=
  let r := rxRecord b
  decide (fld b 0 2 ≤ 4095) && formatGood r.channels r.format r.ports && decide (r.firstCh + r.channels ≤ 0x4000) &&
    decide (r.pt ≤ 127 ∧ r.conceal ≤ 1 ∧ 6 ≤ r.depthLog ∧ r.depthLog ≤ 13 ∧ fld b 0xE 2 ≤ 1000) &&
    decide (fmtP r.format + 1 ≤ r.lo ∧ r.lo + fmtP r.format ≤ 2 ^ r.depthLog) &&
    zeros b 9 1 && zeros b 0xB 1 && zeros b 0x14 4 && zeros b 0x22 6 && zeros b 0x32 6 && (fmtProt r.format || zeros b 0x28 16)

/-- IGMPv3 reports of the groups a change of the stream table joins or leaves, on each port (R200, R424). -/
def State.reportJoins (s t : State) : State :=
  (List.range 4).foldl (fun u k =>
    let u := ((t.joins k).filter fun g => !(s.joins k).contains g).foldl (fun u g => u.sendReport k g 5 4) u
    ((s.joins k).filter fun g => !(t.joins k).contains g).foldl (fun u g => u.sendReport k g 6 3) u) t

def State.cmdRxStreamSet (s : State) (b : List Byte) : Reply :=
  let i := fld b 0 2
  let r := rxRecord b
  if !rxRecordGood b then s.answers .badArgument
  else if 16384 < s.rxHeld i + weight r.channels r.format then s.answers .noSpace
  else match s.jitterBase i (jitterBytes r.channels r.depthLog) with
    | none => s.answers .noSpace
    | some base =>
      let t := (s.setRx i { r with base := base }).setReg (NPE_RXSTAT i) (BitVec.ofNat 32 (2 ^ 29))
      if t.anyOverRate then s.answers .bandwidth else (s.reportJoins t).okay

/-- A transmit leg of a record. -/
def txLeg (b : List Byte) (o : Nat) : TxLeg :=
  { srcMac := fld b o 6, dstMac := fld b (o + 6) 6, vlan := fld b (o + 12) 2, dscp := fld b (o + 14) 1, ttl := fld b (o + 15) 1
    srcIp := fld b (o + 16) 4, dstIp := fld b (o + 20) 4, srcPort := fld b (o + 24) 2, dstPort := fld b (o + 26) 2 }

/-- The stream of a transmit record. -/
def txRecord (b : List Byte) : TxStream :=
  { channels := fld b 2 1, format := fld b 3 1, pt := fld b 6 1, ports := fld b 8 1, ssrc := fld b 0xC 4, offset := fld b 0x10 4
    txOffset := fld b 0x14 2, red := txLeg b 0x18, blue := txLeg b 0x38 }

/-- The rules of a transmit record: TX_OFFSET is at most half a packet time (R215). -/
def txRecordGood (b : List Byte) : Bool :=
  let r := txRecord b
  decide (fld b 0 2 ≤ 4095) && formatGood r.channels r.format r.ports && decide (r.pt ≤ 127 ∧ r.red.dscp ≤ 63 ∧ r.blue.dscp ≤ 63) &&
    decide (r.txOffset * 20 * rateHz (fmtRate r.format) ≤ fmtP r.format * 1000000000) &&
    zeros b 4 2 && zeros b 7 1 && zeros b 9 3 && zeros b 0x16 2 && zeros b 0x34 4 && zeros b 0x54 4 && (fmtProt r.format || zeros b 0x38 32)

def State.cmdTxStreamSet (s : State) (b : List Byte) : Reply :=
  let i := fld b 0 2
  let r := txRecord b
  if !txRecordGood b then s.answers .badArgument
  else if 16384 < s.txHeld i + weight r.channels r.format then s.answers .noSpace
  else
    let t := (s.setTx i r).setReg (NPE_TXSTAT i) (BitVec.ofNat 32 (2 * 2 ^ 29))
    if t.anyOverRate then s.answers .bandwidth else t.okay

def State.cmdStreamDelete (s : State) (b : List Byte) : Reply :=
  let (d, i) := (fld b 0 1, fld b 2 2)
  if 1 < d || !zeros b 1 1 || 4095 < i then s.answers .badArgument
  else if d = 0 then
    if (s.rxAt i).isNone then s.answers .state
    else (s.reportJoins (State.setReg { s with net := { s.net with rx := Sparse.drop s.net.rx i } } (NPE_RXSTAT i) 0)).okay
  else if (s.txAt i).isNone then s.answers .state
  else (State.setReg { s with net := { s.net with tx := Sparse.drop s.net.tx i } } (NPE_TXSTAT i) 0).okay

def State.cmdConcealChoice (s : State) (b : List Byte) : Reply :=
  let (i, p) := (fld b 0 2, fld b 2 1)
  if s.standsBy then s.answers .twinStandby
  else if 4095 < i || 1 < p || !zeros b 3 1 then s.answers .badArgument
  else if !s.net.hostConceal then s.answers .mode
  else match s.rxAt i with
    | none => s.answers .state
    | some r => if !r.episode then s.answers .state
      else ((s.setRx i { r with choice := some (p, fld b 4 8) }).put (NPE_RXSTAT_HOST_WAIT i) 0).okay

/-! ## Ports -/

/-- NET_PORT_CFG: the low 6 bytes of MAC are used; the streams it carries must stay within R203. -/
def State.cmdNetPortCfg (s : State) (k : Nat) (b : List Byte) : Reply :=
  let v := fldW b 0
  if !regFits (NP_CTRL k) v || v.toNat % 4 = 3 || !regFits (NP_PTP_ASYM k) (fldW b 16) then s.answers .badArgument
  else
    let t := s.writeNp 2 (NP_CTRL k) v
    let t := ((t.setReg (NP_MAC_LO k) (fldW b 4)).put (NP_MAC_HI_MAC k) (fld b 8 2)).setReg (NP_IPV4 k) (fldW b 12)
    let t := t.writePlain 2 (NP_PTP_ASYM k) (fldW b 16)
    if t.overRate k then s.answers .bandwidth else t.okay

def State.cmdTdmCfg (s : State) (k : Nat) (b : List Byte) : Reply :=
  let v := fldW b 0
  if !regFits (TDM_FORMAT k) v then s.answers .badArgument
  else
    let s := s.writeTdmFormat k 0 2 v
    if s.get (TDM_STATUS_STATE k) = 4 then s.answers .badArgument else s.okay (s.regField (TDM_STATUS k))

/-- A port that carries an unprotected stream. -/
def State.carriesPlain (s : State) (k : Nat) : Bool :=
  (s.net.rx.any fun e => !fmtProt e.2.format && e.2.ports = k) || s.net.tx.any fun e => !fmtProt e.2.format && e.2.ports = k

/-- Whether R433 refuses a recalibration without FORCE; PTP state 6 is SLAVE. -/
def State.recalRefused (s : State) (kind k : Nat) : Bool :=
  if kind = 0 then s.carriesPlain k || s.get (NP_STATUS_PTP_STATE k) = ptpSlave || !s.portUp (k / 2 * 2 + (1 - k % 2))
  else !decide (3 ≤ ((List.range 4).filter fun c => s.get (SOV_CHAN_STATE c) = 2).length)
where
  ptpSlave : Nat := 6

/-- The port goes down, its channel raised reduced; the serial channel leaves UP without FC 289. -/
def State.startRecal (s : State) (kind k : Nat) : State :=
  let s : State := { s with host := { s.host with recal := s.host.recal.filter (· ≠ 4 * kind + k) ++ [4 * kind + k] } }
  if kind = 0 then
    let t := ((s.put (NP_STATUS_LINK k) 0).put (NP_STATUS_BLOCK_LOCK k) 0).put (NP_STATUS_FEC_ALIGN k) 0
    if s.flag (NP_STATUS_LINK k) then t.drive (248 + k) { reduced := true } else t
  else if s.get (SOV_CHAN_STATE k) = 2 then ((s.put (SOV_CHAN_STATE k) 1).setLinkChan k {}).linkFollows
  else s

/-- PORT_RECAL: DURATION_US is a free value within the bound of R433. -/
def State.cmdPortRecal (s : State) (b : List Byte) : Reply :=
  let (kind, k, flags) := (fld b 0 1, fld b 1 1, fld b 2 2)
  if 1 < kind || 3 < k || 1 < flags then s.answers .badArgument
  else if flags = 0 && s.recalRefused kind k then s.answers .state
  else
    let (x, s) := s.draw
    (s.startRecal kind k).okay (leBytes 4 (x.toNat % (if kind = 0 then 40001 else 20001)))

def State.cmdPortStatus (s : State) (b : List Byte) : Reply :=
  let (kind, k) := (fld b 0 1, fld b 1 1)
  if 1 < kind || !zeros b 2 2 || (if kind = 0 then 3 else 15) < k then s.answers .badArgument
  else if kind = 0 then
    s.okay (s.regField (NP_STATUS k) ++ s.regField (NP_RX_FRAMES k) ++ s.regField (NP_TX_FRAMES k) ++ s.regField (NP_ERR_L2 k) ++
      s.regField (NP_ERR_L3 k) ++ s.regField (NP_ERR_RTP k) ++ s.regField (NP_CTRLQ k) ++ s.regField (NP_FEC k))
  else s.okay (s.regField (TDM_FORMAT k) ++ s.regField (TDM_STATUS k) ++ s.regField (TDM_ERR k))

def State.cmdStreamStatus (s : State) (b : List Byte) : Reply :=
  let (d, f, n) := (fld b 0 1, fld b 2 2, fld b 4 2)
  if 1 < d || !zeros b 1 1 || !zeros b 6 2 || !decide (1 ≤ n ∧ n ≤ 100 ∧ f + n ≤ 4096) then s.answers .badArgument
  else s.okay ((List.range n).flatMap fun i => s.regField (if d = 0 then NPE_RXSTAT (f + i) else NPE_TXSTAT (f + i)))

end Sys2Proof.Machine
end

