-- ==== Sys2Proof/Machine/ProsalRun.lean ====
section
/-! DEFINITION. Machine/ProsalRun.lean: Prosal takes the mailboxes and runs their commands, the row of each command, and the start of Prosal
(R307, R315, R349, R354, R405 to R413, R432, R435). -/
namespace Sys2Proof.Machine

/-! ## A request and its answer (R408, R410, R412, R435) -/

/-- A request of mailbox `k` with an opcode and a body: its other header fields are those in the mailbox. -/
def State.reqBytes (s : State) (k op : Nat) (b : List Byte) : List Byte :=
  leBytes 2 op ++ s.bytes (mboxAddr k + 2) 2 ++ leBytes 2 b.length ++ s.bytes (mboxAddr k + 6) 10 ++ b

/-- The CRC-32C a good request of mailbox `k` carries. -/
def State.reqCrc (s : State) (k op : Nat) (b : List Byte) : Word := crc32c (s.reqBytes k op b)

/-- Who serves the mailboxes: Prosal, or the boot ROM in recovery (R354, R406). -/
def State.serves (s : State) : Bool := (s.prosalUp || s.boot = .recovery) && (s.triad 0).run ≠ .nested

/-- Mailbox `k` is posted, and someone serves it. -/
def State.ready (s : State) (k : Nat) : Bool := s.serves && s.get (MBX_STATE_STATE k) = 1 && s.host.posted.contains k

/-- The header fields other than OPCODE, SEQ and LENGTH are as R410 requires. -/
def State.headerGood (s : State) (k op : Nat) : Bool :=
  (s.mboxLe k 6 1 = 0 || s.mboxLe k 6 1 = 2) && decide (s.mboxLe k 7 1 ≤ targetMax op) && s.mboxLe k 8 8 = 0

/-- What Prosal finds wrong with a request before it runs it, with the violation counter; in recovery every command beyond the subset of R354
is BUSY. -/
def State.judge (s : State) (k op : Nat) (b : List Byte) : Option (Status × Option Fld) :=
  if s.boot = .recovery && !recoveryOps.contains op then some (.busy, none)
  else if !opcodeKnown op then some (.unknownOpcode, some MBX_VIOL_OPCODE)
  else if !s.headerGood k op then some (.badArgument, some MBX_VIOL_OPCODE)
  else if bodyLength op b ≠ some b.length || !lengthGood b.length then some (.badLength, some MBX_VIOL_LENGTH)
  else none

/-- A violation found in a request is counted and raised (R435). -/
def State.noteViolation (s : State) : Option Fld → State
  | some f => s.hostViolation f 0xFF
  | none => s

/-- The response is complete: the mailbox leaves the posted ones, and Prosal keeps SEQ, CRC and response (R405, R408). -/
def State.respond (s : State) (k op : Nat) (crc : Word) (r : Reply) : State :=
  let f := s.mboxLe k 6 1 / 2 % 2
  let seq := s.mboxLe k 2 2
  let bs := respBytes op seq (1 + 2 * f) (s.mboxLe k 7 1) r.2.status.code r.2.body
  let t := r.1.finishMbox k bs (f = 1)
  { t with host := { t.host with posted := t.host.posted.filter (· ≠ k), last := Sparse.put t.host.last k (seq, crc, bs) } }

/-- The command of mailbox `k`: what R435 refuses, else its effect; then its response. `f` is the command's own effect. -/
def State.serve (s : State) (k op : Nat) (b : List Byte) (f : State → Reply) : State :=
  let t := s.gateUsed
  s.respond k op (s.reqCrc k op b) (match s.judge k op b with
    | some (st, v) => (t.noteViolation v).answers st
    | none => f t)

/-! ## The commands by opcode (R414 to R424) -/

/-- The commands with opcodes 0x01nn. -/
def State.runSystem (t : State) (op : Nat) (b : List Byte) : Reply :=
  if op = 0x0101 then t.cmdGetInfo
  else if op = 0x0102 then t.cmdGetStatus
  else if op = 0x0103 then t.cmdReset b
  else if op = 0x0104 then t.cmdPower b
  else if op = 0x0105 then t.cmdRegRead b
  else t.cmdRegWrite b

/-- The commands with opcodes 0x02nn. -/
def State.runGraph (t : State) (op : Nat) (b : List Byte) : Reply :=
  if op = 0x0201 then t.cmdGraphLoad b
  else if op = 0x0202 then t.cmdGraphSwitch b
  else if op = 0x0203 then t.cmdGraphAbort
  else if op = 0x0204 then t.cmdGraphRelease b
  else if op = 0x0205 then t.cmdGraphStatus
  else t.cmdGraphStop b

/-- The commands with opcodes 0x03nn. -/
def State.runParam (t : State) (op : Nat) (b : List Byte) : Reply :=
  if op = 0x0301 then t.cmdParamSet b
  else if op = 0x0302 then t.cmdParamGet b
  else if op = 0x0303 then t.cmdRingSetup b
  else t.cmdRingStop b

/-- The commands with opcodes 0x04nn. -/
def State.runMeter (t : State) (op : Nat) (b : List Byte) : Reply :=
  if op = 0x0401 then t.cmdMeterSet b
  else t.cmdMeterRead b

/-- The commands with opcodes 0x05nn. -/
def State.runFault (t : State) (op : Nat) (b : List Byte) (bad : LedgerBad) : Reply :=
  if op = 0x0501 then t.cmdFaultFirst
  else if op = 0x0502 then t.cmdFaultAck b
  else if op = 0x0503 then t.cmdFaultCfg b
  else if op = 0x0504 then t.cmdCountCfg b
  else if op = 0x0505 then t.cmdFaultPending b
  else if op = 0x0506 then t.cmdFaultDecide b
  else if op = 0x0507 then t.cmdFaultClear b
  else if op = 0x0508 then t.cmdLogRead b
  else (t.wear bad).cmdLogCompact

/-- The commands with opcodes 0x06nn. -/
def State.runMemory (t : State) (op : Nat) (b : List Byte) (bad : LedgerBad) : Reply :=
  if op = 0x0601 then t.cmdMemWindow b
  else if op = 0x0602 then t.cmdMemCrc b
  else if op = 0x0603 then t.cmdMemStatus
  else if op = 0x0604 then (t.wear bad).cmdRetirePage b
  else if op = 0x0605 then (t.wear bad).cmdRepairRow b
  else if op = 0x0606 then (t.wear bad).cmdRetireBank b
  else if op = 0x0607 then t.cmdMarch b
  else if op = 0x0608 then t.cmdScrubRange b
  else t.cmdDepotPower b

/-- The commands with opcodes 0x07nn. -/
def State.runFirmware (t : State) (op : Nat) (b : List Byte) (bad : LedgerBad) : Reply :=
  if op = 0x0701 then (t.wear bad).cmdFwProgram b
  else if op = 0x0702 then t.cmdFwStatus
  else if op = 0x0703 then t.cmdFwActivate
  else if op = 0x0704 then (t.wear bad).cmdOptionWrite b
  else if op = 0x0705 then t.cmdOptionLock b
  else if op = 0x0706 then t.cmdHostdataRead b
  else (t.wear bad).cmdHostdataWrite b

/-- The commands with opcodes 0x08nn. -/
def State.runTwin (t : State) (op : Nat) (b : List Byte) : Reply :=
  if op = 0x0801 then t.cmdTwinCfg b
  else if op = 0x0802 then t.cmdTwinStatus
  else if op = 0x0803 then t.cmdTwinSwap b
  else if op = 0x0804 then t.cmdTwinTake
  else if op = 0x0805 then t.cmdTwinChoice b
  else if op = 0x0806 then t.cmdTwinJoin
  else if op = 0x0807 then t.cmdTwinRelay b
  else t.cmdRelayRead

/-- The commands with opcodes 0x09nn. -/
def State.runMode (t : State) (op : Nat) (b : List Byte) (pass : Bool) : Reply :=
  if op = 0x0901 then t.cmdModeGet
  else if op = 0x0902 then t.cmdModeSet b
  else if op = 0x0903 then t.cmdLaneMove b
  else if op = 0x0904 then t.cmdLaneService b pass
  else if op = 0x0905 then t.cmdClusterPin b
  else t.cmdExpressMove b

/-- The commands with opcodes 0x0Ann. -/
def State.runSecurity (t : State) (op : Nat) (b : List Byte) (bad : LedgerBad) : Reply :=
  if op = 0x0A01 then t.cmdUnlockNonce b
  else if op = 0x0A02 then t.cmdUnlockHmac b
  else if op = 0x0A03 then t.cmdUnlockPassword b
  else if op = 0x0A04 then t.cmdLock
  else (t.wear bad).cmdKeySet b

/-- The commands with opcodes 0x0Bnn. -/
def State.runClock (t : State) (op : Nat) (b : List Byte) : Reply :=
  if op = 0x0B01 then t.cmdClockCfg b
  else if op = 0x0B02 then t.cmdPtpCfg b
  else if op = 0x0B03 then t.cmdClockStatus
  else if op = 0x0B04 then t.cmdServoInput b
  else t.cmdBlockPreset b

/-- The commands with opcodes 0x0Cnn. -/
def State.runPort (t : State) (op : Nat) (k : Nat) (b : List Byte) : Reply :=
  if op = 0x0C01 then t.cmdNetPortCfg (t.mboxLe k 7 1) b
  else if op = 0x0C02 then t.cmdRxStreamSet b
  else if op = 0x0C03 then t.cmdTxStreamSet b
  else if op = 0x0C04 then t.cmdStreamDelete b
  else if op = 0x0C05 then t.cmdConcealChoice b
  else if op = 0x0C06 then t.cmdTdmCfg (t.mboxLe k 7 1) b
  else if op = 0x0C07 then t.cmdPortRecal b
  else if op = 0x0C08 then t.cmdPortStatus b
  else t.cmdStreamStatus b

/-- The effect of a command whose request Prosal accepts; `bad` is the Ledger word that fails, if one does, and `pass` the result of a lane
test. -/
def State.command (t : State) (k op : Nat) (b : List Byte) (bad : LedgerBad) (pass : Bool) : Reply :=
  match op / 256 with
  | 1 => t.runSystem op b
  | 2 => t.runGraph op b
  | 3 => t.runParam op b
  | 4 => t.runMeter op b
  | 5 => t.runFault op b bad
  | 6 => t.runMemory op b bad
  | 7 => t.runFirmware op b bad
  | 8 => t.runTwin op b
  | 9 => t.runMode op b pass
  | 10 => t.runSecurity op b bad
  | 11 => t.runClock op b
  | 12 => t.runPort op k b
  | _ => t.answers .unknownOpcode

/-! ## Taking a mailbox (R405, R408, R412, R432) -/

/-- Whether the response in mailbox `k` says OK. -/
def State.answeredOk (s : State) (k : Nat) : Bool := s.mboxLe k 8 2 = 0

/-- What a command does after its response: RESET and POWER (R414). -/
def State.afterOp (s : State) (k op : Nat) : State :=
  if !s.answeredOk k then s
  else if op = 0x0103 then s.afterReset
  else if op = 0x0104 then s.afterPower
  else s

/-- Prosal takes mailbox `k` (R408, R412): LENGTH, CRC and repeat, then the command. A request whose length or CRC is wrong is not kept as the
previous one. -/
def State.takeMailbox (s : State) (k : Nat) (bad : LedgerBad) (pass : Bool) : State :=
  let op := s.mboxLe k 0 2
  let n := s.mboxLe k 4 2
  let crc := crc32c (s.bytes (mboxAddr k) (16 + n))
  let drop (t : State) : State := { t with host := { t.host with posted := t.host.posted.filter (· ≠ k) } }
  if !lengthGood n then drop ((s.gateUsed.hostViolation MBX_VIOL_LENGTH 0xFF).shortAnswer k 3)
  else if s.mboxLe k (16 + n) 4 ≠ crc.toNat then drop ((s.gateUsed.hostViolation MBX_VIOL_CRC 0xFF).shortAnswer k 2)
  else
    let old := Sparse.get (fun _ => (0, (0 : Word), [])) s.host.last k
    if old.2.2 ≠ [] ∧ old.1 = s.mboxLe k 2 2 ∧ old.2.1 = crc then
      drop (s.gateUsed.finishMbox k old.2.2 (s.mboxLe k 6 1 / 2 % 2 = 1))
    else
      let b := s.bytes (mboxAddr k + 16) n
      (s.serve k op b fun t => t.command k op b bad pass).afterOp k op

/-- Every mailbox still posted is taken, in order (R432 step 3); what their Ledger words and lane tests yield is free. -/
def State.completePosted : Nat → State → State
  | 0, s => s
  | n + 1, s =>
    match s.host.posted with
    | [] => s
    | k :: _ =>
      let (x, s) := s.draw
      (s.takeMailbox k (if x.getLsbD 0 then some (BitVec.ofNat 23 (x.toNat / 4)) else none) (x.getLsbD 1)).completePosted n

/-- FW_ACTIVATE after its response (R432): the posted commands, then the restart; in recovery it acts as RESET (R420). -/
def State.finishActivate (s : State) (k : Nat) : State :=
  if !s.answeredOk k then s
  else if s.boot = .recovery then s.afterActivate
  else
    let s := s.completePosted 16
    if s.prosalUp then s.afterActivate else s

/-- COMMAND_TAKE: the mailbox posted first. -/
def execCommandTake (bad : LedgerBad) (pass : Bool) (s : State) : Host.Outcome State Fault Refusal :=
  match s.host.posted with
  | k :: _ =>
    let t := s.takeMailbox k bad pass
    occurs (s.ready k) s (if s.mboxLe k 0 2 = 0x0703 then t.finishActivate k else t)
  | [] => done s

/-! ## The start of Prosal -/

/-- The allocation of the mover channels (R297): owner, LEVEL and PRIO of channel `c` of mover `m`. -/
def moverUse (m c : Nat) : Nat × Nat × Nat :=
  if m < 2 ∧ c < 36 then (if c % 4 < 2 then (0x10 + 2 * (c / 4) + m, 0, 0) else (0, 1, 3)) else (0, 1, 0)

def State.allocateMovers (s : State) : State :=
  (List.range 256).foldl (fun s i =>
    let (o, l, p) := moverUse (i / 64) (i % 64)
    let a (f : Nat → Nat → Fld) : Fld := f (i / 64) (i % 64)
    (((s.put (a MVR_CH_CFG_OWNER) o).put (a MVR_CH_CFG_LEVEL) l).put (a MVR_CH_CFG_PRIO) p).put (a MVR_CH_CFG_EN) 1) s

/-- An event's route to the supervisor at Roadbed. -/
def State.routeEvent (s : State) (e prio : Nat) : State :=
  ((s.put (EVR_ROUTE_TARGET e) 0).put (EVR_ROUTE_LEVEL e) 1).put (EVR_ROUTE_PRIO e) prio

/-- The fault channels and the Milestone warning are routed to the supervisor, whose EVRBASE is set (R307, R315). -/
def State.routeEvents (s : State) : State :=
  let s := (List.range 320).foldl (fun s n => s.routeEvent (320 + n) (6 + s.get (FCU_CH_CFG_SEV n))) s
  (s.routeEvent 1 15).onTriad 0 fun x => { x with evrbase := 0x100 }

/-- Prosal rewrites the option words whose copies disagree, copy by copy (R274, R349). -/
def State.mendOptions (s : State) : State :=
  let ws := (List.range 192).map fun i => let (a, b, c) := s.optionCopies i; vote3 a b c
  if !s.optionsDiffer || s.flag LDG_LOCK_OPTION_WRITE then s
  else ([0, 1, 2].foldl (fun (acc : State × Bool) k => if acc.2 then acc.1.putLedgers (0x600000 + 0x4000 * k) ws else acc) (s, true)).1

/-- The repairs in force, as repair entries (R272). -/
def State.repairsInForce (s : State) : List Nat :=
  (s.memu.repair.filter fun e => e.2.valid).map (fun e =>
    2 ^ 60 + e.1 / 512 * 2 ^ 56 + e.1 / 4 % 128 * 2 ^ 49 + e.2.row * 2 ^ 39 + e.1 % 4 * 2 ^ 37) ++
  ((List.range 256).filter fun i => s.get (LPD_REMAP_STATE i) = 2).map (fun i =>
    2 * 2 ^ 60 + i * 2 ^ 52 + s.get (LPD_REMAP_PAGE i) * 2 ^ 29) ++
  ((List.range 1280).filter fun i => decide (i / 128 < 10 ∧ i % 128 < memBanks (i / 128)) && s.bankRetired (i / 128) (i % 128)).map (fun i =>
    3 * 2 ^ 60 + i / 128 * 2 ^ 56 + i % 128 * 2 ^ 49)

/-- With neither copy of the repair area good, Prosal rewrites both (R351 step 1). -/
def State.mendRepairs (s : State) : State :=
  if s.repairGood 0 || s.repairGood 1 then s
  else
    let ws := (s.repairsInForce ++ List.replicate 4095 0).take 4095
    ([0, 1].foldl (fun (acc : State × Bool) k =>
      if acc.2 then
        let o := 0x610000 + 0x8000 * k
        let (t, ok) := acc.1.putLedgers o ws
        if ok then t.putLedger (o + 8 * 4095) (crc32c (t.bytes (0x10000000 + o) (8 * 4095))).toNat else (t, false)
      else acc) (s, true)).1

/-- Prosal writes the Milestone key at its first start after power-on (R332): a free value. -/
def State.drawKey (s : State) : State :=
  if s.flag MSW_STATUS_KEY_SET then s
  else
    let (x, s) := s.draw
    s.mswWrite 0 2 0x18 false (BitVec.ofNat 32 x.toNat)

/-- After an unplanned restart the commands that were WORKING are answered RESTARTED, and no response is kept (R407, R408). -/
def State.answerRestarted (s : State) : State :=
  if s.host.planned then s
  else
    let s : State := { s with host := { s.host with last := [] } }
    (List.range 16).foldl (fun s k => if s.get (MBX_STATE_STATE k) = 2 then s.shortAnswer k 0x12 else s) s

/-- Prosal takes over: Ledger upkeep, keys, routes, channels, and the rules of the lane, inbound and debug units. -/
def State.startProsal (s : State) : State :=
  let s := s.mendRepairs.mendOptions.drawKey.allocateMovers.routeEvents.answerRestarted
  let s := ((s.put LDG_LOCK_KEY_READ 1).guardArea.loadInbound (if s.windowBase = 0 then [] else s.windowSlots)).loadEngines.loadGate
  let s : State := { s with host := { s.host with planned := false } }
  (s.put MBX_CTRL_PROSAL_UP 1).irq 29

/-- PROSAL_START (R432): the boot ROM has entered Prosal, and the supervisor is not halted. -/
def execProsalStart (s : State) : Host.Outcome State Fault Refusal :=
  occurs (s.boot = .firmware && !s.prosalUp && !s.flag (DBG_CORE_HALTED 0)) s s.startProsal

/-! ## The rows: the command of mailbox `k`, with its body -/

/-- A command's row (R405, R413): it takes place when mailbox `k` is posted and served. -/
def State.row (s : State) (k op : Nat) (b : List Byte) (f : State → Reply) : Host.Outcome State Fault Refusal :=
  occurs (s.ready k) s (s.serve k op b f)

/-! ### The system family (R414) -/

def execGetInfo (k : Fin 16) (b : ByteList) (s : State) : Host.Outcome State Fault Refusal := s.row k 0x0101 b fun t => t.cmdGetInfo

def execGetStatus (k : Fin 16) (b : ByteList) (s : State) : Host.Outcome State Fault Refusal := s.row k 0x0102 b fun t => t.cmdGetStatus

def execResetCmd (k : Fin 16) (b : ByteList) (s : State) : Host.Outcome State Fault Refusal :=
  occurs (s.ready k) s ((s.serve k 0x0103 b fun t => t.cmdReset b).afterOp k 0x0103)

def execPowerCmd (k : Fin 16) (b : ByteList) (s : State) : Host.Outcome State Fault Refusal :=
  occurs (s.ready k) s ((s.serve k 0x0104 b fun t => t.cmdPower b).afterOp k 0x0104)

def execRegRead (k : Fin 16) (b : ByteList) (s : State) : Host.Outcome State Fault Refusal := s.row k 0x0105 b fun t => t.cmdRegRead b

def execRegWrite (k : Fin 16) (b : ByteList) (s : State) : Host.Outcome State Fault Refusal := s.row k 0x0106 b fun t => t.cmdRegWrite b

/-! ### The graph family (R415) -/

def execGraphLoad (k : Fin 16) (b : ByteList) (s : State) : Host.Outcome State Fault Refusal := s.row k 0x0201 b fun t => t.cmdGraphLoad b

def execGraphSwitch (k : Fin 16) (b : ByteList) (s : State) : Host.Outcome State Fault Refusal := s.row k 0x0202 b fun t => t.cmdGraphSwitch b

def execGraphAbort (k : Fin 16) (b : ByteList) (s : State) : Host.Outcome State Fault Refusal := s.row k 0x0203 b fun t => t.cmdGraphAbort

def execGraphRelease (k : Fin 16) (b : ByteList) (s : State) : Host.Outcome State Fault Refusal := s.row k 0x0204 b fun t => t.cmdGraphRelease b

def execGraphStatus (k : Fin 16) (b : ByteList) (s : State) : Host.Outcome State Fault Refusal := s.row k 0x0205 b fun t => t.cmdGraphStatus

def execGraphStop (k : Fin 16) (b : ByteList) (s : State) : Host.Outcome State Fault Refusal := s.row k 0x0206 b fun t => t.cmdGraphStop b

/-! ### The parameter and metering families (R416, R417) -/

def execParamSet (k : Fin 16) (b : ByteList) (s : State) : Host.Outcome State Fault Refusal := s.row k 0x0301 b fun t => t.cmdParamSet b

def execParamGet (k : Fin 16) (b : ByteList) (s : State) : Host.Outcome State Fault Refusal := s.row k 0x0302 b fun t => t.cmdParamGet b

def execRingSetup (k : Fin 16) (b : ByteList) (s : State) : Host.Outcome State Fault Refusal := s.row k 0x0303 b fun t => t.cmdRingSetup b

def execRingStop (k : Fin 16) (b : ByteList) (s : State) : Host.Outcome State Fault Refusal := s.row k 0x0304 b fun t => t.cmdRingStop b

def execMeterSet (k : Fin 16) (b : ByteList) (s : State) : Host.Outcome State Fault Refusal := s.row k 0x0401 b fun t => t.cmdMeterSet b

def execMeterRead (k : Fin 16) (b : ByteList) (s : State) : Host.Outcome State Fault Refusal := s.row k 0x0402 b fun t => t.cmdMeterRead b

/-! ### The fault family (R418) -/

def execFaultFirst (k : Fin 16) (b : ByteList) (s : State) : Host.Outcome State Fault Refusal := s.row k 0x0501 b fun t => t.cmdFaultFirst

def execFaultAck (k : Fin 16) (b : ByteList) (s : State) : Host.Outcome State Fault Refusal := s.row k 0x0502 b fun t => t.cmdFaultAck b

def execFaultCfg (k : Fin 16) (b : ByteList) (s : State) : Host.Outcome State Fault Refusal := s.row k 0x0503 b fun t => t.cmdFaultCfg b

def execCountCfg (k : Fin 16) (b : ByteList) (s : State) : Host.Outcome State Fault Refusal := s.row k 0x0504 b fun t => t.cmdCountCfg b

def execFaultPending (k : Fin 16) (b : ByteList) (s : State) : Host.Outcome State Fault Refusal := s.row k 0x0505 b fun t => t.cmdFaultPending b

def execFaultDecide (k : Fin 16) (b : ByteList) (s : State) : Host.Outcome State Fault Refusal := s.row k 0x0506 b fun t => t.cmdFaultDecide b

def execFaultClear (k : Fin 16) (b : ByteList) (s : State) : Host.Outcome State Fault Refusal := s.row k 0x0507 b fun t => t.cmdFaultClear b

def execLogRead (k : Fin 16) (b : ByteList) (s : State) : Host.Outcome State Fault Refusal := s.row k 0x0508 b fun t => t.cmdLogRead b

def execLogCompact (k : Fin 16) (b : ByteList) (bad : LedgerBad) (s : State) : Host.Outcome State Fault Refusal := s.row k 0x0509 b fun t => (t.wear bad).cmdLogCompact

/-! ### The memory family (R419) -/

def execMemWindow (k : Fin 16) (b : ByteList) (s : State) : Host.Outcome State Fault Refusal := s.row k 0x0601 b fun t => t.cmdMemWindow b

def execMemCrc (k : Fin 16) (b : ByteList) (s : State) : Host.Outcome State Fault Refusal := s.row k 0x0602 b fun t => t.cmdMemCrc b

def execMemStatus (k : Fin 16) (b : ByteList) (s : State) : Host.Outcome State Fault Refusal := s.row k 0x0603 b fun t => t.cmdMemStatus

def execRetirePage (k : Fin 16) (b : ByteList) (bad : LedgerBad) (s : State) : Host.Outcome State Fault Refusal := s.row k 0x0604 b fun t => (t.wear bad).cmdRetirePage b

def execRepairRow (k : Fin 16) (b : ByteList) (bad : LedgerBad) (s : State) : Host.Outcome State Fault Refusal := s.row k 0x0605 b fun t => (t.wear bad).cmdRepairRow b

def execRetireBank (k : Fin 16) (b : ByteList) (bad : LedgerBad) (s : State) : Host.Outcome State Fault Refusal := s.row k 0x0606 b fun t => (t.wear bad).cmdRetireBank b

def execMarchCmd (k : Fin 16) (b : ByteList) (s : State) : Host.Outcome State Fault Refusal := s.row k 0x0607 b fun t => t.cmdMarch b

def execScrubRange (k : Fin 16) (b : ByteList) (s : State) : Host.Outcome State Fault Refusal := s.row k 0x0608 b fun t => t.cmdScrubRange b

def execDepotPower (k : Fin 16) (b : ByteList) (s : State) : Host.Outcome State Fault Refusal := s.row k 0x0609 b fun t => t.cmdDepotPower b

/-! ### The firmware and Ledger family (R420) -/

def execFwProgram (k : Fin 16) (b : ByteList) (bad : LedgerBad) (s : State) : Host.Outcome State Fault Refusal := s.row k 0x0701 b fun t => (t.wear bad).cmdFwProgram b

def execFwStatus (k : Fin 16) (b : ByteList) (s : State) : Host.Outcome State Fault Refusal := s.row k 0x0702 b fun t => t.cmdFwStatus

def execFwActivate (k : Fin 16) (b : ByteList) (s : State) : Host.Outcome State Fault Refusal :=
  occurs (s.ready k) s ((s.serve k 0x0703 b fun t => t.cmdFwActivate).finishActivate k)

def execOptionWrite (k : Fin 16) (b : ByteList) (bad : LedgerBad) (s : State) : Host.Outcome State Fault Refusal := s.row k 0x0704 b fun t => (t.wear bad).cmdOptionWrite b

def execOptionLock (k : Fin 16) (b : ByteList) (s : State) : Host.Outcome State Fault Refusal := s.row k 0x0705 b fun t => t.cmdOptionLock b

def execHostdataRead (k : Fin 16) (b : ByteList) (s : State) : Host.Outcome State Fault Refusal := s.row k 0x0706 b fun t => t.cmdHostdataRead b

def execHostdataWrite (k : Fin 16) (b : ByteList) (bad : LedgerBad) (s : State) : Host.Outcome State Fault Refusal := s.row k 0x0707 b fun t => (t.wear bad).cmdHostdataWrite b

/-! ### The twin family (R421) -/

def execTwinCfg (k : Fin 16) (b : ByteList) (s : State) : Host.Outcome State Fault Refusal := s.row k 0x0801 b fun t => t.cmdTwinCfg b

def execTwinStatus (k : Fin 16) (b : ByteList) (s : State) : Host.Outcome State Fault Refusal := s.row k 0x0802 b fun t => t.cmdTwinStatus

def execTwinSwap (k : Fin 16) (b : ByteList) (s : State) : Host.Outcome State Fault Refusal := s.row k 0x0803 b fun t => t.cmdTwinSwap b

def execTwinTake (k : Fin 16) (b : ByteList) (s : State) : Host.Outcome State Fault Refusal := s.row k 0x0804 b fun t => t.cmdTwinTake

def execTwinChoice (k : Fin 16) (b : ByteList) (s : State) : Host.Outcome State Fault Refusal := s.row k 0x0805 b fun t => t.cmdTwinChoice b

def execTwinJoin (k : Fin 16) (b : ByteList) (s : State) : Host.Outcome State Fault Refusal := s.row k 0x0806 b fun t => t.cmdTwinJoin

def execTwinRelay (k : Fin 16) (b : ByteList) (s : State) : Host.Outcome State Fault Refusal := s.row k 0x0807 b fun t => t.cmdTwinRelay b

def execTwinRelayRead (k : Fin 16) (b : ByteList) (s : State) : Host.Outcome State Fault Refusal := s.row k 0x0808 b fun t => t.cmdRelayRead

/-! ### The mode and service family (R422) -/

def execModeGet (k : Fin 16) (b : ByteList) (s : State) : Host.Outcome State Fault Refusal := s.row k 0x0901 b fun t => t.cmdModeGet

def execModeSet (k : Fin 16) (b : ByteList) (s : State) : Host.Outcome State Fault Refusal := s.row k 0x0902 b fun t => t.cmdModeSet b

def execLaneMove (k : Fin 16) (b : ByteList) (s : State) : Host.Outcome State Fault Refusal := s.row k 0x0903 b fun t => t.cmdLaneMove b

def execLaneService (k : Fin 16) (b : ByteList) (pass : Bool) (s : State) : Host.Outcome State Fault Refusal := s.row k 0x0904 b fun t => t.cmdLaneService b pass

def execClusterPin (k : Fin 16) (b : ByteList) (s : State) : Host.Outcome State Fault Refusal := s.row k 0x0905 b fun t => t.cmdClusterPin b

def execExpressMove (k : Fin 16) (b : ByteList) (s : State) : Host.Outcome State Fault Refusal := s.row k 0x0906 b fun t => t.cmdExpressMove b

/-! ### The security family (R423) -/

def execUnlockNonce (k : Fin 16) (b : ByteList) (s : State) : Host.Outcome State Fault Refusal := s.row k 0x0A01 b fun t => t.cmdUnlockNonce b

def execUnlockHmac (k : Fin 16) (b : ByteList) (s : State) : Host.Outcome State Fault Refusal := s.row k 0x0A02 b fun t => t.cmdUnlockHmac b

def execUnlockPassword (k : Fin 16) (b : ByteList) (s : State) : Host.Outcome State Fault Refusal := s.row k 0x0A03 b fun t => t.cmdUnlockPassword b

def execLockCmd (k : Fin 16) (b : ByteList) (s : State) : Host.Outcome State Fault Refusal := s.row k 0x0A04 b fun t => t.cmdLock

def execKeySet (k : Fin 16) (b : ByteList) (bad : LedgerBad) (s : State) : Host.Outcome State Fault Refusal := s.row k 0x0A05 b fun t => (t.wear bad).cmdKeySet b

/-! ### The clock family (R424) -/

def execClockCfg (k : Fin 16) (b : ByteList) (s : State) : Host.Outcome State Fault Refusal := s.row k 0x0B01 b fun t => t.cmdClockCfg b

def execPtpCfg (k : Fin 16) (b : ByteList) (s : State) : Host.Outcome State Fault Refusal := s.row k 0x0B02 b fun t => t.cmdPtpCfg b

def execClockStatus (k : Fin 16) (b : ByteList) (s : State) : Host.Outcome State Fault Refusal := s.row k 0x0B03 b fun t => t.cmdClockStatus

def execServoInput (k : Fin 16) (b : ByteList) (s : State) : Host.Outcome State Fault Refusal := s.row k 0x0B04 b fun t => t.cmdServoInput b

def execBlockPreset (k : Fin 16) (b : ByteList) (s : State) : Host.Outcome State Fault Refusal := s.row k 0x0B05 b fun t => t.cmdBlockPreset b

/-! ### The port family (R424) -/

def execNetPortCfg (k : Fin 16) (b : ByteList) (s : State) : Host.Outcome State Fault Refusal := s.row k 0x0C01 b fun t => t.cmdNetPortCfg (t.mboxLe k 7 1) b

def execRxStreamSet (k : Fin 16) (b : ByteList) (s : State) : Host.Outcome State Fault Refusal := s.row k 0x0C02 b fun t => t.cmdRxStreamSet b

def execTxStreamSet (k : Fin 16) (b : ByteList) (s : State) : Host.Outcome State Fault Refusal := s.row k 0x0C03 b fun t => t.cmdTxStreamSet b

def execStreamDelete (k : Fin 16) (b : ByteList) (s : State) : Host.Outcome State Fault Refusal := s.row k 0x0C04 b fun t => t.cmdStreamDelete b

def execConcealChoice (k : Fin 16) (b : ByteList) (s : State) : Host.Outcome State Fault Refusal := s.row k 0x0C05 b fun t => t.cmdConcealChoice b

def execTdmCfg (k : Fin 16) (b : ByteList) (s : State) : Host.Outcome State Fault Refusal := s.row k 0x0C06 b fun t => t.cmdTdmCfg (t.mboxLe k 7 1) b

def execPortRecal (k : Fin 16) (b : ByteList) (s : State) : Host.Outcome State Fault Refusal := s.row k 0x0C07 b fun t => t.cmdPortRecal b

def execPortStatus (k : Fin 16) (b : ByteList) (s : State) : Host.Outcome State Fault Refusal := s.row k 0x0C08 b fun t => t.cmdPortStatus b

def execStreamStatus (k : Fin 16) (b : ByteList) (s : State) : Host.Outcome State Fault Refusal := s.row k 0x0C09 b fun t => t.cmdStreamStatus b

end Sys2Proof.Machine
end

