-- ==== Sys2Proof/Machine/Operands.lean ====
section
/-! DEFINITION. Machine/Operands.lean: the operands of the vector instructions: configuration, element types, registers
with their residues, predicates, activity (R121 to R128, R138, R139, R150 to R152). -/
namespace Sys2Proof.Machine

/-! ## Configuration (R125, R126) -/

/-- The fields of VCFG in force. -/
structure VCfg where
  vl : Nat := 32
  qrnd : Nat := 0
  fp : FpCfg := {}
  deriving DecidableEq, Repr

/-- The fields of an applied VCFG. -/
def vcfgOf (v : DWord) : VCfg :=
  let n := v.toNat
  { vl := if n / 2 ^ 8 % 256 = 0 then 32 else n / 2 ^ 8 % 256, qrnd := n / 2 ^ 4 % 4,
    fp := { frm := n % 4, ftz := v.getLsbD 2 } }

/-- A VCFG that R125 calls invalid: VL above 32, QRND 2 or 3. -/
def VCfg.bad (c : VCfg) : Bool := decide (32 < c.vl) || decide (2 ≤ c.qrnd)

/-- The configuration a vector instruction of the triad runs under: at Roadbed the reset value (R126). -/
def Triad.vcfgNow (x : Triad) : VCfg := if x.level = 2 then {} else vcfgOf x.vcfg

/-! ## Element types (R121, R125, R128) -/

/-- Element width in bits of a type: 16 for i16, else 32. -/
def tyBits (ty : BitVec 2) : Nat := if ty = 0 then 16 else 32
/-- Elements in a long-vector register. -/
def tyElems (ty : BitVec 2) : Nat := if ty = 0 then 64 else 32
/-- Active length n of a long-vector instruction (R125). -/
def VCfg.n (c : VCfg) (ty : BitVec 2) : Nat := if ty = 0 then 2 * c.vl else c.vl

/-- Element `i` of width `e` of a register. -/
def elemAt (e x i : Nat) : Nat := x / 2 ^ (e * i) % 2 ^ e

/-- A register of `n` elements of width `e`. -/
def packElems (e : Nat) : Nat → (Nat → Nat) → Nat
  | 0, _ => 0
  | n + 1, f => packElems e n f + f n % 2 ^ e * 2 ^ (e * n)

/-! ## z and za registers (R121, R123, R124, R152) -/

/-- A z register's data. -/
def Triad.zv (x : Triad) (r : Reg) : Nat := (Sparse.get (fun _ => 0) x.z r.toNat).toNat
/-- The stored residue of 32-bit container `i` of a z register. -/
def Triad.zr (x : Triad) (r : Reg) (i : Nat) : Nat := elemAt 3 (Sparse.get (fun _ => 0) x.zres r.toNat).toNat i
/-- A za register's data: 32 elements of 48 bits. -/
def Triad.zav (x : Triad) (r : Reg) : Nat := (Sparse.get (fun _ => 0) x.za r.toNat).toNat
def Triad.zar (x : Triad) (r : Reg) (i : Nat) : Nat := elemAt 3 (Sparse.get (fun _ => 0) x.zares r.toNat).toNat i

/-- Whether container `i` of a z register passes its residue check when it is used: its stored residue is that of its data
(R152, R153); the code 7 never is. -/
def Triad.zGood (x : Triad) (r : Reg) (i : Nat) : Bool := x.zr r i = elemAt 32 (x.zv r) i % 7

def Triad.zaGood (x : Triad) (r : Reg) (i : Nat) : Bool := x.zar r i = elemAt 48 (x.zav r) i % 7

/-- Write a z register's containers where `w` holds, their residues generated from the new data (R152). -/
def Triad.putZ (x : Triad) (r : Reg) (w : Nat → Bool) (v : Nat) : Triad :=
  let old := x.zv r
  let data := packElems 32 32 fun i => if w i then elemAt 32 v i else elemAt 32 old i
  let res := packElems 3 32 fun i => if w i then elemAt 32 v i % 7 else x.zr r i
  { x with z := Sparse.set (fun _ => 0) x.z r.toNat (BitVec.ofNat 1024 data)
           zres := Sparse.set (fun _ => 0) x.zres r.toNat (BitVec.ofNat 96 res) }

/-- Write a za register's elements where `w` holds. -/
def Triad.putZa (x : Triad) (r : Reg) (w : Nat → Bool) (v : Nat) : Triad :=
  let old := x.zav r
  let data := packElems 48 32 fun i => if w i then elemAt 48 v i else elemAt 48 old i
  let res := packElems 3 32 fun i => if w i then elemAt 48 v i % 7 else x.zar r i
  { x with za := Sparse.set (fun _ => 0) x.za r.toNat (BitVec.ofNat 1536 data)
           zares := Sparse.set (fun _ => 0) x.zares r.toNat (BitVec.ofNat 96 res) }

/-! ## Predicates (R122, R124, R150) -/

/-- A predicate: p0 reads all ones. -/
def Triad.pv (x : Triad) (r : Nat) : BitVec 64 := if r = 0 then BitVec.allOnes 64 else Sparse.get (fun _ => 0) x.p r

/-- A predicate's two copies agree. -/
def Triad.pGood (x : Triad) (r : Nat) : Bool :=
  r = 0 || Sparse.get (fun _ => 0) x.p r = Sparse.get (fun _ => 0) x.p2 r

/-- Write both copies of a predicate; a write to p0 is discarded (R122). -/
def Triad.putP (x : Triad) (r : Nat) (v : BitVec 64) : Triad :=
  if r = 0 then x
  else { x with p := Sparse.set (fun _ => 0) x.p r v, p2 := Sparse.set (fun _ => 0) x.p2 r v }

/-- Write both copies of FFM. -/
def Triad.putFfm (x : Triad) (v : BitVec 64) : Triad := { x with ffm := v, ffm2 := v }

/-- The copies of FFM agree. -/
def Triad.ffmGood (x : Triad) : Bool := x.ffm = x.ffm2

/-- A 64-bit predicate with bit `i` set where `f i` holds, for i < n. -/
def packBits (n : Nat) (f : Nat → Bool) : BitVec 64 := BitVec.ofNat 64 (packElems 1 (min n 64) fun i => if f i then 1 else 0)

/-- Element `i` is active (R138). -/
def Triad.active (x : Triad) (c : VCfg) (o : VR) (i : Nat) : Bool :=
  decide (i < c.n o.ty) && (x.pv o.pg.toNat).getLsbD i

/-! ## q registers (R121) -/

def Triad.qv (x : Triad) (r : Reg) : Nat := (Sparse.get (fun _ => 0) x.q r.toNat).toNat

def Triad.putQ (x : Triad) (r : Reg) (v : Nat) : Triad :=
  { x with q := Sparse.set (fun _ => 0) x.q r.toNat (BitVec.ofNat 128 v) }

/-! ## Flags and checks (R125, R129, R130, R151) -/

/-- Set sticky flags of VXSTAT. -/
def Triad.flags (x : Triad) (f : VFlags) : Triad := { x with vxstat := x.vxstat ||| f.bits }

/-- VXSTAT.ELEM and ELEM_VALID of a long-vector exception (R147). -/
def Triad.elem (x : Triad) (i : Option Nat) : Triad :=
  let keep := x.vxstat &&& ~~~ 0x40
  { x with vxstat := match i with
      | some k => (keep &&& ~~~ 0x3F) ||| BitVec.ofNat 64 (0x40 + k % 64)
      | none => keep }

/-- A residue or duplication check of a lane's vector unit fails (R151): CHECK_FAILURE with EVAL = 1 pending, and a failure
in the running task's check record. -/
def State.checkFails (s : State) (t : Nat) : State :=
  (s.onTriad t fun x => { x with check := some 1 }).noteFailure (laneOf t)

/-! ## Encodings, for EVAL (R132, R136) -/

/-- The word of a VR-format instruction. -/
def encVR (major func : Nat) (o : VR) : DWord :=
  BitVec.ofNat 64 (wordV major func o)

/-- The word of a VM-format instruction. -/
def encVM (major mode : Nat) (o : VM) : DWord :=
  BitVec.ofNat 64 (wordM major mode o)

end Sys2Proof.Machine
end

