-- ==== Sys2Proof/Machine/Elements.lean ====
section
/-! DEFINITION. Machine/Elements.lean: what each element-wise vector operation computes on one element, shared by the long
and the short vectors (R129, R130, R134 to R136). -/
namespace Sys2Proof.Machine

/-- How the residue of a result follows from those of its operands a and b (R153): their sum, their difference, their product, or a use of
each by itself. -/
inductive Chain where
  | sum | diff | prod | each
  deriving DecidableEq, Repr

/-- Whether stored residues `ra` and `rb` of containers that hold `a` and `b` predict another residue than that of the exact result (R153,
R155). What leaves the result field (carries, the high half of a product, bits shifted out) enters both sides alike. The code 7 always
fails (R152). -/
def Chain.strays (k : Chain) (a b ra rb : Nat) : Bool :=
  ra = 7 || rb = 7 || match k with
    | .sum => (ra + rb) % 7 != (a + b) % 7
    | .diff => (ra + b) % 7 != (a + rb) % 7
    | .prod => ra * rb % 7 != a * b % 7
    | .each => ra != a % 7 || rb != b % 7

/-- An element-wise operation: the types it permits, which operands it reads, and its value and flags from a, b and d. -/
structure EOp where
  tys : List (BitVec 2)
  /-- it reads a alone -/
  one : Bool := false
  /-- its row of R134 does not say 'unary': the vs2 field is not asked to be 0 -/
  plain : Bool := false
  /-- the vs2 field is an amount -/
  imm : Bool := false
  /-- it reads d -/
  acc : Bool := false
  /-- how the residues of its operands predict that of its result (R153) -/
  chain : BitVec 2 → Chain := fun _ => .each
  f : VCfg → BitVec 2 → Nat → Nat → Nat → Nat × VFlags

def tyInt : List (BitVec 2) := [0, 1, 2]
def tyIntOnly : List (BitVec 2) := [0, 1]
def tyFp : List (BitVec 2) := [3]
def tyAll : List (BitVec 2) := [0, 1, 2, 3]

/-- Signed value of an element of a type. -/
def sv (ty : BitVec 2) (v : Nat) : Int := sgn (tyBits ty) v

/-- An operation that wraps (R129). -/
def wrapOp (g : Int → Int → Int) : EOp := { tys := tyInt, f := fun _ ty a b _ => (unsgn (tyBits ty) (g (sv ty a) (sv ty b)), {}) }
/-- An operation that saturates (R129). -/
def satOp (g : Int → Int → Int) : EOp := { tys := tyInt, f := fun _ ty a b _ => satE (tyBits ty) (g (sv ty a) (sv ty b)) }

/-- A Q1.31 product rounded to 31 fraction bits under QRND, not saturated (R129). -/
def qProduct (c : VCfg) (a b : Nat) : Int := roundShift (qrndFrm c.qrnd) (sgn 32 a * sgn 32 b) 31

def opAdd : EOp := { wrapOp (fun a b => a + b) with chain := fun _ => .sum }
def opSub : EOp := { wrapOp (fun a b => a - b) with chain := fun _ => .diff }
def opSadd : EOp := { satOp (fun a b => a + b) with chain := fun _ => .sum }
def opSsub : EOp := { satOp (fun a b => a - b) with chain := fun _ => .diff }
/-- The residue of a container of two i16 elements does not follow a product of each: each operand is used by itself there. -/
def mulChain (ty : BitVec 2) : Chain := if ty = 0 then .each else .prod

def opMul : EOp := { tys := tyInt, chain := mulChain, f := fun c ty a b _ =>
  if ty = 2 then satE 32 (qProduct c a b) else (unsgn (tyBits ty) (sv ty a * sv ty b), {}) }
def opMulh : EOp := { tys := tyIntOnly, chain := mulChain, f := fun _ ty a b _ =>
  (unsgn (tyBits ty) (sv ty a * sv ty b / (2 ^ tyBits ty : Int)), {}) }
def opMin : EOp := wrapOp fun a b => min a b
def opMax : EOp := wrapOp fun a b => max a b
def opAbs : EOp := { satOp (fun a _ => |a|) with one := true }
def opNeg : EOp := { satOp (fun a _ => -a) with one := true }
def bitOp (g : Nat → Nat → Nat) : EOp := { tys := tyInt, f := fun _ _ a b _ => (g a b, {}) }
def opAnd : EOp := bitOp Nat.land
def opOr : EOp := bitOp Nat.lor
def opXor : EOp := bitOp Nat.xor
def opNot : EOp := { tys := tyInt, one := true, f := fun _ ty a _ _ => (2 ^ tyBits ty - 1 - a, {}) }
def shl (ty : BitVec 2) (a s : Nat) : Nat := a * 2 ^ s % 2 ^ tyBits ty
def sra (ty : BitVec 2) (a s : Nat) : Nat := unsgn (tyBits ty) (sv ty a / (2 ^ s : Int))
def opShl : EOp := { tys := tyInt, f := fun _ ty a b _ => (shl ty a (b % tyBits ty), {}) }
def opShr : EOp := { tys := tyInt, f := fun _ ty a b _ => (a / 2 ^ (b % tyBits ty), {}) }
def opSra : EOp := { tys := tyInt, f := fun _ ty a b _ => (sra ty a (b % tyBits ty), {}) }
def opShli : EOp := { tys := tyInt, imm := true, f := fun _ ty a b _ => (shl ty a b, {}) }
def opShri : EOp := { tys := tyInt, imm := true, f := fun _ _ a b _ => (a / 2 ^ b, {}) }
def opSrai : EOp := { tys := tyInt, imm := true, f := fun _ ty a b _ => (sra ty a b, {}) }
/-- VMOV. Its row has one operand and is not called unary, so its vs2 field may hold any value (DEDUCED, log 16); the VCVT rows are the same. -/
def opMov : EOp := { tys := tyAll, one := true, plain := true, f := fun _ _ a _ _ => (a, {}) }

/-- Whether an element-wise instruction's fields are legal (R133, R134). -/
def EOp.legal (op : EOp) (o : VR) : Bool :=
  op.tys.contains o.ty && (!op.one || op.plain || o.vs2 = 0) && (!op.imm || decide (o.vs2.toNat < tyBits o.ty))

/-! ## FP32 (R130, R134) -/

def opFadd : EOp := { tys := tyFp, f := fun c _ a b _ => fpAdd c.fp a b }
def opFsub : EOp := { tys := tyFp, f := fun c _ a b _ => fpSub c.fp a b }
def opFmul : EOp := { tys := tyFp, f := fun c _ a b _ => fpMul c.fp a b }
def opFma : EOp := { tys := tyFp, acc := true, f := fun c _ a b d => fpFma c.fp false d a b }
def opFms : EOp := { tys := tyFp, acc := true, f := fun c _ a b d => fpFma c.fp true d a b }
def opFmin : EOp := { tys := tyFp, f := fun c _ a b _ => fpPick c.fp false a b }
def opFmax : EOp := { tys := tyFp, f := fun c _ a b _ => fpPick c.fp true a b }
def opFabs : EOp := { tys := tyFp, one := true, f := fun _ _ a _ _ => (a % 2 ^ 31, {}) }
def opFneg : EOp := { tys := tyFp, one := true, f := fun _ _ a _ _ => (Nat.xor a (2 ^ 31), {}) }
def opCvtfq : EOp := { tys := tyFp, one := true, plain := true, f := fun c _ a _ _ => fpToFixed c.fp (qrndFrm c.qrnd) 31 true a }
def opCvtqf : EOp := { tys := tyFp, one := true, plain := true, f := fun c _ a _ _ => fpOfFixed c.fp 31 a }
def opCvtfi : EOp := { tys := tyFp, one := true, plain := true, f := fun c _ a _ _ => fpToFixed c.fp c.fp.frm 0 Config.cvtNanInvalid a }
def opCvtif : EOp := { tys := tyFp, one := true, plain := true, f := fun c _ a _ _ => fpOfFixed c.fp 0 a }

/-! ## Comparisons (R134) -/

/-- A comparison: its types, and its answer and flags. -/
structure COp where
  tys : List (BitVec 2)
  f : VCfg → BitVec 2 → Nat → Nat → Bool × VFlags

/-- Signed or FP32 order. -/
def signedCmp (r : Int → Int → Bool) (c : VCfg) (ty : BitVec 2) (a b : Nat) : Bool × VFlags :=
  if ty = 3 then fpCompare c.fp r a b else (r (sv ty a) (sv ty b), {})

def cmpEq : COp := { tys := tyAll, f := signedCmp fun x y => x = y }
/-- The negation of equality: a NaN compares unequal. -/
def cmpNe : COp := { tys := tyAll, f := fun c ty a b => let r := signedCmp (fun x y => x = y) c ty a b; (!r.1, r.2) }
def cmpLt : COp := { tys := tyAll, f := signedCmp fun x y => x < y }
def cmpLe : COp := { tys := tyAll, f := signedCmp fun x y => x ≤ y }
def cmpLtu : COp := { tys := tyIntOnly, f := fun _ _ a b => (a < b, {}) }
def cmpLeu : COp := { tys := tyIntOnly, f := fun _ _ a b => (a ≤ b, {}) }

/-! ## Permutes (R135) -/

/-- Where element `i` of a permute's destination comes from: register, element width, element number. `n` is the number of
elements of the register, `ix` the elements of vs2. -/
def permSrc (func : Nat) (ty : BitVec 2) (n : Nat) (o : VR) (ix : Nat → Nat) (i : Nat) : Reg × Nat × Nat :=
  let e := tyBits ty
  match func with
  | 0x03 => (o.vs1, e, ix i % n)
  | 0x04 => (o.vs1, e, n - 1 - i)
  | 0x05 => if i + 1 < n then (o.vs1, e, i + 1) else (o.vs2, e, 0)
  | 0x06 => (if i % 2 = 0 then o.vs1 else o.vs2, e, i / 2)
  | 0x07 => (if i % 2 = 0 then o.vs1 else o.vs2, e, n / 2 + i / 2)
  | 0x08 => if i < n / 2 then (o.vs1, e, 2 * i) else (o.vs2, e, 2 * (i - n / 2))
  | 0x09 => if i < n / 2 then (o.vs1, e, 2 * i + 1) else (o.vs2, e, 2 * (i - n / 2) + 1)
  | 0x0A => (o.vs1, 16, i)
  | 0x0B => (o.vs1, 16, n + i)
  | _ => if i < n / 2 then (o.vs1, 32, i) else (o.vs2, 32, i - n / 2)

/-- What a permute makes of the element: VWIDL and VWIDH sign-extend, VNARR saturates to i16, the others move it. -/
def permConv (func v : Nat) : Nat × VFlags :=
  if func = 0x0A ∨ func = 0x0B then (unsgn 32 (sgn 16 v), {})
  else if func = 0x0C then satE 16 (sgn 32 v)
  else (v, {})

/-- The types a permute permits. -/
def permTys (func : Nat) : List (BitVec 2) :=
  if func = 0x0A ∨ func = 0x0B then [1] else if func = 0x0C then [0] else tyAll

/-! ## Reductions (R135) -/

/-- Combine two partial results of VRSUM (0x0D), VRMIN (0x0E) or VRMAX (0x0F). -/
def reduce2 (func : Nat) (c : VCfg) (ty : BitVec 2) (x y : Nat) : Nat × VFlags :=
  match func with
  | 0x0D => if ty = 3 then fpAdd c.fp x y else if ty = 2 then opSadd.f c ty x y 0 else opAdd.f c ty x y 0
  | 0x0E => if ty = 3 then fpPick c.fp false x y else opMin.f c ty x y 0
  | _ => if ty = 3 then fpPick c.fp true x y else opMax.f c ty x y 0

/-- What an inactive element contributes. -/
def reduceIdle (func : Nat) (ty : BitVec 2) : Nat :=
  match func with
  | 0x0D => 0
  | 0x0E => if ty = 3 then fpInf false else 2 ^ (tyBits ty - 1) - 1
  | _ => if ty = 3 then fpInf true else 2 ^ (tyBits ty - 1)

/-- One level of the tree: elements 2j and 2j + 1 are combined. -/
def treeLevel (g : Nat → Nat → Nat × VFlags) : List (Nat × VFlags) → List (Nat × VFlags)
  | a :: b :: r => let v := g a.1 b.1; (v.1, (a.2.join b.2).join v.2) :: treeLevel g r
  | l => l

/-- The whole tree, over at most 64 elements. -/
def tree (g : Nat → Nat → Nat × VFlags) : Nat → List (Nat × VFlags) → List (Nat × VFlags)
  | 0, l => l
  | k + 1, l => tree g k (treeLevel g l)

/-- A reduction of `n` elements: the value and the flags. -/
def reduceAll (func : Nat) (c : VCfg) (ty : BitVec 2) (n : Nat) (f : Nat → Nat) : Nat × VFlags :=
  (tree (reduce2 func c ty) 6 ((List.range n).map fun i => (f i, {}))).headD (0, {})

/-- A scalar result in a g register: FP32 zero-extended, integers sign-extended (R135). -/
def toG (ty : BitVec 2) (v : Nat) : DWord := if ty = 3 then BitVec.ofNat 64 v else BitVec.ofInt 64 (sv ty v)

end Sys2Proof.Machine
end

