-- ==== Sys2Proof/Machine/ShortVector.lean ====
section
/-! DEFINITION. Machine/ShortVector.lean: the short-vector instructions on q registers (R125, R126, R136, R137, R142). Every
element takes part; the VR format with pg = 0 and Z = 0. -/
namespace Sys2Proof.Machine

/-- Elements in a q register. -/
def qElems (ty : BitVec 2) : Nat := if ty = 0 then 8 else 4

/-- A short-vector instruction: ILLEGAL_INSTRUCTION for fields R136 does not permit, VECTOR_CONFIG below Roadbed under an
invalid VCFG (VEC = 0), else its body. -/
def qinstr (t : TriadId) (word : DWord) (legal : Bool) (body : VCfg → State → Triad → State) (s : State) :
    Host.Outcome State Fault Refusal :=
  instr t (fun s _ =>
    let x := s.triad t
    if !legal then trap s 0x01 word
    else if x.level != 2 && (vcfgOf x.vcfg).bad
      then .error (⟨0x18, x.vcfg, false, 0⟩, s.setTriad t (x.elem none))
    else .ok (body x.vcfgNow s x)) s

/-- The common field rule of R136. -/
def qFields (o : VR) : Bool := o.pg = 0 && !o.z

/-- Flags of all `n` elements. -/
def allFlags (n : Nat) (f : Nat → VFlags) : VFlags := (List.range n).foldl (fun a i => a.join (f i)) {}

/-- The integer and Q1.31 operations of major 0x30: as 0x38, funcs 0x00 to 0x13 and 0x15. -/
def shortInt (func : Nat) : Option EOp :=
  match func with
  | 0x00 => some opAdd | 0x01 => some opSub | 0x02 => some opSadd | 0x03 => some opSsub | 0x04 => some opMul
  | 0x05 => some opMulh | 0x06 => some opMin | 0x07 => some opMax | 0x08 => some opAbs | 0x09 => some opNeg
  | 0x0A => some opAnd | 0x0B => some opOr | 0x0C => some opXor | 0x0D => some opNot | 0x0E => some opShl
  | 0x0F => some opShr | 0x10 => some opSra | 0x11 => some opShli | 0x12 => some opShri | 0x13 => some opSrai
  | 0x15 => some opMov | _ => none

/-- The FP32 operations of major 0x31: as 0x39. -/
def shortFp (func : Nat) : Option EOp :=
  match func with
  | 0x00 => some opFadd | 0x01 => some opFsub | 0x02 => some opFmul | 0x03 => some opFma | 0x04 => some opFms
  | 0x05 => some opFmin | 0x06 => some opFmax | 0x07 => some opFabs | 0x08 => some opFneg | 0x09 => some opCvtfq
  | 0x0A => some opCvtqf | 0x0B => some opCvtfi | 0x0C => some opCvtif | _ => none

/-- The comparisons of major 0x32. -/
def shortCmp (func : Nat) : Option COp :=
  match func with
  | 0x00 => some cmpEq | 0x01 => some cmpNe | 0x02 => some cmpLt | 0x03 => some cmpLe | 0x04 => some cmpLtu
  | 0x05 => some cmpLeu | _ => none

/-- The permitted fields of an element-wise operation. -/
def shortLegal (op : Option EOp) (o : VR) : Bool :=
  match op with
  | some e => e.legal o && qFields o
  | none => false

/-- An element-wise operation on q registers. -/
def shortElem (op : Option EOp) (major : Nat) (t : TriadId) (w : SV) (s : State) : Host.Outcome State Fault Refusal :=
  let o := w.o
  qinstr t (encVR major w.func.toNat o) (shortLegal op o) (fun c s x =>
    match op with
    | none => s
    | some e =>
      let b := tyBits o.ty
      let n := qElems o.ty
      let r := fun i => e.f c o.ty (elemAt b (x.qv o.vs1) i)
        (if e.imm then o.vs2.toNat else elemAt b (x.qv o.vs2) i) (elemAt b (x.qv o.vd) i)
      s.setTriad t ((x.putQ o.vd (packElems b n fun i => (r i).1)).flags (allFlags n fun i => (r i).2))) s

def execShortVectorIntegerOp (t : TriadId) (w : SV) (s : State) : Host.Outcome State Fault Refusal :=
  shortElem (shortInt w.func.toNat) 0x30 t w s

def execShortVectorFp32Op (t : TriadId) (w : SV) (s : State) : Host.Outcome State Fault Refusal :=
  shortElem (shortFp w.func.toNat) 0x31 t w s

/-- A comparison writes each element as all ones or all zeros. -/
def execShortVectorCompare (t : TriadId) (w : SV) (s : State) : Host.Outcome State Fault Refusal :=
  let o := w.o
  qinstr t (encVR 0x32 w.func.toNat o)
    (qFields o && (match shortCmp w.func.toNat with | some p => p.tys.contains o.ty | none => false)) (fun c s x =>
    match shortCmp w.func.toNat with
    | none => s
    | some p =>
      let b := tyBits o.ty
      let n := qElems o.ty
      let r := fun i => p.f c o.ty (elemAt b (x.qv o.vs1) i) (elemAt b (x.qv o.vs2) i)
      s.setTriad t ((x.putQ o.vd (packElems b n fun i => if (r i).1 then 2 ^ b - 1 else 0)).flags
        (allFlags n fun i => (r i).2))) s

/-- QBSEL: qd = (qd and qs1) or (not qd and qs2). -/
def execQbsel (t : TriadId) (o : VR) (s : State) : Host.Outcome State Fault Refusal :=
  qinstr t (encVR 0x32 0x06 o) (qFields o) (fun _ s x =>
    let d := x.qv o.vd
    s.setTriad t (x.putQ o.vd (Nat.lor (Nat.land d (x.qv o.vs1)) (Nat.land (2 ^ 128 - 1 - d) (x.qv o.vs2))))) s

/-- The permutes, moves and reductions of major 0x33: as 0x3B, funcs 0x00 to 0x0F, with N = 8 or 4. -/
def shortPerm (func : Nat) (t : TriadId) (o : VR) (c : VCfg) (s : State) (x : Triad) : State :=
  let e := tyBits o.ty
  let n := qElems o.ty
  let at_ := fun (r : Reg) i => elemAt e (x.qv r) i
  let k := (s.gx t o.vs2).toNat % n
  let g := (s.gx t o.vs1).toNat % 2 ^ e
  match func with
  | 0x00 => s.setTriad t (x.putQ o.vd (packElems e n fun _ => g))
  | 0x01 => s.setG t o.vd (toG o.ty (at_ o.vs1 k))
  | 0x02 => s.setTriad t (x.putQ o.vd (packElems e n fun i => if i = k then g else at_ o.vd i))
  | 0x0D | 0x0E | 0x0F =>
    let r := reduceAll func c o.ty n (at_ o.vs1)
    (s.setTriad t (x.flags r.2)).setG t o.vd (toG o.ty r.1)
  | _ =>
    let src := permSrc func o.ty n o (at_ o.vs2)
    let r := fun i => let p := src i; permConv func (elemAt p.2.1 (x.qv p.1) p.2.2)
    s.setTriad t ((x.putQ o.vd (packElems e n fun i => (r i).1)).flags (allFlags n fun i => (r i).2))

def execShortVectorPermute (t : TriadId) (w : SV) (s : State) : Host.Outcome State Fault Refusal :=
  qinstr t (encVR 0x33 w.func.toNat w.o)
    (qFields w.o && decide (w.func.toNat ≤ 0x0F) && (permTys w.func.toNat).contains w.o.ty)
    (shortPerm w.func.toNat t w.o) s

/-- QMOVG: g[vd] = half vs2[0] of q[vs1]; the field's other bits select nothing. -/
def execQmovg (t : TriadId) (o : VR) (s : State) : Host.Outcome State Fault Refusal :=
  qinstr t (encVR 0x36 0x00 o) (qFields o) (fun _ s x =>
    s.setG t o.vd (BitVec.ofNat 64 (elemAt 64 (x.qv o.vs1) (o.vs2.toNat % 2)))) s

/-- GMOVQ: half vs2[0] of q[vd] = g[vs1]. -/
def execGmovq (t : TriadId) (o : VR) (s : State) : Host.Outcome State Fault Refusal :=
  qinstr t (encVR 0x36 0x01 o) (qFields o) (fun _ s x =>
    s.setTriad t (x.putQ o.vd (packElems 64 2 fun i =>
      if i = o.vs2.toNat % 2 then (s.gx t o.vs1).toNat else elemAt 64 (x.qv o.vd) i))) s

/-! ## Memory (R137, R142) -/

/-- A short-vector memory access: misaligned ALIGNMENT, a device region refused (R142). -/
def State.qGuard (s : State) (t a : Nat) (store : Bool) : Option (Exc × State) :=
  if a % 16 ≠ 0 then some (⟨0x03, BitVec.ofNat 64 a, false, 0⟩, s)
  else if isDevice a then s.refused (s.triadIssuer t) (if store then 3 else 2) store false (.own a)
  else none

/-- A q memory instruction's VECTOR_CONFIG check (R125). -/
def State.qConfig (s : State) (t : Nat) : Option (Exc × State) :=
  let x := s.triad t
  if x.level != 2 && (vcfgOf x.vcfg).bad then some (⟨0x18, x.vcfg, false, 0⟩, s.setTriad t (x.elem none)) else none

def execQld (t : TriadId) (q rs1 : Reg) (imm : Imm16) (s : State) : Host.Outcome State Fault Refusal :=
  instr t (fun s _ =>
    let a := (s.gx t rs1 + imm.signExtend 64).toNat
    match (s.qConfig t).orElse fun _ => s.qGuard t a false with
    | some e => .error e
    | none => match s.loadBytes (s.triadIssuer t) a 16 .load 2 false with
      | .error e => .error e
      | .ok (s1, bs) => .ok (s1.onTriad t fun x => x.putQ q (leVal bs))) s

def execQst (t : TriadId) (q rs1 : Reg) (imm : Imm16) (s : State) : Host.Outcome State Fault Refusal :=
  instr t (fun s _ =>
    let a := (s.gx t rs1 + imm.signExtend 64).toNat
    match (s.qConfig t).orElse fun _ => s.qGuard t a true with
    | some e => .error e
    | none => s.storeAt (s.triadIssuer t) a (leBytes 16 ((s.triad t).qv q)) .store 3 false) s

end Sys2Proof.Machine
end

