-- ==== Sys2Proof/Machine/System.lean ====
section
/-! DEFINITION. Machine/System.lean: control registers, barriers, calls and the shadow stack, service requests, returns,
waits and the asynchronous causes (R71 to R74, R81, R85 to R89, R95 to R99, R101 to R119). -/
namespace Sys2Proof.Machine

/-! ## Encodings of the system instructions, for EVAL (R75, R77, R108) -/

/-- The word of a C-format instruction: major 0x2A, g, sub, n12. -/
def encC (sub : Nat) (g : Reg) (n : N12) : DWord :=
  BitVec.ofNat 64 (wordC sub g n)

/-! ## Control registers (R71, R85, R114) -/

/-- The level MFC reads a register at, at least; none for a reserved number (R71, R72). -/
def ctlRead (n : Nat) : Option Nat :=
  match n with
  | 0x000 => some 1 | 0x001 => some 1 | 0x002 => some 1 | 0x003 => some 1 | 0x004 => some 1 | 0x005 => some 1
  | 0x006 => some 1 | 0x010 => some 1 | 0x011 => some 1 | 0x012 => some 1 | 0x020 => some 0 | 0x021 => some 0
  | 0x030 => some 1 | 0x031 => some 1 | 0x040 => some 1 | 0x041 => some 1 | 0x042 => some 0 | 0x050 => some 1
  | 0x051 => some 1 | 0x052 => some 1 | 0x060 => some 1 | 0x061 => some 1 | _ => none

/-- The level of the shadow-stack copy an access reaches (R114). -/
def Triad.ssLevel (x : Triad) : Nat :=
  if x.status.getLsbD 12 && decide (x.eps.toNat % 4 ≤ x.level) then x.eps.toNat % 4 else x.level

/-- The level MTC writes a register at, at least: 3 for a register no level writes (R71, R101, R114). -/
def Triad.ctlWrite (x : Triad) (n : Nat) : Nat :=
  match n with
  | 0x000 => 1 | 0x001 => 1 | 0x002 => 1 | 0x003 => 1 | 0x004 => 1 | 0x005 => 2 | 0x006 => 1 | 0x010 => 1
  | 0x011 => if x.ssLevel = 0 then 1 else 2
  | 0x012 => if x.ssLevel = 0 then 1 else 2
  | 0x020 => 0 | 0x021 => 0 | 0x030 => 1 | 0x031 => 2 | 0x040 => 1 | 0x041 => 1
  | _ => 3

/-- The key of a sync register's pending value: its number, with the level for the shadow-stack copies (R85, R114). -/
def Triad.syncKey (x : Triad) (n : Nat) : Nat :=
  if n = 0x10 ∨ n = 0x11 ∨ n = 0x12 then n + 0x1000 * x.ssLevel else n

/-- The bits a control register holds (R71, R104 and the register tables). -/
def ctlMask (n : Nat) : DWord :=
  match n with
  | 0x000 => 0x1F0C | 0x001 => 0xFFFFFFFFFFFFFFFC | 0x002 => 0x1F0F | 0x003 => 0xF13FF
  | 0x005 => 0xFFFFFFF000 | 0x010 => 0xFFFFFFFFF8 | 0x011 => 0xFFFFFFFFF8 | 0x012 => 0xFFFFFFFFF8
  | 0x020 => 0xFF37 | 0x021 => 0x7C7F
  | 0x030 => 0x3 | 0x031 => 0x1FF | 0x040 => 0x8000FFFF | 0x041 => 0x80000000FFFFFFFF
  | _ => 0xFFFFFFFFFFFFFFFF

/-- The applied value of a control register (R71 to R74, R97, R99). -/
def State.ctlValue (s : State) (t n : Nat) : DWord :=
  let x := s.triad t
  let sh := x.shadowOf x.ssLevel
  match n with
  | 0x000 => x.status | 0x001 => x.epc | 0x002 => x.eps | 0x003 => x.ecause | 0x004 => x.eval | 0x005 => x.evbase
  | 0x006 => x.escratch | 0x010 => sh.ssp | 0x011 => sh.ssbase | 0x012 => sh.sslimit | 0x020 => x.vcfg
  | 0x021 => x.vxstat | 0x030 => x.tgset | 0x031 => x.evrbase
  | 0x040 => if t = 0 then 0 else x.taskid
  | 0x041 => if t = 0 then 0 else x.budget
  | 0x042 => BitVec.ofNat 64 (s.eng.period.getD 0)
  | 0x050 => x.cycle | 0x051 => x.instret
  | 0x052 => BitVec.ofNat 64 s.time
  | 0x060 =>
    if t = 0 then 0
    else BitVec.ofNat 64 (masterOf t + (if isLayby (laneOf t) then 2 ^ 8 else 0) + laneOf t / 2 * 2 ^ 9)
  | 0x061 => BitVec.ofNat 64 (x.outvotes * 2 ^ 32 + x.odd * 4 + x.mode)
  | _ => 0

/-- The sync registers (R71). -/
def isSync (n : Nat) : Bool :=
  n = 0x005 || n = 0x010 || n = 0x011 || n = 0x012 || n = 0x020 || n = 0x030 || n = 0x031 || n = 0x040

/-- What MFC returns: a sync register's pending value when there is one (R85). A reserved number reads 0 (R71). -/
def State.mfc (s : State) (t n : Nat) : DWord :=
  let x := s.triad t
  if isSync n then (x.pending (x.syncKey n)).getD (s.ctlValue t n) else s.ctlValue t n

/-- What MTC writes: a sync register's pending value (R85); STATUS keeps LEVEL (R104); TASKID and BUDGET are absent on the
supervisor (R74). -/
def State.mtc (s : State) (t n : Nat) (v : DWord) : State :=
  let v := v &&& ctlMask n
  let x := s.triad t
  if t = 0 ∧ (n = 0x040 ∨ n = 0x041) then s
  else if isSync n then s.setTriad t (x.setPending (x.syncKey n) v)
  else s.setTriad t <| match n with
    | 0x000 => { x with status := v ||| (x.status &&& 3) }
    | 0x001 => { x with epc := v }
    | 0x002 => { x with eps := v }
    | 0x003 => { x with ecause := v }
    | 0x004 => { x with eval := v }
    | 0x006 => { x with escratch := v }
    | 0x021 => { x with vxstat := v }
    | 0x041 => { x with budget := v }
    | _ => x

/-- MFC g, n12: a reserved number reads 0 at every level; a register the level may not read is PRIVILEGED_INSTRUCTION (R71, R101). -/
def execMfc (t : TriadId) (g : Reg) (n : N12) (s : State) : Host.Outcome State Fault Refusal :=
  instr t (fun s _ =>
    match ctlRead n.toNat with
    | none => .ok (s.setG t g 0)
    | some l => if (s.triad t).level < l then trap s 0x02 (encC 0x00 g n) else .ok (s.setG t g (s.mfc t n.toNat))) s

/-- MTC g, n12: a reserved number is ILLEGAL_INSTRUCTION; a register the level may not write, or none may, is
PRIVILEGED_INSTRUCTION (R71, R101). -/
def execMtc (t : TriadId) (g : Reg) (n : N12) (s : State) : Host.Outcome State Fault Refusal :=
  instr t (fun s _ =>
    match ctlRead n.toNat with
    | none => trap s 0x01 (encC 0x01 g n)
    | some _ => if (s.triad t).level < (s.triad t).ctlWrite n.toNat then trap s 0x02 (encC 0x01 g n)
                else .ok (s.mtc t n.toNat (s.gx t g))) s

/-! ## Barriers (R81, R86, R87) -/

/-- Apply every pending value but TGSET's (R86), and the Waymark window a TASKID opens or closes (R337). -/
def State.applySyncs (s : State) (t : Nat) : State :=
  let x := s.triad t
  let s := s.setTriad t x.applyPend
  match x.pending 0x040 with
  | some v => if t = 0 then s else s.applyTask (laneOf t) v
  | none => s

/-- SYNC.C (R86, R291): a pending TGSET whose staged set is at fault is discarded and TOLLGATE_CONFIG raised; everything
else is applied at once. -/
def State.syncC (s : State) (t : Nat) : Res :=
  let x := s.triad t
  match x.pending 0x030 with
  | none => .ok (s.applySyncs t)
  | some v =>
    let k := v.toNat % 4
    if (s.stagedSet t k).bad then .error (⟨0x08, v, false, 0⟩, (s.setTriad t (x.dropPending 0x030)).applySyncs t)
    else .ok (((s.setTriad t { x.dropPending 0x030 with tgset := v }).applySet t k).applySyncs t)

def execSyncC (t : TriadId) (s : State) : Host.Outcome State Fault Refusal := instr t (fun s _ => s.syncC t) s

/-- SYNC.I: in this model every fetch reads memory as it stands (R87 to R89), so it only moves on. -/
def execSyncI (t : TriadId) (s : State) : Host.Outcome State Fault Refusal := instr t (fun s _ => .ok s) s

/-- SYNC.M: in this model every older access has been performed and acknowledged (R81), so it only moves on. -/
def execSyncM (t : TriadId) (s : State) : Host.Outcome State Fault Refusal := instr t (fun s _ => .ok s) s

/-! ## Calls and the shadow stack (R114 to R117) -/

/-- Push a return address on the shadow stack of the current level (R116): SHADOW_OVERFLOW when there is no room, the
push's own faults otherwise. -/
def State.push (s : State) (t : Nat) (ret : DWord) : Res :=
  let x := s.triad t
  let sh := x.shadowOf x.level
  if sh.ssp.toNat < sh.sslimit.toNat + 8 then trap s 0x13 sh.ssp
  else
    match s.storeAt (s.triadIssuer t) (sh.ssp.toNat - 8) (leBytes 8 (ret ||| 1).toNat) .push 3 false with
    | .error e => .error e
    | .ok s1 => .ok (s1.onTriad t fun y => y.setShadow x.level { y.shadowOf x.level with ssp := sh.ssp - 8 })

/-- Push, write g31 and jump (R116). -/
def State.callTo (s : State) (t : Nat) (pc target : DWord) : Res :=
  match s.push t (pc + 4) with
  | .error e => .error e
  | .ok s1 => .ok ((s1.setG t 31 (pc + 4)).setPc t target)

def execCall (t : TriadId) (off : Off26) (s : State) : Host.Outcome State Fault Refusal :=
  instr t (fun s pc => s.callTo t pc (jTarget pc off)) s

/-- CALLR: PC = g[rs1] as it was before g31 is written. -/
def execCallr (t : TriadId) (rs1 : Reg) (s : State) : Host.Outcome State Fault Refusal :=
  instr t (fun s pc => s.callTo t pc (s.gx t rs1)) s

/-- RET (R116): underflow, then the comparison with the top of the stack, then pop and jump. -/
def State.ret (s : State) (t : Nat) : Res :=
  let x := s.triad t
  let sh := x.shadowOf x.level
  let link := s.gx t 31
  if sh.ssbase.toNat ≤ sh.ssp.toNat then trap s 0x14 sh.ssp
  else
    match s.loadBytes (s.triadIssuer t) sh.ssp.toNat 8 .ret 2 false with
    | .error e => .error e
    | .ok (s1, bs) =>
      if leVal bs ≠ (link ||| 1).toNat then trap s1 0x12 link
      else .ok ((s1.onTriad t fun y => y.setShadow x.level { y.shadowOf x.level with ssp := sh.ssp + 8 }).setPc t link)

def execRet (t : TriadId) (s : State) : Host.Outcome State Fault Refusal := instr t (fun s _ => s.ret t) s

/-! ## Returns, services, breakpoints, waits (R77, R101, R105, R112) -/

/-- ERET (R112). -/
def State.eret (s : State) (t : Nat) (pc : DWord) : Res :=
  let x := s.triad t
  let back := x.eps.toNat % 4
  if x.level = 0 then trap s 0x02 (encC 0x05 0 0)
  else if x.level < back then trap s 0x15 pc
  else .ok (s.setTriad t { x with status := if back = 0 then x.eps &&& ~~~ 8 else x.eps, pc := x.epc })

def execEret (t : TriadId) (s : State) : Host.Outcome State Fault Refusal := instr t (fun s pc => s.eret t pc) s

def execSrvc (t : TriadId) (n : N12) (s : State) : Host.Outcome State Fault Refusal :=
  instr t (fun s _ => trap s 0x10 (n.setWidth 64)) s

/-- BREAK: the breakpoint exception; at Footpath on a lane a debug session holds, a debug stop, which enters no check
record (R118, State.raiseSync). -/
def execBreakCmd (t : TriadId) (s : State) : Host.Outcome State Fault Refusal := instr t (fun s _ => trap s 0x11 0) s

/-- WAYMARK n12 (R95): no effect without an armed task. -/
def execWaymark (t : TriadId) (n : N12) (s : State) : Host.Outcome State Fault Refusal :=
  instr t (fun s pc =>
    .ok (if t.val ≠ 0 && (s.triad t).taskid.getLsbD 31 then s.checkIn (laneOf t) pc.toNat n.toNat else s)) s

/-- WAIT: clock-gates the triad until an interrupt is pending; at Footpath a privileged instruction (R77, R101). -/
def execWaitCmd (t : TriadId) (s : State) : Host.Outcome State Fault Refusal :=
  instr t (fun s _ =>
    if (s.triad t).level = 0 then trap s 0x02 (encC 0x08 0 0)
    else .ok (s.onTriad t fun x => { x with run := .waiting })) s

/-- An undefined encoding (R76): ILLEGAL_INSTRUCTION with the word in EVAL; in majors 0x38 to 0x3F it is a long-vector instruction's (R147).
A word that some instruction of the triad spells is no such encoding: nothing is executed. -/
def execUndefinedEncoding (t : TriadId) (w : Word) (s : State) : Host.Outcome State Fault Refusal :=
  if definedWord t w then done s
  else instr t (fun s _ =>
    if 0x38 ≤ w.toNat / 2 ^ 26 then .error (⟨0x01, w.setWidth 64, true, 0⟩, s.onTriad t fun x => x.elem none)
    else trap s 0x01 (w.setWidth 64)) s

/-! ## Asynchronous causes (R106, R107, R109) -/

/-- Take interrupt `e` at priority `q` for level `l` (R106, R110). A wait ends. -/
def State.takeInterrupt (s : State) (t l e q : Nat) : State :=
  let pc := (s.triad t).pc
  (s.onTriad t fun x => { x with run := .running }).enterException t ⟨0x20, BitVec.ofNat 64 e, false, q⟩ l pc

/-- A pending interrupt is taken at the next boundary (R106, R109). -/
def execInterruptTaken (t : TriadId) (s : State) : Host.Outcome State Fault Refusal :=
  match if (s.triad t).takes && !s.haltDue t then s.nextInterrupt t else none with
  | some (l, e, q) => done (s.takeInterrupt t l e q)
  | none => done s

/-- A pending CHECK_FAILURE, or else TASK_BUDGET_OVERRUN, is taken at Carriageway (R107, R109), unless an interrupt to
Roadbed goes first. CHECK_FAILURE has entered the check record when it arose (R23, R151, R338); a budget overrun of a
Footpath task is a task exception (R35, R118). -/
def execAsyncCauseTaken (t : TriadId) (s : State) : Host.Outcome State Fault Refusal :=
  let x := s.triad t
  if t.val = 0 || !x.takes || s.haltDue t || !x.asyncOpen || (s.readyAt t 2).isSome then done s
  else
    match x.check with
    | some v => done ((s.setTriad t { x with check := none, run := .running }).enterException t
        ⟨0x22, BitVec.ofNat 64 v, false, 0⟩ 1 x.pc)
    | none =>
      if x.overrun then
        let s1 := (s.setTriad t { x with overrun := false, run := .running }).enterException t ⟨0x21, 0, false, 0⟩ 1 x.pc
        done (if x.level = 0 then s1.onLane (laneOf t) fun l => { l with exc := some ⟨0x21, x.pc⟩ } else s1)
      else done s

/-! ## Resynchronisation (R158, R159) -/

/-- The odd core joins at an instruction boundary and MODE returns to 0 (R158): it has been reset and loaded from the two cores in service.
A difference between those two, compared word by word, fails the lane (R157). -/
def State.rejoin (s : State) (t : Nat) : State :=
  if (s.triad t).upset.any (· ≠ (s.triad t).odd) then s.voterFails t
  else s.onTriad t fun x => { x with mode := 0, joinedAt := Sparse.put x.joinedAt x.odd (s.time + 1), upset := [] }

def execResyncComplete (t : TriadId) (s : State) : Host.Outcome State Fault Refusal :=
  occurs ((s.triad t).mode = 1) s (s.rejoin t)

/-- A resynchronisation misses 4 µs: the core is held out with MODE = 2 (R159, R175). -/
def execCoreHoldOut (t : TriadId) (s : State) : Host.Outcome State Fault Refusal :=
  occurs ((s.triad t).mode = 1) s
    ((s.onTriad t fun x => { x with mode := 2 }).drive (if t.val = 0 then 17 else 33 + 8 * laneOf t)
      (s.coreRaise t (s.triad t).odd 2))

end Sys2Proof.Machine
end

