-- ==== Sys2Proof/Machine/Vector.lean ====
section
/-! DEFINITION. Machine/Vector.lean: the long-vector arithmetic, compare, permute, move, reduction and control instructions
(R134, R135, R138, R139, R147, R150, R151). -/
namespace Sys2Proof.Machine

/-! ## The frame of a long-vector instruction -/

/-- What a long-vector instruction without memory leaves: the triad, a failed check, the number of result elements made in
the vector unit, a general register written. -/
structure VOut where
  x : Triad
  fail : Bool := false
  made : Nat := 0
  g : Option (Reg × DWord) := none

/-- Perform `k` injections (R449). -/
def State.injectN (s : State) : Nat → State
  | 0 => s
  | k + 1 => s.injected.injectN k

/-- Forced residue errors due for `made` result elements of the lane (R449). -/
def State.residueInjections (s : State) (t made : Nat) : Nat :=
  if s.armed [1] && s.rwk.target = laneOf t then min s.rwk.left made else 0

/-- The end of a long-vector instruction: a value is sent to the triad only when its checks pass (R150); a failed check, or
a forced residue error, raises CHECK_FAILURE (R151). -/
def State.vcommit (s : State) (t : Nat) (o : VOut) : State :=
  let k := s.residueInjections t o.made
  let s := (s.setTriad t o.x).injectN k
  let s := match o.g with
    | some (r, v) => if o.fail then s else s.setG t r v
    | none => s
  if o.fail || k != 0 then s.checkFails t else s

/-- A long-vector instruction on triad `t` (R76, R125, R126, R133, R147): its word for EVAL, whether its fields are legal,
whether it belongs to the save set. -/
def vinstr (t : TriadId) (word : DWord) (legal save : Bool) (body : VCfg → State → Triad → VOut) (s : State) :
    Host.Outcome State Fault Refusal :=
  instr t (fun s _ =>
    let x := s.triad t
    if t.val = 0 || !legal then .error (⟨0x01, word, true, 0⟩, s.setTriad t (x.elem none))
    else if !save && x.level != 2 && (vcfgOf x.vcfg).bad
      then .error (⟨0x18, x.vcfg, true, 0⟩, s.setTriad t (x.elem none))
    else .ok (s.vcommit t (body x.vcfgNow s x))) s

/-- The field names a p register: its high bits are 0 (R132, R133). -/
def isP (r : Reg) : Bool := decide (r.toNat < 8)
/-- The field names a za register. -/
def isZa (r : Reg) : Bool := decide (r.toNat < 4)

/-! ## Writing elements (R139) -/

/-- The container an element of width `e` lies in. -/
def inContainer (e i : Nat) : Nat := if e = 16 then i / 2 else i

/-- Whether a container holds an element for which `act` holds. -/
def containerHas (e : Nat) (act : Nat → Bool) (k : Nat) : Bool := if e = 16 then act (2 * k) || act (2 * k + 1) else act k

/-- Write the active elements of a z register; the inactive keep their values, or are 0 with Z = 1. -/
def Triad.writeElems (x : Triad) (r : Reg) (e : Nat) (zero : Bool) (act : Nat → Bool) (v : Nat → Nat) : Triad :=
  let n := 1024 / e
  let old := x.zv r
  x.putZ r (fun k => zero || containerHas e act k)
    (packElems e n fun i => if act i then v i else if zero then 0 else elemAt e old i)

/-- How many of the first `n` elements are active. -/
def countActive (n : Nat) (act : Nat → Bool) : Nat := ((List.range n).filter act).length

/-- The flags of the active elements together. -/
def joinFlags (n : Nat) (act : Nat → Bool) (f : Nat → VFlags) : VFlags :=
  ((List.range n).filter act).foldl (fun a i => a.join (f i)) {}

/-- Whether the containers of a register that the active elements of width `e` lie in pass their checks. -/
def Triad.goodFor (x : Triad) (r : Reg) (e : Nat) (act : Nat → Bool) : Bool :=
  (List.range 32).all fun k => !containerHas e act k || x.zGood r k

/-- Whether the prediction from the residues of two operands meets the result's residue, for every container that holds an active element
(R150, R153). -/
def Triad.chainGood (x : Triad) (c : Chain) (r1 r2 : Reg) (e : Nat) (act : Nat → Bool) : Bool :=
  (List.range 32).all fun k =>
    !containerHas e act k || !c.strays (elemAt 32 (x.zv r1) k) (elemAt 32 (x.zv r2) k) (x.zr r1 k) (x.zr r2 k)

/-- Whether the containers of which one i16 half is written and the other kept pass their checks: the kept half enters the new residue
(R150, R152). -/
def Triad.keptGood (x : Triad) (r : Reg) (e : Nat) (zero : Bool) (act : Nat → Bool) : Bool :=
  e != 16 || zero || (List.range 32).all fun k => (act (2 * k) == act (2 * k + 1)) || x.zGood r k

/-! ## Element-wise operations -/

/-- The value and flags of element `i`. -/
def EOp.at (op : EOp) (c : VCfg) (o : VR) (a b d i : Nat) : Nat × VFlags :=
  let e := tyBits o.ty
  op.f c o.ty (elemAt e a i) (if op.imm then o.vs2.toNat else elemAt e b i) (elemAt e d i)

/-- The body of an element-wise instruction. -/
def EOp.body (op : EOp) (o : VR) (c : VCfg) (_ : State) (x : Triad) : VOut :=
  let e := tyBits o.ty
  let act := x.active c o
  let r := op.at c o (x.zv o.vs1) (x.zv o.vs2) (x.zv o.vd)
  let n := tyElems o.ty
  { x := (x.writeElems o.vd e o.z act fun i => (r i).1).flags (joinFlags n act fun i => (r i).2)
    fail := !(x.pGood o.pg.toNat &&
      (if op.one || op.imm then x.goodFor o.vs1 e act else x.chainGood (op.chain o.ty) o.vs1 o.vs2 e act) &&
      (!op.acc || x.goodFor o.vd e act) && x.keptGood o.vd e o.z act)
    made := countActive n act }

/-- An element-wise long-vector instruction. -/
def longElem (op : EOp) (major func : Nat) (t : TriadId) (o : VR) (s : State) : Host.Outcome State Fault Refusal :=
  vinstr t (encVR major func o) (op.legal o) false (op.body o) s

def execVadd (t : TriadId) (o : VR) (s : State) := longElem opAdd 0x38 0x00 t o s
def execVsub (t : TriadId) (o : VR) (s : State) := longElem opSub 0x38 0x01 t o s
def execVsadd (t : TriadId) (o : VR) (s : State) := longElem opSadd 0x38 0x02 t o s
def execVssub (t : TriadId) (o : VR) (s : State) := longElem opSsub 0x38 0x03 t o s
def execVmul (t : TriadId) (o : VR) (s : State) := longElem opMul 0x38 0x04 t o s
def execVmulh (t : TriadId) (o : VR) (s : State) := longElem opMulh 0x38 0x05 t o s
def execVmin (t : TriadId) (o : VR) (s : State) := longElem opMin 0x38 0x06 t o s
def execVmax (t : TriadId) (o : VR) (s : State) := longElem opMax 0x38 0x07 t o s
def execVabs (t : TriadId) (o : VR) (s : State) := longElem opAbs 0x38 0x08 t o s
def execVneg (t : TriadId) (o : VR) (s : State) := longElem opNeg 0x38 0x09 t o s
def execVand (t : TriadId) (o : VR) (s : State) := longElem opAnd 0x38 0x0A t o s
def execVor (t : TriadId) (o : VR) (s : State) := longElem opOr 0x38 0x0B t o s
def execVxor (t : TriadId) (o : VR) (s : State) := longElem opXor 0x38 0x0C t o s
def execVnot (t : TriadId) (o : VR) (s : State) := longElem opNot 0x38 0x0D t o s
def execVshl (t : TriadId) (o : VR) (s : State) := longElem opShl 0x38 0x0E t o s
def execVshr (t : TriadId) (o : VR) (s : State) := longElem opShr 0x38 0x0F t o s
def execVsra (t : TriadId) (o : VR) (s : State) := longElem opSra 0x38 0x10 t o s
def execVshli (t : TriadId) (o : VR) (s : State) := longElem opShli 0x38 0x11 t o s
def execVshri (t : TriadId) (o : VR) (s : State) := longElem opShri 0x38 0x12 t o s
def execVsrai (t : TriadId) (o : VR) (s : State) := longElem opSrai 0x38 0x13 t o s
def execVmov (t : TriadId) (o : VR) (s : State) := longElem opMov 0x38 0x15 t o s
def execVfadd (t : TriadId) (o : VR) (s : State) := longElem opFadd 0x39 0x00 t o s
def execVfsub (t : TriadId) (o : VR) (s : State) := longElem opFsub 0x39 0x01 t o s
def execVfmul (t : TriadId) (o : VR) (s : State) := longElem opFmul 0x39 0x02 t o s
def execVfma (t : TriadId) (o : VR) (s : State) := longElem opFma 0x39 0x03 t o s
def execVfms (t : TriadId) (o : VR) (s : State) := longElem opFms 0x39 0x04 t o s
def execVfmin (t : TriadId) (o : VR) (s : State) := longElem opFmin 0x39 0x05 t o s
def execVfmax (t : TriadId) (o : VR) (s : State) := longElem opFmax 0x39 0x06 t o s
def execVfabs (t : TriadId) (o : VR) (s : State) := longElem opFabs 0x39 0x07 t o s
def execVfneg (t : TriadId) (o : VR) (s : State) := longElem opFneg 0x39 0x08 t o s
def execVcvtfq (t : TriadId) (o : VR) (s : State) := longElem opCvtfq 0x39 0x09 t o s
def execVcvtqf (t : TriadId) (o : VR) (s : State) := longElem opCvtqf 0x39 0x0A t o s
def execVcvtfi (t : TriadId) (o : VR) (s : State) := longElem opCvtfi 0x39 0x0B t o s
def execVcvtif (t : TriadId) (o : VR) (s : State) := longElem opCvtif 0x39 0x0C t o s

/-- VSEL: for every i < n, a where the predicate bit is 1, else b; Z = 0. -/
def execVsel (t : TriadId) (o : VR) (s : State) : Host.Outcome State Fault Refusal :=
  vinstr t (encVR 0x38 0x14 o) (!o.z) false (fun c _ x =>
    let e := tyBits o.ty
    let act := fun i => decide (i < c.n o.ty)
    let bit := fun i => (x.pv o.pg.toNat).getLsbD i
    { x := x.writeElems o.vd e false act fun i => if bit i then elemAt e (x.zv o.vs1) i else elemAt e (x.zv o.vs2) i
      fail := !(x.pGood o.pg.toNat && x.goodFor o.vs1 e (fun i => act i && bit i) &&
        x.goodFor o.vs2 e (fun i => act i && !bit i) && x.keptGood o.vd e false act)
      made := countActive (tyElems o.ty) act }) s

/-! ## Comparisons and predicates -/

/-- A long-vector comparison into a predicate: inactive elements and bits from n up are 0 (R139). -/
def longCmp (op : COp) (func : Nat) (t : TriadId) (o : VR) (s : State) : Host.Outcome State Fault Refusal :=
  vinstr t (encVR 0x3A func o) (op.tys.contains o.ty && isP o.vd) false (fun c _ x =>
    let e := tyBits o.ty
    let act := x.active c o
    let r := fun i => op.f c o.ty (elemAt e (x.zv o.vs1) i) (elemAt e (x.zv o.vs2) i)
    { x := (x.putP o.vd.toNat (packBits (tyElems o.ty) fun i => act i && (r i).1)).flags
        (joinFlags (tyElems o.ty) act fun i => (r i).2)
      fail := !(x.pGood o.pg.toNat && x.goodFor o.vs1 e act && x.goodFor o.vs2 e act) }) s

def execVcmpeq (t : TriadId) (o : VR) (s : State) := longCmp cmpEq 0x00 t o s
def execVcmpne (t : TriadId) (o : VR) (s : State) := longCmp cmpNe 0x01 t o s
def execVcmplt (t : TriadId) (o : VR) (s : State) := longCmp cmpLt 0x02 t o s
def execVcmple (t : TriadId) (o : VR) (s : State) := longCmp cmpLe 0x03 t o s
def execVcmpltu (t : TriadId) (o : VR) (s : State) := longCmp cmpLtu 0x04 t o s
def execVcmpleu (t : TriadId) (o : VR) (s : State) := longCmp cmpLeu 0x05 t o s

/-- A predicate operation on all 64 bits: T = 0, pg = 0. -/
def predOp (g : BitVec 64 → BitVec 64 → BitVec 64) (func : Nat) (t : TriadId) (o : VR) (s : State) :
    Host.Outcome State Fault Refusal :=
  vinstr t (encVR 0x3A func o) (o.ty = 0 && o.pg = 0 && isP o.vd && isP o.vs1 && isP o.vs2) false (fun _ _ x =>
    { x := x.putP o.vd.toNat (g (x.pv o.vs1.toNat) (x.pv o.vs2.toNat))
      fail := !(x.pGood o.vs1.toNat && x.pGood o.vs2.toNat) }) s

def execPand (t : TriadId) (o : VR) (s : State) := predOp (fun a b => a &&& b) 0x08 t o s
def execPor (t : TriadId) (o : VR) (s : State) := predOp (fun a b => a ||| b) 0x09 t o s
def execPxor (t : TriadId) (o : VR) (s : State) := predOp (fun a b => a ^^^ b) 0x0A t o s
def execPandn (t : TriadId) (o : VR) (s : State) := predOp (fun a b => a &&& ~~~ b) 0x0B t o s

/-- PLIMIT: bit i, for i < n, is g[vs1] + i < g[vs2], unsigned and exact; pg = 0. -/
def execPlimit (t : TriadId) (o : VR) (s : State) : Host.Outcome State Fault Refusal :=
  vinstr t (encVR 0x3A 0x0C o) (o.pg = 0 && isP o.vd) false (fun c s x =>
    { x := x.putP o.vd.toNat (packBits (tyElems o.ty) fun i =>
        decide (i < c.n o.ty) && decide ((s.gx t o.vs1).toNat + i < (s.gx t o.vs2).toNat)) }) s

/-! ## Accumulators -/

/-- The product term of element `k` of VMAC and VMSC (R134). The Q term of −1 × −1 is +1 exactly: it is added in Q17.31, which holds it, and the
saturation R129 gives a Q1.31 product is not applied to it (DEDUCED: the row names saturation for the sum alone, log 68). -/
def macTerm (c : VCfg) (ty : BitVec 2) (act : Nat → Bool) (a b k : Nat) : Int :=
  if ty = 0 then
    (if act (2 * k) then sgn 16 (elemAt 16 a (2 * k)) * sgn 16 (elemAt 16 b (2 * k)) else 0) +
    (if act (2 * k + 1) then sgn 16 (elemAt 16 a (2 * k + 1)) * sgn 16 (elemAt 16 b (2 * k + 1)) else 0)
  else qProduct c (elemAt 32 a k) (elemAt 32 b k)

/-- VMAC and VMSC: T i16 or Q, Z = 0; the sum saturates in 48 bits. -/
def macOp (minus : Bool) (func : Nat) (t : TriadId) (o : VR) (s : State) : Host.Outcome State Fault Refusal :=
  vinstr t (encVR 0x3E func o) ((o.ty = 0 || o.ty = 2) && !o.z && isZa o.vd) false (fun c _ x =>
    let e := tyBits o.ty
    let act := x.active c o
    let on := containerHas e act
    let r := fun k =>
      let p := macTerm c o.ty act (x.zv o.vs1) (x.zv o.vs2) k
      satE 48 (sgn 48 (elemAt 48 (x.zav o.vd) k) + (if minus then -p else p))
    { x := (x.putZa o.vd on (packElems 48 32 fun k => (r k).1)).flags (joinFlags 32 on fun k => (r k).2)
      fail := !(x.pGood o.pg.toNat && x.goodFor o.vs1 e act && x.goodFor o.vs2 e act &&
        (List.range 32).all fun k => !on k || x.zaGood o.vd k)
      made := countActive 32 on }) s

def execVmac (t : TriadId) (o : VR) (s : State) := macOp false 0x00 t o s
def execVmsc (t : TriadId) (o : VR) (s : State) := macOp true 0x01 t o s

/-- VZACLR: every element of za[vd] is 0; T, vs1, vs2, pg and Z are 0. -/
def execVzaclr (t : TriadId) (o : VR) (s : State) : Host.Outcome State Fault Refusal :=
  vinstr t (encVR 0x3E 0x02 o) (o.ty = 0 && o.vs1 = 0 && o.vs2 = 0 && o.pg = 0 && !o.z && isZa o.vd) false (fun _ _ x =>
    { x := x.putZa o.vd (fun _ => true) 0, made := 32 }) s

/-- VZARD: za shifted right by the vs2 field, rounded under QRND, saturated to 32 bits. -/
def execVzard (t : TriadId) (o : VR) (s : State) : Host.Outcome State Fault Refusal :=
  vinstr t (encVR 0x3E 0x03 o) ((o.ty = 1 || o.ty = 2) && isZa o.vs1) false (fun c _ x =>
    let act := x.active c o
    let r := fun k => satE 32 (roundShift (qrndFrm c.qrnd) (sgn 48 (elemAt 48 (x.zav o.vs1) k)) o.vs2.toNat)
    { x := (x.writeElems o.vd 32 o.z act fun k => (r k).1).flags (joinFlags 32 act fun k => (r k).2)
      fail := !(x.pGood o.pg.toNat && (List.range 32).all fun k => !act k || x.zaGood o.vs1 k)
      made := countActive 32 act }) s

/-- VZAWR: z elements sign-extended into za; vs2 = 0, Z = 0. -/
def execVzawr (t : TriadId) (o : VR) (s : State) : Host.Outcome State Fault Refusal :=
  vinstr t (encVR 0x3E 0x04 o) ((o.ty = 1 || o.ty = 2) && o.vs2 = 0 && !o.z && isZa o.vd) false (fun c _ x =>
    let act := x.active c o
    { x := x.putZa o.vd act (packElems 48 32 fun k => unsgn 48 (sgn 32 (elemAt 32 (x.zv o.vs1) k)))
      fail := !(x.pGood o.pg.toNat && x.goodFor o.vs1 32 act)
      made := countActive 32 act }) s

/-! ## The save set on za (R135) -/

/-- The save set's common fields: pg, Z and T are 0. -/
def saveFields (o : VR) : Bool := o.pg = 0 && !o.z && o.ty = 0

/-- VZAMVL and VZAMVH: a part of every za element to z. -/
def zaMove (part : Nat → Nat) (func : Nat) (t : TriadId) (o : VR) (s : State) : Host.Outcome State Fault Refusal :=
  vinstr t (encVR 0x3E func o) (saveFields o && isZa o.vs1) true (fun _ _ x =>
    { x := x.putZ o.vd (fun _ => true) (packElems 32 32 fun k => part (elemAt 48 (x.zav o.vs1) k))
      fail := !((List.range 32).all fun k => x.zaGood o.vs1 k)
      made := 32 }) s

def execVzamvl (t : TriadId) (o : VR) (s : State) := zaMove (fun v => v % 2 ^ 32) 0x05 t o s
def execVzamvh (t : TriadId) (o : VR) (s : State) := zaMove (fun v => unsgn 32 (sgn 16 (v / 2 ^ 32))) 0x06 t o s

/-- VZARS: za element k is bits [15:0] of vs2's element, then vs1's element. -/
def execVzars (t : TriadId) (o : VR) (s : State) : Host.Outcome State Fault Refusal :=
  vinstr t (encVR 0x3E 0x07 o) (saveFields o && isZa o.vd) true (fun _ _ x =>
    { x := x.putZa o.vd (fun _ => true)
        (packElems 48 32 fun k => elemAt 32 (x.zv o.vs2) k % 2 ^ 16 * 2 ^ 32 + elemAt 32 (x.zv o.vs1) k)
      fail := !(x.goodFor o.vs1 32 (fun _ => true) && x.goodFor o.vs2 32 (fun _ => true))
      made := 32 }) s

/-! ## Moves and permutes (R135) -/

def execVsplat (t : TriadId) (o : VR) (s : State) : Host.Outcome State Fault Refusal :=
  vinstr t (encVR 0x3B 0x00 o) true false (fun c s x =>
    let e := tyBits o.ty
    let act := x.active c o
    { x := x.writeElems o.vd e o.z act fun _ => (s.gx t o.vs1).toNat % 2 ^ e
      fail := !(x.pGood o.pg.toNat && x.keptGood o.vd e o.z act)
      made := countActive (tyElems o.ty) act }) s

/-- VEXTR: element g[vs2] mod N to a g register; pg, Z = 0. -/
def execVextr (t : TriadId) (o : VR) (s : State) : Host.Outcome State Fault Refusal :=
  vinstr t (encVR 0x3B 0x01 o) (o.pg = 0 && !o.z) false (fun _ s x =>
    let e := tyBits o.ty
    let i := (s.gx t o.vs2).toNat % tyElems o.ty
    { x := x, g := some (o.vd, toG o.ty (elemAt e (x.zv o.vs1) i)), fail := !x.zGood o.vs1 (inContainer e i) }) s

/-- VINS: element g[vs2] mod N of vd from a g register, when it is active (R135, R139); pg, Z = 0. -/
def execVins (t : TriadId) (o : VR) (s : State) : Host.Outcome State Fault Refusal :=
  vinstr t (encVR 0x3B 0x02 o) (o.pg = 0 && !o.z) false (fun c s x =>
    let e := tyBits o.ty
    let k := (s.gx t o.vs2).toNat % tyElems o.ty
    let act := fun i => decide (i = k) && x.active c o i
    { x := x.writeElems o.vd e false act fun _ => (s.gx t o.vs1).toNat % 2 ^ e
      fail := !x.keptGood o.vd e false act
      made := countActive (tyElems o.ty) act }) s

/-- A long-vector permute: each active element of vd comes from one element of a source, checked on the way (R150). -/
def longPerm (func : Nat) (t : TriadId) (o : VR) (s : State) : Host.Outcome State Fault Refusal :=
  vinstr t (encVR 0x3B func o) ((permTys func).contains o.ty) false (fun c _ x =>
    let e := tyBits o.ty
    let n := tyElems o.ty
    let act := x.active c o
    let src := permSrc func o.ty n o (fun i => elemAt e (x.zv o.vs2) i)
    let r := fun i => let p := src i; permConv func (elemAt p.2.1 (x.zv p.1) p.2.2)
    { x := (x.writeElems o.vd e o.z act fun i => (r i).1).flags (joinFlags n act fun i => (r i).2)
      fail := !(x.pGood o.pg.toNat && (func != 0x03 || x.goodFor o.vs2 e act) && x.keptGood o.vd e o.z act &&
        (List.range n).all fun i => !act i || (let p := src i; x.zGood p.1 (inContainer p.2.1 p.2.2)))
      made := countActive n act }) s

def execVperm (t : TriadId) (o : VR) (s : State) := longPerm 0x03 t o s
def execVrev (t : TriadId) (o : VR) (s : State) := longPerm 0x04 t o s
def execVslide (t : TriadId) (o : VR) (s : State) := longPerm 0x05 t o s
def execVweavl (t : TriadId) (o : VR) (s : State) := longPerm 0x06 t o s
def execVweavh (t : TriadId) (o : VR) (s : State) := longPerm 0x07 t o s
def execVsplite (t : TriadId) (o : VR) (s : State) := longPerm 0x08 t o s
def execVsplito (t : TriadId) (o : VR) (s : State) := longPerm 0x09 t o s
def execVwidl (t : TriadId) (o : VR) (s : State) := longPerm 0x0A t o s
def execVwidh (t : TriadId) (o : VR) (s : State) := longPerm 0x0B t o s
def execVnarr (t : TriadId) (o : VR) (s : State) := longPerm 0x0C t o s

/-- A reduction of the active elements of vs1 to a g register. -/
def longReduce (func : Nat) (t : TriadId) (o : VR) (s : State) : Host.Outcome State Fault Refusal :=
  vinstr t (encVR 0x3B func o) true false (fun c _ x =>
    let e := tyBits o.ty
    let act := x.active c o
    let r := reduceAll func c o.ty (tyElems o.ty) fun i => if act i then elemAt e (x.zv o.vs1) i else reduceIdle func o.ty
    { x := x.flags r.2, g := some (o.vd, toG o.ty r.1), fail := !(x.pGood o.pg.toNat && x.goodFor o.vs1 e act) }) s

def execVrsum (t : TriadId) (o : VR) (s : State) := longReduce 0x0D t o s
def execVrmin (t : TriadId) (o : VR) (s : State) := longReduce 0x0E t o s
def execVrmax (t : TriadId) (o : VR) (s : State) := longReduce 0x0F t o s

/-! ## First-fault mask, predicate moves, VZERO (R135) -/

/-- FFARM: FFM = p[vs1]; vd, vs2 and pg are 0. -/
def execFfarm (t : TriadId) (o : VR) (s : State) : Host.Outcome State Fault Refusal :=
  vinstr t (encVR 0x3F 0x00 o) (o.vd = 0 && o.vs2 = 0 && o.pg = 0 && isP o.vs1) false (fun _ _ x =>
    { x := x.putFfm (x.pv o.vs1.toNat), fail := !x.pGood o.vs1.toNat }) s

/-- FFREAD: p[vd] = FFM and p[pg] for i < n. -/
def execFfread (t : TriadId) (o : VR) (s : State) : Host.Outcome State Fault Refusal :=
  vinstr t (encVR 0x3F 0x01 o) (isP o.vd) false (fun c _ x =>
    { x := x.putP o.vd.toNat (packBits (tyElems o.ty) fun i => x.active c o i && x.ffm.getLsbD i)
      fail := !(x.ffmGood && x.pGood o.pg.toNat) }) s

/-- PTALLY: how many bits i < n are set in both p[vs1] and p[pg]. -/
def execPtally (t : TriadId) (o : VR) (s : State) : Host.Outcome State Fault Refusal :=
  vinstr t (encVR 0x3F 0x02 o) (isP o.vs1) false (fun c _ x =>
    { x := x
      g := some (o.vd, BitVec.ofNat 64 (countActive (tyElems o.ty) fun i => x.active c o i && (x.pv o.vs1.toNat).getLsbD i))
      fail := !(x.pGood o.vs1.toNat && x.pGood o.pg.toNat) }) s

/-- PMOVG: g[vd] = p[vs1], or FFM when vs1 = 8. -/
def execPmovg (t : TriadId) (o : VR) (s : State) : Host.Outcome State Fault Refusal :=
  vinstr t (encVR 0x3F 0x03 o) (saveFields o && decide (o.vs1.toNat ≤ 8)) true (fun _ _ x =>
    { x := x
      g := some (o.vd, if o.vs1 = 8 then x.ffm else x.pv o.vs1.toNat)
      fail := !(if o.vs1 = 8 then x.ffmGood else x.pGood o.vs1.toNat) }) s

/-- GMOVP: p[vd] = g[vs1], or FFM = g[vs1] when vd = 8. -/
def execGmovp (t : TriadId) (o : VR) (s : State) : Host.Outcome State Fault Refusal :=
  vinstr t (encVR 0x3F 0x04 o) (saveFields o && decide (o.vd.toNat ≤ 8)) true (fun _ s x =>
    { x := if o.vd = 8 then x.putFfm (s.gx t o.vs1) else x.putP o.vd.toNat (s.gx t o.vs1) }) s

/-- VZERO: every z, p1 to p7 and za register is 0, FFM all ones. -/
def execVzero (t : TriadId) (o : VR) (s : State) : Host.Outcome State Fault Refusal :=
  vinstr t (encVR 0x3F 0x05 o) (saveFields o) true (fun _ _ x =>
    { x := { x with z := [], zres := [], p := [], p2 := [], za := [], zares := [],
                    ffm := BitVec.allOnes 64, ffm2 := BitVec.allOnes 64 }
      made := 1152 }) s

end Sys2Proof.Machine
end

