-- ==== Sys2Proof/Machine/VectorMem.lean ====
section
/-! DEFINITION. Machine/VectorMem.lean: the long-vector loads and stores (R133, R139 to R149). -/
namespace Sys2Proof.Machine

/-- The VM modes (R132). -/
inductive VMode where
  | c | p | s | x | r
  deriving DecidableEq, Repr

def VMode.code : VMode → Nat
  | .c => 0 | .p => 1 | .s => 2 | .x => 3 | .r => 4

/-- Whether the fields are legal (R133, R135). -/
def vmLegal (m : VMode) (store : Bool) (o : VM) : Bool :=
  (!o.ff || (!store && m != .p && m != .r)) && (o.sc = 0 || m = .x) && (m != .x || o.ty != 0) &&
    (m != .r || (o.pg = 0 && o.ty = 0))

/-- Bytes of an element. -/
def vmBytes (m : VMode) (o : VM) : Nat := if m = .r then 8 else tyBits o.ty / 8

/-- The address of element `i` (R140), modulo 2⁶⁴. -/
def vmAddr (m : VMode) (o : VM) (base stride : DWord) (ix : Nat) (i : Nat) : Nat :=
  let off : DWord := match m with
    | .s => BitVec.ofNat 64 i * stride
    | .x => BitVec.ofInt 64 (sgn 32 (elemAt 32 ix i)) <<< o.sc.toNat
    | _ => BitVec.ofNat 64 (i * vmBytes m o)
  (base + off).toNat

/-- The elements the instruction accesses, in ascending order, with their addresses (R138, R139, R145). -/
def State.vmElems (s : State) (t : Nat) (c : VCfg) (m : VMode) (o : VM) : List (Nat × Nat) :=
  let x := s.triad t
  let on := fun i =>
    if m = .r then decide (i < 16)
    else decide (i < c.n o.ty) && (x.pv o.pg.toNat).getLsbD i && (!o.ff || x.ffm.getLsbD i)
  ((List.range 64).filter on).map fun i => (i, vmAddr m o (s.gx t o.gb) (s.gx t o.ix) (x.zv o.ix) i)

/-- The check of one element before anything is issued (R109, R140 to R142): its cause, and the refusal if it is one. -/
def State.vmCheck (s : State) (u : Issuer) (size a : Nat) (store : Bool) : Option (Nat × Check) :=
  let refusal := if store then 0x07 else 0x06
  if a % size ≠ 0 then some (0x03, .ok)
  else if 2 ^ 40 ≤ a ∨ isDevice a then some (refusal, .own a)
  else match s.check u a size (if store then .store else .load) with
    | .ok => none
    | .own b => some (refusal, .own b)
    | .lock b => some (0x0C, .lock b)

/-- An exception tied to element `i` (R147). -/
def vecExc (s : State) (t code i a : Nat) : Exc × State :=
  (⟨code, BitVec.ofNat 64 a, true, 0⟩, s.onTriad t fun x => x.elem (some i))

/-! ## Loads -/

/-- What issuing the loads of a list of elements answers: the state, the values read, and the element that failed with its
cause. -/
structure Issued where
  s : State
  vals : List (Nat × Nat)
  bad : Option (Nat × Nat × Nat)

/-- Issue element loads in ascending order; each memory word is read and checked once. -/
def State.issueLoads (s : State) (u : Issuer) (size : Nat) : List (Nat × List Byte) → List (Nat × Nat) → List (Nat × Nat) → Issued
  | _, acc, [] => ⟨s, acc.reverse, none⟩
  | seen, acc, (i, a) :: es =>
    let value (bs : List Byte) : Nat := leVal ((bs.drop (a % 8)).take size)
    match seen.find? fun w => w.1 = a / 8 with
    | some w => s.issueLoads u size seen ((i, value w.2) :: acc) es
    | none =>
      let x := s.readEach u (raiseOf u 6) [a / 8]
      match x.bad with
      | some c => ⟨x.s, acc.reverse, some (i, a, c.1)⟩
      | none => x.s.issueLoads u size ((a / 8, x.bytes) :: seen) ((i, value x.bytes) :: acc) es

/-- The value loaded for element `i`, if it was. -/
def loaded (vs : List (Nat × Nat)) (i : Nat) : Option Nat := (vs.find? fun e => e.1 = i).map Prod.snd

/-- Whether the operands that name and place the elements pass their checks: the predicate, FFM, the index of each element (R150). -/
def State.vmGood (s : State) (t : Nat) (m : VMode) (o : VM) (es : List (Nat × Nat)) : Bool :=
  let x := s.triad t
  (m = .r || x.pGood o.pg.toNat) && (!o.ff || x.ffmGood) && (m != .x || es.all fun e => x.zGood o.ix e.1)

/-- A check of the instruction failed or did not (R151). -/
def State.checkedBy (s : State) (t : Nat) (good : Bool) : State := if good then s else s.checkFails t

/-- Write what was loaded: elements of vt, FFM from element `f` on cleared, the base advanced in mode P (R140, R145). -/
def State.vmWrite (s : State) (t : Nat) (c : VCfg) (m : VMode) (o : VM) (vals : List (Nat × Nat)) (f : Option Nat) (good : Bool) : State :=
  let x := s.triad t
  let e := 8 * vmBytes m o
  let on := fun i => (loaded vals i).isSome
  let n := 1024 / e
  let data := packElems e n fun i => (loaded vals i).getD (elemAt e (x.zv o.vt) i)
  let touch := fun k => if e = 64 then on (k / 2) else containerHas e on k
  let x1 := x.putZ o.vt touch data
  let hi := if o.ty = 0 then 64 else 32
  let x2 := match f with
    | some k => x1.putFfm (x.ffm &&& ~~~ (packBits 64 fun i => decide (k ≤ i ∧ i < hi)))
    | none => x1
  let s := s.vcommit t { x := x2, fail := !(good && x.keptGood o.vt e false on), made := vals.length }
  if m = .p then s.setG t o.gb (s.gx t o.gb + BitVec.ofNat 64 (4 * c.vl)) else s

/-! ## Abandonment (R148) -/

/-- Whether a cause that is ready abandons the vector memory instruction at `pc` once it has issued accesses: TASK_BUDGET_OVERRUN and
CHECK_FAILURE do, an interrupt does unless one has before. In this model nothing becomes ready inside a step, so a cause that is ready when
the instruction runs stands for one that becomes ready while it does (DESIGN CHOICE, log 66). -/
def State.abandons (s : State) (t : Nat) (pc : DWord) : Bool :=
  let x := s.triad t
  (x.asyncOpen && (x.check.isSome || x.overrun)) || ((s.nextInterrupt t).isSome && !x.abandoned.contains pc)

/-- How many of `n` element accesses had been issued: a free value. -/
def State.issuedOf (s : State) (n : Nat) : Nat × State := let (v, s) := s.draw; (v.toNat % (n + 1), s)

/-- The instruction at `pc` is abandoned: no register is written, the PC is at it, and the frame's retirement counts nothing. -/
def State.abandon (s : State) (t : Nat) (pc : DWord) : State :=
  s.onTriad t fun x => { x with pc := pc, instret := x.instret - 1, abandoned := pc :: x.abandoned.filter (· ≠ pc) }

/-- The instruction at `pc` completes: it is no longer one that was abandoned. -/
def State.completes (s : State) (t : Nat) (pc : DWord) : State :=
  if (s.triad t).abandoned.contains pc then s.onTriad t fun x => { x with abandoned := x.abandoned.filter (· ≠ pc) } else s

/-- The body of a vector load. -/
def State.vload (s : State) (t : TriadId) (c : VCfg) (m : VMode) (o : VM) (pc : DWord) : Res :=
  let u := s.vectorIssuer t
  let size := vmBytes m o
  let es := s.vmElems t c m o
  let ok := es.takeWhile fun e => (s.vmCheck u size e.2 false).isNone
  let stop := (es.drop ok.length).head?
  let good := s.vmGood t m o (ok ++ stop.toList)
  let fail (s : State) (i a code : Nat) : Res := .error (vecExc (s.checkedBy t good) t code i a)
  let refuse (s : State) (e : Nat × Nat) : State := match s.vmCheck u size e.2 false with
    | some (_, k) => s.refuse u 6 k
    | none => s
  let code (e : Nat × Nat) : Nat := ((s.vmCheck u size e.2 false).getD (0x06, .ok)).1
  match (if o.ff && !ok.isEmpty then none else stop) with
  | some e => fail (refuse s e) e.1 e.2 (code e)
  | none =>
    let s := match stop with | some e => refuse s e | none => s
    if s.abandons t pc then
      let (k, s) := s.issuedOf ok.length
      .ok ((s.issueLoads u size [] [] (ok.take k)).s.abandon t pc)
    else
      let r := s.issueLoads u size [] [] ok
      let write (f : Option Nat) : Res := .ok ((r.s.vmWrite t c m o r.vals f good).completes t pc)
      match r.bad with
      | some (i, a, code) => if o.ff && code = 0x0C && !r.vals.isEmpty then write (some i) else fail r.s i a code
      | none => write (stop.map Prod.fst)

/-! ## Stores -/

/-- Issue element stores in ascending order (R143, R149): an element whose residue check fails is not written (R150). -/
def State.issueStores (s : State) (u : Issuer) (size : Nat) (good : Nat → Bool) (val : Nat → Nat) :
    List (Nat × Nat) → State × Option (Nat × Nat × Nat)
  | [] => (s, none)
  | (i, a) :: es =>
    if !good i then s.issueStores u size good val es
    else
      match s.putWords u (raiseOf u 7) 2 a (leBytes size (val i)) with
      | (s1, some c) => (s1, some (i, a, c.1))
      | (s1, none) => s1.issueStores u size good val es

/-- The body of a vector store. The elements up to one that fails have met their residue checks (R149, R151). -/
def State.vstore (s : State) (t : TriadId) (c : VCfg) (m : VMode) (o : VM) (pc : DWord) : Res :=
  let u := s.vectorIssuer t
  let x := s.triad t
  let size := vmBytes m o
  let e := 8 * size
  let es := s.vmElems t c m o
  match (es.map fun e => (e, s.vmCheck u size e.2 true)).find? fun e => e.2.isSome with
  | some ((i, a), r) =>
    let (code, k) := r.getD (0x07, .ok)
    .error (vecExc ((s.refuse u 7 k).checkedBy t (s.vmGood t m o (es.filter fun e => decide (e.1 ≤ i)))) t code i a)
  | none =>
    let good := fun i =>
      (if e = 64 then x.zGood o.vt (2 * i) && x.zGood o.vt (2 * i + 1) else x.zGood o.vt (inContainer e i)) &&
        (m != .x || x.zGood o.ix i)
    let stores (s : State) (es : List (Nat × Nat)) := s.issueStores u size good (fun i => elemAt e (x.zv o.vt) i) es
    let checked (s : State) (es : List (Nat × Nat)) : State := s.checkedBy t (s.vmGood t m o es && es.all fun e => good e.1)
    if s.abandons t pc then
      let (k, s) := s.issuedOf es.length
      .ok ((checked (stores s (es.take k)).1 (es.take k)).abandon t pc)
    else
      match stores s es with
      | (s1, some (i, a, code)) => .error (vecExc (checked s1 (es.filter fun e => decide (e.1 ≤ i))) t code i a)
      | (s1, none) =>
        let s2 := if m = .p then s1.setG t o.gb (s1.gx t o.gb + BitVec.ofNat 64 (4 * c.vl)) else s1
        .ok ((checked s2 es).completes t pc)

/-- A vector memory instruction: illegal fields, VECTOR_CONFIG outside the save set, then its body. Where VECTOR_CONFIG stands in the order of
R109 the spec does not say: it is tested after ILLEGAL_INSTRUCTION, before ALIGNMENT and the Tollgate (DESIGN CHOICE, log 65). -/
def vmInstr (m : VMode) (store : Bool) (t : TriadId) (o : VM) (s : State) : Host.Outcome State Fault Refusal :=
  instr t (fun s pc =>
    let x := s.triad t
    let word := encVM (if store then 0x3D else 0x3C) m.code o
    if t.val = 0 || !vmLegal m store o then .error (⟨0x01, word, true, 0⟩, s.setTriad t (x.elem none))
    else if m != .r && x.level != 2 && (vcfgOf x.vcfg).bad
      then .error (⟨0x18, x.vcfg, true, 0⟩, s.setTriad t (x.elem none))
    else if store then s.vstore t x.vcfgNow m o pc else s.vload t x.vcfgNow m o pc) s

def execVld (t : TriadId) (o : VM) (s : State) := vmInstr .c false t o s
def execVst (t : TriadId) (o : VM) (s : State) := vmInstr .c true t o s
def execVldP (t : TriadId) (o : VM) (s : State) := vmInstr .p false t o s
def execVstP (t : TriadId) (o : VM) (s : State) := vmInstr .p true t o s
def execVldS (t : TriadId) (o : VM) (s : State) := vmInstr .s false t o s
def execVstS (t : TriadId) (o : VM) (s : State) := vmInstr .s true t o s
def execVldX (t : TriadId) (o : VM) (s : State) := vmInstr .x false t o s
def execVstX (t : TriadId) (o : VM) (s : State) := vmInstr .x true t o s
def execVldR (t : TriadId) (o : VM) (s : State) := vmInstr .r false t o s
def execVstR (t : TriadId) (o : VM) (s : State) := vmInstr .r true t o s

end Sys2Proof.Machine
end

