-- ==== Sys2Proof/Machine/Dispatch.lean ====
section
/-! DEFINITION. Machine/Dispatch.lean: one arm per command, each one direct call of its meaning. -/
namespace Sys2Proof.Machine

/-- The effect of a command on everything but the queue. -/
def exec (i : Instr) (s : State) : Host.Outcome State Fault Refusal :=
  match i with
  | .frameBoundary => Sys2Proof.Machine.execFrameBoundary s
  | .blockBoundary => Sys2Proof.Machine.execBlockBoundary s
  | .lanePeriodBoundary => Sys2Proof.Machine.execLanePeriodBoundary s
  | .taskStart p => Sys2Proof.Machine.execTaskStart p s
  | .taskComplete p r => Sys2Proof.Machine.execTaskComplete p r s
  | .commitGateOpen p => Sys2Proof.Machine.execCommitGateOpen p s
  | .mirrorComplete j => Sys2Proof.Machine.execMirrorComplete j s
  | .outputStart => Sys2Proof.Machine.execOutputStart s
  | .taskFailure p c => Sys2Proof.Machine.execTaskFailure p c s
  | .laybyReady l => Sys2Proof.Machine.execLaybyReady l s
  | .replayComplete p r => Sys2Proof.Machine.execReplayComplete p r s
  | .shadowComplete l => Sys2Proof.Machine.execShadowComplete l s
  | .settleComplete l => Sys2Proof.Machine.execSettleComplete l s
  | .laneTestComplete p pass => Sys2Proof.Machine.execLaneTestComplete p pass s
  | .stagingComplete => Sys2Proof.Machine.execStagingComplete s
  | .idleBlocksExpiry c => Sys2Proof.Machine.execIdleBlocksExpiry c s
  | .clusterWakeComplete c => Sys2Proof.Machine.execClusterWakeComplete c s
  | .taskBudgetExpiry p => Sys2Proof.Machine.execTaskBudgetExpiry p s
  | .add t rd rs1 rs2 => Sys2Proof.Machine.execAdd t rd rs1 rs2 s
  | .sub t rd rs1 rs2 => Sys2Proof.Machine.execSub t rd rs1 rs2 s
  | .andCmd t rd rs1 rs2 => Sys2Proof.Machine.execAndCmd t rd rs1 rs2 s
  | .orCmd t rd rs1 rs2 => Sys2Proof.Machine.execOrCmd t rd rs1 rs2 s
  | .xorCmd t rd rs1 rs2 => Sys2Proof.Machine.execXorCmd t rd rs1 rs2 s
  | .shl t rd rs1 rs2 => Sys2Proof.Machine.execShl t rd rs1 rs2 s
  | .shr t rd rs1 rs2 => Sys2Proof.Machine.execShr t rd rs1 rs2 s
  | .sar t rd rs1 rs2 => Sys2Proof.Machine.execSar t rd rs1 rs2 s
  | .setlt t rd rs1 rs2 => Sys2Proof.Machine.execSetlt t rd rs1 rs2 s
  | .setltU t rd rs1 rs2 => Sys2Proof.Machine.execSetltU t rd rs1 rs2 s
  | .minCmd t rd rs1 rs2 => Sys2Proof.Machine.execMinCmd t rd rs1 rs2 s
  | .maxCmd t rd rs1 rs2 => Sys2Proof.Machine.execMaxCmd t rd rs1 rs2 s
  | .minU t rd rs1 rs2 => Sys2Proof.Machine.execMinU t rd rs1 rs2 s
  | .maxU t rd rs1 rs2 => Sys2Proof.Machine.execMaxU t rd rs1 rs2 s
  | .addW t rd rs1 rs2 => Sys2Proof.Machine.execAddW t rd rs1 rs2 s
  | .subW t rd rs1 rs2 => Sys2Proof.Machine.execSubW t rd rs1 rs2 s
  | .shlW t rd rs1 rs2 => Sys2Proof.Machine.execShlW t rd rs1 rs2 s
  | .shrW t rd rs1 rs2 => Sys2Proof.Machine.execShrW t rd rs1 rs2 s
  | .sarW t rd rs1 rs2 => Sys2Proof.Machine.execSarW t rd rs1 rs2 s
  | .mul t rd rs1 rs2 => Sys2Proof.Machine.execMul t rd rs1 rs2 s
  | .mulHs t rd rs1 rs2 => Sys2Proof.Machine.execMulHs t rd rs1 rs2 s
  | .mulHu t rd rs1 rs2 => Sys2Proof.Machine.execMulHu t rd rs1 rs2 s
  | .mulW t rd rs1 rs2 => Sys2Proof.Machine.execMulW t rd rs1 rs2 s
  | .div t rd rs1 rs2 => Sys2Proof.Machine.execDiv t rd rs1 rs2 s
  | .divU t rd rs1 rs2 => Sys2Proof.Machine.execDivU t rd rs1 rs2 s
  | .rem t rd rs1 rs2 => Sys2Proof.Machine.execRem t rd rs1 rs2 s
  | .remU t rd rs1 rs2 => Sys2Proof.Machine.execRemU t rd rs1 rs2 s
  | .clz t rd rs1 => Sys2Proof.Machine.execClz t rd rs1 s
  | .ctz t rd rs1 => Sys2Proof.Machine.execCtz t rd rs1 s
  | .bitcnt t rd rs1 => Sys2Proof.Machine.execBitcnt t rd rs1 s
  | .rol t rd rs1 rs2 => Sys2Proof.Machine.execRol t rd rs1 rs2 s
  | .ror t rd rs1 rs2 => Sys2Proof.Machine.execRor t rd rs1 rs2 s
  | .byterev t rd rs1 => Sys2Proof.Machine.execByterev t rd rs1 s
  | .sextB t rd rs1 => Sys2Proof.Machine.execSextB t rd rs1 s
  | .sextH t rd rs1 => Sys2Proof.Machine.execSextH t rd rs1 s
  | .sextW t rd rs1 => Sys2Proof.Machine.execSextW t rd rs1 s
  | .addi t rd rs1 imm => Sys2Proof.Machine.execAddi t rd rs1 imm s
  | .andi t rd rs1 imm => Sys2Proof.Machine.execAndi t rd rs1 imm s
  | .ori t rd rs1 imm => Sys2Proof.Machine.execOri t rd rs1 imm s
  | .xori t rd rs1 imm => Sys2Proof.Machine.execXori t rd rs1 imm s
  | .setlti t rd rs1 imm => Sys2Proof.Machine.execSetlti t rd rs1 imm s
  | .setltiU t rd rs1 imm => Sys2Proof.Machine.execSetltiU t rd rs1 imm s
  | .shli t rd rs1 sh => Sys2Proof.Machine.execShli t rd rs1 sh s
  | .shri t rd rs1 sh => Sys2Proof.Machine.execShri t rd rs1 sh s
  | .sari t rd rs1 sh => Sys2Proof.Machine.execSari t rd rs1 sh s
  | .shin t rd rs1 imm => Sys2Proof.Machine.execShin t rd rs1 imm s
  | .pcadd t rd rs1 imm => Sys2Proof.Machine.execPcadd t rd rs1 imm s
  | .ldB t rd rs1 imm => Sys2Proof.Machine.execLdB t rd rs1 imm s
  | .ldBu t rd rs1 imm => Sys2Proof.Machine.execLdBu t rd rs1 imm s
  | .ldH t rd rs1 imm => Sys2Proof.Machine.execLdH t rd rs1 imm s
  | .ldHu t rd rs1 imm => Sys2Proof.Machine.execLdHu t rd rs1 imm s
  | .ldW t rd rs1 imm => Sys2Proof.Machine.execLdW t rd rs1 imm s
  | .ldWu t rd rs1 imm => Sys2Proof.Machine.execLdWu t rd rs1 imm s
  | .ldD t rd rs1 imm => Sys2Proof.Machine.execLdD t rd rs1 imm s
  | .stB t rs2 rs1 imm => Sys2Proof.Machine.execStB t rs2 rs1 imm s
  | .stH t rs2 rs1 imm => Sys2Proof.Machine.execStH t rs2 rs1 imm s
  | .stW t rs2 rs1 imm => Sys2Proof.Machine.execStW t rs2 rs1 imm s
  | .stD t rs2 rs1 imm => Sys2Proof.Machine.execStD t rs2 rs1 imm s
  | .aaddW t rd rs1 rs2 => Sys2Proof.Machine.execAaddW t rd rs1 rs2 s
  | .aaddD t rd rs1 rs2 => Sys2Proof.Machine.execAaddD t rd rs1 rs2 s
  | .aswpW t rd rs1 rs2 => Sys2Proof.Machine.execAswpW t rd rs1 rs2 s
  | .aswpD t rd rs1 rs2 => Sys2Proof.Machine.execAswpD t rd rs1 rs2 s
  | .bmove t rd rs1 rs2 => Sys2Proof.Machine.execBmove t rd rs1 rs2 s
  | .bfill t rd rs1 rs2 => Sys2Proof.Machine.execBfill t rd rs1 rs2 s
  | .bcrc t rd rs1 rs2 => Sys2Proof.Machine.execBcrc t rd rs1 rs2 s
  | .beq t rs1 rs2 off => Sys2Proof.Machine.execBeq t rs1 rs2 off s
  | .bne t rs1 rs2 off => Sys2Proof.Machine.execBne t rs1 rs2 off s
  | .blt t rs1 rs2 off => Sys2Proof.Machine.execBlt t rs1 rs2 off s
  | .bge t rs1 rs2 off => Sys2Proof.Machine.execBge t rs1 rs2 off s
  | .bltU t rs1 rs2 off => Sys2Proof.Machine.execBltU t rs1 rs2 off s
  | .bgeU t rs1 rs2 off => Sys2Proof.Machine.execBgeU t rs1 rs2 off s
  | .j t off => Sys2Proof.Machine.execJ t off s
  | .call t off => Sys2Proof.Machine.execCall t off s
  | .jr t rs1 => Sys2Proof.Machine.execJr t rs1 s
  | .callr t rs1 => Sys2Proof.Machine.execCallr t rs1 s
  | .ret t => Sys2Proof.Machine.execRet t s
  | .mfc t g n => Sys2Proof.Machine.execMfc t g n s
  | .mtc t g n => Sys2Proof.Machine.execMtc t g n s
  | .syncC t => Sys2Proof.Machine.execSyncC t s
  | .syncI t => Sys2Proof.Machine.execSyncI t s
  | .syncM t => Sys2Proof.Machine.execSyncM t s
  | .eret t => Sys2Proof.Machine.execEret t s
  | .srvc t n => Sys2Proof.Machine.execSrvc t n s
  | .waymark t n => Sys2Proof.Machine.execWaymark t n s
  | .waitCmd t => Sys2Proof.Machine.execWaitCmd t s
  | .breakCmd t => Sys2Proof.Machine.execBreakCmd t s
  | .interruptTaken t => Sys2Proof.Machine.execInterruptTaken t s
  | .asyncCauseTaken t => Sys2Proof.Machine.execAsyncCauseTaken t s
  | .resyncComplete t => Sys2Proof.Machine.execResyncComplete t s
  | .coreHoldOut t => Sys2Proof.Machine.execCoreHoldOut t s
  | .vadd t o => Sys2Proof.Machine.execVadd t o s
  | .vsub t o => Sys2Proof.Machine.execVsub t o s
  | .vsadd t o => Sys2Proof.Machine.execVsadd t o s
  | .vssub t o => Sys2Proof.Machine.execVssub t o s
  | .vmul t o => Sys2Proof.Machine.execVmul t o s
  | .vmulh t o => Sys2Proof.Machine.execVmulh t o s
  | .vmin t o => Sys2Proof.Machine.execVmin t o s
  | .vmax t o => Sys2Proof.Machine.execVmax t o s
  | .vabs t o => Sys2Proof.Machine.execVabs t o s
  | .vneg t o => Sys2Proof.Machine.execVneg t o s
  | .vand t o => Sys2Proof.Machine.execVand t o s
  | .vor t o => Sys2Proof.Machine.execVor t o s
  | .vxor t o => Sys2Proof.Machine.execVxor t o s
  | .vnot t o => Sys2Proof.Machine.execVnot t o s
  | .vshl t o => Sys2Proof.Machine.execVshl t o s
  | .vshr t o => Sys2Proof.Machine.execVshr t o s
  | .vsra t o => Sys2Proof.Machine.execVsra t o s
  | .vshli t o => Sys2Proof.Machine.execVshli t o s
  | .vshri t o => Sys2Proof.Machine.execVshri t o s
  | .vsrai t o => Sys2Proof.Machine.execVsrai t o s
  | .vsel t o => Sys2Proof.Machine.execVsel t o s
  | .vmov t o => Sys2Proof.Machine.execVmov t o s
  | .vfadd t o => Sys2Proof.Machine.execVfadd t o s
  | .vfsub t o => Sys2Proof.Machine.execVfsub t o s
  | .vfmul t o => Sys2Proof.Machine.execVfmul t o s
  | .vfma t o => Sys2Proof.Machine.execVfma t o s
  | .vfms t o => Sys2Proof.Machine.execVfms t o s
  | .vfmin t o => Sys2Proof.Machine.execVfmin t o s
  | .vfmax t o => Sys2Proof.Machine.execVfmax t o s
  | .vfabs t o => Sys2Proof.Machine.execVfabs t o s
  | .vfneg t o => Sys2Proof.Machine.execVfneg t o s
  | .vcvtfq t o => Sys2Proof.Machine.execVcvtfq t o s
  | .vcvtqf t o => Sys2Proof.Machine.execVcvtqf t o s
  | .vcvtfi t o => Sys2Proof.Machine.execVcvtfi t o s
  | .vcvtif t o => Sys2Proof.Machine.execVcvtif t o s
  | .vcmpeq t o => Sys2Proof.Machine.execVcmpeq t o s
  | .vcmpne t o => Sys2Proof.Machine.execVcmpne t o s
  | .vcmplt t o => Sys2Proof.Machine.execVcmplt t o s
  | .vcmple t o => Sys2Proof.Machine.execVcmple t o s
  | .vcmpltu t o => Sys2Proof.Machine.execVcmpltu t o s
  | .vcmpleu t o => Sys2Proof.Machine.execVcmpleu t o s
  | .pand t o => Sys2Proof.Machine.execPand t o s
  | .por t o => Sys2Proof.Machine.execPor t o s
  | .pxor t o => Sys2Proof.Machine.execPxor t o s
  | .pandn t o => Sys2Proof.Machine.execPandn t o s
  | .plimit t o => Sys2Proof.Machine.execPlimit t o s
  | .vmac t o => Sys2Proof.Machine.execVmac t o s
  | .vmsc t o => Sys2Proof.Machine.execVmsc t o s
  | .vzaclr t o => Sys2Proof.Machine.execVzaclr t o s
  | .vzard t o => Sys2Proof.Machine.execVzard t o s
  | .vzawr t o => Sys2Proof.Machine.execVzawr t o s
  | .vsplat t o => Sys2Proof.Machine.execVsplat t o s
  | .vextr t o => Sys2Proof.Machine.execVextr t o s
  | .vins t o => Sys2Proof.Machine.execVins t o s
  | .vperm t o => Sys2Proof.Machine.execVperm t o s
  | .vrev t o => Sys2Proof.Machine.execVrev t o s
  | .vslide t o => Sys2Proof.Machine.execVslide t o s
  | .vweavl t o => Sys2Proof.Machine.execVweavl t o s
  | .vweavh t o => Sys2Proof.Machine.execVweavh t o s
  | .vsplite t o => Sys2Proof.Machine.execVsplite t o s
  | .vsplito t o => Sys2Proof.Machine.execVsplito t o s
  | .vwidl t o => Sys2Proof.Machine.execVwidl t o s
  | .vwidh t o => Sys2Proof.Machine.execVwidh t o s
  | .vnarr t o => Sys2Proof.Machine.execVnarr t o s
  | .vrsum t o => Sys2Proof.Machine.execVrsum t o s
  | .vrmin t o => Sys2Proof.Machine.execVrmin t o s
  | .vrmax t o => Sys2Proof.Machine.execVrmax t o s
  | .ffarm t o => Sys2Proof.Machine.execFfarm t o s
  | .ffread t o => Sys2Proof.Machine.execFfread t o s
  | .ptally t o => Sys2Proof.Machine.execPtally t o s
  | .pmovg t o => Sys2Proof.Machine.execPmovg t o s
  | .gmovp t o => Sys2Proof.Machine.execGmovp t o s
  | .vzero t o => Sys2Proof.Machine.execVzero t o s
  | .vzamvl t o => Sys2Proof.Machine.execVzamvl t o s
  | .vzamvh t o => Sys2Proof.Machine.execVzamvh t o s
  | .vzars t o => Sys2Proof.Machine.execVzars t o s
  | .vld t o => Sys2Proof.Machine.execVld t o s
  | .vst t o => Sys2Proof.Machine.execVst t o s
  | .vldP t o => Sys2Proof.Machine.execVldP t o s
  | .vstP t o => Sys2Proof.Machine.execVstP t o s
  | .vldS t o => Sys2Proof.Machine.execVldS t o s
  | .vstS t o => Sys2Proof.Machine.execVstS t o s
  | .vldX t o => Sys2Proof.Machine.execVldX t o s
  | .vstX t o => Sys2Proof.Machine.execVstX t o s
  | .vldR t o => Sys2Proof.Machine.execVldR t o s
  | .vstR t o => Sys2Proof.Machine.execVstR t o s
  | .shortVectorIntegerOp t w => Sys2Proof.Machine.execShortVectorIntegerOp t w s
  | .shortVectorFp32Op t w => Sys2Proof.Machine.execShortVectorFp32Op t w s
  | .shortVectorCompare t w => Sys2Proof.Machine.execShortVectorCompare t w s
  | .qbsel t o => Sys2Proof.Machine.execQbsel t o s
  | .shortVectorPermute t w => Sys2Proof.Machine.execShortVectorPermute t w s
  | .qld t q rs1 imm => Sys2Proof.Machine.execQld t q rs1 imm s
  | .qst t q rs1 imm => Sys2Proof.Machine.execQst t q rs1 imm s
  | .qmovg t o => Sys2Proof.Machine.execQmovg t o s
  | .gmovq t o => Sys2Proof.Machine.execGmovq t o s
  | .junctionTransfer p q w e => Sys2Proof.Machine.execJunctionTransfer p q w e s
  | .expressSample c => Sys2Proof.Machine.execExpressSample c s
  | .expressResyncComplete b => Sys2Proof.Machine.execExpressResyncComplete b s
  | .expressHoldOut b => Sys2Proof.Machine.execExpressHoldOut b s
  | .expressLaybyTakeover => Sys2Proof.Machine.execExpressLaybyTakeover s
  | .expressMoveGo m lvl v => Sys2Proof.Machine.execExpressMoveGo m lvl v s
  | .expressMoveTakeEffect => Sys2Proof.Machine.execExpressMoveTakeEffect s
  | .frameReceive k chk bs => Sys2Proof.Machine.execFrameReceive k chk bs s
  | .ptpMessage k msg => Sys2Proof.Machine.execPtpMessage k msg s
  | .ptpMessageSend k kind => Sys2Proof.Machine.execPtpMessageSend k kind s
  | .announceReceiptTimeout k => Sys2Proof.Machine.execAnnounceReceiptTimeout k s
  | .delayRespTimeout k => Sys2Proof.Machine.execDelayRespTimeout k s
  | .followUpTimeout k => Sys2Proof.Machine.execFollowUpTimeout k s
  | .samplePresent j => Sys2Proof.Machine.execSamplePresent j s
  | .legLoss j blue => Sys2Proof.Machine.execLegLoss j blue s
  | .streamAbsent j => Sys2Proof.Machine.execStreamAbsent j s
  | .packetLaunch j => Sys2Proof.Machine.execPacketLaunch j s
  | .linkDown k => Sys2Proof.Machine.execLinkDown k s
  | .sourceQualified src => Sys2Proof.Machine.execSourceQualified src s
  | .sourceTaken e => Sys2Proof.Machine.execSourceTaken e s
  | .lockAchieved => Sys2Proof.Machine.execLockAchieved s
  | .sourceLoss src => Sys2Proof.Machine.execSourceLoss src s
  | .holdoverTimeout => Sys2Proof.Machine.execHoldoverTimeout s
  | .mediaClockStep => Sys2Proof.Machine.execMediaClockStep s
  | .stepReq m lvl v => Sys2Proof.Machine.execStepReq m lvl v s
  | .hostPhaseWrite m lvl v => Sys2Proof.Machine.execHostPhaseWrite m lvl v s
  | .srcWrite m lvl v => Sys2Proof.Machine.execSrcWrite m lvl v s
  | .tdmFormatWrite m lvl p v => Sys2Proof.Machine.execTdmFormatWrite m lvl p v s
  | .tdmFrame p n phase data => Sys2Proof.Machine.execTdmFrame p n phase data s
  | .tdmPortAcquired p => Sys2Proof.Machine.execTdmPortAcquired p s
  | .tdmPortLoss p missing => Sys2Proof.Machine.execTdmPortLoss p missing s
  | .tdmRetime p => Sys2Proof.Machine.execTdmRetime p s
  | .tdmSlip p => Sys2Proof.Machine.execTdmSlip p s
  | .eccWriteBack w => Sys2Proof.Machine.execEccWriteBack w s
  | .bankPowerTransitionComplete mem b => Sys2Proof.Machine.execBankPowerTransitionComplete mem b s
  | .marchGo m lvl v => Sys2Proof.Machine.execMarchGo m lvl v s
  | .marchRow ok => Sys2Proof.Machine.execMarchRow ok s
  | .marchComplete => Sys2Proof.Machine.execMarchComplete s
  | .dramMarchGranule sub page ok => Sys2Proof.Machine.execDramMarchGranule sub page ok s
  | .rowRepairCopyComplete mem b sp => Sys2Proof.Machine.execRowRepairCopyComplete mem b sp s
  | .tcwWrite m lvl a v => Sys2Proof.Machine.execTcwWrite m lvl a v s
  | .tcwMismatch a c0 c1 c2 => Sys2Proof.Machine.execTcwMismatch a c0 c1 c2 s
  | .dramRefresh r => Sys2Proof.Machine.execDramRefresh r s
  | .scrubRead mem => Sys2Proof.Machine.execScrubRead mem s
  | .scrubPassComplete mem => Sys2Proof.Machine.execScrubPassComplete mem s
  | .remapCopyComplete j => Sys2Proof.Machine.execRemapCopyComplete j s
  | .ledgerWriteGo m lvl v => Sys2Proof.Machine.execLedgerWriteGo m lvl v s
  | .ledgerWriteComplete ok => Sys2Proof.Machine.execLedgerWriteComplete ok s
  | .tgSlotWrite m lvl a v => Sys2Proof.Machine.execTgSlotWrite m lvl a v s
  | .tgCommit m lvl u v => Sys2Proof.Machine.execTgCommit m lvl u v s
  | .tgDrainEnd u => Sys2Proof.Machine.execTgDrainEnd u s
  | .tgLockWrite m lvl a v => Sys2Proof.Machine.execTgLockWrite m lvl a v s
  | .moverGo m lvl k c => Sys2Proof.Machine.execMoverGo m lvl k c s
  | .moverResume m lvl k c => Sys2Proof.Machine.execMoverResume m lvl k c s
  | .moverAbort m lvl k c => Sys2Proof.Machine.execMoverAbort m lvl k c s
  | .moverDescriptorFetch k c => Sys2Proof.Machine.execMoverDescriptorFetch k c s
  | .moverBurst k c col => Sys2Proof.Machine.execMoverBurst k c col s
  | .moverDescriptorComplete k c => Sys2Proof.Machine.execMoverDescriptorComplete k c s
  | .softwareEvent m lvl v => Sys2Proof.Machine.execSoftwareEvent m lvl v s
  | .eventClear m lvl w v => Sys2Proof.Machine.execEventClear m lvl w v s
  | .fcuSample => Sys2Proof.Machine.execFcuSample s
  | .deferDeadline n => Sys2Proof.Machine.execDeferDeadline n s
  | .fcuDecide m lvl v => Sys2Proof.Machine.execFcuDecide m lvl v s
  | .fcuArm m lvl v => Sys2Proof.Machine.execFcuArm m lvl v s
  | .firstAck m lvl v => Sys2Proof.Machine.execFirstAck m lvl v s
  | .pendClear m lvl n v => Sys2Proof.Machine.execPendClear m lvl n v s
  | .queueRead m lvl bad => Sys2Proof.Machine.execQueueRead m lvl bad s
  | .safeStateReset => Sys2Proof.Machine.execSafeStateReset s
  | .milestoneService m lvl narrow v => Sys2Proof.Machine.execMilestoneService m lvl narrow v s
  | .windowOpen => Sys2Proof.Machine.execWindowOpen s
  | .windowExpiry => Sys2Proof.Machine.execWindowExpiry s
  | .graceEnd => Sys2Proof.Machine.execGraceEnd s
  | .milestoneKeyWrite m lvl v => Sys2Proof.Machine.execMilestoneKeyWrite m lvl v s
  | .milestoneDisableWrite m lvl v => Sys2Proof.Machine.execMilestoneDisableWrite m lvl v s
  | .milestoneRestart m lvl v => Sys2Proof.Machine.execMilestoneRestart m lvl v s
  | .milestoneLockWrite m lvl v => Sys2Proof.Machine.execMilestoneLockWrite m lvl v s
  | .windowSettingWrite m lvl a v => Sys2Proof.Machine.execWindowSettingWrite m lvl a v s
  | .waymarkDiscard m lvl p v => Sys2Proof.Machine.execWaymarkDiscard m lvl p v s
  | .supCfgWrite m lvl a v => Sys2Proof.Machine.execSupCfgWrite m lvl a v s
  | .supCheckin m lvl a v => Sys2Proof.Machine.execSupCheckin m lvl a v s
  | .supWindowEnd a => Sys2Proof.Machine.execSupWindowEnd a s
  | .powerOnReset => Sys2Proof.Machine.execPowerOnReset s
  | .resetAccept ext => Sys2Proof.Machine.execResetAccept ext s
  | .resetEnd late => Sys2Proof.Machine.execResetEnd late s
  | .resetPullEnd => Sys2Proof.Machine.execResetPullEnd s
  | .optionLoadComplete => Sys2Proof.Machine.execOptionLoadComplete s
  | .fillComplete => Sys2Proof.Machine.execFillComplete s
  | .bootSlotSelect => Sys2Proof.Machine.execBootSlotSelect s
  | .dramTrainingComplete raw ranks => Sys2Proof.Machine.execDramTrainingComplete raw ranks s
  | .resetRequest m lvl v => Sys2Proof.Machine.execResetRequest m lvl v s
  | .enterSentry m lvl v => Sys2Proof.Machine.execEnterSentry m lvl v s
  | .sentryWake k rising => Sys2Proof.Machine.execSentryWake k rising s
  | .backupTimeTick => Sys2Proof.Machine.execBackupTimeTick s
  | .backupPowerApply => Sys2Proof.Machine.execBackupPowerApply s
  | .vbkpFall => Sys2Proof.Machine.execVbkpFall s
  | .supplyExcursion => Sys2Proof.Machine.execSupplyExcursion s
  | .temperatureAlarm above10 => Sys2Proof.Machine.execTemperatureAlarm above10 s
  | .clockMonitorFault sentry => Sys2Proof.Machine.execClockMonitorFault sentry s
  | .xtal32Stop => Sys2Proof.Machine.execXtal32Stop s
  | .pePerst => Sys2Proof.Machine.execPePerst s
  | .sorovChannelLock k => Sys2Proof.Machine.execSorovChannelLock k s
  | .sorovChannelFail k => Sys2Proof.Machine.execSorovChannelFail k s
  | .sorovChannelRetry k => Sys2Proof.Machine.execSorovChannelRetry k s
  | .heartbeatLost => Sys2Proof.Machine.execHeartbeatLost s
  | .heartSend => Sys2Proof.Machine.execHeartSend s
  | .syncFrame h b => Sys2Proof.Machine.execSyncFrame h b s
  | .syncMissing => Sys2Proof.Machine.execSyncMissing s
  | .stateFrame h b => Sys2Proof.Machine.execStateFrame h b s
  | .paramFrame h b => Sys2Proof.Machine.execParamFrame h b s
  | .paramResend => Sys2Proof.Machine.execParamResend s
  | .heartFrame h b => Sys2Proof.Machine.execHeartFrame h b s
  | .versionFrame h b => Sys2Proof.Machine.execVersionFrame h b s
  | .repairTick => Sys2Proof.Machine.execRepairTick s
  | .needFrame h l => Sys2Proof.Machine.execNeedFrame h l s
  | .pktFrame h b => Sys2Proof.Machine.execPktFrame h b s
  | .swapCmd h c => Sys2Proof.Machine.execSwapCmd h c s
  | .switchCmd h c => Sys2Proof.Machine.execSwitchCmd h c s
  | .switchAt h c => Sys2Proof.Machine.execSwitchAt h c s
  | .stepCmd h c => Sys2Proof.Machine.execStepCmd h c s
  | .joinReq h c => Sys2Proof.Machine.execJoinReq h c s
  | .joinAck h c => Sys2Proof.Machine.execJoinAck h c s
  | .expressAt h c => Sys2Proof.Machine.execExpressAt h c s
  | .divergeCmd h c => Sys2Proof.Machine.execDivergeCmd h c s
  | .hostCmd h d => Sys2Proof.Machine.execHostCmd h d s
  | .presetCmd h c => Sys2Proof.Machine.execPresetCmd h c s
  | .joinTransferComplete => Sys2Proof.Machine.execJoinTransferComplete s
  | .catchupComplete => Sys2Proof.Machine.execCatchupComplete s
  | .joinComplete => Sys2Proof.Machine.execJoinComplete s
  | .joinFail => Sys2Proof.Machine.execJoinFail s
  | .divergenceTimeout => Sys2Proof.Machine.execDivergenceTimeout s
  | .peerSample health take => Sys2Proof.Machine.execPeerSample health take s
  | .twinTakeAssert => Sys2Proof.Machine.execTwinTakeAssert s
  | .standbyTakeover => Sys2Proof.Machine.execStandbyTakeover s
  | .outputHandover => Sys2Proof.Machine.execOutputHandover s
  | .doorbell m lvl v => Sys2Proof.Machine.execDoorbell m lvl v s
  | .mailboxRelease m lvl v => Sys2Proof.Machine.execMailboxRelease m lvl v s
  | .commandTake bad pass => Sys2Proof.Machine.execCommandTake bad pass s
  | .irqPendClear m lvl v => Sys2Proof.Machine.execIrqPendClear m lvl v s
  | .ringProducerWrite m lvl r v => Sys2Proof.Machine.execRingProducerWrite m lvl r v s
  | .ringService r e ok => Sys2Proof.Machine.execRingService r e ok s
  | .pcieInboundWrite bar2 off bs => Sys2Proof.Machine.execPcieInboundWrite bar2 off bs s
  | .pcieInboundRead bar2 off n => Sys2Proof.Machine.execPcieInboundRead bar2 off n s
  | .qspiWrite a bs => Sys2Proof.Machine.execQspiWrite a bs s
  | .qspiRead a n => Sys2Proof.Machine.execQspiRead a n s
  | .qspiStatus code => Sys2Proof.Machine.execQspiStatus code s
  | .getInfo k b => Sys2Proof.Machine.execGetInfo k b s
  | .getStatus k b => Sys2Proof.Machine.execGetStatus k b s
  | .resetCmd k b => Sys2Proof.Machine.execResetCmd k b s
  | .powerCmd k b => Sys2Proof.Machine.execPowerCmd k b s
  | .regRead k b => Sys2Proof.Machine.execRegRead k b s
  | .regWrite k b => Sys2Proof.Machine.execRegWrite k b s
  | .graphLoad k b => Sys2Proof.Machine.execGraphLoad k b s
  | .graphSwitch k b => Sys2Proof.Machine.execGraphSwitch k b s
  | .graphAbort k b => Sys2Proof.Machine.execGraphAbort k b s
  | .switchAbort m lvl v => Sys2Proof.Machine.execSwitchAbort m lvl v s
  | .graphRelease k b => Sys2Proof.Machine.execGraphRelease k b s
  | .graphStatus k b => Sys2Proof.Machine.execGraphStatus k b s
  | .graphStop k b => Sys2Proof.Machine.execGraphStop k b s
  | .paramSet k b => Sys2Proof.Machine.execParamSet k b s
  | .paramGet k b => Sys2Proof.Machine.execParamGet k b s
  | .ringSetup k b => Sys2Proof.Machine.execRingSetup k b s
  | .ringStop k b => Sys2Proof.Machine.execRingStop k b s
  | .meterSet k b => Sys2Proof.Machine.execMeterSet k b s
  | .meterRead k b => Sys2Proof.Machine.execMeterRead k b s
  | .faultFirst k b => Sys2Proof.Machine.execFaultFirst k b s
  | .faultAck k b => Sys2Proof.Machine.execFaultAck k b s
  | .faultCfg k b => Sys2Proof.Machine.execFaultCfg k b s
  | .countCfg k b => Sys2Proof.Machine.execCountCfg k b s
  | .faultPending k b => Sys2Proof.Machine.execFaultPending k b s
  | .faultDecide k b => Sys2Proof.Machine.execFaultDecide k b s
  | .faultClear k b => Sys2Proof.Machine.execFaultClear k b s
  | .logRead k b => Sys2Proof.Machine.execLogRead k b s
  | .logCompact k b bad => Sys2Proof.Machine.execLogCompact k b bad s
  | .memWindow k b => Sys2Proof.Machine.execMemWindow k b s
  | .memCrc k b => Sys2Proof.Machine.execMemCrc k b s
  | .memStatus k b => Sys2Proof.Machine.execMemStatus k b s
  | .retirePage k b bad => Sys2Proof.Machine.execRetirePage k b bad s
  | .repairRow k b bad => Sys2Proof.Machine.execRepairRow k b bad s
  | .retireBank k b bad => Sys2Proof.Machine.execRetireBank k b bad s
  | .marchCmd k b => Sys2Proof.Machine.execMarchCmd k b s
  | .scrubRange k b => Sys2Proof.Machine.execScrubRange k b s
  | .depotPower k b => Sys2Proof.Machine.execDepotPower k b s
  | .fwProgram k b bad => Sys2Proof.Machine.execFwProgram k b bad s
  | .fwStatus k b => Sys2Proof.Machine.execFwStatus k b s
  | .fwActivate k b => Sys2Proof.Machine.execFwActivate k b s
  | .prosalStart => Sys2Proof.Machine.execProsalStart s
  | .optionWrite k b bad => Sys2Proof.Machine.execOptionWrite k b bad s
  | .optionLock k b => Sys2Proof.Machine.execOptionLock k b s
  | .hostdataRead k b => Sys2Proof.Machine.execHostdataRead k b s
  | .hostdataWrite k b bad => Sys2Proof.Machine.execHostdataWrite k b bad s
  | .twinCfg k b => Sys2Proof.Machine.execTwinCfg k b s
  | .twinStatus k b => Sys2Proof.Machine.execTwinStatus k b s
  | .twinSwap k b => Sys2Proof.Machine.execTwinSwap k b s
  | .twinTake k b => Sys2Proof.Machine.execTwinTake k b s
  | .twinChoice k b => Sys2Proof.Machine.execTwinChoice k b s
  | .twinJoin k b => Sys2Proof.Machine.execTwinJoin k b s
  | .twinRelay k b => Sys2Proof.Machine.execTwinRelay k b s
  | .twinRelayRead k b => Sys2Proof.Machine.execTwinRelayRead k b s
  | .modeGet k b => Sys2Proof.Machine.execModeGet k b s
  | .modeSet k b => Sys2Proof.Machine.execModeSet k b s
  | .laneMove k b => Sys2Proof.Machine.execLaneMove k b s
  | .laneService k b pass => Sys2Proof.Machine.execLaneService k b pass s
  | .clusterPin k b => Sys2Proof.Machine.execClusterPin k b s
  | .expressMove k b => Sys2Proof.Machine.execExpressMove k b s
  | .unlockNonce k b => Sys2Proof.Machine.execUnlockNonce k b s
  | .unlockHmac k b => Sys2Proof.Machine.execUnlockHmac k b s
  | .unlockPassword k b => Sys2Proof.Machine.execUnlockPassword k b s
  | .lockCmd k b => Sys2Proof.Machine.execLockCmd k b s
  | .keySet k b bad => Sys2Proof.Machine.execKeySet k b bad s
  | .clockCfg k b => Sys2Proof.Machine.execClockCfg k b s
  | .ptpCfg k b => Sys2Proof.Machine.execPtpCfg k b s
  | .clockStatus k b => Sys2Proof.Machine.execClockStatus k b s
  | .servoInput k b => Sys2Proof.Machine.execServoInput k b s
  | .blockPreset k b => Sys2Proof.Machine.execBlockPreset k b s
  | .presetGo m lvl v => Sys2Proof.Machine.execPresetGo m lvl v s
  | .netPortCfg k b => Sys2Proof.Machine.execNetPortCfg k b s
  | .rxStreamSet k b => Sys2Proof.Machine.execRxStreamSet k b s
  | .txStreamSet k b => Sys2Proof.Machine.execTxStreamSet k b s
  | .streamDelete k b => Sys2Proof.Machine.execStreamDelete k b s
  | .concealChoice k b => Sys2Proof.Machine.execConcealChoice k b s
  | .tdmCfg k b => Sys2Proof.Machine.execTdmCfg k b s
  | .portRecal k b => Sys2Proof.Machine.execPortRecal k b s
  | .portStatus k b => Sys2Proof.Machine.execPortStatus k b s
  | .streamStatus k b => Sys2Proof.Machine.execStreamStatus k b s
  | .unlockTimeout => Sys2Proof.Machine.execUnlockTimeout s
  | .bypassCmd => Sys2Proof.Machine.execBypassCmd s
  | .idcode => Sys2Proof.Machine.execIdcode s
  | .samplePreload cells => Sys2Proof.Machine.execSamplePreload cells s
  | .extest => Sys2Proof.Machine.execExtest s
  | .clampCmd => Sys2Proof.Machine.execClampCmd s
  | .highz => Sys2Proof.Machine.execHighz s
  | .dbgAccess a d write => Sys2Proof.Machine.execDbgAccess a d write s
  | .haltCmd m lvl c v => Sys2Proof.Machine.execHaltCmd m lvl c v s
  | .triadStep m lvl c v => Sys2Proof.Machine.execTriadStep m lvl c v s
  | .resumeCmd m lvl c v => Sys2Proof.Machine.execResumeCmd m lvl c v s
  | .injectGo m lvl v => Sys2Proof.Machine.execInjectGo m lvl v s
  | .breakGo m lvl v => Sys2Proof.Machine.execBreakGo m lvl v s
  | .breakEnd => Sys2Proof.Machine.execBreakEnd s
  | .allOff m lvl v => Sys2Proof.Machine.execAllOff m lvl v s
  | .perturbationWrite m lvl a v => Sys2Proof.Machine.execPerturbationWrite m lvl a v s
  | .registerWrite m lvl a v => Sys2Proof.Machine.execRegisterWrite m lvl a v s
  | .linkUp k => Sys2Proof.Machine.execLinkUp k s
  | .undefinedEncoding t w => Sys2Proof.Machine.execUndefinedEncoding t w s
  | .testLogicReset => Sys2Proof.Machine.execTestLogicReset s
  | .preMasterQualification k => Sys2Proof.Machine.execPreMasterQualification k s

end Sys2Proof.Machine
end

