-- ==== Sys2Proof/Safety.lean ====
section
/-! DEFINITION. Safety.lean: the words statements are written in: a step that goes on, outputs in the safe state, a triad about to execute an
instruction, what an instruction leaves as it was. -/
namespace Sys2Proof.Safety
open Sys2Proof.Machine

/-- A step that goes on. -/
def Goes (o : Host.Outcome State Fault Refusal) : Prop := ∃ t, o = .next t

/-- Command `c` goes on from `s` to a next state of which `Q` holds. -/
def Gives (s : State) (c : Instr) (Q : State → Prop) : Prop := ∃ u, exec c s = .next u ∧ Q u

/-- Command `c` changes nothing: the state it answers is the one it found, its pins driven. -/
def Ignored (s : State) (c : Instr) : Prop := exec c s = .next s.drivePins

/-- The output pins are those the state calls for (R324, R370, R390, R403). -/
def Driven (s : State) : Prop := s.pins = s.pinsOf

/-- In the safe state the device is muted: SAFE_N and FAULT_N low, every mute output asserted, every output sample 0 (R324). -/
def Muted (s : State) : Prop :=
  s.flag FCU_STATUS_SAFE = true →
    s.pins.safeN = false ∧ s.pins.faultN = false ∧ s.pins.silent = true ∧ s.pins.mute = 0xF ∧ s.pins.dout ≠ .data

/-- A triad that runs: a WAIT that an interrupt pending has ended runs again (R77). -/
def woken (s : State) (t : Nat) : State := s.onTriad t fun x => { x with run := .running }

/-- The state an instruction's own effect starts from: its triad running, the PC already past it. -/
def issue (s : State) (t : Nat) : State := (woken s t).setPc t ((s.triad t).pc + 4)

/-- Triad `t` executes the instruction at its PC, and its fetch meets nothing: the triad runs, no HALT waits for it, no core of it disagrees,
no debug step is in progress, and the fetch passes the Tollgate, finds a region and good check bits (R109, R156, R445). -/
structure Ready (s : State) (t : Nat) : Prop where
  runs : s.runs t = true
  halt : s.haltDue t = false
  sound : (s.triad t).upset = []
  free : (s.triad t).stepping = false
  fetched : (woken s t).fetch t = (woken s t, none)

/-- The end of an instruction that succeeds: it retires, and the pins follow the state. -/
def finish (m : State) (t : Nat) : State := ((m.retire t).endStep t).drivePins

/-- The end of an instruction that raises an exception: it is taken with the PC at the instruction. -/
def trapped (m : State) (t : Nat) (e : Exc) (pc : DWord) : State := (((m.setPc t pc).raiseSync t e).endStep t).drivePins

/-- `n` bytes at `a` are plain memory to issuer `u`: no device region, the Tollgate passes the access, every byte of its words has a region that
answers, every word has good check bits, and no slip road lies between (R91, R165, R248, R475). -/
structure PlainAccess (s : State) (u : Issuer) (a n : Nat) (k : AccKind) (write : Bool) : Prop where
  normal : devRange a n = false
  allowed : s.check u a n k = .ok
  there : ∀ x, a / 8 * 8 ≤ x → x < a + n → s.busError x write = false
  good : ∀ w ∈ wordsOf a n, s.errOf w = .good ∧ s.injectAt w = false
  home : 1 ≤ u.unit → u.unit ≤ 18 → s.roadTo u.lane = none

/-- Only triad `t` differs, beside the pins: every register, every byte of memory, every other triad is as it was. -/
def OnlyTriad (s u : State) (t : Nat) : Prop :=
  u = { s with triads := u.triads, pins := u.pins } ∧ (∀ a, u.byte a = s.byte a) ∧ ∀ r, r ≠ t → u.triad r = s.triad r

/-- An instruction that wrote general register `rd` and nothing else of its triad but PC and INSTRET: a write to g0 is discarded. -/
def WroteG (s u : State) (t : Nat) (rd : Reg) (v : DWord) : Prop :=
  OnlyTriad s u t ∧
    u.triad t = { s.triad t with g := (u.triad t).g, pc := (s.triad t).pc + 4, instret := (s.triad t).instret + 1, run := .running } ∧
    ∀ r, u.gx t r = if r = rd ∧ rd ≠ 0 then v else s.gx t r

/-- An instruction that left its triad as it was but for PC and INSTRET. -/
def WentTo (s u : State) (t : Nat) (pc : DWord) : Prop :=
  OnlyTriad s u t ∧ u.triad t = { s.triad t with pc := pc, instret := (s.triad t).instret + 1, run := .running }

/-- An instruction that entered an exception (R110): what the entry saves and where it goes; the instruction does not retire. -/
def Entered (s u : State) (t code target : Nat) (val epc : DWord) : Prop :=
  (u.triad t).epc = epc ∧ (u.triad t).eps = (s.triad t).status ∧ (u.triad t).eval = val ∧
    (u.triad t).ecause = BitVec.ofNat 64 ((s.triad t).level * 2 ^ 8 + code) ∧
    (u.triad t).status = BitVec.ofNat 64 ((s.triad t).status.toNat / 2 ^ 8 % 2 ^ 4 * 2 ^ 8 + 2 ^ 3 + target) ∧
    (u.triad t).pc = BitVec.ofNat 64 ((s.triad t).evbase.toNat / 2 ^ 12 * 2 ^ 12 + vectorOffset target code) ∧
    (u.triad t).instret = (s.triad t).instret ∧ (∀ r, u.gx t r = s.gx t r) ∧ ∀ a, u.byte a = s.byte a

/-- The shadow-stack registers of the level a triad runs at. -/
def stackOf (s : State) (t : Nat) : Shadow := (s.triad t).shadowOf (s.triad t).level

/-- An instruction that raised a synchronous exception and did nothing else of its own (R105, R108, R110). -/
def Stopped (s u : State) (t code : Nat) (val : DWord) : Prop :=
  Entered s u t code (syncTarget code (s.triad t).level) val (s.triad t).pc ∧
    (u.triad t).shadowOf (s.triad t).level = stackOf s t

/-- A triad whose synchronous exceptions are entered, not nested: STATUS.EXL is 0 (R111), and it is the supervisor or runs at Footpath. -/
def Open (s : State) (t : Nat) : Prop := (s.triad t).exl = false ∧ (t = 0 ∨ (s.triad t).level = 0)

/-- Only memory changed, and of memory only the `n` bytes at `a`; their words have new check bits. -/
def StoredAt (s u : State) (t : TriadId) (a n : Nat) : Prop :=
  (∀ x, x < a ∨ a + n ≤ x → u.byte x = s.byte x) ∧ (∀ w ∈ wordsOf a n, u.errOf w = .good) ∧ (∀ r, r ≠ t.val → u.triad r = s.triad r) ∧
    u.regs = s.regs ∧ u.eng = s.eng ∧ u.fcu = s.fcu ∧ u.tg = s.tg ∧ u.points = s.points

/-- A triad after an instruction that moved on and changed it by `f`. -/
def Changed (s u : State) (t : TriadId) (f : Triad → Triad) : Prop :=
  OnlyTriad s u t ∧ u.triad t =
    { f (s.triad t) with pc := (s.triad t).pc + 4, instret := (s.triad t).instret + 1, run := .running }

/-- A lane's triad is about to execute a long-vector instruction (R125, R126, R133, R150): a legal configuration where one applies, every
register's stored residue that of its data, both copies of every predicate equal, no forced residue error armed. -/
structure VecReady (s : State) (t : TriadId) : Prop where
  ready : Ready s t
  lane : t.val ≠ 0
  config : (s.triad t).level = 2 ∨ (vcfgOf (s.triad t).vcfg).bad = false
  zs : ∀ r k, k < 32 → (s.triad t).zGood r k = true
  zas : ∀ r k, k < 32 → (s.triad t).zaGood r k = true
  ps : ∀ r, (s.triad t).pGood r = true
  ffm : (s.triad t).ffmGood = true
  quiet : s.armed [1] = false

/-- A triad that moved on, its vector registers and VXSTAT aside. -/
def VecOnly (s u : State) (t : TriadId) : Prop :=
  OnlyTriad s u t ∧ u.triad t = { s.triad t with
    z := (u.triad t).z, zres := (u.triad t).zres, p := (u.triad t).p, p2 := (u.triad t).p2, za := (u.triad t).za, zares := (u.triad t).zares
    ffm := (u.triad t).ffm, ffm2 := (u.triad t).ffm2, vxstat := (u.triad t).vxstat, q := (u.triad t).q
    pc := (s.triad t).pc + 4, instret := (s.triad t).instret + 1, run := .running }

/-- An instruction that wrote z register `rd` and nothing else but VXSTAT: element `i` of width `e` is `f i`; every residue is still that of its
data. -/
def WroteZ (s u : State) (t : TriadId) (rd : Reg) (e : Nat) (f : Nat → Nat) : Prop :=
  VecOnly s u t ∧ (∀ i < 1024 / e, elemAt e ((u.triad t).zv rd) i = f i) ∧
    (∀ r, r ≠ rd → (u.triad t).zv r = (s.triad t).zv r) ∧ (∀ r k, k < 32 → (u.triad t).zGood r k = true) ∧
    (u.triad t).za = (s.triad t).za ∧ (u.triad t).zares = (s.triad t).zares ∧ (u.triad t).p = (s.triad t).p ∧ (u.triad t).p2 = (s.triad t).p2 ∧
    (u.triad t).ffm = (s.triad t).ffm ∧ (u.triad t).ffm2 = (s.triad t).ffm2 ∧ (u.triad t).q = (s.triad t).q

/-- An instruction that wrote predicate `rd` and nothing else but VXSTAT: bit `i` is `f i`, in both copies; a write to p0 is discarded. -/
def WroteP (s u : State) (t : TriadId) (rd : Reg) (f : Nat → Bool) : Prop :=
  VecOnly s u t ∧ (rd ≠ 0 → ∀ i < 64, ((u.triad t).pv rd.toNat).getLsbD i = f i) ∧
    (∀ r, r ≠ rd.toNat ∨ rd = 0 → (u.triad t).pv r = (s.triad t).pv r) ∧ (∀ r, (u.triad t).pGood r = true) ∧ (u.triad t).z = (s.triad t).z ∧
    (u.triad t).zres = (s.triad t).zres ∧ (u.triad t).za = (s.triad t).za ∧ (u.triad t).zares = (s.triad t).zares ∧
    (u.triad t).ffm = (s.triad t).ffm ∧ (u.triad t).ffm2 = (s.triad t).ffm2 ∧ (u.triad t).q = (s.triad t).q

/-- An instruction that wrote accumulator `rd` and nothing else but VXSTAT. -/
def WroteZa (s u : State) (t : TriadId) (rd : Reg) (f : Nat → Nat) : Prop :=
  VecOnly s u t ∧ (∀ k < 32, elemAt 48 ((u.triad t).zav rd) k = f k) ∧
    (∀ r, r ≠ rd → (u.triad t).zav r = (s.triad t).zav r) ∧ (∀ r k, k < 32 → (u.triad t).zaGood r k = true) ∧
    (u.triad t).z = (s.triad t).z ∧ (u.triad t).zres = (s.triad t).zres ∧ (u.triad t).p = (s.triad t).p ∧ (u.triad t).p2 = (s.triad t).p2 ∧
    (u.triad t).ffm = (s.triad t).ffm ∧ (u.triad t).ffm2 = (s.triad t).ffm2 ∧ (u.triad t).q = (s.triad t).q

/-- A triad about to execute a short-vector instruction: a legal configuration where one applies (R125, R126). -/
structure ShortReady (s : State) (t : TriadId) : Prop where
  ready : Ready s t
  config : (s.triad t).level = 2 ∨ (vcfgOf (s.triad t).vcfg).bad = false

/-- An instruction that wrote q register `rd` and nothing else but VXSTAT. -/
def WroteQ (s u : State) (t : TriadId) (rd : Reg) (e : Nat) (f : Nat → Nat) : Prop :=
  OnlyTriad s u t ∧ u.triad t = { s.triad t with
      q := (u.triad t).q, vxstat := (u.triad t).vxstat, pc := (s.triad t).pc + 4, instret := (s.triad t).instret + 1, run := .running } ∧
    (∀ i < 128 / e, elemAt e ((u.triad t).qv rd) i = f i) ∧ ∀ r, r ≠ rd → (u.triad t).qv r = (s.triad t).qv r

end Sys2Proof.Safety
end

