-- ==== Sys2Proof/WellFormed.lean ====
section
/-! DEFINITION. WellFormed.lean: what a command's operands must satisfy beyond their types: a form no request, frame or access of the device
can have is ill-formed. Meanings are total all the same: an ill-formed command still has one. -/
namespace Sys2Proof

/-- A privilege level: 0 Footpath, 1 Carriageway, 2 Roadbed; 3 is reserved (R100). -/
def levelGood (lvl : BitVec 2) : Bool := lvl != 3

/-- A master's identifier (R478). -/
def masterGood (m : BitVec 8) : Bool :=
  let n := m.toNat
  n = 0 || decide (0x10 ≤ n ∧ n ≤ 0x21) || decide (0x30 ≤ n ∧ n ≤ 0x41) || decide (0x50 ≤ n ∧ n ≤ 0x53) || n = 0x60 || n = 0x61 ||
    n = 0x70 || n = 0x78 || n = 0x7F

/-- A register is a 32-bit word at a 4-byte aligned offset (R477). -/
def aligned4 (a : Nat) : Bool := a % 4 = 0

/-- A request's body fits its mailbox: 492 bytes (R410). -/
def bodyFits (b : ByteList) : Bool := decide (b.length ≤ 492)

/-- The failing Ledger word starts at a multiple of 8 (R273). -/
def badGood (x : LedgerBad) : Bool := match x with | none => true | some o => o.toNat % 8 = 0

/-- A PTP instant has fewer than 10⁹ nanoseconds. -/
def ptpTimeGood (t : PtpTime) : Bool := decide (t.ns.toNat < 1000000000)

/-- The instants of a PTP message. -/
def ptpBodyGood (b : PtpBody) : Bool :=
  match b with
  | .sync _ o => ptpTimeGood o
  | .followUp o => ptpTimeGood o
  | .delayResp r _ => ptpTimeGood r
  | .delayReq => true
  | .announce _ => true
  | .unsupported => true

/-- The words of a burst that meet WCOL, each named once (R300). -/
def colGood (c : ColList) : Bool := decide (c.map Prod.fst).Nodup

/-- SIZE of a STATE body, and the bytes a data frame carries (R379). -/
def stateGood (b : StateBody) : Bool :=
  decide (b.size.toNat % 8 = 0 ∧ 8 ≤ b.size.toNat ∧ b.size.toNat ≤ 2032 ∧ b.kind.toNat ≤ 2) && (b.kind != 1 || b.data.length = b.size.toNat)

/-- Banks of a scratchpad (0 to 8) and of Depot (9). -/
def banksOf (mem : Nat) : Nat := if mem < 9 then 32 else 96

/-- A command whose operands the device's formats can carry. -/
def Instr.wf (c : Instr) : Bool :=
  match c with
  | .frameBoundary => true
  | .blockBoundary => true
  | .lanePeriodBoundary => true
  | .taskStart _ => true
  | .taskComplete _ _ => true
  | .commitGateOpen _ => true
  | .mirrorComplete _ => true
  | .outputStart => true
  | .taskFailure _ _ => true
  | .laybyReady _ => true
  | .replayComplete _ _ => true
  | .shadowComplete _ => true
  | .settleComplete _ => true
  | .laneTestComplete _ _ => true
  | .stagingComplete => true
  | .idleBlocksExpiry _ => true
  | .clusterWakeComplete _ => true
  | .taskBudgetExpiry _ => true
  | .add _ _ _ _ => true
  | .sub _ _ _ _ => true
  | .andCmd _ _ _ _ => true
  | .orCmd _ _ _ _ => true
  | .xorCmd _ _ _ _ => true
  | .shl _ _ _ _ => true
  | .shr _ _ _ _ => true
  | .sar _ _ _ _ => true
  | .setlt _ _ _ _ => true
  | .setltU _ _ _ _ => true
  | .minCmd _ _ _ _ => true
  | .maxCmd _ _ _ _ => true
  | .minU _ _ _ _ => true
  | .maxU _ _ _ _ => true
  | .addW _ _ _ _ => true
  | .subW _ _ _ _ => true
  | .shlW _ _ _ _ => true
  | .shrW _ _ _ _ => true
  | .sarW _ _ _ _ => true
  | .mul _ _ _ _ => true
  | .mulHs _ _ _ _ => true
  | .mulHu _ _ _ _ => true
  | .mulW _ _ _ _ => true
  | .div _ _ _ _ => true
  | .divU _ _ _ _ => true
  | .rem _ _ _ _ => true
  | .remU _ _ _ _ => true
  | .clz _ _ _ => true
  | .ctz _ _ _ => true
  | .bitcnt _ _ _ => true
  | .rol _ _ _ _ => true
  | .ror _ _ _ _ => true
  | .byterev _ _ _ => true
  | .sextB _ _ _ => true
  | .sextH _ _ _ => true
  | .sextW _ _ _ => true
  | .addi _ _ _ _ => true
  | .andi _ _ _ _ => true
  | .ori _ _ _ _ => true
  | .xori _ _ _ _ => true
  | .setlti _ _ _ _ => true
  | .setltiU _ _ _ _ => true
  | .shli _ _ _ _ => true
  | .shri _ _ _ _ => true
  | .sari _ _ _ _ => true
  | .shin _ _ _ _ => true
  | .pcadd _ _ _ _ => true
  | .ldB _ _ _ _ => true
  | .ldBu _ _ _ _ => true
  | .ldH _ _ _ _ => true
  | .ldHu _ _ _ _ => true
  | .ldW _ _ _ _ => true
  | .ldWu _ _ _ _ => true
  | .ldD _ _ _ _ => true
  | .stB _ _ _ _ => true
  | .stH _ _ _ _ => true
  | .stW _ _ _ _ => true
  | .stD _ _ _ _ => true
  | .aaddW _ _ _ _ => true
  | .aaddD _ _ _ _ => true
  | .aswpW _ _ _ _ => true
  | .aswpD _ _ _ _ => true
  | .bmove _ _ _ _ => true
  | .bfill _ _ _ _ => true
  | .bcrc _ _ _ _ => true
  | .beq _ _ _ _ => true
  | .bne _ _ _ _ => true
  | .blt _ _ _ _ => true
  | .bge _ _ _ _ => true
  | .bltU _ _ _ _ => true
  | .bgeU _ _ _ _ => true
  | .j _ _ => true
  | .call _ _ => true
  | .jr _ _ => true
  | .callr _ _ => true
  | .ret _ => true
  | .mfc _ _ _ => true
  | .mtc _ _ _ => true
  | .syncC _ => true
  | .syncI _ => true
  | .syncM _ => true
  | .eret _ => true
  | .srvc _ _ => true
  | .waymark _ _ => true
  | .waitCmd _ => true
  | .breakCmd _ => true
  | .interruptTaken _ => true
  | .asyncCauseTaken _ => true
  | .resyncComplete _ => true
  | .coreHoldOut _ => true
  | .vadd _ _ => true
  | .vsub _ _ => true
  | .vsadd _ _ => true
  | .vssub _ _ => true
  | .vmul _ _ => true
  | .vmulh _ _ => true
  | .vmin _ _ => true
  | .vmax _ _ => true
  | .vabs _ _ => true
  | .vneg _ _ => true
  | .vand _ _ => true
  | .vor _ _ => true
  | .vxor _ _ => true
  | .vnot _ _ => true
  | .vshl _ _ => true
  | .vshr _ _ => true
  | .vsra _ _ => true
  | .vshli _ _ => true
  | .vshri _ _ => true
  | .vsrai _ _ => true
  | .vsel _ _ => true
  | .vmov _ _ => true
  | .vfadd _ _ => true
  | .vfsub _ _ => true
  | .vfmul _ _ => true
  | .vfma _ _ => true
  | .vfms _ _ => true
  | .vfmin _ _ => true
  | .vfmax _ _ => true
  | .vfabs _ _ => true
  | .vfneg _ _ => true
  | .vcvtfq _ _ => true
  | .vcvtqf _ _ => true
  | .vcvtfi _ _ => true
  | .vcvtif _ _ => true
  | .vcmpeq _ _ => true
  | .vcmpne _ _ => true
  | .vcmplt _ _ => true
  | .vcmple _ _ => true
  | .vcmpltu _ _ => true
  | .vcmpleu _ _ => true
  | .pand _ _ => true
  | .por _ _ => true
  | .pxor _ _ => true
  | .pandn _ _ => true
  | .plimit _ _ => true
  | .vmac _ _ => true
  | .vmsc _ _ => true
  | .vzaclr _ _ => true
  | .vzard _ _ => true
  | .vzawr _ _ => true
  | .vsplat _ _ => true
  | .vextr _ _ => true
  | .vins _ _ => true
  | .vperm _ _ => true
  | .vrev _ _ => true
  | .vslide _ _ => true
  | .vweavl _ _ => true
  | .vweavh _ _ => true
  | .vsplite _ _ => true
  | .vsplito _ _ => true
  | .vwidl _ _ => true
  | .vwidh _ _ => true
  | .vnarr _ _ => true
  | .vrsum _ _ => true
  | .vrmin _ _ => true
  | .vrmax _ _ => true
  | .ffarm _ _ => true
  | .ffread _ _ => true
  | .ptally _ _ => true
  | .pmovg _ _ => true
  | .gmovp _ _ => true
  | .vzero _ _ => true
  | .vzamvl _ _ => true
  | .vzamvh _ _ => true
  | .vzars _ _ => true
  | .vld _ _ => true
  | .vst _ _ => true
  | .vldP _ _ => true
  | .vstP _ _ => true
  | .vldS _ _ => true
  | .vstS _ _ => true
  | .vldX _ _ => true
  | .vstX _ _ => true
  | .vldR _ _ => true
  | .vstR _ _ => true
  | .shortVectorIntegerOp _ w => decide (w.func.toNat ≤ 0x15 ∧ w.func.toNat ≠ 0x14)
  | .shortVectorFp32Op _ w => decide (w.func.toNat ≤ 0x0C)
  | .shortVectorCompare _ w => decide (w.func.toNat ≤ 0x05)
  | .qbsel _ _ => true
  | .shortVectorPermute _ w => decide (w.func.toNat ≤ 0x0F)
  | .qld _ _ _ _ => true
  | .qst _ _ _ _ => true
  | .qmovg _ _ => true
  | .gmovq _ _ => true
  | .junctionTransfer _ _ _ _ => true
  | .expressSample _ => true
  | .expressResyncComplete _ => true
  | .expressHoldOut _ => true
  | .expressLaybyTakeover => true
  | .expressMoveGo m lvl _ => levelGood lvl && masterGood m
  | .expressMoveTakeEffect => true
  | .frameReceive _ _ bs => !bs.isEmpty
  | .ptpMessage _ msg => ptpBodyGood msg.body
  | .ptpMessageSend _ _ => true
  | .announceReceiptTimeout _ => true
  | .delayRespTimeout _ => true
  | .followUpTimeout _ => true
  | .samplePresent _ => true
  | .legLoss _ _ => true
  | .streamAbsent _ => true
  | .packetLaunch _ => true
  | .linkDown _ => true
  | .sourceQualified _ => true
  | .sourceTaken _ => true
  | .lockAchieved => true
  | .sourceLoss _ => true
  | .holdoverTimeout => true
  | .mediaClockStep => true
  | .stepReq m lvl _ => levelGood lvl && masterGood m
  | .hostPhaseWrite m lvl _ => levelGood lvl && masterGood m
  | .srcWrite m lvl _ => levelGood lvl && masterGood m
  | .tdmFormatWrite m lvl _ _ => levelGood lvl && masterGood m
  | .tdmFrame _ _ _ data => decide (data.length ≤ 32)
  | .tdmPortAcquired _ => true
  | .tdmPortLoss _ _ => true
  | .tdmRetime _ => true
  | .tdmSlip _ => true
  | .eccWriteBack _ => true
  | .bankPowerTransitionComplete mem b => decide (b.toNat < banksOf mem)
  | .marchGo m lvl _ => levelGood lvl && masterGood m
  | .marchRow _ => true
  | .marchComplete => true
  | .dramMarchGranule _ page _ => !page.getLsbD 0
  | .rowRepairCopyComplete mem b _ => decide (b.toNat < banksOf mem)
  | .tcwWrite m lvl a _ => levelGood lvl && masterGood m && aligned4 a.toNat
  | .tcwMismatch a _ _ _ => aligned4 a.toNat
  | .dramRefresh _ => true
  | .scrubRead _ => true
  | .scrubPassComplete _ => true
  | .remapCopyComplete _ => true
  | .ledgerWriteGo m lvl _ => levelGood lvl && masterGood m
  | .ledgerWriteComplete _ => true
  | .tgSlotWrite m lvl a _ => levelGood lvl && masterGood m && aligned4 a.toNat
  | .tgCommit m lvl _ _ => levelGood lvl && masterGood m
  | .tgDrainEnd _ => true
  | .tgLockWrite m lvl a _ => levelGood lvl && masterGood m && aligned4 a.toNat
  | .moverGo m lvl _ _ => levelGood lvl && masterGood m
  | .moverResume m lvl _ _ => levelGood lvl && masterGood m
  | .moverAbort m lvl _ _ => levelGood lvl && masterGood m
  | .moverDescriptorFetch _ _ => true
  | .moverBurst _ _ col => colGood col
  | .moverDescriptorComplete _ _ => true
  | .softwareEvent m lvl _ => levelGood lvl && masterGood m
  | .eventClear m lvl _ _ => levelGood lvl && masterGood m
  | .fcuSample => true
  | .deferDeadline _ => true
  | .fcuDecide m lvl _ => levelGood lvl && masterGood m
  | .fcuArm m lvl _ => levelGood lvl && masterGood m
  | .firstAck m lvl _ => levelGood lvl && masterGood m
  | .pendClear m lvl _ _ => levelGood lvl && masterGood m
  | .queueRead m lvl bad => levelGood lvl && masterGood m && badGood bad
  | .safeStateReset => true
  | .milestoneService m lvl _ _ => levelGood lvl && masterGood m
  | .windowOpen => true
  | .windowExpiry => true
  | .graceEnd => true
  | .milestoneKeyWrite m lvl _ => levelGood lvl && masterGood m
  | .milestoneDisableWrite m lvl _ => levelGood lvl && masterGood m
  | .milestoneRestart m lvl _ => levelGood lvl && masterGood m
  | .milestoneLockWrite m lvl _ => levelGood lvl && masterGood m
  | .windowSettingWrite m lvl a _ => levelGood lvl && masterGood m && aligned4 a.toNat
  | .waymarkDiscard m lvl _ _ => levelGood lvl && masterGood m
  | .supCfgWrite m lvl _ _ => levelGood lvl && masterGood m
  | .supCheckin m lvl _ _ => levelGood lvl && masterGood m
  | .supWindowEnd _ => true
  | .powerOnReset => true
  | .resetAccept _ => true
  | .resetEnd _ => true
  | .resetPullEnd => true
  | .optionLoadComplete => true
  | .fillComplete => true
  | .bootSlotSelect => true
  | .dramTrainingComplete _ _ => true
  | .resetRequest m lvl _ => levelGood lvl && masterGood m
  | .enterSentry m lvl _ => levelGood lvl && masterGood m
  | .sentryWake _ _ => true
  | .backupTimeTick => true
  | .backupPowerApply => true
  | .vbkpFall => true
  | .supplyExcursion => true
  | .temperatureAlarm _ => true
  | .clockMonitorFault _ => true
  | .xtal32Stop => true
  | .pePerst => true
  | .sorovChannelLock _ => true
  | .sorovChannelFail _ => true
  | .sorovChannelRetry _ => true
  | .heartbeatLost => true
  | .heartSend => true
  | .syncFrame _ _ => true
  | .syncMissing => true
  | .stateFrame _ b => stateGood b
  | .paramFrame _ b => decide (1 ≤ b.recs.length ∧ b.recs.length ≤ 127)
  | .paramResend => true
  | .heartFrame _ _ => true
  | .versionFrame _ _ => true
  | .repairTick => true
  | .needFrame _ l => decide (l.length ≤ 255)
  | .pktFrame _ _ => true
  | .swapCmd _ _ => true
  | .switchCmd _ _ => true
  | .switchAt _ _ => true
  | .stepCmd _ _ => true
  | .joinReq _ _ => true
  | .joinAck _ _ => true
  | .expressAt _ _ => true
  | .divergeCmd _ _ => true
  | .hostCmd _ _ => true
  | .presetCmd _ _ => true
  | .joinTransferComplete => true
  | .catchupComplete => true
  | .joinComplete => true
  | .joinFail => true
  | .divergenceTimeout => true
  | .peerSample _ _ => true
  | .twinTakeAssert => true
  | .standbyTakeover => true
  | .outputHandover => true
  | .doorbell m lvl _ => levelGood lvl && masterGood m
  | .mailboxRelease m lvl _ => levelGood lvl && masterGood m
  | .commandTake bad _ => badGood bad
  | .irqPendClear m lvl _ => levelGood lvl && masterGood m
  | .ringProducerWrite m lvl _ _ => levelGood lvl && masterGood m
  | .ringService _ e _ => decide (e.length ≤ 128 ∧ e.length % 4 = 0)
  | .pcieInboundWrite _ _ bs => decide (1 ≤ bs.length ∧ bs.length ≤ 256)
  | .pcieInboundRead _ _ n => decide (1 ≤ n.toNat ∧ n.toNat ≤ 4096)
  | .qspiWrite _ _ => true
  | .qspiRead _ _ => true
  | .qspiStatus _ => true
  | .getInfo _ b => bodyFits b
  | .getStatus _ b => bodyFits b
  | .resetCmd _ b => bodyFits b
  | .powerCmd _ b => bodyFits b
  | .regRead _ b => bodyFits b
  | .regWrite _ b => bodyFits b
  | .graphLoad _ b => bodyFits b
  | .graphSwitch _ b => bodyFits b
  | .graphAbort _ b => bodyFits b
  | .switchAbort m lvl _ => levelGood lvl && masterGood m
  | .graphRelease _ b => bodyFits b
  | .graphStatus _ b => bodyFits b
  | .graphStop _ b => bodyFits b
  | .paramSet _ b => bodyFits b
  | .paramGet _ b => bodyFits b
  | .ringSetup _ b => bodyFits b
  | .ringStop _ b => bodyFits b
  | .meterSet _ b => bodyFits b
  | .meterRead _ b => bodyFits b
  | .faultFirst _ b => bodyFits b
  | .faultAck _ b => bodyFits b
  | .faultCfg _ b => bodyFits b
  | .countCfg _ b => bodyFits b
  | .faultPending _ b => bodyFits b
  | .faultDecide _ b => bodyFits b
  | .faultClear _ b => bodyFits b
  | .logRead _ b => bodyFits b
  | .logCompact _ b bad => bodyFits b && badGood bad
  | .memWindow _ b => bodyFits b
  | .memCrc _ b => bodyFits b
  | .memStatus _ b => bodyFits b
  | .retirePage _ b bad => bodyFits b && badGood bad
  | .repairRow _ b bad => bodyFits b && badGood bad
  | .retireBank _ b bad => bodyFits b && badGood bad
  | .marchCmd _ b => bodyFits b
  | .scrubRange _ b => bodyFits b
  | .depotPower _ b => bodyFits b
  | .fwProgram _ b bad => bodyFits b && badGood bad
  | .fwStatus _ b => bodyFits b
  | .fwActivate _ b => bodyFits b
  | .prosalStart => true
  | .optionWrite _ b bad => bodyFits b && badGood bad
  | .optionLock _ b => bodyFits b
  | .hostdataRead _ b => bodyFits b
  | .hostdataWrite _ b bad => bodyFits b && badGood bad
  | .twinCfg _ b => bodyFits b
  | .twinStatus _ b => bodyFits b
  | .twinSwap _ b => bodyFits b
  | .twinTake _ b => bodyFits b
  | .twinChoice _ b => bodyFits b
  | .twinJoin _ b => bodyFits b
  | .twinRelay _ b => bodyFits b
  | .twinRelayRead _ b => bodyFits b
  | .modeGet _ b => bodyFits b
  | .modeSet _ b => bodyFits b
  | .laneMove _ b => bodyFits b
  | .laneService _ b _ => bodyFits b
  | .clusterPin _ b => bodyFits b
  | .expressMove _ b => bodyFits b
  | .unlockNonce _ b => bodyFits b
  | .unlockHmac _ b => bodyFits b
  | .unlockPassword _ b => bodyFits b
  | .lockCmd _ b => bodyFits b
  | .keySet _ b bad => bodyFits b && badGood bad
  | .clockCfg _ b => bodyFits b
  | .ptpCfg _ b => bodyFits b
  | .clockStatus _ b => bodyFits b
  | .servoInput _ b => bodyFits b
  | .blockPreset _ b => bodyFits b
  | .presetGo m lvl _ => levelGood lvl && masterGood m
  | .netPortCfg _ b => bodyFits b
  | .rxStreamSet _ b => bodyFits b
  | .txStreamSet _ b => bodyFits b
  | .streamDelete _ b => bodyFits b
  | .concealChoice _ b => bodyFits b
  | .tdmCfg _ b => bodyFits b
  | .portRecal _ b => bodyFits b
  | .portStatus _ b => bodyFits b
  | .streamStatus _ b => bodyFits b
  | .unlockTimeout => true
  | .bypassCmd => true
  | .idcode => true
  | .samplePreload _ => true
  | .extest => true
  | .clampCmd => true
  | .highz => true
  | .dbgAccess _ _ _ => true
  | .haltCmd m lvl _ _ => levelGood lvl && masterGood m
  | .triadStep m lvl _ _ => levelGood lvl && masterGood m
  | .resumeCmd m lvl _ _ => levelGood lvl && masterGood m
  | .injectGo m lvl _ => levelGood lvl && masterGood m
  | .breakGo m lvl _ => levelGood lvl && masterGood m
  | .breakEnd => true
  | .allOff m lvl _ => levelGood lvl && masterGood m
  | .perturbationWrite m lvl a _ => levelGood lvl && masterGood m && aligned4 a.toNat
  | .registerWrite m lvl a _ => levelGood lvl && masterGood m && aligned4 a.toNat
  | .linkUp _ => true
  | .undefinedEncoding _ _ => true
  | .testLogicReset => true
  | .preMasterQualification _ => true

end Sys2Proof
end

