-- ==== Sys2Proof/Certificates/Slice0/Obligations.lean ====
section
/-! DEFINITION. Certificates/Slice0/Obligations.lean: the statements about the MLN-7720 model, and the tables they name. -/
open Sys2Proof Sys2Proof.Machine Sys2Proof.Safety

/-! ## The queue -/

/-- A step takes the command at the front of the queue and runs it on the state with the queue's rest. -/
def Obligations.StepRunsTheFrontCommand : Prop :=
  ∀ (c : Instr) (cs : List Instr) (s : State), s.pending = c :: cs → step s = exec c { s with pending := cs }

/-- An empty queue idles: the model's own choice (log entry 1). -/
def Obligations.EmptyQueueIdles : Prop := ∀ s : State, s.pending = [] → step s = .next s

/-! ## The whole machine -/

/-- No command ends a run, and after every command the pins are those the state calls for. -/
def Obligations.EveryCommandGoesOn : Prop := ∀ (c : Instr) (s : State), ∃ u, exec c s = .next u ∧ Driven u

/-- The invariant every step keeps: the pins are those the state calls for. -/
def Obligations.EveryStepKeepsPinsDriven : Prop := ∀ s u : State, Driven s → step s = .next u → Driven u

/-- Reset leaves the pins as its state calls for. -/
def Obligations.ResetPinsDriven : Prop := Driven State.reset

/-- The words of the instructions (R75, R76, R132 to R137): the word of a well-formed instruction decodes to it, operands and all, for every
triad that has it (the supervisor has no long vectors, R76); and a word that decodes has that one instruction, whose word it is. Undefined funcs
and set bits of fields that must be 0 so decode to none. The commands' own table gives no bits (log entry 7). -/
def Obligations.EncodedInstructionsDecode : Prop :=
  (∀ (i : Instr) (t : TriadId) (w : Nat), i.wf = true → encodeWord i = some (t, w) → (w < 0x38 * 2 ^ 26 ∨ t.val ≠ 0) →
    w < 2 ^ 32 ∧ decodeWord t w = some i) ∧
  ∀ (t : TriadId) (w : Nat) (i : Instr), w < 2 ^ 32 → decodeWord t w = some i → i.wf = true ∧ encodeWord i = some (t, w)

/-- In the safe state the outputs stand at their safe levels after every step (R324). -/
def Obligations.SafeStateOutputs : Prop :=
  ∀ s u : State, Driven s → step s = .next u → u.flag FCU_STATUS_SAFE = true →
    u.pins.safeN = false ∧ u.pins.faultN = false ∧ u.pins.mute = 0xF ∧ u.pins.silent = true ∧ u.pins.irqN = false ∧
    u.pins.unhealthy = true ∧ (u.paired = true → u.pins.take = true) ∧
    u.pins.dout = (if u.flag FCU_SAFE_CFG_TDM_HIZ then .highZ else .low) ∧
    ∀ k < 16, (BitVec.ofNat 16 (u.get FCU_GPIO_SAFE_OE)).getLsbD k = true →
      u.pins.gpioOe.getLsbD k = true ∧ u.pins.gpio.getLsbD k = (BitVec.ofNat 16 (u.get FCU_GPIO_SAFE_LEVEL)).getLsbD k

/-! ## Memory -/

/-- Every operation on memory keeps its canonical form: addresses strictly rise, and no entry is what an unlisted address reads as. -/
def Sys2Proof.Statements.MemoryKeepsCanonicalForm : Prop :=
  ∀ s : State, Memory.wf s.mem = true →
    (∀ a v, Memory.wf (s.setByte a v).mem = true) ∧ (∀ a bs, Memory.wf (s.setBytes a bs).mem = true) ∧
    (∀ a n, Memory.wf (s.fill a n).mem = true) ∧ (∀ a bs r, Memory.wf (s.storeWord a bs r).1.mem = true) ∧
    (∀ r n a bs, Memory.wf (s.storeBytes r n a bs).1.mem = true)

/-- Bytes read back as they were written, and every other byte reads as before; a range dropped reads as it did unwritten (R249, R351). -/
def Sys2Proof.Statements.MemoryReadsWhatWasWritten : Prop :=
  ∀ (s : State) (a : Nat) (bs : List Byte),
    (s.setBytes a bs).bytes a bs.length = bs ∧
    (∀ x, x < a ∨ a + bs.length ≤ x → (s.setBytes a bs).byte x = s.byte x) ∧
    ∀ n x, (s.fill a n).byte x = if a ≤ x ∧ x < a + n then memDflt x else s.byte x

/-! ## Scalar instructions -/

/-- The R-format instructions that compute from x = g[rs1] and y = g[rs2] (R77, R78): with each, its result. -/
def Sys2Proof.Statements.aluTable (t : TriadId) (rd rs1 rs2 : Reg) : List (Instr × (DWord → DWord → DWord)) :=
  [(.add t rd rs1 rs2, fun (x y : DWord) => x + y), (.sub t rd rs1 rs2, fun (x y : DWord) => x - y), (.andCmd t rd rs1 rs2, fun (x y : DWord) => x &&& y),
   (.orCmd t rd rs1 rs2, fun (x y : DWord) => x ||| y), (.xorCmd t rd rs1 rs2, fun (x y : DWord) => x ^^^ y),
   (.shl t rd rs1 rs2, fun (x y : DWord) => x <<< (y.toNat % 64)), (.shr t rd rs1 rs2, fun (x y : DWord) => x >>> (y.toNat % 64)),
   (.sar t rd rs1 rs2, fun (x y : DWord) => x.sshiftRight (y.toNat % 64)),
   (.setlt t rd rs1 rs2, fun (x y : DWord) => if x.toInt < y.toInt then 1 else 0), (.setltU t rd rs1 rs2, fun (x y : DWord) => if x.toNat < y.toNat then 1 else 0),
   (.minCmd t rd rs1 rs2, fun (x y : DWord) => if x.toInt < y.toInt then x else y), (.maxCmd t rd rs1 rs2, fun (x y : DWord) => if x.toInt < y.toInt then y else x),
   (.minU t rd rs1 rs2, fun (x y : DWord) => if x.toNat < y.toNat then x else y), (.maxU t rd rs1 rs2, fun (x y : DWord) => if x.toNat < y.toNat then y else x),
   (.addW t rd rs1 rs2, fun (x y : DWord) => (x.setWidth 32 + y.setWidth 32).signExtend 64),
   (.subW t rd rs1 rs2, fun (x y : DWord) => (x.setWidth 32 - y.setWidth 32).signExtend 64),
   (.shlW t rd rs1 rs2, fun (x y : DWord) => (x.setWidth 32 <<< (y.toNat % 32)).signExtend 64),
   (.shrW t rd rs1 rs2, fun (x y : DWord) => (x.setWidth 32 >>> (y.toNat % 32)).signExtend 64),
   (.sarW t rd rs1 rs2, fun (x y : DWord) => ((x.setWidth 32).sshiftRight (y.toNat % 32)).signExtend 64)] ++
  [(.mul t rd rs1 rs2, fun (x y : DWord) => BitVec.ofInt 64 (x.toInt * y.toInt)), (.mulHs t rd rs1 rs2, fun (x y : DWord) => BitVec.ofInt 64 (x.toInt * y.toInt / 2 ^ 64)),
   (.mulHu t rd rs1 rs2, fun (x y : DWord) => BitVec.ofNat 64 (x.toNat * y.toNat / 2 ^ 64)),
   (.mulW t rd rs1 rs2, fun (x y : DWord) => (x.setWidth 32 * y.setWidth 32).signExtend 64),
   (.div t rd rs1 rs2, fun (x y : DWord) => if y = 0 then 0 else BitVec.ofInt 64 (x.toInt.tdiv y.toInt)),
   (.divU t rd rs1 rs2, fun (x y : DWord) => if y = 0 then 0 else BitVec.ofNat 64 (x.toNat / y.toNat)),
   (.rem t rd rs1 rs2, fun (x y : DWord) => if y = 0 then x else BitVec.ofInt 64 (x.toInt.tmod y.toInt)),
   (.remU t rd rs1 rs2, fun (x y : DWord) => if y = 0 then x else BitVec.ofNat 64 (x.toNat % y.toNat)),
   (.rol t rd rs1 rs2, fun (x y : DWord) => x <<< (y.toNat % 64) ||| x >>> (64 - y.toNat % 64)),
   (.ror t rd rs1 rs2, fun (x y : DWord) => x >>> (y.toNat % 64) ||| x <<< (64 - y.toNat % 64))]

/-- Every R-format computation writes its result to g[rd], moves on by one instruction, and leaves every other register, flag, special
register and byte of memory as it was; a write to g0 is discarded. -/
def Sys2Proof.Statements.AluWritesItsResultAlone : Prop :=
  ∀ (s : State) (t : TriadId) (rd rs1 rs2 : Reg), Ready s t → ∀ p ∈ Sys2Proof.Statements.aluTable t rd rs1 rs2,
    ∃ u, exec p.1 s = .next u ∧ WroteG s u t rd (p.2 (s.gx t rs1) (s.gx t rs2))

/-- The instructions that compute from x alone, or from x and an immediate (R77). -/
def Sys2Proof.Statements.immediateTable (t : TriadId) (rd rs1 : Reg) (imm : Imm16) (sh : Sh6) : List (Instr × (DWord → DWord)) :=
  [(.addi t rd rs1 imm, fun (x : DWord) => x + imm.signExtend 64), (.andi t rd rs1 imm, fun (x : DWord) => x &&& imm.setWidth 64),
   (.ori t rd rs1 imm, fun (x : DWord) => x ||| imm.setWidth 64), (.xori t rd rs1 imm, fun (x : DWord) => x ^^^ imm.setWidth 64),
   (.setlti t rd rs1 imm, fun (x : DWord) => if x.toInt < imm.toInt then 1 else 0),
   (.setltiU t rd rs1 imm, fun (x : DWord) => if x.toNat < (imm.signExtend 64).toNat then 1 else 0),
   (.shli t rd rs1 sh, fun (x : DWord) => x <<< sh.toNat), (.shri t rd rs1 sh, fun (x : DWord) => x >>> sh.toNat), (.sari t rd rs1 sh, fun (x : DWord) => x.sshiftRight sh.toNat),
   (.shin t rd rs1 imm, fun (x : DWord) => x <<< 16 ||| imm.setWidth 64),
   (.sextB t rd rs1, fun (x : DWord) => (x.setWidth 8).signExtend 64), (.sextH t rd rs1, fun (x : DWord) => (x.setWidth 16).signExtend 64),
   (.sextW t rd rs1, fun (x : DWord) => (x.setWidth 32).signExtend 64)]

/-- Every computation from one register writes its result to g[rd] alone; PCADD adds to the address of the
instruction itself, and BYTEREV puts byte 7 − k of x at byte k. -/
def Sys2Proof.Statements.ImmediatesWriteTheirResultAlone : Prop :=
  ∀ (s : State) (t : TriadId) (rd rs1 : Reg) (imm : Imm16) (sh : Sh6), Ready s t →
    (∀ p ∈ Sys2Proof.Statements.immediateTable t rd rs1 imm sh, ∃ u, exec p.1 s = .next u ∧ WroteG s u t rd (p.2 (s.gx t rs1))) ∧
    (∃ u v, exec (.byterev t rd rs1) s = .next u ∧ WroteG s u t rd v ∧
      ∀ k < 8, v.extractLsb' (8 * k) 8 = (s.gx t rs1).extractLsb' (56 - 8 * k) 8) ∧
    ∃ u, exec (.pcadd t rd rs1 imm) s = .next u ∧ WroteG s u t rd ((s.triad t).pc + (s.gx t rs1 <<< 16) + imm.signExtend 64)

/-- CLZ, CTZ and BITCNT count the leading zeros, the trailing zeros and the set bits of x (R77). -/
def Sys2Proof.Statements.BitCounts : Prop :=
  ∀ (s : State) (t : TriadId) (rd rs1 : Reg), Ready s t →
    (∃ u n, exec (.clz t rd rs1) s = .next u ∧ WroteG s u t rd (BitVec.ofNat 64 n) ∧ n ≤ 64 ∧
      (∀ i, 64 - n ≤ i → (s.gx t rs1).getLsbD i = false) ∧ (n < 64 → (s.gx t rs1).getLsbD (63 - n) = true)) ∧
    (∃ u n, exec (.ctz t rd rs1) s = .next u ∧ WroteG s u t rd (BitVec.ofNat 64 n) ∧ n ≤ 64 ∧
      (∀ i < n, (s.gx t rs1).getLsbD i = false) ∧ (n < 64 → (s.gx t rs1).getLsbD n = true)) ∧
    ∃ u, exec (.bitcnt t rd rs1) s = .next u ∧
      WroteG s u t rd (BitVec.ofNat 64 ((List.range 64).filter fun i => (s.gx t rs1).getLsbD i).length)

/-- Division by zero, and −2⁶³ by −1; no scalar computation raises an exception (R78). -/
def Obligations.DivisionCorners : Prop :=
  ∀ (s : State) (t : TriadId) (rd rs1 rs2 : Reg), Ready s t →
    (s.gx t rs2 = 0 → (∃ u, exec (.div t rd rs1 rs2) s = .next u ∧ WroteG s u t rd 0) ∧
      (∃ u, exec (.divU t rd rs1 rs2) s = .next u ∧ WroteG s u t rd 0) ∧
      (∃ u, exec (.rem t rd rs1 rs2) s = .next u ∧ WroteG s u t rd (s.gx t rs1)) ∧
      ∃ u, exec (.remU t rd rs1 rs2) s = .next u ∧ WroteG s u t rd (s.gx t rs1)) ∧
    (s.gx t rs1 = BitVec.intMin 64 → s.gx t rs2 = BitVec.allOnes 64 →
      (∃ u, exec (.div t rd rs1 rs2) s = .next u ∧ WroteG s u t rd (BitVec.intMin 64)) ∧
      ∃ u, exec (.rem t rd rs1 rs2) s = .next u ∧ WroteG s u t rd 0) ∧
    ∀ (imm : Imm16) (sh : Sh6), ∀ c ∈ (Sys2Proof.Statements.aluTable t rd rs1 rs2).map (·.1) ++
        (Sys2Proof.Statements.immediateTable t rd rs1 imm sh).map (·.1) ++
        [.clz t rd rs1, .ctz t rd rs1, .bitcnt t rd rs1, .byterev t rd rs1, .pcadd t rd rs1 imm],
      ∃ u, exec c s = .next u ∧ (u.triad t).ecause = (s.triad t).ecause ∧ (u.triad t).status = (s.triad t).status ∧
        (u.triad t).pc = (s.triad t).pc + 4

/-- The branches, with the condition each tests (R77). -/
def Sys2Proof.Statements.branchTable (t : TriadId) (rs1 rs2 : Reg) (off : Imm16) : List (Instr × (DWord → DWord → Prop)) :=
  [(.beq t rs1 rs2 off, fun (x y : DWord) => x = y), (.bne t rs1 rs2 off, fun (x y : DWord) => x ≠ y), (.blt t rs1 rs2 off, fun (x y : DWord) => x.toInt < y.toInt),
   (.bge t rs1 rs2 off, fun (x y : DWord) => y.toInt ≤ x.toInt), (.bltU t rs1 rs2 off, fun (x y : DWord) => x.toNat < y.toNat),
   (.bgeU t rs1 rs2 off, fun (x y : DWord) => y.toNat ≤ x.toNat)]

/-- A branch goes to PC + 4 × sext(off16) where its condition holds, else to the next instruction; J and JR go to their target. Nothing else
changes. -/
def Obligations.BranchesAndJumps : Prop :=
  ∀ (s : State) (t : TriadId) (rs1 rs2 : Reg) (off : Imm16) (o26 : Off26), Ready s t →
    (∀ p ∈ Sys2Proof.Statements.branchTable t rs1 rs2 off,
      (p.2 (s.gx t rs1) (s.gx t rs2) → ∃ u, exec p.1 s = .next u ∧ WentTo s u t ((s.triad t).pc + 4 * off.signExtend 64)) ∧
      (¬ p.2 (s.gx t rs1) (s.gx t rs2) → ∃ u, exec p.1 s = .next u ∧ WentTo s u t ((s.triad t).pc + 4))) ∧
    (∃ u, exec (.j t o26) s = .next u ∧ WentTo s u t ((s.triad t).pc + 4 * o26.signExtend 64)) ∧
    ∃ u, exec (.jr t rs1) s = .next u ∧ WentTo s u t (s.gx t rs1)

/-- The calls, with their targets. -/
def Sys2Proof.Statements.callTable (s : State) (t : TriadId) (rs1 : Reg) (off : Off26) : List (Instr × DWord) :=
  [(.call t off, (s.triad t).pc + 4 * off.signExtend 64), (.callr t rs1, s.gx t rs1)]

/-- CALL and CALLR push PC + 4 with bit 0 set, write g31 and jump, where the shadow stack has room and its memory is plain; a full stack raises
SHADOW_OVERFLOW with EVAL = SSP and does nothing else (R116). -/
def Sys2Proof.Statements.CallsPushTheReturnAddress : Prop :=
  ∀ (s : State) (t : TriadId) (rs1 : Reg) (off : Off26), Ready s t → ∀ p ∈ Sys2Proof.Statements.callTable s t rs1 off,
    let sh := stackOf s t
    let ret := (s.triad t).pc + 4
    (sh.ssp.toNat < sh.sslimit.toNat + 8 → Open s t →
      ∃ u, exec p.1 s = .next u ∧ Stopped s u t 0x13 sh.ssp) ∧
    (sh.sslimit.toNat + 8 ≤ sh.ssp.toNat → PlainAccess s (s.triadIssuer t) (sh.ssp.toNat - 8) 8 .push true →
      ∃ u, exec p.1 s = .next u ∧ (u.triad t).pc = p.2 ∧ (∀ r, u.gx t r = if r = 31 then ret else s.gx t r) ∧
        stackOf u t = { sh with ssp := sh.ssp - 8 } ∧ u.le (sh.ssp.toNat - 8) 8 = (ret ||| 1).toNat ∧
        ∀ a, a < sh.ssp.toNat - 8 ∨ sh.ssp.toNat ≤ a → u.byte a = s.byte a)

/-- RET compares the top of the shadow stack with g31, bit 0 set in both, then pops and jumps to g31; a mismatch raises CONTROL_FLOW with EVAL =
g31, an empty stack SHADOW_UNDERFLOW with EVAL = SSP, and neither does anything else (R116). -/
def Sys2Proof.Statements.ReturnsPopTheShadowStack : Prop :=
  ∀ (s : State) (t : TriadId), Ready s t →
    let sh := stackOf s t
    let link := s.gx t 31
    (sh.ssbase.toNat ≤ sh.ssp.toNat → Open s t →
      ∃ u, exec (.ret t) s = .next u ∧ Stopped s u t 0x14 sh.ssp) ∧
    (sh.ssp.toNat < sh.ssbase.toNat → PlainAccess s (s.triadIssuer t) sh.ssp.toNat 8 .ret false →
      (s.le sh.ssp.toNat 8 ≠ (link ||| 1).toNat → Open s t →
        ∃ u, exec (.ret t) s = .next u ∧ Stopped s u t 0x12 link) ∧
      (s.le sh.ssp.toNat 8 = (link ||| 1).toNat →
        ∃ u, exec (.ret t) s = .next u ∧ OnlyTriad s u t ∧ (u.triad t).pc = link ∧ (∀ r, u.gx t r = s.gx t r) ∧
          stackOf u t = { sh with ssp := sh.ssp + 8 }))

/-- Memory keeps its canonical form under every operation, and reads back what was written. -/
def Obligations.MemoryKeepsItsFormAndReadsBack : Prop := Sys2Proof.Statements.MemoryKeepsCanonicalForm ∧ Sys2Proof.Statements.MemoryReadsWhatWasWritten

/-- The scalar computations (R77, R78), each with its result and its frame. -/
def Obligations.ComputationsWriteTheirResultAlone : Prop := Sys2Proof.Statements.AluWritesItsResultAlone ∧ Sys2Proof.Statements.ImmediatesWriteTheirResultAlone ∧ Sys2Proof.Statements.BitCounts

/-- CALL, CALLR and RET act on the shadow stack (R116), all or nothing. -/
def Obligations.CallsAndReturns : Prop := Sys2Proof.Statements.CallsPushTheReturnAddress ∧ Sys2Proof.Statements.ReturnsPopTheShadowStack

/-! ## Loads, stores, atomics, block instructions -/

/-- The loads: with each, its width in bytes and how it extends what it reads (R77). -/
def Sys2Proof.Statements.loadTable (t : TriadId) (rd rs1 : Reg) (imm : Imm16) : List (Instr × Nat × (Nat → DWord)) :=
  [(.ldB t rd rs1 imm, 1, fun (v : Nat) => (BitVec.ofNat 8 v).signExtend 64), (.ldBu t rd rs1 imm, 1, fun (v : Nat) => BitVec.ofNat 64 v),
   (.ldH t rd rs1 imm, 2, fun (v : Nat) => (BitVec.ofNat 16 v).signExtend 64), (.ldHu t rd rs1 imm, 2, fun (v : Nat) => BitVec.ofNat 64 v),
   (.ldW t rd rs1 imm, 4, fun (v : Nat) => (BitVec.ofNat 32 v).signExtend 64), (.ldWu t rd rs1 imm, 4, fun (v : Nat) => BitVec.ofNat 64 v),
   (.ldD t rd rs1 imm, 8, fun (v : Nat) => BitVec.ofNat 64 v)]

/-- The stores, with their width in bytes. -/
def Sys2Proof.Statements.storeTable (t : TriadId) (rs2 rs1 : Reg) (imm : Imm16) : List (Instr × Nat) :=
  [(.stB t rs2 rs1 imm, 1), (.stH t rs2 rs1 imm, 2), (.stW t rs2 rs1 imm, 4), (.stD t rs2 rs1 imm, 8)]

/-- The atomics: width, the new value from the old one and y, and how the old value extends (R82). -/
def Sys2Proof.Statements.atomicTable (t : TriadId) (rd rs1 rs2 : Reg) : List (Instr × Nat × (Nat → Nat → Nat) × (Nat → DWord)) :=
  [(.aaddW t rd rs1 rs2, 4, fun (x y : Nat) => x + y, fun (v : Nat) => (BitVec.ofNat 32 v).signExtend 64),
   (.aaddD t rd rs1 rs2, 8, fun (x y : Nat) => x + y, fun (v : Nat) => BitVec.ofNat 64 v),
   (.aswpW t rd rs1 rs2, 4, fun (_ y : Nat) => y, fun (v : Nat) => (BitVec.ofNat 32 v).signExtend 64),
   (.aswpD t rd rs1 rs2, 8, fun (_ y : Nat) => y, fun (v : Nat) => BitVec.ofNat 64 v)]

/-- A load from plain memory writes the little-endian value of its bytes, extended, to g[rd], and changes nothing else; no alignment is asked
(R77, R90). -/
def Obligations.LoadsReadMemory : Prop :=
  ∀ (s : State) (t : TriadId) (rd rs1 : Reg) (imm : Imm16), Ready s t → ∀ p ∈ Sys2Proof.Statements.loadTable t rd rs1 imm,
    PlainAccess s (s.triadIssuer t) (s.eaddr t rs1 imm) p.2.1 .load false →
      ∃ u, exec p.1 s = .next u ∧ WroteG s u t rd (p.2.2 (s.le (s.eaddr t rs1 imm) p.2.1))

/-- A store to plain memory writes the low bytes of g[rs2] at g[rs1] + sext(imm16) and no other byte; every register keeps its value (R77, R90,
R247). -/
def Obligations.StoresWriteTheirBytesAlone : Prop :=
  ∀ (s : State) (t : TriadId) (rs2 rs1 : Reg) (imm : Imm16), Ready s t → ∀ p ∈ Sys2Proof.Statements.storeTable t rs2 rs1 imm,
    PlainAccess s (s.triadIssuer t) (s.eaddr t rs1 imm) p.2 .store true →
      ∃ u, exec p.1 s = .next u ∧ u.le (s.eaddr t rs1 imm) p.2 = (s.gx t rs2).toNat % 2 ^ (8 * p.2) ∧
        StoredAt s u t (s.eaddr t rs1 imm) p.2 ∧
        u.triad t = { s.triad t with pc := (s.triad t).pc + 4, instret := (s.triad t).instret + 1, run := .running }

/-- An aligned atomic on a bank reads the old value, replaces it and writes the old value to g[rd] (R82). -/
def Obligations.AtomicsReplaceAndReturnTheOldValue : Prop :=
  ∀ (s : State) (t : TriadId) (rd rs1 rs2 : Reg), Ready s t → ∀ p ∈ Sys2Proof.Statements.atomicTable t rd rs1 rs2,
    let a := (s.gx t rs1).toNat
    let n := p.2.1
    a % n = 0 → (bankOf (s.region a) a).isSome = true → PlainAccess s (s.triadIssuer t) a n .atomic false →
      ∃ u, exec p.1 s = .next u ∧ u.le a n = p.2.2.1 (s.le a n) (s.gx t rs2).toNat % 2 ^ (8 * n) ∧
        StoredAt s u t a n ∧ (∀ r, u.gx t r = if r = rd ∧ rd ≠ 0 then p.2.2.2 (s.le a n) else s.gx t r) ∧
        (u.triad t).pc = (s.triad t).pc + 4

/-- Where a scalar access stops before anything moves (R82, R91, R109, R289): a misaligned device access or atomic MISALIGNED, an atomic on
anything but a bank UNSUPPORTED_ATOMIC, an access its own rules refuse TOLLGATE_LOAD or TOLLGATE_STORE, one a lock slot refuses BUS_ERROR, each
with the address in EVAL. -/
def Obligations.AccessesStopBeforeTheyMove : Prop :=
  ∀ (s : State) (t : TriadId) (rd rs1 rs2 : Reg) (imm : Imm16), Ready s t → Open s t →
    (∀ p ∈ Sys2Proof.Statements.atomicTable t rd rs1 rs2,
      let a := (s.gx t rs1).toNat
      (a % p.2.1 ≠ 0 → ∃ u, exec p.1 s = .next u ∧ Stopped s u t 0x03 (s.gx t rs1)) ∧
      (a % p.2.1 = 0 → bankOf (s.region a) a = none → ∃ u, exec p.1 s = .next u ∧ Stopped s u t 0x04 (s.gx t rs1))) ∧
    (∀ p ∈ Sys2Proof.Statements.loadTable t rd rs1 imm,
      let a := s.eaddr t rs1 imm
      (devRange a p.2.1 = true → a % p.2.1 ≠ 0 → ∃ u, exec p.1 s = .next u ∧ Stopped s u t 0x03 (BitVec.ofNat 64 a)) ∧
      (devRange a p.2.1 = false → ∀ b, s.check (s.triadIssuer t) a p.2.1 .load = .own b →
        ∃ u, exec p.1 s = .next u ∧ Stopped s u t 0x06 (BitVec.ofNat 64 b)) ∧
      (devRange a p.2.1 = false → ∀ b, s.check (s.triadIssuer t) a p.2.1 .load = .lock b →
        ∃ u, exec p.1 s = .next u ∧ Stopped s u t 0x0C (BitVec.ofNat 64 b))) ∧
    ∀ p ∈ Sys2Proof.Statements.storeTable t rs2 rs1 imm,
      let a := s.eaddr t rs1 imm
      (devRange a p.2 = true → a % p.2 ≠ 0 → ∃ u, exec p.1 s = .next u ∧ Stopped s u t 0x03 (BitVec.ofNat 64 a)) ∧
      (devRange a p.2 = false → ∀ b, s.check (s.triadIssuer t) a p.2 .store = .own b →
        ∃ u, exec p.1 s = .next u ∧ Stopped s u t 0x07 (BitVec.ofNat 64 b)) ∧
      (devRange a p.2 = false → ∀ b, s.check (s.triadIssuer t) a p.2 .store = .lock b →
        ∃ u, exec p.1 s = .next u ∧ Stopped s u t 0x0C (BitVec.ofNat 64 b))

/-- After a step of `k` bytes: the count has fallen by `k`, and the PC stays at the instruction while bytes remain, or where an interrupt is
pending to be taken there (R93). -/
def Sys2Proof.Statements.Stepped (s u : State) (t : TriadId) (rs2 : Reg) (k : Nat) : Prop :=
  u.gx t rs2 = s.gx t rs2 - BitVec.ofNat 64 k ∧
    (u.triad t).pc = if s.gx t rs2 = BitVec.ofNat 64 k ∧ s.nextInterrupt t = none then (s.triad t).pc + 4 else (s.triad t).pc

/-- One step of a block instruction moves min(64, count) bytes and updates its registers (R92 to R94): BMOVE copies as a byte-ascending copy does,
BFILL writes byte (address mod 8) of its pattern, BCRC folds the bytes into the low word of g[rd]. -/
def Sys2Proof.Statements.BlockInstructionsMoveOneStep : Prop :=
  ∀ (s : State) (t : TriadId) (rd rs1 rs2 : Reg), Ready s t → s.gx t rs2 ≠ 0 →
    let k := min 64 (s.gx t rs2).toNat
    let dst := (s.gx t rd).toNat
    let src := (s.gx t rs1).toNat
    let v := s.triadIssuer t
    (blockRegs false rd rs1 rs2 = true → PlainAccess s v src k .load false → PlainAccess s v dst k .store true →
      ∃ u, exec (.bmove t rd rs1 rs2) s = .next u ∧
        (∀ j < k, u.byte (dst + j) = s.byte (src + if dst ≤ src then j else j % (dst - src))) ∧ StoredAt s u t dst k ∧
        u.gx t rd = s.gx t rd + BitVec.ofNat 64 k ∧ u.gx t rs1 = s.gx t rs1 + BitVec.ofNat 64 k ∧ Sys2Proof.Statements.Stepped s u t rs2 k ∧
        ∀ r, r ≠ rd → r ≠ rs1 → r ≠ rs2 → u.gx t r = s.gx t r) ∧
    (blockRegs true rd rs1 rs2 = true → PlainAccess s v dst k .store true →
      ∃ u, exec (.bfill t rd rs1 rs2) s = .next u ∧
        (∀ j < k, u.byte (dst + j) = (s.gx t rs1).extractLsb' (8 * ((dst + j) % 8)) 8) ∧ StoredAt s u t dst k ∧
        u.gx t rd = s.gx t rd + BitVec.ofNat 64 k ∧ Sys2Proof.Statements.Stepped s u t rs2 k ∧ ∀ r, r ≠ rd → r ≠ rs2 → u.gx t r = s.gx t r) ∧
    (blockRegs false rd rs1 rs2 = true → PlainAccess s v src k .load false →
      ∃ u, exec (.bcrc t rd rs1 rs2) s = .next u ∧ OnlyTriad s u t ∧
        u.gx t rd = (crcUpdate ((s.gx t rd).setWidth 32) (s.bytes src k)).setWidth 64 ∧
        u.gx t rs1 = s.gx t rs1 + BitVec.ofNat 64 k ∧ Sys2Proof.Statements.Stepped s u t rs2 k ∧
        ∀ r, r ≠ rd → r ≠ rs1 → r ≠ rs2 → u.gx t r = s.gx t r)

/-- A block instruction with count 0 only moves on; one whose registers R92 does not permit raises ILLEGAL_INSTRUCTION. -/
def Sys2Proof.Statements.BlockInstructionsEndAndRefuse : Prop :=
  ∀ (s : State) (t : TriadId) (rd rs1 rs2 : Reg), Ready s t →
    ∀ p ∈ [(Instr.bmove t rd rs1 rs2, false, 0), (Instr.bfill t rd rs1 rs2, true, 1), (Instr.bcrc t rd rs1 rs2, false, 2)],
      (blockRegs p.2.1 rd rs1 rs2 = true → s.gx t rs2 = 0 → ∃ u, exec p.1 s = .next u ∧ WentTo s u t ((s.triad t).pc + 4)) ∧
      (blockRegs p.2.1 rd rs1 rs2 = false → Open s t →
        ∃ u, exec p.1 s = .next u ∧ Stopped s u t 0x01 (encBlock p.2.2 rd rs1 rs2))

/-! ## Control registers, barriers, waits -/

/-- What MFC reads from each readable control register that no barrier delays, with the level it asks for (R71 to R74). -/
def Sys2Proof.Statements.mfcTable (s : State) (t : Nat) : List (N12 × Nat × DWord) :=
  let x := s.triad t
  [(0x000, 1, x.status), (0x001, 1, x.epc), (0x002, 1, x.eps), (0x003, 1, x.ecause), (0x004, 1, x.eval), (0x006, 1, x.escratch),
   (0x021, 0, x.vxstat), (0x041, 1, if t = 0 then 0 else x.budget), (0x042, 0, BitVec.ofNat 64 (s.eng.period.getD 0)), (0x050, 1, x.cycle),
   (0x051, 1, x.instret), (0x052, 1, BitVec.ofNat 64 s.time),
   (0x061, 1, BitVec.ofNat 64 (x.outvotes * 2 ^ 32 + x.odd * 4 + x.mode))]

/-- The sync registers, with the value in force and the level MFC asks for (R71, R85). -/
def Sys2Proof.Statements.syncTable (s : State) (t : Nat) : List (N12 × Nat × DWord) :=
  let x := s.triad t
  [(0x005, 1, x.evbase), (0x020, 0, x.vcfg), (0x030, 1, x.tgset), (0x031, 1, x.evrbase), (0x040, 1, if t = 0 then 0 else x.taskid)]

/-- MFC at a level that may read the register writes its value to g[rd] and nothing else; a sync register's pending value goes before the one in
force; a reserved number reads 0 at every level; below its level a register raises PRIVILEGED_INSTRUCTION (R71, R85, R101). -/
def Sys2Proof.Statements.MfcReadsControlRegisters : Prop :=
  ∀ (s : State) (t : TriadId) (g : Reg), Ready s t →
    (∀ p ∈ Sys2Proof.Statements.mfcTable s t, p.2.1 ≤ (s.triad t).level → ∃ u, exec (.mfc t g p.1) s = .next u ∧ WroteG s u t g p.2.2) ∧
    (∀ p ∈ Sys2Proof.Statements.syncTable s t, p.2.1 ≤ (s.triad t).level →
      ∃ u, exec (.mfc t g p.1) s = .next u ∧ WroteG s u t g (((s.triad t).pending p.1.toNat).getD p.2.2)) ∧
    (∀ n : N12, ctlRead n.toNat = none → ∃ u, exec (.mfc t g n) s = .next u ∧ WroteG s u t g 0) ∧
    ∀ p ∈ Sys2Proof.Statements.mfcTable s t ++ Sys2Proof.Statements.syncTable s t, (s.triad t).level < p.2.1 → Open s t →
      ∃ u, exec (.mfc t g p.1) s = .next u ∧ Stopped s u t 0x02 (encC 0 g p.1)

/-- What MTC writes at Roadbed: the bits each register holds; STATUS keeps LEVEL; a sync register's value waits for a barrier (R71, R85, R104). -/
def Sys2Proof.Statements.mtcTable (v : DWord) : List (N12 × (Triad → Triad)) :=
  [(0x000, fun (x : Triad) => { x with status := (v &&& 0x1F0C) ||| (x.status &&& 3) }), (0x001, fun (x : Triad) => { x with epc := v &&& ~~~ 3 }),
   (0x002, fun (x : Triad) => { x with eps := v &&& 0x1F0F }), (0x003, fun (x : Triad) => { x with ecause := v &&& 0xF13FF }),
   (0x004, fun (x : Triad) => { x with eval := v }), (0x006, fun (x : Triad) => { x with escratch := v }),
   (0x021, fun (x : Triad) => { x with vxstat := v &&& 0x7C7F }), (0x005, fun (x : Triad) => x.setPending 0x005 (v &&& 0xFFFFFFF000)),
   (0x020, fun (x : Triad) => x.setPending 0x020 (v &&& 0xFF37)), (0x030, fun (x : Triad) => x.setPending 0x030 (v &&& 3)),
   (0x031, fun (x : Triad) => x.setPending 0x031 (v &&& 0x1FF))]

/-- MTC at Roadbed writes the one register named; a register no level writes raises PRIVILEGED_INSTRUCTION, a reserved number
ILLEGAL_INSTRUCTION (R71, R85, R101). -/
def Sys2Proof.Statements.MtcWritesControlRegisters : Prop :=
  ∀ (s : State) (t : TriadId) (g : Reg), Ready s t → (s.triad t).level = 2 →
    (∀ p ∈ Sys2Proof.Statements.mtcTable (s.gx t g), ∃ u, exec (.mtc t g p.1) s = .next u ∧ Changed s u t p.2) ∧
    (Open s t →
      (∀ n ∈ [(0x042 : N12), 0x050, 0x051, 0x052, 0x060, 0x061],
        ∃ u, exec (.mtc t g n) s = .next u ∧ Stopped s u t 0x02 (encC 1 g n)) ∧
      ∀ n : N12, ctlRead n.toNat = none → ∃ u, exec (.mtc t g n) s = .next u ∧ Stopped s u t 0x01 (encC 1 g n))

/-- SYNC.C applies what is pending (R85, R86): the last value written to a sync register comes into force and nothing stays pending. -/
def Sys2Proof.Statements.SyncAppliesPendingValues : Prop :=
  ∀ (s : State) (t : TriadId) (v : DWord), Ready s t →
    (∀ p ∈ [((0x005 : Nat), fun (x : Triad) => { x with evbase := v, pend := [] }), (0x020, fun (x : Triad) => { x with vcfg := v, pend := [] }),
        (0x031, fun (x : Triad) => { x with evrbase := v, pend := [] }),
        (0x010, fun (x : Triad) => { x with ssFoot := { x.ssFoot with ssp := v }, pend := [] }),
        (0x1011, fun (x : Triad) => { x with ssCarr := { x.ssCarr with ssbase := v }, pend := [] }),
        (0x2012, fun (x : Triad) => { x with ssRoad := { x.ssRoad with sslimit := v }, pend := [] })],
      (s.triad t).pend = [(p.1, v)] → ∃ u, exec (.syncC t) s = .next u ∧ Changed s u t p.2) ∧
    ((s.triad t).pend = [] → ∃ u, exec (.syncC t) s = .next u ∧ WentTo s u t ((s.triad t).pc + 4)) ∧
    ((s.triad t).pend = [(0x030, v)] → (s.stagedSet t (v.toNat % 4)).bad = false →
      ∃ u, exec (.syncC t) s = .next u ∧ (u.triad t).tgset = v ∧ (u.triad t).pend = [] ∧
        u.ruleSet t (v.toNat % 4) = s.stagedSet t (v.toNat % 4)) ∧
    ((s.triad t).pend = [(0x030, v)] → (s.stagedSet t (v.toNat % 4)).bad = true → Open s t → (s.triad t).level ≤ 2 →
      ∃ u, exec (.syncC t) s = .next u ∧ (u.triad t).tgset = (s.triad t).tgset ∧ (u.triad t).ecause.toNat % 256 = 0x08 ∧ (u.triad t).eval = v)

/-- SYNC.I, SYNC.M and a WAYMARK without an armed task only move on, and WAIT above Footpath gates the triad; at Footpath WAIT is privileged (R77, R81,
R87, R95, R101). An armed WAYMARK within its expected count is counted (R338). -/
def Sys2Proof.Statements.BarriersWaitsAndWaymarks : Prop :=
  ∀ (s : State) (t : TriadId) (n : N12), Ready s t →
    (∃ u, exec (.syncI t) s = .next u ∧ WentTo s u t ((s.triad t).pc + 4)) ∧
    (∃ u, exec (.syncM t) s = .next u ∧ WentTo s u t ((s.triad t).pc + 4)) ∧
    (1 ≤ (s.triad t).level → ∃ u, exec (.waitCmd t) s = .next u ∧ OnlyTriad s u t ∧
      u.triad t = { s.triad t with pc := (s.triad t).pc + 4, instret := (s.triad t).instret + 1, run := .waiting }) ∧
    ((s.triad t).level = 0 → Open s t →
      ∃ u, exec (.waitCmd t) s = .next u ∧ Stopped s u t 0x02 (encC 8 0 0)) ∧
    (t.val = 0 ∨ (s.triad t).taskid.getLsbD 31 = false → ∃ u, exec (.waymark t n) s = .next u ∧ WentTo s u t ((s.triad t).pc + 4)) ∧
    (t.val ≠ 0 → (s.triad t).taskid.getLsbD 31 = true → s.flag (WMK_WINDOW_OPEN (laneOf t)) = true →
      (s.window (laneOf t)).count < s.get (WMK_EXPECT_EXPECT (laneOf t) (s.get (WMK_WINDOW_TASK (laneOf t)))) →
      ∃ u, exec (.waymark t n) s = .next u ∧ u.triad t =
          { s.triad t with pc := (s.triad t).pc + 4, instret := (s.triad t).instret + 1, run := .running } ∧
        u.window (laneOf t) = { s.window (laneOf t) with count := (s.window (laneOf t)).count + 1, lastAt := some s.time } ∧
        u.regs = s.regs ∧ u.fcu = s.fcu ∧ ∀ a, u.byte a = s.byte a)

/-! ## Exceptions -/

/-- ERET restores what the entry saved (R112): STATUS from EPS, with EXL 0 when it returns to Footpath, and the PC from EPC; a return to a higher
level than the one it runs at raises RETURN_ELEVATION; at Footpath it is privileged. -/
def Sys2Proof.Statements.EretReturns : Prop :=
  ∀ (s : State) (t : TriadId), Ready s t →
    let x := s.triad t
    (x.level ≠ 0 → x.eps.toNat % 4 ≤ x.level → ∃ u, exec (.eret t) s = .next u ∧ OnlyTriad s u t ∧ u.triad t =
        { x with status := if x.eps.toNat % 4 = 0 then x.eps &&& ~~~ 8 else x.eps, pc := x.epc, instret := x.instret + 1, run := .running }) ∧
    (x.level = 0 → Open s t → ∃ u, exec (.eret t) s = .next u ∧ Stopped s u t 0x02 (encC 5 0 0)) ∧
    (t.val = 0 → x.level = 1 → 2 ≤ x.eps.toNat % 4 → ∃ u, exec (.eret t) s = .next u ∧
      (u.triad t).epc = x.epc ∧ (u.triad t).eps = x.eps ∧ (u.triad t).ecause = 0x115 ∧ (u.triad t).eval = x.pc ∧
      (u.triad t).status.toNat % 4 = 2 ∧ (u.triad t).exl = true)

/-- A long-vector exception tied to no element (R108, R110, R147): entered as any other, with ECAUSE.VEC set and VXSTAT.ELEM_VALID 0. -/
def Sys2Proof.Statements.VecEntered (s u : State) (t : TriadId) (code : Nat) (val : DWord) : Prop :=
  let x := s.triad t
  let y := u.triad t
  y.epc = x.pc ∧ y.eps = x.status ∧ y.eval = val ∧ y.ecause = BitVec.ofNat 64 (0x1000 + x.level * 2 ^ 8 + code) ∧
    y.vxstat.getLsbD 6 = false ∧ y.level = (if x.level = 0 then 1 else 2) ∧ y.exl = true ∧ y.instret = x.instret ∧ y.z = x.z ∧ y.p = x.p ∧ y.za = x.za ∧
    (∀ r, u.gx t r = s.gx t r) ∧ ∀ a, u.byte a = s.byte a

/-- SRVC, BREAK and an undefined encoding enter their exception (R76, R105, R108, R110): EPC, EPS, EVAL and ECAUSE as saved, STATUS with the target
level and EXL 1, the PC at the vector; the instruction does not retire. In the majors of long vectors ECAUSE.VEC is set and VXSTAT.ELEM_VALID is 0
(R147). A word that spells an instruction is none of these, and nothing happens (log 7). -/
def Sys2Proof.Statements.ExceptionsAreEntered : Prop :=
  ∀ (s : State) (t : TriadId) (n : N12) (w : Word), Ready s t → Open s t →
    (∀ p ∈ [(Instr.srvc t n, 0x10, n.setWidth 64), (.breakCmd t, 0x11, (0 : DWord))], ∃ u, exec p.1 s = .next u ∧
      Entered s u t p.2.1 (if (s.triad t).level = 0 then 1 else 2) p.2.2 (s.triad t).pc) ∧
    (definedWord t w = false → w.toNat < 0x38 * 2 ^ 26 → ∃ u, exec (.undefinedEncoding t w) s = .next u ∧
      Entered s u t 0x01 (if (s.triad t).level = 0 then 1 else 2) (w.setWidth 64) (s.triad t).pc) ∧
    (definedWord t w = false → 0x38 * 2 ^ 26 ≤ w.toNat → ∃ u, exec (.undefinedEncoding t w) s = .next u ∧
      Sys2Proof.Statements.VecEntered s u t 0x01 (w.setWidth 64)) ∧
    (definedWord t w = true → Ignored s (.undefinedEncoding t w))

/-- A synchronous exception while EXL is 1 is a nested fault (R111): the triad halts with EPC, EPS, ECAUSE and EVAL as they were, and FC 19 is raised
with the second cause and the PC in its detail. -/
def Sys2Proof.Statements.NestedFaultsHalt : Prop :=
  ∀ (s : State) (t : TriadId) (n : N12) (w : Word), Ready s t → t.val = 0 → (s.triad t).exl = true → definedWord t w = false → w.toNat < 0x38 * 2 ^ 26 →
    ∀ p ∈ [(Instr.srvc t n, 0x10, n.setWidth 64), (.breakCmd t, 0x11, (0 : DWord)), (.undefinedEncoding t w, 0x01, w.setWidth 64)], ∃ u, exec p.1 s = .next u ∧ u.triad t = { s.triad t with run := .nested } ∧
      u.pair 19 = { s.pair 19 with todo := (s.pair 19).todo ++ [s.triadRaise 0 p.2.1 (s.triad t).pc p.2.2] }

/-- An asynchronous cause at a boundary (R106, R107, R109, R110): the interrupt that goes next is entered with its event in EVAL and its priority in
ECAUSE; without one, a pending CHECK_FAILURE, then a pending TASK_BUDGET_OVERRUN, is entered at Carriageway. -/
def Sys2Proof.Statements.AsynchronousCausesAreTaken : Prop :=
  ∀ (s : State) (t : TriadId), (s.triad t).takes = true → s.haltDue t = false → (s.triad t).exl = false →
    let x := s.triad t
    (∀ l e q, s.nextInterrupt t = some (l, e, q) → ∃ u, exec (.interruptTaken t) s = .next u ∧ OnlyTriad s u t ∧
      u.triad t = { x with epc := x.pc, eps := x.status, eval := BitVec.ofNat 64 e,
                           ecause := BitVec.ofNat 64 (q * 2 ^ 16 + x.level * 2 ^ 8 + 0x20),
                           status := BitVec.ofNat 64 (x.status.toNat / 2 ^ 8 % 2 ^ 4 * 2 ^ 8 + 2 ^ 3 + l),
                           pc := BitVec.ofNat 64 (x.evbase.toNat / 2 ^ 12 * 2 ^ 12 + if l = 1 then 0x200 else 0x600), run := .running }) ∧
    (t.val ≠ 0 → x.asyncOpen = true → s.readyAt t 2 = none →
      (∀ v, x.check = some v → ∃ u, exec (.asyncCauseTaken t) s = .next u ∧ (u.triad t).check = none ∧ (u.triad t).epc = x.pc ∧
        (u.triad t).eval = BitVec.ofNat 64 v ∧ (u.triad t).ecause = BitVec.ofNat 64 (x.level * 2 ^ 8 + 0x22) ∧ (u.triad t).level = 1 ∧
        (u.triad t).pc = BitVec.ofNat 64 (x.evbase.toNat / 2 ^ 12 * 2 ^ 12 + 0x200)) ∧
      (x.check = none → x.overrun = true → ∃ u, exec (.asyncCauseTaken t) s = .next u ∧ (u.triad t).overrun = false ∧
        (u.triad t).epc = x.pc ∧ (u.triad t).ecause = BitVec.ofNat 64 (x.level * 2 ^ 8 + 0x21) ∧ (u.triad t).level = 1))

/-- A resynchronisation that completes brings the odd core back, unless the two cores it copies from disagree (R157); one that misses its time holds it out and raises the hold-out channel (R158,
R159, R175). -/
def Sys2Proof.Statements.ResynchronisationEnds : Prop :=
  ∀ (s : State) (t : TriadId), (s.triad t).mode = 1 →
    ((∀ k ∈ (s.triad t).upset, k = (s.triad t).odd) → ∃ u, exec (.resyncComplete t) s = .next u ∧ OnlyTriad s u t ∧ u.triad t =
      { s.triad t with mode := 0, upset := [], joinedAt := Sparse.put (s.triad t).joinedAt (s.triad t).odd (s.time + 1) }) ∧
    ∃ u, exec (.coreHoldOut t) s = .next u ∧ u.triad t = { s.triad t with mode := 2 } ∧ (∀ a, u.byte a = s.byte a) ∧
      (u.pair (if t.val = 0 then 17 else 33 + 8 * laneOf t)).todo.length =
        (s.pair (if t.val = 0 then 17 else 33 + 8 * laneOf t)).todo.length + 1

/-- The block instructions (R92 to R94): their registers, a step, the end, and the registers refused. -/
def Obligations.BlockInstructions : Prop := Sys2Proof.Statements.BlockInstructionsMoveOneStep ∧ Sys2Proof.Statements.BlockInstructionsEndAndRefuse

/-- MFC and MTC (R71 to R74, R85, R101, R104): what each control register reads, what a write leaves, and who may. -/
def Obligations.ControlRegisterMoves : Prop := Sys2Proof.Statements.MfcReadsControlRegisters ∧ Sys2Proof.Statements.MtcWritesControlRegisters

/-- SYNC.C, SYNC.I, SYNC.M, WAIT and WAYMARK (R77, R81, R85 to R87, R95, R101, R338). -/
def Obligations.BarriersApplyAndWait : Prop := Sys2Proof.Statements.SyncAppliesPendingValues ∧ Sys2Proof.Statements.BarriersWaitsAndWaymarks

/-- Synchronous exceptions are entered (R110), or nest and halt the triad (R111). -/
def Obligations.ExceptionsAreEnteredOrNest : Prop := Sys2Proof.Statements.ExceptionsAreEntered ∧ Sys2Proof.Statements.NestedFaultsHalt

/-- ERET (R112), the asynchronous causes (R106 to R110) and the ends of a resynchronisation (R158, R159, R175). -/
def Obligations.ReturnsCausesAndResynchronisation : Prop := Sys2Proof.Statements.EretReturns ∧ Sys2Proof.Statements.AsynchronousCausesAreTaken ∧ Sys2Proof.Statements.ResynchronisationEnds

/-! ## Long vectors -/

/-- The element-wise instructions (R129, R130, R134): the types each permits, whether its vs2 field names another register or nothing (0), is 0 (1) or
is an amount (2), and the value of an element from a, b and d; `e` is the element's width. -/
def Sys2Proof.Statements.elementTable (c : VCfg) (t : TriadId) (o : VR) : List (Instr × List (BitVec 2) × Nat × (Nat → Nat → Nat → Nat)) :=
  let e := tyBits o.ty
  [(.vadd t o, [0, 1, 2], 0, fun (a b _ : Nat) => unsgn e (sgn e a + sgn e b)), (.vsub t o, [0, 1, 2], 0, fun (a b _ : Nat) => unsgn e (sgn e a - sgn e b)),
   (.vsadd t o, [0, 1, 2], 0, fun (a b _ : Nat) => (satE e (sgn e a + sgn e b)).1), (.vssub t o, [0, 1, 2], 0, fun (a b _ : Nat) => (satE e (sgn e a - sgn e b)).1),
   (.vmul t o, [0, 1, 2], 0, fun (a b _ : Nat) => if o.ty = 2 then (satE 32 (roundShift (qrndFrm c.qrnd) (sgn 32 a * sgn 32 b) 31)).1
     else unsgn e (sgn e a * sgn e b)),
   (.vmulh t o, [0, 1], 0, fun (a b _ : Nat) => unsgn e (sgn e a * sgn e b / (2 ^ e : Int))),
   (.vmin t o, [0, 1, 2], 0, fun (a b _ : Nat) => unsgn e (min (sgn e a) (sgn e b))), (.vmax t o, [0, 1, 2], 0, fun (a b _ : Nat) => unsgn e (max (sgn e a) (sgn e b))),
   (.vabs t o, [0, 1, 2], 1, fun (a _ _ : Nat) => (satE e |sgn e a|).1), (.vneg t o, [0, 1, 2], 1, fun (a _ _ : Nat) => (satE e (-(sgn e a))).1)] ++
  [(.vand t o, [0, 1, 2], 0, fun (a b _ : Nat) => Nat.land a b), (.vor t o, [0, 1, 2], 0, fun (a b _ : Nat) => Nat.lor a b),
   (.vxor t o, [0, 1, 2], 0, fun (a b _ : Nat) => Nat.xor a b), (.vnot t o, [0, 1, 2], 1, fun (a _ _ : Nat) => 2 ^ e - 1 - a),
   (.vshl t o, [0, 1, 2], 0, fun (a b _ : Nat) => a * 2 ^ (b % e) % 2 ^ e), (.vshr t o, [0, 1, 2], 0, fun (a b _ : Nat) => a / 2 ^ (b % e)),
   (.vsra t o, [0, 1, 2], 0, fun (a b _ : Nat) => unsgn e (sgn e a / (2 ^ (b % e) : Int))),
   (.vshli t o, [0, 1, 2], 2, fun (a b _ : Nat) => a * 2 ^ b % 2 ^ e), (.vshri t o, [0, 1, 2], 2, fun (a b _ : Nat) => a / 2 ^ b),
   (.vsrai t o, [0, 1, 2], 2, fun (a b _ : Nat) => unsgn e (sgn e a / (2 ^ b : Int))), (.vmov t o, [0, 1, 2, 3], 0, fun (a _ _ : Nat) => a)] ++
  [(.vfadd t o, [3], 0, fun (a b _ : Nat) => (fpAdd c.fp a b).1), (.vfsub t o, [3], 0, fun (a b _ : Nat) => (fpSub c.fp a b).1),
   (.vfmul t o, [3], 0, fun (a b _ : Nat) => (fpMul c.fp a b).1), (.vfma t o, [3], 0, fun (a b d : Nat) => (fpFma c.fp false d a b).1),
   (.vfms t o, [3], 0, fun (a b d : Nat) => (fpFma c.fp true d a b).1), (.vfmin t o, [3], 0, fun (a b _ : Nat) => (fpPick c.fp false a b).1),
   (.vfmax t o, [3], 0, fun (a b _ : Nat) => (fpPick c.fp true a b).1), (.vfabs t o, [3], 1, fun (a _ _ : Nat) => a % 2 ^ 31),
   (.vfneg t o, [3], 1, fun (a _ _ : Nat) => Nat.xor a (2 ^ 31)), (.vcvtfq t o, [3], 0, fun (a _ _ : Nat) => (fpToFixed c.fp (qrndFrm c.qrnd) 31 true a).1),
   (.vcvtqf t o, [3], 0, fun (a _ _ : Nat) => (fpOfFixed c.fp 31 a).1),
   (.vcvtfi t o, [3], 0, fun (a _ _ : Nat) => (fpToFixed c.fp c.fp.frm 0 Config.cvtNanInvalid a).1),
   (.vcvtif t o, [3], 0, fun (a _ _ : Nat) => (fpOfFixed c.fp 0 a).1)]

/-- Every element-wise instruction writes its value to each active element of z[vd]; an inactive one keeps its value, or is 0 with Z = 1. Nothing
else changes but VXSTAT (R125, R138, R139). -/
def Sys2Proof.Statements.ElementwiseInstructionsWriteActiveElements : Prop :=
  ∀ (s : State) (t : TriadId) (o : VR), VecReady s t →
    let x := s.triad t
    let c := x.vcfgNow
    let e := tyBits o.ty
    ∀ p ∈ Sys2Proof.Statements.elementTable c t o, o.ty ∈ p.2.1 → (p.2.2.1 = 1 → o.vs2 = 0) → (p.2.2.1 = 2 → o.vs2.toNat < e) →
      ∃ u, exec p.1 s = .next u ∧ WroteZ s u t o.vd e fun i =>
        if x.active c o i
        then p.2.2.2 (elemAt e (x.zv o.vs1) i) (if p.2.2.1 = 2 then o.vs2.toNat else elemAt e (x.zv o.vs2) i) (elemAt e (x.zv o.vd) i) % 2 ^ e
        else if o.z then 0 else elemAt e (x.zv o.vd) i

/-- Saturation is sticky (R129): VSADD and VSSUB set VXSTAT.SAT when an active element was clipped, and change no other bit of VXSTAT. -/
def Sys2Proof.Statements.SaturationIsSticky : Prop :=
  ∀ (s : State) (t : TriadId) (o : VR), VecReady s t → o.ty ≠ 3 →
    let x := s.triad t
    let e := tyBits o.ty
    ∀ p ∈ [(Instr.vsadd t o, fun (a b : Int) => a + b), (.vssub t o, fun (a b : Int) => a - b)],
      let clipped := (List.range (tyElems o.ty)).any fun i => x.active x.vcfgNow o i &&
        (let v := p.2 (sgn e (elemAt e (x.zv o.vs1) i)) (sgn e (elemAt e (x.zv o.vs2) i))
         decide (v < -(2 ^ (e - 1) : Int)) || decide ((2 ^ (e - 1) : Int) ≤ v))
      ∃ u, exec p.1 s = .next u ∧ (u.triad t).vxstat = if clipped then x.vxstat ||| 0x4000 else x.vxstat

/-- The permutes and moves into z (R135): the types each permits, which fields must be 0, which elements it writes, and where element `i` comes
from. -/
def Sys2Proof.Statements.permuteTable (s : State) (t : TriadId) (o : VR) : List (Instr × List (BitVec 2) × (Nat → Nat)) :=
  let x := s.triad t
  let e := tyBits o.ty
  let n := tyElems o.ty
  let a := fun i => elemAt e (x.zv o.vs1) i
  let b := fun i => elemAt e (x.zv o.vs2) i
  [(.vperm t o, [0, 1, 2, 3], fun (i : Nat) => a (b i % n)), (.vrev t o, [0, 1, 2, 3], fun (i : Nat) => a (n - 1 - i)),
   (.vslide t o, [0, 1, 2, 3], fun (i : Nat) => if i + 1 < n then a (i + 1) else b 0),
   (.vweavl t o, [0, 1, 2, 3], fun (i : Nat) => if i % 2 = 0 then a (i / 2) else b (i / 2)),
   (.vweavh t o, [0, 1, 2, 3], fun (i : Nat) => if i % 2 = 0 then a (n / 2 + i / 2) else b (n / 2 + i / 2)),
   (.vsplite t o, [0, 1, 2, 3], fun (i : Nat) => if i < n / 2 then a (2 * i) else b (2 * (i - n / 2))),
   (.vsplito t o, [0, 1, 2, 3], fun (i : Nat) => if i < n / 2 then a (2 * i + 1) else b (2 * (i - n / 2) + 1)),
   (.vwidl t o, [1], fun (i : Nat) => unsgn 32 (sgn 16 (elemAt 16 (x.zv o.vs1) i))), (.vwidh t o, [1], fun (i : Nat) => unsgn 32 (sgn 16 (elemAt 16 (x.zv o.vs1) (n + i)))),
   (.vnarr t o, [0], fun (i : Nat) => (satE 16 (sgn 32 (if i < n / 2 then elemAt 32 (x.zv o.vs1) i else elemAt 32 (x.zv o.vs2) (i - n / 2)))).1),
   (.vsplat t o, [0, 1, 2, 3], fun (_ : Nat) => (s.gx t o.vs1).toNat)]

/-- Every permute writes each active element of z[vd] from its source element, VSEL and VINS the elements they name; nothing else changes but VXSTAT
(R135, R138, R139). -/
def Sys2Proof.Statements.PermutesMoveElements : Prop :=
  ∀ (s : State) (t : TriadId) (o : VR), VecReady s t →
    let x := s.triad t
    let c := x.vcfgNow
    let e := tyBits o.ty
    (∀ p ∈ Sys2Proof.Statements.permuteTable s t o, o.ty ∈ p.2.1 →
      ∃ u, exec p.1 s = .next u ∧ WroteZ s u t o.vd e fun i =>
        if x.active c o i then p.2.2 i % 2 ^ e else if o.z then 0 else elemAt e (x.zv o.vd) i) ∧
    (o.z = false → ∃ u, exec (.vsel t o) s = .next u ∧ WroteZ s u t o.vd e fun i =>
      if i < c.n o.ty then (if (x.pv o.pg.toNat).getLsbD i then elemAt e (x.zv o.vs1) i else elemAt e (x.zv o.vs2) i)
      else elemAt e (x.zv o.vd) i) ∧
    (o.pg = 0 → o.z = false → ∃ u, exec (.vins t o) s = .next u ∧ WroteZ s u t o.vd e fun i =>
      if i = (s.gx t o.vs2).toNat % tyElems o.ty ∧ x.active c o i = true then (s.gx t o.vs1).toNat % 2 ^ e else elemAt e (x.zv o.vd) i)

/-- The instructions that write a predicate (R122, R134, R135): whether the fields are legal, and bit `i` of the result. -/
def Sys2Proof.Statements.predicateTable (s : State) (t : TriadId) (o : VR) : List (Instr × Prop × (Nat → Bool)) :=
  let x := s.triad t
  let c := x.vcfgNow
  let e := tyBits o.ty
  let a := fun i => elemAt e (x.zv o.vs1) i
  let b := fun i => elemAt e (x.zv o.vs2) i
  let on := fun i => decide (i < tyElems o.ty) && x.active c o i
  let cmp := fun (r : Int → Int → Bool) (i : Nat) => if o.ty = 3 then (fpCompare c.fp r (a i) (b i)).1 else r (sgn e (a i)) (sgn e (b i))
  let two := o.ty = 0 ∧ o.pg = 0 ∧ o.vs1.toNat < 8 ∧ o.vs2.toNat < 8
  let p := fun i => (x.pv o.vs1.toNat).getLsbD i
  let q := fun i => (x.pv o.vs2.toNat).getLsbD i
  [(.vcmpeq t o, True, fun (i : Nat) => on i && cmp (fun (u v : Int) => u = v) i), (.vcmpne t o, True, fun (i : Nat) => on i && !cmp (fun (u v : Int) => u = v) i),
   (.vcmplt t o, True, fun (i : Nat) => on i && cmp (fun (u v : Int) => u < v) i), (.vcmple t o, True, fun (i : Nat) => on i && cmp (fun (u v : Int) => u ≤ v) i),
   (.vcmpltu t o, o.ty = 0 ∨ o.ty = 1, fun (i : Nat) => on i && decide (a i < b i)), (.vcmpleu t o, o.ty = 0 ∨ o.ty = 1, fun (i : Nat) => on i && decide (a i ≤ b i)),
   (.pand t o, two, fun (i : Nat) => p i && q i), (.por t o, two, fun (i : Nat) => p i || q i), (.pxor t o, two, fun (i : Nat) => p i != q i), (.pandn t o, two, fun (i : Nat) => p i && !q i),
   (.plimit t o, o.pg = 0, fun (i : Nat) => decide (i < tyElems o.ty) && decide (i < c.n o.ty) && decide ((s.gx t o.vs1).toNat + i < (s.gx t o.vs2).toNat)),
   (.ffread t o, True, fun (i : Nat) => on i && x.ffm.getLsbD i)]

/-- Comparisons, predicate logic, PLIMIT and FFREAD write both copies of p[vd]; GMOVP writes a predicate or FFM from g, FFARM writes FFM, and VZERO
clears every vector register (R122, R124, R134, R135, R139). -/
def Sys2Proof.Statements.PredicateInstructionsWritePredicates : Prop :=
  ∀ (s : State) (t : TriadId) (o : VR), VecReady s t →
    let x := s.triad t
    (o.vd.toNat < 8 → ∀ p ∈ Sys2Proof.Statements.predicateTable s t o, p.2.1 →
      ∃ u, exec p.1 s = .next u ∧ WroteP s u t o.vd p.2.2) ∧
    (saveFields o = true → o.vd.toNat < 8 → ∃ u, exec (.gmovp t o) s = .next u ∧
      WroteP s u t o.vd fun i => (s.gx t o.vs1).getLsbD i) ∧
    (saveFields o = true → o.vd = 8 → ∃ u, exec (.gmovp t o) s = .next u ∧ VecOnly s u t ∧ (u.triad t).ffm = s.gx t o.vs1 ∧
      (u.triad t).ffm2 = s.gx t o.vs1 ∧ (u.triad t).z = x.z ∧ (u.triad t).p = x.p) ∧
    (o.vd = 0 → o.vs2 = 0 → o.pg = 0 → o.vs1.toNat < 8 → ∃ u, exec (.ffarm t o) s = .next u ∧ VecOnly s u t ∧
      (u.triad t).ffm = x.pv o.vs1.toNat ∧ (u.triad t).ffm2 = x.pv o.vs1.toNat ∧ (u.triad t).z = x.z ∧ (u.triad t).p = x.p) ∧
    (saveFields o = true → ∃ u, exec (.vzero t o) s = .next u ∧ VecOnly s u t ∧ (u.triad t).q = x.q ∧
      (u.triad t).vxstat = x.vxstat ∧ (∀ r, (u.triad t).zv r = 0 ∧ (u.triad t).zav r = 0) ∧ (∀ r, 1 ≤ r → (u.triad t).pv r = 0) ∧
      (u.triad t).ffm = BitVec.allOnes 64)

/-- The vector instructions with a scalar result write g[rd] and nothing else but VXSTAT (R134, R135): VEXTR an element, PTALLY how many bits are set
in both predicates, PMOVG a predicate or FFM, VRSUM, VRMIN and VRMAX the tree over the active elements. -/
def Obligations.VectorToScalarResults : Prop :=
  ∀ (s : State) (t : TriadId) (o : VR), VecReady s t →
    let x := s.triad t
    let c := x.vcfgNow
    let e := tyBits o.ty
    let n := tyElems o.ty
    (o.pg = 0 → o.z = false → ∃ u, exec (.vextr t o) s = .next u ∧
      WroteG s u t o.vd (toG o.ty (elemAt e (x.zv o.vs1) ((s.gx t o.vs2).toNat % n)))) ∧
    (o.vs1.toNat < 8 → ∃ u, exec (.ptally t o) s = .next u ∧ WroteG s u t o.vd
      (BitVec.ofNat 64 ((List.range n).filter fun i => x.active c o i && (x.pv o.vs1.toNat).getLsbD i).length)) ∧
    (saveFields o = true → o.vs1.toNat < 8 → ∃ u, exec (.pmovg t o) s = .next u ∧ WroteG s u t o.vd (x.pv o.vs1.toNat)) ∧
    (saveFields o = true → o.vs1 = 8 → ∃ u, exec (.pmovg t o) s = .next u ∧ WroteG s u t o.vd x.ffm) ∧
    ∀ p ∈ [(Instr.vrsum t o, 0x0D), (.vrmin t o, 0x0E), (.vrmax t o, 0x0F)],
      let r := reduceAll p.2 c o.ty n fun i => if x.active c o i then elemAt e (x.zv o.vs1) i else reduceIdle p.2 o.ty
      ∃ u, exec p.1 s = .next u ∧ OnlyTriad s u t ∧ (∀ g, u.gx t g = if g = o.vd ∧ o.vd ≠ 0 then toG o.ty r.1 else s.gx t g) ∧
        u.triad t = { x with g := (u.triad t).g, vxstat := x.vxstat ||| r.2.bits, pc := x.pc + 4, instret := x.instret + 1, run := .running }

/-- The accumulators (R123, R134, R135): VMAC and VMSC add or subtract products in 48 bits, saturating; VZACLR clears; VZARD rounds and saturates to
32 bits; VZAWR extends; the save set moves za whole. -/
def Obligations.AccumulatorsAccumulate : Prop :=
  ∀ (s : State) (t : TriadId) (o : VR), VecReady s t →
    let x := s.triad t
    let c := x.vcfgNow
    let act := x.active c o
    let on := fun k => if o.ty = 0 then act (2 * k) || act (2 * k + 1) else act k
    let old := fun (r : Reg) k => sgn 48 (elemAt 48 (x.zav r) k)
    let clear := o.vs2 = 0 ∧ o.z = false
    (∀ p ∈ [(Instr.vmac t o, (1 : Int)), (.vmsc t o, -1)], (o.ty = 0 ∨ o.ty = 2) → o.z = false → o.vd.toNat < 4 →
      ∃ u, exec p.1 s = .next u ∧ WroteZa s u t o.vd fun k =>
        if on k then (satE 48 (old o.vd k + p.2 * macTerm c o.ty act (x.zv o.vs1) (x.zv o.vs2) k)).1 else elemAt 48 (x.zav o.vd) k) ∧
    (o.ty = 0 → o.vs1 = 0 → o.pg = 0 → clear → o.vd.toNat < 4 →
      ∃ u, exec (.vzaclr t o) s = .next u ∧ WroteZa s u t o.vd fun _ => 0) ∧
    ((o.ty = 1 ∨ o.ty = 2) → clear → o.vd.toNat < 4 → ∃ u, exec (.vzawr t o) s = .next u ∧
      WroteZa s u t o.vd fun k => if act k then unsgn 48 (sgn 32 (elemAt 32 (x.zv o.vs1) k)) else elemAt 48 (x.zav o.vd) k) ∧
    ((o.ty = 1 ∨ o.ty = 2) → o.vs1.toNat < 4 → ∃ u, exec (.vzard t o) s = .next u ∧ WroteZ s u t o.vd 32 fun k =>
      if act k then (satE 32 (roundShift (qrndFrm c.qrnd) (old o.vs1 k) o.vs2.toNat)).1 else if o.z then 0 else elemAt 32 (x.zv o.vd) k) ∧
    (saveFields o = true → o.vs1.toNat < 4 →
      (∃ u, exec (.vzamvl t o) s = .next u ∧ WroteZ s u t o.vd 32 fun k => elemAt 48 (x.zav o.vs1) k % 2 ^ 32) ∧
      ∃ u, exec (.vzamvh t o) s = .next u ∧ WroteZ s u t o.vd 32 fun k => unsgn 32 (sgn 16 (elemAt 48 (x.zav o.vs1) k / 2 ^ 32))) ∧
    (saveFields o = true → o.vd.toNat < 4 → ∃ u, exec (.vzars t o) s = .next u ∧ WroteZa s u t o.vd fun k =>
      elemAt 32 (x.zv o.vs2) k % 2 ^ 16 * 2 ^ 32 + elemAt 32 (x.zv o.vs1) k)

/-- The long-vector instructions outside the save set whose fields any type and register permit, with their words (R133). -/
def Sys2Proof.Statements.plainVectors (t : TriadId) (o : VR) : List (Instr × DWord) :=
  [(.vadd t o, encVR 0x38 0x00 o), (.vsub t o, encVR 0x38 0x01 o), (.vsadd t o, encVR 0x38 0x02 o), (.vand t o, encVR 0x38 0x0A o),
   (.vshl t o, encVR 0x38 0x0E o), (.vsplat t o, encVR 0x3B 0x00 o), (.vperm t o, encVR 0x3B 0x03 o), (.vrev t o, encVR 0x3B 0x04 o),
   (.vslide t o, encVR 0x3B 0x05 o), (.vrsum t o, encVR 0x3B 0x0D o)]

/-- Where a long-vector instruction does nothing of its own (R125, R132, R133, R147): on the supervisor triad it is illegal; below Roadbed an
invalid VCFG raises VECTOR_CONFIG with VCFG in EVAL; ECAUSE.VEC is set and VXSTAT.ELEM_VALID is 0. -/
def Obligations.VectorInstructionsRefuse : Prop :=
  ∀ (s : State) (t : TriadId) (o : VR), Ready s t → Open s t → o.ty ≠ 3 → ∀ p ∈ Sys2Proof.Statements.plainVectors t o,
    (t.val = 0 → ∃ u, exec p.1 s = .next u ∧ Sys2Proof.Statements.VecEntered s u t 0x01 p.2) ∧
    (t.val ≠ 0 → (vcfgOf (s.triad t).vcfg).bad = true → ∃ u, exec p.1 s = .next u ∧ Sys2Proof.Statements.VecEntered s u t 0x18 (s.triad t).vcfg)

/-! ## Vector memory -/

/-- The elements a vector memory instruction accesses reach plain memory, aligned (R140 to R142), and no cause is ready that would abandon it
(R148). -/
def Sys2Proof.Statements.VecPlain (s : State) (t : TriadId) (m : VMode) (o : VM) (store : Bool) : Prop :=
  let v := s.vectorIssuer t
  s.nextInterrupt t = none ∧ (s.triad t).check = none ∧ (s.triad t).overrun = false ∧
  ∀ i a, (i, a) ∈ s.vmElems t (s.triad t).vcfgNow m o → a % vmBytes m o = 0 ∧ a < 2 ^ 40 ∧
    PlainAccess s v a (vmBytes m o) (if store then .store else .load) store

/-- A vector load writes each accessed element of z[vt] with its little-endian value, keeps every other element, and changes no byte of memory; mode P
adds 4 × VL to the base (R139, R140, R143, R149). -/
def Sys2Proof.Statements.VectorLoadsReadElements : Prop :=
  ∀ (s : State) (t : TriadId) (o : VM), VecReady s t →
    ∀ p ∈ [(Instr.vld t o, VMode.c), (.vldP t o, .p), (.vldS t o, .s), (.vldX t o, .x), (.vldR t o, .r)],
      vmLegal p.2 false o = true → Sys2Proof.Statements.VecPlain s t p.2 o false →
      let x := s.triad t
      let n := vmBytes p.2 o
      let els := s.vmElems t x.vcfgNow p.2 o
      ∃ u, exec p.1 s = .next u ∧ OnlyTriad s u t ∧
        (∀ i a, (i, a) ∈ els → elemAt (8 * n) ((u.triad t).zv o.vt) i = s.le a n) ∧
        (∀ i < 128 / n, (∀ a, (i, a) ∉ els) → elemAt (8 * n) ((u.triad t).zv o.vt) i = elemAt (8 * n) (x.zv o.vt) i) ∧
        (∀ r, r ≠ o.vt → (u.triad t).zv r = x.zv r) ∧ (u.triad t).ffm = x.ffm ∧ (u.triad t).pc = x.pc + 4 ∧
        ∀ r, u.gx t r = if p.2 = .p ∧ r = o.gb ∧ r ≠ 0 then s.gx t r + BitVec.ofNat 64 (4 * x.vcfgNow.vl) else s.gx t r

/-- A vector store writes the bytes of each accessed element at its address, the highest element last where addresses meet, and no other byte
(R139, R140, R143, R149). -/
def Sys2Proof.Statements.VectorStoresWriteElements : Prop :=
  ∀ (s : State) (t : TriadId) (o : VM), VecReady s t →
    ∀ p ∈ [(Instr.vst t o, VMode.c), (.vstP t o, .p), (.vstS t o, .s), (.vstX t o, .x), (.vstR t o, .r)],
      vmLegal p.2 true o = true → Sys2Proof.Statements.VecPlain s t p.2 o true →
      let x := s.triad t
      let n := vmBytes p.2 o
      let els := s.vmElems t x.vcfgNow p.2 o
      ∃ u, exec p.1 s = .next u ∧
        (∀ i a, (i, a) ∈ els → (∀ j, i < j → (j, a) ∉ els) → u.le a n = elemAt (8 * n) (x.zv o.vt) i) ∧
        (∀ b, (∀ i a, (i, a) ∈ els → b < a ∨ a + n ≤ b) → u.byte b = s.byte b) ∧
        (∀ r, (u.triad t).zv r = x.zv r) ∧ (u.triad t).pc = x.pc + 4 ∧
        ∀ r, u.gx t r = if p.2 = .p ∧ r = o.gb ∧ r ≠ 0 then s.gx t r + BitVec.ofNat 64 (4 * x.vcfgNow.vl) else s.gx t r

/-! ## Short vectors -/

/-- The short permutes and moves into q (R136): the function code, the types each permits, and where element `i` comes from. -/
def Sys2Proof.Statements.shortPermuteTable (s : State) (t : TriadId) (o : VR) : List (Nat × List (BitVec 2) × (Nat → Nat)) :=
  let x := s.triad t
  let e := tyBits o.ty
  let n := qElems o.ty
  let a := fun i => elemAt e (x.qv o.vs1) i
  let b := fun i => elemAt e (x.qv o.vs2) i
  let g := (s.gx t o.vs1).toNat
  [(0x00, [0, 1, 2, 3], fun (_ : Nat) => g),
   (0x02, [0, 1, 2, 3], fun (i : Nat) => if i = (s.gx t o.vs2).toNat % n then g else elemAt e (x.qv o.vd) i),
   (0x03, [0, 1, 2, 3], fun (i : Nat) => a (b i % n)), (0x04, [0, 1, 2, 3], fun (i : Nat) => a (n - 1 - i)),
   (0x05, [0, 1, 2, 3], fun (i : Nat) => if i + 1 < n then a (i + 1) else b 0),
   (0x06, [0, 1, 2, 3], fun (i : Nat) => if i % 2 = 0 then a (i / 2) else b (i / 2)),
   (0x07, [0, 1, 2, 3], fun (i : Nat) => if i % 2 = 0 then a (n / 2 + i / 2) else b (n / 2 + i / 2)),
   (0x08, [0, 1, 2, 3], fun (i : Nat) => if i < n / 2 then a (2 * i) else b (2 * (i - n / 2))),
   (0x09, [0, 1, 2, 3], fun (i : Nat) => if i < n / 2 then a (2 * i + 1) else b (2 * (i - n / 2) + 1)),
   (0x0A, [1], fun (i : Nat) => unsgn 32 (sgn 16 (elemAt 16 (x.qv o.vs1) i))),
   (0x0B, [1], fun (i : Nat) => unsgn 32 (sgn 16 (elemAt 16 (x.qv o.vs1) (n + i)))),
   (0x0C, [0], fun (i : Nat) => (satE 16 (sgn 32 (if i < n / 2 then elemAt 32 (x.qv o.vs1) i else elemAt 32 (x.qv o.vs2) (i - n / 2)))).1)]

/-- The short-vector element operations (R136): the function codes of majors 0x30 and 0x31, which are those of 0x38 and 0x39, with what
`elementTable` says of the operation. -/
def Sys2Proof.Statements.shortElementTable (c : VCfg) (t : TriadId) (o : VR) (f : BitVec 5) :
    List (Instr × Nat × List (BitVec 2) × Nat × (Nat → Nat → Nat → Nat)) :=
  (List.range 20 ++ [0x15]).zipWith (fun k (p : Instr × List (BitVec 2) × Nat × (Nat → Nat → Nat → Nat)) => (Instr.shortVectorIntegerOp t ⟨f, o⟩, k, p.2)) ((Sys2Proof.Statements.elementTable c t o).take 21) ++
    (List.range 13).zipWith (fun k (p : Instr × List (BitVec 2) × Nat × (Nat → Nat → Nat → Nat)) => (Instr.shortVectorFp32Op t ⟨f, o⟩, k, p.2)) ((Sys2Proof.Statements.elementTable c t o).drop 21)

/-- The short-vector comparisons (R136): the function code, the types, and what is compared; equality by itself or its negation. -/
def Sys2Proof.Statements.shortCompareTable (c : VCfg) (o : VR) : List (Nat × List (BitVec 2) × (Nat → Nat → Bool)) :=
  let e := tyBits o.ty
  let cmp := fun (r : Int → Int → Bool) (a b : Nat) => if o.ty = 3 then (fpCompare c.fp r a b).1 else r (sgn e a) (sgn e b)
  [(0, [0, 1, 2, 3], fun (a b : Nat) => cmp (fun (u v : Int) => u = v) a b), (1, [0, 1, 2, 3], fun (a b : Nat) => !cmp (fun (u v : Int) => u = v) a b),
   (2, [0, 1, 2, 3], fun (a b : Nat) => cmp (fun (u v : Int) => u < v) a b), (3, [0, 1, 2, 3], fun (a b : Nat) => cmp (fun (u v : Int) => u ≤ v) a b),
   (4, [0, 1], fun (a b : Nat) => decide (a < b)), (5, [0, 1], fun (a b : Nat) => decide (a ≤ b))]

/-- Every short-vector operation goes on to a next state with its result (R136), on every type and function code R136 permits: element-wise ones
act on every element of q, comparisons write all ones or all zeros, QBSEL selects bits, the permutes, moves and reductions are those of the long
vectors, and QMOVG and GMOVQ move the half that vs2[0] names. -/
def Sys2Proof.Statements.ShortVectorsActOnEveryElement : Prop :=
  ∀ (s : State) (t : TriadId) (f : BitVec 5) (o : VR), ShortReady s t → o.pg = 0 → o.z = false →
    let x := s.triad t
    let c := x.vcfgNow
    let e := tyBits o.ty
    let n := qElems o.ty
    let a := fun i => elemAt e (x.qv o.vs1) i
    let b := fun i => elemAt e (x.qv o.vs2) i
    let d := fun i => elemAt e (x.qv o.vd) i
    (∀ p ∈ Sys2Proof.Statements.shortElementTable c t o f, f.toNat = p.2.1 → o.ty ∈ p.2.2.1 → (p.2.2.2.1 = 1 → o.vs2 = 0) →
      (p.2.2.2.1 = 2 → o.vs2.toNat < e) → ∃ u, exec p.1 s = .next u ∧
        WroteQ s u t o.vd e fun i => p.2.2.2.2 (a i) (if p.2.2.2.1 = 2 then o.vs2.toNat else b i) (d i) % 2 ^ e) ∧
    (∀ p ∈ Sys2Proof.Statements.shortCompareTable c o, f.toNat = p.1 → o.ty ∈ p.2.1 → ∃ u, exec (.shortVectorCompare t ⟨f, o⟩) s = .next u ∧
      WroteQ s u t o.vd e fun i => if p.2.2 (a i) (b i) = true then 2 ^ e - 1 else 0) ∧
    (∃ u, exec (.qbsel t o) s = .next u ∧ WroteQ s u t o.vd 1 fun i =>
      if elemAt 1 (x.qv o.vd) i = 1 then elemAt 1 (x.qv o.vs1) i else elemAt 1 (x.qv o.vs2) i) ∧
    (∀ p ∈ Sys2Proof.Statements.shortPermuteTable s t o, f.toNat = p.1 → o.ty ∈ p.2.1 → ∃ u, exec (.shortVectorPermute t ⟨f, o⟩) s = .next u ∧
      WroteQ s u t o.vd e fun i => p.2.2 i % 2 ^ e) ∧
    (f = 1 → ∃ u, exec (.shortVectorPermute t ⟨f, o⟩) s = .next u ∧ WroteG s u t o.vd (toG o.ty (a ((s.gx t o.vs2).toNat % n)))) ∧
    (∀ k ∈ [0x0D, 0x0E, 0x0F], f.toNat = k → ∃ u, exec (.shortVectorPermute t ⟨f, o⟩) s = .next u ∧ OnlyTriad s u t ∧
      (∀ g, u.gx t g = if g = o.vd ∧ o.vd ≠ 0 then toG o.ty (reduceAll k c o.ty n a).1 else s.gx t g) ∧
      u.triad t = { x with g := (u.triad t).g, vxstat := x.vxstat ||| (reduceAll k c o.ty n a).2.bits, pc := x.pc + 4,
                           instret := x.instret + 1, run := .running }) ∧
    (∃ u, exec (.qmovg t o) s = .next u ∧ WroteG s u t o.vd (BitVec.ofNat 64 (elemAt 64 (x.qv o.vs1) (o.vs2.toNat % 2)))) ∧
    (∃ u, exec (.gmovq t o) s = .next u ∧ WroteQ s u t o.vd 64 fun i =>
      if i = o.vs2.toNat % 2 then (s.gx t o.vs1).toNat else elemAt 64 (x.qv o.vd) i)

/-- Where a short-vector operation does nothing of its own (R125, R136): a predicate or Z = 1 is illegal. -/
def Sys2Proof.Statements.ShortVectorsRefuse : Prop :=
  ∀ (s : State) (t : TriadId) (f : BitVec 5) (o : VR), Ready s t → Open s t →
    ∀ p ∈ [(Instr.shortVectorIntegerOp t ⟨f, o⟩, encVR 0x30 f.toNat o), (.shortVectorFp32Op t ⟨f, o⟩, encVR 0x31 f.toNat o),
        (.shortVectorCompare t ⟨f, o⟩, encVR 0x32 f.toNat o), (.qbsel t o, encVR 0x32 0x06 o), (.shortVectorPermute t ⟨f, o⟩, encVR 0x33 f.toNat o),
        (.qmovg t o, encVR 0x36 0 o), (.gmovq t o, encVR 0x36 1 o)],
      (o.pg ≠ 0 ∨ o.z = true → ∃ u, exec p.1 s = .next u ∧ Stopped s u t 0x01 p.2)

/-- QLD and QST move 16 aligned bytes; a misaligned address raises MISALIGNED (R137, R142). -/
def Sys2Proof.Statements.ShortVectorMemory : Prop :=
  ∀ (s : State) (t : TriadId) (q rs1 : Reg) (imm : Imm16), ShortReady s t →
    let a := s.eaddr t rs1 imm
    (a % 16 = 0 → PlainAccess s (s.triadIssuer t) a 16 .load false →
      ∃ u, exec (.qld t q rs1 imm) s = .next u ∧ WroteQ s u t q 128 fun _ => s.le a 16) ∧
    (a % 16 = 0 → PlainAccess s (s.triadIssuer t) a 16 .store true →
      ∃ u, exec (.qst t q rs1 imm) s = .next u ∧ u.le a 16 = (s.triad t).qv q ∧ StoredAt s u t a 16 ∧
        u.triad t = { s.triad t with pc := (s.triad t).pc + 4, instret := (s.triad t).instret + 1, run := .running }) ∧
    (a % 16 ≠ 0 → Open s t → ∀ p ∈ [Instr.qld t q rs1 imm, .qst t q rs1 imm],
      ∃ u, exec p s = .next u ∧ Stopped s u t 0x03 (BitVec.ofNat 64 a))

/-- The element-wise vector instructions, and what saturation leaves in VXSTAT. -/
def Obligations.ElementwiseInstructions : Prop := Sys2Proof.Statements.ElementwiseInstructionsWriteActiveElements ∧ Sys2Proof.Statements.SaturationIsSticky

/-- The permutes, the moves into z and the instructions that write predicates. -/
def Obligations.PermutesAndPredicates : Prop := Sys2Proof.Statements.PermutesMoveElements ∧ Sys2Proof.Statements.PredicateInstructionsWritePredicates

/-- Vector loads and stores. -/
def Obligations.VectorMemoryMovesElements : Prop := Sys2Proof.Statements.VectorLoadsReadElements ∧ Sys2Proof.Statements.VectorStoresWriteElements

/-- The short-vector operations and their memory instructions. -/
def Obligations.ShortVectors : Prop :=
  Sys2Proof.Statements.ShortVectorsActOnEveryElement ∧ Sys2Proof.Statements.ShortVectorsRefuse ∧ Sys2Proof.Statements.ShortVectorMemory

/-! ## The event router and the fault collection unit -/

/-- Only registers, and what follows them, changed. -/
def Sys2Proof.Statements.RegsOnly (s u : State) : Prop := u = { s with regs := u.regs, pins := u.pins }

/-- A write of the supervisor triad at Roadbed reaches a register block: the device is out of reset and powered (R325, R343). -/
def Sys2Proof.Statements.Roadbed (s : State) (m : BitVec 8) (lvl : BitVec 2) : Prop := s.live = true ∧ m = 0 ∧ 2 ≤ lvl.toNat

/-- A software event from a triad above Footpath is pending afterwards (R305); a write to EVR.PEND clears the bits written with 1 and no other,
but event 7 stays while the raise queue holds entries (R308, R320); from Footpath, or from a master that is no triad, neither has an effect. -/
def Obligations.EventRouterWrites : Prop :=
  ∀ (s : State) (m : BitVec 8) (lvl : BitVec 2) (v : Word), s.live = true →
    ((triadOf m.toNat).isSome = true → 1 ≤ lvl.toNat → Gives s (.softwareEvent m lvl v) fun u =>
      u.eventPending (48 + v.toNat % 16) = true ∧ Sys2Proof.Statements.RegsOnly s u ∧
      ∀ a, a ≠ EVR_PEND 1 → u.reg a = s.reg a) ∧
    (triadOf m.toNat = none ∨ lvl = 0 → Ignored s (.softwareEvent m lvl v)) ∧
    (∀ w : Fin 20, w.val < 10 → m = 0 → 1 ≤ lvl.toNat → w.val ≠ 0 ∨ s.fcu.queue = [] → Gives s (.eventClear m lvl w v) fun u =>
      u.reg (EVR_PEND w) = s.reg (EVR_PEND w) &&& ~~~v ∧ Sys2Proof.Statements.RegsOnly s u ∧ ∀ a, a ≠ EVR_PEND w → u.reg a = s.reg a) ∧
    (s.fcu.queue ≠ [] → m = 0 → 1 ≤ lvl.toNat → Gives s (.eventClear m lvl 0 v) fun u => u.eventPending 7 = true)

/-- FCU.ARM leaves the start-up safe state where no channel forbids it (R322); FCU.FIRST_ACK frees the first-error record (R318); FCU.DECIDE names its
channel, and a choice that comes too late is noted (R321); FCU.CH_STATUS clears PEND and sets COUNT (R316, R325). -/
def Sys2Proof.Statements.FaultUnitWrites : Prop :=
  ∀ (s : State) (m : BitVec 8) (lvl : BitVec 2) (v : Word) (n : Fin 320), Sys2Proof.Statements.Roadbed s m lvl →
    (v.getLsbD 0 = true → s.armable = true → Gives s (.fcuArm m lvl v) fun u =>
      u.flag FCU_STATUS_SAFE = false ∧ u.flag FCU_STATUS_ARMED = true ∧ u.get PWR_STATE_STATE = 3 ∧ Sys2Proof.Statements.RegsOnly s u) ∧
    (s.armable = false → Ignored s (.fcuArm m lvl v)) ∧
    (v.getLsbD 0 = true → Gives s (.firstAck m lvl v) fun u =>
      u.flag FCU_FIRST_CH_VALID = false ∧ u.get FCU_FIRST_CH_CHANNEL = s.get FCU_FIRST_CH_CHANNEL ∧ Sys2Proof.Statements.RegsOnly s u) ∧
    (v.getLsbD 31 = true → s.flag (FCU_CH_STATUS_DEFERRED (v.toNat % 512)) = false → Gives s (.fcuDecide m lvl v) fun u =>
      u.flag FCU_STATUS_DECIDE_LATE = true ∧ u.get FCU_DECIDE_CHANNEL = v.toNat % 512 ∧ u.get FCU_DECIDE_SEV = v.toNat / 2 ^ 16 % 8 ∧
      Sys2Proof.Statements.RegsOnly s u) ∧
    (v.getLsbD 31 = true → Gives s (.pendClear m lvl n v) fun u =>
      u.flag (FCU_CH_STATUS_PEND n) = false ∧ u.get (FCU_CH_STATUS_COUNT n) = v.toNat % 2 ^ 16 ∧
      u.get (FCU_CH_STATUS_LAST_SEV n) = s.get (FCU_CH_STATUS_LAST_SEV n) ∧ Sys2Proof.Statements.RegsOnly s u)

/-- Writes by any other master, or below Roadbed, change nothing in these blocks (R199, R325, R341). -/
def Sys2Proof.Statements.OnlyTheSupervisorWrites : Prop :=
  ∀ (s : State) (m : BitVec 8) (lvl : BitVec 2) (v : Word) (a : Fin 16), m ≠ 0 ∨ lvl = 0 ∨ lvl = 1 →
    ∀ c ∈ [Instr.fcuArm m lvl v, .fcuDecide m lvl v, .firstAck m lvl v, .supCfgWrite m lvl a v, .presetGo m lvl v, .switchAbort m lvl v,
      .expressMoveGo m lvl v], Ignored s c

/-- A deferral whose deadline passes is carried out with the raise's own severity (R321): it no longer waits, and severity 5 or below on a
channel of no lane and no express block brings nothing more; severity 6 without a ready standby enters the safe state (R311, R322). -/
def Sys2Proof.Statements.DeferralsEnd : Prop :=
  ∀ (s : State) (n : Fin 320) (d : Deferral), s.fcu.deferred.find? (fun e => e.channel = n.val) = some d → laneOfFc n = none → blockOfFc n = none →
    s.flag FCU_STATUS_SAFE = false →
    (d.sev ≤ 5 → Gives s (.deferDeadline n) fun u => u.flag (FCU_CH_STATUS_DEFERRED n) = false ∧ (∀ e ∈ u.fcu.deferred, e.channel ≠ n.val) ∧
      u.time = max s.time d.deadline ∧ u.flag FCU_STATUS_SAFE = false) ∧
    (d.sev = 6 → s.get SOV_STATUS_ROLE ≠ 2 → Gives s (.deferDeadline n) fun u => u.flag FCU_STATUS_SAFE = true ∧ u.get FCU_STATUS_SAFE_CH = n.val ∧
      u.fcu.deferred = [] ∧ u.pins.safeN = false ∧ u.pins.mute = 0xF)

/-- A channel that rests but for one fault already sampled as 11 once. -/
def Sys2Proof.Statements.OneFault (s : State) (n : Nat) (r : Raise) : Prop :=
  s.fcu.pairs = [(n, { todo := [r], run := 1, prev := some 3 })] ∧ (fcRow n).isSome = true ∧ s.flag RWK_BREAK_BUSY = false ∧ s.fcu.fresh = false

/-- The second sample of 11 confirms a fault (R309): its channel counts, an unheld first-error record takes it, the raise queue takes it with event 7,
and it is pending where its severity is at least 2 (R311, R316 to R318, R320). With every pair at rest a sample changes the toggle alone, and in a reset
no sample is taken. -/
def Sys2Proof.Statements.SamplingConfirmsAFault : Prop :=
  ∀ (s : State), (s.boot = .held → Ignored s .fcuSample) ∧
    (s.boot ≠ .held → s.fcu.pairs = [] → s.flag RWK_BREAK_BUSY = false → Gives s .fcuSample fun u =>
      u = { s with fcu := { s.fcu with ref := !s.fcu.ref, fresh := false }, pins := u.pins }) ∧
    ∀ (n : Nat) (r : Raise), n < 320 → s.boot ≠ .held → Sys2Proof.Statements.OneFault s n r → n ≠ 218 → n ≠ 220 → r.reduced = false →
      s.flag (FCU_CH_STATUS_PEND n) = false → s.flag FCU_FIRST_CH_VALID = false → s.fcu.queue.length < 64 →
      1 ≤ s.get (FCU_CH_CFG_SEV n) → s.get (FCU_CH_CFG_SEV n) < 4 →
      Gives s .fcuSample fun u =>
        u.get (FCU_CH_STATUS_COUNT n) = min (s.get (FCU_CH_STATUS_COUNT n) + 1) 65535 ∧ u.flag FCU_FIRST_CH_VALID = true ∧
        u.get FCU_FIRST_CH_CHANNEL = n ∧ u.get FCU_FIRST_CH_SEV = s.get (FCU_CH_CFG_SEV n) ∧ u.get FCU_FIRST_CH_MASTER = r.master.toNat ∧
        u.fcu.queue.length = s.fcu.queue.length + 1 ∧ u.eventPending 7 = true ∧
        u.flag (FCU_CH_STATUS_PEND n) = decide (2 ≤ s.get (FCU_CH_CFG_SEV n)) ∧ (u.pair n).todo = []

/-! ## Milestone -/

/-- The watchdog runs with its window open and nothing due at this tick (R328, R329). -/
def Sys2Proof.Statements.WindowIsOpen (s : State) : Prop :=
  s.mile.running = true ∧ s.get MSW_STATUS_STATE = 2 ∧ s.since (s.get MSW_LAST_TICK_VALUE) < s.mile.closeT

/-- A service with the right token in the open window is valid (R328, R331): the next question is asked, the tick becomes s, the settings written
govern and the window closes; one with a wrong token, or a narrow one, is invalid: it is counted, its token and tick are kept, FC 1 is
raised and grace begins; in grace a valid service counts as late. -/
def Sys2Proof.Statements.MilestoneServices : Prop :=
  ∀ (s : State) (m : BitVec 8) (lvl : BitVec 2) (narrow : Bool) (v : Word), Sys2Proof.Statements.Roadbed s m lvl →
    let q := s.get MSW_QUESTION_Q
    let good := narrow = false ∧ v.toNat = mswToken q (s.reg MSW_KEY).toNat
    (Sys2Proof.Statements.WindowIsOpen s → good → Gives s (.milestoneService m lvl narrow v) fun u =>
      u.get MSW_QUESTION_Q = (q * 0x6255 + 0x3619) % 2 ^ 16 ∧ u.reg MSW_LAST_TICK = BitVec.ofNat 32 s.ticks ∧ u.get MSW_STATUS_STATE = 1 ∧
      u.mile.openT = s.get MSW_OPEN_TICKS ∧ u.mile.closeT = s.get MSW_CLOSE_TICKS ∧ u.get MSW_COUNTS_INVALID = s.get MSW_COUNTS_INVALID) ∧
    (Sys2Proof.Statements.WindowIsOpen s → ¬ good → Gives s (.milestoneService m lvl narrow v) fun u =>
      u.get MSW_QUESTION_Q = q ∧ u.get MSW_STATUS_STATE = 3 ∧ u.get MSW_STATUS_CAUSE = 3 ∧ u.reg MSW_BAD_TOKEN = v ∧
      u.reg MSW_BAD_TICK = BitVec.ofNat 32 s.ticks ∧ u.get MSW_COUNTS_INVALID = min (s.get MSW_COUNTS_INVALID + 1) 65535 ∧
      (u.pair 1).todo.length = (s.pair 1).todo.length + 1) ∧
    (s.mile.running = true → s.get MSW_STATUS_STATE = 1 → s.since (s.get MSW_LAST_TICK_VALUE) < s.mile.openT →
      Gives s (.milestoneService m lvl narrow v) fun u => u.get MSW_STATUS_STATE = 3 ∧ u.get MSW_STATUS_CAUSE = 2 ∧
        u.get MSW_COUNTS_INVALID = min (s.get MSW_COUNTS_INVALID + 1) 65535 ∧ u.get MSW_QUESTION_Q = q) ∧
    (s.mile.running = true → s.get MSW_STATUS_STATE = 3 → s.since s.mile.graceFrom < s.mile.graceLen → good →
      Gives s (.milestoneService m lvl narrow v) fun u => u.get MSW_STATUS_STATE = 1 ∧
        u.get MSW_COUNTS_LATE = min (s.get MSW_COUNTS_LATE + 1) 65535 ∧ (u.pair 3).todo.length = (s.pair 3).todo.length + 1)

/-- The other Milestone registers (R326, R332 to R334): the key is taken once per power-on; LOCK is set by 1 and restarting starts a
window; permitted settings are taken, others only set CFG_ERR; the disable pair 0x5EED, 0xC0DE within 64 ticks stops the watchdog unless
LOCK is set; any other master's write is ignored and raises FC 2. -/
def Sys2Proof.Statements.MilestoneRegisters : Prop :=
  ∀ (s : State) (m : BitVec 8) (lvl : BitVec 2) (v : Word), s.live = true →
    (m = 0 → 2 ≤ lvl.toNat →
      (s.flag MSW_STATUS_KEY_SET = false → Gives s (.milestoneKeyWrite m lvl v) fun u => u.reg MSW_KEY = v ∧ u.flag MSW_STATUS_KEY_SET = true) ∧
      (s.flag MSW_STATUS_KEY_SET = true → Ignored s (.milestoneKeyWrite m lvl v)) ∧
      (v.getLsbD 1 = true → v.getLsbD 0 = false → Gives s (.milestoneLockWrite m lvl v) fun u =>
        u.flag MSW_CTRL_LOCK = true ∧ u.flag MSW_CTRL_EN = s.flag MSW_CTRL_EN) ∧
      (v.getLsbD 0 = true → s.flag MSW_CTRL_EN = false → Gives s (.milestoneRestart m lvl v) fun u =>
        u.flag MSW_CTRL_EN = true ∧ u.mile.running = true ∧ u.get MSW_STATUS_STATE = 1 ∧ u.reg MSW_LAST_TICK = BitVec.ofNat 32 s.ticks) ∧
      (mswSettings (v.toNat % 2 ^ 24) (s.get MSW_CLOSE_TICKS) (s.get MSW_GRACE_TICKS) = true →
        Gives s (.windowSettingWrite m lvl 0x30008 v) fun u => u.get MSW_OPEN_TICKS = v.toNat % 2 ^ 24 ∧ u.mile = s.mile) ∧
      (mswSettings (v.toNat % 2 ^ 24) (s.get MSW_CLOSE_TICKS) (s.get MSW_GRACE_TICKS) = false →
        Gives s (.windowSettingWrite m lvl 0x30008 v) fun u => u.get MSW_OPEN_TICKS = s.get MSW_OPEN_TICKS ∧ u.flag MSW_STATUS_CFG_ERR = true) ∧
      (v = 0x5EED → Gives s (.milestoneDisableWrite m lvl v) fun u => u.mile = { s.mile with pair := some s.ticks }) ∧
      (v = 0xC0DE → ∀ t, s.mile.pair = some t → s.since t < 64 → s.flag MSW_CTRL_LOCK = false →
        Gives s (.milestoneDisableWrite m lvl v) fun u => u.mile.running = false ∧ u.get MSW_STATUS_STATE = 0 ∧ u.flag MSW_CTRL_EN = false) ∧
      (v = 0xC0DE → ∀ t, s.mile.pair = some t → s.since t < 64 → s.flag MSW_CTRL_LOCK = true →
        Gives s (.milestoneDisableWrite m lvl v) fun u => u.mile.running = s.mile.running ∧ u.flag MSW_STATUS_DIS_REFUSED = true)) ∧
    (m ≠ 0 ∨ lvl = 0 ∨ lvl = 1 → ∀ c ∈ [Instr.milestoneService m lvl false v, .milestoneKeyWrite m lvl v, .milestoneDisableWrite m lvl v,
        .milestoneRestart m lvl v, .milestoneLockWrite m lvl v, .windowSettingWrite m lvl 0x30008 v],
      Gives s c fun u => (u.pair 2).todo.length = (s.pair 2).todo.length + 1 ∧ u.regs = s.regs ∧ u.mile = s.mile)

/-- The Milestone's times (R329, R330): the window opens OPEN ticks after s with event 0, expires CLOSE ticks after it into grace with event 1, and grace
that ends without a valid service counts a watchdog reset, latches its cause and pulls RESET_N. -/
def Sys2Proof.Statements.MilestoneTimes : Prop :=
  ∀ s : State, s.mile.running = true →
    (s.get MSW_STATUS_STATE = 1 → s.mile.openT ≤ s.since (s.get MSW_LAST_TICK_VALUE) → s.since (s.get MSW_LAST_TICK_VALUE) < s.mile.closeT →
      Gives s .windowOpen fun u => u.get MSW_STATUS_STATE = 2 ∧ u.eventPending 0 = true) ∧
    (s.get MSW_STATUS_STATE = 2 → s.mile.closeT ≤ s.since (s.get MSW_LAST_TICK_VALUE) →
      s.since ((s.get MSW_LAST_TICK_VALUE + s.mile.closeT) % 2 ^ 32) < s.get MSW_GRACE_TICKS →
      Gives s .windowExpiry fun u => u.get MSW_STATUS_STATE = 3 ∧ u.get MSW_STATUS_CAUSE = 1 ∧ u.eventPending 1 = true) ∧
    (s.get MSW_STATUS_STATE = 3 → s.mile.graceLen ≤ s.since s.mile.graceFrom → Gives s .graceEnd fun u =>
      u.mile.running = false ∧ u.pulling = true ∧ u.pins.resetN = false ∧ u.bkp.causes = Nat.lor s.bkp.causes 4 ∧
      u.get RST_WDOG_COUNT = min (s.get RST_WDOG_COUNT + 1) 65535)

/-! ## Waymark -/

/-- The Waymark registers (R337, R340, R341): a discard closes a window without evaluation; SUP_CFG sets an activity and starts its window; a check-in
within the expected count is counted, one beyond it flags the activity; a window that ends short of its count flags it as missing. -/
def Obligations.WaymarkRegisters : Prop :=
  ∀ (s : State) (m : BitVec 8) (lvl : BitVec 2) (p : Fin 18) (a : Fin 16) (v : Word),
    (Sys2Proof.Statements.Roadbed s m lvl → v.getLsbD 30 = true → Gives s (.waymarkDiscard m lvl p v) fun u =>
      u.flag (WMK_WINDOW_OPEN p) = false ∧ u.get (WMK_WINDOW_FLAGS p) = v.toNat / 2 ^ 16 % 256 ∧ u.fcu = s.fcu) ∧
    (Sys2Proof.Statements.Roadbed s m lvl → v.getLsbD 31 = true → Gives s (.supCfgWrite m lvl a v) fun u =>
      u.flag (WMK_SUP_CFG_EN a) = true ∧ u.get (WMK_SUP_CFG_PERIOD_MS a) = v.toNat / 2 ^ 16 % 2 ^ 12 ∧
      u.get (WMK_SUP_CFG_EXPECT a) = v.toNat % 2 ^ 16 ∧ u.window (32 + a) = { since := s.time }) ∧
    (s.live = true → m = 0 → 1 ≤ lvl.toNat → s.flag (WMK_SUP_CFG_EN a) = true → (s.window (32 + a)).count < s.get (WMK_SUP_CFG_EXPECT a) →
      Gives s (.supCheckin m lvl a v) fun u =>
        u.window (32 + a) = { s.window (32 + a) with count := (s.window (32 + a)).count + 1, lastAt := some s.time } ∧ u.regs = s.regs) ∧
    (s.live = true → m = 0 → 1 ≤ lvl.toNat → s.flag (WMK_SUP_CFG_EN a) = true → (s.window (32 + a)).count = s.get (WMK_SUP_CFG_EXPECT a) →
      (s.window (32 + a)).flagged = false → Gives s (.supCheckin m lvl a v) fun u =>
        (u.window (32 + a)).flagged = true ∧ u.get WMK_SUP_CAP_KIND = 1 ∧ u.get WMK_SUP_CAP_ACTIVITY = a ∧ u.reg WMK_SUP_CAP_SITE = v ∧
        (u.pair 20).todo.length = (s.pair 20).todo.length + 1) ∧
    (s.flag (WMK_SUP_CFG_EN a) = true → (s.window (32 + a)).count < s.get (WMK_SUP_CFG_EXPECT a) → (s.window (32 + a)).flagged = false →
      Gives s (.supWindowEnd a) fun u => u.get WMK_SUP_CAP_KIND = 2 ∧ u.get WMK_SUP_CAP_ACTIVITY = a ∧
        (u.pair 20).todo.length = (s.pair 20).todo.length + 1 ∧
        u.window (32 + a) = { since := (s.window (32 + a)).since + s.get (WMK_SUP_CFG_PERIOD_MS a) * 1000000 })

/-- The writes of the fault collection unit, and who may make them. -/
def Obligations.FaultUnit : Prop := Sys2Proof.Statements.FaultUnitWrites ∧ Sys2Proof.Statements.OnlyTheSupervisorWrites

/-- A fault is confirmed by the second sample, and a deferral ends at its deadline. -/
def Obligations.FaultsAreConfirmedAndDeferred : Prop := Sys2Proof.Statements.DeferralsEnd ∧ Sys2Proof.Statements.SamplingConfirmsAFault

/-- The Milestone watchdog: services, registers and times. -/
def Obligations.Milestone : Prop := Sys2Proof.Statements.MilestoneServices ∧ Sys2Proof.Statements.MilestoneRegisters ∧ Sys2Proof.Statements.MilestoneTimes

/-! ## The block sequencer and the scheduler -/

/-- Lane `p` of the running image is a home lane whose current task is `tk` of partition `pt`. -/
def Sys2Proof.Statements.OnTask (s : State) (p : Nat) (pt : Partition) (tk : Task) : Prop :=
  p < 16 ∧ s.partOf p = some pt ∧ s.taskOf p (s.lane p).task = some tk

/-- The record of the running task is clean, and its Waymark window holds what the task expects (R23, R337). -/
def Sys2Proof.Statements.CleanRun (s : State) (p : Nat) : Prop :=
  (s.lane p).fault = false ∧ (s.lane p).exc = none ∧
    (s.flag (WMK_WINDOW_OPEN p) = true → s.get (WMK_EXPECT_EXPECT p (s.get (WMK_WINDOW_TASK p))) ≤ (s.window p).count)

/-- What the clean end of a run leaves of its lane (R22): outputs and new state bytes join those of the tasks before it, the task's exchange
point is published, its window closes, and the next task waits or the lane is finished. -/
def Sys2Proof.Statements.TaskEnded (s u : State) (p : Nat) (pt : Partition) (tk : Task) (r : TaskResult) : Prop :=
  (u.lane p).outs = (s.lane p).outs ++ ownOuts (s.lane p).part r.outs ∧ (u.lane p).fresh = overlay (s.lane p).fresh (s.freshBytes p r) ∧
    (tk.publishes ≠ 0xFFFF → tk.publishes ∈ u.eng.published) ∧ u.flag (WMK_WINDOW_OPEN p) = false ∧
    (u.lane p).phase = (if (s.lane p).task + 1 < pt.tasks then .waiting else .finished) ∧
    (u.lane p).task = (if (s.lane p).task + 1 < pt.tasks then (s.lane p).task + 1 else pt.tasks - 1) ∧ u.mem = s.mem ∧ u.fcu = s.fcu

/-- A task starts, ends, replays and fails (R22, R23, R28 to R30, R55, R74, R127, R161). The executive enters a task at its entry point with
the vector state of R127, TASKID armed and its budget loaded. A clean end is a replay point; a replay's end also counts. A failed check replays the task beside a shadow on a free
Layby lane, or fails the lane for the block when no replay may start. A budget that runs out is counted and pends TASK_BUDGET_OVERRUN. -/
def Obligations.TasksRunReplayAndFail : Prop :=
  ∀ (s : State) (p : Fin 18) (pt : Partition) (tk : Task) (r : TaskResult),
    (s.nextTask p = some tk → Gives s (.taskStart p) fun u =>
      (u.lane p).phase = .running ∧ (u.triad (p + 1)).taskid = BitVec.ofNat 64 (2 ^ 31 + (s.lane p).task % 256) ∧
      (u.triad (p + 1)).budget = BitVec.ofNat 64 (2 ^ 63 + s.laneCycles (p + 1) tk.dNs % 2 ^ 32) ∧
      (u.triad (p + 1)).pc = BitVec.ofNat 64 (s.codeAt p + tk.entry) ∧ (u.triad (p + 1)).level = 0 ∧
      (u.triad (p + 1)).run = .running ∧ (u.triad (p + 1)).z = [] ∧ (u.triad (p + 1)).vcfg = 0 ∧
      (u.triad (p + 1)).tgset = BitVec.ofNat 64 taskSet ∧ (u.triad (p + 1)).g = (s.triad (p + 1)).g ∧
      u.flag (WMK_WINDOW_OPEN p) = true ∧ u.mem = s.mem ∧ u.fcu = s.fcu ∧ ∀ t, t ≠ p.val + 1 → u.triad t = s.triad t) ∧
    (Sys2Proof.Statements.OnTask s p pt tk → Sys2Proof.Statements.CleanRun s p →
      ((s.lane p).phase = .running → Gives s (.taskComplete p r) fun u => Sys2Proof.Statements.TaskEnded s u p pt tk r) ∧
      ((s.lane p).phase = .replaying → (s.lane p).shadow = none → Gives s (.replayComplete p r) fun u =>
        Sys2Proof.Statements.TaskEnded s u p pt tk r ∧
        u.get (BSQ_LANE_REC_REPLAYS p) = satCount (BSQ_LANE_REC_REPLAYS p).width (s.get (BSQ_LANE_REC_REPLAYS p) + 1))) ∧
    (Sys2Proof.Statements.OnTask s p pt tk → (s.lane p).phase = .running → (s.lane p).shadow = none →
      (s.mayReplay p (s.lane p).task = true → Gives s (.taskFailure p .check) fun u =>
        (u.lane p).phase = .replaying ∧ (s.lane p).task ∈ (u.lane p).replayed ∧ (u.lane p).outs = (s.lane p).outs ∧ (u.lane p).fresh = (s.lane p).fresh ∧
        (u.pair (34 + 8 * p)).todo.length = (s.pair (34 + 8 * p)).todo.length + 1 ∧ (s.tiedShadows = [] → (u.lane p).shadow = s.pickLayby p)) ∧
      (s.mayReplay p (s.lane p).task = false → Gives s (.taskFailure p .check) fun u =>
        (u.lane p).phase = .failed ∧ u.get (BSQ_LANE_REC_REPLAY_FAILS p) =
          satCount (BSQ_LANE_REC_REPLAY_FAILS p).width (s.get (BSQ_LANE_REC_REPLAY_FAILS p) + 1) ∧
        (u.pair (34 + 8 * p)).todo.length = (s.pair (34 + 8 * p)).todo.length + 1 ∧ u.mem = s.mem)) ∧
    ((s.triad (p + 1)).budget.getLsbD 63 = true → (s.triad (p + 1)).run = .running → Gives s (.taskBudgetExpiry p) fun u =>
      (u.triad (p + 1)).overrun = true ∧ (u.triad (p + 1)).budget = 0 ∧ u.flag BSQ_STATUS_OVERRUN = true ∧
      u.get (BSQ_LANE_STAT_OVERRUNS p) = satCount (BSQ_LANE_STAT_OVERRUNS p).width (s.get (BSQ_LANE_STAT_OVERRUNS p) + 1) ∧
      u.time = s.time + s.cyclesNs (p + 1) ((s.triad (p + 1)).budget.toNat % 2 ^ 32) ∧ u.mem = s.mem)

/-- Commits, mirrors and the Layby (R24, R30, R160, R167 to R174). The gate commits a clean lane's block and starts its mirror, whose body
is all of memory that may change; a mirror ends with its header, in the slot that did not hold the newest. A prepared Layby lane serves its home lane through the slip road; a clean shadow of a failed lane is committed and counted; a lane
that passes its test is no longer under test; staging that is complete is STEP 3. -/
def Obligations.CommitsMirrorsAndLayby : Prop :=
  ∀ (s : State) (p : Fin 18) (l : Fin 16) (k : Fin 2) (im : Image) (q h : Nat),
    (s.eng.running = some im → s.gateOpens p = true → s.catching = false → (s.lane p).shadow = none → Gives s (.commitGateOpen p) fun u =>
      (u.lane p).committed = true ∧ (u.lane p).via = some p.val ∧ (u.lane p).outs = (s.lane p).outs ∧
      (u.mirrors (s.lane p).logical).length = (s.mirrors (s.lane p).logical).length + 1 ∧ u.regs = s.regs ∧
      (∀ a, (∀ m ∈ (u.mirrors (s.lane p).logical).head?,
          let b := s.mirrorAddr (s.lane p).logical (s.freeSlot (s.lane p).logical) (im.slotLen (s.lane p).part) + 64
          a < b ∨ b + m.body.length ≤ a) → u.byte a = s.byte a) ∧
      ((s.lane p).phase ≠ .suspended → u.stateBuf (s.lane p).logical = overlay (s.stateBuf (s.lane p).logical) (s.lane p).fresh)) ∧
    (∀ m rest, s.eng.running = some im → im.partOn l = some q → s.mirrors l = m :: rest → m.begun = true →
      let slot := if s.get (BSQ_MIRROR_NEWEST l) = 1 then 1 else 0
      let a := s.mirrorAddr l slot (im.slotLen q)
      (∀ w ∈ wordsOf a 64, s.busError (8 * w) true = false) → Gives s (.mirrorComplete l) fun u =>
        u.get (BSQ_MIRROR_NEWEST l) = slot + 1 ∧ (u.mirrors l).map (·.block) = rest.map (·.block) ∧ u.triads = s.triads ∧
        (rest = [] → u.bytes a m.header.length = m.header ∧ ∀ x, x < a ∨ a + m.header.length ≤ x → u.byte x = s.byte x)) ∧
    ((s.layby (16 + k)).home = some h → (s.lane (16 + k)).phase = .preparing → Gives s (.laybyReady k) fun u =>
      (u.layby (16 + k)).home = some h ∧ (u.layby (16 + k)).road = true ∧
      ∀ tk, s.taskOf (16 + k) (s.lane (16 + k)).task = some tk →
        (u.lane (16 + k)).phase = (if s.mayStart tk then .running else .waiting)) ∧
    ((s.layby (16 + k)).home = some h → h < 16 → s.isShadow (16 + k) = true → s.eng.running = some im → s.catching = false →
      (s.lane h).shadow = some (16 + k.val) → (s.lane h).phase = .failed → (s.lane h).committed = false → (s.lane (16 + k)).clean = true →
      Gives s (.shadowComplete k) fun u => (u.lane h).committed = true ∧ (u.lane h).via = some (16 + k.val) ∧
        (u.lane h).outs = (s.lane (16 + k)).outs ∧ (u.pair (36 + 8 * h)).todo.length = (s.pair (36 + 8 * h)).todo.length + 1 ∧
        u.get (BSQ_LANE_REC_SHADOW_COMMITS h) = satCount (BSQ_LANE_REC_SHADOW_COMMITS h).width (s.get (BSQ_LANE_REC_SHADOW_COMMITS h) + 1)) ∧
    ((s.layby (16 + k)).home = some h → s.get (laybyUse (16 + k)) = 3 → s.get (laybySettled (16 + k)) = 0 → (s.layby (16 + k)).road = true →
      ∀ pt s1, s.partOf (16 + k) = some pt → s.divertAll (16 + k) (s.codeAt (16 + k)) ((pt.footprint + 63) / 64) = (s1, true) →
        Gives s (.settleComplete k) fun u => (u.layby (16 + k)).road = false ∧ u.get (laybySettled (16 + k)) = 1) ∧
    (p.val ∈ s.eng.testing → Gives s (.laneTestComplete p true) fun u =>
      u = { s with eng := { s.eng with testing := s.eng.testing.filter (· ≠ p.val) }, pins := u.pins }) ∧
    (∀ w, s.eng.switch = some w → s.mayStage = true → Gives s .stagingComplete fun u =>
      u.get BSQ_SWITCH_STATE_STEP = 3 ∧ u.eng = { s.eng with switch := some { w with staged := true, held := s.flag BSQ_CTRL_SWITCH_HOLD } })

/-- Boundaries of the block count and of lane periods, outputs, presets and aborts (R15 to R18, R20, R67). With no image running and no switch the
count goes on: the next block's number and time stand in BSQ.BLOCK and BSQ.BOUNDARY, and event 40 is pending; with an image running its lane
period is due. A frame boundary is the next multiple of the frame period. An oldest output block begins to leave at its O_N. A preset waits for the next boundary, and is only noted under PTP
lock; a switch not yet in lane period S − 1 can be aborted. -/
def Sys2Proof.Statements.BoundariesPresetsAndAborts : Prop :=
  ∀ (s : State) (m : BitVec 8) (lvl : BitVec 2) (v : Word),
    (s.eng.due = none → s.eng.seqRate ≠ 0 → s.eng.running = none → s.eng.switch = none → s.eng.preset = none → s.eng.presetAt = none →
      s.blockN + 1 < 2 ^ 64 → Gives s .blockBoundary fun u =>
      u.blockN = s.blockN + 1 ∧ u.time = max s.time (s.frameTime (s.blockN + 1) 0) ∧ u.eventPending 40 = true ∧ u.eng.due = none ∧ u.mem = s.mem) ∧
    (∀ im, s.eng.due = none → s.eng.seqRate ≠ 0 → s.eng.running = some im → s.eng.switch = none → s.eng.preset = none → s.eng.presetAt = none →
      s.eng.updates = [] → s.blockN + 1 < 2 ^ 64 → Gives s .blockBoundary fun u =>
        u.blockN = s.blockN + 1 ∧ u.eng.due = some s.blockN ∧ u.eventPending 40 = true ∧ u.eng.running = some im ∧ u.mem = s.mem) ∧
    (s.eng.seqRate ≠ 0 → Gives s .frameBoundary fun u => u.time = max s.time (s.frameAfter (s.time + 1)) ∧ u.regs = s.regs ∧ u.mem = s.mem) ∧
    (∀ n, s.eng.due = some n → s.stepDue = false →
      exec .lanePeriodBoundary s = .next (s.lanePeriod n).drivePins ∧
      (s.eng.running = none → s.eng.switch = none → s.catching = false → s.eng.period = none → Gives s .lanePeriodBoundary fun u =>
        u.eng.due = none ∧ u.time = max s.time (s.frameTime s.blockN 1) ∧ u.eng.running = none)) ∧
    (∀ b rest, s.eng.outs = b :: rest → Gives s .outputStart fun u =>
      u.eng = { s.eng with cur := some b, outs := rest } ∧ u.time = max s.time b.start ∧ u.regs = s.regs) ∧
    (Sys2Proof.Statements.Roadbed s m lvl →
      (v.getLsbD 3 = true → s.eng.switch.isSome = true → s.mayAbort = true → Gives s (.switchAbort m lvl v) fun u =>
        u.eng.switch = none ∧ u.eng.pending = none ∧ u.get BSQ_SWITCH_STATE_STEP = 0 ∧ u.eng.running = s.eng.running) ∧
      (s.mayAbort = false → Ignored s (.switchAbort m lvl v)) ∧
      (v.getLsbD 0 = true → s.ptpLocked = true → Gives s (.presetGo m lvl v) fun u =>
        u.flag BSQ_STATUS_PRESET_IGN = true ∧ u.get BSQ_CTRL_SWITCH_HOLD = v.toNat / 2 % 2 ∧ Sys2Proof.Statements.RegsOnly s u) ∧
      (v.getLsbD 0 = true → s.ptpLocked = false → s.get SOV_STATUS_ROLE < 2 → s.eng.seqRate ≠ 0 → Gives s (.presetGo m lvl v) fun u =>
        u.eng = { s.eng with preset := some (s.get64 BSQ_PRESET_LO) } ∧ u.get BSQ_CTRL_SWITCH_HOLD = v.toNat / 2 % 2))

/-- Cluster power (R56, R360, R362): a wake that completes leaves RUN with event 3, and takes the device from STANDBY to ACTIVE with event 2; a cluster idle for
the image's blocks goes WARM and its banks into retention. -/
def Sys2Proof.Statements.ClustersWakeAndRest : Prop :=
  ∀ (s : State) (c : Fin 9),
    (s.get (PWR_CLUSTER_STATE c) = 4 → Gives s (.clusterWakeComplete c) fun u =>
      u.get (PWR_CLUSTER_STATE c) = 3 ∧ u.eventPending 3 = true ∧ c.val ∉ u.eng.waking ∧ u.mem = s.mem ∧
      (∀ b < 32, s.bankRetired c b = false → u.get (bankPwr c b) = 2) ∧
      (s.get PWR_STATE_STATE = 3 → u.get PWR_STATE_STATE = 4 ∧ u.eventPending 2 = true)) ∧
    (∀ im, s.eng.running = some im → im.idleBlocks ≤ Sparse.get (fun _ => 0) s.eng.idle c → s.get (PWR_CLUSTER_STATE c) = 3 →
      s.eng.hostPower = false → Gives s (.idleBlocksExpiry c) fun u =>
        u.get (PWR_CLUSTER_STATE c) = 1 ∧ (∀ b < 32, s.bankRetired c b = false → u.get (bankPwr c b) = 1) ∧ Sys2Proof.Statements.RegsOnly s u)

/-! ## The express datapath -/

/-- The express datapath (R187, R188, R193 to R197): a sample of a channel is what its program computes, 0 from a block that has failed, and is available
one frame after its input's position. A resynchronised copy joins at
the next frame boundary, one that misses its time is held out; the first failed block's channels move to a free Layby block and start at zero; a planned
move is armed by GO and takes effect at S_P. -/
def Obligations.ExpressBlocks : Prop :=
  ∀ (s : State) (b : Fin 9) (m : BitVec 8) (lvl : BitVec 2) (v : Word),
    (∀ (c : BitVec 6) (p : ExpProg), s.exp.progs.find? (fun p => p.channel = c.toNat) = some p →
      s.expUpset (s.get (EXP_MAP_BLOCK c.toNat)) = 0 → Gives s (.expressSample c) fun u =>
        let o := (expSample p (s.expChan c.toNat) ((List.range 16).map (s.expInput c.toNat)) ((s.param (expKey c.toNat 0)).now 4)
          ((s.param (expKey c.toNat 1)).now 4) (s.param (expKey c.toNat 2)).value).1
        let dead := s.get (EXP_MAP_BLOCK c.toNat) ∈ s.exp.out ∨ s.time < s.exp.quiet
        u.regs = s.regs ∧ u.mem = s.mem ∧
        (dead → ∀ k < 2, (Sparse.get (fun _ => (0, 0)) u.exp.late (0x4200 + 2 * c.toNat + k)).1 = 0) ∧
        (¬ dead → (s.expChan c.toNat).fade = none → (Sparse.get (fun _ => (0, 0)) u.exp.late (0x4200 + 2 * c.toNat)).1 = o.1 ∧
          (Sparse.get (fun _ => (0, 0)) u.exp.late (0x4201 + 2 * c.toNat)).1 = o.2) ∧
        ∀ k < 2, (Sparse.get (fun _ => (0, 0)) u.exp.late (0x4200 + 2 * c.toNat + k)).2 =
          s.rateFrame (rateHz p.rate) (max s.time (Sparse.get (fun _ => ((0 : Word), 0)) s.exp.late (0x4200 + 2 * c.toNat + k)).2)) ∧
    (s.get (EXP_VOTE_MODE b) = 1 →
      (Gives s (.expressResyncComplete b) fun u => u.get (EXP_VOTE_MODE b) = 0 ∧ u.time = max s.time (s.frameAfter s.time) ∧ u.exp = s.exp) ∧
      (Gives s (.expressHoldOut b) fun u => u.get (EXP_VOTE_MODE b) = 2 ∧ (u.pair (176 + b)).todo.length = (s.pair (176 + b)).todo.length + 1)) ∧
    (s.exp.failed.find? (fun b => decide (b < 8)) = some b.val → s.laybyExpressFree = true → Gives s .expressLaybyTakeover fun u =>
      u.flag EXP_STATUS_LAYBY_BUSY = true ∧ u.get EXP_STATUS_LAYBY_FOR = b ∧ b.val ∉ u.exp.failed ∧
      ∀ k < 8, u.get (EXP_MAP_BLOCK (8 * b + k)) = 8 ∧ u.flag (EXP_MAP_ON_LAYBY (8 * b + k)) = true ∧ u.expChan (8 * b + k) = { fade := some 0 }) ∧
    (Sys2Proof.Statements.Roadbed s m lvl → v.getLsbD 31 = true → v.toNat % 16 < 8 → Gives s (.expressMoveGo m lvl v) fun u =>
      u.flag EXP_MOVE_BUSY = true ∧ u.get EXP_MOVE_BLOCK = v.toNat % 16 ∧ u.get EXP_MOVE_RETURN = v.toNat / 16 % 2 ∧
      Sys2Proof.Statements.RegsOnly s u) ∧
    (s.flag EXP_MOVE_BUSY = true → s.get64 EXP_MOVE_LO ≤ s.blockN → s.get EXP_MOVE_BLOCK < 8 → Gives s .expressMoveTakeEffect fun u =>
      u.flag EXP_MOVE_BUSY = false ∧
      (s.flag EXP_MOVE_RETURN = false → s.laybyExpressFree = true → s.get EXP_MOVE_BLOCK ∉ s.exp.out →
        u.flag EXP_STATUS_LAYBY_BUSY = true ∧ u.get EXP_STATUS_LAYBY_FOR = s.get EXP_MOVE_BLOCK ∧
        ∀ k < 8, u.get (EXP_MAP_BLOCK (8 * s.get EXP_MOVE_BLOCK + k)) = 8))

/-- Boundaries of blocks and lane periods, and the power of clusters. -/
def Obligations.BoundariesAndClusters : Prop := Sys2Proof.Statements.BoundariesPresetsAndAborts ∧ Sys2Proof.Statements.ClustersWakeAndRest

/-! ## Resets, start-up and the backup domain -/

/-- The reset sequence (R342 to R349, R351 to R356): what each of its steps leaves. A reset accepted from the pin puts the device in reset with the latched causes; power-on leaves POR
alone; the end of a reset counts it and draws the first question; options are voted bit by bit; the fill leaves SRAM at zero and starts the supervisor at
PC 0 with the Milestone; the first candidate slot that passes is booted, and none leads to recovery; training leaves DRAM zero unless its contents were kept. -/
def Obligations.ResetSequence : Prop :=
  ∀ (s : State) (ext late : Bool) (raw : BitVec 4) (ranks : BitVec 2),
    (Gives s .powerOnReset fun u => u.boot = .held ∧ u.reg RST_CAUSE = 1 ∧ u.triads = [] ∧ u.fcu = {} ∧ u.eng = {} ∧ u.pulling = false ∧ u.bkp.causes = 0 ∧
      ∀ a, isLedger a = false → u.byte a = memDflt a) ∧
    (s.boot ≠ .held → ext = true ∨ s.pulling = true → Gives s (.resetAccept ext) fun u =>
      u.boot = .held ∧ u.reg RST_CAUSE = BitVec.ofNat 32 (Nat.lor s.bkp.causes (if ext = true ∨ s.pulling = false then 2 else 0)) ∧ u.bkp.causes = 0 ∧
      u.triads = [] ∧ u.fcu = {} ∧ u.eng = {} ∧ u.tg = {} ∧ u.dramKept = s.keepsDram ∧
      ∀ a, a < 0x60140000 ∨ 0x60142000 ≤ a → u.byte a = s.byte a) ∧
    (s.pulling = true → Gives s .resetPullEnd fun u => u = { s with pulling := false, pins := u.pins } ∧ u.pins.resetN = true) ∧
    (s.boot = .held → s.pulling = false → Gives s (.resetEnd late) fun u =>
      u.boot = .options ∧ u.up = 0 ∧ (late = true → u.flag RST_CAUSE_EXT = true) ∧
      u.reg RST_COUNT = BitVec.ofNat 32 u.bkp.c0 ∧ u.get MSW_QUESTION_Q = u.bkp.c0 % 2 ^ 16 ∧
      (∀ n, s.bkp.counter = some n → u.bkp.c0 = (n + 1) % 2 ^ 32) ∧ (s.bkp.counter = none → u.bkp.c0 = 0 ∧ u.flag SEN_BKP_STATUS_LOST = true)) ∧
    (s.boot = .options → Gives s .optionLoadComplete fun u => u.boot = .fill ∧ u.mem = s.mem ∧ ∀ i < 192,
      u.get64 (SEN_OPTION_LO i) = vote3 (s.optionCopies i).1 (s.optionCopies i).2.1 (s.optionCopies i).2.2) ∧
    (s.boot = .fill → Gives s .fillComplete fun u =>
      u.boot = .rom ∧ (u.triad 0).run = .running ∧ (u.triad 0).pc = 0 ∧ u.flag MSW_CTRL_EN = true ∧ u.mile.running = true ∧
      (∀ a, 0x40000000 ≤ a → a < 0x49000000 → u.byte a = memDflt a) ∧ ∀ a, 0x20000000 ≤ a → a < 0x217C0000 → u.byte a = memDflt a) ∧
    (s.boot = .rom →
      (∀ k, s.slotOrder.find? s.slotPasses = some k → Gives s .bootSlotSelect fun u => u.boot = .firmware ∧ u.booted = k ∧
        (u.triad 0).pc = BitVec.ofNat 64 (slotBase k + 0x100 + s.le (slotBase k + 0x14) 4) ∧ u.mem = s.mem ∧ u.regs = s.regs) ∧
      (s.slotOrder.find? s.slotPasses = none → Gives s .bootSlotSelect fun u => u.boot = .recovery ∧ u.mem = s.mem)) ∧
    (s.boot = .firmware → s.flag LPD_CONFIG_TRAINED = false → dramConfig raw.toNat ranks.toNat = true →
      Gives s (.dramTrainingComplete raw ranks) fun u =>
        u.flag LPD_CONFIG_TRAINED = true ∧ u.get LPD_CONFIG_RAW = raw.toNat ∧ u.get LPD_CONFIG_RANKS = ranks.toNat ∧ u.dramKept = false ∧
        u.flag LPD_STATUS_SELF_REFRESH = false ∧
        (s.dramKept = false → ∀ a, 0x1000000000 ≤ a → a < 0x1800000000 → u.byte a = memDflt a) ∧
        (s.dramKept = true → s.flag RST_MARCH_VALID = false → u.mem = s.mem))

/-- Reset requests and SENTRY (R323, R342, R361), the backup domain and the monitors (R345, R358, R359, R365, R457, R460, R467). A request pulls RESET_N and
latches its own cause; PWR.CMD in STANDBY switches the core domain off, and an enabled edge wakes it. The backup time counts XTAL32 periods, with event 4 at the alarm; the monitors raise their channels. -/
def Obligations.RequestsAndMonitors : Prop :=
  ∀ (s : State) (m : BitVec 8) (lvl : BitVec 2) (v : Word) (k : Fin 16) (b : Bool),
    let pulled (u : State) (cause : Nat) : Prop := u.pulling = true ∧ u.pins.resetN = false ∧ u.bkp.causes = Nat.lor s.bkp.causes cause ∧ u.regs = s.regs
    (Sys2Proof.Statements.Roadbed s m lvl → v.toNat % 2 ^ 16 = 0xB007 → Gives s (.resetRequest m lvl v) fun u => pulled u 16) ∧
    (v.toNat % 2 ^ 16 ≠ 0xB007 ∨ m ≠ 0 → Ignored s (.resetRequest m lvl v)) ∧
    (∀ t, s.fcu.resetAt = some t → Gives s .safeStateReset fun u => pulled u 8 ∧ u.time = max s.time t ∧ u.fcu.resetAt = none) ∧
    (Sys2Proof.Statements.Roadbed s m lvl → v.toNat % 2 ^ 16 = 0x5EE9 → s.get PWR_STATE_STATE = 3 → Gives s (.enterSentry m lvl v) fun u =>
      u.boot = .off ∧ u.get PWR_STATE_STATE = 2 ∧ u.flag FCU_STATUS_SAFE = true ∧ u.flag FCU_STATUS_ARMED = false ∧ u.triads = [] ∧
      u.pins.safeN = false ∧ u.dramKept = s.keepsDram) ∧
    (s.get PWR_STATE_STATE ≠ 3 → Ignored s (.enterSentry m lvl v)) ∧
    (s.boot = .off → (s.reg PWR_WAKE).getLsbD k.val = true → (s.reg PWR_WAKE).getLsbD (16 + k.val) = b → Gives s (.sentryWake k b) fun u => pulled u 32) ∧
    (s.bkp.stopped = false → Gives s .backupTimeTick fun u =>
      u.get64 SEN_TIME_LO = (s.get64 SEN_TIME_LO + 1) % 2 ^ 48 ∧ u.mem = s.mem ∧
      (s.get64 SEN_ALARM_LO = (s.get64 SEN_TIME_LO + 1) % 2 ^ 48 → u.eventPending 4 = true)) ∧
    (Gives s .backupPowerApply fun u => u.flag SEN_BKP_STATUS_VBKP_LOW = false ∧ (u.pair 8).cond = none ∧
      (s.bkp.valid = true → u.bkp = s.bkp) ∧ (s.bkp.valid = false → u.get64 SEN_TIME_LO = 0 ∧ u.bkp.c0 = 0 ∧ u.bkp.c1 = 0 ∧ u.bkp.c2 = 0)) ∧
    (Gives s .vbkpFall fun u => u.flag SEN_BKP_STATUS_VBKP_LOW = true ∧ (u.pair 8).cond.isSome = true ∧ u.bkp = { s.bkp with valid := false }) ∧
    (Gives s .supplyExcursion fun u => (u.pair 7).todo.length = (s.pair 7).todo.length + 1 ∧ u = { s with fcu := u.fcu, pins := u.pins }) ∧
    (let n := if b then 10 else 9
     Gives s (.temperatureAlarm b) fun u => (u.pair n).todo.length = (s.pair n).todo.length + 1 ∧ u = { s with fcu := u.fcu, pins := u.pins }) ∧
    (let n := if b then 5 else 4
     Gives s (.clockMonitorFault b) fun u => (u.pair n).todo.length = (s.pair n).todo.length + 1 ∧ u = { s with fcu := u.fcu, pins := u.pins }) ∧
    (Gives s .xtal32Stop fun u => (u.pair 6).todo.length = (s.pair 6).todo.length + 1 ∧ u.flag SEN_BKP_STATUS_TIME_VALID = false ∧
      u.bkp = { s.bkp with stopped := true }) ∧
    (Gives s .pePerst fun u => u = { s with host := { s.host with msix := [] }, pins := u.pins })

/-! ## Memory units -/

/-- Marches, repairs, bank power, write-backs and scrubbing (R248 to R252, R264 to R268). A march that may start is BUSY at row 0; each row advances it and notes a
failing cell; its end clears BUSY with event 6. A finished copy makes its entry valid, and poisons what it could not correct; a bank that comes from OFF is filled. A corrected word is written back; a scrubber
reads the next word, and a pass ends with event 44. -/
def Obligations.MemoryUpkeep : Prop :=
  ∀ (s : State) (m : BitVec 8) (lvl : BitVec 2) (v : Word) (ok : Bool),
    (Sys2Proof.Statements.Roadbed s m lvl → v.getLsbD 31 = true →
      s.mayMarch (v.toNat / 2 ^ 8 % 16) (v.toNat % 128) (v.getLsbD 12) = true → Gives s (.marchGo m lvl v) fun u =>
        u.flag SCB_MARCH_STATUS_BUSY = true ∧ u.get SCB_MARCH_STATUS_PROGRESS = 0 ∧ u.mem = s.mem ∧
        u.memu = { s.memu with march := some { mem := v.toNat / 2 ^ 8 % 16, bank := v.toNat % 128, preserve := v.getLsbD 12, row := 0 } }) ∧
    (∀ r, s.memu.march = some r →
      (r.mem < 10 → r.row < s.marchTotal r.mem → Gives s (.marchRow ok) fun u =>
        u.memu = { s.memu with march := some { r with row := r.row + 1, failed := if ok then r.failed else r.failed ++ [(r.row, 0)] } } ∧
        u.mem = s.mem ∧ (ok = false → u.flag SCB_MARCH_STATUS_FAIL = true)) ∧
      (∀ (sub : BitVec 3) (page : BitVec 21), r.mem = 10 → r.row < s.marchTotal 10 → page.getLsbD 0 = false →
        Gives s (.dramMarchGranule sub page ok) fun u => u.reg RST_MARCH = 0 ∧
          u.memu = { s.memu with march := some { r with row := r.row + 1, failed := if ok then r.failed else r.failed ++ [(sub.toNat, page.toNat)] } } ∧
          u.bytes (shadowArea + 64) 4096 = s.rawGranule sub.toNat page.toNat ∧ ∀ a, 0x1000000000 ≤ a → u.byte a = s.byte a) ∧
      (s.marchTotal r.mem ≤ r.row → r.failed = [] → Gives s .marchComplete fun u =>
        u.flag SCB_MARCH_STATUS_BUSY = false ∧ u.get SCB_MARCH_STATUS_PROGRESS = 1000 ∧ u.memu = { s.memu with march := none } ∧ u.eventPending 6 = true)) ∧
    (∀ (mem : Fin 10) (b : BitVec 7) (sp : BitVec 2) (row : Nat),
      s.memu.rowCopy.find? (fun x => x.1 = repairKey mem b.toNat sp.toNat) = some (repairKey mem b.toNat sp.toNat, row) →
      Gives s (.rowRepairCopyComplete mem b sp) fun u =>
        u.repairEntry (repairKey mem b.toNat sp.toNat) = { valid := true, row := row } ∧ (∀ x ∈ u.memu.rowCopy, x.1 ≠ repairKey mem b.toNat sp.toNat) ∧
        u.mem = s.mem ∧ ∀ w ∈ rowWords mem b.toNat row, u.errOf w ≠ .correctable ∧ u.errOf w ≠ .uncorrectable) ∧
    (∀ (mem : Fin 10) (b : BitVec 7) (t : Nat), Sparse.get (fun _ => 0) s.memu.moving (mem * 128 + b.toNat) = t + 1 → b.toNat < memBanks mem → t < 4 →
      Gives s (.bankPowerTransitionComplete mem b) fun u => u.get (bankPwr mem b.toNat) = t ∧
        Sparse.get (fun _ => 0) u.memu.moving (mem * 128 + b.toNat) = 0 ∧
        (∀ a, bankOf (s.region a) a = some (mem.val, b.toNat) → t = 0 ∨ s.get (bankPwr mem b.toNat) = 3 → u.byte a = memDflt a) ∧
        ∀ a, bankOf (s.region a) a ≠ some (mem.val, b.toNat) → u.byte a = s.byte a) ∧
    (∀ w : BitVec 37, w.toNat ∈ s.memu.writeBack → s.busError (8 * w.toNat) true = false → Gives s (.eccWriteBack w) fun u =>
      w.toNat ∉ u.memu.writeBack ∧ w.toNat ∈ u.memu.wroteBack ∧ u.errOf w.toNat ≠ .correctable ∧ (∀ x, x ≠ w.toNat → u.errOf x = s.errOf x) ∧
      u.mem = s.mem ∧ u.regs = s.regs) ∧
    (∀ r : BitVec 4, s.flag LPD_CONFIG_TRAINED = true → s.flag LPD_STATUS_SELF_REFRESH = false → Gives s (.dramRefresh r) fun u =>
      u.get LPD_STATUS_REFRESH = r.toNat % 2 ^ LPD_STATUS_REFRESH.width ∧ Sys2Proof.Statements.RegsOnly s u) ∧
    (∀ mem : Fin 12, s.flag (scrubEn mem) = true → (mem = 10 → s.flag LPD_CONFIG_TRAINED = true) → s.flag SCB_CTRL_HOST = false →
      let k := Sparse.get (fun _ => 0) s.memu.scrubAt mem
      (k < (s.scrubRange mem).2 → Gives s (.scrubRead mem) fun u =>
        Sparse.get (fun _ => 0) u.memu.scrubAt mem = k + 1 ∧ u.mem = s.mem ∧
        (s.busError (8 * ((s.scrubRange mem).1 + k)) false = false → s.errOf ((s.scrubRange mem).1 + k) = .correctable → s.flag RWK_INJECT_BUSY = false →
          mem.val < 11 → (s.scrubRange mem).1 + k ∈ u.memu.writeBack)) ∧
      ((s.scrubRange mem).2 ≤ k → Gives s (.scrubPassComplete mem) fun u =>
        Sparse.get (fun _ => 0) u.memu.scrubAt mem = 0 ∧ Sparse.get (fun _ => 0) u.memu.scrubFrom mem = s.time ∧ u.eventPending 44 = true ∧ u.mem = s.mem)) ∧
    (∀ i : BitVec 8, i.toNat ∈ s.memu.pageCopy → Gives s (.remapCopyComplete i) fun u =>
      u.get (LPD_REMAP_STATE i.toNat) = 2 ∧ i.toNat ∉ u.memu.pageCopy ∧ u.mem = s.mem)

/-- Triplicated control words, plain registers, the Ledger and the raise queue (R8, R254, R255, R273, R320). A control word takes the value of a sequence v, not v, v
by the supervisor, and a copy that differs is outvoted and raised; a register takes a write by its access code; a Ledger word is written when its read-back agrees, and a started write is BUSY; a read of FCU.QUEUE takes its oldest entry. -/
def Obligations.ControlWordsAndLedger : Prop :=
  ∀ (s : State) (m : BitVec 8) (lvl : BitVec 2) (v : Word) (bad : LedgerBad),
    let fcc (n : Fin 320) : BitVec 22 := BitVec.ofNat 22 (FCU_CH_CFG n - 0x60000000)
    (∀ n : Fin 320, Sys2Proof.Statements.Roadbed s m lvl →
      (s.memu.tcw.find? (fun e => e.1 = 4) = none → Gives s (.tcwWrite m lvl (fcc n) v) fun u =>
        u.memu.tcw.find? (fun e => e.1 = 4) = some (4, ⟨0, FCU_CH_CFG n, v, false, s.time⟩) ∧ u.regs = s.regs) ∧
      (∀ q, s.memu.tcw.find? (fun e => e.1 = 4) = some (4, q) → q.master = 0 → q.addr = FCU_CH_CFG n → s.time ≤ q.time + 1000 →
        (q.second = false → v = ~~~q.value → Gives s (.tcwWrite m lvl (fcc n) v) fun u =>
          u.memu.tcw.find? (fun e => e.1 = 4) = some (4, { q with second := true }) ∧ u.regs = s.regs) ∧
        (q.second = true → v = q.value → s.get (FCU_CH_CFG_SEV_MIN n) ≤ v.toNat % 8 → Gives s (.tcwWrite m lvl (fcc n) v) fun u =>
          u.get (FCU_CH_CFG_SEV n) = v.toNat % 8 ∧ u.get (FCU_CH_CFG_SEV_MIN n) = s.get (FCU_CH_CFG_SEV_MIN n) ∧
          u.memu.tcw.find? (fun e => e.1 = 4) = none))) ∧
    (∀ (a : BitVec 22) (c0 c1 c2 : Word), a = BitVec.ofNat 22 (FCU_SAFE_CFG - 0x60000000) → c0 = c1 → c1 ≠ c2 → Gives s (.tcwMismatch a c0 c1 c2) fun u =>
      u.reg FCU_SAFE_CFG = c0 ∧ (u.pair 227).todo.length = (s.pair 227).todo.length + 1 ∧ u.mem = s.mem) ∧
    (Sys2Proof.Statements.Roadbed s m lvl → Gives s (.registerWrite m lvl (BitVec.ofNat 22 (BSQ_PRESET_LO - 0x60000000)) v) fun u =>
      u.reg BSQ_PRESET_LO = v ∧ ∀ a, a ≠ BSQ_PRESET_LO → u.reg a = s.reg a) ∧
    (Sys2Proof.Statements.Roadbed s m lvl → Gives s (.registerWrite m lvl (BitVec.ofNat 22 (BSQ_BLOCK_LO - 0x60000000)) v) fun u => ∀ a, u.reg a = s.reg a) ∧
    (Sys2Proof.Statements.Roadbed s m lvl → v.getLsbD 0 = true → s.flag LDG_CMD_BUSY = false → s.ledgerLocked (s.get LDG_WADDR_VALUE * 8) = false →
      s.get LDG_WADDR_VALUE * 8 < 0x800000 → Gives s (.ledgerWriteGo m lvl v) fun u => u.flag LDG_CMD_BUSY = true ∧ u.mem = s.mem ∧
        u.memu = { s.memu with ledger := some ⟨s.get LDG_WADDR_VALUE * 8, BitVec.ofNat 64 (s.get64 LDG_WDATA_LO), false⟩ }) ∧
    (∀ w, s.memu.ledger = some w →
      (w.off / 8 * 8 ∉ s.memu.worn → Gives s (.ledgerWriteComplete true) fun u =>
        u.le (0x10000000 + w.off / 8 * 8) 8 = w.word.toNat ∧ u.flag LDG_CMD_BUSY = false ∧ u.memu.ledger = none ∧ u.eventPending 5 = true ∧
        ∀ a, a < 0x10000000 + w.off / 8 * 8 ∨ 0x10000000 + w.off / 8 * 8 + 8 ≤ a → u.byte a = s.byte a) ∧
      (w.retried = false → Gives s (.ledgerWriteComplete false) fun u =>
        u = { s with memu := { s.memu with ledger := some { w with retried := true } }, pins := u.pins })) ∧
    (∀ e q, s.fcu.queue = e :: q → s.live = true → m ≠ 0 → Gives s (.queueRead m lvl none) fun u =>
      u = { s with fcu := { s.fcu with queue := q }, pins := u.pins }) ∧
    (∀ e q, s.fcu.queue = e :: q → Sys2Proof.Statements.Roadbed s m lvl → Gives s (.queueRead m lvl bad) fun u =>
      u.fcu.queue = q ∧ (2 ≤ e.sev → (u.reg MBX_IRQ_PEND).getLsbD 24 = true))

/-! ## Tollgate registers and data movers -/

/-- The bytes of a mover's access are plain: permitted, answered, and with good check bits. -/
def Sys2Proof.Statements.MoverClear (s : State) (u : Issuer) (a n : Nat) (k : AccKind) (write : Bool) : Prop :=
  s.check u a n k = .ok ∧ isDevice a = false ∧ (∀ w ∈ wordsOf a n, s.busError (8 * w) write = false ∧ s.errOf w = .good ∧ s.injectAt w = false) ∧
    1 ≤ n

/-- Tollgate registers (R290 to R293). A write to a rule set is staged: PENDING is set and the rules in force stay. COMMIT applies every staged set of the unit, or
none where one is faulty, which is flagged. The end of a drain clears DRAIN. A lock slot is validated where it meets no other, and then stays as it is. -/
def Obligations.TollgateRegisters : Prop :=
  ∀ (s : State) (m : BitVec 8) (lvl : BitVec 2) (v : Word) (un : Fin 28),
    (∀ (set : Fin 4) (r : Nat), r < 0x180 → tgHasSets un = true → Sys2Proof.Statements.Roadbed s m lvl →
      (Sys2Proof.Machine.regAt (TG_CTRL un + 0x100 + 0x180 * set + r)).isSome = true →
      Gives s (.tgSlotWrite m lvl (BitVec.ofNat 22 (TG_CTRL un + 0x100 + 0x180 * set + r - 0x60000000)) v) fun u =>
        u.flag (TG_STATUS_PENDING un) = true ∧ 4 * un.val + set.val ∈ u.tg.dirty ∧ u.tg.sets = s.tg.sets ∧ u.mem = s.mem) ∧
    (23 ≤ un.val → Sys2Proof.Statements.Roadbed s m lvl → v.getLsbD 0 = true →
      ((∀ k ∈ s.dirtySets un, (s.stagedSet un k).bad = false) → Gives s (.tgCommit m lvl un v) fun u =>
        u.flag (TG_STATUS_DRAIN un) = true ∧ u.get (TG_CTRL_SET un) = v.toNat / 16 % 4 ∧
        Sparse.get (fun _ => 0) u.tg.sel un = v.toNat / 16 % 4 ∧ (∀ k ∈ s.dirtySets un, u.ruleSet un k = s.stagedSet un k) ∧ u.dirtySets un = []) ∧
      ((∃ k ∈ s.dirtySets un, (s.stagedSet un k).bad = true) → Gives s (.tgCommit m lvl un v) fun u =>
        u.flag (TG_STATUS_CFG_FAULT un) = true ∧ u.tg = s.tg ∧ (u.pair 242).todo.length = (s.pair 242).todo.length + 1)) ∧
    (Gives s (.tgDrainEnd un) fun u => u.flag (TG_STATUS_DRAIN un) = false ∧ u.get (TG_STATUS_REFUSALS un) = s.get (TG_STATUS_REFUSALS un) ∧
      Sys2Proof.Statements.RegsOnly s u) ∧
    (∀ k : Fin 8, Sys2Proof.Statements.Roadbed s m lvl →
      let base : BitVec 22 := BitVec.ofNat 22 (TG_LOCK_BASE k - 0x60000000)
      (s.flag (TG_LOCK_PERM_VALID k) = false → Gives s (.tgLockWrite m lvl base v) fun u => u.reg (TG_LOCK_BASE k) = v ∧ Sys2Proof.Statements.RegsOnly s u) ∧
      (s.flag (TG_LOCK_PERM_VALID k) = true → Ignored s (.tgLockWrite m lvl base v) ∧ Ignored s (.tgLockWrite m lvl (base + 8) v)) ∧
      (s.flag (TG_LOCK_PERM_VALID k) = false → v.getLsbD 31 = true → s.lockOverlaps k = false → Gives s (.tgLockWrite m lvl (base + 8) v) fun u =>
        u.flag (TG_LOCK_PERM_VALID k) = true ∧ (u.get TG_LOCK_STATUS_VALID).testBit k = true ∧
        u.get (TG_LOCK_PERM_OWNER k) = (if v.toNat / 2 ^ 16 % 256 = 0x7F then 0xFF else v.toNat / 2 ^ 16 % 256)) ∧
      (s.flag (TG_LOCK_PERM_VALID k) = false → v.getLsbD 31 = true → s.lockOverlaps k = true → Gives s (.tgLockWrite m lvl (base + 8) v) fun u =>
        u.flag TG_LOCK_STATUS_OVERLAP = true ∧ u.reg (TG_LOCK_PERM k) = s.reg (TG_LOCK_PERM k)))

/-- Data movers (R298 to R302). GO starts an enabled idle channel at CH_DESC, RESUME a halted one, ABORT ends the descriptor with its code. A valid descriptor is taken; one that
is not halts the channel. A burst copies up to the destination's next 64-byte boundary in ascending order; the last burst's acknowledgement writes STATUS and the chain goes on or ends. -/
def Obligations.MoversCopyBytes : Prop :=
  ∀ (s : State) (m : BitVec 8) (lvl : BitVec 2) (k : Fin 4) (ch : BitVec 6),
    let c := ch.toNat
    let x := s.chan k c
    let io := s.moverIssuer k c
    (s.live = true → s.chanWriter m.toNat lvl.toNat k c = true →
      (s.get (MVR_CH_STATUS_STATE k c) = 0 → s.flag (MVR_CH_CFG_EN k c) = true → Gives s (.moverGo m lvl k ch) fun u =>
        u.get (MVR_CH_STATUS_STATE k c) = 1 ∧ u.chan k c = { desc := s.chDesc k c } ∧ u.mem = s.mem ∧ u.fcu = s.fcu) ∧
      (s.get (MVR_CH_STATUS_STATE k c) = 2 → Gives s (.moverResume m lvl k ch) fun u =>
        u.get (MVR_CH_STATUS_STATE k c) = 1 ∧ Sys2Proof.Statements.RegsOnly s u) ∧
      (s.get (MVR_CH_STATUS_STATE k c) ≠ 0 → Gives s (.moverAbort m lvl k ch) fun u =>
        u.get (MVR_CH_STATUS_STATE k c) = 0 ∧ u.get (MVR_CH_STATUS_CODE k c) = 0x16 ∧ u.chan k c = {})) ∧
    (s.chanWriter m.toNat lvl.toNat k c = false →
      Ignored s (.moverGo m lvl k ch) ∧ Ignored s (.moverResume m lvl k ch) ∧ Ignored s (.moverAbort m lvl k ch)) ∧
    (let a := s.chDesc k c
     s.chanRuns k c = true → x.loaded = false → s.descPlace a = true → Sys2Proof.Statements.MoverClear s io a 32 .load false →
       (descGood (s.le a 8) (s.le (a + 8) 8) (s.le (a + 16) 4) (s.le (a + 20) 2) (s.le (a + 24) 8) = true → Gives s (.moverDescriptorFetch k ch) fun u =>
         u.chan k c = { desc := a, src := BitVec.ofNat 64 (s.le a 8), dst := BitVec.ofNat 64 (s.le (a + 8) 8), len := s.le (a + 16) 4,
                        flags := s.le (a + 20) 2, next := BitVec.ofNat 64 (s.le (a + 24) 8), loaded := true } ∧
         u.regs = s.regs ∧ u.mem = s.mem ∧ u.fcu = s.fcu) ∧
       (descGood (s.le a 8) (s.le (a + 8) 8) (s.le (a + 16) 4) (s.le (a + 20) 2) (s.le (a + 24) 8) = false → Gives s (.moverDescriptorFetch k ch) fun u =>
         u.get (MVR_CH_STATUS_STATE k c) = 2 ∧ u.get (MVR_CH_STATUS_CODE k c) = 0x15 ∧
         (u.pair (243 + k)).todo.length = (s.pair (243 + k)).todo.length + 1)) ∧
    (let src := x.src.toNat + x.done
     let dst := x.dst.toNat + x.done
     s.moverNext k = some c → x.flags % 2 = 0 → Sys2Proof.Statements.MoverClear s io src x.burst .load false →
       Sys2Proof.Statements.MoverClear s io dst x.burst .store true → Gives s (.moverBurst k ch []) fun u =>
         u.bytes dst x.burst = ascending (dst - src) x.burst (s.bytes src x.burst) ∧ (∀ a, a < dst ∨ dst + x.burst ≤ a → u.byte a = s.byte a) ∧
         u.chan k c = { x with done := x.done + x.burst } ∧ u.regs = s.regs ∧ u.fcu = s.fcu) ∧
    (s.chanRuns k c = true → x.loaded = true → x.len ≤ x.done → x.desc % 32 = 0 → s.check io (x.desc + 0x16) 2 .store = .ok →
      isDevice (x.desc + 0x16) = false → s.busError (x.desc + 0x16) true = false → s.errOf (x.desc / 8 + 2) = .good → s.injectAt (x.desc / 8 + 2) = false →
      Gives s (.moverDescriptorComplete k ch) fun u =>
        let code := if x.retried then 2 else 1
        u.le (x.desc + 0x16) 2 = code ∧ u.get (MVR_CH_STATUS_CODE k c) = code ∧
        u.get (MVR_CH_STATUS_STATE k c) = (if x.next = 0 then 0 else 1) ∧ u.chan k c = (if x.next = 0 then {} else { desc := x.next.toNat }) ∧
        (x.flags / 2 % 2 = 1 → u.eventPending (64 + 64 * k + c) = true) ∧ u.fcu = s.fcu)

/-! ## The Debug gate, Roadworks and the TAP -/

/-- Debug accesses (R437 to R452). The debug master at Deep halts, steps and resumes a triad; Roadworks, at level 1 or 2, arms an injection, breaks a pair, perturbs, and
ends it all; ten minutes without use close the gate. The TAP's instructions load as R443 says, EXTEST, CLAMP and HIGHZ only while the device is not armed; a debug access reaches memory as unit 27 and
answers its status and data. -/
def Obligations.DebugAndRoadworks : Prop :=
  ∀ (s : State) (m : BitVec 8) (lvl : BitVec 2) (v : Word) (c : Fin 19),
    let open_ := s.live = true ∧ 1 ≤ s.get DBG_STATUS_LEVEL ∧ (m = 0x7F ∨ m = 0 ∧ 2 ≤ lvl.toNat)
    (s.live = true → m = 0x7F → 2 ≤ s.get DBG_STATUS_LEVEL →
      (v.getLsbD 1 = true → v.getLsbD 2 = false → s.flag (DBG_CORE_HALTED c) = false → (s.triad c).run = .running → c.val = 0 ∨ s.eng.running = none →
        Gives s (.haltCmd m lvl c v) fun u => (u.triad c).run = .stopped ∧ u.flag (DBG_CORE_HALT c) = true ∧ u.flag (DBG_CORE_HALTED c) = true ∧
          (c.val = 0 → u.flag MBX_CTRL_PROSAL_UP = false) ∧ u.mem = s.mem) ∧
      (v.getLsbD 1 = true → v.getLsbD 2 = true → s.flag (DBG_CORE_HALTED c) = true → (s.triad c).run = .stopped → Gives s (.triadStep m lvl c v) fun u =>
        (u.triad c).run = .running ∧ (u.triad c).stepping = true ∧ u.flag (DBG_CORE_HALTED c) = false ∧ u.flag (DBG_CORE_HALT c) = s.flag (DBG_CORE_HALT c)) ∧
      (v.getLsbD 1 = false → v.getLsbD 2 = false → (s.triad c).run = .stopped → Gives s (.resumeCmd m lvl c v) fun u =>
        u.triad c = { s.triad c with run := .running, stepping := false } ∧ u.flag (DBG_CORE_HALT c) = false ∧ u.flag (DBG_CORE_HALTED c) = false)) ∧
    (m ≠ 0x7F ∨ s.get DBG_STATUS_LEVEL < 2 → Ignored s (.haltCmd m lvl c v) ∧ Ignored s (.triadStep m lvl c v) ∧ Ignored s (.resumeCmd m lvl c v)) ∧
    (open_ → v.getLsbD 31 = true → s.flag RWK_INJECT_BUSY = false → v.toNat / 2 ^ 27 % 8 = 1 ∨ v.toNat / 2 ^ 27 % 8 = 4 → v.toNat % 2 ^ 16 ≠ 0 →
      Gives s (.injectGo m lvl v) fun u => u.flag RWK_INJECT_BUSY = true ∧ u.get RWK_INJECT_KIND = v.toNat / 2 ^ 27 % 8 ∧ u.rwk.left = v.toNat % 2 ^ 16) ∧
    (open_ → v.getLsbD 31 = true → s.flag RWK_BREAK_BUSY = false → v.toNat % 2 ^ 16 ≠ 0 → (fcRow (v.toNat / 2 ^ 16 % 2 ^ 9)).isSome = true →
      s.get (FCU_CH_CFG_SEV (v.toNat / 2 ^ 16 % 2 ^ 9)) < 6 → Gives s (.breakGo m lvl v) fun u =>
        u.flag RWK_BREAK_BUSY = true ∧ u.get RWK_BREAK_CHANNEL = v.toNat / 2 ^ 16 % 2 ^ 9 ∧ u.rwk.breakEnd = s.up + 250 * (v.toNat % 2 ^ 16) ∧
        u.eventPending 9 = true ∧ (u.pair 306).todo.length = (s.pair 306).todo.length + 1) ∧
    (s.flag RWK_BREAK_BUSY = true → Gives s .breakEnd fun u => u.flag RWK_BREAK_BUSY = false ∧ u.mem = s.mem ∧ u.fcu = s.fcu) ∧
    (open_ → v.getLsbD 0 = true → Gives s (.allOff m lvl v) fun u =>
      u.flag RWK_INJECT_BUSY = false ∧ u.flag RWK_BREAK_BUSY = false ∧ u.reg RWK_SKEW = 0 ∧ u.reg RWK_FABRIC = 0 ∧ u.reg RWK_DRAM = 0 ∧ u.rwk = {}) ∧
    (open_ → v.toNat % 64 ≤ 19 → Gives s (.perturbationWrite m lvl (BitVec.ofNat 22 (RWK_SKEW - 0x60000000)) v) fun u =>
      u.get RWK_SKEW_STEPS = v.toNat % 64 ∧ (u.pair 5).cond = none) ∧
    (s.get DBG_STATUS_LEVEL ≠ 0 → Gives s .unlockTimeout fun u => u.get DBG_STATUS_LEVEL = 0 ∧ u.eventPending 8 = true ∧ u.flag RWK_INJECT_BUSY = false) ∧
    (Gives s .bypassCmd fun u => u = { s with jtag := { s.jtag with ir := 0x3F }, pins := u.pins }) ∧
    (∀ q ∈ [Instr.idcode, .testLogicReset], Gives s q fun u => u = { s with jtag := { s.jtag with ir := 1 }, pins := u.pins }) ∧
    (∀ cells, Gives s (.samplePreload cells) fun u =>
      u = { s with jtag := { s.jtag with ir := 2, cells := cells, sampled := some s.pinsOf }, pins := u.pins }) ∧
    (∀ q ∈ [(Instr.extest, 3, 1), (.clampCmd, 4, 1), (.highz, 5, 2)], Gives s q.1 fun u =>
      (s.flag FCU_STATUS_ARMED = false → u = { s with jtag := { s.jtag with ir := q.2.1 }, pins := u.pins } ∧ u.pins.scan = q.2.2) ∧
      (s.flag FCU_STATUS_ARMED = true → u = { s with jtag := { s.jtag with ir := 0x3F }, pins := u.pins } ∧ u.pins.scan = 0)) ∧
    (∀ (a : BitVec 40) (d : Word), s.live = true → s.option0 3 = false → a.toNat % 4 = 0 →
      let w := (s.tap 0x10).gateUsed
      (∀ bs, (w.inRead (w.inboundIssuer 0x7F 27) a.toNat 4).2 = .ok bs → bs ≠ [] → Gives s (.dbgAccess a d false) fun u =>
        u.jtag.status = 0 ∧ u.jtag.data = BitVec.ofNat 32 (leVal bs)) ∧
      ((w.inWrite (w.inboundIssuer 0x7F 27) a.toNat (leBytes 4 d.toNat)).2 = .ok [] → Gives s (.dbgAccess a d true) fun u => u.jtag.status = 0))

/-! ## The host interface -/

/-- A write to the host registers reaches them: from the supervisor at Roadbed, PCIe or QSPI (R436). -/
def Sys2Proof.Statements.HostWrites (s : State) (m : BitVec 8) (lvl : BitVec 2) : Prop :=
  s.live = true ∧ (m = 0 ∧ 2 ≤ lvl.toNat ∨ m = 0x60 ∨ m = 0x61)

/-- Mailboxes, host vectors and parameter rings (R354, R404 to R408, R410, R412, R425 to R428, R432, R435). A doorbell posts a FREE mailbox with its event, or has it answered BUSY at once while nobody
serves; a release frees an answered one; either in a wrong state is counted and raises FC 23. Vectors clear by ones. A producer write offers entries; the engine takes them in turn, or halts the
ring when the fetch fails. Prosal, once started, takes the first posted mailbox: its length, its CRC, a repeat, then the command. -/
def Obligations.MailboxesAndRings : Prop :=
  ∀ (s : State) (m : BitVec 8) (lvl : BitVec 2) (v : Word) (k : Fin 16) (bad : LedgerBad) (pass : Bool),
    (Sys2Proof.Statements.HostWrites s m lvl → v = BitVec.ofNat 32 (2 ^ k.val) →
      (s.get (MBX_STATE_STATE k) = 0 → s.serves = true → Gives s (.doorbell m lvl v) fun u =>
        u.get (MBX_STATE_STATE k) = 1 ∧ u.host.posted = s.host.posted ++ [k.val] ∧ u.eventPending (16 + k) = true ∧ u.mem = s.mem ∧
        ∀ j : Fin 16, j ≠ k → u.get (MBX_STATE_STATE j) = s.get (MBX_STATE_STATE j)) ∧
      (s.get (MBX_STATE_STATE k) = 0 → s.prosalUp = false → s.boot ≠ .recovery → Gives s (.doorbell m lvl v) fun u =>
        u.get (MBX_STATE_STATE k) = 3 ∧ u.le (mboxAddr k + 8) 2 = 1 ∧ u.le (mboxAddr k) 4 = s.le (mboxAddr k) 4 ∧ u.host.posted = s.host.posted) ∧
      (s.get (MBX_STATE_STATE k) = 3 → Gives s (.mailboxRelease m lvl v) fun u =>
        u.get (MBX_STATE_STATE k) = 0 ∧ Sys2Proof.Statements.RegsOnly s u ∧ ∀ a, a ≠ MBX_STATE → u.reg a = s.reg a) ∧
      (∀ c, (c = .doorbell m lvl v ∧ s.get (MBX_STATE_STATE k) ≠ 0) ∨ (c = .mailboxRelease m lvl v ∧ s.get (MBX_STATE_STATE k) ≠ 3) → Gives s c fun u =>
        u.get (MBX_STATE_STATE k) = s.get (MBX_STATE_STATE k) ∧ u.get MBX_VIOL_STATE = min (s.get MBX_VIOL_STATE + 1) 255 ∧
        (u.pair 23).todo.length = (s.pair 23).todo.length + 1 ∧ u.host = s.host ∧ u.mem = s.mem)) ∧
    (Sys2Proof.Statements.HostWrites s m lvl → Gives s (.irqPendClear m lvl v) fun u =>
      u.reg MBX_IRQ_PEND = s.reg MBX_IRQ_PEND &&& ~~~v ∧ Sys2Proof.Statements.RegsOnly s u ∧ ∀ a, a ≠ MBX_IRQ_PEND → u.reg a = s.reg a) ∧
    (∀ r : Fin 8, Sys2Proof.Statements.HostWrites s m lvl → m ≠ 0x61 →
      let held := (v.toNat + 2 ^ 32 - (s.reg (MBX_RING_CONS r)).toNat) % 2 ^ 32
      (s.flag (MBX_RING_STAT_ON r) = false ∨ held ≤ 2 ^ (s.ring r).log2 → Gives s (.ringProducerWrite m lvl r v) fun u =>
        u.reg (MBX_RING_PROD r) = v ∧ u.eventPending (32 + r) = true ∧ u.get (MBX_RING_STAT_HALT r) = s.get (MBX_RING_STAT_HALT r) ∧ u.mem = s.mem) ∧
      (s.flag (MBX_RING_STAT_ON r) = true → 2 ^ (s.ring r).log2 < held → Gives s (.ringProducerWrite m lvl r v) fun u =>
        u.flag (MBX_RING_STAT_ON r) = false ∧ u.flag (MBX_RING_STAT_HALT r) = true ∧ u.get (MBX_RING_STAT_HALT_CAUSE r) = 1)) ∧
    (∀ (r : Fin 8) (e : EntryList), s.ringNext = some r.val →
      (e.length % 4 = 0 → 4 ≤ e.length → e.length ≤ 4 * min 32 (s.ringHeld r) → 3 ≤ s.get SOV_STATUS_ROLE → Gives s (.ringService r e true) fun u =>
        u.reg (MBX_RING_CONS r) = s.reg (MBX_RING_CONS r) + BitVec.ofNat 32 (e.length / 4) ∧ u.host.ringTurn = r ∧ u.eng = s.eng) ∧
      (∀ w0 w1 w2 w3 : Word, s.get SOV_STATUS_ROLE < 2 → Gives s (.ringService r [w0, w1, w2, w3] true) fun u =>
        u.reg (MBX_RING_CONS r) = s.reg (MBX_RING_CONS r) + 1 ∧ u.host.ringTurn = r ∧
        u.eng = ((s.acceptEntry ([w0, w1, w2, w3].flatMap fun w => leBytes 4 w.toNat)).1).eng) ∧
      (Gives s (.ringService r e false) fun u => u.flag (MBX_RING_STAT_ON r) = false ∧ u.flag (MBX_RING_STAT_HALT r) = true ∧
        u.get (MBX_RING_STAT_HALT_CAUSE r) = 2 ∧ (u.pair 23).todo.length = (s.pair 23).todo.length + 1 ∧ u.reg (MBX_RING_CONS r) = s.reg (MBX_RING_CONS r))) ∧
    (s.boot = .firmware → s.prosalUp = false → s.flag (DBG_CORE_HALTED 0) = false → Gives s .prosalStart fun u =>
      u.prosalUp = true ∧ (u.reg MBX_IRQ_PEND).getLsbD 29 = true ∧ (u.triad 0).evrbase = 0x100 ∧ u.flag LDG_LOCK_KEY_READ = true ∧ u.host.planned = false) ∧
    (∀ rest, s.host.posted = k.val :: rest → s.ready k = true →
      let op := s.mboxLe k 0 2
      let n := s.mboxLe k 4 2
      let crc := crc32c (s.bytes (mboxAddr k) (16 + n))
      let old := Sparse.get (fun _ => (0, (0 : Word), [])) s.host.last k
      (lengthGood n = false → Gives s (.commandTake bad pass) fun u => u.get (MBX_STATE_STATE k) = 3 ∧ u.le (mboxAddr k + 8) 2 = 3 ∧
        u.get MBX_VIOL_LENGTH = min (s.get MBX_VIOL_LENGTH + 1) 255 ∧ k.val ∉ u.host.posted) ∧
      (lengthGood n = true → s.mboxLe k (16 + n) 4 ≠ crc.toNat → Gives s (.commandTake bad pass) fun u => u.get (MBX_STATE_STATE k) = 3 ∧
        u.le (mboxAddr k + 8) 2 = 2 ∧ u.get MBX_VIOL_CRC = min (s.get MBX_VIOL_CRC + 1) 255 ∧ k.val ∉ u.host.posted) ∧
      (lengthGood n = true → s.mboxLe k (16 + n) 4 = crc.toNat → op ≠ 0x0703 →
        (old.2.2 = [] ∨ old.1 ≠ s.mboxLe k 2 2 ∨ old.2.1 ≠ crc → exec (.commandTake bad pass) s =
          .next ((s.serve k op (s.bytes (mboxAddr k + 16) n) fun t => t.command k op (s.bytes (mboxAddr k + 16) n) bad pass).afterOp k op).drivePins) ∧
        (old.2.2 ≠ [] → old.1 = s.mboxLe k 2 2 → old.2.1 = crc → Gives s (.commandTake bad pass) fun u =>
          u.get (MBX_STATE_STATE k) = 3 ∧ u.bytes (mboxAddr k) old.2.2.length = old.2.2 ∧ k.val ∉ u.host.posted ∧ u.eng = s.eng)))

/-- `n` bytes at `a` are memory an inbound master may reach: permitted, no device, answered, with good check bits. -/
def Sys2Proof.Statements.InboundClear (s : State) (io : Issuer) (a n : Nat) (k : AccKind) (write : Bool) : Prop :=
  1 ≤ n ∧ s.inboundCheck io a n k = .ok ∧ isDevice a = false ∧
    ∀ w ∈ wordsOf a n, s.busError (8 * w) write = false ∧ s.errOf w = .good ∧ s.injectAt w = false

/-- The host reaches memory through PCIe and QSPI (R401, R402, R263, R289): a permitted write changes its bytes alone, a permitted read answers them; a range that maps nothing is an
Unsupported Request, an uncorrectable word a Completer Abort; QSPI answers status and data, and STATUS the last write's. -/
def Obligations.HostMastersReachMemory : Prop :=
  ∀ (s : State) (bar2 : Bool) (off : BitVec 32) (bs : ByteList) (n : BitVec 13) (a : BitVec 24) (k : BitVec 16) (p : Nat) (code : Byte),
    let pcie := s.inboundIssuer 0x60 23
    let qspi := s.inboundIssuer 0x61 24
    s.live = true →
    (s.flag MBX_CTRL_PCIE_EN = true →
      (s.barRange bar2 off.toNat bs.length = some p → Sys2Proof.Statements.InboundClear s pcie p bs.length .store true → Gives s (.pcieInboundWrite bar2 off bs) fun u =>
        u.bytes p bs.length = bs ∧ (∀ x, x < p ∨ p + bs.length ≤ x → u.byte x = s.byte x) ∧ u.regs = s.regs ∧ u.triads = s.triads) ∧
      (s.barRange bar2 off.toNat n.toNat = some p → Sys2Proof.Statements.InboundClear s pcie p n.toNat .load false → Gives s (.pcieInboundRead bar2 off n) fun u =>
        u = { s with host := { s.host with cpl := (0, s.bytes p n.toNat) }, pins := u.pins }) ∧
      (s.barRange bar2 off.toNat n.toNat = none → Gives s (.pcieInboundRead bar2 off n) fun u =>
        u = { s with host := { s.host with cpl := (1, []) }, pins := u.pins }) ∧
      (s.barRange bar2 off.toNat n.toNat = some p → s.inboundCheck pcie p n.toNat .load = .ok → isDevice p = false →
        s.rangeError p n.toNat false = false → (s.readChecks (raiseOf pcie 10) (wordsOf p n.toNat)).2.isSome = true →
        Gives s (.pcieInboundRead bar2 off n) fun u => u.host.cpl = (2, []) ∧ u.mem = s.mem)) ∧
    (s.flag MBX_CTRL_QSPI_EN = true →
      (s.qspiRange a.toNat bs.length = some p → (a.toNat + bs.length) % 4 = 0 → Sys2Proof.Statements.InboundClear s qspi p bs.length .store true →
        Gives s (.qspiWrite a bs) fun u => u.bytes p bs.length = bs ∧ u.host.qstat = 0 ∧ ∀ x, x < p ∨ p + bs.length ≤ x → u.byte x = s.byte x) ∧
      (s.qspiRange a.toNat k.toNat = some p → Sys2Proof.Statements.InboundClear s qspi p k.toNat .load false → Gives s (.qspiRead a k) fun u =>
        u = { s with host := { s.host with qout := 0 :: s.bytes p k.toNat }, pins := u.pins }) ∧
      (code ≠ 0x02 → code ≠ 0x0B → Gives s (.qspiStatus code) fun u =>
        u = { s with host := { s.host with qout := [if code = 0x05 then BitVec.ofNat 8 s.host.qstat else 2] }, pins := u.pins }))

/-! ## The network, Junction and the TDM ports -/

/-- The sample a routing point holds. -/
def Sys2Proof.Statements.Point (s : State) (p : Nat) : Word := Sparse.get (fun _ => 0) s.points p

/-- A frame that a port turns away, with the register field that counts it (R201, R208, R223). -/
def Sys2Proof.Statements.TurnedAway (s : State) (k : Fin 4) (c : FrameClass) (f : Fld) : Prop :=
  c = .size ∧ f = NP_ERR_L2_SIZE k ∨ c = .nonIpv4 ∧ f = NP_ERR_L3_NON_IPV4 k ∨ c = .ipHdr ∧ f = NP_ERR_L3_IP_HDR k ∨
    c = .noUdp ∧ f = NP_ERR_RTP_NO_STREAM k ∨
    (∃ src dst port good pay, c = .udp src dst port good pay ∧ s.matchStream k src dst port = none) ∧ f = NP_ERR_RTP_NO_STREAM k

/-- A frame's codewords pass: RS-FEC corrected them, or the port runs without it (R200, R223). -/
def Sys2Proof.Statements.Whole (s : State) (k : Fin 4) (fec : FecResult) : Prop := fec = .uncorrectable → s.get (NP_CTRL_SPEED k) ≠ 1

/-- Placing the samples of a packet whose first is `n`: those already held keep their words, the others enter the jitter buffer in Depot, and no
byte outside their words changes (R209 to R211). -/
def Sys2Proof.Statements.Placed (s u : State) (r r' : RxStream) (n : Nat) (pay : List Byte) : Prop :=
  (∀ x < fmtP r.format, n + x ∈ r'.held ∧ ∀ ch < r.channels,
    u.jitterWord r' (n + x) ch = if n + x ∈ r.held then s.jitterWord r (n + x) ch else payloadSample r pay ch x) ∧
    ∀ a, (∀ x < fmtP r.format, ∀ ch < r.channels, a < s.jitterAddr r (n + x) ch ∨ s.jitterAddr r (n + x) ch + 4 ≤ a) → u.byte a = s.byte a

/-- Frames received, samples presented, legs lost (R200, R206 to R213, R223). A frame in error is counted and nothing else, a codeword that RS-FEC corrected or could not
is counted at 25 Gb/s; a packet of a stream that is in time places every sample
its stream does not hold yet; one that its Tollgate refuses (R289) or that is too late is counted and places none. At its frame boundary a stream presents its sample to its routing points, or 0 before its first packet, or conceals. A leg or a
stream without packets is reported. -/
def Sys2Proof.Statements.NetworkPortsReceiveStreams : Prop :=
  ∀ (s : State) (k : Fin 4) (fec : FecResult) (bs : ByteList) (i : BitVec 12) (blue : Bool),
    let c := classifyFrame (s.get (NP_CTRL_VID k)) bs
    (s.portUp k = true → Gives s (.frameReceive k ⟨fec, false⟩ bs) fun u =>
      u.get (NP_ERR_L2_FCS k) = min (s.get (NP_ERR_L2_FCS k) + 1) 65535 ∧ Sys2Proof.Statements.RegsOnly s u ∧ u.get (NP_RX_FRAMES_COUNT k) = s.get (NP_RX_FRAMES_COUNT k)) ∧
    (s.portUp k = true → s.get (NP_CTRL_SPEED k) = 1 →
      (Gives s (.frameReceive k ⟨.uncorrectable, true⟩ bs) fun u => u.get (NP_FEC_UNCORR k) = min (s.get (NP_FEC_UNCORR k) + 1) 65535 ∧
        u.get (NP_ERR_L2_FCS k) = min (s.get (NP_ERR_L2_FCS k) + 1) 65535 ∧ Sys2Proof.Statements.RegsOnly s u) ∧
      Gives s (.frameReceive k ⟨.corrected, false⟩ bs) fun u => u.get (NP_FEC_CORR k) = min (s.get (NP_FEC_CORR k) + 1) 65535 ∧ Sys2Proof.Statements.RegsOnly s u) ∧
    (∀ f, s.portUp k = true → Sys2Proof.Statements.Whole s k fec → Sys2Proof.Statements.TurnedAway s k c f → Gives s (.frameReceive k ⟨fec, true⟩ bs) fun u =>
      u.get f = min (s.get f + 1) 65535 ∧ Sys2Proof.Statements.RegsOnly s u ∧
      u.get (NP_RX_FRAMES_COUNT k) = (s.get (NP_RX_FRAMES_COUNT k) + if c = .size then 0 else 1) % 2 ^ 32) ∧
    (s.portUp k = false → Ignored s (.frameReceive k ⟨fec, true⟩ bs)) ∧
    (∀ src dst port pay j r leg p, s.portUp k = true → Sys2Proof.Statements.Whole s k fec → c = .udp src dst port true pay → s.matchStream k src dst port = some (j, r, leg) → j < 4096 →
      readRtp r pay = some p → r.channels ≤ 64 → fmtP r.format ≤ 2 ^ r.depthLog →
      let fs := rateHz (fmtRate r.format)
      let n := recoverN (sampleCount fs s.time) r.offset p.ts
      let present := sampleTime fs (n + r.lo)
      let placed := s.time + s.get (RWK_NET_RX_HOLD k) * 1000
      (placed ≤ s.lastArrival present → (present - placed) * fs ≤ (2 ^ r.depthLog - fmtP r.format) * 1000000000 → s.placeCheck r n = .ok →
        Gives s (.frameReceive k ⟨fec, true⟩ bs) fun u => u.points = s.points ∧
          u.get (NP_RX_FRAMES_COUNT k) = (s.get (NP_RX_FRAMES_COUNT k) + 1) % 2 ^ 32 ∧
          ∃ r', u.rxAt j = some r' ∧ Sys2Proof.Statements.Placed s u r r' n p.payload) ∧
      (∀ a, placed ≤ s.lastArrival present → (present - placed) * fs ≤ (2 ^ r.depthLog - fmtP r.format) * 1000000000 → s.placeCheck r n = .own a →
        Gives s (.frameReceive k ⟨fec, true⟩ bs) fun u => u.points = s.points ∧ u.mem = s.mem ∧
          u.get (TG_STATUS_REFUSALS 25) = min (s.get (TG_STATUS_REFUSALS 25) + 1) 65535 ∧ (u.pair 240).todo.length = (s.pair 240).todo.length + 1 ∧
          u.get (NPE_RXSTAT_STATE j) = s.get (NPE_RXSTAT_STATE j) ∧ ∃ r', u.rxAt j = some r' ∧ r'.held = r.held) ∧
      (s.lastArrival present < placed → Gives s (.frameReceive k ⟨fec, true⟩ bs) fun u => u.points = s.points ∧ u.mem = s.mem ∧
        u.get NPE_STREAM_ERR_LATE = min (s.get NPE_STREAM_ERR_LATE + 1) 65535 ∧ ∃ r', u.rxAt j = some r' ∧ r'.held = r.held)) ∧
    (∀ r m, s.rxAt i.toNat = some r → r.next = some m →
      let st := s.get (NPE_RXSTAT_STATE i.toNat)
      let here := r.held.contains (m - r.lo)
      (here = true ∨ st = 1 ∨ st = 2 ∧ s.net.hostConceal = false ∧ r.episode = false → Gives s (.samplePresent i) fun u =>
        u.time = max s.time (sampleTime (rateHz (fmtRate r.format)) m) ∧ (∃ r', u.rxAt i.toNat = some r' ∧ r'.next = some (m + 1)) ∧ u.mem = s.mem ∧
        (∀ ch < r.channels, Sys2Proof.Statements.Point u (r.firstCh + ch) =
          if here = true then s.jitterWord r (m - r.lo) ch else if st = 1 then 0 else r.concealed r.conceal ch) ∧
        (∀ p, p < r.firstCh ∨ r.firstCh + r.channels ≤ p → Sys2Proof.Statements.Point u p = Sys2Proof.Statements.Point s p) ∧
        u.get (NPE_RXSTAT_STATE i.toNat) = if here = true then st else if st = 1 then 1 else 3)) ∧
    (∀ r, s.rxAt i.toNat = some r → (r.leg blue).lost = false → fmtProt r.format = true ∨ blue = false → Gives s (.legLoss i blue) fun u =>
      u.flag (legOk i.toNat blue) = false ∧ (u.pair 252).todo.length = (s.pair 252).todo.length + 1 ∧
      u.time = max s.time ((r.leg blue).lastAt + r.absentMs * 1000000) ∧ u.points = s.points ∧
      ∃ r', u.rxAt i.toNat = some r' ∧ (r'.leg blue).lost = true ∧ r'.held = r.held) ∧
    (∀ r, s.rxAt i.toNat = some r → s.get (NPE_RXSTAT_STATE i.toNat) ≠ 4 → Gives s (.streamAbsent i) fun u =>
      u.get (NPE_RXSTAT_STATE i.toNat) = 4 ∧ (u.pair 253).todo.length = (s.pair 253).todo.length + 1 ∧
      u.time = max s.time (r.lastAt + r.absentMs * 1000000) ∧ u.points = s.points)

/-- Packets launched and links (R206, R207, R215 to R219, R223). At its launch instant a packet whose samples are all there leaves on the legs this device
sends, after a lower stream's packet of the same instant on its ports; one with a sample missing, or in the safe state, is skipped and counted. A link that goes down clears its status and raises its channel. -/
def Sys2Proof.Statements.NetworkPortsLaunchPackets : Prop :=
  ∀ (s : State) (k : Fin 4) (i : BitVec 12),
    (∀ x, s.txAt i.toNat = some x →
      let n := s.nextPacket x
      let p := fmtP x.format
      let legs := s.legsOf x (sampleTime (rateHz (fmtRate x.format)) (n * p))
      let whole := (List.range p).all fun j => (List.range x.channels).all fun c => (bufAt x.buf (n * p + j) c).isSome
      let up := (legs.1 && s.portUp x.ports) || (legs.2 && s.portUp (x.ports + 1))
      s.lowerFirst i.toNat x = false →
      (s.flag FCU_STATUS_SAFE = false → whole = true → Gives s (.packetLaunch i) fun u =>
        u.get (NPE_TXSTAT_SKIPPED i.toNat) = (if (legs.1 || legs.2) = true ∧ up = false then min (s.get (NPE_TXSTAT_SKIPPED i.toNat) + 1) 65535
          else s.get (NPE_TXSTAT_SKIPPED i.toNat)) ∧
        u.get (NPE_TXSTAT_STATE i.toNat) = 1 ∧ u.time = max s.time (launchAt x n + s.get (RWK_NET_TX_HOLD x.ports) * 1000) ∧
        (∃ x', u.txAt i.toNat = some x' ∧ x'.last = some n) ∧ u.points = s.points ∧ u.mem = s.mem ∧
        (legs.1 = true → s.portUp x.ports = true →
          Sparse.get (fun _ => []) u.net.sent x.ports = packetBytes x x.red n fun a c => (bufAt x.buf a c).getD 0) ∧
        (legs.2 = true → s.portUp (x.ports + 1) = true →
          Sparse.get (fun _ => []) u.net.sent (x.ports + 1) = packetBytes x x.blue n fun a c => (bufAt x.buf a c).getD 0)) ∧
      (s.flag FCU_STATUS_SAFE = true ∨ whole = false → Gives s (.packetLaunch i) fun u =>
        u.get (NPE_TXSTAT_SKIPPED i.toNat) = min (s.get (NPE_TXSTAT_SKIPPED i.toNat) + 1) 65535 ∧ u.get (NPE_TXSTAT_STATE i.toNat) = 2 ∧
        u.net.sent = s.net.sent ∧ ∃ x', u.txAt i.toNat = some x' ∧ x'.last = some n)) ∧
    (∀ x, s.txAt i.toNat = some x → s.lowerFirst i.toNat x = true → Ignored s (.packetLaunch i)) ∧
    (s.flag (NP_STATUS_LINK k) = true → Gives s (.linkDown k) fun u =>
      u.flag (NP_STATUS_LINK k) = false ∧ u.flag (NP_STATUS_BLOCK_LOCK k) = false ∧ u.flag (NP_STATUS_FEC_ALIGN k) = false ∧
      (u.pair (248 + k)).todo.length = (s.pair (248 + k)).todo.length + 1 ∧ u = { s with regs := u.regs, fcu := u.fcu, pins := u.pins }) ∧
    (s.get (NP_CTRL_SPEED k) ≠ 0 → Gives s (.linkUp k) fun u =>
      u.flag (NP_STATUS_LINK k) = true ∧ u.flag (NP_STATUS_BLOCK_LOCK k) = true ∧ u.flag (NP_STATUS_FEC_ALIGN k) = (s.get (NP_CTRL_SPEED k) == 1) ∧
      k.val ∉ u.host.recal ∧ u.net = s.net ∧ u.fcu = s.fcu) ∧
    (s.get (NP_CTRL_SPEED k) = 0 → Ignored s (.linkUp k))

/-- A sample of a route reaches its destination (R178, R482): the ring of a partition input or a Depot buffer, a TDM slot with the time of its frame
boundary, a transmit channel of its stream's sample, an express input, and a buffer's routing point. -/
def Sys2Proof.Statements.Delivered (s : State) (im : Image) (m : Move) (v : Word) (u : State) : Prop :=
  let r := m.route
  (r.kind = 0 ∨ r.kind = 4 → Sparse.get (fun _ => []) u.jct.ring r.key =
      (v :: Sparse.get (fun _ => []) s.jct.ring r.key).take (2 * blockSamples im.bsize)) ∧
    (r.kind = 1 → ∃ t old, Sparse.get (fun _ => []) (u.tdmPort r.unit).out r.index = (t, v) :: old ∧ s.frameStart ≤ t) ∧
    (r.kind = 2 → ∀ x, s.txAt r.unit = some x → ∃ x', u.txAt r.unit = some x' ∧
      bufAt x'.buf (sampleCount (rateHz (fmtRate x.format)) s.frameStart + m.j) r.index = some v) ∧
    (r.kind = 3 → Sparse.get (fun _ => 0) u.exp.inp (2 * r.unit + r.index) = v) ∧
    (r.kind = 4 → Sys2Proof.Statements.Point u (0x4400 + r.unit) = v)

/-- Junction moves words and checks them (R178, R184, R482). A good word of one sample of a route at one rate delivers the point's sample to the destination; a corrected one is counted; of
an uncorrectable one an output slot takes 0, with the UE flag and channel 229. -/
def Obligations.JunctionMovesWords : Prop :=
  ∀ (s : State) (p q : Fin 48) (w : BitVec 13) (im : Image) (m : Move) (a : Nat),
    (s.wordMoves p q w.toNat ≠ [] → s.armed [4, 5] = false →
      (Gives s (.junctionTransfer p q w .good) fun u => u.regs = s.regs ∧ u.fcu = s.fcu ∧ u.mem = s.mem ∧ u.triads = s.triads) ∧
      (Gives s (.junctionTransfer p q w .correctable) fun u =>
        u.get JCT_ECC_CE_COUNT = min (s.get JCT_ECC_CE_COUNT + 1) 65535 ∧ u.fcu = s.fcu ∧ u.mem = s.mem) ∧
      (Gives s (.junctionTransfer p q w .uncorrectable) fun u =>
        u.get JCT_ECC_UE_COUNT = min (s.get JCT_ECC_UE_COUNT + 1) 65535 ∧ u.flag JCT_STATUS_UE = true ∧
        (u.pair 229).todo.length = (s.pair 229).todo.length + 1 ∧ u.mem = s.mem)) ∧
    (s.wordMoves p q w.toNat = [(im, m)] → s.armed [4, 5] = false → s.sourceRate im m.route.source = some a → s.destRate im m.route = some a →
      (family a = family im.rate → Gives s (.junctionTransfer p q w .good) (Sys2Proof.Statements.Delivered s im m (s.moveValue [(im, m)] (im, m)))) ∧
      (family a = family im.rate → m.route.kind = 1 → Gives s (.junctionTransfer p q w .uncorrectable) (Sys2Proof.Statements.Delivered s im m 0)) ∧
      (family a ≠ family im.rate → Gives s (.junctionTransfer p q w .good) fun u => u = { s with pins := u.pins })) ∧
    (s.wordMoves p q w.toNat = [] → Ignored s (.junctionTransfer p q w .good))

/-- A TDM input sample of width `w` bits in the high bits of its routing point (R236). -/
def Sys2Proof.Statements.TdmIn (w : Nat) (v : Word) : Word := BitVec.ofNat 32 (v.toNat / 2 ^ (32 - w) * 2 ^ (32 - w))

/-- The TDM ports (R234 to R240). A write of FORMAT stores its fields, silences the port and restarts it, or rejects a configuration it cannot run. A frame sends the slots the routes give and,
in a running port, presents the slots received; a slave's frame of the wrong length reads 0 and counts. A port runs after its clean frames; it is lost, retimed or slips with its channel. -/
def Obligations.TdmPortsCarryFrames : Prop :=
  ∀ (s : State) (m : BitVec 8) (lvl : BitVec 2) (p : Fin 16) (v : Word) (n : BitVec 16) (ph : BitVec 32) (data : EntryList) (missing : Bool),
    let st := s.get (TDM_STATUS_STATE p)
    let slot (k : Nat) := 0x4000 + 32 * p.val + k
    let e := s.tdmEnd p
    let fs := rateHz (s.get (TDM_FORMAT_RATE p))
    (Sys2Proof.Statements.Roadbed s m lvl → Gives s (.tdmFormatWrite m lvl p v) fun u =>
      ((TDM_FORMAT_WIDTH p).read v ≠ 3 ∨ v.getLsbD 0 = true → u.reg (TDM_FORMAT p) = v &&& 0x00177FFF) ∧
      ((TDM_FORMAT_WIDTH p).read v = 3 → v.getLsbD 0 = false → u.get (TDM_FORMAT_WIDTH p) = s.get (TDM_FORMAT_WIDTH p)) ∧
      (v.getLsbD 1 = true → u.get (TDM_STATUS_PHASE p) = 0) ∧
      u.get (TDM_STATUS_STATE p) = (if v.getLsbD 0 = false then 0 else if tdmValid v = true then 1 else 4) ∧
      u.flag (TDM_STATUS_RETIMED p) = (v.getLsbD 0 && tdmValid v && v.getLsbD 20 && !v.getLsbD 1) ∧
      (∀ k < 32, Sys2Proof.Statements.Point u (slot k) = 0) ∧ u.mem = s.mem ∧ u.fcu = s.fcu) ∧
    (m ≠ 0 ∨ lvl.toNat < 2 → Ignored s (.tdmFormatWrite m lvl p v)) ∧
    (st = 2 → s.flag (TDM_FORMAT_MASTER p) = true → Gives s (.tdmFrame p n ph data) fun u =>
      (∀ k < s.tdmSlots p, Sys2Proof.Statements.Point u (slot k) = Sys2Proof.Statements.TdmIn (s.tdmWidth p) (data.getD k 0)) ∧
      (u.tdmPort p).sent = (s.until e).tdmFrameOut p e ∧ u.regs = s.regs ∧ u.time = max s.time e ∧ (u.tdmPort p).last = max s.time e ∧
      ∀ x, x < slot 0 ∨ slot 32 ≤ x → Sys2Proof.Statements.Point u x = Sys2Proof.Statements.Point s x) ∧
    (st = 1 → s.flag (TDM_FORMAT_MASTER p) = true → 1 ≤ (s.tdmPort p).clean → Gives s (.tdmFrame p n ph data) fun u =>
      u.get (TDM_STATUS_STATE p) = 2 ∧ u.time = max s.time e ∧ u.points = s.points) ∧
    (1 ≤ st → st ≤ 3 → s.flag (TDM_FORMAT_MASTER p) = false →
      (n.toNat = s.tdmSlots p * s.tdmWidth p → Gives s (.tdmFrame p n ph data) fun u =>
        (u.tdmPort p).clean = (s.tdmPort p).clean + 1 ∧ (u.tdmPort p).bad = 0 ∧ (u.tdmPort p).sent = s.tdmFrameOut p e ∧
        u.get (TDM_STATUS_PHASE p) = (BitVec.ofInt 8 (tdmPhase fs ph.toInt * 256 / 1000000000)).toNat ∧
        u.time = max s.time (if s.tdmRetimed p = true then s.rateFrame fs (s.time + 99) else e) ∧
        (st = 2 → ∀ k < s.tdmSlots p, Sys2Proof.Statements.Point u (slot k) = Sys2Proof.Statements.TdmIn (s.tdmWidth p) (data.getD k 0)) ∧
        (st ≠ 2 → u.points = s.points)) ∧
      (n.toNat ≠ s.tdmSlots p * s.tdmWidth p → (s.tdmPort p).grace ≤ s.time → Gives s (.tdmFrame p n ph data) fun u =>
        (u.tdmPort p).clean = 0 ∧ (u.tdmPort p).bad = (s.tdmPort p).bad + 1 ∧
        u.get (TDM_ERR_FRAME_ERR p) = min (s.get (TDM_ERR_FRAME_ERR p) + 1) 65535 ∧ ∀ k < 32, Sys2Proof.Statements.Point u (slot k) = 0)) ∧
    (st = 1 ∨ st = 3 → s.flag (TDM_FORMAT_MASTER p) = true ∨ 16 ≤ (s.tdmPort p).clean → Gives s (.tdmPortAcquired p) fun u =>
      u.get (TDM_STATUS_STATE p) = 2 ∧ Sys2Proof.Statements.RegsOnly s u ∧ ∀ a, a ≠ TDM_STATUS p → u.reg a = s.reg a) ∧
    (s.flag (TDM_FORMAT_MASTER p) = false → (s.tdmPort p).grace ≤ s.time → missing = true ∨ 3 ≤ (s.tdmPort p).bad →
      (st = 2 → Gives s (.tdmPortLoss p missing) fun u =>
        u.get (TDM_STATUS_STATE p) = 3 ∧ u.get (TDM_STATUS_LOSSES p) = min (s.get (TDM_STATUS_LOSSES p) + 1) 255 ∧
        (u.pair (260 + p)).todo.length = (s.pair (260 + p)).todo.length + 1 ∧ (u.tdmPort p).sent = s.tdmIdle p ∧
        ∀ k < 32, Sys2Proof.Statements.Point u (slot k) = 0) ∧
      (st = 1 → Gives s (.tdmPortLoss p missing) fun u => (u.tdmPort p).clean = 0 ∧ u.regs = s.regs ∧ u.fcu = s.fcu)) ∧
    (16 ≤ (s.tdmPort p).wander → s.flag (TDM_STATUS_RETIMED p) = false → Gives s (.tdmRetime p) fun u =>
      u.flag (TDM_STATUS_RETIMED p) = true ∧ u.get (TDM_ERR_SLIP p) = min (s.get (TDM_ERR_SLIP p) + 1) 65535 ∧
      (u.pair 259).todo.length = (s.pair 259).todo.length + 1 ∧ u.points = s.points) ∧
    (st = 2 → s.flag (TDM_FORMAT_MASTER p) = false → (s.tdmPort p).grace ≤ s.time → Gives s (.tdmSlip p) fun u =>
      u.get (TDM_ERR_SLIP p) = min (s.get (TDM_ERR_SLIP p) + 1) 65535 ∧ (u.pair 259).todo.length = (s.pair 259).todo.length + 1 ∧
      ∀ a, a ≠ TDM_ERR p → u.reg a = s.reg a)

/-- The network ports receive and launch streams. -/
def Obligations.NetworkPortsCarryStreams : Prop := Sys2Proof.Statements.NetworkPortsReceiveStreams ∧ Sys2Proof.Statements.NetworkPortsLaunchPackets

/-! ## The media clock and PTP -/

/-- The media clock (R226 to R232, R240). A source qualifies; the best one due is taken, with its phase error, and PTP beyond 1 ms is stepped; the DPLL locks; the loss of the source in use is
holdover with its channel, and 10 s of it a second one; a decided step moves the time, counts and raises channel 256. The host's requests act in host-assisted servo mode alone. The frequencies the DPLL
draws are free values; no clause rests on one. -/
def Obligations.MediaClockFollowsItsSource : Prop :=
  ∀ (s : State) (m : BitVec 8) (lvl : BitVec 2) (v : Word) (e : BitVec 64) (src : MediaSource) (ps : BitVec 32),
    let k := if src = .ptp then 1 else 2
    let qual := if src = .ptp then MCK_STATUS_QUAL_PTP else MCK_STATUS_QUAL_WCLK
    let chan := if src = .ptp then 254 else 257
    let st := s.get MCK_STATUS_STATE
    let test : SourceTest := if src = .ptp then .ptp else .wclk ps
    let meets := if src = .ptp then s.ptpQualified else withinPpm (s.wclkFor ps.toNat) ps.toNat
    (meets = false → Ignored s (.sourceQualified test)) ∧
    (meets = true → Gives s (.sourceQualified test) fun u =>
      u.flag qual = true ∧ u.mem = s.mem ∧ u.clk = (if src = .ptp then s.clk else { s.clk with wclkRate := s.wclkFor ps.toNat }) ∧
      u.get MCK_STATUS_STATE = (if st = 0 ∧ k ∈ srcOrder (s.get MCK_CTRL_SRC) then 1 else st)) ∧
    (∀ j, s.sourceDue = some j → Gives s (.sourceTaken e) fun u =>
      let err := s.phaseError j e.toInt
      u.get MCK_STATUS_SOURCE = j ∧ u.reg MCK_PHASE_ERR = sat32 err ∧ u.clk.taken = true ∧ u.clk.holdAt = none ∧
      (s.flag MCK_CTRL_HOST_SERVO = true → u.reg MCK_FREQ = s.reg MCK_HOST_FREQ) ∧
      u.get MCK_STATUS_STATE = (if j = 1 ∧ s.mustStep err = true then 1 else 2) ∧
      (¬(j = 1 ∧ s.mustStep err = true) → u.clk.step = none) ∧
      (j = 1 → s.mustStep err = true → s.flag MCK_CTRL_HOST_SERVO = false → s.get SOV_STATUS_ROLE < 2 → u.clk.step = some (-err))) ∧
    (s.sourceDue = none → s.inUse = true → s.get MCK_STATUS_SOURCE = 2 → Gives s (.sourceTaken e) fun u =>
      let err := s.phaseError 2 e.toInt
      u.reg MCK_PHASE_ERR = sat32 err ∧ u.get MCK_STATUS_STATE = (if st = 3 ∧ 20 < err.natAbs then 2 else st) ∧ u.clk = s.clk) ∧
    (s.inUse = true → s.clk.step = none → st ≠ 3 → s.get MCK_STATUS_SOURCE = 2 ∨ 16 ≤ s.clk.run →
      let counts := s.get MCK_STATUS_SOURCE = 1 ∧ s.eng.seqRate ≠ 0
      let off := s.mustStep s.clk.offset
      (¬counts ∨ off = false ∨ s.flag MCK_CTRL_HOST_SERVO = true → Gives s .lockAchieved fun u =>
        u.get MCK_STATUS_STATE = 3 ∧ u.flag BSQ_STATUS_LOCKED = true ∧ u.eventPending 42 = true ∧ u.get MCK_STATUS_SOURCE = s.get MCK_STATUS_SOURCE ∧
        (if counts ∧ off = false then u.eng.epochN = 0 ∧ u.eng.epochT = 0 else u.eng = s.eng) ∧ u.clk = s.clk) ∧
      (counts → off = true → s.flag MCK_CTRL_HOST_SERVO = false → s.get SOV_STATUS_ROLE < 2 → Gives s .lockAchieved fun u =>
        u.get MCK_STATUS_STATE = 1 ∧ u.flag BSQ_STATUS_LOCKED = false ∧ u.clk.step = some (-s.clk.offset) ∧ u.eng = s.eng)) ∧
    (s.flag qual = true → src = .wclk ∨ s.ptpQualified = false →
      (s.inUse = true → s.get MCK_STATUS_SOURCE = k → Gives s (.sourceLoss src) fun u =>
        u.flag qual = false ∧ u.get MCK_STATUS_STATE = 4 ∧ u.get MCK_STATUS_SOURCE = k ∧
        u.get MCK_COUNTS_HOLDOVERS = satCount MCK_COUNTS_HOLDOVERS.width (s.get MCK_COUNTS_HOLDOVERS + 1) ∧
        (u.pair chan).todo.length = (s.pair chan).todo.length + 1 ∧ u.clk.holdAt = some s.time ∧ u.eventPending 42 = true) ∧
      (s.inUse = false ∨ s.get MCK_STATUS_SOURCE ≠ k → Gives s (.sourceLoss src) fun u =>
        u.flag qual = false ∧ u.get MCK_STATUS_STATE = st ∧ Sys2Proof.Statements.RegsOnly s u)) ∧
    (∀ t, s.clk.holdAt = some t → st = 4 → s.clk.lostRaised = false → Gives s .holdoverTimeout fun u =>
      let n := if s.get MCK_STATUS_SOURCE = 1 then 255 else 258
      (u.pair n).todo.length = (s.pair n).todo.length + 1 ∧ u.clk.lostRaised = true ∧ u.time = max s.time (t + 10000000000) ∧
      (n = 258 → u.regs = s.regs) ∧ (n = 255 → ∀ k : Fin 4, u.get (NP_CTRLQ_PTP_DROP k) =
        if s.ptpRuns k = true then min (s.get (NP_CTRLQ_PTP_DROP k) + 1) 65535 else s.get (NP_CTRLQ_PTP_DROP k))) ∧
    (∀ d, s.clk.step = some d → s.stepDue = true → s.eng.running = none → Gives s .mediaClockStep fun u =>
      let fs := rateHz s.eng.seqRate
      let t := ((s.time : Int) + d).toNat
      u.clk.step = none ∧ u.clk.offset = 0 ∧ u.get MCK_COUNTS_STEPS = satCount MCK_COUNTS_STEPS.width (s.get MCK_COUNTS_STEPS + 1) ∧
      (u.pair 256).todo.length = (s.pair 256).todo.length + 1 ∧
      u.time = if fs = 0 then t else max t (sampleTime fs ((t * fs + 999999999) / 1000000000))) ∧
    (Sys2Proof.Statements.Roadbed s m lvl → v.getLsbD 7 = s.flag MCK_CTRL_HOST_SERVO →
      (v.getLsbD 12 = true → s.flag MCK_CTRL_HOST_SERVO = true → s.get MCK_STATUS_SOURCE = 1 → v.toNat % 8 ∈ [1, 3, 4] → s.get SOV_STATUS_ROLE < 2 →
        Gives s (.stepReq m lvl v) fun u => u.clk.step = some (-s.clk.offset) ∧ u.get MCK_STATUS_STATE = st ∧ u.get MCK_CTRL_SRC = v.toNat % 8) ∧
      (v.getLsbD 12 = false → v.toNat % 8 ≤ 4 → s.get MCK_STATUS_SOURCE = 0 ∨ s.get MCK_STATUS_SOURCE ∈ srcOrder (v.toNat % 8) →
        Gives s (.srcWrite m lvl v) fun u => u.get MCK_CTRL_SRC = v.toNat % 8 ∧ u.get MCK_STATUS_SOURCE = s.get MCK_STATUS_SOURCE ∧
          u.get MCK_STATUS_STATE = st ∧ u.clk = s.clk) ∧
      (v.getLsbD 12 = false → v.toNat % 8 = 0 → s.get MCK_STATUS_SOURCE ≠ 0 → Gives s (.srcWrite m lvl v) fun u =>
        u.get MCK_CTRL_SRC = 0 ∧ u.get MCK_STATUS_SOURCE = 0 ∧ u.get MCK_STATUS_STATE = 0 ∧ u.reg MCK_FREQ = if s.flag MCK_CTRL_HOST_SERVO = true then s.reg MCK_HOST_FREQ else 0)) ∧
    (Sys2Proof.Statements.Roadbed s m lvl →
      (s.flag MCK_CTRL_HOST_SERVO = true → Gives s (.hostPhaseWrite m lvl v) fun u =>
        u = { s with clk := { s.clk with hostPhase := s.clk.hostPhase + v.toInt }, pins := u.pins }) ∧
      (s.flag MCK_CTRL_HOST_SERVO = false → Ignored s (.hostPhaseWrite m lvl v)))

/-- A PTP message of the protocol version and domain the port uses, whole. -/
def Sys2Proof.Statements.GoodPtp (s : State) (m : PtpMessage) : Prop :=
  m.version = 2 ∧ m.domain.toNat = s.get MCK_PTP_CFG_DOMAIN ∧ m.malformed = false

/-- PTP on a port (R220 to R224). An offset sample within 1 µs of the filtered offset goes through the filter, and an outlier is dropped and counted; a two-step Sync waits for its Follow_Up; a Delay_Resp gives the mean path delay; the first
Announce heard is the port's master; a message PTP cannot use is counted. A MASTER sends and counts its messages; a slave remembers its request. A silent master is lost at its timeout, and a port that
hears none becomes MASTER through PRE_MASTER. The filter is a free function (`Config.ptpFilter`), the direction of the asymmetry the model's own (PRESUMED). -/
def Obligations.PtpFollowsTheMaster : Prop :=
  ∀ (s : State) (k : Fin 4) (m : PtpMessage) (t : PtpTime), s.ptpOn k = true →
    let p := s.ptp k
    let c := m.correction.toInt + s.asym k
    let drops (u : State) : Prop := u.get (NP_CTRLQ_PTP_DROP k) = min (s.get (NP_CTRLQ_PTP_DROP k) + 1) 65535
    let sends (u : State) (n : Nat) : Prop := u.get (NP_TX_FRAMES_COUNT k) = (s.get (NP_TX_FRAMES_COUNT k) + n) % 2 ^ 32
    let last (u : State) : List Byte := Sparse.get (fun _ => []) u.net.sent k
    (m.version ≠ 2 ∨ m.domain.toNat ≠ s.get MCK_PTP_CFG_DOMAIN ∨ m.body = .unsupported → Gives s (.ptpMessage k m) fun u => drops u ∧ Sys2Proof.Statements.RegsOnly s u) ∧
    (Sys2Proof.Statements.GoodPtp s m → s.fromMaster k m = true →
      (m.body = .sync false t → p.sync = none →
        let x : Int := Int.ofNat s.time - timeNanos t - c - (s.reg MCK_MPD).toInt
        (p.syncs = 0 → Gives s (.ptpMessage k m) fun u => u.clk.offset = x ∧ u.reg MCK_OFFSET = sat32 x ∧ (u.ptp k).syncs = 1) ∧
        (p.syncs ≠ 0 → (x - s.clk.offset).natAbs ≤ 1000 → Gives s (.ptpMessage k m) fun u =>
          let f := Config.ptpFilter (s.get MCK_CTRL_PTP_BW) s.clk.offset x
          u.clk.offset = f ∧ u.reg MCK_OFFSET = sat32 f ∧ (u.ptp k).syncs = p.syncs + 1 ∧ u.clk.run = if f.natAbs ≤ 100 then s.clk.run + 1 else 0) ∧
        (p.syncs ≠ 0 → 1000 < (x - s.clk.offset).natAbs → p.outliers < 7 → Gives s (.ptpMessage k m) fun u =>
          drops u ∧ u.clk = s.clk ∧ (u.ptp k).outliers = p.outliers + 1)) ∧
      (m.body = .sync true t → p.sync = none → Gives s (.ptpMessage k m) fun u =>
        u.ptp k = { p with sync := some (m.seq.toNat, s.time, c) } ∧ u.regs = s.regs ∧ u.clk = s.clk) ∧
      (∀ old at', m.body = .followUp t → p.sync = some (m.seq.toNat, at', old) → p.syncs = 0 → Gives s (.ptpMessage k m) fun u =>
        u.clk.offset = Int.ofNat at' - timeNanos t - old - m.correction.toInt - (s.reg MCK_MPD).toInt ∧ (u.ptp k).sync = none) ∧
      (∀ sent who, m.body = .delayResp t who → p.req = some (m.seq.toNat, sent) → who.toNat = s.portId k → Gives s (.ptpMessage k m) fun u =>
        u.reg MCK_MPD = sat32 ((p.forth + (timeNanos t - Int.ofNat sent - m.correction.toInt + s.asym k)) / 2) ∧ (u.ptp k).req = none ∧ u.clk = s.clk)) ∧
    (∀ d, Sys2Proof.Statements.GoodPtp s m → m.body = .announce d → d.steps.toNat < 255 → p.best = none → Gives s (.ptpMessage k m) fun u =>
      (u.ptp k).best = some (annOf m d) ∧ (u.ptp k).annAt = s.time ∧ (u.ptp k).annCount = 1 ∧ u.clk = s.clk) ∧
    (Sys2Proof.Statements.GoodPtp s m → m.body = .delayReq → s.get (NP_STATUS_PTP_STATE k) = 3 → Gives s (.ptpMessage k m) fun u => sends u 1 ∧ u.clk = s.clk ∧ u.net.ptp = s.net.ptp ∧
      last u = udpFrame (s.ptpLeg k 320) (s.ptpBytes k 9 0 m.seq.toNat (m.correction.signExtend 64).toNat 3 (logByte (s.get MCK_PTP_CFG_LOG_DREQ))
        (ptpStamp s.time ++ beBytes 10 m.source.toNat))) ∧
    (s.get (NP_STATUS_PTP_STATE k) = 3 →
      (Gives s (.ptpMessageSend k .sync) fun u => sends u (if s.flag (NP_CTRL_ONE_STEP k) = true then 1 else 2) ∧ (u.ptp k).seqSync = (p.seqSync + 1) % 65536 ∧
        (s.flag (NP_CTRL_ONE_STEP k) = true →
          last u = udpFrame (s.ptpLeg k 319) (s.ptpBytes k 0 0 p.seqSync 0 0 (logByte (s.get MCK_PTP_CFG_LOG_SYNC)) (ptpStamp s.time)))) ∧
      (Gives s (.ptpMessageSend k .announce) fun u => sends u 1 ∧ (u.ptp k).seqAnn = (p.seqAnn + 1) % 65536 ∧
        last u = udpFrame (s.ptpLeg k 320) (s.ptpBytes k 11 8 p.seqAnn 0 5 (logByte (s.get MCK_PTP_CFG_LOG_ANN)) s.announced.body))) ∧
    (s.get (NP_STATUS_PTP_STATE k) = 5 ∨ s.get (NP_STATUS_PTP_STATE k) = 6 → Gives s (.ptpMessageSend k .delayReq) fun u =>
      sends u 1 ∧ (u.ptp k).req = some (p.seqReq, s.time) ∧ (u.ptp k).seqReq = (p.seqReq + 1) % 65536) ∧
    (let wait := s.get MCK_PTP_CFG_ANN_TIMEOUT * logNs (s.get MCK_PTP_CFG_LOG_ANN)
     (p.best = none → s.get (NP_STATUS_PTP_STATE k) = 1 → s.flag MCK_PTP_CFG_SLAVE_ONLY = false → Gives s (.announceReceiptTimeout k) fun u =>
        u.get (NP_STATUS_PTP_STATE k) = 2 ∧ u.eventPending 43 = true ∧ u.time = max s.time (p.since + wait)) ∧
     (p.best ≠ none → Gives s (.announceReceiptTimeout k) fun u => (u.ptp k).best = none ∧ u.time = max s.time (p.annAt + wait))) ∧
    (∀ n sent, p.req = some (n, sent) → p.noResp < 15 → Gives s (.delayRespTimeout k) fun u =>
      drops u ∧ (u.ptp k).req = none ∧ (u.ptp k).noResp = p.noResp + 1 ∧ u.time = max s.time (sent + logNs (s.get MCK_PTP_CFG_LOG_DREQ))) ∧
    (∀ n at' c', p.sync = some (n, at', c') → Gives s (.followUpTimeout k) fun u =>
      drops u ∧ u.ptp k = { p with sync := none } ∧ u.time = max s.time (at' + logNs (s.get MCK_PTP_CFG_LOG_SYNC))) ∧
    (s.get (NP_STATUS_PTP_STATE k) = 2 → s.flag MCK_PTP_CFG_SLAVE_ONLY = false → s.bestMaster = none → Gives s (.preMasterQualification k) fun u =>
      u.get (NP_STATUS_PTP_STATE k) = 3 ∧ u.eventPending 43 = true ∧ u.get64 MCK_GM_ID_LO = s.clockId)

/-! ## The Sorov link and the twin -/

/-- The last frame of a type the device sent. -/
def Sys2Proof.Statements.SentFrame (s : State) (ty : Nat) : SovSent := Sparse.get (fun _ => ⟨0, 0, []⟩) s.sov.sent ty

/-- The body of a CMD frame (R377). -/
def Sys2Proof.Statements.cmdBody (op status tag a0 a1 : Nat) : List Byte :=
  leBytes 2 op ++ leBytes 2 status ++ leBytes 4 tag ++ leBytes 8 a0 ++ leBytes 8 a1 ++ leBytes 8 0

/-- A whole frame of TYPE `ty` arrives on an up channel of an UP link, of a critical type the one expected next (R369, R372, R373). -/
def Sys2Proof.Statements.Arrives (s : State) (ty : Nat) (h : SovHead) : Prop :=
  h.crcOk = true ∧ h.lenOk = true ∧ s.get (SOV_CHAN_STATE h.chan) = 2 ∧ s.get SOV_STATUS_LINK = 2 ∧
    (sovCritical ty = true → h.seq.toNat = Sparse.get (fun _ => 0) s.sov.seqRx ty)

/-- What a VERSION body says of the partner (R378). -/
def Sys2Proof.Statements.peerOf (b : VersionBody) : PeerInfo :=
  { proto := b.proto.toNat, prosal := b.prosal.toNat, cls := b.cls.toNat, imageId := b.imageId.toNat, serial := b.serial.toNat, rate := b.rate.toNat
    bsize := b.bsize.toNat, outputs := b.flags.getLsbD 0, prefer := b.flags.getLsbD 1, source := b.flags.toNat / 4 % 4 }

/-- Both devices' records of a block are complete and differ (R387). -/
def Sys2Proof.Statements.Differ (s : State) (n : Nat) (b : SyncBody) (r : SyncRec) : Prop :=
  s.sov.own.find? (fun x => x.block = n) = some r ∧ ((r.boundary : Int) - (b.boundary.toNat : Int)).natAbs ≤ 1000 ∧ s.flag SOV_STATUS_COMPARE = true ∧
    b.flags.getLsbD 3 = false ∧ r.flags / 8 % 2 = 0 ∧ syncDiff r b ≠ 0 ∧ r.uncommitted = 0 ∧ b.uncommitted = 0 ∧ r.flags % 4 = 0 ∧ b.flags.toNat % 4 = 0

/-- The link (R369, R372, R373, R376, R378, R382, R396, R399). A channel locks after its heartbeats, fails and is tried again; two channels begin the link. Frames in error are counted. HEART and VERSION
frames tell readiness and pair the devices, or find them incompatible; heartbeat that is lost is raised. -/
def Obligations.TheLinkComesUpAndPairs : Prop :=
  ∀ (s : State) (k : Fin 4) (h : SovHead) (hb : HeartBody) (vb : VersionBody) (sb : SyncBody) (pb : ParamBody) (nl : NeedList) (kb : PktBody) (tb : StateBody),
    let p := Sys2Proof.Statements.peerOf vb
    (s.get (SOV_CHAN_STATE k) = 1 → 8 ≤ (s.linkChan k).hearts → Gives s (.sorovChannelLock k) fun u =>
      u.get (SOV_CHAN_STATE k) = 2 ∧ (s.get SOV_STATUS_LINK = 0 → (∃ j : Fin 4, j ≠ k ∧ s.get (SOV_CHAN_STATE j) = 2) → u.get SOV_STATUS_LINK = 1) ∧ u.mem = s.mem) ∧
    (s.get (SOV_CHAN_STATE k) = 2 → s.manyErrors k = false → Gives s (.sorovChannelFail k) fun u =>
      u.get (SOV_CHAN_STATE k) = 3 ∧ u.get (SOV_CHAN_FAILS k) = min (s.get (SOV_CHAN_FAILS k) + 1) 255 ∧
      u.time = max s.time ((s.linkChan k).lastAt + 30000) ∧
      (s.get SOV_STATUS_LINK = 2 → (u.pair 289).todo.length = (s.pair 289).todo.length + 1) ∧
      ((∀ j : Fin 4, j ≠ k → s.get (SOV_CHAN_STATE j) ≠ 2) → u.get SOV_STATUS_LINK = 0)) ∧
    (s.get (SOV_CHAN_STATE k) = 3 → Gives s (.sorovChannelRetry k) fun u =>
      u.get (SOV_CHAN_STATE k) = 1 ∧ u.time = max s.time ((s.linkChan k).failedAt + 10000000) ∧ (u.linkChan k).hearts = 0 ∧ u.fcu = s.fcu) ∧
    (s.flag SOV_CTRL_EN = true → s.sov.heartLost = false → s.sov.peer.isSome = true → Gives s .heartbeatLost fun u =>
      u.sov = { s.sov with heartLost := true } ∧ (u.pair 291).todo.length = (s.pair 291).todo.length + 1 ∧
      u.time = max s.time (s.sov.heardAt + 30000) ∧ u.regs = s.regs) ∧
    (s.get (SOV_CHAN_STATE 3) = 1 ∨ s.get (SOV_CHAN_STATE 3) = 2 → Gives s .heartSend fun u =>
      (Sys2Proof.Statements.SentFrame u 4).body = s.heartBody 3 ∧ u.regs = s.regs ∧ u.eng = s.eng) ∧
    (∀ c, c = .heartFrame h hb ∨ c = .versionFrame h vb ∨ c = .syncFrame h sb ∨ c = .paramFrame h pb ∨ c = .needFrame h nl ∨ c = .pktFrame h kb ∨ c = .stateFrame h tb →
      s.get (SOV_CHAN_STATE h.chan) = 2 →
      (h.crcOk = false → Gives s c fun u => u.get (SOV_CHAN_CRC_ERR h.chan) = min (s.get (SOV_CHAN_CRC_ERR h.chan) + 1) 65535 ∧
        u = { s with regs := u.regs, sov := u.sov, pins := u.pins } ∧ u.sov = { s.sov with chans := u.sov.chans }) ∧
      (h.crcOk = true → h.lenOk = false → Gives s c fun u =>
        u.get SOV_VIOL_FRAME_ERR = min (s.get SOV_VIOL_FRAME_ERR + 1) 65535 ∧ (u.pair 290).todo.length = (s.pair 290).todo.length + 1 ∧ u.sov = s.sov ∧ u.eng = s.eng)) ∧
    (Sys2Proof.Statements.Arrives s 4 h →
      (s.get SOV_STATUS_ROLE ≠ 2 → Gives s (.heartFrame h hb) fun u =>
        u.get SOV_STATUS_PEER_READY = (if hb.flags.getLsbD 0 = true then 1 else 0) ∧ u.sov.peerRole = hb.role.toNat % 16 ∧ u.sov.heartLost = false ∧
        u.sov.heardAt = s.time ∧ (u.linkChan h.chan).hearts = (s.linkChan h.chan).hearts + 1 ∧ u.fcu = s.fcu ∧ u.eng = s.eng ∧
        u.sov.unacked = s.sov.unacked.filter fun e => decide (hb.ack.toNat < e.2.pseq)) ∧
      (s.get SOV_STATUS_ROLE = 2 → hb.role.toNat % 16 = 4 → hb.role ≠ 2 → Gives s (.heartFrame h hb) fun u =>
        u.flag SOV_STATUS_COMPARE = true ∧ u.sov.join = none ∧ (s.sov.join ≠ none → u.sov.snapOpen = false) ∧ u.fcu = s.fcu)) ∧
    (Sys2Proof.Statements.Arrives { s with regs := (s.put SOV_STATUS_LINK 2).regs } 6 h → s.get SOV_STATUS_LINK = 1 → s.get SOV_STATUS_ROLE = 0 →
      (s.linkProto ≤ p.proto + 1 → p.proto ≤ s.linkProto + 1 → Gives s (.versionFrame h vb) fun u =>
        u.get SOV_STATUS_LINK = 2 ∧ u.sov.peer = some p ∧ u.reg SOV_PEER_CLASS = vb.cls ∧
        u.flag SOV_STATUS_CLASS_DIFF = (vb.cls.toNat != s.ownClass) ∧ (u.reg MBX_IRQ_PEND).getLsbD 25 = true ∧
        u.get SOV_STATUS_ROLE = if s.mayPair p = true then (if s.becomesPrimary p = true then 2 else 3) else 1) ∧
      (s.linkProto + 1 < p.proto ∨ p.proto + 1 < s.linkProto → Gives s (.versionFrame h vb) fun u =>
        u.get SOV_STATUS_LINK = 3 ∧ u.get SOV_STATUS_ROLE = 0 ∧ (u.pair 294).todo.length = (s.pair 294).todo.length + 1 ∧ u.sov.peer = some p))

/-- Twins compare and repair (R374, R375, R380, R383, R384, R386, R387, R399). SYNC frames that differ over a whole block are a divergence on both devices, and a frame that does not come is a violation; forwarded updates enter the
standby's set and are sent again until acknowledged; a repair tick names the packets not held, a partner that holds one answers with it, and an answer asked for is placed. -/
def Obligations.TwinsCompareAndRepair : Prop :=
  ∀ (s : State) (h : SovHead) (b : SyncBody) (r : SyncRec) (pb : ParamBody) (x : ParamRec) (ne : NeedEntry) (kb : PktBody),
    let n := h.block.toNat
    (Sys2Proof.Statements.Arrives s 1 h → s.eng.period ≠ some (n + 1) ∨ s.time ≤ s.eng.periodAt + 20000 →
      (Sys2Proof.Statements.Differ s n b r → s.get SOV_STATUS_ROLE = 2 → Gives s (.syncFrame h b) fun u =>
        u.get SOV_COMPARE_DIVERGENCES = min (s.get SOV_COMPARE_DIVERGENCES + 1) 65535 ∧ (u.pair 196).todo.length = (s.pair 196).todo.length + 1 ∧
        (Sys2Proof.Statements.SentFrame u 5).body = Sys2Proof.Statements.cmdBody 8 0 0 r.block (syncDiff r b) ∧ u.get SOV_STATUS_ROLE = 2 ∧ u.eng = s.eng) ∧
      (Sys2Proof.Statements.Differ s n b r → s.get SOV_STATUS_ROLE = 4 → s.sov.diverged = [] →
        (s.flag SOV_CTRL_HOST = false → Gives s (.syncFrame h b) fun u =>
          u.get SOV_COMPARE_DIVERGENCES = min (s.get SOV_COMPARE_DIVERGENCES + 1) 65535 ∧ u.get SOV_STATUS_ROLE = 3) ∧
        (s.flag SOV_CTRL_HOST = true → Gives s (.syncFrame h b) fun u => u.get SOV_STATUS_ROLE = 4 ∧ u.sov.choiceBy = some (s.time + 1000000000))) ∧
      (s.sov.own.find? (fun y => y.block = n) = some r → ((r.boundary : Int) - (b.boundary.toNat : Int)).natAbs ≤ 1000 → syncDiff r b = 0 → s.get SOV_STATUS_ROLE ≠ 3 →
        Gives s (.syncFrame h b) fun u => u.regs = s.regs ∧ u.fcu = s.fcu ∧ u.eng = s.eng ∧ n ∈ u.sov.heard)) ∧
    (∀ m, s.eng.period = some (m + 1) → s.paired = true → s.get SOV_STATUS_ROLE ≠ 3 → m ∉ s.sov.heard → Gives s .syncMissing fun u =>
      u.get SOV_VIOL_FRAME_ERR = min (s.get SOV_VIOL_FRAME_ERR + 1) 65535 ∧ (u.pair 290).todo.length = (s.pair 290).todo.length + 1 ∧
      u.time = max s.time (s.eng.periodAt + 20000) ∧ m ∈ u.sov.heard ∧ (s.get SOV_STATUS_ROLE = 4 → u.get SOV_STATUS_ROLE = 3)) ∧
    (Sys2Proof.Statements.Arrives s 3 h → pb.recs = [x] →
      (3 ≤ s.get SOV_STATUS_ROLE → s.sov.held < pb.first.toNat → pb.first.toNat ∉ s.sov.ahead → s.checkpointTaken (n + x.delta.toNat) = false →
        Gives s (.paramFrame h pb) fun u => u.eng = { s.eng with updates := s.eng.updates ++
          [{ id := x.id.toNat, value := x.value, block := n + x.delta.toNat, ramp := if x.ramp = 0xFFFF then none else some x.ramp.toNat
             pseq := pb.first.toNat, host := x.host }] } ∧ u.regs = s.regs ∧
          (pb.first.toNat = s.sov.held + 1 → s.sov.ahead = [] → u.sov.held = pb.first.toNat)) ∧
      (s.get SOV_STATUS_ROLE < 3 ∨ pb.first.toNat ≤ s.sov.held → Gives s (.paramFrame h pb) fun u => u.eng = s.eng ∧ u.regs = s.regs)) ∧
    (∀ t up, s.sov.unacked = [(t, up)] → s.get SOV_STATUS_ROLE = 2 → s.get SOV_STATUS_LINK = 2 → Gives s .paramResend fun u =>
      u.time = max s.time (t + 10000) ∧ u.sov.unacked = [(u.time, up)] ∧ (Sys2Proof.Statements.SentFrame u 3).block = s.get64 BSQ_BLOCK_LO ∧ u.regs = s.regs) ∧
    (s.paired = true → s.get SOV_STATUS_LINK = 2 → Gives s .repairTick fun u =>
      let t := max (s.sov.tick + 5000) ((s.time + 4999) / 5000 * 5000)
      u.sov.tick = t ∧ u.time = max s.time t ∧ u.sov.asked = s.needList t ++ s.sov.asked.take 1020 ∧
      (Sys2Proof.Statements.SentFrame u 7).body = leBytes 2 (s.needList t).length ++ List.replicate 6 0 ++
        (s.needList t).flatMap fun e => leBytes 2 e.stream ++ [0, 0] ++ leBytes 4 e.ts) ∧
    (∀ rx, Sys2Proof.Statements.Arrives s 7 h → s.rxAt ne.stream.toNat = some rx →
      let m := recoverN (sampleCount (rateHz (fmtRate rx.format)) s.time) rx.offset ne.ts.toNat
      let pay := s.heldPayload rx m
      (m ∈ rx.held → Gives s (.needFrame h [ne]) fun u => (Sys2Proof.Statements.SentFrame u 8).body =
        leBytes 2 ne.stream.toNat ++ leBytes 2 pay.length ++ leBytes 4 ne.ts.toNat ++ pay ++ List.replicate ((8 - pay.length % 8) % 8) 0) ∧
      (m ∉ rx.held → Gives s (.needFrame h [ne]) fun u => u.sov.sent = s.sov.sent)) ∧
    (∀ rx, Sys2Proof.Statements.Arrives s 8 h → s.rxAt kb.stream.toNat = some rx → rx.channels ≤ 64 → kb.stream.toNat < 4096 → fmtP rx.format ≤ 2 ^ rx.depthLog →
      let fs := rateHz (fmtRate rx.format)
      let m := recoverN (sampleCount fs s.time) rx.offset kb.ts.toNat
      (s.sov.asked.contains ⟨kb.stream.toNat, kb.ts.toNat⟩ = true → s.time + 2000 ≤ sampleTime fs (m + rx.lo) →
        kb.payload.length = rx.channels * fmtP rx.format * fmtBytes rx.format → s.placeCheck rx m = .ok → Gives s (.pktFrame h kb) fun u =>
          u.get NPE_CONCEAL_REPAIRED = min (s.get NPE_CONCEAL_REPAIRED + 1) 65535 ∧ u.points = s.points ∧ ∃ r', u.rxAt kb.stream.toNat = some r' ∧ Sys2Proof.Statements.Placed s u rx r' m kb.payload) ∧
      (s.sov.asked.contains ⟨kb.stream.toNat, kb.ts.toNat⟩ = false → Gives s (.pktFrame h kb) fun u =>
        u.get SOV_VIOL_FRAME_ERR = min (s.get SOV_VIOL_FRAME_ERR + 1) 65535 ∧ u.net = s.net))

/-- Commands between the twins (R17, R377, R383, R385, R392, R393, R399). Each command of a partner has its effect and its answer; while Prosal restarts a request is answered BUSY. -/
def Obligations.TwinsCommandEachOther : Prop :=
  ∀ (s : State) (h : SovHead) (c : SovCmd) (d : HostData), Sys2Proof.Statements.Arrives s 5 h →
    let a0 := c.arg0.toNat
    let answer (op status : Nat) : List Byte := Sys2Proof.Statements.cmdBody op status c.tag.toNat a0 c.arg1.toNat
    let sent (u : State) (b : List Byte) : Prop := (Sys2Proof.Statements.SentFrame u 5).body = b ∧ u.eventPending 45 = true
    let ask := c.answer = false ∧ s.prosalUp = true
    (∀ op cmd, (op = 1 ∧ cmd = Instr.swapCmd h c) ∨ (op = 2 ∧ cmd = .switchCmd h c) ∨ (op = 3 ∧ cmd = .switchAt h c) ∨ (op = 4 ∧ cmd = .stepCmd h c) ∨
        (op = 5 ∧ cmd = .joinReq h c) ∨ (op = 6 ∧ cmd = .joinAck h c) ∨ (op = 7 ∧ cmd = .expressAt h c) ∨ (op = 8 ∧ cmd = .divergeCmd h c) ∨ (op = 10 ∧ cmd = .presetCmd h c) →
      c.answer = false → s.prosalUp = false → Gives s cmd fun u =>
        sent u (Sys2Proof.Statements.cmdBody op 1 c.tag.toNat 0 0) ∧ u.eng = s.eng ∧ u.clk = s.clk ∧ u.sov.swapAt = s.sov.swapAt ∧ u.sov.join = s.sov.join) ∧
    (ask →
      (s.selfReady = true → s.eng.switch = none → s.clk.step = none → Gives s (.swapCmd h c) fun u => u.sov.swapAt = some a0 ∧ sent u (answer 1 0)) ∧
      (s.selfReady = false → Gives s (.swapCmd h c) fun u => u.sov.swapAt = s.sov.swapAt ∧ sent u (answer 1 2)) ∧
      (∀ im, s.eng.pending = some im → 3 ≤ s.get SOV_STATUS_ROLE → s.eng.switch = none → s.eng.running ≠ none → Gives s (.switchCmd h c) fun u =>
        let b := max a0 (s.earliestSwitch im)
        u.eng.switch.map (fun w => (w.block, w.alone)) = some (b, c.arg1.getLsbD 0) ∧ sent u (Sys2Proof.Statements.cmdBody 3 0 0 b 0) ∧ u.get64 BSQ_SWITCH_LO = b % 2 ^ 64) ∧
      (s.eng.pending = none → Gives s (.switchCmd h c) fun u => u.eng = s.eng ∧ sent u (answer 2 2)) ∧
      (3 ≤ s.get SOV_STATUS_ROLE → Gives s (.stepCmd h c) fun u =>
        u.clk = { s.clk with step := some (-s.clk.offset), stepAt := some a0 } ∧ sent u (answer 4 0)) ∧
      (s.get SOV_STATUS_ROLE = 2 → Gives s (.joinReq h c) fun u =>
        let j := s.blockA + 2
        u.sov.join = some j ∧ u.sov.snapOpen = false ∧ u.get SOV_JOIN_PHASE = 0 ∧ u.get64 SOV_JOIN_LO = j % 2 ^ 64 ∧
        sent u (Sys2Proof.Statements.cmdBody 6 0 c.tag.toNat j 0)) ∧
      (s.get SOV_STATUS_ROLE ≠ 2 → Gives s (.joinReq h c) fun u => u.sov.join = s.sov.join ∧ sent u (answer 5 2)) ∧
      (s.get SOV_STATUS_ROLE = 2 → Gives s (.expressAt h c) fun u => u.sov.expressAt = some a0 ∧ sent u (answer 7 0)) ∧
      (3 ≤ s.get SOV_STATUS_ROLE → Gives s (.presetCmd h c) fun u => u.eng = { s.eng with presetAt := some (a0, c.arg1.toNat) } ∧ sent u (answer 10 0))) ∧
    (c.answer = true → c.status ≠ 0 → Gives s (.swapCmd h c) fun u => u.sov.swapAt = none ∧ u.sov.sent = s.sov.sent) ∧
    (c.answer = true ∨ s.prosalUp = true →
      (∀ w, s.eng.switch = some w → s.eng.pending ≠ none → w.alone = false → w.block < a0 → Gives s (.switchAt h c) fun u =>
        u.eng = { s.eng with switch := some { w with block := a0 } } ∧ u.get64 BSQ_SWITCH_LO = a0 ∧ u.flag BSQ_STATUS_SWITCH_DEFERRED = true ∧
        (u.reg MBX_IRQ_PEND).getLsbD 27 = true) ∧
      (s.get SOV_STATUS_ROLE = 3 → Gives s (.joinAck h c) fun u =>
        u.sov.join = some a0 ∧ u.sov.recorded = a0 ∧ u.sov.expressAt = none ∧ u.get SOV_JOIN_PHASE = 0 ∧ u.get SOV_JOIN_BACKLOG = 0 ∧ u.get64 SOV_JOIN_LO = a0) ∧
      (Gives s (.divergeCmd h c) fun u => u.eventPending 45 = true ∧ u.eng = s.eng ∧ u.fcu = s.fcu ∧ u.sov.sent = s.sov.sent ∧ u.mem = s.mem)) ∧
    (∀ x y, d = .relay x y → s.sov.relay.length < 16 → Gives s (.hostCmd h d) fun u =>
      u.sov.relay = s.sov.relay ++ [(x.toNat, y.toNat)] ∧ (u.reg MBX_IRQ_PEND).getLsbD 25 = true ∧ u.eventPending 45 = true) ∧
    (∀ f host blk, d = .mode f host blk → 3 ≤ s.get SOV_STATUS_ROLE →
      (f = 6 → Gives s (.hostCmd h d) fun u => u.flag BSQ_CTRL_SWITCH_HOLD = host ∧ u.sov.relay = s.sov.relay) ∧
      (f = 7 → Gives s (.hostCmd h d) fun u => u.eng = { s.eng with rampChange := some (blk.toNat, host), rampStopped := false }) ∧
      (f = 8 → Gives s (.hostCmd h d) fun u => u.net = { s.net with hostConceal := host }))

/-- Joining and handing over (R371, R379, R387 to R395). A primary answers a read of its snapshot, a joining standby installs the data and passes its phases to standby, and a join that fails counts and begins again. The sideband pairs confirm after three samples and break on 00.
A primary that gives the outputs asserts TWIN_TAKE; a ready standby takes them for its cause; a handover records who, why and where. -/
def Obligations.TwinsJoinAndHandOver : Prop :=
  ∀ (s : State) (h : SovHead) (b : StateBody) (hc tc : BitVec 2),
    let a := b.addr.toNat
    let n := b.size.toNat
    let took (u : State) (cause : Nat) (gave : Bool) : Prop :=
      u.get SOV_TAKE_INFO_CAUSE = cause ∧ u.flag SOV_TAKE_INFO_GAVE = gave ∧ u.get SOV_TAKE_INFO_COUNT = min (s.get SOV_TAKE_INFO_COUNT + 1) 65535 ∧
      (u.reg MBX_IRQ_PEND).getLsbD 25 = true ∧ u.mem = s.mem
    let failed (u : State) : Prop :=
      u.get SOV_JOIN_FAILS = satCount SOV_JOIN_FAILS.width (s.get SOV_JOIN_FAILS + 1) ∧ u.get SOV_JOIN_PHASE = 0 ∧ u.get SOV_JOIN_BACKLOG = 0 ∧
      u.sov.join = none ∧ u.mem = s.mem
    (Sys2Proof.Statements.Arrives s 2 h →
      (b.kind = 0 → 0 < n → n % 8 = 0 → n ≤ 2032 → s.joinReads a n = true → s.busError a false = false → s.check (s.inboundIssuer 0x78 26) a n .load = .ok →
        (∀ w ∈ wordsOf a n, s.errOf w = .good ∧ s.injectAt w = false) → Gives s (.stateFrame h b) fun u =>
          (Sys2Proof.Statements.SentFrame u 2).body = stateBody 1 n b.tag.toNat a (s.bytes a n) ∧ u.mem = s.mem ∧ u.regs = s.regs) ∧
      (b.kind = 1 → s.catching = true → s.region a = .dram → Gives s (.stateFrame h b) fun u =>
        u.bytes a b.data.length = b.data ∧ u.regs = s.regs ∧ ∀ x, x < a ∨ a + b.data.length ≤ x → u.byte x = s.byte x) ∧
      (b.kind = 2 → s.catching = true → Gives s (.stateFrame h b) failed)) ∧
    (∀ im j, s.eng.running = some im → s.sov.join = some j → s.catching = true → s.get SOV_JOIN_PHASE ≤ 1 → s.sov.recorded < j + 1 →
      Gives s .joinTransferComplete fun u => u.get SOV_JOIN_PHASE = 2 ∧ u.eng.cur = none ∧ u.eng.outs = [] ∧ u.mem = s.mem) ∧
    (s.catching = true → s.get SOV_JOIN_PHASE = 2 → s.get SOV_JOIN_BACKLOG = 0 → Gives s .catchupComplete fun u =>
      u.sov.expressAt = some (s.blockN + 2) ∧ (Sys2Proof.Statements.SentFrame u 5).body = Sys2Proof.Statements.cmdBody 7 0 0 (s.blockN + 2) 0 ∧ u.regs = s.regs) ∧
    (s.get SOV_STATUS_ROLE = 3 → s.get SOV_JOIN_PHASE = 3 → Gives s .joinComplete fun u =>
      u.get SOV_STATUS_ROLE = (if s.flag SOV_STATUS_CLASS_DIFF = true then 5 else 4) ∧ u.flag SOV_STATUS_COMPARE = !s.flag SOV_STATUS_CLASS_DIFF ∧
      u.sov.join = none ∧ (u.reg MBX_IRQ_PEND).getLsbD 25 = true) ∧
    (s.get SOV_STATUS_ROLE = 3 → s.sov.join ≠ none → Gives s .joinFail failed) ∧
    (∀ t, s.sov.choiceBy = some t → Gives s .divergenceTimeout fun u => u.get SOV_STATUS_ROLE = 3 ∧ u.time = max s.time t) ∧
    (s.get SOV_STATUS_ROLE ≠ 2 →
      (s.sov.health.code = 3 → 2 ≤ s.sov.health.held → Gives s (.peerSample 3 tc) fun u => u.get SOV_STATUS_PEER_HEALTH = 1) ∧
      (Gives s (.peerSample 0 tc) fun u => u.get SOV_STATUS_PEER_HEALTH = 2 ∧
        (s.get SOV_STATUS_PEER_HEALTH ≠ 2 → s.flag SOV_CTRL_EN = true → (u.pair 292).todo.length = (s.pair 292).todo.length + 1)) ∧
      (s.sov.takePair.code = 3 → 2 ≤ s.sov.takePair.held → Gives s (.peerSample hc 3) fun u => u.get SOV_STATUS_PEER_TAKE = 1) ∧
      (Gives s (.peerSample hc 0) fun u => u.get SOV_STATUS_PEER_TAKE = 2 ∧
        (s.get SOV_STATUS_PEER_TAKE ≠ 2 → s.flag SOV_CTRL_EN = true → (u.pair 293).todo.length = (s.pair 293).todo.length + 1))) ∧
    (∀ f, s.sov.takeAt = some f → s.get SOV_STATUS_ROLE = 2 → s.sov.takeOut = false → Gives s .twinTakeAssert fun u =>
      u.sov = { s.sov with takeOut := true } ∧ u.time = max s.time (f - 2000) ∧
      (s.flag (FCU_CH_STATUS_PEND 195) = false → (u.pair 195).todo.length = (s.pair 195).todo.length + 1)) ∧
    (s.takeCause ≠ 0 → Gives s .standbyTakeover fun u =>
      u.get SOV_STATUS_ROLE = 2 ∧ took u s.takeCause false ∧ u.time = max s.time (s.frameAfter s.time) ∧ u.sov.cause = 0) ∧
    (∀ f, s.sov.takeAt = some f → s.get SOV_STATUS_ROLE = 2 → s.flag FCU_STATUS_SAFE = false → Gives s .outputHandover fun u =>
      u.get SOV_STATUS_ROLE = (if s.flag SOV_CTRL_HOST = true then 6 else 3) ∧ took u 6 true ∧ u.sov.takeAt = none ∧ u.sov.takeOut = false ∧
      u.time = max s.time f) ∧
    (∀ S, s.sov.takeAt = none → s.sov.swapAt = some S → s.get SOV_STATUS_ROLE = 2 ∨ s.get SOV_STATUS_ROLE = 4 ∨ s.get SOV_STATUS_ROLE = 5 → Gives s .outputHandover fun u =>
      let t := s.frameTime (S + 2) 3
      u.get SOV_STATUS_ROLE = (if s.get SOV_STATUS_ROLE = 2 then s.standbyRole else 2) ∧ took u 5 (s.get SOV_STATUS_ROLE == 2) ∧ u.sov.swapAt = none ∧
      u.sov.legSwap = some (t, s.get SOV_STATUS_ROLE) ∧ u.time = max s.time t)

/-! ## Prosal's commands -/

/-- Prosal, or the boot ROM in recovery, is asked for a command in a posted mailbox, and nothing is wrong with the request (R405, R410, R412). -/
def Sys2Proof.Statements.Asked (s : State) (k : Fin 16) (op : Nat) (b : ByteList) : Prop := s.ready k = true ∧ s.judge k op b = none

/-- The command goes on to state `t` with the response in its mailbox: a status and a body (R410). -/
def Sys2Proof.Statements.Answered (s : State) (k : Fin 16) (op : Nat) (b : ByteList) (c : Instr) (st : Status) (t : State) (body : List Byte) : Prop :=
  exec c s = .next (s.respond k op (s.reqCrc k op b) (t, ⟨st, body⟩)).drivePins

/-- What a response leaves (R404, R405, R408, R410, R412, R413, R435), told by GET_STATUS: its bytes in the mailbox, DONE, the mailbox no longer posted, the response kept for a repeat, the vector
set unless the request had NO_IRQ. A request with a wrong length is refused, counted and raised; one beyond the recovery subset is BUSY in recovery; a mailbox not posted does nothing. -/
def Sys2Proof.Statements.ResponsesStand : Prop :=
  ∀ (s : State) (k : Fin 16) (b : ByteList),
    let g := s.gateUsed
    let noIrq := s.mboxLe k 6 1 / 2 % 2
    let made (op status : Nat) (body : List Byte) : List Byte := respBytes op (s.mboxLe k 2 2) (1 + 2 * noIrq) (s.mboxLe k 7 1) status body
    let stands (u : State) (bs : List Byte) : Prop :=
      u.get (MBX_STATE_STATE k) = 3 ∧ u.bytes (mboxAddr k) bs.length = bs ∧ k.val ∉ u.host.posted ∧ (noIrq = 0 → (u.reg MBX_IRQ_PEND).getLsbD k = true)
    (Sys2Proof.Statements.Asked s k 0x0102 b → Gives s (.getStatus k b) fun u =>
      let bs := made 0x0102 0 (g.cmdGetStatus).2.body
      stands u bs ∧ Sparse.get (fun _ => (0, (0 : Word), [])) u.host.last k = (s.mboxLe k 2 2, s.reqCrc k 0x0102 b, bs) ∧ u.eng = s.eng ∧ u.fcu = s.fcu ∧
      ∀ x, x < mboxAddr k ∨ mboxAddr k + 512 ≤ x → u.byte x = s.byte x) ∧
    (s.ready k = true → s.boot ≠ .recovery → s.headerGood k 0x0102 = true → b.length ≠ 0 → Gives s (.getStatus k b) fun u =>
      stands u (made 0x0102 3 []) ∧ u.get MBX_VIOL_LENGTH = min (s.get MBX_VIOL_LENGTH + 1) 255 ∧ (u.pair 23).todo.length = (s.pair 23).todo.length + 1) ∧
    (s.ready k = true → s.boot = .recovery → Gives s (.graphStatus k b) fun u =>
      stands u (made 0x0205 1 []) ∧ u.fcu = s.fcu ∧ u.eng = s.eng) ∧
    (s.ready k = false → Ignored s (.getStatus k b))

/-- The system and graph families (R414, R415). -/
def Sys2Proof.Statements.SystemAndGraphCommands : Prop :=
  ∀ (s : State) (k : Fin 16) (b : ByteList),
    let g := s.gateUsed
    (Sys2Proof.Statements.Asked s k 0x0101 b → s.boot ≠ .recovery → Sys2Proof.Statements.Answered s k 0x0101 b (.getInfo k b) .ok g
      (leBytes 2 0x7720 ++ leBytes 2 0x00B0 ++ (leBytes 2 g.prosalVersion ++ leBytes 2 g.linkProto) ++ leBytes 8 Config.serial.toNat ++
        leBytes 1 g.booted ++ leBytes 1 (g.get DBG_STATUS_LEVEL) ++ leBytes 2 0 ++ g.regField RST_COUNT ++ g.regField RST_CAUSE)) ∧
    (Sys2Proof.Statements.Asked s k 0x0102 b → Sys2Proof.Statements.Answered s k 0x0102 b (.getStatus k b) .ok g
      (leBytes 1 (g.get PWR_STATE_STATE) ++ leBytes 1 (g.get SOV_STATUS_ROLE) ++ leBytes 1 (g.get FCU_STATUS_SAFE * 2 + g.get FCU_STATUS_ARMED) ++
        leBytes 1 (g.get MCK_STATUS_STATE) ++ leBytes 4 0 ++ leBytes 8 g.blockN ++ leBytes 8 g.time ++ leBytes 8 (imageIdOf g.eng.running))) ∧
    (Sys2Proof.Statements.Asked s k 0x0103 b → fld b 0 4 = 0xB007 → Gives s (.resetCmd k b) fun u =>
      u.pulling = true ∧ u.pins.resetN = false ∧ u.time = s.time + 1000000 ∧ u.bkp.causes = Nat.lor s.bkp.causes 16) ∧
    (Sys2Proof.Statements.Asked s k 0x0104 b → fld b 0 1 = 2 → zeros b 1 3 = true → s.eng.running = none → s.get PWR_STATE_STATE = 3 → Gives s (.powerCmd k b) fun u =>
      u.boot = .off ∧ u.get PWR_STATE_STATE = 2 ∧ u.flag FCU_STATUS_SAFE = true ∧ u.triads = []) ∧
    (let a := fld b 0 8
     Sys2Proof.Statements.Asked s k 0x0105 b → a % 4 = 0 → fld b 8 2 = 1 → zeros b 10 2 = true → 0x60000000 ≤ a → a + 4 ≤ 0x60400000 →
      g.check (g.prosalIssuer 1) a 4 .load = .ok → g.busError a false = false →
      Sys2Proof.Statements.Answered s k 0x0105 b (.regRead k b) .ok (g.devRead 0 1 a).1 (leBytes 4 (g.devRead 0 1 a).2.toNat)) ∧
    (let a := fld b 0 8
     Sys2Proof.Statements.Asked s k 0x0106 b → g.maintained = true → a % 4 = 0 → zeros b 12 4 = true → 0x60000000 ≤ a → a < 0x60400000 →
      a < MSW_CTRL ∨ MSW_CTRL + 0x10000 ≤ a → g.busError a true = false →
      (g.check (g.prosalIssuer 2) a 4 .store = .ok → Sys2Proof.Statements.Answered s k 0x0106 b (.regWrite k b) .ok (g.devWrite 0 2 a (fldW b 8)) []) ∧
      (∀ x, g.check (g.prosalIssuer 2) a 4 .store = .lock x →
        Sys2Proof.Statements.Answered s k 0x0106 b (.regWrite k b) .locked (g.refuse (g.prosalIssuer 2) 3 (.lock x)) [])) ∧
    (Sys2Proof.Statements.Asked s k 0x0106 b → g.maintained = false → Sys2Proof.Statements.Answered s k 0x0106 b (.regWrite k b) .notPermitted g []) ∧
    (Sys2Proof.Statements.Asked s k 0x0201 b → fld b 0 4 % 64 = 0 → fld b 0 4 + fld b 4 4 ≤ 0x17C0000 →
      (∀ im, g.checkImage (fld b 0 4) (fld b 4 4) = .ok im →
        Sys2Proof.Statements.Answered s k 0x0201 b (.graphLoad k b) .ok (g.takePending im) (loadBody 0 im.lead 0xFFFF 0xFFFF)) ∧
      (∀ f, g.checkImage (fld b 0 4) (fld b 4 4) = .error f →
        Sys2Proof.Statements.Answered s k 0x0201 b (.graphLoad k b) .loadFailed g (loadBody f.code 0 f.sec f.ent))) ∧
    (∀ im, Sys2Proof.Statements.Asked s k 0x0202 b → g.standsBy = false → fld b 8 4 < 2 → g.eng.pending = some im → g.eng.switch = none → g.eng.stopAfter = none →
      let c := g.countIn im
      let hot := c.hotPossible im
      let first := c.earliestSwitch im
      let at' := if fld b 0 8 = 0 then first else fld b 0 8
      (hot = true ∨ fld b 8 4 = 1 → first ≤ at' →
        Sys2Proof.Statements.Answered s k 0x0202 b (.graphSwitch k b) .ok ((c.acceptSwitch im at' hot false).tellSwitch at' false) (switchBody at' im.lead hot 0)) ∧
      (hot = true ∨ fld b 8 4 = 1 → at' < first → Sys2Proof.Statements.Answered s k 0x0202 b (.graphSwitch k b) .tooSoon c []) ∧
      (hot = false → fld b 8 4 = 0 → Sys2Proof.Statements.Answered s k 0x0202 b (.graphSwitch k b) .state c (switchBody 0 im.lead false 0x1B))) ∧
    (Sys2Proof.Statements.Asked s k 0x0202 b → g.standsBy = true → Sys2Proof.Statements.Answered s k 0x0202 b (.graphSwitch k b) .twinStandby g []) ∧
    (Sys2Proof.Statements.Asked s k 0x0203 b → g.standsBy = false → g.eng.pending ≠ none →
      (g.mayAbort = true → Sys2Proof.Statements.Answered s k 0x0203 b (.graphAbort k b) .ok g.abortSwitch []) ∧
      (g.mayAbort = false → Sys2Proof.Statements.Answered s k 0x0203 b (.graphAbort k b) .tooLate g [])) ∧
    (Sys2Proof.Statements.Asked s k 0x0204 b → g.standsBy = false → fld b 0 1 = 1 → zeros b 1 3 = true →
      (g.flag BSQ_CTRL_SWITCH_HOLD = true → g.eng.pending ≠ none → g.eng.switch = none → g.eng.released = false →
        Sys2Proof.Statements.Answered s k 0x0204 b (.graphRelease k b) .ok (g.onEng fun e => { e with released := true }) []) ∧
      (g.flag BSQ_CTRL_SWITCH_HOLD = false → Sys2Proof.Statements.Answered s k 0x0204 b (.graphRelease k b) .mode g [])) ∧
    (Sys2Proof.Statements.Asked s k 0x0205 b → Sys2Proof.Statements.Answered s k 0x0205 b (.graphStatus k b) .ok g
      (leBytes 1 (g.get BSQ_SWITCH_STATE_STEP) ++ leBytes 1 (match g.eng.switch with | some w => (if w.hot then 1 else 0) | none => 0) ++
        leBytes 2 (g.get BSQ_SWITCH_STATE_K) ++ leBytes 4 0 ++ leBytes 8 (g.get64 BSQ_SWITCH_LO) ++ leBytes 8 (imageIdOf g.eng.running) ++
        leBytes 8 (imageIdOf g.eng.pending))) ∧
    (Sys2Proof.Statements.Asked s k 0x0206 b → g.standsBy = false → g.eng.running ≠ none → g.eng.switch = none → g.eng.stopAfter = none →
      (g.blockA + 2 ≤ fld b 0 8 →
        Sys2Proof.Statements.Answered s k 0x0206 b (.graphStop k b) .ok (g.onEng fun e => { e with stopAfter := some (fld b 0 8 - 1) }) []) ∧
      (fld b 0 8 < g.blockA + 2 → Sys2Proof.Statements.Answered s k 0x0206 b (.graphStop k b) .tooSoon g []))

/-- Responses stand in their mailboxes (R404 to R413, R435), and what the commands of the system and graph families do and answer (R414, R415), with the refusals of R412. -/
def Obligations.ProsalAnswersSystemAndGraphCommands : Prop := Sys2Proof.Statements.ResponsesStand ∧ Sys2Proof.Statements.SystemAndGraphCommands

/-- The parameter, metering and fault families of Prosal's commands (R416 to R418): what each does and answers. -/
def Obligations.ProsalSetsParametersAndFaults : Prop :=
  ∀ (s : State) (k : Fin 16) (b : ByteList) (bad : LedgerBad),
    let g := s.gateUsed
    let n := fld b 0 2
    (Sys2Proof.Statements.Asked s k 0x0301 b → g.standsBy = false → n = 1 → zeros b 2 2 = true → fld ((b.drop 4).take 16) 14 2 < 2 →
      let r := g.acceptEntry ((b.drop 4).take 16)
      Sys2Proof.Statements.Answered s k 0x0301 b (.paramSet k b) .ok r.1 (leBytes 2 (if r.2 = true then 1 else 0) ++ leBytes 2 (if r.2 = true then 0 else 1) ++
        leBytes 4 (if r.2 = true ∧ r.1.get SOV_STATUS_ROLE = 2 then r.1.get SOV_PSEQ_PSEQ else 0))) ∧
    (Sys2Proof.Statements.Asked s k 0x0301 b → g.standsBy = true → Sys2Proof.Statements.Answered s k 0x0301 b (.paramSet k b) .twinStandby g []) ∧
    (∀ im i, Sys2Proof.Statements.Asked s k 0x0302 b → g.eng.running = some im → im.paramInfo (fld b 0 4) = some i →
      let v := g.param i.key
      (v.ramp = none → Sys2Proof.Statements.Answered s k 0x0302 b (.paramGet k b) .ok g
        (leBytes 4 (v.now i.type).toNat ++ leBytes 4 (v.now i.type).toNat ++ leBytes 4 0 ++ leBytes 4 0)) ∧
      (∀ r, v.ramp = some r → Sys2Proof.Statements.Answered s k 0x0302 b (.paramGet k b) .ok g
        (leBytes 4 (v.now i.type).toNat ++ leBytes 4 r.v1.toNat ++ leBytes 4 r.pos ++ leBytes 4 r.len))) ∧
    (let r := fld b 0 1
     let c : RingCfg := ⟨fld b 1 1, fld b 2 1, fld b 4 8, fld b 12 8⟩
     Sys2Proof.Statements.Asked s k 0x0303 b → r ≤ 7 → 4 ≤ c.log2 → c.log2 ≤ 16 → c.vector = 16 + r ∨ c.vector = 0xFF → zeros b 3 1 = true → c.base % 64 = 0 →
      c.consAddr % 4 = 0 →
      (g.flag (MBX_RING_STAT_ON r) = false → Sys2Proof.Statements.Answered s k 0x0303 b (.ringSetup k b) .ok (g.setupRing r c) []) ∧
      (g.flag (MBX_RING_STAT_ON r) = true → Sys2Proof.Statements.Answered s k 0x0303 b (.ringSetup k b) .state g [])) ∧
    (let r := fld b 0 1
     Sys2Proof.Statements.Asked s k 0x0304 b → r ≤ 7 → zeros b 1 3 = true → g.flag (MBX_RING_STAT_ON r) = true →
      Sys2Proof.Statements.Answered s k 0x0304 b (.ringStop k b) .ok (g.haltRing r 3) ((g.haltRing r 3).regField (MBX_RING_CONS r))) ∧
    (Sys2Proof.Statements.Asked s k 0x0401 b → n ≤ 240 → zeros b 2 2 = true → Sys2Proof.Statements.Answered s k 0x0401 b (.meterSet k b) .ok
      { g with host := { g.host with meters := (List.range n).map fun i => (fld b (4 + 2 * i) 2, (0 : Word), (0 : Word)) } } []) ∧
    (Sys2Proof.Statements.Asked s k 0x0402 b → 1 ≤ fld b 2 2 → fld b 2 2 ≤ 60 → n + fld b 2 2 ≤ g.host.meters.length →
      let l := (g.host.meters.drop n).take (fld b 2 2)
      Sys2Proof.Statements.Answered s k 0x0402 b (.meterRead k b) .ok
        { g with host := { g.host with meters := g.host.meters.take n ++ (l.map fun m => (m.1, m.2.1, (0 : Word))) ++ g.host.meters.drop (n + fld b 2 2) } }
        (l.flatMap fun m => leBytes 4 m.2.1.toNat ++ leBytes 4 m.2.2.toNat)) ∧
    (Sys2Proof.Statements.Asked s k 0x0501 b → Sys2Proof.Statements.Answered s k 0x0501 b (.faultFirst k b) .ok g
      (g.regField FCU_FIRST_CH ++ leBytes 8 (g.get64 FCU_FIRST_ADDR_LO) ++ leBytes 8 (g.get64 FCU_FIRST_TIME_LO) ++ g.regField FCU_LOST)) ∧
    (Sys2Proof.Statements.Asked s k 0x0502 b → channelKnown n = true → zeros b 2 2 = true →
      (g.flag FCU_FIRST_CH_VALID = true → g.get FCU_FIRST_CH_CHANNEL = n →
        Sys2Proof.Statements.Answered s k 0x0502 b (.faultAck k b) .ok (g.put FCU_FIRST_CH_VALID 0) []) ∧
      (g.flag FCU_FIRST_CH_VALID = false ∨ g.get FCU_FIRST_CH_CHANNEL ≠ n → Sys2Proof.Statements.Answered s k 0x0502 b (.faultAck k b) .state g [])) ∧
    (let t := g.tcwApply (FCU_CH_CFG n) (BitVec.ofNat 32 (fld b 3 1 * 2 ^ 29 + fld b 2 1))
     Sys2Proof.Statements.Asked s k 0x0503 b → channelKnown n = true → fld b 2 1 ≤ 7 → fld b 3 1 ≤ 1 → Sys2Proof.Statements.Answered s k 0x0503 b (.faultCfg k b) .ok t
      (leBytes 1 (t.get (FCU_CH_CFG_SEV n)) ++ leBytes 1 (t.sevMin n) ++ leBytes 2 0)) ∧
    (let (c, base, t) := (fld b 2 1, fld b 3 1, fld b 4 4)
     Sys2Proof.Statements.Asked s k 0x0504 b → n = 218 ∨ n = 220 → c ≠ 0 → g.sevMin n ≤ base → base ≤ 7 → 1 ≤ t → t ≤ 65535 →
      Sys2Proof.Statements.Answered s k 0x0504 b (.countCfg k b) .ok
        (g.writeCountCfg (if n = 218 then 0 else 1) (BitVec.ofNat 32 (c * 2 ^ 24 + base * 2 ^ 16 + t))) []) ∧
    (let ns := ((List.range 320).filter fun x => decide (n ≤ x) &&
        (g.flag (FCU_CH_STATUS_PEND x) || g.flag (FCU_CH_STATUS_BROKEN x) || g.flag (FCU_CH_STATUS_DEFERRED x))).take 40
     Sys2Proof.Statements.Asked s k 0x0505 b → n ≤ 319 → zeros b 2 2 = true → Sys2Proof.Statements.Answered s k 0x0505 b (.faultPending k b) .ok g
      (leBytes 2 ns.length ++ leBytes 2 0 ++ ns.flatMap g.pendingRecord)) ∧
    (Sys2Proof.Statements.Asked s k 0x0506 b → channelKnown n = true → fld b 2 1 ≤ 7 → zeros b 3 1 = true →
      (g.flag FCU_CTRL_HOST = true → g.flag (FCU_CH_STATUS_DEFERRED n) = true →
        Sys2Proof.Statements.Answered s k 0x0506 b (.faultDecide k b) .ok (g.writeDecide 0 2 (BitVec.ofNat 32 (2 ^ 31 + fld b 2 1 * 2 ^ 16 + n))) []) ∧
      (g.flag FCU_CTRL_HOST = false → Sys2Proof.Statements.Answered s k 0x0506 b (.faultDecide k b) .mode g [])) ∧
    (Sys2Proof.Statements.Asked s k 0x0507 b → channelKnown n = true → zeros b 2 2 = true →
      Sys2Proof.Statements.Answered s k 0x0507 b (.faultClear k b) .ok (g.put (FCU_CH_STATUS_PEND n) 0) []) ∧
    (let i := fld b 0 4
     let m := min (fld b 4 1) (g.logFrom i)
     Sys2Proof.Statements.Asked s k 0x0508 b → i < logSize → 1 ≤ fld b 4 1 → fld b 4 1 ≤ 7 → zeros b 5 3 = true →
      Sys2Proof.Statements.Answered s k 0x0508 b (.logRead k b) .ok (g.logSeen i m)
        (leBytes 4 (g.logSeen i m).logOldest ++ leBytes 1 m ++ leBytes 3 0 ++ (List.range m).flatMap fun j => g.logBytes (i + j))) ∧
    (Sys2Proof.Statements.Asked s k 0x0509 b →
      let r := (g.wear bad).compactLog
      (r.2 = true → Sys2Proof.Statements.Answered s k 0x0509 b (.logCompact k b bad) .ok r.1 (leBytes 4 r.1.memu.logUnread)) ∧
      (r.2 = false → Sys2Proof.Statements.Answered s k 0x0509 b (.logCompact k b bad) .ledgerWrite r.1 []))

/-- The memory, firmware and Ledger, and security families of Prosal's commands (R419, R420, R423, R432, R437 to R441): what each does and answers. -/
def Obligations.ProsalKeepsMemoryFirmwareAndKeys : Prop :=
  ∀ (s : State) (k : Fin 16) (b : ByteList) (bad : LedgerBad),
    let g := s.gateUsed
    let w := g.wear bad
    let a := fld b 0 8
    let (x0, x1, x2) := (fld b 0 1, fld b 1 1, fld b 2 2)
    (Sys2Proof.Statements.Asked s k 0x0601 b → a % 0x10000 = 0 → fld b 8 4 ≤ 1 → g.windowGood a = true → s.boot ≠ .recovery →
      let t := ((g.put MBX_WINDOW_LO_BASE (a / 0x10000)).put MBX_WINDOW_HI_BASE (a / 2 ^ 32)).put MBX_WINDOW_LO_WRITE (fld b 8 4)
      Sys2Proof.Statements.Answered s k 0x0601 b (.memWindow k b) .ok (t.loadInbound t.windowSlots) []) ∧
    (let n := fld b 8 4
     let r := g.readChecks (raiseOf (g.prosalIssuer 2) 2) (wordsOf a n)
     Sys2Proof.Statements.Asked s k 0x0602 b → 1 ≤ n → n ≤ 0x4000000 → zeros b 12 4 = true → g.crcRange a n = true → g.rangeError a n false = false →
      g.check (g.prosalIssuer 2) a n .load = .ok →
      (r.2 = none → Sys2Proof.Statements.Answered s k 0x0602 b (.memCrc k b) .ok r.1 (leBytes 4 (crc32c (r.1.bytes a n)).toNat)) ∧
      (r.2 ≠ none → Sys2Proof.Statements.Answered s k 0x0602 b (.memCrc k b) .accessRefused r.1 [])) ∧
    (Sys2Proof.Statements.Asked s k 0x0603 b → Sys2Proof.Statements.Answered s k 0x0603 b (.memStatus k b) .ok g
      (g.regField LPD_CONFIG ++ g.regField LPD_REMAP_STATUS ++ g.regField SCB_MARCH_STATUS ++ (List.range 3).flatMap (fun j => g.regField (DPT_RETIRED j)) ++
        (List.range 9).flatMap (fun j => g.regField (SPM_RETIRED j)))) ∧
    (∀ t i, Sys2Proof.Statements.Asked s k 0x0604 b → w.region a = .dram → w.retirePage (pageOf a) = (t, some i, true) →
      Sys2Proof.Statements.Answered s k 0x0604 b (.retirePage k b bad) .ok t (leBytes 4 i)) ∧
    (∀ t sp, Sys2Proof.Statements.Asked s k 0x0605 b → bankKnown x0 x1 = true → x2 < memRows x0 → w.repairRow x0 x1 x2 = (t, some sp, true) →
      Sys2Proof.Statements.Answered s k 0x0605 b (.repairRow k b bad) .ok t (leBytes 4 sp)) ∧
    (Sys2Proof.Statements.Asked s k 0x0606 b → bankKnown x0 x1 = true → zeros b 2 2 = true →
      (9 ≤ x0 ∨ w.spmUsed x0 = false → (w.retireBank x0 x1).2 = true →
        Sys2Proof.Statements.Answered s k 0x0606 b (.retireBank k b bad) .ok (w.retireBank x0 x1).1 []) ∧
      (x0 < 9 → w.spmUsed x0 = true → Sys2Proof.Statements.Answered s k 0x0606 b (.retireBank k b bad) .state w [])) ∧
    (let p := fld b 2 1
     Sys2Proof.Statements.Asked s k 0x0607 b → bankKnown x0 x1 = true → p ≤ 1 → zeros b 3 1 = true →
      (g.mayMarch x0 x1 (p = 1) = true →
        Sys2Proof.Statements.Answered s k 0x0607 b (.marchCmd k b) .ok (g.writeMarch 0 2 (BitVec.ofNat 32 (2 ^ 31 + p * 2 ^ 12 + x0 * 2 ^ 8 + x1))) []) ∧
      (g.mayMarch x0 x1 (p = 1) = false → Sys2Proof.Statements.Answered s k 0x0607 b (.marchCmd k b) .state g [])) ∧
    (let (lo, n, p) := (fld b 4 8, fld b 12 8, fld b 20 4)
     Sys2Proof.Statements.Asked s k 0x0608 b → x0 ≤ 15 → zeros b 1 3 = true → 1 ≤ p → p ≤ 604800 →
      (n = 0 → Sys2Proof.Statements.Answered s k 0x0608 b (.scrubRange k b) .ok (g.onMemu fun m => { m with ranges := Sparse.drop m.ranges x0 }) []) ∧
      (n ≠ 0 → g.region lo = .dram → g.region (lo + n - 1) = .dram →
        Sys2Proof.Statements.Answered s k 0x0608 b (.scrubRange k b) .ok (g.onMemu fun m => { m with ranges := Sparse.put m.ranges x0 ⟨lo, n, p⟩ }) [])) ∧
    (let st := fld b 2 1
     Sys2Proof.Statements.Asked s k 0x0609 b → x0 ≤ 5 → x1 ≤ 15 → st ≤ 2 → zeros b 3 1 = true →
      (st = 2 ∨ g.depotUsed x0 = false → Sys2Proof.Statements.Answered s k 0x0609 b (.depotPower k b) .ok (g.moveBank 9 (16 * x0 + x1) st) []) ∧
      (st ≠ 2 → g.depotUsed x0 = true → Sys2Proof.Statements.Answered s k 0x0609 b (.depotPower k b) .state g [])) ∧
    (let p := 0x20000000 + fld b 0 4
     let n := fld b 4 4
     let r := w.readChecks (raiseOf (w.prosalIssuer 2) 2) (wordsOf p n)
     Sys2Proof.Statements.Asked s k 0x0701 b → 256 ≤ n → fld b 0 4 + n ≤ 0x17C0000 → w.rangeError p n false = false → w.check (w.prosalIssuer 2) p n .load = .ok → r.2 = none →
      (∀ t body, r.1.slotImageGood p n = true → r.1.programSlot (1 - r.1.booted) p = (t, ⟨.ok, body⟩) →
        Sys2Proof.Statements.Answered s k 0x0701 b (.fwProgram k b bad) .ok t body) ∧
      (r.1.slotImageGood p n = false → Sys2Proof.Statements.Answered s k 0x0701 b (.fwProgram k b bad) .badArgument r.1 [])) ∧
    (Sys2Proof.Statements.Asked s k 0x0702 b → Sys2Proof.Statements.Answered s k 0x0702 b (.fwStatus k b) .ok g
      (g.slotRecord 0 ++ g.slotRecord 1 ++ leBytes 4 (if s.boot = .recovery then 0xFF else g.booted))) ∧
    (Sys2Proof.Statements.Asked s k 0x0703 b → s.boot ≠ .recovery →
      (g.activateBusy = true → Sys2Proof.Statements.Answered s k 0x0703 b (.fwActivate k b) .state g []) ∧
      (g.activateBusy = false → s.host.posted = [k.val] → Gives s (.fwActivate k b) fun u =>
        u.boot = .rom ∧ (u.triad 0).run = .running ∧ u.prosalUp = false ∧ u.host.planned = true ∧ (u.pair 21).todo.length = (s.pair 21).todo.length + 1)) ∧
    (Sys2Proof.Statements.Asked s k 0x0704 b →
      (g.maintained = true → fld b 0 2 ≤ 191 → zeros b 2 2 = true → w.flag LDG_LOCK_OPTION_WRITE = true →
        Sys2Proof.Statements.Answered s k 0x0704 b (.optionWrite k b bad) .locked w []) ∧
      (∀ t1 t2 t3, g.maintained = true → fld b 0 2 ≤ 191 → zeros b 2 2 = true → w.flag LDG_LOCK_OPTION_WRITE = false →
        w.putLedger (0x600000 + 8 * fld b 0 2) (fld b 4 8) = (t1, true) → t1.putLedger (0x604000 + 8 * fld b 0 2) (fld b 4 8) = (t2, true) →
        t2.putLedger (0x608000 + 8 * fld b 0 2) (fld b 4 8) = (t3, true) → Sys2Proof.Statements.Answered s k 0x0704 b (.optionWrite k b bad) .ok t3 []) ∧
      (g.maintained = false → Sys2Proof.Statements.Answered s k 0x0704 b (.optionWrite k b bad) .notPermitted w [])) ∧
    (Sys2Proof.Statements.Asked s k 0x0705 b → g.maintained = true → fld b 0 4 ≤ 3 →
      Sys2Proof.Statements.Answered s k 0x0705 b (.optionLock k b) .ok (g.tcwApply LDG_LOCK (fldW b 0)) []) ∧
    (let (o, n) := (fld b 0 4, fld b 4 4)
     o % 8 = 0 → n % 8 = 0 → 8 ≤ n → n ≤ 480 → o + n ≤ 0x40000 →
      (let r := g.readChecks (raiseOf (g.prosalIssuer 2) 2) (wordsOf (0x107C0000 + o) n)
       Sys2Proof.Statements.Asked s k 0x0706 b → r.2 = none →
        Sys2Proof.Statements.Answered s k 0x0706 b (.hostdataRead k b) .ok r.1 (r.1.bytes (0x107C0000 + o) n)) ∧
      (let r := w.putLedgers (0x7C0000 + o) (wordsOfBytes (n / 8) (b.drop 8))
       Sys2Proof.Statements.Asked s k 0x0707 b →
        (r.2 = true → Sys2Proof.Statements.Answered s k 0x0707 b (.hostdataWrite k b bad) .ok r.1 []) ∧
        (r.2 = false → Sys2Proof.Statements.Answered s k 0x0707 b (.hostdataWrite k b bad) .ledgerWrite r.1 []))) ∧
    (g.option0 3 = false → levelBad b = false → g.bkp.lockUntil ≤ g.get64 SEN_TIME_LO →
      (let (y1, t1) := g.draw
       let (y2, t2) := t1.draw
       Sys2Proof.Statements.Asked s k 0x0A01 b → Sys2Proof.Statements.Answered s k 0x0A01 b (.unlockNonce k b) .ok
        { t2 with gate := { t2.gate with nonce := some ⟨y1 ++ y2, x0, g.up⟩ } } (leBytes 16 (y1 ++ y2).toNat)) ∧
      (∀ nc, Sys2Proof.Statements.Asked s k 0x0A02 b → g.gate.nonce = some nc → g.up ≤ nc.issued + 10000000000 → nc.level = x0 →
        let t : State := { g with gate := { g.gate with nonce := none } }
        let r := if (hmac256 (t.bytes keyArea 32) (unlockMessage nc) == (b.drop 4).take 32) = true then t.unlocks nc.level 1 else t.unlockFails
        Sys2Proof.Statements.Answered s k 0x0A02 b (.unlockHmac k b) r.2.status r.1 r.2.body) ∧
      (let d := g.bytes (keyArea + 0xA0 + 0x20 * (x0 - 1)) 32
       Sys2Proof.Statements.Asked s k 0x0A03 b → d.any (· ≠ 0) = true →
        let r := if (sha256 ((b.drop 4).take 16) == d) = true then g.unlocks x0 2 else g.unlockFails
        Sys2Proof.Statements.Answered s k 0x0A03 b (.unlockPassword k b) r.2.status r.1 r.2.body)) ∧
    (g.option0 3 = true → Sys2Proof.Statements.Asked s k 0x0A01 b → Sys2Proof.Statements.Answered s k 0x0A01 b (.unlockNonce k b) .notPermitted g []) ∧
    (Sys2Proof.Statements.Asked s k 0x0A04 b → Sys2Proof.Statements.Answered s k 0x0A04 b (.lockCmd k b) .ok (g.setLevel 0 0) []) ∧
    (let r := w.putLedgers (0x620020 + 0x20 * x0) (wordsOfBytes 4 ((b.drop 4).take 32))
     Sys2Proof.Statements.Asked s k 0x0A05 b → g.maintained = true → x0 ≤ 3 → zeros b 1 3 = true → w.flag LDG_LOCK_KEY_WRITE = false →
      (w.bytes (keyArea + 0x20 + 0x20 * x0) 32).any (· ≠ 0) = false → r.2 = true →
      Sys2Proof.Statements.Answered s k 0x0A05 b (.keySet k b bad) .ok r.1 [])

/-- The twin and mode families of Prosal's commands (R421, R422, R429 to R431): what each does and answers. -/
def Obligations.ProsalCommandsTwinsAndModes : Prop :=
  ∀ (s : State) (k : Fin 16) (b : ByteList) (pass : Bool),
    let g := s.gateUsed
    let a := fld b 0 8
    let (x0, x1) := (fld b 0 1, fld b 1 1)
    let p := fld b 4 8
    (let v := fldW b 0
     Sys2Proof.Statements.Asked s k 0x0801 b → v &&& ~~~0x00FF01FF = 0 → 6 ≤ v.toNat / 2 ^ 16 % 256 → v.toNat / 2 ^ 16 % 256 ≤ 64 →
      Sys2Proof.Statements.Answered s k 0x0801 b (.twinCfg k b) .ok (g.writeSovCtrl v) []) ∧
    (Sys2Proof.Statements.Asked s k 0x0802 b → Sys2Proof.Statements.Answered s k 0x0802 b (.twinStatus k b) .ok g
      (g.regField SOV_STATUS ++ g.regField SOV_PEER ++ g.regField SOV_PEER_CLASS ++ g.regField SOV_TAKE_INFO ++ leBytes 8 (g.get64 SOV_TAKE_LO) ++
        g.regField SOV_COMPARE ++ g.regField SOV_JOIN)) ∧
    (Sys2Proof.Statements.Asked s k 0x0803 b → g.standsBy = false → g.standbyReady = true → g.sov.join = none → g.eng.switch = none → g.clk.step = none → g.sov.swapAt = none →
      (g.blockA + 2 ≤ a → Sys2Proof.Statements.Answered s k 0x0803 b (.twinSwap k b) .ok
        ((g.onSov fun v => { v with swapAt := some a }).sendCmd 1 0 0 a 0) (leBytes 8 a)) ∧
      (a < g.blockA + 2 → Sys2Proof.Statements.Answered s k 0x0803 b (.twinSwap k b) .tooSoon g [])) ∧
    (Sys2Proof.Statements.Asked s k 0x0804 b →
      (g.mayTake = true → Sys2Proof.Statements.Answered s k 0x0804 b (.twinTake k b) .ok (g.onSov fun v => { v with cause := 4 }) []) ∧
      (g.mayTake = false → Sys2Proof.Statements.Answered s k 0x0804 b (.twinTake k b) .state g [])) ∧
    (Sys2Proof.Statements.Asked s k 0x0805 b → x0 ≤ 2 → zeros b 1 3 = true →
      (g.sov.choiceBy ≠ none → Sys2Proof.Statements.Answered s k 0x0805 b (.twinChoice k b) .ok
        (if x0 = 0 then g.setRole 3 else if x0 = 1 then g.takeOutputs 5 else g.setRole 6) []) ∧
      (g.sov.choiceBy = none → Sys2Proof.Statements.Answered s k 0x0805 b (.twinChoice k b) .state g [])) ∧
    (Sys2Proof.Statements.Asked s k 0x0806 b → g.get SOV_STATUS_ROLE = 6 → Sys2Proof.Statements.Answered s k 0x0806 b (.twinJoin k b) .ok (g.setRole 3) []) ∧
    (Sys2Proof.Statements.Asked s k 0x0807 b → g.get SOV_STATUS_LINK = 2 →
      Sys2Proof.Statements.Answered s k 0x0807 b (.twinRelay k b) .ok (g.sendCmd 9 0 0 a (fld b 8 8)) []) ∧
    (Sys2Proof.Statements.Asked s k 0x0808 b →
      (∀ x y l, g.sov.relay = (x, y) :: l → Sys2Proof.Statements.Answered s k 0x0808 b (.twinRelayRead k b) .ok (g.onSov fun v => { v with relay := l })
        (leBytes 4 l.length ++ leBytes 8 x ++ leBytes 8 y)) ∧
      (g.sov.relay = [] → Sys2Proof.Statements.Answered s k 0x0808 b (.twinRelayRead k b) .ok g (List.replicate 20 0))) ∧
    (Sys2Proof.Statements.Asked s k 0x0901 b →
      Sys2Proof.Statements.Answered s k 0x0901 b (.modeGet k b) .ok g (leBytes 4 (bitsOf g.modeOf) ++ leBytes 4 (bitsOf g.modePending))) ∧
    (Sys2Proof.Statements.Asked s k 0x0902 b → x0 ≤ 10 → x1 ≤ 1 → zeros b 2 2 = true → g.standsBy = false ∨ x0 < 6 ∨ 8 < x0 →
      (g.modeOf x0 = decide (x1 = 1) → Sys2Proof.Statements.Answered s k 0x0902 b (.modeSet k b) .ok (g.dropMode x0) (leBytes 8 0)) ∧
      (g.modeOf x0 = !decide (x1 = 1) → g.modeRefused x0 = false →
        let r := g.changeMode x0 (decide (x1 = 1)) p
        Sys2Proof.Statements.Answered s k 0x0902 b (.modeSet k b) .ok (r.1.forwardMode x0) (leBytes 8 r.2)) ∧
      (g.modeOf x0 = !decide (x1 = 1) → g.modeRefused x0 = true → Sys2Proof.Statements.Answered s k 0x0902 b (.modeSet k b) .state g [])) ∧
    (∀ im q part y rest, Sys2Proof.Statements.Asked s k 0x0903 b → x0 ≤ 15 → x1 = 0 → fld b 2 2 ≤ 1 → g.eng.running = some im → im.partOn x0 = some q → im.parts[q]? = some part →
      g.eng.parks = [] → g.eng.switch = none →
      let lead := leadBlocks part.footprint im.rate im.bsize
      let at' := if p = 0 then g.blockA + lead + 2 else p
      (g.blockA + lead + 2 ≤ at' → g.parkLanes = y :: rest → g.flag (BSQ_LANE_MAP_ON_LAYBY x0) = false → g.eng.outOfService.contains x0 = false →
        fld b 2 2 = 1 ∨ g.needsForce rest.length = false → g.poolUsed.length + g.poolWithheld + (part.footprint + 63) / 64 ≤ 65536 →
        Sys2Proof.Statements.Answered s k 0x0903 b (.laneMove k b) .ok (g.onEng fun e => { e with parks := [⟨x0, y, false, at', 0⟩] })
          (leBytes 8 at' ++ leBytes 4 lead)) ∧
      (at' < g.blockA + lead + 2 → Sys2Proof.Statements.Answered s k 0x0903 b (.laneMove k b) .tooSoon g [])) ∧
    (Sys2Proof.Statements.Asked s k 0x0904 b → x0 ≤ 17 → zeros b 2 2 = true → g.laneCarries x0 = false →
      (x1 = 1 → Sys2Proof.Statements.Answered s k 0x0904 b (.laneService k b pass) .ok (g.outLane x0) (leBytes 4 0)) ∧
      (x1 = 0 → pass = true → Sys2Proof.Statements.Answered s k 0x0904 b (.laneService k b pass) .ok (g.serveLane x0) (leBytes 4 0)) ∧
      (x1 = 0 → pass = false → Sys2Proof.Statements.Answered s k 0x0904 b (.laneService k b pass) .ok (g.outLane x0) (leBytes 4 1))) ∧
    (Sys2Proof.Statements.Asked s k 0x0905 b → x0 ≤ 8 → x1 ≤ 4 → zeros b 2 2 = true →
      (g.eng.hostPower = true ∨ x1 = 0 → Sys2Proof.Statements.Answered s k 0x0905 b (.clusterPin k b) .ok (g.put (PWR_CLUSTER_PIN x0) x1) []) ∧
      (g.eng.hostPower = false → x1 ≠ 0 → Sys2Proof.Statements.Answered s k 0x0905 b (.clusterPin k b) .mode g [])) ∧
    (Sys2Proof.Statements.Asked s k 0x0906 b → x0 ≤ 7 → x1 ≤ 1 → zeros b 2 2 = true →
      (p < g.blockA + 2 → Sys2Proof.Statements.Answered s k 0x0906 b (.expressMove k b) .tooSoon g []) ∧
      (g.blockA + 2 ≤ p → g.expressMayMove x0 (decide (x1 = 1)) = true → Sys2Proof.Statements.Answered s k 0x0906 b (.expressMove k b) .ok
        ((g.put64 EXP_MOVE_LO p).writeExpMove 0 2 (BitVec.ofNat 32 (2 ^ 31 + x1 * 16 + x0))) (leBytes 8 p)))

/-- The clock and port families of Prosal's commands (R16, R17, R203 to R205, R231, R424, R433): what each does and answers. -/
def Obligations.ProsalConfiguresClocksAndPorts : Prop :=
  ∀ (s : State) (k : Fin 16) (b : ByteList),
    let g := s.gateUsed
    let v := fldW b 0
    let port := g.mboxLe k 7 1
    (Sys2Proof.Statements.Asked s k 0x0B01 b → regFits MCK_CTRL v = true → v.toNat % 8 ≤ 4 → v.toNat / 16 % 8 ≤ 6 → v.toNat / 512 % 4 ≤ 2 →
      Sys2Proof.Statements.Answered s k 0x0B01 b (.clockCfg k b) .ok
        (g.writeMckCtrl 0 2 (MCK_CTRL_HOST_SERVO.write (MCK_CTRL_STEP_REQ.write v 0) (g.get MCK_CTRL_HOST_SERVO))) []) ∧
    (Sys2Proof.Statements.Asked s k 0x0B02 b → regFits MCK_PTP_CFG v = true → regFits MCK_PTP_PRIO (fldW b 4) = true → -7 ≤ signed4 v 20 → signed4 v 20 ≤ 5 →
      -3 ≤ signed4 v 12 → signed4 v 12 ≤ 4 → -7 ≤ signed4 v 8 → signed4 v 8 ≤ 1 → 2 ≤ v.toNat / 2 ^ 16 % 16 → v.toNat / 2 ^ 16 % 16 ≤ 10 →
      Sys2Proof.Statements.Answered s k 0x0B02 b (.ptpCfg k b) .ok ((g.writePtpCfg 0 2 v).writePlain 2 MCK_PTP_PRIO (fldW b 4)) []) ∧
    (Sys2Proof.Statements.Asked s k 0x0B03 b → Sys2Proof.Statements.Answered s k 0x0B03 b (.clockStatus k b) .ok g
      (g.regField MCK_STATUS ++ g.regField MCK_PHASE_ERR ++ g.regField MCK_FREQ ++ g.regField MCK_OFFSET ++ g.regField MCK_MPD ++ g.regField MCK_COUNTS ++
        leBytes 8 (g.get64 MCK_GM_ID_LO))) ∧
    (Sys2Proof.Statements.Asked s k 0x0B04 b → g.standsBy = false →
      (fld b 8 4 ≤ 3 → g.flag MCK_CTRL_HOST_SERVO = false → Sys2Proof.Statements.Answered s k 0x0B04 b (.servoInput k b) .mode g []) ∧
      (fld b 8 4 = 0 → g.flag MCK_CTRL_HOST_SERVO = true → Sys2Proof.Statements.Answered s k 0x0B04 b (.servoInput k b) .ok (g.writeHostFreq 0 2 v) []) ∧
      (fld b 8 4 = 1 → g.flag MCK_CTRL_HOST_SERVO = true →
        Sys2Proof.Statements.Answered s k 0x0B04 b (.servoInput k b) .ok ((g.writeHostFreq 0 2 v).writeHostPhase 0 2 (fldW b 4)) [])) ∧
    (Sys2Proof.Statements.Asked s k 0x0B05 b → g.standsBy = false →
      (g.ptpLocked = false → Sys2Proof.Statements.Answered s k 0x0B05 b (.blockPreset k b) .ok (g.put64 BSQ_PRESET_LO (fld b 0 8)).armPreset []) ∧
      (g.ptpLocked = true → Sys2Proof.Statements.Answered s k 0x0B05 b (.blockPreset k b) .state g [])) ∧
    (let t := g.writeNp 2 (NP_CTRL port) v
     let t := ((t.setReg (NP_MAC_LO port) (fldW b 4)).put (NP_MAC_HI_MAC port) (fld b 8 2)).setReg (NP_IPV4 port) (fldW b 12)
     let t := t.writePlain 2 (NP_PTP_ASYM port) (fldW b 16)
     Sys2Proof.Statements.Asked s k 0x0C01 b → regFits (NP_CTRL port) v = true → v.toNat % 4 ≠ 3 → regFits (NP_PTP_ASYM port) (fldW b 16) = true →
      (t.overRate port = false → Sys2Proof.Statements.Answered s k 0x0C01 b (.netPortCfg k b) .ok t []) ∧
      (t.overRate port = true → Sys2Proof.Statements.Answered s k 0x0C01 b (.netPortCfg k b) .bandwidth g [])) ∧
    (let i := fld b 0 2
     let r := rxRecord b
     Sys2Proof.Statements.Asked s k 0x0C02 b → rxRecordGood b = true →
      (16384 < g.rxHeld i + weight r.channels r.format → Sys2Proof.Statements.Answered s k 0x0C02 b (.rxStreamSet k b) .noSpace g []) ∧
      (g.rxHeld i + weight r.channels r.format ≤ 16384 →
        (g.jitterBase i (jitterBytes r.channels r.depthLog) = none → Sys2Proof.Statements.Answered s k 0x0C02 b (.rxStreamSet k b) .noSpace g []) ∧
        ∀ base, g.jitterBase i (jitterBytes r.channels r.depthLog) = some base →
          let t := (g.setRx i { r with base := base }).setReg (NPE_RXSTAT i) (BitVec.ofNat 32 (2 ^ 29))
          (t.anyOverRate = false → Sys2Proof.Statements.Answered s k 0x0C02 b (.rxStreamSet k b) .ok (g.reportJoins t) []) ∧
          (t.anyOverRate = true → Sys2Proof.Statements.Answered s k 0x0C02 b (.rxStreamSet k b) .bandwidth g []))) ∧
    (let i := fld b 0 2
     let r := txRecord b
     let t := (g.setTx i r).setReg (NPE_TXSTAT i) (BitVec.ofNat 32 (2 * 2 ^ 29))
     Sys2Proof.Statements.Asked s k 0x0C03 b → txRecordGood b = true → g.txHeld i + weight r.channels r.format ≤ 16384 →
      (t.anyOverRate = false → Sys2Proof.Statements.Answered s k 0x0C03 b (.txStreamSet k b) .ok t []) ∧
      (t.anyOverRate = true → Sys2Proof.Statements.Answered s k 0x0C03 b (.txStreamSet k b) .bandwidth g [])) ∧
    (let i := fld b 2 2
     Sys2Proof.Statements.Asked s k 0x0C04 b → zeros b 1 1 = true → i ≤ 4095 →
      (fld b 0 1 = 0 → (g.rxAt i).isSome = true → Sys2Proof.Statements.Answered s k 0x0C04 b (.streamDelete k b) .ok
        (g.reportJoins (State.setReg { g with net := { g.net with rx := Sparse.drop g.net.rx i } } (NPE_RXSTAT i) 0)) []) ∧
      (fld b 0 1 = 1 → (g.txAt i).isSome = true → Sys2Proof.Statements.Answered s k 0x0C04 b (.streamDelete k b) .ok
        (State.setReg { g with net := { g.net with tx := Sparse.drop g.net.tx i } } (NPE_TXSTAT i) 0) []) ∧
      (fld b 0 1 = 0 → g.rxAt i = none → Sys2Proof.Statements.Answered s k 0x0C04 b (.streamDelete k b) .state g [])) ∧
    (let i := fld b 0 2
     Sys2Proof.Statements.Asked s k 0x0C05 b → g.standsBy = false → i ≤ 4095 → fld b 2 1 ≤ 1 → zeros b 3 1 = true →
      (∀ r, g.net.hostConceal = true → g.rxAt i = some r → r.episode = true → Sys2Proof.Statements.Answered s k 0x0C05 b (.concealChoice k b) .ok
        ((g.setRx i { r with choice := some (fld b 2 1, fld b 4 8) }).put (NPE_RXSTAT_HOST_WAIT i) 0) []) ∧
      (g.net.hostConceal = false → Sys2Proof.Statements.Answered s k 0x0C05 b (.concealChoice k b) .mode g [])) ∧
    (let t := g.writeTdmFormat port 0 2 v
     Sys2Proof.Statements.Asked s k 0x0C06 b → regFits (TDM_FORMAT port) v = true →
      (t.get (TDM_STATUS_STATE port) ≠ 4 → Sys2Proof.Statements.Answered s k 0x0C06 b (.tdmCfg k b) .ok t (t.regField (TDM_STATUS port))) ∧
      (t.get (TDM_STATUS_STATE port) = 4 → Sys2Proof.Statements.Answered s k 0x0C06 b (.tdmCfg k b) .badArgument t [])) ∧
    (let (kind, j) := (fld b 0 1, fld b 1 1)
     Sys2Proof.Statements.Asked s k 0x0C07 b → kind ≤ 1 → j ≤ 3 → fld b 2 2 ≤ 1 →
      (fld b 2 2 = 1 ∨ g.recalRefused kind j = false → Sys2Proof.Statements.Answered s k 0x0C07 b (.portRecal k b) .ok
        (g.draw.2.startRecal kind j) (leBytes 4 (g.draw.1.toNat % (if kind = 0 then 40001 else 20001)))) ∧
      (fld b 2 2 = 0 → g.recalRefused kind j = true → Sys2Proof.Statements.Answered s k 0x0C07 b (.portRecal k b) .state g [])) ∧
    (let j := fld b 1 1
     Sys2Proof.Statements.Asked s k 0x0C08 b → zeros b 2 2 = true →
      (fld b 0 1 = 0 → j ≤ 3 → Sys2Proof.Statements.Answered s k 0x0C08 b (.portStatus k b) .ok g
        (g.regField (NP_STATUS j) ++ g.regField (NP_RX_FRAMES j) ++ g.regField (NP_TX_FRAMES j) ++ g.regField (NP_ERR_L2 j) ++ g.regField (NP_ERR_L3 j) ++
          g.regField (NP_ERR_RTP j) ++ g.regField (NP_CTRLQ j) ++ g.regField (NP_FEC j))) ∧
      (fld b 0 1 = 1 → j ≤ 15 → Sys2Proof.Statements.Answered s k 0x0C08 b (.portStatus k b) .ok g
        (g.regField (TDM_FORMAT j) ++ g.regField (TDM_STATUS j) ++ g.regField (TDM_ERR j)))) ∧
    (let (d, f, n) := (fld b 0 1, fld b 2 2, fld b 4 2)
     Sys2Proof.Statements.Asked s k 0x0C09 b → d ≤ 1 → zeros b 1 1 = true → zeros b 6 2 = true → 1 ≤ n → n ≤ 100 → f + n ≤ 4096 →
      Sys2Proof.Statements.Answered s k 0x0C09 b (.streamStatus k b) .ok g
        ((List.range n).flatMap fun i => g.regField (if d = 0 then NPE_RXSTAT (f + i) else NPE_TXSTAT (f + i))))
end

