-- ==== Sys2Proof/Laws/Dispatch.lean ====
section
/-! SUPPORT. Laws/Dispatch.lean: the meaning each command of the table has, command by command. -/
namespace Sys2Proof.Machine

@[simp] theorem exec_frameBoundary (s : State) : exec (.frameBoundary) s = execFrameBoundary s := rfl
@[simp] theorem exec_blockBoundary (s : State) : exec (.blockBoundary) s = execBlockBoundary s := rfl
@[simp] theorem exec_lanePeriodBoundary (s : State) : exec (.lanePeriodBoundary) s = execLanePeriodBoundary s := rfl
@[simp] theorem exec_taskStart (p : Fin 18) (s : State) : exec (.taskStart p) s = execTaskStart p s := rfl
@[simp] theorem exec_taskComplete (p : Fin 18) (r : TaskResult) (s : State) : exec (.taskComplete p r) s = execTaskComplete p r s := rfl
@[simp] theorem exec_commitGateOpen (p : Fin 18) (s : State) : exec (.commitGateOpen p) s = execCommitGateOpen p s := rfl
@[simp] theorem exec_mirrorComplete (j : Fin 16) (s : State) : exec (.mirrorComplete j) s = execMirrorComplete j s := rfl
@[simp] theorem exec_outputStart (s : State) : exec (.outputStart) s = execOutputStart s := rfl
@[simp] theorem exec_taskFailure (p : Fin 18) (c : FailCause) (s : State) : exec (.taskFailure p c) s = execTaskFailure p c s := rfl
@[simp] theorem exec_laybyReady (l : Fin 2) (s : State) : exec (.laybyReady l) s = execLaybyReady l s := rfl
@[simp] theorem exec_replayComplete (p : Fin 18) (r : TaskResult) (s : State) : exec (.replayComplete p r) s = execReplayComplete p r s := rfl
@[simp] theorem exec_shadowComplete (l : Fin 2) (s : State) : exec (.shadowComplete l) s = execShadowComplete l s := rfl
@[simp] theorem exec_settleComplete (l : Fin 2) (s : State) : exec (.settleComplete l) s = execSettleComplete l s := rfl
@[simp] theorem exec_laneTestComplete (p : Fin 18) (pass : Bool) (s : State) : exec (.laneTestComplete p pass) s = execLaneTestComplete p pass s := rfl
@[simp] theorem exec_stagingComplete (s : State) : exec (.stagingComplete) s = execStagingComplete s := rfl
@[simp] theorem exec_idleBlocksExpiry (c : Fin 9) (s : State) : exec (.idleBlocksExpiry c) s = execIdleBlocksExpiry c s := rfl
@[simp] theorem exec_clusterWakeComplete (c : Fin 9) (s : State) : exec (.clusterWakeComplete c) s = execClusterWakeComplete c s := rfl
@[simp] theorem exec_taskBudgetExpiry (p : Fin 18) (s : State) : exec (.taskBudgetExpiry p) s = execTaskBudgetExpiry p s := rfl
@[simp] theorem exec_add (t : TriadId) (rd : Reg) (rs1 : Reg) (rs2 : Reg) (s : State) : exec (.add t rd rs1 rs2) s = execAdd t rd rs1 rs2 s := rfl
@[simp] theorem exec_sub (t : TriadId) (rd : Reg) (rs1 : Reg) (rs2 : Reg) (s : State) : exec (.sub t rd rs1 rs2) s = execSub t rd rs1 rs2 s := rfl
@[simp] theorem exec_andCmd (t : TriadId) (rd : Reg) (rs1 : Reg) (rs2 : Reg) (s : State) : exec (.andCmd t rd rs1 rs2) s = execAndCmd t rd rs1 rs2 s := rfl
@[simp] theorem exec_orCmd (t : TriadId) (rd : Reg) (rs1 : Reg) (rs2 : Reg) (s : State) : exec (.orCmd t rd rs1 rs2) s = execOrCmd t rd rs1 rs2 s := rfl
@[simp] theorem exec_xorCmd (t : TriadId) (rd : Reg) (rs1 : Reg) (rs2 : Reg) (s : State) : exec (.xorCmd t rd rs1 rs2) s = execXorCmd t rd rs1 rs2 s := rfl
@[simp] theorem exec_shl (t : TriadId) (rd : Reg) (rs1 : Reg) (rs2 : Reg) (s : State) : exec (.shl t rd rs1 rs2) s = execShl t rd rs1 rs2 s := rfl
@[simp] theorem exec_shr (t : TriadId) (rd : Reg) (rs1 : Reg) (rs2 : Reg) (s : State) : exec (.shr t rd rs1 rs2) s = execShr t rd rs1 rs2 s := rfl
@[simp] theorem exec_sar (t : TriadId) (rd : Reg) (rs1 : Reg) (rs2 : Reg) (s : State) : exec (.sar t rd rs1 rs2) s = execSar t rd rs1 rs2 s := rfl
@[simp] theorem exec_setlt (t : TriadId) (rd : Reg) (rs1 : Reg) (rs2 : Reg) (s : State) : exec (.setlt t rd rs1 rs2) s = execSetlt t rd rs1 rs2 s := rfl
@[simp] theorem exec_setltU (t : TriadId) (rd : Reg) (rs1 : Reg) (rs2 : Reg) (s : State) : exec (.setltU t rd rs1 rs2) s = execSetltU t rd rs1 rs2 s := rfl
@[simp] theorem exec_minCmd (t : TriadId) (rd : Reg) (rs1 : Reg) (rs2 : Reg) (s : State) : exec (.minCmd t rd rs1 rs2) s = execMinCmd t rd rs1 rs2 s := rfl
@[simp] theorem exec_maxCmd (t : TriadId) (rd : Reg) (rs1 : Reg) (rs2 : Reg) (s : State) : exec (.maxCmd t rd rs1 rs2) s = execMaxCmd t rd rs1 rs2 s := rfl
@[simp] theorem exec_minU (t : TriadId) (rd : Reg) (rs1 : Reg) (rs2 : Reg) (s : State) : exec (.minU t rd rs1 rs2) s = execMinU t rd rs1 rs2 s := rfl
@[simp] theorem exec_maxU (t : TriadId) (rd : Reg) (rs1 : Reg) (rs2 : Reg) (s : State) : exec (.maxU t rd rs1 rs2) s = execMaxU t rd rs1 rs2 s := rfl
@[simp] theorem exec_addW (t : TriadId) (rd : Reg) (rs1 : Reg) (rs2 : Reg) (s : State) : exec (.addW t rd rs1 rs2) s = execAddW t rd rs1 rs2 s := rfl
@[simp] theorem exec_subW (t : TriadId) (rd : Reg) (rs1 : Reg) (rs2 : Reg) (s : State) : exec (.subW t rd rs1 rs2) s = execSubW t rd rs1 rs2 s := rfl
@[simp] theorem exec_shlW (t : TriadId) (rd : Reg) (rs1 : Reg) (rs2 : Reg) (s : State) : exec (.shlW t rd rs1 rs2) s = execShlW t rd rs1 rs2 s := rfl
@[simp] theorem exec_shrW (t : TriadId) (rd : Reg) (rs1 : Reg) (rs2 : Reg) (s : State) : exec (.shrW t rd rs1 rs2) s = execShrW t rd rs1 rs2 s := rfl
@[simp] theorem exec_sarW (t : TriadId) (rd : Reg) (rs1 : Reg) (rs2 : Reg) (s : State) : exec (.sarW t rd rs1 rs2) s = execSarW t rd rs1 rs2 s := rfl
@[simp] theorem exec_mul (t : TriadId) (rd : Reg) (rs1 : Reg) (rs2 : Reg) (s : State) : exec (.mul t rd rs1 rs2) s = execMul t rd rs1 rs2 s := rfl
@[simp] theorem exec_mulHs (t : TriadId) (rd : Reg) (rs1 : Reg) (rs2 : Reg) (s : State) : exec (.mulHs t rd rs1 rs2) s = execMulHs t rd rs1 rs2 s := rfl
@[simp] theorem exec_mulHu (t : TriadId) (rd : Reg) (rs1 : Reg) (rs2 : Reg) (s : State) : exec (.mulHu t rd rs1 rs2) s = execMulHu t rd rs1 rs2 s := rfl
@[simp] theorem exec_mulW (t : TriadId) (rd : Reg) (rs1 : Reg) (rs2 : Reg) (s : State) : exec (.mulW t rd rs1 rs2) s = execMulW t rd rs1 rs2 s := rfl
@[simp] theorem exec_div (t : TriadId) (rd : Reg) (rs1 : Reg) (rs2 : Reg) (s : State) : exec (.div t rd rs1 rs2) s = execDiv t rd rs1 rs2 s := rfl
@[simp] theorem exec_divU (t : TriadId) (rd : Reg) (rs1 : Reg) (rs2 : Reg) (s : State) : exec (.divU t rd rs1 rs2) s = execDivU t rd rs1 rs2 s := rfl
@[simp] theorem exec_rem (t : TriadId) (rd : Reg) (rs1 : Reg) (rs2 : Reg) (s : State) : exec (.rem t rd rs1 rs2) s = execRem t rd rs1 rs2 s := rfl
@[simp] theorem exec_remU (t : TriadId) (rd : Reg) (rs1 : Reg) (rs2 : Reg) (s : State) : exec (.remU t rd rs1 rs2) s = execRemU t rd rs1 rs2 s := rfl
@[simp] theorem exec_clz (t : TriadId) (rd : Reg) (rs1 : Reg) (s : State) : exec (.clz t rd rs1) s = execClz t rd rs1 s := rfl
@[simp] theorem exec_ctz (t : TriadId) (rd : Reg) (rs1 : Reg) (s : State) : exec (.ctz t rd rs1) s = execCtz t rd rs1 s := rfl
@[simp] theorem exec_bitcnt (t : TriadId) (rd : Reg) (rs1 : Reg) (s : State) : exec (.bitcnt t rd rs1) s = execBitcnt t rd rs1 s := rfl
@[simp] theorem exec_rol (t : TriadId) (rd : Reg) (rs1 : Reg) (rs2 : Reg) (s : State) : exec (.rol t rd rs1 rs2) s = execRol t rd rs1 rs2 s := rfl
@[simp] theorem exec_ror (t : TriadId) (rd : Reg) (rs1 : Reg) (rs2 : Reg) (s : State) : exec (.ror t rd rs1 rs2) s = execRor t rd rs1 rs2 s := rfl
@[simp] theorem exec_byterev (t : TriadId) (rd : Reg) (rs1 : Reg) (s : State) : exec (.byterev t rd rs1) s = execByterev t rd rs1 s := rfl
@[simp] theorem exec_sextB (t : TriadId) (rd : Reg) (rs1 : Reg) (s : State) : exec (.sextB t rd rs1) s = execSextB t rd rs1 s := rfl
@[simp] theorem exec_sextH (t : TriadId) (rd : Reg) (rs1 : Reg) (s : State) : exec (.sextH t rd rs1) s = execSextH t rd rs1 s := rfl
@[simp] theorem exec_sextW (t : TriadId) (rd : Reg) (rs1 : Reg) (s : State) : exec (.sextW t rd rs1) s = execSextW t rd rs1 s := rfl
@[simp] theorem exec_addi (t : TriadId) (rd : Reg) (rs1 : Reg) (imm : Imm16) (s : State) : exec (.addi t rd rs1 imm) s = execAddi t rd rs1 imm s := rfl
@[simp] theorem exec_andi (t : TriadId) (rd : Reg) (rs1 : Reg) (imm : Imm16) (s : State) : exec (.andi t rd rs1 imm) s = execAndi t rd rs1 imm s := rfl
@[simp] theorem exec_ori (t : TriadId) (rd : Reg) (rs1 : Reg) (imm : Imm16) (s : State) : exec (.ori t rd rs1 imm) s = execOri t rd rs1 imm s := rfl
@[simp] theorem exec_xori (t : TriadId) (rd : Reg) (rs1 : Reg) (imm : Imm16) (s : State) : exec (.xori t rd rs1 imm) s = execXori t rd rs1 imm s := rfl
@[simp] theorem exec_setlti (t : TriadId) (rd : Reg) (rs1 : Reg) (imm : Imm16) (s : State) : exec (.setlti t rd rs1 imm) s = execSetlti t rd rs1 imm s := rfl
@[simp] theorem exec_setltiU (t : TriadId) (rd : Reg) (rs1 : Reg) (imm : Imm16) (s : State) : exec (.setltiU t rd rs1 imm) s = execSetltiU t rd rs1 imm s := rfl
@[simp] theorem exec_shli (t : TriadId) (rd : Reg) (rs1 : Reg) (sh : Sh6) (s : State) : exec (.shli t rd rs1 sh) s = execShli t rd rs1 sh s := rfl
@[simp] theorem exec_shri (t : TriadId) (rd : Reg) (rs1 : Reg) (sh : Sh6) (s : State) : exec (.shri t rd rs1 sh) s = execShri t rd rs1 sh s := rfl
@[simp] theorem exec_sari (t : TriadId) (rd : Reg) (rs1 : Reg) (sh : Sh6) (s : State) : exec (.sari t rd rs1 sh) s = execSari t rd rs1 sh s := rfl
@[simp] theorem exec_shin (t : TriadId) (rd : Reg) (rs1 : Reg) (imm : Imm16) (s : State) : exec (.shin t rd rs1 imm) s = execShin t rd rs1 imm s := rfl
@[simp] theorem exec_pcadd (t : TriadId) (rd : Reg) (rs1 : Reg) (imm : Imm16) (s : State) : exec (.pcadd t rd rs1 imm) s = execPcadd t rd rs1 imm s := rfl
@[simp] theorem exec_ldB (t : TriadId) (rd : Reg) (rs1 : Reg) (imm : Imm16) (s : State) : exec (.ldB t rd rs1 imm) s = execLdB t rd rs1 imm s := rfl
@[simp] theorem exec_ldBu (t : TriadId) (rd : Reg) (rs1 : Reg) (imm : Imm16) (s : State) : exec (.ldBu t rd rs1 imm) s = execLdBu t rd rs1 imm s := rfl
@[simp] theorem exec_ldH (t : TriadId) (rd : Reg) (rs1 : Reg) (imm : Imm16) (s : State) : exec (.ldH t rd rs1 imm) s = execLdH t rd rs1 imm s := rfl
@[simp] theorem exec_ldHu (t : TriadId) (rd : Reg) (rs1 : Reg) (imm : Imm16) (s : State) : exec (.ldHu t rd rs1 imm) s = execLdHu t rd rs1 imm s := rfl
@[simp] theorem exec_ldW (t : TriadId) (rd : Reg) (rs1 : Reg) (imm : Imm16) (s : State) : exec (.ldW t rd rs1 imm) s = execLdW t rd rs1 imm s := rfl
@[simp] theorem exec_ldWu (t : TriadId) (rd : Reg) (rs1 : Reg) (imm : Imm16) (s : State) : exec (.ldWu t rd rs1 imm) s = execLdWu t rd rs1 imm s := rfl
@[simp] theorem exec_ldD (t : TriadId) (rd : Reg) (rs1 : Reg) (imm : Imm16) (s : State) : exec (.ldD t rd rs1 imm) s = execLdD t rd rs1 imm s := rfl
@[simp] theorem exec_stB (t : TriadId) (rs2 : Reg) (rs1 : Reg) (imm : Imm16) (s : State) : exec (.stB t rs2 rs1 imm) s = execStB t rs2 rs1 imm s := rfl
@[simp] theorem exec_stH (t : TriadId) (rs2 : Reg) (rs1 : Reg) (imm : Imm16) (s : State) : exec (.stH t rs2 rs1 imm) s = execStH t rs2 rs1 imm s := rfl
@[simp] theorem exec_stW (t : TriadId) (rs2 : Reg) (rs1 : Reg) (imm : Imm16) (s : State) : exec (.stW t rs2 rs1 imm) s = execStW t rs2 rs1 imm s := rfl
@[simp] theorem exec_stD (t : TriadId) (rs2 : Reg) (rs1 : Reg) (imm : Imm16) (s : State) : exec (.stD t rs2 rs1 imm) s = execStD t rs2 rs1 imm s := rfl
@[simp] theorem exec_aaddW (t : TriadId) (rd : Reg) (rs1 : Reg) (rs2 : Reg) (s : State) : exec (.aaddW t rd rs1 rs2) s = execAaddW t rd rs1 rs2 s := rfl
@[simp] theorem exec_aaddD (t : TriadId) (rd : Reg) (rs1 : Reg) (rs2 : Reg) (s : State) : exec (.aaddD t rd rs1 rs2) s = execAaddD t rd rs1 rs2 s := rfl
@[simp] theorem exec_aswpW (t : TriadId) (rd : Reg) (rs1 : Reg) (rs2 : Reg) (s : State) : exec (.aswpW t rd rs1 rs2) s = execAswpW t rd rs1 rs2 s := rfl
@[simp] theorem exec_aswpD (t : TriadId) (rd : Reg) (rs1 : Reg) (rs2 : Reg) (s : State) : exec (.aswpD t rd rs1 rs2) s = execAswpD t rd rs1 rs2 s := rfl
@[simp] theorem exec_bmove (t : TriadId) (rd : Reg) (rs1 : Reg) (rs2 : Reg) (s : State) : exec (.bmove t rd rs1 rs2) s = execBmove t rd rs1 rs2 s := rfl
@[simp] theorem exec_bfill (t : TriadId) (rd : Reg) (rs1 : Reg) (rs2 : Reg) (s : State) : exec (.bfill t rd rs1 rs2) s = execBfill t rd rs1 rs2 s := rfl
@[simp] theorem exec_bcrc (t : TriadId) (rd : Reg) (rs1 : Reg) (rs2 : Reg) (s : State) : exec (.bcrc t rd rs1 rs2) s = execBcrc t rd rs1 rs2 s := rfl
@[simp] theorem exec_beq (t : TriadId) (rs1 : Reg) (rs2 : Reg) (off : Imm16) (s : State) : exec (.beq t rs1 rs2 off) s = execBeq t rs1 rs2 off s := rfl
@[simp] theorem exec_bne (t : TriadId) (rs1 : Reg) (rs2 : Reg) (off : Imm16) (s : State) : exec (.bne t rs1 rs2 off) s = execBne t rs1 rs2 off s := rfl
@[simp] theorem exec_blt (t : TriadId) (rs1 : Reg) (rs2 : Reg) (off : Imm16) (s : State) : exec (.blt t rs1 rs2 off) s = execBlt t rs1 rs2 off s := rfl
@[simp] theorem exec_bge (t : TriadId) (rs1 : Reg) (rs2 : Reg) (off : Imm16) (s : State) : exec (.bge t rs1 rs2 off) s = execBge t rs1 rs2 off s := rfl
@[simp] theorem exec_bltU (t : TriadId) (rs1 : Reg) (rs2 : Reg) (off : Imm16) (s : State) : exec (.bltU t rs1 rs2 off) s = execBltU t rs1 rs2 off s := rfl
@[simp] theorem exec_bgeU (t : TriadId) (rs1 : Reg) (rs2 : Reg) (off : Imm16) (s : State) : exec (.bgeU t rs1 rs2 off) s = execBgeU t rs1 rs2 off s := rfl
@[simp] theorem exec_j (t : TriadId) (off : Off26) (s : State) : exec (.j t off) s = execJ t off s := rfl
@[simp] theorem exec_call (t : TriadId) (off : Off26) (s : State) : exec (.call t off) s = execCall t off s := rfl
@[simp] theorem exec_jr (t : TriadId) (rs1 : Reg) (s : State) : exec (.jr t rs1) s = execJr t rs1 s := rfl
@[simp] theorem exec_callr (t : TriadId) (rs1 : Reg) (s : State) : exec (.callr t rs1) s = execCallr t rs1 s := rfl
@[simp] theorem exec_ret (t : TriadId) (s : State) : exec (.ret t) s = execRet t s := rfl
@[simp] theorem exec_mfc (t : TriadId) (g : Reg) (n : N12) (s : State) : exec (.mfc t g n) s = execMfc t g n s := rfl
@[simp] theorem exec_mtc (t : TriadId) (g : Reg) (n : N12) (s : State) : exec (.mtc t g n) s = execMtc t g n s := rfl
@[simp] theorem exec_syncC (t : TriadId) (s : State) : exec (.syncC t) s = execSyncC t s := rfl
@[simp] theorem exec_syncI (t : TriadId) (s : State) : exec (.syncI t) s = execSyncI t s := rfl
@[simp] theorem exec_syncM (t : TriadId) (s : State) : exec (.syncM t) s = execSyncM t s := rfl
@[simp] theorem exec_eret (t : TriadId) (s : State) : exec (.eret t) s = execEret t s := rfl
@[simp] theorem exec_srvc (t : TriadId) (n : N12) (s : State) : exec (.srvc t n) s = execSrvc t n s := rfl
@[simp] theorem exec_waymark (t : TriadId) (n : N12) (s : State) : exec (.waymark t n) s = execWaymark t n s := rfl
@[simp] theorem exec_waitCmd (t : TriadId) (s : State) : exec (.waitCmd t) s = execWaitCmd t s := rfl
@[simp] theorem exec_breakCmd (t : TriadId) (s : State) : exec (.breakCmd t) s = execBreakCmd t s := rfl
@[simp] theorem exec_interruptTaken (t : TriadId) (s : State) : exec (.interruptTaken t) s = execInterruptTaken t s := rfl
@[simp] theorem exec_asyncCauseTaken (t : TriadId) (s : State) : exec (.asyncCauseTaken t) s = execAsyncCauseTaken t s := rfl
@[simp] theorem exec_resyncComplete (t : TriadId) (s : State) : exec (.resyncComplete t) s = execResyncComplete t s := rfl
@[simp] theorem exec_coreHoldOut (t : TriadId) (s : State) : exec (.coreHoldOut t) s = execCoreHoldOut t s := rfl
@[simp] theorem exec_vadd (t : TriadId) (o : VR) (s : State) : exec (.vadd t o) s = execVadd t o s := rfl
@[simp] theorem exec_vsub (t : TriadId) (o : VR) (s : State) : exec (.vsub t o) s = execVsub t o s := rfl
@[simp] theorem exec_vsadd (t : TriadId) (o : VR) (s : State) : exec (.vsadd t o) s = execVsadd t o s := rfl
@[simp] theorem exec_vssub (t : TriadId) (o : VR) (s : State) : exec (.vssub t o) s = execVssub t o s := rfl
@[simp] theorem exec_vmul (t : TriadId) (o : VR) (s : State) : exec (.vmul t o) s = execVmul t o s := rfl
@[simp] theorem exec_vmulh (t : TriadId) (o : VR) (s : State) : exec (.vmulh t o) s = execVmulh t o s := rfl
@[simp] theorem exec_vmin (t : TriadId) (o : VR) (s : State) : exec (.vmin t o) s = execVmin t o s := rfl
@[simp] theorem exec_vmax (t : TriadId) (o : VR) (s : State) : exec (.vmax t o) s = execVmax t o s := rfl
@[simp] theorem exec_vabs (t : TriadId) (o : VR) (s : State) : exec (.vabs t o) s = execVabs t o s := rfl
@[simp] theorem exec_vneg (t : TriadId) (o : VR) (s : State) : exec (.vneg t o) s = execVneg t o s := rfl
@[simp] theorem exec_vand (t : TriadId) (o : VR) (s : State) : exec (.vand t o) s = execVand t o s := rfl
@[simp] theorem exec_vor (t : TriadId) (o : VR) (s : State) : exec (.vor t o) s = execVor t o s := rfl
@[simp] theorem exec_vxor (t : TriadId) (o : VR) (s : State) : exec (.vxor t o) s = execVxor t o s := rfl
@[simp] theorem exec_vnot (t : TriadId) (o : VR) (s : State) : exec (.vnot t o) s = execVnot t o s := rfl
@[simp] theorem exec_vshl (t : TriadId) (o : VR) (s : State) : exec (.vshl t o) s = execVshl t o s := rfl
@[simp] theorem exec_vshr (t : TriadId) (o : VR) (s : State) : exec (.vshr t o) s = execVshr t o s := rfl
@[simp] theorem exec_vsra (t : TriadId) (o : VR) (s : State) : exec (.vsra t o) s = execVsra t o s := rfl
@[simp] theorem exec_vshli (t : TriadId) (o : VR) (s : State) : exec (.vshli t o) s = execVshli t o s := rfl
@[simp] theorem exec_vshri (t : TriadId) (o : VR) (s : State) : exec (.vshri t o) s = execVshri t o s := rfl
@[simp] theorem exec_vsrai (t : TriadId) (o : VR) (s : State) : exec (.vsrai t o) s = execVsrai t o s := rfl
@[simp] theorem exec_vsel (t : TriadId) (o : VR) (s : State) : exec (.vsel t o) s = execVsel t o s := rfl
@[simp] theorem exec_vmov (t : TriadId) (o : VR) (s : State) : exec (.vmov t o) s = execVmov t o s := rfl
@[simp] theorem exec_vfadd (t : TriadId) (o : VR) (s : State) : exec (.vfadd t o) s = execVfadd t o s := rfl
@[simp] theorem exec_vfsub (t : TriadId) (o : VR) (s : State) : exec (.vfsub t o) s = execVfsub t o s := rfl
@[simp] theorem exec_vfmul (t : TriadId) (o : VR) (s : State) : exec (.vfmul t o) s = execVfmul t o s := rfl
@[simp] theorem exec_vfma (t : TriadId) (o : VR) (s : State) : exec (.vfma t o) s = execVfma t o s := rfl
@[simp] theorem exec_vfms (t : TriadId) (o : VR) (s : State) : exec (.vfms t o) s = execVfms t o s := rfl
@[simp] theorem exec_vfmin (t : TriadId) (o : VR) (s : State) : exec (.vfmin t o) s = execVfmin t o s := rfl
@[simp] theorem exec_vfmax (t : TriadId) (o : VR) (s : State) : exec (.vfmax t o) s = execVfmax t o s := rfl
@[simp] theorem exec_vfabs (t : TriadId) (o : VR) (s : State) : exec (.vfabs t o) s = execVfabs t o s := rfl
@[simp] theorem exec_vfneg (t : TriadId) (o : VR) (s : State) : exec (.vfneg t o) s = execVfneg t o s := rfl
@[simp] theorem exec_vcvtfq (t : TriadId) (o : VR) (s : State) : exec (.vcvtfq t o) s = execVcvtfq t o s := rfl
@[simp] theorem exec_vcvtqf (t : TriadId) (o : VR) (s : State) : exec (.vcvtqf t o) s = execVcvtqf t o s := rfl
@[simp] theorem exec_vcvtfi (t : TriadId) (o : VR) (s : State) : exec (.vcvtfi t o) s = execVcvtfi t o s := rfl
@[simp] theorem exec_vcvtif (t : TriadId) (o : VR) (s : State) : exec (.vcvtif t o) s = execVcvtif t o s := rfl
@[simp] theorem exec_vcmpeq (t : TriadId) (o : VR) (s : State) : exec (.vcmpeq t o) s = execVcmpeq t o s := rfl
@[simp] theorem exec_vcmpne (t : TriadId) (o : VR) (s : State) : exec (.vcmpne t o) s = execVcmpne t o s := rfl
@[simp] theorem exec_vcmplt (t : TriadId) (o : VR) (s : State) : exec (.vcmplt t o) s = execVcmplt t o s := rfl
@[simp] theorem exec_vcmple (t : TriadId) (o : VR) (s : State) : exec (.vcmple t o) s = execVcmple t o s := rfl
@[simp] theorem exec_vcmpltu (t : TriadId) (o : VR) (s : State) : exec (.vcmpltu t o) s = execVcmpltu t o s := rfl
@[simp] theorem exec_vcmpleu (t : TriadId) (o : VR) (s : State) : exec (.vcmpleu t o) s = execVcmpleu t o s := rfl
@[simp] theorem exec_pand (t : TriadId) (o : VR) (s : State) : exec (.pand t o) s = execPand t o s := rfl
@[simp] theorem exec_por (t : TriadId) (o : VR) (s : State) : exec (.por t o) s = execPor t o s := rfl
@[simp] theorem exec_pxor (t : TriadId) (o : VR) (s : State) : exec (.pxor t o) s = execPxor t o s := rfl
@[simp] theorem exec_pandn (t : TriadId) (o : VR) (s : State) : exec (.pandn t o) s = execPandn t o s := rfl
@[simp] theorem exec_plimit (t : TriadId) (o : VR) (s : State) : exec (.plimit t o) s = execPlimit t o s := rfl
@[simp] theorem exec_vmac (t : TriadId) (o : VR) (s : State) : exec (.vmac t o) s = execVmac t o s := rfl
@[simp] theorem exec_vmsc (t : TriadId) (o : VR) (s : State) : exec (.vmsc t o) s = execVmsc t o s := rfl
@[simp] theorem exec_vzaclr (t : TriadId) (o : VR) (s : State) : exec (.vzaclr t o) s = execVzaclr t o s := rfl
@[simp] theorem exec_vzard (t : TriadId) (o : VR) (s : State) : exec (.vzard t o) s = execVzard t o s := rfl
@[simp] theorem exec_vzawr (t : TriadId) (o : VR) (s : State) : exec (.vzawr t o) s = execVzawr t o s := rfl
@[simp] theorem exec_vsplat (t : TriadId) (o : VR) (s : State) : exec (.vsplat t o) s = execVsplat t o s := rfl
@[simp] theorem exec_vextr (t : TriadId) (o : VR) (s : State) : exec (.vextr t o) s = execVextr t o s := rfl
@[simp] theorem exec_vins (t : TriadId) (o : VR) (s : State) : exec (.vins t o) s = execVins t o s := rfl
@[simp] theorem exec_vperm (t : TriadId) (o : VR) (s : State) : exec (.vperm t o) s = execVperm t o s := rfl
@[simp] theorem exec_vrev (t : TriadId) (o : VR) (s : State) : exec (.vrev t o) s = execVrev t o s := rfl
@[simp] theorem exec_vslide (t : TriadId) (o : VR) (s : State) : exec (.vslide t o) s = execVslide t o s := rfl
@[simp] theorem exec_vweavl (t : TriadId) (o : VR) (s : State) : exec (.vweavl t o) s = execVweavl t o s := rfl
@[simp] theorem exec_vweavh (t : TriadId) (o : VR) (s : State) : exec (.vweavh t o) s = execVweavh t o s := rfl
@[simp] theorem exec_vsplite (t : TriadId) (o : VR) (s : State) : exec (.vsplite t o) s = execVsplite t o s := rfl
@[simp] theorem exec_vsplito (t : TriadId) (o : VR) (s : State) : exec (.vsplito t o) s = execVsplito t o s := rfl
@[simp] theorem exec_vwidl (t : TriadId) (o : VR) (s : State) : exec (.vwidl t o) s = execVwidl t o s := rfl
@[simp] theorem exec_vwidh (t : TriadId) (o : VR) (s : State) : exec (.vwidh t o) s = execVwidh t o s := rfl
@[simp] theorem exec_vnarr (t : TriadId) (o : VR) (s : State) : exec (.vnarr t o) s = execVnarr t o s := rfl
@[simp] theorem exec_vrsum (t : TriadId) (o : VR) (s : State) : exec (.vrsum t o) s = execVrsum t o s := rfl
@[simp] theorem exec_vrmin (t : TriadId) (o : VR) (s : State) : exec (.vrmin t o) s = execVrmin t o s := rfl
@[simp] theorem exec_vrmax (t : TriadId) (o : VR) (s : State) : exec (.vrmax t o) s = execVrmax t o s := rfl
@[simp] theorem exec_ffarm (t : TriadId) (o : VR) (s : State) : exec (.ffarm t o) s = execFfarm t o s := rfl
@[simp] theorem exec_ffread (t : TriadId) (o : VR) (s : State) : exec (.ffread t o) s = execFfread t o s := rfl
@[simp] theorem exec_ptally (t : TriadId) (o : VR) (s : State) : exec (.ptally t o) s = execPtally t o s := rfl
@[simp] theorem exec_pmovg (t : TriadId) (o : VR) (s : State) : exec (.pmovg t o) s = execPmovg t o s := rfl
@[simp] theorem exec_gmovp (t : TriadId) (o : VR) (s : State) : exec (.gmovp t o) s = execGmovp t o s := rfl
@[simp] theorem exec_vzero (t : TriadId) (o : VR) (s : State) : exec (.vzero t o) s = execVzero t o s := rfl
@[simp] theorem exec_vzamvl (t : TriadId) (o : VR) (s : State) : exec (.vzamvl t o) s = execVzamvl t o s := rfl
@[simp] theorem exec_vzamvh (t : TriadId) (o : VR) (s : State) : exec (.vzamvh t o) s = execVzamvh t o s := rfl
@[simp] theorem exec_vzars (t : TriadId) (o : VR) (s : State) : exec (.vzars t o) s = execVzars t o s := rfl
@[simp] theorem exec_vld (t : TriadId) (o : VM) (s : State) : exec (.vld t o) s = execVld t o s := rfl
@[simp] theorem exec_vst (t : TriadId) (o : VM) (s : State) : exec (.vst t o) s = execVst t o s := rfl
@[simp] theorem exec_vldP (t : TriadId) (o : VM) (s : State) : exec (.vldP t o) s = execVldP t o s := rfl
@[simp] theorem exec_vstP (t : TriadId) (o : VM) (s : State) : exec (.vstP t o) s = execVstP t o s := rfl
@[simp] theorem exec_vldS (t : TriadId) (o : VM) (s : State) : exec (.vldS t o) s = execVldS t o s := rfl
@[simp] theorem exec_vstS (t : TriadId) (o : VM) (s : State) : exec (.vstS t o) s = execVstS t o s := rfl
@[simp] theorem exec_vldX (t : TriadId) (o : VM) (s : State) : exec (.vldX t o) s = execVldX t o s := rfl
@[simp] theorem exec_vstX (t : TriadId) (o : VM) (s : State) : exec (.vstX t o) s = execVstX t o s := rfl
@[simp] theorem exec_vldR (t : TriadId) (o : VM) (s : State) : exec (.vldR t o) s = execVldR t o s := rfl
@[simp] theorem exec_vstR (t : TriadId) (o : VM) (s : State) : exec (.vstR t o) s = execVstR t o s := rfl
@[simp] theorem exec_shortVectorIntegerOp (t : TriadId) (w : SV) (s : State) : exec (.shortVectorIntegerOp t w) s = execShortVectorIntegerOp t w s := rfl
@[simp] theorem exec_shortVectorFp32Op (t : TriadId) (w : SV) (s : State) : exec (.shortVectorFp32Op t w) s = execShortVectorFp32Op t w s := rfl
@[simp] theorem exec_shortVectorCompare (t : TriadId) (w : SV) (s : State) : exec (.shortVectorCompare t w) s = execShortVectorCompare t w s := rfl
@[simp] theorem exec_qbsel (t : TriadId) (o : VR) (s : State) : exec (.qbsel t o) s = execQbsel t o s := rfl
@[simp] theorem exec_shortVectorPermute (t : TriadId) (w : SV) (s : State) : exec (.shortVectorPermute t w) s = execShortVectorPermute t w s := rfl
@[simp] theorem exec_qld (t : TriadId) (q : Reg) (rs1 : Reg) (imm : Imm16) (s : State) : exec (.qld t q rs1 imm) s = execQld t q rs1 imm s := rfl
@[simp] theorem exec_qst (t : TriadId) (q : Reg) (rs1 : Reg) (imm : Imm16) (s : State) : exec (.qst t q rs1 imm) s = execQst t q rs1 imm s := rfl
@[simp] theorem exec_qmovg (t : TriadId) (o : VR) (s : State) : exec (.qmovg t o) s = execQmovg t o s := rfl
@[simp] theorem exec_gmovq (t : TriadId) (o : VR) (s : State) : exec (.gmovq t o) s = execGmovq t o s := rfl
@[simp] theorem exec_junctionTransfer (p : Fin 48) (q : Fin 48) (w : BitVec 13) (e : JctCheck) (s : State) : exec (.junctionTransfer p q w e) s = execJunctionTransfer p q w e s := rfl
@[simp] theorem exec_expressSample (c : BitVec 6) (s : State) : exec (.expressSample c) s = execExpressSample c s := rfl
@[simp] theorem exec_expressResyncComplete (b : Fin 9) (s : State) : exec (.expressResyncComplete b) s = execExpressResyncComplete b s := rfl
@[simp] theorem exec_expressHoldOut (b : Fin 9) (s : State) : exec (.expressHoldOut b) s = execExpressHoldOut b s := rfl
@[simp] theorem exec_expressLaybyTakeover (s : State) : exec (.expressLaybyTakeover) s = execExpressLaybyTakeover s := rfl
@[simp] theorem exec_expressMoveGo (m : BitVec 8) (lvl : BitVec 2) (v : Word) (s : State) : exec (.expressMoveGo m lvl v) s = execExpressMoveGo m lvl v s := rfl
@[simp] theorem exec_expressMoveTakeEffect (s : State) : exec (.expressMoveTakeEffect) s = execExpressMoveTakeEffect s := rfl
@[simp] theorem exec_frameReceive (k : Fin 4) (chk : FrameCheck) (bs : ByteList) (s : State) : exec (.frameReceive k chk bs) s = execFrameReceive k chk bs s := rfl
@[simp] theorem exec_ptpMessage (k : Fin 4) (msg : PtpMessage) (s : State) : exec (.ptpMessage k msg) s = execPtpMessage k msg s := rfl
@[simp] theorem exec_ptpMessageSend (k : Fin 4) (kind : PtpKind) (s : State) : exec (.ptpMessageSend k kind) s = execPtpMessageSend k kind s := rfl
@[simp] theorem exec_announceReceiptTimeout (k : Fin 4) (s : State) : exec (.announceReceiptTimeout k) s = execAnnounceReceiptTimeout k s := rfl
@[simp] theorem exec_delayRespTimeout (k : Fin 4) (s : State) : exec (.delayRespTimeout k) s = execDelayRespTimeout k s := rfl
@[simp] theorem exec_followUpTimeout (k : Fin 4) (s : State) : exec (.followUpTimeout k) s = execFollowUpTimeout k s := rfl
@[simp] theorem exec_samplePresent (j : BitVec 12) (s : State) : exec (.samplePresent j) s = execSamplePresent j s := rfl
@[simp] theorem exec_legLoss (j : BitVec 12) (blue : Bool) (s : State) : exec (.legLoss j blue) s = execLegLoss j blue s := rfl
@[simp] theorem exec_streamAbsent (j : BitVec 12) (s : State) : exec (.streamAbsent j) s = execStreamAbsent j s := rfl
@[simp] theorem exec_packetLaunch (j : BitVec 12) (s : State) : exec (.packetLaunch j) s = execPacketLaunch j s := rfl
@[simp] theorem exec_linkDown (k : Fin 4) (s : State) : exec (.linkDown k) s = execLinkDown k s := rfl
@[simp] theorem exec_sourceQualified (src : SourceTest) (s : State) : exec (.sourceQualified src) s = execSourceQualified src s := rfl
@[simp] theorem exec_sourceTaken (e : BitVec 64) (s : State) : exec (.sourceTaken e) s = execSourceTaken e s := rfl
@[simp] theorem exec_lockAchieved (s : State) : exec (.lockAchieved) s = execLockAchieved s := rfl
@[simp] theorem exec_sourceLoss (src : MediaSource) (s : State) : exec (.sourceLoss src) s = execSourceLoss src s := rfl
@[simp] theorem exec_holdoverTimeout (s : State) : exec (.holdoverTimeout) s = execHoldoverTimeout s := rfl
@[simp] theorem exec_mediaClockStep (s : State) : exec (.mediaClockStep) s = execMediaClockStep s := rfl
@[simp] theorem exec_stepReq (m : BitVec 8) (lvl : BitVec 2) (v : Word) (s : State) : exec (.stepReq m lvl v) s = execStepReq m lvl v s := rfl
@[simp] theorem exec_hostPhaseWrite (m : BitVec 8) (lvl : BitVec 2) (v : Word) (s : State) : exec (.hostPhaseWrite m lvl v) s = execHostPhaseWrite m lvl v s := rfl
@[simp] theorem exec_srcWrite (m : BitVec 8) (lvl : BitVec 2) (v : Word) (s : State) : exec (.srcWrite m lvl v) s = execSrcWrite m lvl v s := rfl
@[simp] theorem exec_tdmFormatWrite (m : BitVec 8) (lvl : BitVec 2) (p : Fin 16) (v : Word) (s : State) : exec (.tdmFormatWrite m lvl p v) s = execTdmFormatWrite m lvl p v s := rfl
@[simp] theorem exec_tdmFrame (p : Fin 16) (n : BitVec 16) (phase : BitVec 32) (data : EntryList) (s : State) : exec (.tdmFrame p n phase data) s = execTdmFrame p n phase data s := rfl
@[simp] theorem exec_tdmPortAcquired (p : Fin 16) (s : State) : exec (.tdmPortAcquired p) s = execTdmPortAcquired p s := rfl
@[simp] theorem exec_tdmPortLoss (p : Fin 16) (missing : Bool) (s : State) : exec (.tdmPortLoss p missing) s = execTdmPortLoss p missing s := rfl
@[simp] theorem exec_tdmRetime (p : Fin 16) (s : State) : exec (.tdmRetime p) s = execTdmRetime p s := rfl
@[simp] theorem exec_tdmSlip (p : Fin 16) (s : State) : exec (.tdmSlip p) s = execTdmSlip p s := rfl
@[simp] theorem exec_eccWriteBack (w : BitVec 37) (s : State) : exec (.eccWriteBack w) s = execEccWriteBack w s := rfl
@[simp] theorem exec_bankPowerTransitionComplete (mem : Fin 10) (b : BitVec 7) (s : State) : exec (.bankPowerTransitionComplete mem b) s = execBankPowerTransitionComplete mem b s := rfl
@[simp] theorem exec_marchGo (m : BitVec 8) (lvl : BitVec 2) (v : Word) (s : State) : exec (.marchGo m lvl v) s = execMarchGo m lvl v s := rfl
@[simp] theorem exec_marchRow (ok : Bool) (s : State) : exec (.marchRow ok) s = execMarchRow ok s := rfl
@[simp] theorem exec_marchComplete (s : State) : exec (.marchComplete) s = execMarchComplete s := rfl
@[simp] theorem exec_dramMarchGranule (sub : BitVec 3) (page : BitVec 21) (ok : Bool) (s : State) : exec (.dramMarchGranule sub page ok) s = execDramMarchGranule sub page ok s := rfl
@[simp] theorem exec_rowRepairCopyComplete (mem : Fin 10) (b : BitVec 7) (sp : BitVec 2) (s : State) : exec (.rowRepairCopyComplete mem b sp) s = execRowRepairCopyComplete mem b sp s := rfl
@[simp] theorem exec_tcwWrite (m : BitVec 8) (lvl : BitVec 2) (a : BitVec 22) (v : Word) (s : State) : exec (.tcwWrite m lvl a v) s = execTcwWrite m lvl a v s := rfl
@[simp] theorem exec_tcwMismatch (a : BitVec 22) (c0 : Word) (c1 : Word) (c2 : Word) (s : State) : exec (.tcwMismatch a c0 c1 c2) s = execTcwMismatch a c0 c1 c2 s := rfl
@[simp] theorem exec_dramRefresh (r : BitVec 4) (s : State) : exec (.dramRefresh r) s = execDramRefresh r s := rfl
@[simp] theorem exec_scrubRead (mem : Fin 12) (s : State) : exec (.scrubRead mem) s = execScrubRead mem s := rfl
@[simp] theorem exec_scrubPassComplete (mem : Fin 12) (s : State) : exec (.scrubPassComplete mem) s = execScrubPassComplete mem s := rfl
@[simp] theorem exec_remapCopyComplete (j : BitVec 8) (s : State) : exec (.remapCopyComplete j) s = execRemapCopyComplete j s := rfl
@[simp] theorem exec_ledgerWriteGo (m : BitVec 8) (lvl : BitVec 2) (v : Word) (s : State) : exec (.ledgerWriteGo m lvl v) s = execLedgerWriteGo m lvl v s := rfl
@[simp] theorem exec_ledgerWriteComplete (ok : Bool) (s : State) : exec (.ledgerWriteComplete ok) s = execLedgerWriteComplete ok s := rfl
@[simp] theorem exec_tgSlotWrite (m : BitVec 8) (lvl : BitVec 2) (a : BitVec 22) (v : Word) (s : State) : exec (.tgSlotWrite m lvl a v) s = execTgSlotWrite m lvl a v s := rfl
@[simp] theorem exec_tgCommit (m : BitVec 8) (lvl : BitVec 2) (u : Fin 28) (v : Word) (s : State) : exec (.tgCommit m lvl u v) s = execTgCommit m lvl u v s := rfl
@[simp] theorem exec_tgDrainEnd (u : Fin 28) (s : State) : exec (.tgDrainEnd u) s = execTgDrainEnd u s := rfl
@[simp] theorem exec_tgLockWrite (m : BitVec 8) (lvl : BitVec 2) (a : BitVec 22) (v : Word) (s : State) : exec (.tgLockWrite m lvl a v) s = execTgLockWrite m lvl a v s := rfl
@[simp] theorem exec_moverGo (m : BitVec 8) (lvl : BitVec 2) (k : Fin 4) (c : BitVec 6) (s : State) : exec (.moverGo m lvl k c) s = execMoverGo m lvl k c s := rfl
@[simp] theorem exec_moverResume (m : BitVec 8) (lvl : BitVec 2) (k : Fin 4) (c : BitVec 6) (s : State) : exec (.moverResume m lvl k c) s = execMoverResume m lvl k c s := rfl
@[simp] theorem exec_moverAbort (m : BitVec 8) (lvl : BitVec 2) (k : Fin 4) (c : BitVec 6) (s : State) : exec (.moverAbort m lvl k c) s = execMoverAbort m lvl k c s := rfl
@[simp] theorem exec_moverDescriptorFetch (k : Fin 4) (c : BitVec 6) (s : State) : exec (.moverDescriptorFetch k c) s = execMoverDescriptorFetch k c s := rfl
@[simp] theorem exec_moverBurst (k : Fin 4) (c : BitVec 6) (col : ColList) (s : State) : exec (.moverBurst k c col) s = execMoverBurst k c col s := rfl
@[simp] theorem exec_moverDescriptorComplete (k : Fin 4) (c : BitVec 6) (s : State) : exec (.moverDescriptorComplete k c) s = execMoverDescriptorComplete k c s := rfl
@[simp] theorem exec_softwareEvent (m : BitVec 8) (lvl : BitVec 2) (v : Word) (s : State) : exec (.softwareEvent m lvl v) s = execSoftwareEvent m lvl v s := rfl
@[simp] theorem exec_eventClear (m : BitVec 8) (lvl : BitVec 2) (w : Fin 20) (v : Word) (s : State) : exec (.eventClear m lvl w v) s = execEventClear m lvl w v s := rfl
@[simp] theorem exec_fcuSample (s : State) : exec (.fcuSample) s = execFcuSample s := rfl
@[simp] theorem exec_deferDeadline (n : Fin 320) (s : State) : exec (.deferDeadline n) s = execDeferDeadline n s := rfl
@[simp] theorem exec_fcuDecide (m : BitVec 8) (lvl : BitVec 2) (v : Word) (s : State) : exec (.fcuDecide m lvl v) s = execFcuDecide m lvl v s := rfl
@[simp] theorem exec_fcuArm (m : BitVec 8) (lvl : BitVec 2) (v : Word) (s : State) : exec (.fcuArm m lvl v) s = execFcuArm m lvl v s := rfl
@[simp] theorem exec_firstAck (m : BitVec 8) (lvl : BitVec 2) (v : Word) (s : State) : exec (.firstAck m lvl v) s = execFirstAck m lvl v s := rfl
@[simp] theorem exec_pendClear (m : BitVec 8) (lvl : BitVec 2) (n : Fin 320) (v : Word) (s : State) : exec (.pendClear m lvl n v) s = execPendClear m lvl n v s := rfl
@[simp] theorem exec_queueRead (m : BitVec 8) (lvl : BitVec 2) (bad : LedgerBad) (s : State) : exec (.queueRead m lvl bad) s = execQueueRead m lvl bad s := rfl
@[simp] theorem exec_safeStateReset (s : State) : exec (.safeStateReset) s = execSafeStateReset s := rfl
@[simp] theorem exec_milestoneService (m : BitVec 8) (lvl : BitVec 2) (narrow : Bool) (v : Word) (s : State) : exec (.milestoneService m lvl narrow v) s = execMilestoneService m lvl narrow v s := rfl
@[simp] theorem exec_windowOpen (s : State) : exec (.windowOpen) s = execWindowOpen s := rfl
@[simp] theorem exec_windowExpiry (s : State) : exec (.windowExpiry) s = execWindowExpiry s := rfl
@[simp] theorem exec_graceEnd (s : State) : exec (.graceEnd) s = execGraceEnd s := rfl
@[simp] theorem exec_milestoneKeyWrite (m : BitVec 8) (lvl : BitVec 2) (v : Word) (s : State) : exec (.milestoneKeyWrite m lvl v) s = execMilestoneKeyWrite m lvl v s := rfl
@[simp] theorem exec_milestoneDisableWrite (m : BitVec 8) (lvl : BitVec 2) (v : Word) (s : State) : exec (.milestoneDisableWrite m lvl v) s = execMilestoneDisableWrite m lvl v s := rfl
@[simp] theorem exec_milestoneRestart (m : BitVec 8) (lvl : BitVec 2) (v : Word) (s : State) : exec (.milestoneRestart m lvl v) s = execMilestoneRestart m lvl v s := rfl
@[simp] theorem exec_milestoneLockWrite (m : BitVec 8) (lvl : BitVec 2) (v : Word) (s : State) : exec (.milestoneLockWrite m lvl v) s = execMilestoneLockWrite m lvl v s := rfl
@[simp] theorem exec_windowSettingWrite (m : BitVec 8) (lvl : BitVec 2) (a : BitVec 22) (v : Word) (s : State) : exec (.windowSettingWrite m lvl a v) s = execWindowSettingWrite m lvl a v s := rfl
@[simp] theorem exec_waymarkDiscard (m : BitVec 8) (lvl : BitVec 2) (p : Fin 18) (v : Word) (s : State) : exec (.waymarkDiscard m lvl p v) s = execWaymarkDiscard m lvl p v s := rfl
@[simp] theorem exec_supCfgWrite (m : BitVec 8) (lvl : BitVec 2) (a : Fin 16) (v : Word) (s : State) : exec (.supCfgWrite m lvl a v) s = execSupCfgWrite m lvl a v s := rfl
@[simp] theorem exec_supCheckin (m : BitVec 8) (lvl : BitVec 2) (a : Fin 16) (v : Word) (s : State) : exec (.supCheckin m lvl a v) s = execSupCheckin m lvl a v s := rfl
@[simp] theorem exec_supWindowEnd (a : Fin 16) (s : State) : exec (.supWindowEnd a) s = execSupWindowEnd a s := rfl
@[simp] theorem exec_powerOnReset (s : State) : exec (.powerOnReset) s = execPowerOnReset s := rfl
@[simp] theorem exec_resetAccept (ext : Bool) (s : State) : exec (.resetAccept ext) s = execResetAccept ext s := rfl
@[simp] theorem exec_resetEnd (late : Bool) (s : State) : exec (.resetEnd late) s = execResetEnd late s := rfl
@[simp] theorem exec_resetPullEnd (s : State) : exec (.resetPullEnd) s = execResetPullEnd s := rfl
@[simp] theorem exec_optionLoadComplete (s : State) : exec (.optionLoadComplete) s = execOptionLoadComplete s := rfl
@[simp] theorem exec_fillComplete (s : State) : exec (.fillComplete) s = execFillComplete s := rfl
@[simp] theorem exec_bootSlotSelect (s : State) : exec (.bootSlotSelect) s = execBootSlotSelect s := rfl
@[simp] theorem exec_dramTrainingComplete (raw : BitVec 4) (ranks : BitVec 2) (s : State) : exec (.dramTrainingComplete raw ranks) s = execDramTrainingComplete raw ranks s := rfl
@[simp] theorem exec_resetRequest (m : BitVec 8) (lvl : BitVec 2) (v : Word) (s : State) : exec (.resetRequest m lvl v) s = execResetRequest m lvl v s := rfl
@[simp] theorem exec_enterSentry (m : BitVec 8) (lvl : BitVec 2) (v : Word) (s : State) : exec (.enterSentry m lvl v) s = execEnterSentry m lvl v s := rfl
@[simp] theorem exec_sentryWake (k : Fin 16) (rising : Bool) (s : State) : exec (.sentryWake k rising) s = execSentryWake k rising s := rfl
@[simp] theorem exec_backupTimeTick (s : State) : exec (.backupTimeTick) s = execBackupTimeTick s := rfl
@[simp] theorem exec_backupPowerApply (s : State) : exec (.backupPowerApply) s = execBackupPowerApply s := rfl
@[simp] theorem exec_vbkpFall (s : State) : exec (.vbkpFall) s = execVbkpFall s := rfl
@[simp] theorem exec_supplyExcursion (s : State) : exec (.supplyExcursion) s = execSupplyExcursion s := rfl
@[simp] theorem exec_temperatureAlarm (above10 : Bool) (s : State) : exec (.temperatureAlarm above10) s = execTemperatureAlarm above10 s := rfl
@[simp] theorem exec_clockMonitorFault (sentry : Bool) (s : State) : exec (.clockMonitorFault sentry) s = execClockMonitorFault sentry s := rfl
@[simp] theorem exec_xtal32Stop (s : State) : exec (.xtal32Stop) s = execXtal32Stop s := rfl
@[simp] theorem exec_pePerst (s : State) : exec (.pePerst) s = execPePerst s := rfl
@[simp] theorem exec_sorovChannelLock (k : Fin 4) (s : State) : exec (.sorovChannelLock k) s = execSorovChannelLock k s := rfl
@[simp] theorem exec_sorovChannelFail (k : Fin 4) (s : State) : exec (.sorovChannelFail k) s = execSorovChannelFail k s := rfl
@[simp] theorem exec_sorovChannelRetry (k : Fin 4) (s : State) : exec (.sorovChannelRetry k) s = execSorovChannelRetry k s := rfl
@[simp] theorem exec_heartbeatLost (s : State) : exec (.heartbeatLost) s = execHeartbeatLost s := rfl
@[simp] theorem exec_heartSend (s : State) : exec (.heartSend) s = execHeartSend s := rfl
@[simp] theorem exec_syncFrame (h : SovHead) (b : SyncBody) (s : State) : exec (.syncFrame h b) s = execSyncFrame h b s := rfl
@[simp] theorem exec_syncMissing (s : State) : exec (.syncMissing) s = execSyncMissing s := rfl
@[simp] theorem exec_stateFrame (h : SovHead) (b : StateBody) (s : State) : exec (.stateFrame h b) s = execStateFrame h b s := rfl
@[simp] theorem exec_paramFrame (h : SovHead) (b : ParamBody) (s : State) : exec (.paramFrame h b) s = execParamFrame h b s := rfl
@[simp] theorem exec_paramResend (s : State) : exec (.paramResend) s = execParamResend s := rfl
@[simp] theorem exec_heartFrame (h : SovHead) (b : HeartBody) (s : State) : exec (.heartFrame h b) s = execHeartFrame h b s := rfl
@[simp] theorem exec_versionFrame (h : SovHead) (b : VersionBody) (s : State) : exec (.versionFrame h b) s = execVersionFrame h b s := rfl
@[simp] theorem exec_repairTick (s : State) : exec (.repairTick) s = execRepairTick s := rfl
@[simp] theorem exec_needFrame (h : SovHead) (l : NeedList) (s : State) : exec (.needFrame h l) s = execNeedFrame h l s := rfl
@[simp] theorem exec_pktFrame (h : SovHead) (b : PktBody) (s : State) : exec (.pktFrame h b) s = execPktFrame h b s := rfl
@[simp] theorem exec_swapCmd (h : SovHead) (c : SovCmd) (s : State) : exec (.swapCmd h c) s = execSwapCmd h c s := rfl
@[simp] theorem exec_switchCmd (h : SovHead) (c : SovCmd) (s : State) : exec (.switchCmd h c) s = execSwitchCmd h c s := rfl
@[simp] theorem exec_switchAt (h : SovHead) (c : SovCmd) (s : State) : exec (.switchAt h c) s = execSwitchAt h c s := rfl
@[simp] theorem exec_stepCmd (h : SovHead) (c : SovCmd) (s : State) : exec (.stepCmd h c) s = execStepCmd h c s := rfl
@[simp] theorem exec_joinReq (h : SovHead) (c : SovCmd) (s : State) : exec (.joinReq h c) s = execJoinReq h c s := rfl
@[simp] theorem exec_joinAck (h : SovHead) (c : SovCmd) (s : State) : exec (.joinAck h c) s = execJoinAck h c s := rfl
@[simp] theorem exec_expressAt (h : SovHead) (c : SovCmd) (s : State) : exec (.expressAt h c) s = execExpressAt h c s := rfl
@[simp] theorem exec_divergeCmd (h : SovHead) (c : SovCmd) (s : State) : exec (.divergeCmd h c) s = execDivergeCmd h c s := rfl
@[simp] theorem exec_hostCmd (h : SovHead) (d : HostData) (s : State) : exec (.hostCmd h d) s = execHostCmd h d s := rfl
@[simp] theorem exec_presetCmd (h : SovHead) (c : SovCmd) (s : State) : exec (.presetCmd h c) s = execPresetCmd h c s := rfl
@[simp] theorem exec_joinTransferComplete (s : State) : exec (.joinTransferComplete) s = execJoinTransferComplete s := rfl
@[simp] theorem exec_catchupComplete (s : State) : exec (.catchupComplete) s = execCatchupComplete s := rfl
@[simp] theorem exec_joinComplete (s : State) : exec (.joinComplete) s = execJoinComplete s := rfl
@[simp] theorem exec_joinFail (s : State) : exec (.joinFail) s = execJoinFail s := rfl
@[simp] theorem exec_divergenceTimeout (s : State) : exec (.divergenceTimeout) s = execDivergenceTimeout s := rfl
@[simp] theorem exec_peerSample (health : BitVec 2) (take : BitVec 2) (s : State) : exec (.peerSample health take) s = execPeerSample health take s := rfl
@[simp] theorem exec_twinTakeAssert (s : State) : exec (.twinTakeAssert) s = execTwinTakeAssert s := rfl
@[simp] theorem exec_standbyTakeover (s : State) : exec (.standbyTakeover) s = execStandbyTakeover s := rfl
@[simp] theorem exec_outputHandover (s : State) : exec (.outputHandover) s = execOutputHandover s := rfl
@[simp] theorem exec_doorbell (m : BitVec 8) (lvl : BitVec 2) (v : Word) (s : State) : exec (.doorbell m lvl v) s = execDoorbell m lvl v s := rfl
@[simp] theorem exec_mailboxRelease (m : BitVec 8) (lvl : BitVec 2) (v : Word) (s : State) : exec (.mailboxRelease m lvl v) s = execMailboxRelease m lvl v s := rfl
@[simp] theorem exec_commandTake (bad : LedgerBad) (pass : Bool) (s : State) : exec (.commandTake bad pass) s = execCommandTake bad pass s := rfl
@[simp] theorem exec_irqPendClear (m : BitVec 8) (lvl : BitVec 2) (v : Word) (s : State) : exec (.irqPendClear m lvl v) s = execIrqPendClear m lvl v s := rfl
@[simp] theorem exec_ringProducerWrite (m : BitVec 8) (lvl : BitVec 2) (r : Fin 8) (v : Word) (s : State) : exec (.ringProducerWrite m lvl r v) s = execRingProducerWrite m lvl r v s := rfl
@[simp] theorem exec_ringService (r : Fin 8) (e : EntryList) (ok : Bool) (s : State) : exec (.ringService r e ok) s = execRingService r e ok s := rfl
@[simp] theorem exec_pcieInboundWrite (bar2 : Bool) (off : BitVec 32) (bs : ByteList) (s : State) : exec (.pcieInboundWrite bar2 off bs) s = execPcieInboundWrite bar2 off bs s := rfl
@[simp] theorem exec_pcieInboundRead (bar2 : Bool) (off : BitVec 32) (n : BitVec 13) (s : State) : exec (.pcieInboundRead bar2 off n) s = execPcieInboundRead bar2 off n s := rfl
@[simp] theorem exec_qspiWrite (a : BitVec 24) (bs : ByteList) (s : State) : exec (.qspiWrite a bs) s = execQspiWrite a bs s := rfl
@[simp] theorem exec_qspiRead (a : BitVec 24) (n : BitVec 16) (s : State) : exec (.qspiRead a n) s = execQspiRead a n s := rfl
@[simp] theorem exec_qspiStatus (code : Byte) (s : State) : exec (.qspiStatus code) s = execQspiStatus code s := rfl
@[simp] theorem exec_getInfo (k : Fin 16) (b : ByteList) (s : State) : exec (.getInfo k b) s = execGetInfo k b s := rfl
@[simp] theorem exec_getStatus (k : Fin 16) (b : ByteList) (s : State) : exec (.getStatus k b) s = execGetStatus k b s := rfl
@[simp] theorem exec_resetCmd (k : Fin 16) (b : ByteList) (s : State) : exec (.resetCmd k b) s = execResetCmd k b s := rfl
@[simp] theorem exec_powerCmd (k : Fin 16) (b : ByteList) (s : State) : exec (.powerCmd k b) s = execPowerCmd k b s := rfl
@[simp] theorem exec_regRead (k : Fin 16) (b : ByteList) (s : State) : exec (.regRead k b) s = execRegRead k b s := rfl
@[simp] theorem exec_regWrite (k : Fin 16) (b : ByteList) (s : State) : exec (.regWrite k b) s = execRegWrite k b s := rfl
@[simp] theorem exec_graphLoad (k : Fin 16) (b : ByteList) (s : State) : exec (.graphLoad k b) s = execGraphLoad k b s := rfl
@[simp] theorem exec_graphSwitch (k : Fin 16) (b : ByteList) (s : State) : exec (.graphSwitch k b) s = execGraphSwitch k b s := rfl
@[simp] theorem exec_graphAbort (k : Fin 16) (b : ByteList) (s : State) : exec (.graphAbort k b) s = execGraphAbort k b s := rfl
@[simp] theorem exec_switchAbort (m : BitVec 8) (lvl : BitVec 2) (v : Word) (s : State) : exec (.switchAbort m lvl v) s = execSwitchAbort m lvl v s := rfl
@[simp] theorem exec_graphRelease (k : Fin 16) (b : ByteList) (s : State) : exec (.graphRelease k b) s = execGraphRelease k b s := rfl
@[simp] theorem exec_graphStatus (k : Fin 16) (b : ByteList) (s : State) : exec (.graphStatus k b) s = execGraphStatus k b s := rfl
@[simp] theorem exec_graphStop (k : Fin 16) (b : ByteList) (s : State) : exec (.graphStop k b) s = execGraphStop k b s := rfl
@[simp] theorem exec_paramSet (k : Fin 16) (b : ByteList) (s : State) : exec (.paramSet k b) s = execParamSet k b s := rfl
@[simp] theorem exec_paramGet (k : Fin 16) (b : ByteList) (s : State) : exec (.paramGet k b) s = execParamGet k b s := rfl
@[simp] theorem exec_ringSetup (k : Fin 16) (b : ByteList) (s : State) : exec (.ringSetup k b) s = execRingSetup k b s := rfl
@[simp] theorem exec_ringStop (k : Fin 16) (b : ByteList) (s : State) : exec (.ringStop k b) s = execRingStop k b s := rfl
@[simp] theorem exec_meterSet (k : Fin 16) (b : ByteList) (s : State) : exec (.meterSet k b) s = execMeterSet k b s := rfl
@[simp] theorem exec_meterRead (k : Fin 16) (b : ByteList) (s : State) : exec (.meterRead k b) s = execMeterRead k b s := rfl
@[simp] theorem exec_faultFirst (k : Fin 16) (b : ByteList) (s : State) : exec (.faultFirst k b) s = execFaultFirst k b s := rfl
@[simp] theorem exec_faultAck (k : Fin 16) (b : ByteList) (s : State) : exec (.faultAck k b) s = execFaultAck k b s := rfl
@[simp] theorem exec_faultCfg (k : Fin 16) (b : ByteList) (s : State) : exec (.faultCfg k b) s = execFaultCfg k b s := rfl
@[simp] theorem exec_countCfg (k : Fin 16) (b : ByteList) (s : State) : exec (.countCfg k b) s = execCountCfg k b s := rfl
@[simp] theorem exec_faultPending (k : Fin 16) (b : ByteList) (s : State) : exec (.faultPending k b) s = execFaultPending k b s := rfl
@[simp] theorem exec_faultDecide (k : Fin 16) (b : ByteList) (s : State) : exec (.faultDecide k b) s = execFaultDecide k b s := rfl
@[simp] theorem exec_faultClear (k : Fin 16) (b : ByteList) (s : State) : exec (.faultClear k b) s = execFaultClear k b s := rfl
@[simp] theorem exec_logRead (k : Fin 16) (b : ByteList) (s : State) : exec (.logRead k b) s = execLogRead k b s := rfl
@[simp] theorem exec_logCompact (k : Fin 16) (b : ByteList) (bad : LedgerBad) (s : State) : exec (.logCompact k b bad) s = execLogCompact k b bad s := rfl
@[simp] theorem exec_memWindow (k : Fin 16) (b : ByteList) (s : State) : exec (.memWindow k b) s = execMemWindow k b s := rfl
@[simp] theorem exec_memCrc (k : Fin 16) (b : ByteList) (s : State) : exec (.memCrc k b) s = execMemCrc k b s := rfl
@[simp] theorem exec_memStatus (k : Fin 16) (b : ByteList) (s : State) : exec (.memStatus k b) s = execMemStatus k b s := rfl
@[simp] theorem exec_retirePage (k : Fin 16) (b : ByteList) (bad : LedgerBad) (s : State) : exec (.retirePage k b bad) s = execRetirePage k b bad s := rfl
@[simp] theorem exec_repairRow (k : Fin 16) (b : ByteList) (bad : LedgerBad) (s : State) : exec (.repairRow k b bad) s = execRepairRow k b bad s := rfl
@[simp] theorem exec_retireBank (k : Fin 16) (b : ByteList) (bad : LedgerBad) (s : State) : exec (.retireBank k b bad) s = execRetireBank k b bad s := rfl
@[simp] theorem exec_marchCmd (k : Fin 16) (b : ByteList) (s : State) : exec (.marchCmd k b) s = execMarchCmd k b s := rfl
@[simp] theorem exec_scrubRange (k : Fin 16) (b : ByteList) (s : State) : exec (.scrubRange k b) s = execScrubRange k b s := rfl
@[simp] theorem exec_depotPower (k : Fin 16) (b : ByteList) (s : State) : exec (.depotPower k b) s = execDepotPower k b s := rfl
@[simp] theorem exec_fwProgram (k : Fin 16) (b : ByteList) (bad : LedgerBad) (s : State) : exec (.fwProgram k b bad) s = execFwProgram k b bad s := rfl
@[simp] theorem exec_fwStatus (k : Fin 16) (b : ByteList) (s : State) : exec (.fwStatus k b) s = execFwStatus k b s := rfl
@[simp] theorem exec_fwActivate (k : Fin 16) (b : ByteList) (s : State) : exec (.fwActivate k b) s = execFwActivate k b s := rfl
@[simp] theorem exec_prosalStart (s : State) : exec (.prosalStart) s = execProsalStart s := rfl
@[simp] theorem exec_optionWrite (k : Fin 16) (b : ByteList) (bad : LedgerBad) (s : State) : exec (.optionWrite k b bad) s = execOptionWrite k b bad s := rfl
@[simp] theorem exec_optionLock (k : Fin 16) (b : ByteList) (s : State) : exec (.optionLock k b) s = execOptionLock k b s := rfl
@[simp] theorem exec_hostdataRead (k : Fin 16) (b : ByteList) (s : State) : exec (.hostdataRead k b) s = execHostdataRead k b s := rfl
@[simp] theorem exec_hostdataWrite (k : Fin 16) (b : ByteList) (bad : LedgerBad) (s : State) : exec (.hostdataWrite k b bad) s = execHostdataWrite k b bad s := rfl
@[simp] theorem exec_twinCfg (k : Fin 16) (b : ByteList) (s : State) : exec (.twinCfg k b) s = execTwinCfg k b s := rfl
@[simp] theorem exec_twinStatus (k : Fin 16) (b : ByteList) (s : State) : exec (.twinStatus k b) s = execTwinStatus k b s := rfl
@[simp] theorem exec_twinSwap (k : Fin 16) (b : ByteList) (s : State) : exec (.twinSwap k b) s = execTwinSwap k b s := rfl
@[simp] theorem exec_twinTake (k : Fin 16) (b : ByteList) (s : State) : exec (.twinTake k b) s = execTwinTake k b s := rfl
@[simp] theorem exec_twinChoice (k : Fin 16) (b : ByteList) (s : State) : exec (.twinChoice k b) s = execTwinChoice k b s := rfl
@[simp] theorem exec_twinJoin (k : Fin 16) (b : ByteList) (s : State) : exec (.twinJoin k b) s = execTwinJoin k b s := rfl
@[simp] theorem exec_twinRelay (k : Fin 16) (b : ByteList) (s : State) : exec (.twinRelay k b) s = execTwinRelay k b s := rfl
@[simp] theorem exec_twinRelayRead (k : Fin 16) (b : ByteList) (s : State) : exec (.twinRelayRead k b) s = execTwinRelayRead k b s := rfl
@[simp] theorem exec_modeGet (k : Fin 16) (b : ByteList) (s : State) : exec (.modeGet k b) s = execModeGet k b s := rfl
@[simp] theorem exec_modeSet (k : Fin 16) (b : ByteList) (s : State) : exec (.modeSet k b) s = execModeSet k b s := rfl
@[simp] theorem exec_laneMove (k : Fin 16) (b : ByteList) (s : State) : exec (.laneMove k b) s = execLaneMove k b s := rfl
@[simp] theorem exec_laneService (k : Fin 16) (b : ByteList) (pass : Bool) (s : State) : exec (.laneService k b pass) s = execLaneService k b pass s := rfl
@[simp] theorem exec_clusterPin (k : Fin 16) (b : ByteList) (s : State) : exec (.clusterPin k b) s = execClusterPin k b s := rfl
@[simp] theorem exec_expressMove (k : Fin 16) (b : ByteList) (s : State) : exec (.expressMove k b) s = execExpressMove k b s := rfl
@[simp] theorem exec_unlockNonce (k : Fin 16) (b : ByteList) (s : State) : exec (.unlockNonce k b) s = execUnlockNonce k b s := rfl
@[simp] theorem exec_unlockHmac (k : Fin 16) (b : ByteList) (s : State) : exec (.unlockHmac k b) s = execUnlockHmac k b s := rfl
@[simp] theorem exec_unlockPassword (k : Fin 16) (b : ByteList) (s : State) : exec (.unlockPassword k b) s = execUnlockPassword k b s := rfl
@[simp] theorem exec_lockCmd (k : Fin 16) (b : ByteList) (s : State) : exec (.lockCmd k b) s = execLockCmd k b s := rfl
@[simp] theorem exec_keySet (k : Fin 16) (b : ByteList) (bad : LedgerBad) (s : State) : exec (.keySet k b bad) s = execKeySet k b bad s := rfl
@[simp] theorem exec_clockCfg (k : Fin 16) (b : ByteList) (s : State) : exec (.clockCfg k b) s = execClockCfg k b s := rfl
@[simp] theorem exec_ptpCfg (k : Fin 16) (b : ByteList) (s : State) : exec (.ptpCfg k b) s = execPtpCfg k b s := rfl
@[simp] theorem exec_clockStatus (k : Fin 16) (b : ByteList) (s : State) : exec (.clockStatus k b) s = execClockStatus k b s := rfl
@[simp] theorem exec_servoInput (k : Fin 16) (b : ByteList) (s : State) : exec (.servoInput k b) s = execServoInput k b s := rfl
@[simp] theorem exec_blockPreset (k : Fin 16) (b : ByteList) (s : State) : exec (.blockPreset k b) s = execBlockPreset k b s := rfl
@[simp] theorem exec_presetGo (m : BitVec 8) (lvl : BitVec 2) (v : Word) (s : State) : exec (.presetGo m lvl v) s = execPresetGo m lvl v s := rfl
@[simp] theorem exec_netPortCfg (k : Fin 16) (b : ByteList) (s : State) : exec (.netPortCfg k b) s = execNetPortCfg k b s := rfl
@[simp] theorem exec_rxStreamSet (k : Fin 16) (b : ByteList) (s : State) : exec (.rxStreamSet k b) s = execRxStreamSet k b s := rfl
@[simp] theorem exec_txStreamSet (k : Fin 16) (b : ByteList) (s : State) : exec (.txStreamSet k b) s = execTxStreamSet k b s := rfl
@[simp] theorem exec_streamDelete (k : Fin 16) (b : ByteList) (s : State) : exec (.streamDelete k b) s = execStreamDelete k b s := rfl
@[simp] theorem exec_concealChoice (k : Fin 16) (b : ByteList) (s : State) : exec (.concealChoice k b) s = execConcealChoice k b s := rfl
@[simp] theorem exec_tdmCfg (k : Fin 16) (b : ByteList) (s : State) : exec (.tdmCfg k b) s = execTdmCfg k b s := rfl
@[simp] theorem exec_portRecal (k : Fin 16) (b : ByteList) (s : State) : exec (.portRecal k b) s = execPortRecal k b s := rfl
@[simp] theorem exec_portStatus (k : Fin 16) (b : ByteList) (s : State) : exec (.portStatus k b) s = execPortStatus k b s := rfl
@[simp] theorem exec_streamStatus (k : Fin 16) (b : ByteList) (s : State) : exec (.streamStatus k b) s = execStreamStatus k b s := rfl
@[simp] theorem exec_unlockTimeout (s : State) : exec (.unlockTimeout) s = execUnlockTimeout s := rfl
@[simp] theorem exec_bypassCmd (s : State) : exec (.bypassCmd) s = execBypassCmd s := rfl
@[simp] theorem exec_idcode (s : State) : exec (.idcode) s = execIdcode s := rfl
@[simp] theorem exec_samplePreload (cells : ByteList) (s : State) : exec (.samplePreload cells) s = execSamplePreload cells s := rfl
@[simp] theorem exec_extest (s : State) : exec (.extest) s = execExtest s := rfl
@[simp] theorem exec_clampCmd (s : State) : exec (.clampCmd) s = execClampCmd s := rfl
@[simp] theorem exec_highz (s : State) : exec (.highz) s = execHighz s := rfl
@[simp] theorem exec_dbgAccess (a : BitVec 40) (d : Word) (write : Bool) (s : State) : exec (.dbgAccess a d write) s = execDbgAccess a d write s := rfl
@[simp] theorem exec_haltCmd (m : BitVec 8) (lvl : BitVec 2) (c : Fin 19) (v : Word) (s : State) : exec (.haltCmd m lvl c v) s = execHaltCmd m lvl c v s := rfl
@[simp] theorem exec_triadStep (m : BitVec 8) (lvl : BitVec 2) (c : Fin 19) (v : Word) (s : State) : exec (.triadStep m lvl c v) s = execTriadStep m lvl c v s := rfl
@[simp] theorem exec_resumeCmd (m : BitVec 8) (lvl : BitVec 2) (c : Fin 19) (v : Word) (s : State) : exec (.resumeCmd m lvl c v) s = execResumeCmd m lvl c v s := rfl
@[simp] theorem exec_injectGo (m : BitVec 8) (lvl : BitVec 2) (v : Word) (s : State) : exec (.injectGo m lvl v) s = execInjectGo m lvl v s := rfl
@[simp] theorem exec_breakGo (m : BitVec 8) (lvl : BitVec 2) (v : Word) (s : State) : exec (.breakGo m lvl v) s = execBreakGo m lvl v s := rfl
@[simp] theorem exec_breakEnd (s : State) : exec (.breakEnd) s = execBreakEnd s := rfl
@[simp] theorem exec_allOff (m : BitVec 8) (lvl : BitVec 2) (v : Word) (s : State) : exec (.allOff m lvl v) s = execAllOff m lvl v s := rfl
@[simp] theorem exec_perturbationWrite (m : BitVec 8) (lvl : BitVec 2) (a : BitVec 22) (v : Word) (s : State) : exec (.perturbationWrite m lvl a v) s = execPerturbationWrite m lvl a v s := rfl
@[simp] theorem exec_registerWrite (m : BitVec 8) (lvl : BitVec 2) (a : BitVec 22) (v : Word) (s : State) : exec (.registerWrite m lvl a v) s = execRegisterWrite m lvl a v s := rfl
@[simp] theorem exec_linkUp (k : Fin 4) (s : State) : exec (.linkUp k) s = execLinkUp k s := rfl
@[simp] theorem exec_undefinedEncoding (t : TriadId) (w : Word) (s : State) : exec (.undefinedEncoding t w) s = execUndefinedEncoding t w s := rfl
@[simp] theorem exec_testLogicReset (s : State) : exec (.testLogicReset) s = execTestLogicReset s := rfl
@[simp] theorem exec_preMasterQualification (k : Fin 4) (s : State) : exec (.preMasterQualification k) s = execPreMasterQualification k s := rfl

end Sys2Proof.Machine
end

