-- ==== Sys2Proof/Laws/Sparse.lean ====
section
/-! SUPPORT. Laws/Sparse.lean: the read-over-write laws of sparse data, and that a write keeps the canonical form. -/
namespace Sys2Proof.Machine
variable {α : Type}

/-- Every key of `m` is above `k`. -/
def Sparse.above (k : Nat) (m : Sparse α) : Prop := ∀ p ∈ m, k < p.1

theorem Sparse.get_put_self (d : Nat → α) (m : Sparse α) (k : Nat) (v : α) :
    Sparse.get d (Sparse.put m k v) k = v := by
  induction m with
  | nil => simp [Sparse.put, Sparse.get]
  | cons p m ih =>
    obtain ⟨j, w⟩ := p
    by_cases h1 : k < j
    · simp [Sparse.put, h1, Sparse.get]
    · by_cases h2 : j = k
      · simp [Sparse.put, h2, Sparse.get]
      · simp [Sparse.put, h1, h2, Sparse.get, ih]

theorem Sparse.get_put_other (d : Nat → α) (m : Sparse α) (k k' : Nat) (v : α) (h : k ≠ k') :
    Sparse.get d (Sparse.put m k v) k' = Sparse.get d m k' := by
  induction m with
  | nil => simp [Sparse.put, Sparse.get, h]
  | cons p m ih =>
    obtain ⟨j, w⟩ := p
    by_cases h1 : k < j
    · simp [Sparse.put, h1, Sparse.get, h]
    · by_cases h2 : j = k
      · subst h2; simp [Sparse.put, Sparse.get, h]
      · simp [Sparse.put, h1, h2, Sparse.get, ih]

theorem Sparse.get_drop_other (d : Nat → α) (m : Sparse α) (k k' : Nat) (h : k ≠ k') :
    Sparse.get d (Sparse.drop m k) k' = Sparse.get d m k' := by
  induction m with
  | nil => rfl
  | cons p m ih =>
    obtain ⟨j, w⟩ := p
    by_cases h2 : j = k
    · subst h2; simp [Sparse.drop, Sparse.get, h, ih]
    · simp [Sparse.drop, h2, Sparse.get, ih]

theorem Sparse.get_drop_self (d : Nat → α) (m : Sparse α) (k : Nat) : Sparse.get d (Sparse.drop m k) k = d k := by
  induction m with
  | nil => rfl
  | cons p m ih =>
    obtain ⟨j, w⟩ := p
    by_cases h2 : j = k
    · simpa [Sparse.drop, h2] using ih
    · simp [Sparse.drop, h2, Sparse.get, ih]

theorem Sparse.above_drop (m : Sparse α) (k j : Nat) (h : Sparse.above j m) : Sparse.above j (Sparse.drop m k) := by
  induction m with
  | nil => exact h
  | cons p m ih =>
    obtain ⟨i, w⟩ := p
    have h2 : Sparse.above j m := fun q hq => h q (by simp [hq])
    by_cases h1 : i = k
    · simpa [Sparse.drop, h1] using ih h2
    · intro q hq
      simp only [Sparse.drop, h1, if_false, List.mem_cons] at hq
      rcases hq with rfl | hq
      · exact h _ (by simp)
      · exact ih h2 q hq

theorem Sparse.above_put (m : Sparse α) (k j : Nat) (v : α) (h : Sparse.above j m) (hk : j < k) :
    Sparse.above j (Sparse.put m k v) := by
  induction m with
  | nil => intro q hq; simp only [Sparse.put, List.mem_singleton] at hq; subst hq; exact hk
  | cons p m ih =>
    obtain ⟨i, w⟩ := p
    have h2 : Sparse.above j m := fun q hq => h q (by simp [hq])
    intro q hq
    simp only [Sparse.put] at hq
    split_ifs at hq with h1 h3
    · rcases List.mem_cons.mp hq with rfl | hq
      · exact hk
      · exact h q hq
    · rcases List.mem_cons.mp hq with rfl | hq
      · exact hk
      · exact h2 q hq
    · rcases List.mem_cons.mp hq with rfl | hq
      · exact h _ (by simp)
      · exact ih h2 q hq

variable [DecidableEq α]

theorem Sparse.wf_cons (d : Nat → α) (j : Nat) (v : α) (m : Sparse α) :
    Sparse.wf d ((j, v) :: m) = true ↔ v ≠ d j ∧ Sparse.above j m ∧ Sparse.wf d m = true := by
  induction m generalizing j v with
  | nil => simp [Sparse.wf, Sparse.above]
  | cons p m ih =>
    obtain ⟨i, w⟩ := p
    rw [Sparse.wf]
    simp only [Bool.and_eq_true, decide_eq_true_eq]
    constructor
    · rintro ⟨⟨hv, hji⟩, hm⟩
      refine ⟨hv, ?_, hm⟩
      have := ((ih i w).mp hm).2.1
      intro q hq
      rcases List.mem_cons.mp hq with rfl | hq
      · exact hji
      · exact lt_trans hji (this q hq)
    · rintro ⟨hv, ha, hm⟩
      exact ⟨⟨hv, ha (i, w) (by simp)⟩, hm⟩

/-- Reading back what was written. -/
@[simp] theorem Sparse.get_set_self (d : Nat → α) (m : Sparse α) (k : Nat) (v : α) :
    Sparse.get d (Sparse.set d m k v) k = v := by
  unfold Sparse.set
  split_ifs with hv
  · rw [Sparse.get_drop_self, hv]
  · exact Sparse.get_put_self d m k v

/-- A write leaves every other key alone. -/
@[simp] theorem Sparse.get_set_other (d : Nat → α) (m : Sparse α) (k k' : Nat) (v : α) (h : k ≠ k') :
    Sparse.get d (Sparse.set d m k v) k' = Sparse.get d m k' := by
  unfold Sparse.set
  split_ifs with hv
  · exact Sparse.get_drop_other d m k k' h
  · exact Sparse.get_put_other d m k k' v h

theorem Sparse.wf_drop (d : Nat → α) (m : Sparse α) (k : Nat) (h : Sparse.wf d m = true) :
    Sparse.wf d (Sparse.drop m k) = true := by
  induction m with
  | nil => exact h
  | cons p m ih =>
    obtain ⟨j, w⟩ := p
    obtain ⟨h1, h2, h3⟩ := (Sparse.wf_cons d j w m).mp h
    by_cases hj : j = k
    · simpa [Sparse.drop, hj] using ih h3
    · simp only [Sparse.drop, hj, if_false]
      exact (Sparse.wf_cons d j w _).mpr ⟨h1, Sparse.above_drop m k j h2, ih h3⟩

theorem Sparse.wf_put (d : Nat → α) (m : Sparse α) (k : Nat) (v : α) (hv : v ≠ d k) (h : Sparse.wf d m = true) :
    Sparse.wf d (Sparse.put m k v) = true := by
  induction m with
  | nil => simpa [Sparse.put, Sparse.wf] using hv
  | cons p m ih =>
    obtain ⟨j, w⟩ := p
    obtain ⟨h1, h2, h3⟩ := (Sparse.wf_cons d j w m).mp h
    simp only [Sparse.put]
    split_ifs with h4 h5
    · refine (Sparse.wf_cons d k v _).mpr ⟨hv, ?_, h⟩
      intro q hq
      rcases List.mem_cons.mp hq with rfl | hq
      · exact h4
      · exact lt_trans h4 (h2 q hq)
    · subst h5; exact (Sparse.wf_cons d j v m).mpr ⟨hv, h2, h3⟩
    · exact (Sparse.wf_cons d j w _).mpr ⟨h1, Sparse.above_put m k j v h2 (by omega), ih h3⟩

/-- A write keeps the canonical form. -/
theorem Sparse.wf_set (d : Nat → α) (m : Sparse α) (k : Nat) (v : α) (h : Sparse.wf d m = true) :
    Sparse.wf d (Sparse.set d m k v) = true := by
  unfold Sparse.set
  split_ifs with hv
  · exact Sparse.wf_drop d m k h
  · exact Sparse.wf_put d m k v hv h

end Sys2Proof.Machine
end

