-- ==== Sys2Proof/Laws/State.lean ====
section
/-! SUPPORT. Laws/State.lean: what each update of the state leaves as it was, field by field, and what it changes. -/
namespace Sys2Proof.Machine

/-! ### setReg -/

@[simp] theorem State.setReg_cap (s : State) (a : Nat) (v : Word) : (s.setReg a v).cap = s.cap := rfl
@[simp] theorem State.setReg_mem (s : State) (a : Nat) (v : Word) : (s.setReg a v).mem = s.mem := rfl
@[simp] theorem State.setReg_werr (s : State) (a : Nat) (v : Word) : (s.setReg a v).werr = s.werr := rfl
@[simp] theorem State.setReg_triads (s : State) (a : Nat) (v : Word) : (s.setReg a v).triads = s.triads := rfl
@[simp] theorem State.setReg_tg (s : State) (a : Nat) (v : Word) : (s.setReg a v).tg = s.tg := rfl
@[simp] theorem State.setReg_fcu (s : State) (a : Nat) (v : Word) : (s.setReg a v).fcu = s.fcu := rfl
@[simp] theorem State.setReg_eng (s : State) (a : Nat) (v : Word) : (s.setReg a v).eng = s.eng := rfl
@[simp] theorem State.setReg_memu (s : State) (a : Nat) (v : Word) : (s.setReg a v).memu = s.memu := rfl
@[simp] theorem State.setReg_chans (s : State) (a : Nat) (v : Word) : (s.setReg a v).chans = s.chans := rfl
@[simp] theorem State.setReg_mvrTurn (s : State) (a : Nat) (v : Word) : (s.setReg a v).mvrTurn = s.mvrTurn := rfl
@[simp] theorem State.setReg_sov (s : State) (a : Nat) (v : Word) : (s.setReg a v).sov = s.sov := rfl
@[simp] theorem State.setReg_exp (s : State) (a : Nat) (v : Word) : (s.setReg a v).exp = s.exp := rfl
@[simp] theorem State.setReg_jct (s : State) (a : Nat) (v : Word) : (s.setReg a v).jct = s.jct := rfl
@[simp] theorem State.setReg_host (s : State) (a : Nat) (v : Word) : (s.setReg a v).host = s.host := rfl
@[simp] theorem State.setReg_net (s : State) (a : Nat) (v : Word) : (s.setReg a v).net = s.net := rfl
@[simp] theorem State.setReg_clk (s : State) (a : Nat) (v : Word) : (s.setReg a v).clk = s.clk := rfl
@[simp] theorem State.setReg_tdm (s : State) (a : Nat) (v : Word) : (s.setReg a v).tdm = s.tdm := rfl
@[simp] theorem State.setReg_pins (s : State) (a : Nat) (v : Word) : (s.setReg a v).pins = s.pins := rfl
@[simp] theorem State.setReg_pulling (s : State) (a : Nat) (v : Word) : (s.setReg a v).pulling = s.pulling := rfl
@[simp] theorem State.setReg_points (s : State) (a : Nat) (v : Word) : (s.setReg a v).points = s.points := rfl
@[simp] theorem State.setReg_time (s : State) (a : Nat) (v : Word) : (s.setReg a v).time = s.time := rfl
@[simp] theorem State.setReg_up (s : State) (a : Nat) (v : Word) : (s.setReg a v).up = s.up := rfl
@[simp] theorem State.setReg_boot (s : State) (a : Nat) (v : Word) : (s.setReg a v).boot = s.boot := rfl
@[simp] theorem State.setReg_bkp (s : State) (a : Nat) (v : Word) : (s.setReg a v).bkp = s.bkp := rfl
@[simp] theorem State.setReg_dramKept (s : State) (a : Nat) (v : Word) : (s.setReg a v).dramKept = s.dramKept := rfl
@[simp] theorem State.setReg_booted (s : State) (a : Nat) (v : Word) : (s.setReg a v).booted = s.booted := rfl
@[simp] theorem State.setReg_mile (s : State) (a : Nat) (v : Word) : (s.setReg a v).mile = s.mile := rfl
@[simp] theorem State.setReg_windows (s : State) (a : Nat) (v : Word) : (s.setReg a v).windows = s.windows := rfl
@[simp] theorem State.setReg_rwk (s : State) (a : Nat) (v : Word) : (s.setReg a v).rwk = s.rwk := rfl
@[simp] theorem State.setReg_gate (s : State) (a : Nat) (v : Word) : (s.setReg a v).gate = s.gate := rfl
@[simp] theorem State.setReg_jtag (s : State) (a : Nat) (v : Word) : (s.setReg a v).jtag = s.jtag := rfl
@[simp] theorem State.setReg_drawn (s : State) (a : Nat) (v : Word) : (s.setReg a v).drawn = s.drawn := rfl
@[simp] theorem State.setReg_pending (s : State) (a : Nat) (v : Word) : (s.setReg a v).pending = s.pending := rfl

/-! ### put -/

@[simp] theorem State.put_cap (s : State) (f : Fld) (v : Nat) : (s.put f v).cap = s.cap := rfl
@[simp] theorem State.put_mem (s : State) (f : Fld) (v : Nat) : (s.put f v).mem = s.mem := rfl
@[simp] theorem State.put_werr (s : State) (f : Fld) (v : Nat) : (s.put f v).werr = s.werr := rfl
@[simp] theorem State.put_triads (s : State) (f : Fld) (v : Nat) : (s.put f v).triads = s.triads := rfl
@[simp] theorem State.put_tg (s : State) (f : Fld) (v : Nat) : (s.put f v).tg = s.tg := rfl
@[simp] theorem State.put_fcu (s : State) (f : Fld) (v : Nat) : (s.put f v).fcu = s.fcu := rfl
@[simp] theorem State.put_eng (s : State) (f : Fld) (v : Nat) : (s.put f v).eng = s.eng := rfl
@[simp] theorem State.put_memu (s : State) (f : Fld) (v : Nat) : (s.put f v).memu = s.memu := rfl
@[simp] theorem State.put_chans (s : State) (f : Fld) (v : Nat) : (s.put f v).chans = s.chans := rfl
@[simp] theorem State.put_mvrTurn (s : State) (f : Fld) (v : Nat) : (s.put f v).mvrTurn = s.mvrTurn := rfl
@[simp] theorem State.put_sov (s : State) (f : Fld) (v : Nat) : (s.put f v).sov = s.sov := rfl
@[simp] theorem State.put_exp (s : State) (f : Fld) (v : Nat) : (s.put f v).exp = s.exp := rfl
@[simp] theorem State.put_jct (s : State) (f : Fld) (v : Nat) : (s.put f v).jct = s.jct := rfl
@[simp] theorem State.put_host (s : State) (f : Fld) (v : Nat) : (s.put f v).host = s.host := rfl
@[simp] theorem State.put_net (s : State) (f : Fld) (v : Nat) : (s.put f v).net = s.net := rfl
@[simp] theorem State.put_clk (s : State) (f : Fld) (v : Nat) : (s.put f v).clk = s.clk := rfl
@[simp] theorem State.put_tdm (s : State) (f : Fld) (v : Nat) : (s.put f v).tdm = s.tdm := rfl
@[simp] theorem State.put_pins (s : State) (f : Fld) (v : Nat) : (s.put f v).pins = s.pins := rfl
@[simp] theorem State.put_pulling (s : State) (f : Fld) (v : Nat) : (s.put f v).pulling = s.pulling := rfl
@[simp] theorem State.put_points (s : State) (f : Fld) (v : Nat) : (s.put f v).points = s.points := rfl
@[simp] theorem State.put_time (s : State) (f : Fld) (v : Nat) : (s.put f v).time = s.time := rfl
@[simp] theorem State.put_up (s : State) (f : Fld) (v : Nat) : (s.put f v).up = s.up := rfl
@[simp] theorem State.put_boot (s : State) (f : Fld) (v : Nat) : (s.put f v).boot = s.boot := rfl
@[simp] theorem State.put_bkp (s : State) (f : Fld) (v : Nat) : (s.put f v).bkp = s.bkp := rfl
@[simp] theorem State.put_dramKept (s : State) (f : Fld) (v : Nat) : (s.put f v).dramKept = s.dramKept := rfl
@[simp] theorem State.put_booted (s : State) (f : Fld) (v : Nat) : (s.put f v).booted = s.booted := rfl
@[simp] theorem State.put_mile (s : State) (f : Fld) (v : Nat) : (s.put f v).mile = s.mile := rfl
@[simp] theorem State.put_windows (s : State) (f : Fld) (v : Nat) : (s.put f v).windows = s.windows := rfl
@[simp] theorem State.put_rwk (s : State) (f : Fld) (v : Nat) : (s.put f v).rwk = s.rwk := rfl
@[simp] theorem State.put_gate (s : State) (f : Fld) (v : Nat) : (s.put f v).gate = s.gate := rfl
@[simp] theorem State.put_jtag (s : State) (f : Fld) (v : Nat) : (s.put f v).jtag = s.jtag := rfl
@[simp] theorem State.put_drawn (s : State) (f : Fld) (v : Nat) : (s.put f v).drawn = s.drawn := rfl
@[simp] theorem State.put_pending (s : State) (f : Fld) (v : Nat) : (s.put f v).pending = s.pending := rfl

/-! ### setTriad -/

@[simp] theorem State.setTriad_regs (s : State) (t : Nat) (x : Triad) : (s.setTriad t x).regs = s.regs := rfl
@[simp] theorem State.setTriad_cap (s : State) (t : Nat) (x : Triad) : (s.setTriad t x).cap = s.cap := rfl
@[simp] theorem State.setTriad_mem (s : State) (t : Nat) (x : Triad) : (s.setTriad t x).mem = s.mem := rfl
@[simp] theorem State.setTriad_werr (s : State) (t : Nat) (x : Triad) : (s.setTriad t x).werr = s.werr := rfl
@[simp] theorem State.setTriad_tg (s : State) (t : Nat) (x : Triad) : (s.setTriad t x).tg = s.tg := rfl
@[simp] theorem State.setTriad_fcu (s : State) (t : Nat) (x : Triad) : (s.setTriad t x).fcu = s.fcu := rfl
@[simp] theorem State.setTriad_eng (s : State) (t : Nat) (x : Triad) : (s.setTriad t x).eng = s.eng := rfl
@[simp] theorem State.setTriad_memu (s : State) (t : Nat) (x : Triad) : (s.setTriad t x).memu = s.memu := rfl
@[simp] theorem State.setTriad_chans (s : State) (t : Nat) (x : Triad) : (s.setTriad t x).chans = s.chans := rfl
@[simp] theorem State.setTriad_mvrTurn (s : State) (t : Nat) (x : Triad) : (s.setTriad t x).mvrTurn = s.mvrTurn := rfl
@[simp] theorem State.setTriad_sov (s : State) (t : Nat) (x : Triad) : (s.setTriad t x).sov = s.sov := rfl
@[simp] theorem State.setTriad_exp (s : State) (t : Nat) (x : Triad) : (s.setTriad t x).exp = s.exp := rfl
@[simp] theorem State.setTriad_jct (s : State) (t : Nat) (x : Triad) : (s.setTriad t x).jct = s.jct := rfl
@[simp] theorem State.setTriad_host (s : State) (t : Nat) (x : Triad) : (s.setTriad t x).host = s.host := rfl
@[simp] theorem State.setTriad_net (s : State) (t : Nat) (x : Triad) : (s.setTriad t x).net = s.net := rfl
@[simp] theorem State.setTriad_clk (s : State) (t : Nat) (x : Triad) : (s.setTriad t x).clk = s.clk := rfl
@[simp] theorem State.setTriad_tdm (s : State) (t : Nat) (x : Triad) : (s.setTriad t x).tdm = s.tdm := rfl
@[simp] theorem State.setTriad_pins (s : State) (t : Nat) (x : Triad) : (s.setTriad t x).pins = s.pins := rfl
@[simp] theorem State.setTriad_pulling (s : State) (t : Nat) (x : Triad) : (s.setTriad t x).pulling = s.pulling := rfl
@[simp] theorem State.setTriad_points (s : State) (t : Nat) (x : Triad) : (s.setTriad t x).points = s.points := rfl
@[simp] theorem State.setTriad_time (s : State) (t : Nat) (x : Triad) : (s.setTriad t x).time = s.time := rfl
@[simp] theorem State.setTriad_up (s : State) (t : Nat) (x : Triad) : (s.setTriad t x).up = s.up := rfl
@[simp] theorem State.setTriad_boot (s : State) (t : Nat) (x : Triad) : (s.setTriad t x).boot = s.boot := rfl
@[simp] theorem State.setTriad_bkp (s : State) (t : Nat) (x : Triad) : (s.setTriad t x).bkp = s.bkp := rfl
@[simp] theorem State.setTriad_dramKept (s : State) (t : Nat) (x : Triad) : (s.setTriad t x).dramKept = s.dramKept := rfl
@[simp] theorem State.setTriad_booted (s : State) (t : Nat) (x : Triad) : (s.setTriad t x).booted = s.booted := rfl
@[simp] theorem State.setTriad_mile (s : State) (t : Nat) (x : Triad) : (s.setTriad t x).mile = s.mile := rfl
@[simp] theorem State.setTriad_windows (s : State) (t : Nat) (x : Triad) : (s.setTriad t x).windows = s.windows := rfl
@[simp] theorem State.setTriad_rwk (s : State) (t : Nat) (x : Triad) : (s.setTriad t x).rwk = s.rwk := rfl
@[simp] theorem State.setTriad_gate (s : State) (t : Nat) (x : Triad) : (s.setTriad t x).gate = s.gate := rfl
@[simp] theorem State.setTriad_jtag (s : State) (t : Nat) (x : Triad) : (s.setTriad t x).jtag = s.jtag := rfl
@[simp] theorem State.setTriad_drawn (s : State) (t : Nat) (x : Triad) : (s.setTriad t x).drawn = s.drawn := rfl
@[simp] theorem State.setTriad_pending (s : State) (t : Nat) (x : Triad) : (s.setTriad t x).pending = s.pending := rfl

/-! ### onTriad -/

@[simp] theorem State.onTriad_regs (s : State) (t : Nat) (f : Triad → Triad) : (s.onTriad t f).regs = s.regs := rfl
@[simp] theorem State.onTriad_cap (s : State) (t : Nat) (f : Triad → Triad) : (s.onTriad t f).cap = s.cap := rfl
@[simp] theorem State.onTriad_mem (s : State) (t : Nat) (f : Triad → Triad) : (s.onTriad t f).mem = s.mem := rfl
@[simp] theorem State.onTriad_werr (s : State) (t : Nat) (f : Triad → Triad) : (s.onTriad t f).werr = s.werr := rfl
@[simp] theorem State.onTriad_tg (s : State) (t : Nat) (f : Triad → Triad) : (s.onTriad t f).tg = s.tg := rfl
@[simp] theorem State.onTriad_fcu (s : State) (t : Nat) (f : Triad → Triad) : (s.onTriad t f).fcu = s.fcu := rfl
@[simp] theorem State.onTriad_eng (s : State) (t : Nat) (f : Triad → Triad) : (s.onTriad t f).eng = s.eng := rfl
@[simp] theorem State.onTriad_memu (s : State) (t : Nat) (f : Triad → Triad) : (s.onTriad t f).memu = s.memu := rfl
@[simp] theorem State.onTriad_chans (s : State) (t : Nat) (f : Triad → Triad) : (s.onTriad t f).chans = s.chans := rfl
@[simp] theorem State.onTriad_mvrTurn (s : State) (t : Nat) (f : Triad → Triad) : (s.onTriad t f).mvrTurn = s.mvrTurn := rfl
@[simp] theorem State.onTriad_sov (s : State) (t : Nat) (f : Triad → Triad) : (s.onTriad t f).sov = s.sov := rfl
@[simp] theorem State.onTriad_exp (s : State) (t : Nat) (f : Triad → Triad) : (s.onTriad t f).exp = s.exp := rfl
@[simp] theorem State.onTriad_jct (s : State) (t : Nat) (f : Triad → Triad) : (s.onTriad t f).jct = s.jct := rfl
@[simp] theorem State.onTriad_host (s : State) (t : Nat) (f : Triad → Triad) : (s.onTriad t f).host = s.host := rfl
@[simp] theorem State.onTriad_net (s : State) (t : Nat) (f : Triad → Triad) : (s.onTriad t f).net = s.net := rfl
@[simp] theorem State.onTriad_clk (s : State) (t : Nat) (f : Triad → Triad) : (s.onTriad t f).clk = s.clk := rfl
@[simp] theorem State.onTriad_tdm (s : State) (t : Nat) (f : Triad → Triad) : (s.onTriad t f).tdm = s.tdm := rfl
@[simp] theorem State.onTriad_pins (s : State) (t : Nat) (f : Triad → Triad) : (s.onTriad t f).pins = s.pins := rfl
@[simp] theorem State.onTriad_pulling (s : State) (t : Nat) (f : Triad → Triad) : (s.onTriad t f).pulling = s.pulling := rfl
@[simp] theorem State.onTriad_points (s : State) (t : Nat) (f : Triad → Triad) : (s.onTriad t f).points = s.points := rfl
@[simp] theorem State.onTriad_time (s : State) (t : Nat) (f : Triad → Triad) : (s.onTriad t f).time = s.time := rfl
@[simp] theorem State.onTriad_up (s : State) (t : Nat) (f : Triad → Triad) : (s.onTriad t f).up = s.up := rfl
@[simp] theorem State.onTriad_boot (s : State) (t : Nat) (f : Triad → Triad) : (s.onTriad t f).boot = s.boot := rfl
@[simp] theorem State.onTriad_bkp (s : State) (t : Nat) (f : Triad → Triad) : (s.onTriad t f).bkp = s.bkp := rfl
@[simp] theorem State.onTriad_dramKept (s : State) (t : Nat) (f : Triad → Triad) : (s.onTriad t f).dramKept = s.dramKept := rfl
@[simp] theorem State.onTriad_booted (s : State) (t : Nat) (f : Triad → Triad) : (s.onTriad t f).booted = s.booted := rfl
@[simp] theorem State.onTriad_mile (s : State) (t : Nat) (f : Triad → Triad) : (s.onTriad t f).mile = s.mile := rfl
@[simp] theorem State.onTriad_windows (s : State) (t : Nat) (f : Triad → Triad) : (s.onTriad t f).windows = s.windows := rfl
@[simp] theorem State.onTriad_rwk (s : State) (t : Nat) (f : Triad → Triad) : (s.onTriad t f).rwk = s.rwk := rfl
@[simp] theorem State.onTriad_gate (s : State) (t : Nat) (f : Triad → Triad) : (s.onTriad t f).gate = s.gate := rfl
@[simp] theorem State.onTriad_jtag (s : State) (t : Nat) (f : Triad → Triad) : (s.onTriad t f).jtag = s.jtag := rfl
@[simp] theorem State.onTriad_drawn (s : State) (t : Nat) (f : Triad → Triad) : (s.onTriad t f).drawn = s.drawn := rfl
@[simp] theorem State.onTriad_pending (s : State) (t : Nat) (f : Triad → Triad) : (s.onTriad t f).pending = s.pending := rfl

/-! ### setPc -/

@[simp] theorem State.setPc_regs (s : State) (t : Nat) (v : DWord) : (s.setPc t v).regs = s.regs := rfl
@[simp] theorem State.setPc_cap (s : State) (t : Nat) (v : DWord) : (s.setPc t v).cap = s.cap := rfl
@[simp] theorem State.setPc_mem (s : State) (t : Nat) (v : DWord) : (s.setPc t v).mem = s.mem := rfl
@[simp] theorem State.setPc_werr (s : State) (t : Nat) (v : DWord) : (s.setPc t v).werr = s.werr := rfl
@[simp] theorem State.setPc_tg (s : State) (t : Nat) (v : DWord) : (s.setPc t v).tg = s.tg := rfl
@[simp] theorem State.setPc_fcu (s : State) (t : Nat) (v : DWord) : (s.setPc t v).fcu = s.fcu := rfl
@[simp] theorem State.setPc_eng (s : State) (t : Nat) (v : DWord) : (s.setPc t v).eng = s.eng := rfl
@[simp] theorem State.setPc_memu (s : State) (t : Nat) (v : DWord) : (s.setPc t v).memu = s.memu := rfl
@[simp] theorem State.setPc_chans (s : State) (t : Nat) (v : DWord) : (s.setPc t v).chans = s.chans := rfl
@[simp] theorem State.setPc_mvrTurn (s : State) (t : Nat) (v : DWord) : (s.setPc t v).mvrTurn = s.mvrTurn := rfl
@[simp] theorem State.setPc_sov (s : State) (t : Nat) (v : DWord) : (s.setPc t v).sov = s.sov := rfl
@[simp] theorem State.setPc_exp (s : State) (t : Nat) (v : DWord) : (s.setPc t v).exp = s.exp := rfl
@[simp] theorem State.setPc_jct (s : State) (t : Nat) (v : DWord) : (s.setPc t v).jct = s.jct := rfl
@[simp] theorem State.setPc_host (s : State) (t : Nat) (v : DWord) : (s.setPc t v).host = s.host := rfl
@[simp] theorem State.setPc_net (s : State) (t : Nat) (v : DWord) : (s.setPc t v).net = s.net := rfl
@[simp] theorem State.setPc_clk (s : State) (t : Nat) (v : DWord) : (s.setPc t v).clk = s.clk := rfl
@[simp] theorem State.setPc_tdm (s : State) (t : Nat) (v : DWord) : (s.setPc t v).tdm = s.tdm := rfl
@[simp] theorem State.setPc_pins (s : State) (t : Nat) (v : DWord) : (s.setPc t v).pins = s.pins := rfl
@[simp] theorem State.setPc_pulling (s : State) (t : Nat) (v : DWord) : (s.setPc t v).pulling = s.pulling := rfl
@[simp] theorem State.setPc_points (s : State) (t : Nat) (v : DWord) : (s.setPc t v).points = s.points := rfl
@[simp] theorem State.setPc_time (s : State) (t : Nat) (v : DWord) : (s.setPc t v).time = s.time := rfl
@[simp] theorem State.setPc_up (s : State) (t : Nat) (v : DWord) : (s.setPc t v).up = s.up := rfl
@[simp] theorem State.setPc_boot (s : State) (t : Nat) (v : DWord) : (s.setPc t v).boot = s.boot := rfl
@[simp] theorem State.setPc_bkp (s : State) (t : Nat) (v : DWord) : (s.setPc t v).bkp = s.bkp := rfl
@[simp] theorem State.setPc_dramKept (s : State) (t : Nat) (v : DWord) : (s.setPc t v).dramKept = s.dramKept := rfl
@[simp] theorem State.setPc_booted (s : State) (t : Nat) (v : DWord) : (s.setPc t v).booted = s.booted := rfl
@[simp] theorem State.setPc_mile (s : State) (t : Nat) (v : DWord) : (s.setPc t v).mile = s.mile := rfl
@[simp] theorem State.setPc_windows (s : State) (t : Nat) (v : DWord) : (s.setPc t v).windows = s.windows := rfl
@[simp] theorem State.setPc_rwk (s : State) (t : Nat) (v : DWord) : (s.setPc t v).rwk = s.rwk := rfl
@[simp] theorem State.setPc_gate (s : State) (t : Nat) (v : DWord) : (s.setPc t v).gate = s.gate := rfl
@[simp] theorem State.setPc_jtag (s : State) (t : Nat) (v : DWord) : (s.setPc t v).jtag = s.jtag := rfl
@[simp] theorem State.setPc_drawn (s : State) (t : Nat) (v : DWord) : (s.setPc t v).drawn = s.drawn := rfl
@[simp] theorem State.setPc_pending (s : State) (t : Nat) (v : DWord) : (s.setPc t v).pending = s.pending := rfl

/-! ### onEng -/

@[simp] theorem State.onEng_regs (s : State) (f : Engine → Engine) : (s.onEng f).regs = s.regs := rfl
@[simp] theorem State.onEng_cap (s : State) (f : Engine → Engine) : (s.onEng f).cap = s.cap := rfl
@[simp] theorem State.onEng_mem (s : State) (f : Engine → Engine) : (s.onEng f).mem = s.mem := rfl
@[simp] theorem State.onEng_werr (s : State) (f : Engine → Engine) : (s.onEng f).werr = s.werr := rfl
@[simp] theorem State.onEng_triads (s : State) (f : Engine → Engine) : (s.onEng f).triads = s.triads := rfl
@[simp] theorem State.onEng_tg (s : State) (f : Engine → Engine) : (s.onEng f).tg = s.tg := rfl
@[simp] theorem State.onEng_fcu (s : State) (f : Engine → Engine) : (s.onEng f).fcu = s.fcu := rfl
@[simp] theorem State.onEng_memu (s : State) (f : Engine → Engine) : (s.onEng f).memu = s.memu := rfl
@[simp] theorem State.onEng_chans (s : State) (f : Engine → Engine) : (s.onEng f).chans = s.chans := rfl
@[simp] theorem State.onEng_mvrTurn (s : State) (f : Engine → Engine) : (s.onEng f).mvrTurn = s.mvrTurn := rfl
@[simp] theorem State.onEng_sov (s : State) (f : Engine → Engine) : (s.onEng f).sov = s.sov := rfl
@[simp] theorem State.onEng_exp (s : State) (f : Engine → Engine) : (s.onEng f).exp = s.exp := rfl
@[simp] theorem State.onEng_jct (s : State) (f : Engine → Engine) : (s.onEng f).jct = s.jct := rfl
@[simp] theorem State.onEng_host (s : State) (f : Engine → Engine) : (s.onEng f).host = s.host := rfl
@[simp] theorem State.onEng_net (s : State) (f : Engine → Engine) : (s.onEng f).net = s.net := rfl
@[simp] theorem State.onEng_clk (s : State) (f : Engine → Engine) : (s.onEng f).clk = s.clk := rfl
@[simp] theorem State.onEng_tdm (s : State) (f : Engine → Engine) : (s.onEng f).tdm = s.tdm := rfl
@[simp] theorem State.onEng_pins (s : State) (f : Engine → Engine) : (s.onEng f).pins = s.pins := rfl
@[simp] theorem State.onEng_pulling (s : State) (f : Engine → Engine) : (s.onEng f).pulling = s.pulling := rfl
@[simp] theorem State.onEng_points (s : State) (f : Engine → Engine) : (s.onEng f).points = s.points := rfl
@[simp] theorem State.onEng_time (s : State) (f : Engine → Engine) : (s.onEng f).time = s.time := rfl
@[simp] theorem State.onEng_up (s : State) (f : Engine → Engine) : (s.onEng f).up = s.up := rfl
@[simp] theorem State.onEng_boot (s : State) (f : Engine → Engine) : (s.onEng f).boot = s.boot := rfl
@[simp] theorem State.onEng_bkp (s : State) (f : Engine → Engine) : (s.onEng f).bkp = s.bkp := rfl
@[simp] theorem State.onEng_dramKept (s : State) (f : Engine → Engine) : (s.onEng f).dramKept = s.dramKept := rfl
@[simp] theorem State.onEng_booted (s : State) (f : Engine → Engine) : (s.onEng f).booted = s.booted := rfl
@[simp] theorem State.onEng_mile (s : State) (f : Engine → Engine) : (s.onEng f).mile = s.mile := rfl
@[simp] theorem State.onEng_windows (s : State) (f : Engine → Engine) : (s.onEng f).windows = s.windows := rfl
@[simp] theorem State.onEng_rwk (s : State) (f : Engine → Engine) : (s.onEng f).rwk = s.rwk := rfl
@[simp] theorem State.onEng_gate (s : State) (f : Engine → Engine) : (s.onEng f).gate = s.gate := rfl
@[simp] theorem State.onEng_jtag (s : State) (f : Engine → Engine) : (s.onEng f).jtag = s.jtag := rfl
@[simp] theorem State.onEng_drawn (s : State) (f : Engine → Engine) : (s.onEng f).drawn = s.drawn := rfl
@[simp] theorem State.onEng_pending (s : State) (f : Engine → Engine) : (s.onEng f).pending = s.pending := rfl

/-! ### onMemu -/

@[simp] theorem State.onMemu_regs (s : State) (f : MemUnit → MemUnit) : (s.onMemu f).regs = s.regs := rfl
@[simp] theorem State.onMemu_cap (s : State) (f : MemUnit → MemUnit) : (s.onMemu f).cap = s.cap := rfl
@[simp] theorem State.onMemu_mem (s : State) (f : MemUnit → MemUnit) : (s.onMemu f).mem = s.mem := rfl
@[simp] theorem State.onMemu_werr (s : State) (f : MemUnit → MemUnit) : (s.onMemu f).werr = s.werr := rfl
@[simp] theorem State.onMemu_triads (s : State) (f : MemUnit → MemUnit) : (s.onMemu f).triads = s.triads := rfl
@[simp] theorem State.onMemu_tg (s : State) (f : MemUnit → MemUnit) : (s.onMemu f).tg = s.tg := rfl
@[simp] theorem State.onMemu_fcu (s : State) (f : MemUnit → MemUnit) : (s.onMemu f).fcu = s.fcu := rfl
@[simp] theorem State.onMemu_eng (s : State) (f : MemUnit → MemUnit) : (s.onMemu f).eng = s.eng := rfl
@[simp] theorem State.onMemu_chans (s : State) (f : MemUnit → MemUnit) : (s.onMemu f).chans = s.chans := rfl
@[simp] theorem State.onMemu_mvrTurn (s : State) (f : MemUnit → MemUnit) : (s.onMemu f).mvrTurn = s.mvrTurn := rfl
@[simp] theorem State.onMemu_sov (s : State) (f : MemUnit → MemUnit) : (s.onMemu f).sov = s.sov := rfl
@[simp] theorem State.onMemu_exp (s : State) (f : MemUnit → MemUnit) : (s.onMemu f).exp = s.exp := rfl
@[simp] theorem State.onMemu_jct (s : State) (f : MemUnit → MemUnit) : (s.onMemu f).jct = s.jct := rfl
@[simp] theorem State.onMemu_host (s : State) (f : MemUnit → MemUnit) : (s.onMemu f).host = s.host := rfl
@[simp] theorem State.onMemu_net (s : State) (f : MemUnit → MemUnit) : (s.onMemu f).net = s.net := rfl
@[simp] theorem State.onMemu_clk (s : State) (f : MemUnit → MemUnit) : (s.onMemu f).clk = s.clk := rfl
@[simp] theorem State.onMemu_tdm (s : State) (f : MemUnit → MemUnit) : (s.onMemu f).tdm = s.tdm := rfl
@[simp] theorem State.onMemu_pins (s : State) (f : MemUnit → MemUnit) : (s.onMemu f).pins = s.pins := rfl
@[simp] theorem State.onMemu_pulling (s : State) (f : MemUnit → MemUnit) : (s.onMemu f).pulling = s.pulling := rfl
@[simp] theorem State.onMemu_points (s : State) (f : MemUnit → MemUnit) : (s.onMemu f).points = s.points := rfl
@[simp] theorem State.onMemu_time (s : State) (f : MemUnit → MemUnit) : (s.onMemu f).time = s.time := rfl
@[simp] theorem State.onMemu_up (s : State) (f : MemUnit → MemUnit) : (s.onMemu f).up = s.up := rfl
@[simp] theorem State.onMemu_boot (s : State) (f : MemUnit → MemUnit) : (s.onMemu f).boot = s.boot := rfl
@[simp] theorem State.onMemu_bkp (s : State) (f : MemUnit → MemUnit) : (s.onMemu f).bkp = s.bkp := rfl
@[simp] theorem State.onMemu_dramKept (s : State) (f : MemUnit → MemUnit) : (s.onMemu f).dramKept = s.dramKept := rfl
@[simp] theorem State.onMemu_booted (s : State) (f : MemUnit → MemUnit) : (s.onMemu f).booted = s.booted := rfl
@[simp] theorem State.onMemu_mile (s : State) (f : MemUnit → MemUnit) : (s.onMemu f).mile = s.mile := rfl
@[simp] theorem State.onMemu_windows (s : State) (f : MemUnit → MemUnit) : (s.onMemu f).windows = s.windows := rfl
@[simp] theorem State.onMemu_rwk (s : State) (f : MemUnit → MemUnit) : (s.onMemu f).rwk = s.rwk := rfl
@[simp] theorem State.onMemu_gate (s : State) (f : MemUnit → MemUnit) : (s.onMemu f).gate = s.gate := rfl
@[simp] theorem State.onMemu_jtag (s : State) (f : MemUnit → MemUnit) : (s.onMemu f).jtag = s.jtag := rfl
@[simp] theorem State.onMemu_drawn (s : State) (f : MemUnit → MemUnit) : (s.onMemu f).drawn = s.drawn := rfl
@[simp] theorem State.onMemu_pending (s : State) (f : MemUnit → MemUnit) : (s.onMemu f).pending = s.pending := rfl

/-! ### onSov -/

@[simp] theorem State.onSov_regs (s : State) (f : Sov → Sov) : (s.onSov f).regs = s.regs := rfl
@[simp] theorem State.onSov_cap (s : State) (f : Sov → Sov) : (s.onSov f).cap = s.cap := rfl
@[simp] theorem State.onSov_mem (s : State) (f : Sov → Sov) : (s.onSov f).mem = s.mem := rfl
@[simp] theorem State.onSov_werr (s : State) (f : Sov → Sov) : (s.onSov f).werr = s.werr := rfl
@[simp] theorem State.onSov_triads (s : State) (f : Sov → Sov) : (s.onSov f).triads = s.triads := rfl
@[simp] theorem State.onSov_tg (s : State) (f : Sov → Sov) : (s.onSov f).tg = s.tg := rfl
@[simp] theorem State.onSov_fcu (s : State) (f : Sov → Sov) : (s.onSov f).fcu = s.fcu := rfl
@[simp] theorem State.onSov_eng (s : State) (f : Sov → Sov) : (s.onSov f).eng = s.eng := rfl
@[simp] theorem State.onSov_memu (s : State) (f : Sov → Sov) : (s.onSov f).memu = s.memu := rfl
@[simp] theorem State.onSov_chans (s : State) (f : Sov → Sov) : (s.onSov f).chans = s.chans := rfl
@[simp] theorem State.onSov_mvrTurn (s : State) (f : Sov → Sov) : (s.onSov f).mvrTurn = s.mvrTurn := rfl
@[simp] theorem State.onSov_exp (s : State) (f : Sov → Sov) : (s.onSov f).exp = s.exp := rfl
@[simp] theorem State.onSov_jct (s : State) (f : Sov → Sov) : (s.onSov f).jct = s.jct := rfl
@[simp] theorem State.onSov_host (s : State) (f : Sov → Sov) : (s.onSov f).host = s.host := rfl
@[simp] theorem State.onSov_net (s : State) (f : Sov → Sov) : (s.onSov f).net = s.net := rfl
@[simp] theorem State.onSov_clk (s : State) (f : Sov → Sov) : (s.onSov f).clk = s.clk := rfl
@[simp] theorem State.onSov_tdm (s : State) (f : Sov → Sov) : (s.onSov f).tdm = s.tdm := rfl
@[simp] theorem State.onSov_pins (s : State) (f : Sov → Sov) : (s.onSov f).pins = s.pins := rfl
@[simp] theorem State.onSov_pulling (s : State) (f : Sov → Sov) : (s.onSov f).pulling = s.pulling := rfl
@[simp] theorem State.onSov_points (s : State) (f : Sov → Sov) : (s.onSov f).points = s.points := rfl
@[simp] theorem State.onSov_time (s : State) (f : Sov → Sov) : (s.onSov f).time = s.time := rfl
@[simp] theorem State.onSov_up (s : State) (f : Sov → Sov) : (s.onSov f).up = s.up := rfl
@[simp] theorem State.onSov_boot (s : State) (f : Sov → Sov) : (s.onSov f).boot = s.boot := rfl
@[simp] theorem State.onSov_bkp (s : State) (f : Sov → Sov) : (s.onSov f).bkp = s.bkp := rfl
@[simp] theorem State.onSov_dramKept (s : State) (f : Sov → Sov) : (s.onSov f).dramKept = s.dramKept := rfl
@[simp] theorem State.onSov_booted (s : State) (f : Sov → Sov) : (s.onSov f).booted = s.booted := rfl
@[simp] theorem State.onSov_mile (s : State) (f : Sov → Sov) : (s.onSov f).mile = s.mile := rfl
@[simp] theorem State.onSov_windows (s : State) (f : Sov → Sov) : (s.onSov f).windows = s.windows := rfl
@[simp] theorem State.onSov_rwk (s : State) (f : Sov → Sov) : (s.onSov f).rwk = s.rwk := rfl
@[simp] theorem State.onSov_gate (s : State) (f : Sov → Sov) : (s.onSov f).gate = s.gate := rfl
@[simp] theorem State.onSov_jtag (s : State) (f : Sov → Sov) : (s.onSov f).jtag = s.jtag := rfl
@[simp] theorem State.onSov_drawn (s : State) (f : Sov → Sov) : (s.onSov f).drawn = s.drawn := rfl
@[simp] theorem State.onSov_pending (s : State) (f : Sov → Sov) : (s.onSov f).pending = s.pending := rfl

/-! ### onClk -/

@[simp] theorem State.onClk_regs (s : State) (f : Clock → Clock) : (s.onClk f).regs = s.regs := rfl
@[simp] theorem State.onClk_cap (s : State) (f : Clock → Clock) : (s.onClk f).cap = s.cap := rfl
@[simp] theorem State.onClk_mem (s : State) (f : Clock → Clock) : (s.onClk f).mem = s.mem := rfl
@[simp] theorem State.onClk_werr (s : State) (f : Clock → Clock) : (s.onClk f).werr = s.werr := rfl
@[simp] theorem State.onClk_triads (s : State) (f : Clock → Clock) : (s.onClk f).triads = s.triads := rfl
@[simp] theorem State.onClk_tg (s : State) (f : Clock → Clock) : (s.onClk f).tg = s.tg := rfl
@[simp] theorem State.onClk_fcu (s : State) (f : Clock → Clock) : (s.onClk f).fcu = s.fcu := rfl
@[simp] theorem State.onClk_eng (s : State) (f : Clock → Clock) : (s.onClk f).eng = s.eng := rfl
@[simp] theorem State.onClk_memu (s : State) (f : Clock → Clock) : (s.onClk f).memu = s.memu := rfl
@[simp] theorem State.onClk_chans (s : State) (f : Clock → Clock) : (s.onClk f).chans = s.chans := rfl
@[simp] theorem State.onClk_mvrTurn (s : State) (f : Clock → Clock) : (s.onClk f).mvrTurn = s.mvrTurn := rfl
@[simp] theorem State.onClk_sov (s : State) (f : Clock → Clock) : (s.onClk f).sov = s.sov := rfl
@[simp] theorem State.onClk_exp (s : State) (f : Clock → Clock) : (s.onClk f).exp = s.exp := rfl
@[simp] theorem State.onClk_jct (s : State) (f : Clock → Clock) : (s.onClk f).jct = s.jct := rfl
@[simp] theorem State.onClk_host (s : State) (f : Clock → Clock) : (s.onClk f).host = s.host := rfl
@[simp] theorem State.onClk_net (s : State) (f : Clock → Clock) : (s.onClk f).net = s.net := rfl
@[simp] theorem State.onClk_tdm (s : State) (f : Clock → Clock) : (s.onClk f).tdm = s.tdm := rfl
@[simp] theorem State.onClk_pins (s : State) (f : Clock → Clock) : (s.onClk f).pins = s.pins := rfl
@[simp] theorem State.onClk_pulling (s : State) (f : Clock → Clock) : (s.onClk f).pulling = s.pulling := rfl
@[simp] theorem State.onClk_points (s : State) (f : Clock → Clock) : (s.onClk f).points = s.points := rfl
@[simp] theorem State.onClk_time (s : State) (f : Clock → Clock) : (s.onClk f).time = s.time := rfl
@[simp] theorem State.onClk_up (s : State) (f : Clock → Clock) : (s.onClk f).up = s.up := rfl
@[simp] theorem State.onClk_boot (s : State) (f : Clock → Clock) : (s.onClk f).boot = s.boot := rfl
@[simp] theorem State.onClk_bkp (s : State) (f : Clock → Clock) : (s.onClk f).bkp = s.bkp := rfl
@[simp] theorem State.onClk_dramKept (s : State) (f : Clock → Clock) : (s.onClk f).dramKept = s.dramKept := rfl
@[simp] theorem State.onClk_booted (s : State) (f : Clock → Clock) : (s.onClk f).booted = s.booted := rfl
@[simp] theorem State.onClk_mile (s : State) (f : Clock → Clock) : (s.onClk f).mile = s.mile := rfl
@[simp] theorem State.onClk_windows (s : State) (f : Clock → Clock) : (s.onClk f).windows = s.windows := rfl
@[simp] theorem State.onClk_rwk (s : State) (f : Clock → Clock) : (s.onClk f).rwk = s.rwk := rfl
@[simp] theorem State.onClk_gate (s : State) (f : Clock → Clock) : (s.onClk f).gate = s.gate := rfl
@[simp] theorem State.onClk_jtag (s : State) (f : Clock → Clock) : (s.onClk f).jtag = s.jtag := rfl
@[simp] theorem State.onClk_drawn (s : State) (f : Clock → Clock) : (s.onClk f).drawn = s.drawn := rfl
@[simp] theorem State.onClk_pending (s : State) (f : Clock → Clock) : (s.onClk f).pending = s.pending := rfl

/-! ### setPair -/

@[simp] theorem State.setPair_regs (s : State) (n : Nat) (p : Pair) : (s.setPair n p).regs = s.regs := rfl
@[simp] theorem State.setPair_cap (s : State) (n : Nat) (p : Pair) : (s.setPair n p).cap = s.cap := rfl
@[simp] theorem State.setPair_mem (s : State) (n : Nat) (p : Pair) : (s.setPair n p).mem = s.mem := rfl
@[simp] theorem State.setPair_werr (s : State) (n : Nat) (p : Pair) : (s.setPair n p).werr = s.werr := rfl
@[simp] theorem State.setPair_triads (s : State) (n : Nat) (p : Pair) : (s.setPair n p).triads = s.triads := rfl
@[simp] theorem State.setPair_tg (s : State) (n : Nat) (p : Pair) : (s.setPair n p).tg = s.tg := rfl
@[simp] theorem State.setPair_eng (s : State) (n : Nat) (p : Pair) : (s.setPair n p).eng = s.eng := rfl
@[simp] theorem State.setPair_memu (s : State) (n : Nat) (p : Pair) : (s.setPair n p).memu = s.memu := rfl
@[simp] theorem State.setPair_chans (s : State) (n : Nat) (p : Pair) : (s.setPair n p).chans = s.chans := rfl
@[simp] theorem State.setPair_mvrTurn (s : State) (n : Nat) (p : Pair) : (s.setPair n p).mvrTurn = s.mvrTurn := rfl
@[simp] theorem State.setPair_sov (s : State) (n : Nat) (p : Pair) : (s.setPair n p).sov = s.sov := rfl
@[simp] theorem State.setPair_exp (s : State) (n : Nat) (p : Pair) : (s.setPair n p).exp = s.exp := rfl
@[simp] theorem State.setPair_jct (s : State) (n : Nat) (p : Pair) : (s.setPair n p).jct = s.jct := rfl
@[simp] theorem State.setPair_host (s : State) (n : Nat) (p : Pair) : (s.setPair n p).host = s.host := rfl
@[simp] theorem State.setPair_net (s : State) (n : Nat) (p : Pair) : (s.setPair n p).net = s.net := rfl
@[simp] theorem State.setPair_clk (s : State) (n : Nat) (p : Pair) : (s.setPair n p).clk = s.clk := rfl
@[simp] theorem State.setPair_tdm (s : State) (n : Nat) (p : Pair) : (s.setPair n p).tdm = s.tdm := rfl
@[simp] theorem State.setPair_pins (s : State) (n : Nat) (p : Pair) : (s.setPair n p).pins = s.pins := rfl
@[simp] theorem State.setPair_pulling (s : State) (n : Nat) (p : Pair) : (s.setPair n p).pulling = s.pulling := rfl
@[simp] theorem State.setPair_points (s : State) (n : Nat) (p : Pair) : (s.setPair n p).points = s.points := rfl
@[simp] theorem State.setPair_time (s : State) (n : Nat) (p : Pair) : (s.setPair n p).time = s.time := rfl
@[simp] theorem State.setPair_up (s : State) (n : Nat) (p : Pair) : (s.setPair n p).up = s.up := rfl
@[simp] theorem State.setPair_boot (s : State) (n : Nat) (p : Pair) : (s.setPair n p).boot = s.boot := rfl
@[simp] theorem State.setPair_bkp (s : State) (n : Nat) (p : Pair) : (s.setPair n p).bkp = s.bkp := rfl
@[simp] theorem State.setPair_dramKept (s : State) (n : Nat) (p : Pair) : (s.setPair n p).dramKept = s.dramKept := rfl
@[simp] theorem State.setPair_booted (s : State) (n : Nat) (p : Pair) : (s.setPair n p).booted = s.booted := rfl
@[simp] theorem State.setPair_mile (s : State) (n : Nat) (p : Pair) : (s.setPair n p).mile = s.mile := rfl
@[simp] theorem State.setPair_windows (s : State) (n : Nat) (p : Pair) : (s.setPair n p).windows = s.windows := rfl
@[simp] theorem State.setPair_rwk (s : State) (n : Nat) (p : Pair) : (s.setPair n p).rwk = s.rwk := rfl
@[simp] theorem State.setPair_gate (s : State) (n : Nat) (p : Pair) : (s.setPair n p).gate = s.gate := rfl
@[simp] theorem State.setPair_jtag (s : State) (n : Nat) (p : Pair) : (s.setPair n p).jtag = s.jtag := rfl
@[simp] theorem State.setPair_drawn (s : State) (n : Nat) (p : Pair) : (s.setPair n p).drawn = s.drawn := rfl
@[simp] theorem State.setPair_pending (s : State) (n : Nat) (p : Pair) : (s.setPair n p).pending = s.pending := rfl

/-! ### setByte -/

@[simp] theorem State.setByte_regs (s : State) (a : Nat) (v : Byte) : (s.setByte a v).regs = s.regs := rfl
@[simp] theorem State.setByte_cap (s : State) (a : Nat) (v : Byte) : (s.setByte a v).cap = s.cap := rfl
@[simp] theorem State.setByte_werr (s : State) (a : Nat) (v : Byte) : (s.setByte a v).werr = s.werr := rfl
@[simp] theorem State.setByte_triads (s : State) (a : Nat) (v : Byte) : (s.setByte a v).triads = s.triads := rfl
@[simp] theorem State.setByte_tg (s : State) (a : Nat) (v : Byte) : (s.setByte a v).tg = s.tg := rfl
@[simp] theorem State.setByte_fcu (s : State) (a : Nat) (v : Byte) : (s.setByte a v).fcu = s.fcu := rfl
@[simp] theorem State.setByte_eng (s : State) (a : Nat) (v : Byte) : (s.setByte a v).eng = s.eng := rfl
@[simp] theorem State.setByte_memu (s : State) (a : Nat) (v : Byte) : (s.setByte a v).memu = s.memu := rfl
@[simp] theorem State.setByte_chans (s : State) (a : Nat) (v : Byte) : (s.setByte a v).chans = s.chans := rfl
@[simp] theorem State.setByte_mvrTurn (s : State) (a : Nat) (v : Byte) : (s.setByte a v).mvrTurn = s.mvrTurn := rfl
@[simp] theorem State.setByte_sov (s : State) (a : Nat) (v : Byte) : (s.setByte a v).sov = s.sov := rfl
@[simp] theorem State.setByte_exp (s : State) (a : Nat) (v : Byte) : (s.setByte a v).exp = s.exp := rfl
@[simp] theorem State.setByte_jct (s : State) (a : Nat) (v : Byte) : (s.setByte a v).jct = s.jct := rfl
@[simp] theorem State.setByte_host (s : State) (a : Nat) (v : Byte) : (s.setByte a v).host = s.host := rfl
@[simp] theorem State.setByte_net (s : State) (a : Nat) (v : Byte) : (s.setByte a v).net = s.net := rfl
@[simp] theorem State.setByte_clk (s : State) (a : Nat) (v : Byte) : (s.setByte a v).clk = s.clk := rfl
@[simp] theorem State.setByte_tdm (s : State) (a : Nat) (v : Byte) : (s.setByte a v).tdm = s.tdm := rfl
@[simp] theorem State.setByte_pins (s : State) (a : Nat) (v : Byte) : (s.setByte a v).pins = s.pins := rfl
@[simp] theorem State.setByte_pulling (s : State) (a : Nat) (v : Byte) : (s.setByte a v).pulling = s.pulling := rfl
@[simp] theorem State.setByte_points (s : State) (a : Nat) (v : Byte) : (s.setByte a v).points = s.points := rfl
@[simp] theorem State.setByte_time (s : State) (a : Nat) (v : Byte) : (s.setByte a v).time = s.time := rfl
@[simp] theorem State.setByte_up (s : State) (a : Nat) (v : Byte) : (s.setByte a v).up = s.up := rfl
@[simp] theorem State.setByte_boot (s : State) (a : Nat) (v : Byte) : (s.setByte a v).boot = s.boot := rfl
@[simp] theorem State.setByte_bkp (s : State) (a : Nat) (v : Byte) : (s.setByte a v).bkp = s.bkp := rfl
@[simp] theorem State.setByte_dramKept (s : State) (a : Nat) (v : Byte) : (s.setByte a v).dramKept = s.dramKept := rfl
@[simp] theorem State.setByte_booted (s : State) (a : Nat) (v : Byte) : (s.setByte a v).booted = s.booted := rfl
@[simp] theorem State.setByte_mile (s : State) (a : Nat) (v : Byte) : (s.setByte a v).mile = s.mile := rfl
@[simp] theorem State.setByte_windows (s : State) (a : Nat) (v : Byte) : (s.setByte a v).windows = s.windows := rfl
@[simp] theorem State.setByte_rwk (s : State) (a : Nat) (v : Byte) : (s.setByte a v).rwk = s.rwk := rfl
@[simp] theorem State.setByte_gate (s : State) (a : Nat) (v : Byte) : (s.setByte a v).gate = s.gate := rfl
@[simp] theorem State.setByte_jtag (s : State) (a : Nat) (v : Byte) : (s.setByte a v).jtag = s.jtag := rfl
@[simp] theorem State.setByte_drawn (s : State) (a : Nat) (v : Byte) : (s.setByte a v).drawn = s.drawn := rfl
@[simp] theorem State.setByte_pending (s : State) (a : Nat) (v : Byte) : (s.setByte a v).pending = s.pending := rfl

/-! ### setErr -/

@[simp] theorem State.setErr_regs (s : State) (w : Nat) (e : WErr) : (s.setErr w e).regs = s.regs := rfl
@[simp] theorem State.setErr_cap (s : State) (w : Nat) (e : WErr) : (s.setErr w e).cap = s.cap := rfl
@[simp] theorem State.setErr_mem (s : State) (w : Nat) (e : WErr) : (s.setErr w e).mem = s.mem := rfl
@[simp] theorem State.setErr_triads (s : State) (w : Nat) (e : WErr) : (s.setErr w e).triads = s.triads := rfl
@[simp] theorem State.setErr_tg (s : State) (w : Nat) (e : WErr) : (s.setErr w e).tg = s.tg := rfl
@[simp] theorem State.setErr_fcu (s : State) (w : Nat) (e : WErr) : (s.setErr w e).fcu = s.fcu := rfl
@[simp] theorem State.setErr_eng (s : State) (w : Nat) (e : WErr) : (s.setErr w e).eng = s.eng := rfl
@[simp] theorem State.setErr_memu (s : State) (w : Nat) (e : WErr) : (s.setErr w e).memu = s.memu := rfl
@[simp] theorem State.setErr_chans (s : State) (w : Nat) (e : WErr) : (s.setErr w e).chans = s.chans := rfl
@[simp] theorem State.setErr_mvrTurn (s : State) (w : Nat) (e : WErr) : (s.setErr w e).mvrTurn = s.mvrTurn := rfl
@[simp] theorem State.setErr_sov (s : State) (w : Nat) (e : WErr) : (s.setErr w e).sov = s.sov := rfl
@[simp] theorem State.setErr_exp (s : State) (w : Nat) (e : WErr) : (s.setErr w e).exp = s.exp := rfl
@[simp] theorem State.setErr_jct (s : State) (w : Nat) (e : WErr) : (s.setErr w e).jct = s.jct := rfl
@[simp] theorem State.setErr_host (s : State) (w : Nat) (e : WErr) : (s.setErr w e).host = s.host := rfl
@[simp] theorem State.setErr_net (s : State) (w : Nat) (e : WErr) : (s.setErr w e).net = s.net := rfl
@[simp] theorem State.setErr_clk (s : State) (w : Nat) (e : WErr) : (s.setErr w e).clk = s.clk := rfl
@[simp] theorem State.setErr_tdm (s : State) (w : Nat) (e : WErr) : (s.setErr w e).tdm = s.tdm := rfl
@[simp] theorem State.setErr_pins (s : State) (w : Nat) (e : WErr) : (s.setErr w e).pins = s.pins := rfl
@[simp] theorem State.setErr_pulling (s : State) (w : Nat) (e : WErr) : (s.setErr w e).pulling = s.pulling := rfl
@[simp] theorem State.setErr_points (s : State) (w : Nat) (e : WErr) : (s.setErr w e).points = s.points := rfl
@[simp] theorem State.setErr_time (s : State) (w : Nat) (e : WErr) : (s.setErr w e).time = s.time := rfl
@[simp] theorem State.setErr_up (s : State) (w : Nat) (e : WErr) : (s.setErr w e).up = s.up := rfl
@[simp] theorem State.setErr_boot (s : State) (w : Nat) (e : WErr) : (s.setErr w e).boot = s.boot := rfl
@[simp] theorem State.setErr_bkp (s : State) (w : Nat) (e : WErr) : (s.setErr w e).bkp = s.bkp := rfl
@[simp] theorem State.setErr_dramKept (s : State) (w : Nat) (e : WErr) : (s.setErr w e).dramKept = s.dramKept := rfl
@[simp] theorem State.setErr_booted (s : State) (w : Nat) (e : WErr) : (s.setErr w e).booted = s.booted := rfl
@[simp] theorem State.setErr_mile (s : State) (w : Nat) (e : WErr) : (s.setErr w e).mile = s.mile := rfl
@[simp] theorem State.setErr_windows (s : State) (w : Nat) (e : WErr) : (s.setErr w e).windows = s.windows := rfl
@[simp] theorem State.setErr_rwk (s : State) (w : Nat) (e : WErr) : (s.setErr w e).rwk = s.rwk := rfl
@[simp] theorem State.setErr_gate (s : State) (w : Nat) (e : WErr) : (s.setErr w e).gate = s.gate := rfl
@[simp] theorem State.setErr_jtag (s : State) (w : Nat) (e : WErr) : (s.setErr w e).jtag = s.jtag := rfl
@[simp] theorem State.setErr_drawn (s : State) (w : Nat) (e : WErr) : (s.setErr w e).drawn = s.drawn := rfl
@[simp] theorem State.setErr_pending (s : State) (w : Nat) (e : WErr) : (s.setErr w e).pending = s.pending := rfl

/-! ### drivePins -/

@[simp] theorem State.drivePins_regs (s : State) : (s.drivePins).regs = s.regs := rfl
@[simp] theorem State.drivePins_cap (s : State) : (s.drivePins).cap = s.cap := rfl
@[simp] theorem State.drivePins_mem (s : State) : (s.drivePins).mem = s.mem := rfl
@[simp] theorem State.drivePins_werr (s : State) : (s.drivePins).werr = s.werr := rfl
@[simp] theorem State.drivePins_triads (s : State) : (s.drivePins).triads = s.triads := rfl
@[simp] theorem State.drivePins_tg (s : State) : (s.drivePins).tg = s.tg := rfl
@[simp] theorem State.drivePins_fcu (s : State) : (s.drivePins).fcu = s.fcu := rfl
@[simp] theorem State.drivePins_eng (s : State) : (s.drivePins).eng = s.eng := rfl
@[simp] theorem State.drivePins_memu (s : State) : (s.drivePins).memu = s.memu := rfl
@[simp] theorem State.drivePins_chans (s : State) : (s.drivePins).chans = s.chans := rfl
@[simp] theorem State.drivePins_mvrTurn (s : State) : (s.drivePins).mvrTurn = s.mvrTurn := rfl
@[simp] theorem State.drivePins_sov (s : State) : (s.drivePins).sov = s.sov := rfl
@[simp] theorem State.drivePins_exp (s : State) : (s.drivePins).exp = s.exp := rfl
@[simp] theorem State.drivePins_jct (s : State) : (s.drivePins).jct = s.jct := rfl
@[simp] theorem State.drivePins_host (s : State) : (s.drivePins).host = s.host := rfl
@[simp] theorem State.drivePins_net (s : State) : (s.drivePins).net = s.net := rfl
@[simp] theorem State.drivePins_clk (s : State) : (s.drivePins).clk = s.clk := rfl
@[simp] theorem State.drivePins_tdm (s : State) : (s.drivePins).tdm = s.tdm := rfl
@[simp] theorem State.drivePins_pulling (s : State) : (s.drivePins).pulling = s.pulling := rfl
@[simp] theorem State.drivePins_points (s : State) : (s.drivePins).points = s.points := rfl
@[simp] theorem State.drivePins_time (s : State) : (s.drivePins).time = s.time := rfl
@[simp] theorem State.drivePins_up (s : State) : (s.drivePins).up = s.up := rfl
@[simp] theorem State.drivePins_boot (s : State) : (s.drivePins).boot = s.boot := rfl
@[simp] theorem State.drivePins_bkp (s : State) : (s.drivePins).bkp = s.bkp := rfl
@[simp] theorem State.drivePins_dramKept (s : State) : (s.drivePins).dramKept = s.dramKept := rfl
@[simp] theorem State.drivePins_booted (s : State) : (s.drivePins).booted = s.booted := rfl
@[simp] theorem State.drivePins_mile (s : State) : (s.drivePins).mile = s.mile := rfl
@[simp] theorem State.drivePins_windows (s : State) : (s.drivePins).windows = s.windows := rfl
@[simp] theorem State.drivePins_rwk (s : State) : (s.drivePins).rwk = s.rwk := rfl
@[simp] theorem State.drivePins_gate (s : State) : (s.drivePins).gate = s.gate := rfl
@[simp] theorem State.drivePins_jtag (s : State) : (s.drivePins).jtag = s.jtag := rfl
@[simp] theorem State.drivePins_drawn (s : State) : (s.drivePins).drawn = s.drawn := rfl
@[simp] theorem State.drivePins_pending (s : State) : (s.drivePins).pending = s.pending := rfl

/-! ### What an update changes -/

@[simp] theorem State.onEng_eng (s : State) (f : Engine → Engine) : (s.onEng f).eng = f s.eng := rfl
@[simp] theorem State.onMemu_memu (s : State) (f : MemUnit → MemUnit) : (s.onMemu f).memu = f s.memu := rfl
@[simp] theorem State.onSov_sov (s : State) (f : Sov → Sov) : (s.onSov f).sov = f s.sov := rfl
@[simp] theorem State.onClk_clk (s : State) (f : Clock → Clock) : (s.onClk f).clk = f s.clk := rfl
@[simp] theorem State.drivePins_pins (s : State) : s.drivePins.pins = s.pinsOf := rfl

@[simp] theorem State.reg_setReg_self (s : State) (a : Nat) (v : Word) : (s.setReg a v).reg a = v := by
  simp [State.reg, State.setReg]

@[simp] theorem State.reg_setReg_other (s : State) (a b : Nat) (v : Word) (h : a ≠ b) : (s.setReg a v).reg b = s.reg b := by
  simp [State.reg, State.setReg, h]

@[simp] theorem State.triad_setTriad_self (s : State) (t : Nat) (x : Triad) : (s.setTriad t x).triad t = x := by
  simp [State.triad, State.setTriad]

@[simp] theorem State.triad_setTriad_other (s : State) (t u : Nat) (x : Triad) (h : t ≠ u) : (s.setTriad t x).triad u = s.triad u := by
  simp [State.triad, State.setTriad, h]

@[simp] theorem State.triad_onTriad_self (s : State) (t : Nat) (f : Triad → Triad) : (s.onTriad t f).triad t = f (s.triad t) := by
  simp [State.onTriad]

@[simp] theorem State.triad_onTriad_other (s : State) (t u : Nat) (f : Triad → Triad) (h : t ≠ u) : (s.onTriad t f).triad u = s.triad u := by
  simp [State.onTriad, h]

@[simp] theorem State.byte_setByte_self (s : State) (a : Nat) (v : Byte) : (s.setByte a v).byte a = v := by
  simp [State.byte, State.setByte]

@[simp] theorem State.byte_setByte_other (s : State) (a b : Nat) (v : Byte) (h : a ≠ b) : (s.setByte a v).byte b = s.byte b := by
  simp [State.byte, State.setByte, h]

@[simp] theorem State.errOf_setErr_self (s : State) (w : Nat) (e : WErr) : (s.setErr w e).errOf w = e := by
  simp [State.errOf, State.setErr]

@[simp] theorem State.errOf_setErr_other (s : State) (w v : Nat) (e : WErr) (h : w ≠ v) : (s.setErr w e).errOf v = s.errOf v := by
  simp [State.errOf, State.setErr, h]

/-- The field read back after it is written: the value, cut to the field's width. -/
theorem Fld.read_write (f : Fld) (w : Word) (v : Nat) (h : f.lo + f.width ≤ 32) : f.read (f.write w v) = v % 2 ^ f.width := by
  have hw : w.toNat < 2 ^ 32 := w.isLt
  obtain ⟨c, hc⟩ : ∃ c, 32 = f.lo + f.width + c := ⟨32 - (f.lo + f.width), by omega⟩
  have hp : 2 ^ 32 = 2 ^ f.lo * (2 ^ f.width * 2 ^ c) := by rw [hc, pow_add, pow_add, mul_assoc]
  have h1 : 0 < 2 ^ f.lo := by positivity
  have h2 : 0 < 2 ^ f.width := by positivity
  simp only [Fld.read, Fld.write, BitVec.toNat_ofNat]
  set W := w.toNat
  set L := 2 ^ f.lo
  set M := 2 ^ f.width
  have e1 : W = L * (W / L) + W % L := (Nat.div_add_mod W L).symm
  have e2 : W / L = M * (W / L / M) + W / L % M := (Nat.div_add_mod _ _).symm
  have hr : W % L < L := Nat.mod_lt _ h1
  have hv : v % M < M := Nat.mod_lt _ h2
  have e3 : W - W / L % M * L + v % M * L = L * (M * (W / L / M) + v % M) + W % L := by
    have : W = L * (M * (W / L / M)) + W / L % M * L + W % L := by
      conv_lhs => rw [e1, e2]
      ring
    have h5 : W - W / L % M * L = L * (M * (W / L / M)) + W % L := by omega
    rw [h5]; ring
  have h6 : W / L / M < 2 ^ c := by
    rw [Nat.div_div_eq_div_mul]
    apply Nat.div_lt_of_lt_mul
    calc W < 2 ^ 32 := hw
      _ = L * M * 2 ^ c := by rw [hp]; ring
  have e4 : L * (M * (W / L / M) + v % M) + W % L < 2 ^ 32 := by
    rw [hp]
    have a1 : M * (W / L / M) + v % M < M * 2 ^ c := by
      calc M * (W / L / M) + v % M < M * (W / L / M) + M := by omega
        _ = M * (W / L / M + 1) := by ring
        _ ≤ M * 2 ^ c := Nat.mul_le_mul_left _ h6
    calc L * (M * (W / L / M) + v % M) + W % L < L * (M * (W / L / M) + v % M) + L := by omega
      _ = L * (M * (W / L / M) + v % M + 1) := by ring
      _ ≤ L * (M * 2 ^ c) := Nat.mul_le_mul_left _ a1
  rw [e3, Nat.mod_eq_of_lt e4, Nat.mul_add_div h1, Nat.div_eq_of_lt hr, Nat.add_zero, Nat.mul_add_mod, Nat.mod_eq_of_lt hv]

/-- A field read back after it is written. -/
theorem State.get_put_self (s : State) (f : Fld) (v : Nat) (h : f.lo + f.width ≤ 32) : (s.put f v).get f = v % 2 ^ f.width := by
  simp [State.get, State.put, Fld.read_write, h]

/-- A write to a register leaves the fields of every other register alone. -/
@[simp] theorem State.get_put_other (s : State) (f g : Fld) (v : Nat) (h : f.addr ≠ g.addr) : (s.put f v).get g = s.get g := by
  simp [State.get, State.put, h]

/-- A general register reads 0 where it is g0. -/
@[simp] theorem State.gx_zero (s : State) (t : Nat) : s.gx t 0 = 0 := by simp [State.gx]

/-- A general register after a write to one: g0 discards it (R69). -/
theorem State.gx_setG (s : State) (t : Nat) (rd r : Reg) (v : DWord) :
    (s.setG t rd v).gx t r = if r = rd ∧ rd ≠ 0 then v else s.gx t r := by
  unfold State.setG
  by_cases h : rd = 0
  · rw [if_pos h, if_neg (fun e => e.2 h)]
  · rw [if_neg h]
    by_cases hr : r = rd
    · rw [if_pos ⟨hr, h⟩, hr]
      unfold State.gx
      rw [if_neg h, State.triad_onTriad_self, Sparse.get_set_self]
    · rw [if_neg (fun e => hr e.1)]
      unfold State.gx
      by_cases h0 : r = 0
      · rw [if_pos h0, if_pos h0]
      · have hn : rd.toNat ≠ r.toNat := fun e => hr (BitVec.eq_of_toNat_eq e.symm)
        rw [if_neg h0, if_neg h0, State.triad_onTriad_self, Sparse.get_set_other _ _ _ _ _ hn]

/-- The byte-wise read after a run of bytes is written. -/
theorem State.byte_setBytes (s : State) (a : Nat) (bs : List Byte) (x : Nat) :
    (s.setBytes a bs).byte x = if a ≤ x ∧ x < a + bs.length then bs.getD (x - a) 0 else s.byte x := by
  induction bs generalizing s a with
  | nil => simp [State.setBytes]
  | cons b bs ih =>
    simp only [State.setBytes, ih, List.length_cons]
    by_cases hx : x = a
    · subst hx
      have : ¬ (x + 1 ≤ x ∧ x < x + 1 + bs.length) := by omega
      rw [if_neg this]
      simp
    · by_cases h : a + 1 ≤ x ∧ x < a + 1 + bs.length
      · have h2 : a ≤ x ∧ x < a + (bs.length + 1) := by omega
        rw [if_pos h, if_pos h2]
        obtain ⟨k, hk⟩ : ∃ k, x - a = k + 1 := ⟨x - a - 1, by omega⟩
        have hk' : x - (a + 1) = k := by omega
        rw [hk, hk']; simp
      · have h2 : ¬ (a ≤ x ∧ x < a + (bs.length + 1)) := by omega
        rw [if_neg h, if_neg h2]
        exact State.byte_setByte_other s a x b (Ne.symm hx)

end Sys2Proof.Machine
end

