-- ==== Sys2Proof/Laws/Ops.lean ====
section
/-! SUPPORT. Laws/Ops.lean: what each shared operation can do, said once: the end of a command, an event, a register access, the frame of an
instruction. -/
namespace Sys2Proof.Machine
open Sys2Proof.Safety

@[simp] theorem done_eq (s : State) : done s = .next s.drivePins := rfl

theorem occurs_true (s t : State) : occurs true s t = .next t.drivePins := rfl
theorem occurs_false (s t : State) : occurs false s t = .next s.drivePins := rfl

theorem occurs_of (c : Bool) (s t : State) (h : c = true) : occurs c s t = .next t.drivePins := by subst h; rfl

/-- An event answers the state of its effect, or the state it found. -/
theorem occurs_goes (c : Bool) (s t : State) : ∃ u : State, occurs c s t = .next u.drivePins := by
  cases c
  · exact ⟨s, rfl⟩
  · exact ⟨t, rfl⟩

theorem access_goes (s t : State) : ∃ u : State, access s t = .next u.drivePins := occurs_goes _ s t

theorem access_of (s t : State) (h : s.live = true) : access s t = .next t.drivePins := occurs_of _ s t h

/-- The pins are not among what they are computed from. -/
@[simp] theorem State.pinsOf_pins (s : State) (p : Pins) : ({ s with pins := p } : State).pinsOf = s.pinsOf := rfl

@[simp] theorem State.pinsOf_drivePins (s : State) : s.drivePins.pinsOf = s.pinsOf := rfl

/-- After the end of every command the pins follow the state. -/
theorem driven_drivePins (s : State) : Driven s.drivePins := rfl

@[simp] theorem State.triad_drivePins (s : State) (t : Nat) : s.drivePins.triad t = s.triad t := rfl
@[simp] theorem State.gx_drivePins (s : State) (t : Nat) (r : Reg) : s.drivePins.gx t r = s.gx t r := rfl
@[simp] theorem State.byte_drivePins (s : State) (a : Nat) : s.drivePins.byte a = s.byte a := rfl
@[simp] theorem State.reg_drivePins (s : State) (a : Nat) : s.drivePins.reg a = s.reg a := rfl
@[simp] theorem State.get_drivePins (s : State) (f : Fld) : s.drivePins.get f = s.get f := rfl

@[simp] theorem State.byte_setTriad (s : State) (t a : Nat) (x : Triad) : (s.setTriad t x).byte a = s.byte a := rfl
@[simp] theorem State.byte_onTriad (s : State) (t a : Nat) (f : Triad → Triad) : (s.onTriad t f).byte a = s.byte a := rfl
@[simp] theorem State.byte_setPc (s : State) (t a : Nat) (v : DWord) : (s.setPc t v).byte a = s.byte a := rfl

/-- A triad without an upset core leaves the voter nothing to see. -/
theorem State.vote_sound (s : State) (t : Nat) (h : (s.triad t).upset = []) : s.vote t = s := by
  simp [State.vote, h]

/-- A triad that no debug step drives is not halted after its instruction. -/
theorem State.endStep_free (s : State) (t : Nat) (h : (s.triad t).stepping = false) : s.endStep t = s := by
  simp [State.endStep, h]

theorem woken_triad (s : State) (t : Nat) : (woken s t).triad t = { s.triad t with run := .running } := by
  simp [woken]

theorem woken_other (s : State) (t r : Nat) (h : r ≠ t) : (woken s t).triad r = s.triad r := by
  simp [woken, h.symm]

theorem issue_triad (s : State) (t : Nat) :
    (issue s t).triad t = { s.triad t with run := .running, pc := (s.triad t).pc + 4 } := by
  simp [issue, State.setPc, woken_triad]

theorem issue_other (s : State) (t r : Nat) (h : r ≠ t) : (issue s t).triad r = s.triad r := by
  simp [issue, State.setPc, h.symm, woken_other s t r h]

@[simp] theorem issue_byte (s : State) (t a : Nat) : (issue s t).byte a = s.byte a := rfl
@[simp] theorem issue_gx (s : State) (t : Nat) (r : Reg) : (issue s t).gx t r = s.gx t r := by
  simp [State.gx, issue_triad]

/-- What an instruction of a ready triad comes to: its body on the state with the PC past it. -/
theorem instr_ready (s : State) (t : TriadId) (body : State → DWord → Res) (h : Ready s t) :
    instr t body s = (match body (issue s t) (s.triad t).pc with
      | .ok u => .next (((u.retire t).endStep t).drivePins)
      | .error (e, u) => .next ((((u.setPc t (s.triad t).pc).raiseSync t e).endStep t).drivePins)) := by
  have hw : (woken s t).vote t = woken s t := State.vote_sound _ _ (by rw [woken_triad]; exact h.sound)
  have hr : (woken s t).runs t = true := by simp [State.runs, woken_triad]
  have h1 : s.onTriad t (fun x => { x with run := .running }) = woken s t := rfl
  have hpc : ((woken s t).triad t).pc = (s.triad t).pc := by rw [woken_triad]
  simp only [instr, h.runs, h.halt, h1, hw, hr, h.fetched, hpc, Bool.not_true, Bool.false_eq_true, if_false, done_eq]
  rfl

/-- Every instruction goes on, whatever its triad does. -/
theorem instr_goes (t : TriadId) (body : State → DWord → Res) (s : State) : ∃ u : State, instr t body s = .next u.drivePins := by
  unfold instr
  dsimp only
  split_ifs
  · exact ⟨_, rfl⟩
  · exact ⟨_, rfl⟩
  · exact ⟨_, rfl⟩
  · split
    · exact ⟨_, rfl⟩
    · split
      · exact ⟨_, rfl⟩
      · exact ⟨_, rfl⟩

/-- An instruction of a ready triad whose body succeeds. -/
theorem instr_ok (s u : State) (t : TriadId) (body : State → DWord → Res) (h : Ready s t)
    (hb : body (issue s t) (s.triad t).pc = .ok u) : instr t body s = .next (((u.retire t).endStep t).drivePins) := by
  rw [instr_ready s t body h, hb]

/-- An instruction of a ready triad whose body raises an exception. -/
theorem instr_error (s u : State) (t : TriadId) (e : Exc) (body : State → DWord → Res) (h : Ready s t)
    (hb : body (issue s t) (s.triad t).pc = .error (e, u)) :
    instr t body s = .next ((((u.setPc t (s.triad t).pc).raiseSync t e).endStep t).drivePins) := by
  rw [instr_ready s t body h, hb]

/-- An instruction that writes one general register, on a ready triad. -/
theorem instrG_wrote (s : State) (t : TriadId) (rd : Reg) (f : State → DWord → DWord) (h : Ready s t) :
    ∃ u, instrG t rd f s = .next u ∧ WroteG s u t rd (f (issue s t) (s.triad t).pc) := by
  have hs : ((issue s t).triad t).stepping = false := by rw [issue_triad]; exact h.free
  have hrun : ((issue s t).triad t).run = .running := by rw [issue_triad]
  refine ⟨_, instr_ok s _ t _ h rfl, ?_⟩
  set v := f (issue s t) (s.triad t).pc
  have hg : ∀ r, ((issue s t).setG t rd v).gx t r = if r = rd ∧ rd ≠ 0 then v else s.gx t r := by
    intro r; rw [State.gx_setG, issue_gx]
  have ht : ((issue s t).setG t rd v).triad t =
      { (issue s t).triad t with g := (((issue s t).setG t rd v).triad t).g } := by
    unfold State.setG; split_ifs <;> simp
  have ho : ∀ r, r ≠ t.val → ((issue s t).setG t rd v).triad r = s.triad r := by
    intro r hr
    unfold State.setG
    split_ifs
    · exact issue_other s t r hr
    · rw [State.triad_onTriad_other _ _ _ _ hr.symm, issue_other s t r hr]
  have hx : (issue s t).setG t rd v = { s with triads := ((issue s t).setG t rd v).triads } := by
    unfold State.setG; split_ifs <;> rfl
  have hby : ∀ a, ((issue s t).setG t rd v).byte a = s.byte a := by
    intro a; rw [hx]; rfl
  generalize hq : (issue s t).setG t rd v = q at *
  have e1 : (q.triad t).run ≠ .held := by rw [ht, hrun]; simp
  have e2 : ((q.retire t).triad t) = { q.triad t with instret := (q.triad t).instret + 1 } := by
    simp [State.retire, e1]
  have e3 : ((q.retire t).triad t).stepping = false := by rw [e2, ht, hs]
  rw [State.endStep_free _ _ e3]
  refine ⟨⟨?_, ?_, ?_⟩, ?_, ?_⟩
  · rw [hx]; rfl
  · intro a; exact hby a
  · intro r hr
    simp only [State.triad_drivePins, State.retire]
    rw [State.triad_onTriad_other _ _ _ _ hr.symm, ho r hr]
  · simp only [State.triad_drivePins, e2]
    rw [ht, issue_triad]
  · intro r
    rw [← hg r, State.gx_drivePins]
    unfold State.gx
    rw [e2]

/-- A computation from x and y, on a ready triad. -/
theorem aluR_wrote (s : State) (t : TriadId) (rd rs1 rs2 : Reg) (f : DWord → DWord → DWord) (h : Ready s t) :
    ∃ u, aluR t rd rs1 rs2 f s = .next u ∧ WroteG s u t rd (f (s.gx t rs1) (s.gx t rs2)) := by
  obtain ⟨u, h1, h2⟩ := instrG_wrote s t rd (fun s _ => f (s.gx t rs1) (s.gx t rs2)) h
  exact ⟨u, h1, by simpa only [issue_gx] using h2⟩

/-- A computation from x alone, on a ready triad. -/
theorem alu1_wrote (s : State) (t : TriadId) (rd rs1 : Reg) (f : DWord → DWord) (h : Ready s t) :
    ∃ u, alu1 t rd rs1 f s = .next u ∧ WroteG s u t rd (f (s.gx t rs1)) := by
  obtain ⟨u, h1, h2⟩ := instrG_wrote s t rd (fun s _ => f (s.gx t rs1)) h
  exact ⟨u, h1, by simpa only [issue_gx] using h2⟩

end Sys2Proof.Machine
end

