-- ==== Sys2Proof/Laws/Access.lean ====
section
/-! SUPPORT. Laws/Access.lean: what a load, a store and an atomic of plain memory do, said once: the checks pass, the bytes read, the bytes written,
every other byte as it was. -/
namespace Sys2Proof.Machine
open Sys2Proof.Safety

theorem place_home (s : State) (u : Issuer) (a : Nat) (h : 1 ≤ u.unit → u.unit ≤ 18 → s.roadTo u.lane = none) : s.place u a = a := by
  unfold State.place
  split_ifs with h1
  · simp [State.redirect, h h1.1 h1.2]
  · rfl
theorem readCheck_good (s : State) (w : Nat) (r : Raise) (h1 : s.errOf w = .good) (h2 : s.injectAt w = false) : s.readCheck w r = (s, true) := by
  simp [State.readCheck, h1, h2]
theorem readWord_good (s : State) (w : Nat) (r : Raise) (h1 : s.errOf w = .good) (h2 : s.injectAt w = false) :
    s.readWord r w = (s, some (s.bytes (8 * w) 8)) := by
  simp [State.readWord, readCheck_good s w r h1 h2]
theorem issuerWord_good (s : State) (u : Issuer) (w : Nat) (r : Raise) (hr : 1 ≤ u.unit → u.unit ≤ 18 → s.roadTo u.lane = none)
    (h1 : s.errOf w = .good) (h2 : s.injectAt w = false) : s.issuerWord u r w = (s, some (s.bytes (8 * w) 8)) := by
  unfold State.issuerWord
  split_ifs with hu
  · have hw : s.redirect u.lane (8 * w) / 8 = w := by simp [State.redirect, hr hu.1 hu.2]
    simp [State.roadWord, hw, readWord_good s w r h1 h2]
  · exact readWord_good s w r h1 h2
/-- Words that are there and good are read without a trace. -/
theorem readEach_good (s : State) (u : Issuer) (r : Raise) (ws : List Nat) (hr : 1 ≤ u.unit → u.unit ≤ 18 → s.roadTo u.lane = none)
    (h : ∀ w ∈ ws, s.busError (8 * w) false = false ∧ s.errOf w = .good ∧ s.injectAt w = false) :
    s.readEach u r ws = ⟨s, ws.flatMap fun w => s.bytes (8 * w) 8, none⟩ := by
  induction ws with
  | nil => rfl
  | cons w ws ih =>
    obtain ⟨e0, e1, e2⟩ := h w (by simp)
    simp only [State.readEach, place_home s u _ hr, e0, issuerWord_good s u w r hr e1 e2, Bool.false_eq_true, if_false,
      ih fun x hx => h x (by simp [hx]), List.flatMap_cons]
theorem bytes_add (s : State) (a m n : Nat) : s.bytes a (m + n) = s.bytes a m ++ s.bytes (a + m) n := by
  simp only [State.bytes, List.range_add, List.map_append, List.map_map]
  congr 1
  apply List.map_congr_left
  intro i _
  simp [Nat.add_assoc]
theorem bytes_words (s : State) (b m : Nat) : ((List.range m).map (b + ·)).flatMap (fun w => s.bytes (8 * w) 8) = s.bytes (8 * b) (8 * m) := by
  induction m with
  | zero => rfl
  | succ m ih =>
    rw [List.range_succ, List.map_append, List.flatMap_append, ih, Nat.mul_succ, bytes_add]
    simp [Nat.mul_add]
/-- The bytes of an access out of those of its words. -/
theorem bytes_wordsOf (s : State) (a n : Nat) (hn : 0 < n) :
    (((wordsOf a n).flatMap fun w => s.bytes (8 * w) 8).drop (a % 8)).take n = s.bytes a n := by
  unfold wordsOf
  rw [bytes_words]
  have e : 8 * ((a + n - 1) / 8 - a / 8 + 1) = a % 8 + (n + (8 * ((a + n - 1) / 8 - a / 8 + 1) - a % 8 - n)) := by omega
  have e2 : 8 * (a / 8) + a % 8 = a := by omega
  rw [e, bytes_add, e2, bytes_add]
  have h1 : (s.bytes (8 * (a / 8)) (a % 8)).length = a % 8 := by simp [State.bytes]
  have h2 : (s.bytes a n).length = n := by simp [State.bytes]
  rw [List.drop_append_of_le_length (by omega), List.drop_eq_nil_of_le (by omega), List.nil_append,
    List.take_append_of_le_length (by omega), List.take_of_length_le (by omega)]
theorem wordsOf_there {s : State} {a n : Nat} {w : Bool} (hn : 0 < n) (h : ∀ x, a / 8 * 8 ≤ x → x < a + n → s.busError x w = false) :
    ∀ v ∈ wordsOf a n, s.busError (8 * v) w = false := by
  intro v hv
  simp only [wordsOf, List.mem_map, List.mem_range] at hv
  obtain ⟨i, hi, rfl⟩ := hv
  exact h _ (by omega) (by omega)
theorem refused_ok (s : State) (u : Issuer) (kind : Nat) (st vec : Bool) : s.refused u kind st vec .ok = none := rfl
theorem loadBytes_plain (s : State) (u : Issuer) (a n : Nat) (k : AccKind) (kind : Nat) (vec : Bool) (hn : 0 < n)
    (h : PlainAccess s u a n k false) : s.loadBytes u a n k kind vec = .ok (s, s.bytes a n) := by
  simp only [State.loadBytes, h.allowed, refused_ok,
    readEach_good s u _ _ h.home fun w hw => ⟨wordsOf_there hn h.there w hw, h.good w hw⟩, bytes_wordsOf s a n hn]
theorem plain_issue {s : State} {t : TriadId} {u : Issuer} {a n k w} (h : PlainAccess s u a n k w) : PlainAccess (issue s t) u a n k w :=
  ⟨h.normal, h.allowed, h.there, h.good, h.home⟩
theorem triadIssuer_issue (s : State) (t : TriadId) : (issue s t).triadIssuer t = s.triadIssuer t := by
  simp [State.triadIssuer, issue_triad, Triad.level]
theorem eaddr_issue (s : State) (t : TriadId) (r i) : (issue s t).eaddr t r i = s.eaddr t r i := by
  simp [State.eaddr]
theorem loadInstr_wrote (s : State) (n : Nat) (f : Nat → DWord) (t : TriadId) (rd rs1 : Reg) (imm : Imm16) (h : Ready s t) (hn : 0 < n)
   (hp : PlainAccess s (s.triadIssuer t) (s.eaddr t rs1 imm) n .load false) :
   ∃ u, loadInstr n f t rd rs1 imm s = .next u ∧ WroteG s u t rd (f (s.le (s.eaddr t rs1 imm) n)) := by
  obtain ⟨u, h1, h2⟩ := instrG_wrote s t rd (fun _ _ => f (s.le (s.eaddr t rs1 imm) n)) h
  refine ⟨u, ?_, h2⟩
  rw [← h1]
  unfold loadInstr instrG
  rw [instr_ready s t _ h, instr_ready s t _ h]
  have hq := plain_issue (t := t) hp
  simp only [State.scalarLoad, triadIssuer_issue, eaddr_issue, hp.normal, loadBytes_plain _ _ _ _ _ 2 false hn hq, Bool.false_eq_true, if_false]
  rfl

/-- Only memory and what is kept beside it differ. -/
def MemOnly (s s1 : State) : Prop := s1 = { s with mem := s1.mem, werr := s1.werr, sov := s1.sov, memu := s1.memu }
theorem MemOnly.refl (s : State) : MemOnly s s := rfl
theorem MemOnly.trans {s s1 s2 : State} (h : MemOnly s s1) (g : MemOnly s1 s2) : MemOnly s s2 := by
  unfold MemOnly at *; rw [g, h]
theorem setBytes_eq (s : State) (a : Nat) (bs : List Byte) : s.setBytes a bs = { s with mem := (s.setBytes a bs).mem } := by
  induction bs generalizing s a with
  | nil => rfl
  | cons b bs ih => simp only [State.setBytes]; rw [ih]; rfl
theorem joinNote_eq (s : State) (a : Nat) : s.joinNote a = { s with sov := (s.joinNote a).sov } := by
  unfold State.joinNote; split_ifs <;> rfl
theorem storeWord_good (s : State) (a : Nat) (bs : List Byte) (r : Raise) (h1 : s.errOf (a / 8) = .good) (h2 : s.injectAt (a / 8) = false) :
   ∃ s1, s.storeWord a bs r = (s1, true) ∧ MemOnly s s1 ∧
     (∀ x, s1.byte x = if a ≤ x ∧ x < a + bs.length then bs.getD (x - a) 0 else s.byte x) ∧
     ∀ w, s.errOf w = .good → s1.errOf w = .good := by
  refine ⟨((((s.joinNote a).setBytes a bs).setErr (a / 8) .good).onMemu fun m => { m with writeBack := m.writeBack.filter (· ≠ a / 8) }), ?_, ?_, ?_, ?_⟩
  · unfold State.storeWord
    simp [readCheck_good s (a/8) r h1 h2]
  · unfold MemOnly
    rw [setBytes_eq, joinNote_eq]; rfl
  · intro x
    show ((s.joinNote a).setBytes a bs).byte x = _
    rw [State.byte_setBytes, joinNote_eq]; rfl
  · intro w hw
    show (((s.joinNote a).setBytes a bs).setErr (a / 8) .good).errOf w = _
    by_cases e : a / 8 = w
    · subst e; simp
    · rw [State.errOf_setErr_other _ _ _ _ e, setBytes_eq, joinNote_eq]; exact hw
theorem divert_home (s : State) (u : Issuer) (a : Nat) (h : s.roadTo u.lane = none) : s.divertGranule u.lane a = (s, true) := by
  simp [State.divertGranule, h]
theorem roadTo_memOnly {s s1 : State} (h : MemOnly s s1) (p : Nat) : s1.roadTo p = s.roadTo p := by rw [h]; rfl
theorem injectAt_memOnly {s s1 : State} (h : MemOnly s s1) (p : Nat) : s1.injectAt p = s.injectAt p := by rw [h]; rfl
theorem busError_memOnly {s s1 : State} (h : MemOnly s s1) (x : Nat) (w : Bool) : s1.busError x w = s.busError x w := by rw [h]; rfl
theorem putWords_plain (u : Issuer) (r : Raise) (fuel : Nat) : ∀ (s : State) (a : Nat) (bs : List Byte), bs.length < fuel →
    (1 ≤ u.unit → u.unit ≤ 18 → s.roadTo u.lane = none) →
    (∀ x, a ≤ x → x < a + bs.length → s.busError x true = false) →
    (∀ x, a ≤ x → x < a + bs.length → s.errOf (x / 8) = .good ∧ s.injectAt (x / 8) = false) →
    ∃ s1, s.putWords u r fuel a bs = (s1, none) ∧ MemOnly s s1 ∧
      (∀ x, s1.byte x = if a ≤ x ∧ x < a + bs.length then bs.getD (x - a) 0 else s.byte x) ∧
      ∀ w, s.errOf w = .good → s1.errOf w = .good := by
  induction fuel with
  | zero => intro s a bs h; omega
  | succ fuel ih =>
    intro s a bs hl hr hz hg
    unfold State.putWords
    by_cases hb : bs.isEmpty
    · simp only [hb, if_true]
      have : bs = [] := by simpa using hb
      subst this
      exact ⟨s, rfl, rfl, fun x => by simp, fun w h => h⟩
    · have hlen : 0 < bs.length := by cases bs <;> simp_all
      obtain ⟨g1, g2⟩ := hg a (by omega) (by omega)
      obtain ⟨s1, e1, m1, b1, w1⟩ := storeWord_good s a (bs.take (8 - a % 8)) r g1 g2
      have hd : (if 1 ≤ u.unit ∧ u.unit ≤ 18 then s.divertGranule u.lane a else (s, true)) = (s, true) := by
        split_ifs with hu
        · exact divert_home s u a (hr hu.1 hu.2)
        · rfl
      simp only [hb, hd, hz a (by omega) (by omega), Bool.false_eq_true, if_false, Bool.not_true, place_home s u a hr, e1, if_true]
      obtain ⟨s2, e2, m2, b2, w2⟩ := ih s1 (a + (8 - a % 8)) (bs.drop (8 - a % 8)) (by simp; omega)
        (fun x y => by rw [roadTo_memOnly m1]; exact hr x y)
        (fun x h1 h2 => by
          simp at h2
          rw [busError_memOnly m1]; exact hz x (by omega) (by omega))
        (fun x h1 h2 => by
          simp at h2
          obtain ⟨q1, q2⟩ := hg x (by omega) (by omega)
          exact ⟨w1 _ q1, by rw [injectAt_memOnly m1]; exact q2⟩)
      refine ⟨s2, e2, m1.trans m2, ?_, fun w h => w2 w (w1 w h)⟩
      intro x
      rw [b2, b1]
      simp only [List.length_drop, List.length_take, List.getD_eq_getElem?_getD, List.getElem?_drop, List.getElem?_take]
      by_cases c1 : a + (8 - a % 8) ≤ x ∧ x < a + (8 - a % 8) + (bs.length - (8 - a % 8))
      · have c2 : a ≤ x ∧ x < a + bs.length := by omega
        simp only [c1, c2, and_self, if_true]
        congr 2; omega
      · by_cases c2 : a ≤ x ∧ x < a + min (8 - a % 8) bs.length
        · have c3 : a ≤ x ∧ x < a + bs.length := by omega
          have c4 : x - a < 8 - a % 8 := by omega
          simp only [c1, c2, c3, c4, and_self, if_true, if_false]
        · have c3 : ¬ (a ≤ x ∧ x < a + bs.length) := by omega
          simp only [c1, c2, c3, if_false]
theorem good_bytes {s : State} {a n : Nat} (h : ∀ w ∈ wordsOf a n, s.errOf w = .good ∧ s.injectAt w = false) (x : Nat) (h1 : a ≤ x) (h2 : x < a + n) :
   s.errOf (x / 8) = .good ∧ s.injectAt (x / 8) = false := by
  apply h
  simp only [wordsOf, List.mem_map, List.mem_range]
  exact ⟨x / 8 - a / 8, by omega, by omega⟩
theorem storeAt_plain (s : State) (u : Issuer) (a : Nat) (bs : List Byte) (k : AccKind) (kind : Nat) (vec : Bool) (_hn : 0 < bs.length)
    (h : PlainAccess s u a bs.length k true) : ∃ s1, s.storeAt u a bs k kind vec = .ok s1 ∧ MemOnly s s1 ∧
      (∀ x, s1.byte x = if a ≤ x ∧ x < a + bs.length then bs.getD (x - a) 0 else s.byte x) ∧
      ∀ w ∈ wordsOf a bs.length, s1.errOf w = .good := by
  obtain ⟨s1, e, m, b, w⟩ := putWords_plain u (raiseOf u kind) (bs.length + 1) s a bs (by omega) h.home
    (fun x h1 h2 => h.there x (by omega) h2) (fun x => good_bytes h.good x)
  refine ⟨s1, ?_, m, b, fun v hv => w v (h.good v hv).1⟩
  simp only [State.storeAt, h.allowed, refused_ok, e]
/-- The end of a body that succeeds and leaves its triad running. -/
theorem finish_triad (m : State) (t : TriadId) (h1 : (m.triad t).stepping = false) (h2 : (m.triad t).run ≠ .held) :
    (finish m t) = (m.onTriad t fun x => { x with instret := x.instret + 1 }).drivePins := by
  have e : m.retire t = m.onTriad t fun x => { x with instret := x.instret + 1 } := by
    simp [State.retire, State.onTriad, h2]
  have e2 : ((m.retire t).triad t).stepping = false := by rw [e]; simpa using h1
  unfold finish
  rw [State.endStep_free _ _ e2, e]
theorem triad_memOnly {s s1 : State} (h : MemOnly s s1) (p : Nat) : s1.triad p = s.triad p := by rw [h]; rfl
theorem le_eq (s1 : State) (a : Nat) (bs : List Byte) (h : ∀ x, a ≤ x → x < a + bs.length → s1.byte x = bs.getD (x - a) 0) : s1.bytes a bs.length = bs := by
  apply List.ext_getElem
  · simp [State.bytes]
  · intro i h1 h2
    simp only [State.bytes, List.getElem_map, List.getElem_range]
    rw [h _ (by omega) (by omega)]
    simp [h2]
theorem leVal_leBytes (n v : Nat) : leVal (leBytes n v) = v % 2 ^ (8 * n) := by
  have key : ∀ n v, leBytes (n+1) v = BitVec.ofNat 8 v :: leBytes n (v / 256) := by
    intro n v
    simp only [leBytes, List.range_succ_eq_map, List.map_cons, List.map_map, pow_zero, Nat.div_one, List.cons.injEq, true_and]
    apply List.map_congr_left
    intro i _
    simp only [Function.comp, pow_succ', Nat.div_div_eq_div_mul]
  induction n generalizing v with
  | zero => simp [leBytes, leVal, Nat.mod_one]
  | succ n ih =>
    rw [key]; simp only [leVal, ih, BitVec.toNat_ofNat]
    have : 2 ^ (8 * (n + 1)) = 256 * 2 ^ (8 * n) := by rw [Nat.mul_add, pow_add]; ring
    rw [this, Nat.mod_mul]
@[simp] theorem length_leBytes (n v : Nat) : (leBytes n v).length = n := by simp [leBytes]
theorem storeInstr_wrote (s : State) (n : Nat) (t : TriadId) (rs2 rs1 : Reg) (imm : Imm16) (h : Ready s t) (hn : 0 < n)
   (hp : PlainAccess s (s.triadIssuer t) (s.eaddr t rs1 imm) n .store true) :
   ∃ u, storeInstr n t rs2 rs1 imm s = .next u ∧ u.le (s.eaddr t rs1 imm) n = (s.gx t rs2).toNat % 2 ^ (8 * n) ∧
        StoredAt s u t (s.eaddr t rs1 imm) n ∧
        u.triad t = { s.triad t with pc := (s.triad t).pc + 4, instret := (s.triad t).instret + 1, run := .running } := by
  have hq := plain_issue (t := t) hp
  have hl : (leBytes n (s.gx t rs2).toNat).length = n := by simp
  obtain ⟨s1, e, m, b, w⟩ := storeAt_plain (issue s t) (s.triadIssuer t) (s.eaddr t rs1 imm) (leBytes n (s.gx t rs2).toNat) .store 3 false (by omega) (by rw [hl]; exact hq)
  rw [hl] at b w
  have ht : s1.triad t = { s.triad t with run := .running, pc := (s.triad t).pc + 4 } := by rw [triad_memOnly m, issue_triad]
  have hf := finish_triad s1 t (by rw [ht]; exact h.free) (by rw [ht]; simp)
  refine ⟨finish s1 t, ?_, ?_, ?_, ?_⟩
  · unfold storeInstr
    rw [instr_ok s s1 t _ h]
    · rfl
    · simp only [State.scalarStore, triadIssuer_issue, eaddr_issue, issue_gx, hl, hp.normal, Bool.false_eq_true, if_false, e]
  · rw [hf, ← leVal_leBytes]
    show s1.le _ _ = _
    unfold State.le
    congr 1
    have := le_eq s1 (s.eaddr t rs1 imm) (leBytes n (s.gx t rs2).toNat) (fun x h1 h2 => by rw [hl] at h2; rw [b]; simp [h1, h2])
    rw [hl] at this; exact this
  · rw [hf]
    refine ⟨?_, ?_, ?_, ?_⟩
    · intro x hx; show s1.byte x = _; rw [b]; rw [if_neg (by omega)]; rfl
    · intro v hv; exact w v hv
    · intro r hr; simp [hr.symm, triad_memOnly m, issue_other s t r hr]
    · rw [m]; exact ⟨rfl, rfl, rfl, rfl, rfl⟩
  · rw [hf]; simp [ht]

/-- A triad after the entry of exception `e`, not RETURN_ELEVATION (R110). -/
def entry (x : Triad) (e : Exc) (target : Nat) (pc : DWord) : Triad :=
  { x with
    epc := pc, eps := x.status, eval := e.val
    ecause := BitVec.ofNat 64 (e.prio * 2 ^ 16 + (if e.vec then 2 ^ 12 else 0) + x.level * 2 ^ 8 + e.code)
    status := BitVec.ofNat 64 (x.status.toNat / 2 ^ 8 % 2 ^ 4 * 2 ^ 8 + 2 ^ 3 + target)
    pc := BitVec.ofNat 64 (x.evbase.toNat / 2 ^ 12 * 2 ^ 12 + vectorOffset target e.code) }
theorem enterException_open (m : State) (t : Nat) (e : Exc) (l : Nat) (pc : DWord) (he : (m.triad t).exl = false) (hc : e.code ≠ 0x15) :
    m.enterException t e l pc = m.onTriad t fun x => entry x e l pc := by
  simp only [State.enterException, he, hc, Bool.and_false, Bool.false_eq_true, if_false]
  simp only [State.onTriad, entry]
/-- On an open triad a synchronous exception is entered; beside the triad only the engine's lane record changes. -/
theorem raiseSync_open (m : State) (t : Nat) (e : Exc) (he : (m.triad t).exl = false) (h : t = 0 ∨ (m.triad t).level = 0) (hc : e.code ≠ 0x15) :
    ∃ g, m.raiseSync t e = { m.setTriad t (entry (m.triad t) e (syncTarget e.code (m.triad t).level) (m.triad t).pc) with eng := g } := by
  have he' := enterException_open m t e (syncTarget e.code (m.triad t).level) (m.triad t).pc he hc
  have hs : m.setTriad t (entry (m.triad t) e (syncTarget e.code (m.triad t).level) (m.triad t).pc) = m.onTriad t fun x => entry x e (syncTarget e.code (m.triad t).level) (m.triad t).pc := rfl
  unfold State.raiseSync
  simp only [he', he, hc, if_false, hs]
  split_ifs with h0 h1 h2 h3 h4 h5 h6
  · exact ⟨_, rfl⟩
  all_goals try (exact ⟨_, rfl⟩)
  all_goals first
    | (unfold State.noteFailure; split <;> exact ⟨_, rfl⟩)
    | (exfalso; rcases h with h | h <;> simp_all)
@[simp] theorem State.triad_eng (s : State) (g : Engine) (t : Nat) : ({ s with eng := g } : State).triad t = s.triad t := rfl
/-- An instruction that traps on an open, ready triad. -/
theorem instr_stopped (s m : State) (t : TriadId) (e : Exc) (body : State → DWord → Res) (h : Ready s t) (ho : Open s t)
    (hb : body (issue s t) (s.triad t).pc = .error (e, m)) (hc : e.code ≠ 0x15) (hv : e.vec = false) (hp : e.prio = 0)
    (hm : m.triad t = (issue s t).triad t) (hy : ∀ a, m.byte a = s.byte a) :
    ∃ u, instr t body s = .next u ∧ Stopped s u t e.code e.val := by
  refine ⟨_, instr_error s m t e body h hb, ?_⟩
  have hx : (m.setPc t (s.triad t).pc).triad t = { s.triad t with run := .running } := by
    simp [State.setPc, hm, issue_triad]
  obtain ⟨g, hg⟩ := raiseSync_open (m.setPc t (s.triad t).pc) t e (by rw [hx]; exact ho.1) (by rw [hx]; exact ho.2) hc
  have hu : ((m.setPc t (s.triad t).pc).raiseSync t e).triad t =
      entry { s.triad t with run := .running } e (syncTarget e.code (s.triad t).level) (s.triad t).pc := by
    rw [hg, State.triad_eng, State.triad_setTriad_self, hx]; rfl
  rw [State.endStep_free _ _ (by rw [hu]; exact h.free)]
  have hby : ∀ a, ((m.setPc t (s.triad t).pc).raiseSync t e).byte a = s.byte a := by
    intro a; rw [hg]; exact hy a
  refine ⟨⟨?_, ?_, ?_, ?_, ?_, ?_, ?_, ?_, hby⟩, ?_⟩
  all_goals simp only [State.triad_drivePins, stackOf, State.gx, hu]
  all_goals first | (simp [entry, hv, hp, Triad.level]; done) | rfl
theorem check_issue (s : State) (t : TriadId) (u a n k) : (issue s t).check u a n k = s.check u a n k := rfl
theorem refuse_triad (s : State) (u : Issuer) (kind : Nat) (c : Check) (t : Nat) : (s.refuse u kind c).triad t = s.triad t := by
  unfold State.refuse State.refuseIn; cases c with
  | ok => rfl
  | own a => simp only [State.drive]; split <;> rfl
  | lock a => simp only [State.drive]; split <;> rfl
theorem refuse_byte (s : State) (u : Issuer) (kind : Nat) (c : Check) (a : Nat) : (s.refuse u kind c).byte a = s.byte a := by
  unfold State.refuse State.refuseIn; cases c with
  | ok => rfl
  | own a => simp only [State.drive]; split <;> rfl
  | lock a => simp only [State.drive]; split <;> rfl
theorem region_issue (s : State) (t : TriadId) (a) : (issue s t).region a = s.region a := rfl
theorem loadInstr_misaligned (s : State) (n : Nat) (f : Nat → DWord) (t : TriadId) (rd rs1 : Reg) (imm : Imm16) (h : Ready s t) (ho : Open s t)
   (ha : devRange (s.eaddr t rs1 imm) n = true) (hb : s.eaddr t rs1 imm % n ≠ 0) :
   ∃ u, loadInstr n f t rd rs1 imm s = .next u ∧ Stopped s u t 0x03 (BitVec.ofNat 64 (s.eaddr t rs1 imm)) := by
  refine instr_stopped s (issue s t) t ⟨3, BitVec.ofNat 64 (s.eaddr t rs1 imm), false, 0⟩ _ h ho ?_ (by simp) rfl rfl rfl (fun _ => rfl)
  simp only [State.scalarLoad, State.devFault, eaddr_issue, ha, hb, if_true, ne_eq, not_false_eq_true]
theorem loadInstr_refused (s : State) (n : Nat) (f : Nat → DWord) (t : TriadId) (rd rs1 : Reg) (imm : Imm16) (h : Ready s t) (ho : Open s t)
   (ha : devRange (s.eaddr t rs1 imm) n = false) (b : Nat) :
   (s.check (s.triadIssuer t) (s.eaddr t rs1 imm) n .load = .own b →
     ∃ u, loadInstr n f t rd rs1 imm s = .next u ∧ Stopped s u t 0x06 (BitVec.ofNat 64 b)) ∧
   (s.check (s.triadIssuer t) (s.eaddr t rs1 imm) n .load = .lock b →
     ∃ u, loadInstr n f t rd rs1 imm s = .next u ∧ Stopped s u t 0x0C (BitVec.ofNat 64 b)) := by
  constructor <;> intro hb
  · refine instr_stopped s ((issue s t).refuse (s.triadIssuer t) 2 (.own b)) t ⟨6, BitVec.ofNat 64 b, false, 0⟩ _ h ho ?_ (by simp) rfl rfl (refuse_triad _ _ _ _ _) (refuse_byte _ _ _ _)
    simp only [State.scalarLoad, State.loadBytes, eaddr_issue, triadIssuer_issue, check_issue, ha, hb, State.refused, Bool.false_eq_true, if_false]
  · refine instr_stopped s ((issue s t).refuse (s.triadIssuer t) 2 (.lock b)) t ⟨0xC, BitVec.ofNat 64 b, false, 0⟩ _ h ho ?_ (by simp) rfl rfl (refuse_triad _ _ _ _ _) (refuse_byte _ _ _ _)
    simp only [State.scalarLoad, State.loadBytes, eaddr_issue, triadIssuer_issue, check_issue, ha, hb, State.refused, Bool.false_eq_true, if_false]
theorem storeInstr_misaligned (s : State) (n : Nat) (t : TriadId) (rs2 rs1 : Reg) (imm : Imm16) (h : Ready s t) (ho : Open s t)
   (ha : devRange (s.eaddr t rs1 imm) n = true) (hb : s.eaddr t rs1 imm % n ≠ 0) :
   ∃ u, storeInstr n t rs2 rs1 imm s = .next u ∧ Stopped s u t 0x03 (BitVec.ofNat 64 (s.eaddr t rs1 imm)) := by
  refine instr_stopped s (issue s t) t ⟨3, BitVec.ofNat 64 (s.eaddr t rs1 imm), false, 0⟩ _ h ho ?_ (by simp) rfl rfl rfl (fun _ => rfl)
  simp only [State.scalarStore, State.devFault, eaddr_issue, length_leBytes, ha, hb, if_true, ne_eq, not_false_eq_true]
theorem storeInstr_refused (s : State) (n : Nat) (t : TriadId) (rs2 rs1 : Reg) (imm : Imm16) (h : Ready s t) (ho : Open s t)
   (ha : devRange (s.eaddr t rs1 imm) n = false) (b : Nat) :
   (s.check (s.triadIssuer t) (s.eaddr t rs1 imm) n .store = .own b →
     ∃ u, storeInstr n t rs2 rs1 imm s = .next u ∧ Stopped s u t 0x07 (BitVec.ofNat 64 b)) ∧
   (s.check (s.triadIssuer t) (s.eaddr t rs1 imm) n .store = .lock b →
     ∃ u, storeInstr n t rs2 rs1 imm s = .next u ∧ Stopped s u t 0x0C (BitVec.ofNat 64 b)) := by
  constructor <;> intro hb
  · refine instr_stopped s ((issue s t).refuse (s.triadIssuer t) 3 (.own b)) t ⟨7, BitVec.ofNat 64 b, false, 0⟩ _ h ho ?_ (by simp) rfl rfl (refuse_triad _ _ _ _ _) (refuse_byte _ _ _ _)
    simp only [State.scalarStore, State.storeAt, eaddr_issue, triadIssuer_issue, check_issue, length_leBytes, ha, hb, State.refused, Bool.false_eq_true, if_false, if_true]
  · refine instr_stopped s ((issue s t).refuse (s.triadIssuer t) 3 (.lock b)) t ⟨0xC, BitVec.ofNat 64 b, false, 0⟩ _ h ho ?_ (by simp) rfl rfl (refuse_triad _ _ _ _ _) (refuse_byte _ _ _ _)
    simp only [State.scalarStore, State.storeAt, eaddr_issue, triadIssuer_issue, check_issue, length_leBytes, ha, hb, State.refused, Bool.false_eq_true, if_false]
theorem atomicInstr_stops (s : State) (n : Nat) (f : Nat → Nat → Nat) (g : Nat → DWord) (t : TriadId) (rd rs1 rs2 : Reg) (h : Ready s t) (ho : Open s t) :
   ((s.gx t rs1).toNat % n ≠ 0 → ∃ u, atomicInstr n f g t rd rs1 rs2 s = .next u ∧ Stopped s u t 0x03 (s.gx t rs1)) ∧
   ((s.gx t rs1).toNat % n = 0 → bankOf (s.region (s.gx t rs1).toNat) (s.gx t rs1).toNat = none →
     ∃ u, atomicInstr n f g t rd rs1 rs2 s = .next u ∧ Stopped s u t 0x04 (s.gx t rs1)) := by
  have hx : BitVec.ofNat 64 (s.gx t rs1).toNat = s.gx t rs1 := by simp
  constructor
  · intro ha
    unfold atomicInstr
    have := instr_stopped s (issue s t) t ⟨3, BitVec.ofNat 64 (s.gx t rs1).toNat, false, 0⟩ (fun s _ => match s.atomic t (s.gx t rs1).toNat n (fun old => f old (s.gx t rs2).toNat) with
      | .error e => .error e
      | .ok (s1, old) => .ok (s1.setG t rd (g old))) h ho ?_ (by simp) rfl rfl rfl (fun _ => rfl)
    · rw [hx] at this; exact this
    simp only [State.atomic, State.atomicFault, issue_gx, ha, if_true, ne_eq, not_false_eq_true]
  · intro ha hb
    unfold atomicInstr
    have := instr_stopped s (issue s t) t ⟨4, BitVec.ofNat 64 (s.gx t rs1).toNat, false, 0⟩ (fun s _ => match s.atomic t (s.gx t rs1).toNat n (fun old => f old (s.gx t rs2).toNat) with
      | .error e => .error e
      | .ok (s1, old) => .ok (s1.setG t rd (g old))) h ho ?_ (by simp) rfl rfl rfl (fun _ => rfl)
    · rw [hx] at this; exact this
    simp [State.atomic, State.atomicFault, issue_gx, ha, region_issue, hb]

theorem onlyTriad_of (s m : State) (t : Nat) (h : m = { s with triads := m.triads }) (ho : ∀ r, r ≠ t → m.triad r = s.triad r) :
    OnlyTriad s m.drivePins t := by
  refine ⟨?_, ?_, ho⟩
  · obtain ⟨tr, rfl⟩ : ∃ tr, m = { s with triads := tr } := ⟨_, h⟩
    rfl
  · intro a; rw [State.byte_drivePins, h]; rfl
/-- A body that leaves only its triad changed, running. -/
theorem instr_only (s m : State) (t : TriadId) (body : State → DWord → Res) (h : Ready s t)
   (hb : body (issue s t) (s.triad t).pc = .ok m) (h1 : m = { s with triads := m.triads }) (h2 : ∀ r, r ≠ t.val → m.triad r = s.triad r)
   (h3 : (m.triad t).stepping = false) (h4 : (m.triad t).run ≠ .held) :
   ∃ u, instr t body s = .next u ∧ OnlyTriad s u t ∧ u.triad t = { m.triad t with instret := (m.triad t).instret + 1 } := by
  refine ⟨_, instr_ok s _ t body h hb, ?_⟩
  have e := finish_triad m t h3 h4
  unfold finish at e
  rw [e]
  refine ⟨onlyTriad_of s _ t ?_ ?_, ?_⟩
  · obtain ⟨tr, rfl⟩ : ∃ tr, m = { s with triads := tr } := ⟨_, h1⟩
    rfl
  · intro r hr; rw [State.triad_onTriad_other _ _ _ _ hr.symm, h2 r hr]
  · simp
theorem onTriad_only (s : State) (t : TriadId) (f : Triad → Triad) : (issue s t).onTriad t f = { s with triads := ((issue s t).onTriad t f).triads } := rfl
theorem instr_changed (s : State) (t : TriadId) (f : Triad → Triad) (body : State → DWord → Res) (h : Ready s t)
   (hb : body (issue s t) (s.triad t).pc = .ok ((issue s t).onTriad t f))
   (hf1 : ∀ x, (f x).stepping = x.stepping) (hf2 : ∀ x, (f x).run = x.run) (hf3 : ∀ x, (f x).instret = x.instret)
   (hf5 : f { s.triad t with run := .running, pc := (s.triad t).pc + 4 } = { f (s.triad t) with run := .running, pc := (s.triad t).pc + 4 }) :
   ∃ u, instr t body s = .next u ∧ Changed s u t f := by
  have hx : ((issue s t).onTriad t f).triad t = f { s.triad t with run := .running, pc := (s.triad t).pc + 4 } := by simp [issue_triad]
  obtain ⟨u, h1, h2, h3⟩ := instr_only s _ t body h hb (onTriad_only s t f)
    (fun r hr => by rw [State.triad_onTriad_other _ _ _ _ hr.symm, issue_other s t r hr]) (by rw [hx, hf1]; exact h.free) (by rw [hx, hf2]; simp)
  refine ⟨u, h1, h2, ?_⟩
  rw [h3, hx, hf5, hf3]
theorem instr_went (s : State) (t : TriadId) (pc : DWord) (body : State → DWord → Res) (h : Ready s t)
   (hb : body (issue s t) (s.triad t).pc = .ok ((issue s t).setPc t pc)) : ∃ u, instr t body s = .next u ∧ WentTo s u t pc := by
  have hx : ((issue s t).setPc t pc).triad t = { s.triad t with run := .running, pc := pc } := by simp [issue_triad, State.setPc]
  obtain ⟨u, h1, h2, h3⟩ := instr_only s _ t body h hb rfl
    (fun r hr => by rw [State.setPc, State.triad_onTriad_other _ _ _ _ hr.symm, issue_other s t r hr]) (by rw [hx]; exact h.free) (by rw [hx]; simp)
  refine ⟨u, h1, h2, ?_⟩
  rw [h3, hx]
theorem instr_moved (s : State) (t : TriadId) (body : State → DWord → Res) (h : Ready s t)
   (hb : body (issue s t) (s.triad t).pc = .ok (issue s t)) : ∃ u, instr t body s = .next u ∧ WentTo s u t ((s.triad t).pc + 4) := by
  have hx := issue_triad s t
  obtain ⟨u, h1, h2, h3⟩ := instr_only s _ t body h hb rfl
    (fun r hr => issue_other s t r hr) (by rw [hx]; exact h.free) (by rw [hx]; simp)
  refine ⟨u, h1, h2, ?_⟩
  rw [h3, hx]
theorem issue_level (s : State) (t : TriadId) : ((issue s t).triad t).level = (s.triad t).level := by rw [issue_triad]; rfl
end Sys2Proof.Machine
end

