-- ==== Sys2Proof/Laws/Effects.lean ====
section
/-! SUPPORT. Laws/Effects.lean: what the effects device commands are made of leave alone: a field written, a fault line driven, an event pulsed, a
host vector set, device time moved on. -/
namespace Sys2Proof.Machine

/-- A word with one field replaced: what lies below the field, the new value, what lies above. -/
theorem Fld.toNat_write (f : Fld) (w : Word) (v : Nat) (h : f.lo + f.width ≤ 32) :
    (f.write w v).toNat = 2 ^ f.lo * (2 ^ f.width * (w.toNat / 2 ^ f.lo / 2 ^ f.width) + v % 2 ^ f.width) + w.toNat % 2 ^ f.lo := by
  have hw : w.toNat < 2 ^ 32 := w.isLt
  obtain ⟨c, hc⟩ : ∃ c, 32 = f.lo + f.width + c := ⟨32 - (f.lo + f.width), by omega⟩
  have hp : 2 ^ 32 = 2 ^ f.lo * (2 ^ f.width * 2 ^ c) := by rw [hc, pow_add, pow_add, mul_assoc]
  have h1 : 0 < 2 ^ f.lo := by positivity
  have h2 : 0 < 2 ^ f.width := by positivity
  simp only [Fld.read, Fld.write, BitVec.toNat_ofNat]
  set W := w.toNat
  set L := 2 ^ f.lo
  set M := 2 ^ f.width
  have e1 : W = L * (W / L) + W % L := (Nat.div_add_mod W L).symm
  have e2 : W / L = M * (W / L / M) + W / L % M := (Nat.div_add_mod _ _).symm
  have hr : W % L < L := Nat.mod_lt _ h1
  have hv : v % M < M := Nat.mod_lt _ h2
  have e3 : W - W / L % M * L + v % M * L = L * (M * (W / L / M) + v % M) + W % L := by
    have : W = L * (M * (W / L / M)) + W / L % M * L + W % L := by
      conv_lhs => rw [e1, e2]
      ring
    have h5 : W - W / L % M * L = L * (M * (W / L / M)) + W % L := by omega
    rw [h5]; ring
  have h6 : W / L / M < 2 ^ c := by
    rw [Nat.div_div_eq_div_mul]
    apply Nat.div_lt_of_lt_mul
    calc W < 2 ^ 32 := hw
      _ = L * M * 2 ^ c := by rw [hp]; ring
  have e4 : L * (M * (W / L / M) + v % M) + W % L < 2 ^ 32 := by
    rw [hp]
    have a1 : M * (W / L / M) + v % M < M * 2 ^ c := by
      calc M * (W / L / M) + v % M < M * (W / L / M) + M := by omega
        _ = M * (W / L / M + 1) := by ring
        _ ≤ M * 2 ^ c := Nat.mul_le_mul_left _ h6
    calc L * (M * (W / L / M) + v % M) + W % L < L * (M * (W / L / M) + v % M) + L := by omega
      _ = L * (M * (W / L / M) + v % M + 1) := by ring
      _ ≤ L * (M * 2 ^ c) := Nat.mul_le_mul_left _ a1
  rw [e3, Nat.mod_eq_of_lt e4]
/-- A field that does not meet the one written reads as before. -/
theorem Fld.read_write_apart (f g : Fld) (w : Word) (v : Nat) (h : f.lo + f.width ≤ 32) (d : g.lo + g.width ≤ f.lo ∨ f.lo + f.width ≤ g.lo) :
    g.read (f.write w v) = g.read w := by
  unfold Fld.read
  rw [Fld.toNat_write f w v h]
  generalize w.toNat = W
  have e1 : W = 2 ^ f.lo * (W / 2 ^ f.lo) + W % 2 ^ f.lo := (Nat.div_add_mod W _).symm
  rcases d with d | d
  · obtain ⟨k, hk⟩ : ∃ k, f.lo = g.lo + g.width + k := ⟨f.lo - (g.lo + g.width), by omega⟩
    have key : ∀ x, (2 ^ f.lo * x + W % 2 ^ f.lo) / 2 ^ g.lo % 2 ^ g.width = W % 2 ^ f.lo / 2 ^ g.lo % 2 ^ g.width := by
      intro x
      have : 2 ^ f.lo * x = 2 ^ g.lo * (2 ^ g.width * (2 ^ k * x)) := by rw [hk, pow_add, pow_add]; ring
      rw [this, Nat.mul_add_div (by positivity), Nat.mul_add_mod]
    rw [key]
    conv_rhs => rw [e1]
    rw [key]
  · obtain ⟨k, hk⟩ : ∃ k, g.lo = f.lo + f.width + k := ⟨g.lo - (f.lo + f.width), by omega⟩
    have h1 : W % 2 ^ f.lo < 2 ^ f.lo := Nat.mod_lt _ (by positivity)
    have h2 : v % 2 ^ f.width < 2 ^ f.width := Nat.mod_lt _ (by positivity)
    have e2 : (2 ^ f.lo * (2 ^ f.width * (W / 2 ^ f.lo / 2 ^ f.width) + v % 2 ^ f.width) + W % 2 ^ f.lo) / 2 ^ g.lo = W / 2 ^ g.lo := by
      rw [hk, pow_add, pow_add, ← Nat.div_div_eq_div_mul, ← Nat.div_div_eq_div_mul, Nat.mul_add_div (by positivity), Nat.div_eq_of_lt h1, Nat.add_zero,
        Nat.mul_add_div (by positivity), Nat.div_eq_of_lt h2, Nat.add_zero, ← Nat.div_div_eq_div_mul, ← Nat.div_div_eq_div_mul]
    rw [e2]
theorem State.get_put_apart (s : State) (f g : Fld) (v : Nat) (h : f.lo + f.width ≤ 32) (d : g.lo + g.width ≤ f.lo ∨ f.lo + f.width ≤ g.lo) :
    (s.put f v).get g = s.get g := by
  by_cases e : f.addr = g.addr
  · simp [State.get, State.put, e, Fld.read_write_apart f g _ v h d]
  · exact State.get_put_other s f g v e
theorem State.get_put_eq (s : State) (f : Fld) (v : Nat) (h : f.lo + f.width ≤ 32) (hv : v < 2 ^ f.width) : (s.put f v).get f = v := by
  rw [State.get_put_self s f v h, Nat.mod_eq_of_lt hv]
theorem State.flag_put_self (s : State) (f : Fld) (v : Nat) (h : f.lo + f.width ≤ 32) : (s.put f v).flag f = (v % 2 ^ f.width != 0) := by
  simp [State.flag, State.get_put_self s f v h]
/-! ## Fault lines -/

theorem State.drive_fcu (s : State) (n : Nat) (r : Raise) : s.drive n r = { s with fcu := (s.drive n r).fcu } := by
  unfold State.drive; split <;> rfl
@[simp] theorem State.reg_drive (s : State) (n : Nat) (r : Raise) (a : Nat) : (s.drive n r).reg a = s.reg a := by rw [State.drive_fcu]; rfl
@[simp] theorem State.get_drive (s : State) (n : Nat) (r : Raise) (f : Fld) : (s.drive n r).get f = s.get f := by rw [State.drive_fcu]; rfl
@[simp] theorem State.flag_drive (s : State) (n : Nat) (r : Raise) (f : Fld) : (s.drive n r).flag f = s.flag f := by rw [State.drive_fcu]; rfl
@[simp] theorem State.byte_drive (s : State) (n : Nat) (r : Raise) (a : Nat) : (s.drive n r).byte a = s.byte a := by rw [State.drive_fcu]; rfl
@[simp] theorem State.triad_drive (s : State) (n : Nat) (r : Raise) (t : Nat) : (s.drive n r).triad t = s.triad t := by rw [State.drive_fcu]; rfl
@[simp] theorem State.eng_drive (s : State) (n : Nat) (r : Raise) : (s.drive n r).eng = s.eng := by rw [State.drive_fcu]
/-- A raise waits at its pair, after those that wait already. -/
theorem State.pair_drive (s : State) (n : Nat) (r : Raise) (h : (fcRow n).isSome = true) :
    (s.drive n r).pair n = { s.pair n with todo := (s.pair n).todo ++ [r] } := by
  unfold State.drive
  split
  · simp [State.setPair, State.pair]
  · rename_i e; rw [e] at h; cases h
theorem State.pair_drive_other (s : State) (n k : Nat) (r : Raise) (h : n ≠ k) : (s.drive n r).pair k = s.pair k := by
  unfold State.drive
  split
  · simp [State.setPair, State.pair, h]
  · rfl
/-! ## Event pulses and host vectors -/

theorem State.pulse_regs (s : State) (e : Nat) : s.pulse e = { s with regs := (s.pulse e).regs } := by
  unfold State.pulse; split <;> rfl
theorem State.reg_pulse_other (s : State) (e a : Nat) (h : EVR_PEND (e / 32) ≠ a) : (s.pulse e).reg a = s.reg a := by
  unfold State.pulse; split_ifs
  · rfl
  · simp [h]
/-- A pulse leaves its event pending. -/
theorem State.eventPending_pulse (s : State) (e : Nat) (h : eventReserved e = false) (h2 : e < 320) : (s.pulse e).eventPending e = true := by
  have h3 : ¬ 320 ≤ e := by omega
  unfold State.pulse State.eventPending
  simp only [h, h3, decide_false, Bool.or_false, Bool.false_eq_true, if_false, State.reg_setReg_self, BitVec.toNat_or, BitVec.toNat_ofNat, Nat.testBit_or]
  have : 2 ^ (e % 32) % 2 ^ 32 = 2 ^ (e % 32) := Nat.mod_eq_of_lt (Nat.pow_lt_pow_right (by omega) (by omega))
  rw [this]; simp
theorem State.irq_eq (s : State) (v : Nat) : s.irq v = { s with regs := (s.irq v).regs, host := (s.irq v).host } := by
  unfold State.irq; dsimp only; split_ifs <;> rfl
theorem State.reg_irq_other (s : State) (v a : Nat) (h : MBX_IRQ_PEND ≠ a) : (s.irq v).reg a = s.reg a := by
  unfold State.irq; dsimp only
  split_ifs
  · exact State.reg_setReg_other _ _ _ _ h
  · exact State.reg_setReg_other _ _ _ _ h
theorem State.get_pulse_other (s : State) (e : Nat) (f : Fld) (h : EVR_PEND (e / 32) ≠ f.addr) : (s.pulse e).get f = s.get f := by
  simp only [State.get, State.reg_pulse_other s e _ h]
theorem State.get_irq_other (s : State) (v : Nat) (f : Fld) (h : MBX_IRQ_PEND ≠ f.addr) : (s.irq v).get f = s.get f := by
  simp only [State.get, State.reg_irq_other s v _ h]
/-! ## Time -/

theorem State.pass_eq (s : State) (d : Nat) : s.pass d = { s with time := (s.pass d).time, up := (s.pass d).up, triads := (s.pass d).triads, clk := (s.pass d).clk } := by
  unfold State.pass; split <;> rfl
theorem State.time_until (s : State) (t : Nat) : (s.until t).time = max s.time t := by
  unfold State.until State.pass
  split_ifs with h
  · show s.time = _; omega
  · show s.time + (t - s.time) = _; omega
@[simp] theorem State.get_until (s : State) (t : Nat) (f : Fld) : (s.until t).get f = s.get f := by unfold State.until; rw [State.pass_eq]; rfl
@[simp] theorem State.reg_until (s : State) (t : Nat) (a : Nat) : (s.until t).reg a = s.reg a := by unfold State.until; rw [State.pass_eq]; rfl
@[simp] theorem State.flag_until (s : State) (t : Nat) (f : Fld) : (s.until t).flag f = s.flag f := by unfold State.until; rw [State.pass_eq]; rfl
@[simp] theorem State.byte_until (s : State) (t : Nat) (a : Nat) : (s.until t).byte a = s.byte a := by unfold State.until; rw [State.pass_eq]; rfl
theorem State.until_eq (s : State) (t : Nat) : s.until t = { s with time := (s.until t).time, up := (s.until t).up, triads := (s.until t).triads, clk := (s.until t).clk } := State.pass_eq _ _
end Sys2Proof.Machine
end

