-- ==== Sys2Proof/Laws/Memory.lean ====
section
/-! SUPPORT. Laws/Memory.lean: every operation on memory keeps its canonical form, and reset's memory has it. -/
namespace Sys2Proof.Machine

theorem wf_reset : Memory.wf State.reset.mem = true := rfl

theorem wf_setByte (s : State) (a : Nat) (v : Byte) (h : Memory.wf s.mem = true) : Memory.wf (s.setByte a v).mem = true :=
  Sparse.wf_set memDflt s.mem a v h

theorem wf_setBytes (bs : List Byte) : ∀ (s : State) (a : Nat), Memory.wf s.mem = true → Memory.wf (s.setBytes a bs).mem = true := by
  induction bs with
  | nil => exact fun s a h => h
  | cons b bs ih => exact fun s a h => ih _ _ (wf_setByte s a b h)

theorem Sparse.wf_filter {α : Type} [DecidableEq α] (d : Nat → α) (f : Nat × α → Bool) (m : Sparse α) (h : Sparse.wf d m = true) :
    Sparse.wf d (m.filter f) = true := by
  induction m with
  | nil => exact h
  | cons p m ih =>
    obtain ⟨j, v⟩ := p
    obtain ⟨h1, h2, h3⟩ := (Sparse.wf_cons d j v m).mp h
    rw [List.filter_cons]
    split_ifs
    · exact (Sparse.wf_cons d j v _).mpr ⟨h1, fun q hq => h2 q (List.mem_filter.mp hq).1, ih h3⟩
    · exact ih h3

theorem wf_fill (s : State) (a n : Nat) (h : Memory.wf s.mem = true) : Memory.wf (s.fill a n).mem = true :=
  Sparse.wf_filter memDflt _ s.mem h

@[simp] theorem State.mem_bump (s : State) (f : Fld) : (s.bump f).mem = s.mem := rfl
@[simp] theorem State.mem_drive (s : State) (n : Nat) (r : Raise) : (s.drive n r).mem = s.mem := by rw [State.drive_fcu]
@[simp] theorem State.mem_pulse (s : State) (e : Nat) : (s.pulse e).mem = s.mem := by rw [State.pulse_regs]
@[simp] theorem State.mem_injected (s : State) : s.injected.mem = s.mem := by
  unfold State.injected
  extract_lets m x n
  have hm : m.mem = s.mem := by rw [← State.mem_pulse s 9, ← State.mem_drive (s.pulse 9) 306 { tagged := true }]; exact State.mem_bump _ _
  have hn : n.mem = s.mem := hm
  split
  · exact hn
  · exact hn

theorem mem_readCheck (s : State) (w : Nat) (r : Raise) : (s.readCheck w r).1.mem = s.mem := by
  unfold State.readCheck
  extract_lets rg inj e m r'
  have hm : m.mem = s.mem := by simp only [m]; split <;> simp
  clear_value m e r' rg inj
  dsimp only
  split
  · exact hm
  · split
    · simp [hm]
    · split <;> simp [hm]
  · split
    · repeat' split
      all_goals simp [hm]
    · exact hm

theorem wf_storeWord (s : State) (a : Nat) (bs : List Byte) (r : Raise) (h : Memory.wf s.mem = true) :
    Memory.wf (s.storeWord a bs r).1.mem = true := by
  have key : ∀ m : State, m.mem = s.mem → Memory.wf ((m.joinNote a).setBytes a bs).mem = true := fun m hm =>
    wf_setBytes bs _ a (by rw [joinNote_eq]; exact hm ▸ h)
  have h1 := mem_readCheck s (a / 8) r
  unfold State.storeWord
  dsimp only
  repeat' split
  · exact key s rfl
  · exact key _ h1
  · exact h1 ▸ h

theorem wf_storeBytes (r : Raise) (n : Nat) : ∀ (s : State) (a : Nat) (bs : List Byte), Memory.wf s.mem = true →
    Memory.wf (s.storeBytes r n a bs).1.mem = true := by
  induction n with
  | zero => exact fun s a bs h => h
  | succ n ih =>
    intro s a bs h
    have hw := wf_storeWord s a (bs.take (8 - a % 8)) r h
    unfold State.storeBytes
    dsimp only
    repeat' split
    · exact h
    · exact ih _ _ _ hw
    · exact hw

end Sys2Proof.Machine
end

