-- ==== Sys2Proof/Laws/PerInstr.lean ====
section
/-! SUPPORT. Laws/PerInstr.lean: command by command, that no word of the table's bits spells it: the table gives no row any bits. -/
open Sys2Proof

/-- No word spells the command. -/
def Sys2Proof.Laws.NoWordSpells.Statement (i : Instr) : Prop := ∀ nbits w, decodeTableWord nbits w ≠ some i

theorem Sys2Proof.Laws.NoWordSpells.frameBoundary : Sys2Proof.Laws.NoWordSpells.Statement .frameBoundary := fun _ _ h => nomatch h
theorem Sys2Proof.Laws.NoWordSpells.blockBoundary : Sys2Proof.Laws.NoWordSpells.Statement .blockBoundary := fun _ _ h => nomatch h
theorem Sys2Proof.Laws.NoWordSpells.lanePeriodBoundary : Sys2Proof.Laws.NoWordSpells.Statement .lanePeriodBoundary := fun _ _ h => nomatch h
theorem Sys2Proof.Laws.NoWordSpells.taskStart (p : Fin 18) : Sys2Proof.Laws.NoWordSpells.Statement (.taskStart p) := fun _ _ h => nomatch h
theorem Sys2Proof.Laws.NoWordSpells.taskComplete (p : Fin 18) (r : TaskResult) : Sys2Proof.Laws.NoWordSpells.Statement (.taskComplete p r) := fun _ _ h => nomatch h
theorem Sys2Proof.Laws.NoWordSpells.commitGateOpen (p : Fin 18) : Sys2Proof.Laws.NoWordSpells.Statement (.commitGateOpen p) := fun _ _ h => nomatch h
theorem Sys2Proof.Laws.NoWordSpells.mirrorComplete (j : Fin 16) : Sys2Proof.Laws.NoWordSpells.Statement (.mirrorComplete j) := fun _ _ h => nomatch h
theorem Sys2Proof.Laws.NoWordSpells.outputStart : Sys2Proof.Laws.NoWordSpells.Statement .outputStart := fun _ _ h => nomatch h
theorem Sys2Proof.Laws.NoWordSpells.taskFailure (p : Fin 18) (c : FailCause) : Sys2Proof.Laws.NoWordSpells.Statement (.taskFailure p c) := fun _ _ h => nomatch h
theorem Sys2Proof.Laws.NoWordSpells.laybyReady (l : Fin 2) : Sys2Proof.Laws.NoWordSpells.Statement (.laybyReady l) := fun _ _ h => nomatch h
theorem Sys2Proof.Laws.NoWordSpells.replayComplete (p : Fin 18) (r : TaskResult) : Sys2Proof.Laws.NoWordSpells.Statement (.replayComplete p r) := fun _ _ h => nomatch h
theorem Sys2Proof.Laws.NoWordSpells.shadowComplete (l : Fin 2) : Sys2Proof.Laws.NoWordSpells.Statement (.shadowComplete l) := fun _ _ h => nomatch h
theorem Sys2Proof.Laws.NoWordSpells.settleComplete (l : Fin 2) : Sys2Proof.Laws.NoWordSpells.Statement (.settleComplete l) := fun _ _ h => nomatch h
theorem Sys2Proof.Laws.NoWordSpells.laneTestComplete (p : Fin 18) (pass : Bool) : Sys2Proof.Laws.NoWordSpells.Statement (.laneTestComplete p pass) := fun _ _ h => nomatch h
theorem Sys2Proof.Laws.NoWordSpells.stagingComplete : Sys2Proof.Laws.NoWordSpells.Statement .stagingComplete := fun _ _ h => nomatch h
theorem Sys2Proof.Laws.NoWordSpells.idleBlocksExpiry (c : Fin 9) : Sys2Proof.Laws.NoWordSpells.Statement (.idleBlocksExpiry c) := fun _ _ h => nomatch h
theorem Sys2Proof.Laws.NoWordSpells.clusterWakeComplete (c : Fin 9) : Sys2Proof.Laws.NoWordSpells.Statement (.clusterWakeComplete c) := fun _ _ h => nomatch h
theorem Sys2Proof.Laws.NoWordSpells.taskBudgetExpiry (p : Fin 18) : Sys2Proof.Laws.NoWordSpells.Statement (.taskBudgetExpiry p) := fun _ _ h => nomatch h
theorem Sys2Proof.Laws.NoWordSpells.add (t : TriadId) (rd : Reg) (rs1 : Reg) (rs2 : Reg) : Sys2Proof.Laws.NoWordSpells.Statement (.add t rd rs1 rs2) := fun _ _ h => nomatch h
theorem Sys2Proof.Laws.NoWordSpells.sub (t : TriadId) (rd : Reg) (rs1 : Reg) (rs2 : Reg) : Sys2Proof.Laws.NoWordSpells.Statement (.sub t rd rs1 rs2) := fun _ _ h => nomatch h
theorem Sys2Proof.Laws.NoWordSpells.andCmd (t : TriadId) (rd : Reg) (rs1 : Reg) (rs2 : Reg) : Sys2Proof.Laws.NoWordSpells.Statement (.andCmd t rd rs1 rs2) := fun _ _ h => nomatch h
theorem Sys2Proof.Laws.NoWordSpells.orCmd (t : TriadId) (rd : Reg) (rs1 : Reg) (rs2 : Reg) : Sys2Proof.Laws.NoWordSpells.Statement (.orCmd t rd rs1 rs2) := fun _ _ h => nomatch h
theorem Sys2Proof.Laws.NoWordSpells.xorCmd (t : TriadId) (rd : Reg) (rs1 : Reg) (rs2 : Reg) : Sys2Proof.Laws.NoWordSpells.Statement (.xorCmd t rd rs1 rs2) := fun _ _ h => nomatch h
theorem Sys2Proof.Laws.NoWordSpells.shl (t : TriadId) (rd : Reg) (rs1 : Reg) (rs2 : Reg) : Sys2Proof.Laws.NoWordSpells.Statement (.shl t rd rs1 rs2) := fun _ _ h => nomatch h
theorem Sys2Proof.Laws.NoWordSpells.shr (t : TriadId) (rd : Reg) (rs1 : Reg) (rs2 : Reg) : Sys2Proof.Laws.NoWordSpells.Statement (.shr t rd rs1 rs2) := fun _ _ h => nomatch h
theorem Sys2Proof.Laws.NoWordSpells.sar (t : TriadId) (rd : Reg) (rs1 : Reg) (rs2 : Reg) : Sys2Proof.Laws.NoWordSpells.Statement (.sar t rd rs1 rs2) := fun _ _ h => nomatch h
theorem Sys2Proof.Laws.NoWordSpells.setlt (t : TriadId) (rd : Reg) (rs1 : Reg) (rs2 : Reg) : Sys2Proof.Laws.NoWordSpells.Statement (.setlt t rd rs1 rs2) := fun _ _ h => nomatch h
theorem Sys2Proof.Laws.NoWordSpells.setltU (t : TriadId) (rd : Reg) (rs1 : Reg) (rs2 : Reg) : Sys2Proof.Laws.NoWordSpells.Statement (.setltU t rd rs1 rs2) := fun _ _ h => nomatch h
theorem Sys2Proof.Laws.NoWordSpells.minCmd (t : TriadId) (rd : Reg) (rs1 : Reg) (rs2 : Reg) : Sys2Proof.Laws.NoWordSpells.Statement (.minCmd t rd rs1 rs2) := fun _ _ h => nomatch h
theorem Sys2Proof.Laws.NoWordSpells.maxCmd (t : TriadId) (rd : Reg) (rs1 : Reg) (rs2 : Reg) : Sys2Proof.Laws.NoWordSpells.Statement (.maxCmd t rd rs1 rs2) := fun _ _ h => nomatch h
theorem Sys2Proof.Laws.NoWordSpells.minU (t : TriadId) (rd : Reg) (rs1 : Reg) (rs2 : Reg) : Sys2Proof.Laws.NoWordSpells.Statement (.minU t rd rs1 rs2) := fun _ _ h => nomatch h
theorem Sys2Proof.Laws.NoWordSpells.maxU (t : TriadId) (rd : Reg) (rs1 : Reg) (rs2 : Reg) : Sys2Proof.Laws.NoWordSpells.Statement (.maxU t rd rs1 rs2) := fun _ _ h => nomatch h
theorem Sys2Proof.Laws.NoWordSpells.addW (t : TriadId) (rd : Reg) (rs1 : Reg) (rs2 : Reg) : Sys2Proof.Laws.NoWordSpells.Statement (.addW t rd rs1 rs2) := fun _ _ h => nomatch h
theorem Sys2Proof.Laws.NoWordSpells.subW (t : TriadId) (rd : Reg) (rs1 : Reg) (rs2 : Reg) : Sys2Proof.Laws.NoWordSpells.Statement (.subW t rd rs1 rs2) := fun _ _ h => nomatch h
theorem Sys2Proof.Laws.NoWordSpells.shlW (t : TriadId) (rd : Reg) (rs1 : Reg) (rs2 : Reg) : Sys2Proof.Laws.NoWordSpells.Statement (.shlW t rd rs1 rs2) := fun _ _ h => nomatch h
theorem Sys2Proof.Laws.NoWordSpells.shrW (t : TriadId) (rd : Reg) (rs1 : Reg) (rs2 : Reg) : Sys2Proof.Laws.NoWordSpells.Statement (.shrW t rd rs1 rs2) := fun _ _ h => nomatch h
theorem Sys2Proof.Laws.NoWordSpells.sarW (t : TriadId) (rd : Reg) (rs1 : Reg) (rs2 : Reg) : Sys2Proof.Laws.NoWordSpells.Statement (.sarW t rd rs1 rs2) := fun _ _ h => nomatch h
theorem Sys2Proof.Laws.NoWordSpells.mul (t : TriadId) (rd : Reg) (rs1 : Reg) (rs2 : Reg) : Sys2Proof.Laws.NoWordSpells.Statement (.mul t rd rs1 rs2) := fun _ _ h => nomatch h
theorem Sys2Proof.Laws.NoWordSpells.mulHs (t : TriadId) (rd : Reg) (rs1 : Reg) (rs2 : Reg) : Sys2Proof.Laws.NoWordSpells.Statement (.mulHs t rd rs1 rs2) := fun _ _ h => nomatch h
theorem Sys2Proof.Laws.NoWordSpells.mulHu (t : TriadId) (rd : Reg) (rs1 : Reg) (rs2 : Reg) : Sys2Proof.Laws.NoWordSpells.Statement (.mulHu t rd rs1 rs2) := fun _ _ h => nomatch h
theorem Sys2Proof.Laws.NoWordSpells.mulW (t : TriadId) (rd : Reg) (rs1 : Reg) (rs2 : Reg) : Sys2Proof.Laws.NoWordSpells.Statement (.mulW t rd rs1 rs2) := fun _ _ h => nomatch h
theorem Sys2Proof.Laws.NoWordSpells.div (t : TriadId) (rd : Reg) (rs1 : Reg) (rs2 : Reg) : Sys2Proof.Laws.NoWordSpells.Statement (.div t rd rs1 rs2) := fun _ _ h => nomatch h
theorem Sys2Proof.Laws.NoWordSpells.divU (t : TriadId) (rd : Reg) (rs1 : Reg) (rs2 : Reg) : Sys2Proof.Laws.NoWordSpells.Statement (.divU t rd rs1 rs2) := fun _ _ h => nomatch h
theorem Sys2Proof.Laws.NoWordSpells.rem (t : TriadId) (rd : Reg) (rs1 : Reg) (rs2 : Reg) : Sys2Proof.Laws.NoWordSpells.Statement (.rem t rd rs1 rs2) := fun _ _ h => nomatch h
theorem Sys2Proof.Laws.NoWordSpells.remU (t : TriadId) (rd : Reg) (rs1 : Reg) (rs2 : Reg) : Sys2Proof.Laws.NoWordSpells.Statement (.remU t rd rs1 rs2) := fun _ _ h => nomatch h
theorem Sys2Proof.Laws.NoWordSpells.clz (t : TriadId) (rd : Reg) (rs1 : Reg) : Sys2Proof.Laws.NoWordSpells.Statement (.clz t rd rs1) := fun _ _ h => nomatch h
theorem Sys2Proof.Laws.NoWordSpells.ctz (t : TriadId) (rd : Reg) (rs1 : Reg) : Sys2Proof.Laws.NoWordSpells.Statement (.ctz t rd rs1) := fun _ _ h => nomatch h
theorem Sys2Proof.Laws.NoWordSpells.bitcnt (t : TriadId) (rd : Reg) (rs1 : Reg) : Sys2Proof.Laws.NoWordSpells.Statement (.bitcnt t rd rs1) := fun _ _ h => nomatch h
theorem Sys2Proof.Laws.NoWordSpells.rol (t : TriadId) (rd : Reg) (rs1 : Reg) (rs2 : Reg) : Sys2Proof.Laws.NoWordSpells.Statement (.rol t rd rs1 rs2) := fun _ _ h => nomatch h
theorem Sys2Proof.Laws.NoWordSpells.ror (t : TriadId) (rd : Reg) (rs1 : Reg) (rs2 : Reg) : Sys2Proof.Laws.NoWordSpells.Statement (.ror t rd rs1 rs2) := fun _ _ h => nomatch h
theorem Sys2Proof.Laws.NoWordSpells.byterev (t : TriadId) (rd : Reg) (rs1 : Reg) : Sys2Proof.Laws.NoWordSpells.Statement (.byterev t rd rs1) := fun _ _ h => nomatch h
theorem Sys2Proof.Laws.NoWordSpells.sextB (t : TriadId) (rd : Reg) (rs1 : Reg) : Sys2Proof.Laws.NoWordSpells.Statement (.sextB t rd rs1) := fun _ _ h => nomatch h
theorem Sys2Proof.Laws.NoWordSpells.sextH (t : TriadId) (rd : Reg) (rs1 : Reg) : Sys2Proof.Laws.NoWordSpells.Statement (.sextH t rd rs1) := fun _ _ h => nomatch h
theorem Sys2Proof.Laws.NoWordSpells.sextW (t : TriadId) (rd : Reg) (rs1 : Reg) : Sys2Proof.Laws.NoWordSpells.Statement (.sextW t rd rs1) := fun _ _ h => nomatch h
theorem Sys2Proof.Laws.NoWordSpells.addi (t : TriadId) (rd : Reg) (rs1 : Reg) (imm : Imm16) : Sys2Proof.Laws.NoWordSpells.Statement (.addi t rd rs1 imm) := fun _ _ h => nomatch h
theorem Sys2Proof.Laws.NoWordSpells.andi (t : TriadId) (rd : Reg) (rs1 : Reg) (imm : Imm16) : Sys2Proof.Laws.NoWordSpells.Statement (.andi t rd rs1 imm) := fun _ _ h => nomatch h
theorem Sys2Proof.Laws.NoWordSpells.ori (t : TriadId) (rd : Reg) (rs1 : Reg) (imm : Imm16) : Sys2Proof.Laws.NoWordSpells.Statement (.ori t rd rs1 imm) := fun _ _ h => nomatch h
theorem Sys2Proof.Laws.NoWordSpells.xori (t : TriadId) (rd : Reg) (rs1 : Reg) (imm : Imm16) : Sys2Proof.Laws.NoWordSpells.Statement (.xori t rd rs1 imm) := fun _ _ h => nomatch h
theorem Sys2Proof.Laws.NoWordSpells.setlti (t : TriadId) (rd : Reg) (rs1 : Reg) (imm : Imm16) : Sys2Proof.Laws.NoWordSpells.Statement (.setlti t rd rs1 imm) := fun _ _ h => nomatch h
theorem Sys2Proof.Laws.NoWordSpells.setltiU (t : TriadId) (rd : Reg) (rs1 : Reg) (imm : Imm16) : Sys2Proof.Laws.NoWordSpells.Statement (.setltiU t rd rs1 imm) := fun _ _ h => nomatch h
theorem Sys2Proof.Laws.NoWordSpells.shli (t : TriadId) (rd : Reg) (rs1 : Reg) (sh : Sh6) : Sys2Proof.Laws.NoWordSpells.Statement (.shli t rd rs1 sh) := fun _ _ h => nomatch h
theorem Sys2Proof.Laws.NoWordSpells.shri (t : TriadId) (rd : Reg) (rs1 : Reg) (sh : Sh6) : Sys2Proof.Laws.NoWordSpells.Statement (.shri t rd rs1 sh) := fun _ _ h => nomatch h
theorem Sys2Proof.Laws.NoWordSpells.sari (t : TriadId) (rd : Reg) (rs1 : Reg) (sh : Sh6) : Sys2Proof.Laws.NoWordSpells.Statement (.sari t rd rs1 sh) := fun _ _ h => nomatch h
theorem Sys2Proof.Laws.NoWordSpells.shin (t : TriadId) (rd : Reg) (rs1 : Reg) (imm : Imm16) : Sys2Proof.Laws.NoWordSpells.Statement (.shin t rd rs1 imm) := fun _ _ h => nomatch h
theorem Sys2Proof.Laws.NoWordSpells.pcadd (t : TriadId) (rd : Reg) (rs1 : Reg) (imm : Imm16) : Sys2Proof.Laws.NoWordSpells.Statement (.pcadd t rd rs1 imm) := fun _ _ h => nomatch h
theorem Sys2Proof.Laws.NoWordSpells.ldB (t : TriadId) (rd : Reg) (rs1 : Reg) (imm : Imm16) : Sys2Proof.Laws.NoWordSpells.Statement (.ldB t rd rs1 imm) := fun _ _ h => nomatch h
theorem Sys2Proof.Laws.NoWordSpells.ldBu (t : TriadId) (rd : Reg) (rs1 : Reg) (imm : Imm16) : Sys2Proof.Laws.NoWordSpells.Statement (.ldBu t rd rs1 imm) := fun _ _ h => nomatch h
theorem Sys2Proof.Laws.NoWordSpells.ldH (t : TriadId) (rd : Reg) (rs1 : Reg) (imm : Imm16) : Sys2Proof.Laws.NoWordSpells.Statement (.ldH t rd rs1 imm) := fun _ _ h => nomatch h
theorem Sys2Proof.Laws.NoWordSpells.ldHu (t : TriadId) (rd : Reg) (rs1 : Reg) (imm : Imm16) : Sys2Proof.Laws.NoWordSpells.Statement (.ldHu t rd rs1 imm) := fun _ _ h => nomatch h
theorem Sys2Proof.Laws.NoWordSpells.ldW (t : TriadId) (rd : Reg) (rs1 : Reg) (imm : Imm16) : Sys2Proof.Laws.NoWordSpells.Statement (.ldW t rd rs1 imm) := fun _ _ h => nomatch h
theorem Sys2Proof.Laws.NoWordSpells.ldWu (t : TriadId) (rd : Reg) (rs1 : Reg) (imm : Imm16) : Sys2Proof.Laws.NoWordSpells.Statement (.ldWu t rd rs1 imm) := fun _ _ h => nomatch h
theorem Sys2Proof.Laws.NoWordSpells.ldD (t : TriadId) (rd : Reg) (rs1 : Reg) (imm : Imm16) : Sys2Proof.Laws.NoWordSpells.Statement (.ldD t rd rs1 imm) := fun _ _ h => nomatch h
theorem Sys2Proof.Laws.NoWordSpells.stB (t : TriadId) (rs2 : Reg) (rs1 : Reg) (imm : Imm16) : Sys2Proof.Laws.NoWordSpells.Statement (.stB t rs2 rs1 imm) := fun _ _ h => nomatch h
theorem Sys2Proof.Laws.NoWordSpells.stH (t : TriadId) (rs2 : Reg) (rs1 : Reg) (imm : Imm16) : Sys2Proof.Laws.NoWordSpells.Statement (.stH t rs2 rs1 imm) := fun _ _ h => nomatch h
theorem Sys2Proof.Laws.NoWordSpells.stW (t : TriadId) (rs2 : Reg) (rs1 : Reg) (imm : Imm16) : Sys2Proof.Laws.NoWordSpells.Statement (.stW t rs2 rs1 imm) := fun _ _ h => nomatch h
theorem Sys2Proof.Laws.NoWordSpells.stD (t : TriadId) (rs2 : Reg) (rs1 : Reg) (imm : Imm16) : Sys2Proof.Laws.NoWordSpells.Statement (.stD t rs2 rs1 imm) := fun _ _ h => nomatch h
theorem Sys2Proof.Laws.NoWordSpells.aaddW (t : TriadId) (rd : Reg) (rs1 : Reg) (rs2 : Reg) : Sys2Proof.Laws.NoWordSpells.Statement (.aaddW t rd rs1 rs2) := fun _ _ h => nomatch h
theorem Sys2Proof.Laws.NoWordSpells.aaddD (t : TriadId) (rd : Reg) (rs1 : Reg) (rs2 : Reg) : Sys2Proof.Laws.NoWordSpells.Statement (.aaddD t rd rs1 rs2) := fun _ _ h => nomatch h
theorem Sys2Proof.Laws.NoWordSpells.aswpW (t : TriadId) (rd : Reg) (rs1 : Reg) (rs2 : Reg) : Sys2Proof.Laws.NoWordSpells.Statement (.aswpW t rd rs1 rs2) := fun _ _ h => nomatch h
theorem Sys2Proof.Laws.NoWordSpells.aswpD (t : TriadId) (rd : Reg) (rs1 : Reg) (rs2 : Reg) : Sys2Proof.Laws.NoWordSpells.Statement (.aswpD t rd rs1 rs2) := fun _ _ h => nomatch h
theorem Sys2Proof.Laws.NoWordSpells.bmove (t : TriadId) (rd : Reg) (rs1 : Reg) (rs2 : Reg) : Sys2Proof.Laws.NoWordSpells.Statement (.bmove t rd rs1 rs2) := fun _ _ h => nomatch h
theorem Sys2Proof.Laws.NoWordSpells.bfill (t : TriadId) (rd : Reg) (rs1 : Reg) (rs2 : Reg) : Sys2Proof.Laws.NoWordSpells.Statement (.bfill t rd rs1 rs2) := fun _ _ h => nomatch h
theorem Sys2Proof.Laws.NoWordSpells.bcrc (t : TriadId) (rd : Reg) (rs1 : Reg) (rs2 : Reg) : Sys2Proof.Laws.NoWordSpells.Statement (.bcrc t rd rs1 rs2) := fun _ _ h => nomatch h
theorem Sys2Proof.Laws.NoWordSpells.beq (t : TriadId) (rs1 : Reg) (rs2 : Reg) (off : Imm16) : Sys2Proof.Laws.NoWordSpells.Statement (.beq t rs1 rs2 off) := fun _ _ h => nomatch h
theorem Sys2Proof.Laws.NoWordSpells.bne (t : TriadId) (rs1 : Reg) (rs2 : Reg) (off : Imm16) : Sys2Proof.Laws.NoWordSpells.Statement (.bne t rs1 rs2 off) := fun _ _ h => nomatch h
theorem Sys2Proof.Laws.NoWordSpells.blt (t : TriadId) (rs1 : Reg) (rs2 : Reg) (off : Imm16) : Sys2Proof.Laws.NoWordSpells.Statement (.blt t rs1 rs2 off) := fun _ _ h => nomatch h
theorem Sys2Proof.Laws.NoWordSpells.bge (t : TriadId) (rs1 : Reg) (rs2 : Reg) (off : Imm16) : Sys2Proof.Laws.NoWordSpells.Statement (.bge t rs1 rs2 off) := fun _ _ h => nomatch h
theorem Sys2Proof.Laws.NoWordSpells.bltU (t : TriadId) (rs1 : Reg) (rs2 : Reg) (off : Imm16) : Sys2Proof.Laws.NoWordSpells.Statement (.bltU t rs1 rs2 off) := fun _ _ h => nomatch h
theorem Sys2Proof.Laws.NoWordSpells.bgeU (t : TriadId) (rs1 : Reg) (rs2 : Reg) (off : Imm16) : Sys2Proof.Laws.NoWordSpells.Statement (.bgeU t rs1 rs2 off) := fun _ _ h => nomatch h
theorem Sys2Proof.Laws.NoWordSpells.j (t : TriadId) (off : Off26) : Sys2Proof.Laws.NoWordSpells.Statement (.j t off) := fun _ _ h => nomatch h
theorem Sys2Proof.Laws.NoWordSpells.call (t : TriadId) (off : Off26) : Sys2Proof.Laws.NoWordSpells.Statement (.call t off) := fun _ _ h => nomatch h
theorem Sys2Proof.Laws.NoWordSpells.jr (t : TriadId) (rs1 : Reg) : Sys2Proof.Laws.NoWordSpells.Statement (.jr t rs1) := fun _ _ h => nomatch h
theorem Sys2Proof.Laws.NoWordSpells.callr (t : TriadId) (rs1 : Reg) : Sys2Proof.Laws.NoWordSpells.Statement (.callr t rs1) := fun _ _ h => nomatch h
theorem Sys2Proof.Laws.NoWordSpells.ret (t : TriadId) : Sys2Proof.Laws.NoWordSpells.Statement (.ret t) := fun _ _ h => nomatch h
theorem Sys2Proof.Laws.NoWordSpells.mfc (t : TriadId) (g : Reg) (n : N12) : Sys2Proof.Laws.NoWordSpells.Statement (.mfc t g n) := fun _ _ h => nomatch h
theorem Sys2Proof.Laws.NoWordSpells.mtc (t : TriadId) (g : Reg) (n : N12) : Sys2Proof.Laws.NoWordSpells.Statement (.mtc t g n) := fun _ _ h => nomatch h
theorem Sys2Proof.Laws.NoWordSpells.syncC (t : TriadId) : Sys2Proof.Laws.NoWordSpells.Statement (.syncC t) := fun _ _ h => nomatch h
theorem Sys2Proof.Laws.NoWordSpells.syncI (t : TriadId) : Sys2Proof.Laws.NoWordSpells.Statement (.syncI t) := fun _ _ h => nomatch h
theorem Sys2Proof.Laws.NoWordSpells.syncM (t : TriadId) : Sys2Proof.Laws.NoWordSpells.Statement (.syncM t) := fun _ _ h => nomatch h
theorem Sys2Proof.Laws.NoWordSpells.eret (t : TriadId) : Sys2Proof.Laws.NoWordSpells.Statement (.eret t) := fun _ _ h => nomatch h
theorem Sys2Proof.Laws.NoWordSpells.srvc (t : TriadId) (n : N12) : Sys2Proof.Laws.NoWordSpells.Statement (.srvc t n) := fun _ _ h => nomatch h
theorem Sys2Proof.Laws.NoWordSpells.waymark (t : TriadId) (n : N12) : Sys2Proof.Laws.NoWordSpells.Statement (.waymark t n) := fun _ _ h => nomatch h
theorem Sys2Proof.Laws.NoWordSpells.waitCmd (t : TriadId) : Sys2Proof.Laws.NoWordSpells.Statement (.waitCmd t) := fun _ _ h => nomatch h
theorem Sys2Proof.Laws.NoWordSpells.breakCmd (t : TriadId) : Sys2Proof.Laws.NoWordSpells.Statement (.breakCmd t) := fun _ _ h => nomatch h
theorem Sys2Proof.Laws.NoWordSpells.interruptTaken (t : TriadId) : Sys2Proof.Laws.NoWordSpells.Statement (.interruptTaken t) := fun _ _ h => nomatch h
theorem Sys2Proof.Laws.NoWordSpells.asyncCauseTaken (t : TriadId) : Sys2Proof.Laws.NoWordSpells.Statement (.asyncCauseTaken t) := fun _ _ h => nomatch h
theorem Sys2Proof.Laws.NoWordSpells.resyncComplete (t : TriadId) : Sys2Proof.Laws.NoWordSpells.Statement (.resyncComplete t) := fun _ _ h => nomatch h
theorem Sys2Proof.Laws.NoWordSpells.coreHoldOut (t : TriadId) : Sys2Proof.Laws.NoWordSpells.Statement (.coreHoldOut t) := fun _ _ h => nomatch h
theorem Sys2Proof.Laws.NoWordSpells.vadd (t : TriadId) (o : VR) : Sys2Proof.Laws.NoWordSpells.Statement (.vadd t o) := fun _ _ h => nomatch h
theorem Sys2Proof.Laws.NoWordSpells.vsub (t : TriadId) (o : VR) : Sys2Proof.Laws.NoWordSpells.Statement (.vsub t o) := fun _ _ h => nomatch h
theorem Sys2Proof.Laws.NoWordSpells.vsadd (t : TriadId) (o : VR) : Sys2Proof.Laws.NoWordSpells.Statement (.vsadd t o) := fun _ _ h => nomatch h
theorem Sys2Proof.Laws.NoWordSpells.vssub (t : TriadId) (o : VR) : Sys2Proof.Laws.NoWordSpells.Statement (.vssub t o) := fun _ _ h => nomatch h
theorem Sys2Proof.Laws.NoWordSpells.vmul (t : TriadId) (o : VR) : Sys2Proof.Laws.NoWordSpells.Statement (.vmul t o) := fun _ _ h => nomatch h
theorem Sys2Proof.Laws.NoWordSpells.vmulh (t : TriadId) (o : VR) : Sys2Proof.Laws.NoWordSpells.Statement (.vmulh t o) := fun _ _ h => nomatch h
theorem Sys2Proof.Laws.NoWordSpells.vmin (t : TriadId) (o : VR) : Sys2Proof.Laws.NoWordSpells.Statement (.vmin t o) := fun _ _ h => nomatch h
theorem Sys2Proof.Laws.NoWordSpells.vmax (t : TriadId) (o : VR) : Sys2Proof.Laws.NoWordSpells.Statement (.vmax t o) := fun _ _ h => nomatch h
theorem Sys2Proof.Laws.NoWordSpells.vabs (t : TriadId) (o : VR) : Sys2Proof.Laws.NoWordSpells.Statement (.vabs t o) := fun _ _ h => nomatch h
theorem Sys2Proof.Laws.NoWordSpells.vneg (t : TriadId) (o : VR) : Sys2Proof.Laws.NoWordSpells.Statement (.vneg t o) := fun _ _ h => nomatch h
theorem Sys2Proof.Laws.NoWordSpells.vand (t : TriadId) (o : VR) : Sys2Proof.Laws.NoWordSpells.Statement (.vand t o) := fun _ _ h => nomatch h
theorem Sys2Proof.Laws.NoWordSpells.vor (t : TriadId) (o : VR) : Sys2Proof.Laws.NoWordSpells.Statement (.vor t o) := fun _ _ h => nomatch h
theorem Sys2Proof.Laws.NoWordSpells.vxor (t : TriadId) (o : VR) : Sys2Proof.Laws.NoWordSpells.Statement (.vxor t o) := fun _ _ h => nomatch h
theorem Sys2Proof.Laws.NoWordSpells.vnot (t : TriadId) (o : VR) : Sys2Proof.Laws.NoWordSpells.Statement (.vnot t o) := fun _ _ h => nomatch h
theorem Sys2Proof.Laws.NoWordSpells.vshl (t : TriadId) (o : VR) : Sys2Proof.Laws.NoWordSpells.Statement (.vshl t o) := fun _ _ h => nomatch h
theorem Sys2Proof.Laws.NoWordSpells.vshr (t : TriadId) (o : VR) : Sys2Proof.Laws.NoWordSpells.Statement (.vshr t o) := fun _ _ h => nomatch h
theorem Sys2Proof.Laws.NoWordSpells.vsra (t : TriadId) (o : VR) : Sys2Proof.Laws.NoWordSpells.Statement (.vsra t o) := fun _ _ h => nomatch h
theorem Sys2Proof.Laws.NoWordSpells.vshli (t : TriadId) (o : VR) : Sys2Proof.Laws.NoWordSpells.Statement (.vshli t o) := fun _ _ h => nomatch h
theorem Sys2Proof.Laws.NoWordSpells.vshri (t : TriadId) (o : VR) : Sys2Proof.Laws.NoWordSpells.Statement (.vshri t o) := fun _ _ h => nomatch h
theorem Sys2Proof.Laws.NoWordSpells.vsrai (t : TriadId) (o : VR) : Sys2Proof.Laws.NoWordSpells.Statement (.vsrai t o) := fun _ _ h => nomatch h
theorem Sys2Proof.Laws.NoWordSpells.vsel (t : TriadId) (o : VR) : Sys2Proof.Laws.NoWordSpells.Statement (.vsel t o) := fun _ _ h => nomatch h
theorem Sys2Proof.Laws.NoWordSpells.vmov (t : TriadId) (o : VR) : Sys2Proof.Laws.NoWordSpells.Statement (.vmov t o) := fun _ _ h => nomatch h
theorem Sys2Proof.Laws.NoWordSpells.vfadd (t : TriadId) (o : VR) : Sys2Proof.Laws.NoWordSpells.Statement (.vfadd t o) := fun _ _ h => nomatch h
theorem Sys2Proof.Laws.NoWordSpells.vfsub (t : TriadId) (o : VR) : Sys2Proof.Laws.NoWordSpells.Statement (.vfsub t o) := fun _ _ h => nomatch h
theorem Sys2Proof.Laws.NoWordSpells.vfmul (t : TriadId) (o : VR) : Sys2Proof.Laws.NoWordSpells.Statement (.vfmul t o) := fun _ _ h => nomatch h
theorem Sys2Proof.Laws.NoWordSpells.vfma (t : TriadId) (o : VR) : Sys2Proof.Laws.NoWordSpells.Statement (.vfma t o) := fun _ _ h => nomatch h
theorem Sys2Proof.Laws.NoWordSpells.vfms (t : TriadId) (o : VR) : Sys2Proof.Laws.NoWordSpells.Statement (.vfms t o) := fun _ _ h => nomatch h
theorem Sys2Proof.Laws.NoWordSpells.vfmin (t : TriadId) (o : VR) : Sys2Proof.Laws.NoWordSpells.Statement (.vfmin t o) := fun _ _ h => nomatch h
theorem Sys2Proof.Laws.NoWordSpells.vfmax (t : TriadId) (o : VR) : Sys2Proof.Laws.NoWordSpells.Statement (.vfmax t o) := fun _ _ h => nomatch h
theorem Sys2Proof.Laws.NoWordSpells.vfabs (t : TriadId) (o : VR) : Sys2Proof.Laws.NoWordSpells.Statement (.vfabs t o) := fun _ _ h => nomatch h
theorem Sys2Proof.Laws.NoWordSpells.vfneg (t : TriadId) (o : VR) : Sys2Proof.Laws.NoWordSpells.Statement (.vfneg t o) := fun _ _ h => nomatch h
theorem Sys2Proof.Laws.NoWordSpells.vcvtfq (t : TriadId) (o : VR) : Sys2Proof.Laws.NoWordSpells.Statement (.vcvtfq t o) := fun _ _ h => nomatch h
theorem Sys2Proof.Laws.NoWordSpells.vcvtqf (t : TriadId) (o : VR) : Sys2Proof.Laws.NoWordSpells.Statement (.vcvtqf t o) := fun _ _ h => nomatch h
theorem Sys2Proof.Laws.NoWordSpells.vcvtfi (t : TriadId) (o : VR) : Sys2Proof.Laws.NoWordSpells.Statement (.vcvtfi t o) := fun _ _ h => nomatch h
theorem Sys2Proof.Laws.NoWordSpells.vcvtif (t : TriadId) (o : VR) : Sys2Proof.Laws.NoWordSpells.Statement (.vcvtif t o) := fun _ _ h => nomatch h
theorem Sys2Proof.Laws.NoWordSpells.vcmpeq (t : TriadId) (o : VR) : Sys2Proof.Laws.NoWordSpells.Statement (.vcmpeq t o) := fun _ _ h => nomatch h
theorem Sys2Proof.Laws.NoWordSpells.vcmpne (t : TriadId) (o : VR) : Sys2Proof.Laws.NoWordSpells.Statement (.vcmpne t o) := fun _ _ h => nomatch h
theorem Sys2Proof.Laws.NoWordSpells.vcmplt (t : TriadId) (o : VR) : Sys2Proof.Laws.NoWordSpells.Statement (.vcmplt t o) := fun _ _ h => nomatch h
theorem Sys2Proof.Laws.NoWordSpells.vcmple (t : TriadId) (o : VR) : Sys2Proof.Laws.NoWordSpells.Statement (.vcmple t o) := fun _ _ h => nomatch h
theorem Sys2Proof.Laws.NoWordSpells.vcmpltu (t : TriadId) (o : VR) : Sys2Proof.Laws.NoWordSpells.Statement (.vcmpltu t o) := fun _ _ h => nomatch h
theorem Sys2Proof.Laws.NoWordSpells.vcmpleu (t : TriadId) (o : VR) : Sys2Proof.Laws.NoWordSpells.Statement (.vcmpleu t o) := fun _ _ h => nomatch h
theorem Sys2Proof.Laws.NoWordSpells.pand (t : TriadId) (o : VR) : Sys2Proof.Laws.NoWordSpells.Statement (.pand t o) := fun _ _ h => nomatch h
theorem Sys2Proof.Laws.NoWordSpells.por (t : TriadId) (o : VR) : Sys2Proof.Laws.NoWordSpells.Statement (.por t o) := fun _ _ h => nomatch h
theorem Sys2Proof.Laws.NoWordSpells.pxor (t : TriadId) (o : VR) : Sys2Proof.Laws.NoWordSpells.Statement (.pxor t o) := fun _ _ h => nomatch h
theorem Sys2Proof.Laws.NoWordSpells.pandn (t : TriadId) (o : VR) : Sys2Proof.Laws.NoWordSpells.Statement (.pandn t o) := fun _ _ h => nomatch h
theorem Sys2Proof.Laws.NoWordSpells.plimit (t : TriadId) (o : VR) : Sys2Proof.Laws.NoWordSpells.Statement (.plimit t o) := fun _ _ h => nomatch h
theorem Sys2Proof.Laws.NoWordSpells.vmac (t : TriadId) (o : VR) : Sys2Proof.Laws.NoWordSpells.Statement (.vmac t o) := fun _ _ h => nomatch h
theorem Sys2Proof.Laws.NoWordSpells.vmsc (t : TriadId) (o : VR) : Sys2Proof.Laws.NoWordSpells.Statement (.vmsc t o) := fun _ _ h => nomatch h
theorem Sys2Proof.Laws.NoWordSpells.vzaclr (t : TriadId) (o : VR) : Sys2Proof.Laws.NoWordSpells.Statement (.vzaclr t o) := fun _ _ h => nomatch h
theorem Sys2Proof.Laws.NoWordSpells.vzard (t : TriadId) (o : VR) : Sys2Proof.Laws.NoWordSpells.Statement (.vzard t o) := fun _ _ h => nomatch h
theorem Sys2Proof.Laws.NoWordSpells.vzawr (t : TriadId) (o : VR) : Sys2Proof.Laws.NoWordSpells.Statement (.vzawr t o) := fun _ _ h => nomatch h
theorem Sys2Proof.Laws.NoWordSpells.vsplat (t : TriadId) (o : VR) : Sys2Proof.Laws.NoWordSpells.Statement (.vsplat t o) := fun _ _ h => nomatch h
theorem Sys2Proof.Laws.NoWordSpells.vextr (t : TriadId) (o : VR) : Sys2Proof.Laws.NoWordSpells.Statement (.vextr t o) := fun _ _ h => nomatch h
theorem Sys2Proof.Laws.NoWordSpells.vins (t : TriadId) (o : VR) : Sys2Proof.Laws.NoWordSpells.Statement (.vins t o) := fun _ _ h => nomatch h
theorem Sys2Proof.Laws.NoWordSpells.vperm (t : TriadId) (o : VR) : Sys2Proof.Laws.NoWordSpells.Statement (.vperm t o) := fun _ _ h => nomatch h
theorem Sys2Proof.Laws.NoWordSpells.vrev (t : TriadId) (o : VR) : Sys2Proof.Laws.NoWordSpells.Statement (.vrev t o) := fun _ _ h => nomatch h
theorem Sys2Proof.Laws.NoWordSpells.vslide (t : TriadId) (o : VR) : Sys2Proof.Laws.NoWordSpells.Statement (.vslide t o) := fun _ _ h => nomatch h
theorem Sys2Proof.Laws.NoWordSpells.vweavl (t : TriadId) (o : VR) : Sys2Proof.Laws.NoWordSpells.Statement (.vweavl t o) := fun _ _ h => nomatch h
theorem Sys2Proof.Laws.NoWordSpells.vweavh (t : TriadId) (o : VR) : Sys2Proof.Laws.NoWordSpells.Statement (.vweavh t o) := fun _ _ h => nomatch h
theorem Sys2Proof.Laws.NoWordSpells.vsplite (t : TriadId) (o : VR) : Sys2Proof.Laws.NoWordSpells.Statement (.vsplite t o) := fun _ _ h => nomatch h
theorem Sys2Proof.Laws.NoWordSpells.vsplito (t : TriadId) (o : VR) : Sys2Proof.Laws.NoWordSpells.Statement (.vsplito t o) := fun _ _ h => nomatch h
theorem Sys2Proof.Laws.NoWordSpells.vwidl (t : TriadId) (o : VR) : Sys2Proof.Laws.NoWordSpells.Statement (.vwidl t o) := fun _ _ h => nomatch h
theorem Sys2Proof.Laws.NoWordSpells.vwidh (t : TriadId) (o : VR) : Sys2Proof.Laws.NoWordSpells.Statement (.vwidh t o) := fun _ _ h => nomatch h
theorem Sys2Proof.Laws.NoWordSpells.vnarr (t : TriadId) (o : VR) : Sys2Proof.Laws.NoWordSpells.Statement (.vnarr t o) := fun _ _ h => nomatch h
theorem Sys2Proof.Laws.NoWordSpells.vrsum (t : TriadId) (o : VR) : Sys2Proof.Laws.NoWordSpells.Statement (.vrsum t o) := fun _ _ h => nomatch h
theorem Sys2Proof.Laws.NoWordSpells.vrmin (t : TriadId) (o : VR) : Sys2Proof.Laws.NoWordSpells.Statement (.vrmin t o) := fun _ _ h => nomatch h
theorem Sys2Proof.Laws.NoWordSpells.vrmax (t : TriadId) (o : VR) : Sys2Proof.Laws.NoWordSpells.Statement (.vrmax t o) := fun _ _ h => nomatch h
theorem Sys2Proof.Laws.NoWordSpells.ffarm (t : TriadId) (o : VR) : Sys2Proof.Laws.NoWordSpells.Statement (.ffarm t o) := fun _ _ h => nomatch h
theorem Sys2Proof.Laws.NoWordSpells.ffread (t : TriadId) (o : VR) : Sys2Proof.Laws.NoWordSpells.Statement (.ffread t o) := fun _ _ h => nomatch h
theorem Sys2Proof.Laws.NoWordSpells.ptally (t : TriadId) (o : VR) : Sys2Proof.Laws.NoWordSpells.Statement (.ptally t o) := fun _ _ h => nomatch h
theorem Sys2Proof.Laws.NoWordSpells.pmovg (t : TriadId) (o : VR) : Sys2Proof.Laws.NoWordSpells.Statement (.pmovg t o) := fun _ _ h => nomatch h
theorem Sys2Proof.Laws.NoWordSpells.gmovp (t : TriadId) (o : VR) : Sys2Proof.Laws.NoWordSpells.Statement (.gmovp t o) := fun _ _ h => nomatch h
theorem Sys2Proof.Laws.NoWordSpells.vzero (t : TriadId) (o : VR) : Sys2Proof.Laws.NoWordSpells.Statement (.vzero t o) := fun _ _ h => nomatch h
theorem Sys2Proof.Laws.NoWordSpells.vzamvl (t : TriadId) (o : VR) : Sys2Proof.Laws.NoWordSpells.Statement (.vzamvl t o) := fun _ _ h => nomatch h
theorem Sys2Proof.Laws.NoWordSpells.vzamvh (t : TriadId) (o : VR) : Sys2Proof.Laws.NoWordSpells.Statement (.vzamvh t o) := fun _ _ h => nomatch h
theorem Sys2Proof.Laws.NoWordSpells.vzars (t : TriadId) (o : VR) : Sys2Proof.Laws.NoWordSpells.Statement (.vzars t o) := fun _ _ h => nomatch h
theorem Sys2Proof.Laws.NoWordSpells.vld (t : TriadId) (o : VM) : Sys2Proof.Laws.NoWordSpells.Statement (.vld t o) := fun _ _ h => nomatch h
theorem Sys2Proof.Laws.NoWordSpells.vst (t : TriadId) (o : VM) : Sys2Proof.Laws.NoWordSpells.Statement (.vst t o) := fun _ _ h => nomatch h
theorem Sys2Proof.Laws.NoWordSpells.vldP (t : TriadId) (o : VM) : Sys2Proof.Laws.NoWordSpells.Statement (.vldP t o) := fun _ _ h => nomatch h
theorem Sys2Proof.Laws.NoWordSpells.vstP (t : TriadId) (o : VM) : Sys2Proof.Laws.NoWordSpells.Statement (.vstP t o) := fun _ _ h => nomatch h
theorem Sys2Proof.Laws.NoWordSpells.vldS (t : TriadId) (o : VM) : Sys2Proof.Laws.NoWordSpells.Statement (.vldS t o) := fun _ _ h => nomatch h
theorem Sys2Proof.Laws.NoWordSpells.vstS (t : TriadId) (o : VM) : Sys2Proof.Laws.NoWordSpells.Statement (.vstS t o) := fun _ _ h => nomatch h
theorem Sys2Proof.Laws.NoWordSpells.vldX (t : TriadId) (o : VM) : Sys2Proof.Laws.NoWordSpells.Statement (.vldX t o) := fun _ _ h => nomatch h
theorem Sys2Proof.Laws.NoWordSpells.vstX (t : TriadId) (o : VM) : Sys2Proof.Laws.NoWordSpells.Statement (.vstX t o) := fun _ _ h => nomatch h
theorem Sys2Proof.Laws.NoWordSpells.vldR (t : TriadId) (o : VM) : Sys2Proof.Laws.NoWordSpells.Statement (.vldR t o) := fun _ _ h => nomatch h
theorem Sys2Proof.Laws.NoWordSpells.vstR (t : TriadId) (o : VM) : Sys2Proof.Laws.NoWordSpells.Statement (.vstR t o) := fun _ _ h => nomatch h
theorem Sys2Proof.Laws.NoWordSpells.shortVectorIntegerOp (t : TriadId) (w : SV) : Sys2Proof.Laws.NoWordSpells.Statement (.shortVectorIntegerOp t w) := fun _ _ h => nomatch h
theorem Sys2Proof.Laws.NoWordSpells.shortVectorFp32Op (t : TriadId) (w : SV) : Sys2Proof.Laws.NoWordSpells.Statement (.shortVectorFp32Op t w) := fun _ _ h => nomatch h
theorem Sys2Proof.Laws.NoWordSpells.shortVectorCompare (t : TriadId) (w : SV) : Sys2Proof.Laws.NoWordSpells.Statement (.shortVectorCompare t w) := fun _ _ h => nomatch h
theorem Sys2Proof.Laws.NoWordSpells.qbsel (t : TriadId) (o : VR) : Sys2Proof.Laws.NoWordSpells.Statement (.qbsel t o) := fun _ _ h => nomatch h
theorem Sys2Proof.Laws.NoWordSpells.shortVectorPermute (t : TriadId) (w : SV) : Sys2Proof.Laws.NoWordSpells.Statement (.shortVectorPermute t w) := fun _ _ h => nomatch h
theorem Sys2Proof.Laws.NoWordSpells.qld (t : TriadId) (q : Reg) (rs1 : Reg) (imm : Imm16) : Sys2Proof.Laws.NoWordSpells.Statement (.qld t q rs1 imm) := fun _ _ h => nomatch h
theorem Sys2Proof.Laws.NoWordSpells.qst (t : TriadId) (q : Reg) (rs1 : Reg) (imm : Imm16) : Sys2Proof.Laws.NoWordSpells.Statement (.qst t q rs1 imm) := fun _ _ h => nomatch h
theorem Sys2Proof.Laws.NoWordSpells.qmovg (t : TriadId) (o : VR) : Sys2Proof.Laws.NoWordSpells.Statement (.qmovg t o) := fun _ _ h => nomatch h
theorem Sys2Proof.Laws.NoWordSpells.gmovq (t : TriadId) (o : VR) : Sys2Proof.Laws.NoWordSpells.Statement (.gmovq t o) := fun _ _ h => nomatch h
theorem Sys2Proof.Laws.NoWordSpells.junctionTransfer (p : Fin 48) (q : Fin 48) (w : BitVec 13) (e : JctCheck) : Sys2Proof.Laws.NoWordSpells.Statement (.junctionTransfer p q w e) := fun _ _ h => nomatch h
theorem Sys2Proof.Laws.NoWordSpells.expressSample (c : BitVec 6) : Sys2Proof.Laws.NoWordSpells.Statement (.expressSample c) := fun _ _ h => nomatch h
theorem Sys2Proof.Laws.NoWordSpells.expressResyncComplete (b : Fin 9) : Sys2Proof.Laws.NoWordSpells.Statement (.expressResyncComplete b) := fun _ _ h => nomatch h
theorem Sys2Proof.Laws.NoWordSpells.expressHoldOut (b : Fin 9) : Sys2Proof.Laws.NoWordSpells.Statement (.expressHoldOut b) := fun _ _ h => nomatch h
theorem Sys2Proof.Laws.NoWordSpells.expressLaybyTakeover : Sys2Proof.Laws.NoWordSpells.Statement .expressLaybyTakeover := fun _ _ h => nomatch h
theorem Sys2Proof.Laws.NoWordSpells.expressMoveGo (m : BitVec 8) (lvl : BitVec 2) (v : Word) : Sys2Proof.Laws.NoWordSpells.Statement (.expressMoveGo m lvl v) := fun _ _ h => nomatch h
theorem Sys2Proof.Laws.NoWordSpells.expressMoveTakeEffect : Sys2Proof.Laws.NoWordSpells.Statement .expressMoveTakeEffect := fun _ _ h => nomatch h
theorem Sys2Proof.Laws.NoWordSpells.frameReceive (k : Fin 4) (chk : FrameCheck) (bs : ByteList) : Sys2Proof.Laws.NoWordSpells.Statement (.frameReceive k chk bs) := fun _ _ h => nomatch h
theorem Sys2Proof.Laws.NoWordSpells.ptpMessage (k : Fin 4) (msg : PtpMessage) : Sys2Proof.Laws.NoWordSpells.Statement (.ptpMessage k msg) := fun _ _ h => nomatch h
theorem Sys2Proof.Laws.NoWordSpells.ptpMessageSend (k : Fin 4) (kind : PtpKind) : Sys2Proof.Laws.NoWordSpells.Statement (.ptpMessageSend k kind) := fun _ _ h => nomatch h
theorem Sys2Proof.Laws.NoWordSpells.announceReceiptTimeout (k : Fin 4) : Sys2Proof.Laws.NoWordSpells.Statement (.announceReceiptTimeout k) := fun _ _ h => nomatch h
theorem Sys2Proof.Laws.NoWordSpells.delayRespTimeout (k : Fin 4) : Sys2Proof.Laws.NoWordSpells.Statement (.delayRespTimeout k) := fun _ _ h => nomatch h
theorem Sys2Proof.Laws.NoWordSpells.followUpTimeout (k : Fin 4) : Sys2Proof.Laws.NoWordSpells.Statement (.followUpTimeout k) := fun _ _ h => nomatch h
theorem Sys2Proof.Laws.NoWordSpells.samplePresent (j : BitVec 12) : Sys2Proof.Laws.NoWordSpells.Statement (.samplePresent j) := fun _ _ h => nomatch h
theorem Sys2Proof.Laws.NoWordSpells.legLoss (j : BitVec 12) (blue : Bool) : Sys2Proof.Laws.NoWordSpells.Statement (.legLoss j blue) := fun _ _ h => nomatch h
theorem Sys2Proof.Laws.NoWordSpells.streamAbsent (j : BitVec 12) : Sys2Proof.Laws.NoWordSpells.Statement (.streamAbsent j) := fun _ _ h => nomatch h
theorem Sys2Proof.Laws.NoWordSpells.packetLaunch (j : BitVec 12) : Sys2Proof.Laws.NoWordSpells.Statement (.packetLaunch j) := fun _ _ h => nomatch h
theorem Sys2Proof.Laws.NoWordSpells.linkDown (k : Fin 4) : Sys2Proof.Laws.NoWordSpells.Statement (.linkDown k) := fun _ _ h => nomatch h
theorem Sys2Proof.Laws.NoWordSpells.sourceQualified (src : SourceTest) : Sys2Proof.Laws.NoWordSpells.Statement (.sourceQualified src) := fun _ _ h => nomatch h
theorem Sys2Proof.Laws.NoWordSpells.sourceTaken (e : BitVec 64) : Sys2Proof.Laws.NoWordSpells.Statement (.sourceTaken e) := fun _ _ h => nomatch h
theorem Sys2Proof.Laws.NoWordSpells.lockAchieved : Sys2Proof.Laws.NoWordSpells.Statement .lockAchieved := fun _ _ h => nomatch h
theorem Sys2Proof.Laws.NoWordSpells.sourceLoss (src : MediaSource) : Sys2Proof.Laws.NoWordSpells.Statement (.sourceLoss src) := fun _ _ h => nomatch h
theorem Sys2Proof.Laws.NoWordSpells.holdoverTimeout : Sys2Proof.Laws.NoWordSpells.Statement .holdoverTimeout := fun _ _ h => nomatch h
theorem Sys2Proof.Laws.NoWordSpells.mediaClockStep : Sys2Proof.Laws.NoWordSpells.Statement .mediaClockStep := fun _ _ h => nomatch h
theorem Sys2Proof.Laws.NoWordSpells.stepReq (m : BitVec 8) (lvl : BitVec 2) (v : Word) : Sys2Proof.Laws.NoWordSpells.Statement (.stepReq m lvl v) := fun _ _ h => nomatch h
theorem Sys2Proof.Laws.NoWordSpells.hostPhaseWrite (m : BitVec 8) (lvl : BitVec 2) (v : Word) : Sys2Proof.Laws.NoWordSpells.Statement (.hostPhaseWrite m lvl v) := fun _ _ h => nomatch h
theorem Sys2Proof.Laws.NoWordSpells.srcWrite (m : BitVec 8) (lvl : BitVec 2) (v : Word) : Sys2Proof.Laws.NoWordSpells.Statement (.srcWrite m lvl v) := fun _ _ h => nomatch h
theorem Sys2Proof.Laws.NoWordSpells.tdmFormatWrite (m : BitVec 8) (lvl : BitVec 2) (p : Fin 16) (v : Word) : Sys2Proof.Laws.NoWordSpells.Statement (.tdmFormatWrite m lvl p v) := fun _ _ h => nomatch h
theorem Sys2Proof.Laws.NoWordSpells.tdmFrame (p : Fin 16) (n : BitVec 16) (phase : BitVec 32) (data : EntryList) : Sys2Proof.Laws.NoWordSpells.Statement (.tdmFrame p n phase data) := fun _ _ h => nomatch h
theorem Sys2Proof.Laws.NoWordSpells.tdmPortAcquired (p : Fin 16) : Sys2Proof.Laws.NoWordSpells.Statement (.tdmPortAcquired p) := fun _ _ h => nomatch h
theorem Sys2Proof.Laws.NoWordSpells.tdmPortLoss (p : Fin 16) (missing : Bool) : Sys2Proof.Laws.NoWordSpells.Statement (.tdmPortLoss p missing) := fun _ _ h => nomatch h
theorem Sys2Proof.Laws.NoWordSpells.tdmRetime (p : Fin 16) : Sys2Proof.Laws.NoWordSpells.Statement (.tdmRetime p) := fun _ _ h => nomatch h
theorem Sys2Proof.Laws.NoWordSpells.tdmSlip (p : Fin 16) : Sys2Proof.Laws.NoWordSpells.Statement (.tdmSlip p) := fun _ _ h => nomatch h
theorem Sys2Proof.Laws.NoWordSpells.eccWriteBack (w : BitVec 37) : Sys2Proof.Laws.NoWordSpells.Statement (.eccWriteBack w) := fun _ _ h => nomatch h
theorem Sys2Proof.Laws.NoWordSpells.bankPowerTransitionComplete (mem : Fin 10) (b : BitVec 7) : Sys2Proof.Laws.NoWordSpells.Statement (.bankPowerTransitionComplete mem b) := fun _ _ h => nomatch h
theorem Sys2Proof.Laws.NoWordSpells.marchGo (m : BitVec 8) (lvl : BitVec 2) (v : Word) : Sys2Proof.Laws.NoWordSpells.Statement (.marchGo m lvl v) := fun _ _ h => nomatch h
theorem Sys2Proof.Laws.NoWordSpells.marchRow (ok : Bool) : Sys2Proof.Laws.NoWordSpells.Statement (.marchRow ok) := fun _ _ h => nomatch h
theorem Sys2Proof.Laws.NoWordSpells.marchComplete : Sys2Proof.Laws.NoWordSpells.Statement .marchComplete := fun _ _ h => nomatch h
theorem Sys2Proof.Laws.NoWordSpells.dramMarchGranule (sub : BitVec 3) (page : BitVec 21) (ok : Bool) : Sys2Proof.Laws.NoWordSpells.Statement (.dramMarchGranule sub page ok) := fun _ _ h => nomatch h
theorem Sys2Proof.Laws.NoWordSpells.rowRepairCopyComplete (mem : Fin 10) (b : BitVec 7) (sp : BitVec 2) : Sys2Proof.Laws.NoWordSpells.Statement (.rowRepairCopyComplete mem b sp) := fun _ _ h => nomatch h
theorem Sys2Proof.Laws.NoWordSpells.tcwWrite (m : BitVec 8) (lvl : BitVec 2) (a : BitVec 22) (v : Word) : Sys2Proof.Laws.NoWordSpells.Statement (.tcwWrite m lvl a v) := fun _ _ h => nomatch h
theorem Sys2Proof.Laws.NoWordSpells.tcwMismatch (a : BitVec 22) (c0 : Word) (c1 : Word) (c2 : Word) : Sys2Proof.Laws.NoWordSpells.Statement (.tcwMismatch a c0 c1 c2) := fun _ _ h => nomatch h
theorem Sys2Proof.Laws.NoWordSpells.dramRefresh (r : BitVec 4) : Sys2Proof.Laws.NoWordSpells.Statement (.dramRefresh r) := fun _ _ h => nomatch h
theorem Sys2Proof.Laws.NoWordSpells.scrubRead (mem : Fin 12) : Sys2Proof.Laws.NoWordSpells.Statement (.scrubRead mem) := fun _ _ h => nomatch h
theorem Sys2Proof.Laws.NoWordSpells.scrubPassComplete (mem : Fin 12) : Sys2Proof.Laws.NoWordSpells.Statement (.scrubPassComplete mem) := fun _ _ h => nomatch h
theorem Sys2Proof.Laws.NoWordSpells.remapCopyComplete (j : BitVec 8) : Sys2Proof.Laws.NoWordSpells.Statement (.remapCopyComplete j) := fun _ _ h => nomatch h
theorem Sys2Proof.Laws.NoWordSpells.ledgerWriteGo (m : BitVec 8) (lvl : BitVec 2) (v : Word) : Sys2Proof.Laws.NoWordSpells.Statement (.ledgerWriteGo m lvl v) := fun _ _ h => nomatch h
theorem Sys2Proof.Laws.NoWordSpells.ledgerWriteComplete (ok : Bool) : Sys2Proof.Laws.NoWordSpells.Statement (.ledgerWriteComplete ok) := fun _ _ h => nomatch h
theorem Sys2Proof.Laws.NoWordSpells.tgSlotWrite (m : BitVec 8) (lvl : BitVec 2) (a : BitVec 22) (v : Word) : Sys2Proof.Laws.NoWordSpells.Statement (.tgSlotWrite m lvl a v) := fun _ _ h => nomatch h
theorem Sys2Proof.Laws.NoWordSpells.tgCommit (m : BitVec 8) (lvl : BitVec 2) (u : Fin 28) (v : Word) : Sys2Proof.Laws.NoWordSpells.Statement (.tgCommit m lvl u v) := fun _ _ h => nomatch h
theorem Sys2Proof.Laws.NoWordSpells.tgDrainEnd (u : Fin 28) : Sys2Proof.Laws.NoWordSpells.Statement (.tgDrainEnd u) := fun _ _ h => nomatch h
theorem Sys2Proof.Laws.NoWordSpells.tgLockWrite (m : BitVec 8) (lvl : BitVec 2) (a : BitVec 22) (v : Word) : Sys2Proof.Laws.NoWordSpells.Statement (.tgLockWrite m lvl a v) := fun _ _ h => nomatch h
theorem Sys2Proof.Laws.NoWordSpells.moverGo (m : BitVec 8) (lvl : BitVec 2) (k : Fin 4) (c : BitVec 6) : Sys2Proof.Laws.NoWordSpells.Statement (.moverGo m lvl k c) := fun _ _ h => nomatch h
theorem Sys2Proof.Laws.NoWordSpells.moverResume (m : BitVec 8) (lvl : BitVec 2) (k : Fin 4) (c : BitVec 6) : Sys2Proof.Laws.NoWordSpells.Statement (.moverResume m lvl k c) := fun _ _ h => nomatch h
theorem Sys2Proof.Laws.NoWordSpells.moverAbort (m : BitVec 8) (lvl : BitVec 2) (k : Fin 4) (c : BitVec 6) : Sys2Proof.Laws.NoWordSpells.Statement (.moverAbort m lvl k c) := fun _ _ h => nomatch h
theorem Sys2Proof.Laws.NoWordSpells.moverDescriptorFetch (k : Fin 4) (c : BitVec 6) : Sys2Proof.Laws.NoWordSpells.Statement (.moverDescriptorFetch k c) := fun _ _ h => nomatch h
theorem Sys2Proof.Laws.NoWordSpells.moverBurst (k : Fin 4) (c : BitVec 6) (col : ColList) : Sys2Proof.Laws.NoWordSpells.Statement (.moverBurst k c col) := fun _ _ h => nomatch h
theorem Sys2Proof.Laws.NoWordSpells.moverDescriptorComplete (k : Fin 4) (c : BitVec 6) : Sys2Proof.Laws.NoWordSpells.Statement (.moverDescriptorComplete k c) := fun _ _ h => nomatch h
theorem Sys2Proof.Laws.NoWordSpells.softwareEvent (m : BitVec 8) (lvl : BitVec 2) (v : Word) : Sys2Proof.Laws.NoWordSpells.Statement (.softwareEvent m lvl v) := fun _ _ h => nomatch h
theorem Sys2Proof.Laws.NoWordSpells.eventClear (m : BitVec 8) (lvl : BitVec 2) (w : Fin 20) (v : Word) : Sys2Proof.Laws.NoWordSpells.Statement (.eventClear m lvl w v) := fun _ _ h => nomatch h
theorem Sys2Proof.Laws.NoWordSpells.fcuSample : Sys2Proof.Laws.NoWordSpells.Statement .fcuSample := fun _ _ h => nomatch h
theorem Sys2Proof.Laws.NoWordSpells.deferDeadline (n : Fin 320) : Sys2Proof.Laws.NoWordSpells.Statement (.deferDeadline n) := fun _ _ h => nomatch h
theorem Sys2Proof.Laws.NoWordSpells.fcuDecide (m : BitVec 8) (lvl : BitVec 2) (v : Word) : Sys2Proof.Laws.NoWordSpells.Statement (.fcuDecide m lvl v) := fun _ _ h => nomatch h
theorem Sys2Proof.Laws.NoWordSpells.fcuArm (m : BitVec 8) (lvl : BitVec 2) (v : Word) : Sys2Proof.Laws.NoWordSpells.Statement (.fcuArm m lvl v) := fun _ _ h => nomatch h
theorem Sys2Proof.Laws.NoWordSpells.firstAck (m : BitVec 8) (lvl : BitVec 2) (v : Word) : Sys2Proof.Laws.NoWordSpells.Statement (.firstAck m lvl v) := fun _ _ h => nomatch h
theorem Sys2Proof.Laws.NoWordSpells.pendClear (m : BitVec 8) (lvl : BitVec 2) (n : Fin 320) (v : Word) : Sys2Proof.Laws.NoWordSpells.Statement (.pendClear m lvl n v) := fun _ _ h => nomatch h
theorem Sys2Proof.Laws.NoWordSpells.queueRead (m : BitVec 8) (lvl : BitVec 2) (bad : LedgerBad) : Sys2Proof.Laws.NoWordSpells.Statement (.queueRead m lvl bad) := fun _ _ h => nomatch h
theorem Sys2Proof.Laws.NoWordSpells.safeStateReset : Sys2Proof.Laws.NoWordSpells.Statement .safeStateReset := fun _ _ h => nomatch h
theorem Sys2Proof.Laws.NoWordSpells.milestoneService (m : BitVec 8) (lvl : BitVec 2) (narrow : Bool) (v : Word) : Sys2Proof.Laws.NoWordSpells.Statement (.milestoneService m lvl narrow v) := fun _ _ h => nomatch h
theorem Sys2Proof.Laws.NoWordSpells.windowOpen : Sys2Proof.Laws.NoWordSpells.Statement .windowOpen := fun _ _ h => nomatch h
theorem Sys2Proof.Laws.NoWordSpells.windowExpiry : Sys2Proof.Laws.NoWordSpells.Statement .windowExpiry := fun _ _ h => nomatch h
theorem Sys2Proof.Laws.NoWordSpells.graceEnd : Sys2Proof.Laws.NoWordSpells.Statement .graceEnd := fun _ _ h => nomatch h
theorem Sys2Proof.Laws.NoWordSpells.milestoneKeyWrite (m : BitVec 8) (lvl : BitVec 2) (v : Word) : Sys2Proof.Laws.NoWordSpells.Statement (.milestoneKeyWrite m lvl v) := fun _ _ h => nomatch h
theorem Sys2Proof.Laws.NoWordSpells.milestoneDisableWrite (m : BitVec 8) (lvl : BitVec 2) (v : Word) : Sys2Proof.Laws.NoWordSpells.Statement (.milestoneDisableWrite m lvl v) := fun _ _ h => nomatch h
theorem Sys2Proof.Laws.NoWordSpells.milestoneRestart (m : BitVec 8) (lvl : BitVec 2) (v : Word) : Sys2Proof.Laws.NoWordSpells.Statement (.milestoneRestart m lvl v) := fun _ _ h => nomatch h
theorem Sys2Proof.Laws.NoWordSpells.milestoneLockWrite (m : BitVec 8) (lvl : BitVec 2) (v : Word) : Sys2Proof.Laws.NoWordSpells.Statement (.milestoneLockWrite m lvl v) := fun _ _ h => nomatch h
theorem Sys2Proof.Laws.NoWordSpells.windowSettingWrite (m : BitVec 8) (lvl : BitVec 2) (a : BitVec 22) (v : Word) : Sys2Proof.Laws.NoWordSpells.Statement (.windowSettingWrite m lvl a v) := fun _ _ h => nomatch h
theorem Sys2Proof.Laws.NoWordSpells.waymarkDiscard (m : BitVec 8) (lvl : BitVec 2) (p : Fin 18) (v : Word) : Sys2Proof.Laws.NoWordSpells.Statement (.waymarkDiscard m lvl p v) := fun _ _ h => nomatch h
theorem Sys2Proof.Laws.NoWordSpells.supCfgWrite (m : BitVec 8) (lvl : BitVec 2) (a : Fin 16) (v : Word) : Sys2Proof.Laws.NoWordSpells.Statement (.supCfgWrite m lvl a v) := fun _ _ h => nomatch h
theorem Sys2Proof.Laws.NoWordSpells.supCheckin (m : BitVec 8) (lvl : BitVec 2) (a : Fin 16) (v : Word) : Sys2Proof.Laws.NoWordSpells.Statement (.supCheckin m lvl a v) := fun _ _ h => nomatch h
theorem Sys2Proof.Laws.NoWordSpells.supWindowEnd (a : Fin 16) : Sys2Proof.Laws.NoWordSpells.Statement (.supWindowEnd a) := fun _ _ h => nomatch h
theorem Sys2Proof.Laws.NoWordSpells.powerOnReset : Sys2Proof.Laws.NoWordSpells.Statement .powerOnReset := fun _ _ h => nomatch h
theorem Sys2Proof.Laws.NoWordSpells.resetAccept (ext : Bool) : Sys2Proof.Laws.NoWordSpells.Statement (.resetAccept ext) := fun _ _ h => nomatch h
theorem Sys2Proof.Laws.NoWordSpells.resetEnd (late : Bool) : Sys2Proof.Laws.NoWordSpells.Statement (.resetEnd late) := fun _ _ h => nomatch h
theorem Sys2Proof.Laws.NoWordSpells.resetPullEnd : Sys2Proof.Laws.NoWordSpells.Statement .resetPullEnd := fun _ _ h => nomatch h
theorem Sys2Proof.Laws.NoWordSpells.optionLoadComplete : Sys2Proof.Laws.NoWordSpells.Statement .optionLoadComplete := fun _ _ h => nomatch h
theorem Sys2Proof.Laws.NoWordSpells.fillComplete : Sys2Proof.Laws.NoWordSpells.Statement .fillComplete := fun _ _ h => nomatch h
theorem Sys2Proof.Laws.NoWordSpells.bootSlotSelect : Sys2Proof.Laws.NoWordSpells.Statement .bootSlotSelect := fun _ _ h => nomatch h
theorem Sys2Proof.Laws.NoWordSpells.dramTrainingComplete (raw : BitVec 4) (ranks : BitVec 2) : Sys2Proof.Laws.NoWordSpells.Statement (.dramTrainingComplete raw ranks) := fun _ _ h => nomatch h
theorem Sys2Proof.Laws.NoWordSpells.resetRequest (m : BitVec 8) (lvl : BitVec 2) (v : Word) : Sys2Proof.Laws.NoWordSpells.Statement (.resetRequest m lvl v) := fun _ _ h => nomatch h
theorem Sys2Proof.Laws.NoWordSpells.enterSentry (m : BitVec 8) (lvl : BitVec 2) (v : Word) : Sys2Proof.Laws.NoWordSpells.Statement (.enterSentry m lvl v) := fun _ _ h => nomatch h
theorem Sys2Proof.Laws.NoWordSpells.sentryWake (k : Fin 16) (rising : Bool) : Sys2Proof.Laws.NoWordSpells.Statement (.sentryWake k rising) := fun _ _ h => nomatch h
theorem Sys2Proof.Laws.NoWordSpells.backupTimeTick : Sys2Proof.Laws.NoWordSpells.Statement .backupTimeTick := fun _ _ h => nomatch h
theorem Sys2Proof.Laws.NoWordSpells.backupPowerApply : Sys2Proof.Laws.NoWordSpells.Statement .backupPowerApply := fun _ _ h => nomatch h
theorem Sys2Proof.Laws.NoWordSpells.vbkpFall : Sys2Proof.Laws.NoWordSpells.Statement .vbkpFall := fun _ _ h => nomatch h
theorem Sys2Proof.Laws.NoWordSpells.supplyExcursion : Sys2Proof.Laws.NoWordSpells.Statement .supplyExcursion := fun _ _ h => nomatch h
theorem Sys2Proof.Laws.NoWordSpells.temperatureAlarm (above10 : Bool) : Sys2Proof.Laws.NoWordSpells.Statement (.temperatureAlarm above10) := fun _ _ h => nomatch h
theorem Sys2Proof.Laws.NoWordSpells.clockMonitorFault (sentry : Bool) : Sys2Proof.Laws.NoWordSpells.Statement (.clockMonitorFault sentry) := fun _ _ h => nomatch h
theorem Sys2Proof.Laws.NoWordSpells.xtal32Stop : Sys2Proof.Laws.NoWordSpells.Statement .xtal32Stop := fun _ _ h => nomatch h
theorem Sys2Proof.Laws.NoWordSpells.pePerst : Sys2Proof.Laws.NoWordSpells.Statement .pePerst := fun _ _ h => nomatch h
theorem Sys2Proof.Laws.NoWordSpells.sorovChannelLock (k : Fin 4) : Sys2Proof.Laws.NoWordSpells.Statement (.sorovChannelLock k) := fun _ _ h => nomatch h
theorem Sys2Proof.Laws.NoWordSpells.sorovChannelFail (k : Fin 4) : Sys2Proof.Laws.NoWordSpells.Statement (.sorovChannelFail k) := fun _ _ h => nomatch h
theorem Sys2Proof.Laws.NoWordSpells.sorovChannelRetry (k : Fin 4) : Sys2Proof.Laws.NoWordSpells.Statement (.sorovChannelRetry k) := fun _ _ h => nomatch h
theorem Sys2Proof.Laws.NoWordSpells.heartbeatLost : Sys2Proof.Laws.NoWordSpells.Statement .heartbeatLost := fun _ _ h => nomatch h
theorem Sys2Proof.Laws.NoWordSpells.heartSend : Sys2Proof.Laws.NoWordSpells.Statement .heartSend := fun _ _ h => nomatch h
theorem Sys2Proof.Laws.NoWordSpells.syncFrame (h : SovHead) (b : SyncBody) : Sys2Proof.Laws.NoWordSpells.Statement (.syncFrame h b) := fun _ _ h => nomatch h
theorem Sys2Proof.Laws.NoWordSpells.syncMissing : Sys2Proof.Laws.NoWordSpells.Statement .syncMissing := fun _ _ h => nomatch h
theorem Sys2Proof.Laws.NoWordSpells.stateFrame (h : SovHead) (b : StateBody) : Sys2Proof.Laws.NoWordSpells.Statement (.stateFrame h b) := fun _ _ h => nomatch h
theorem Sys2Proof.Laws.NoWordSpells.paramFrame (h : SovHead) (b : ParamBody) : Sys2Proof.Laws.NoWordSpells.Statement (.paramFrame h b) := fun _ _ h => nomatch h
theorem Sys2Proof.Laws.NoWordSpells.paramResend : Sys2Proof.Laws.NoWordSpells.Statement .paramResend := fun _ _ h => nomatch h
theorem Sys2Proof.Laws.NoWordSpells.heartFrame (h : SovHead) (b : HeartBody) : Sys2Proof.Laws.NoWordSpells.Statement (.heartFrame h b) := fun _ _ h => nomatch h
theorem Sys2Proof.Laws.NoWordSpells.versionFrame (h : SovHead) (b : VersionBody) : Sys2Proof.Laws.NoWordSpells.Statement (.versionFrame h b) := fun _ _ h => nomatch h
theorem Sys2Proof.Laws.NoWordSpells.repairTick : Sys2Proof.Laws.NoWordSpells.Statement .repairTick := fun _ _ h => nomatch h
theorem Sys2Proof.Laws.NoWordSpells.needFrame (h : SovHead) (l : NeedList) : Sys2Proof.Laws.NoWordSpells.Statement (.needFrame h l) := fun _ _ h => nomatch h
theorem Sys2Proof.Laws.NoWordSpells.pktFrame (h : SovHead) (b : PktBody) : Sys2Proof.Laws.NoWordSpells.Statement (.pktFrame h b) := fun _ _ h => nomatch h
theorem Sys2Proof.Laws.NoWordSpells.swapCmd (h : SovHead) (c : SovCmd) : Sys2Proof.Laws.NoWordSpells.Statement (.swapCmd h c) := fun _ _ h => nomatch h
theorem Sys2Proof.Laws.NoWordSpells.switchCmd (h : SovHead) (c : SovCmd) : Sys2Proof.Laws.NoWordSpells.Statement (.switchCmd h c) := fun _ _ h => nomatch h
theorem Sys2Proof.Laws.NoWordSpells.switchAt (h : SovHead) (c : SovCmd) : Sys2Proof.Laws.NoWordSpells.Statement (.switchAt h c) := fun _ _ h => nomatch h
theorem Sys2Proof.Laws.NoWordSpells.stepCmd (h : SovHead) (c : SovCmd) : Sys2Proof.Laws.NoWordSpells.Statement (.stepCmd h c) := fun _ _ h => nomatch h
theorem Sys2Proof.Laws.NoWordSpells.joinReq (h : SovHead) (c : SovCmd) : Sys2Proof.Laws.NoWordSpells.Statement (.joinReq h c) := fun _ _ h => nomatch h
theorem Sys2Proof.Laws.NoWordSpells.joinAck (h : SovHead) (c : SovCmd) : Sys2Proof.Laws.NoWordSpells.Statement (.joinAck h c) := fun _ _ h => nomatch h
theorem Sys2Proof.Laws.NoWordSpells.expressAt (h : SovHead) (c : SovCmd) : Sys2Proof.Laws.NoWordSpells.Statement (.expressAt h c) := fun _ _ h => nomatch h
theorem Sys2Proof.Laws.NoWordSpells.divergeCmd (h : SovHead) (c : SovCmd) : Sys2Proof.Laws.NoWordSpells.Statement (.divergeCmd h c) := fun _ _ h => nomatch h
theorem Sys2Proof.Laws.NoWordSpells.hostCmd (h : SovHead) (d : HostData) : Sys2Proof.Laws.NoWordSpells.Statement (.hostCmd h d) := fun _ _ h => nomatch h
theorem Sys2Proof.Laws.NoWordSpells.presetCmd (h : SovHead) (c : SovCmd) : Sys2Proof.Laws.NoWordSpells.Statement (.presetCmd h c) := fun _ _ h => nomatch h
theorem Sys2Proof.Laws.NoWordSpells.joinTransferComplete : Sys2Proof.Laws.NoWordSpells.Statement .joinTransferComplete := fun _ _ h => nomatch h
theorem Sys2Proof.Laws.NoWordSpells.catchupComplete : Sys2Proof.Laws.NoWordSpells.Statement .catchupComplete := fun _ _ h => nomatch h
theorem Sys2Proof.Laws.NoWordSpells.joinComplete : Sys2Proof.Laws.NoWordSpells.Statement .joinComplete := fun _ _ h => nomatch h
theorem Sys2Proof.Laws.NoWordSpells.joinFail : Sys2Proof.Laws.NoWordSpells.Statement .joinFail := fun _ _ h => nomatch h
theorem Sys2Proof.Laws.NoWordSpells.divergenceTimeout : Sys2Proof.Laws.NoWordSpells.Statement .divergenceTimeout := fun _ _ h => nomatch h
theorem Sys2Proof.Laws.NoWordSpells.peerSample (health : BitVec 2) (take : BitVec 2) : Sys2Proof.Laws.NoWordSpells.Statement (.peerSample health take) := fun _ _ h => nomatch h
theorem Sys2Proof.Laws.NoWordSpells.twinTakeAssert : Sys2Proof.Laws.NoWordSpells.Statement .twinTakeAssert := fun _ _ h => nomatch h
theorem Sys2Proof.Laws.NoWordSpells.standbyTakeover : Sys2Proof.Laws.NoWordSpells.Statement .standbyTakeover := fun _ _ h => nomatch h
theorem Sys2Proof.Laws.NoWordSpells.outputHandover : Sys2Proof.Laws.NoWordSpells.Statement .outputHandover := fun _ _ h => nomatch h
theorem Sys2Proof.Laws.NoWordSpells.doorbell (m : BitVec 8) (lvl : BitVec 2) (v : Word) : Sys2Proof.Laws.NoWordSpells.Statement (.doorbell m lvl v) := fun _ _ h => nomatch h
theorem Sys2Proof.Laws.NoWordSpells.mailboxRelease (m : BitVec 8) (lvl : BitVec 2) (v : Word) : Sys2Proof.Laws.NoWordSpells.Statement (.mailboxRelease m lvl v) := fun _ _ h => nomatch h
theorem Sys2Proof.Laws.NoWordSpells.commandTake (bad : LedgerBad) (pass : Bool) : Sys2Proof.Laws.NoWordSpells.Statement (.commandTake bad pass) := fun _ _ h => nomatch h
theorem Sys2Proof.Laws.NoWordSpells.irqPendClear (m : BitVec 8) (lvl : BitVec 2) (v : Word) : Sys2Proof.Laws.NoWordSpells.Statement (.irqPendClear m lvl v) := fun _ _ h => nomatch h
theorem Sys2Proof.Laws.NoWordSpells.ringProducerWrite (m : BitVec 8) (lvl : BitVec 2) (r : Fin 8) (v : Word) : Sys2Proof.Laws.NoWordSpells.Statement (.ringProducerWrite m lvl r v) := fun _ _ h => nomatch h
theorem Sys2Proof.Laws.NoWordSpells.ringService (r : Fin 8) (e : EntryList) (ok : Bool) : Sys2Proof.Laws.NoWordSpells.Statement (.ringService r e ok) := fun _ _ h => nomatch h
theorem Sys2Proof.Laws.NoWordSpells.pcieInboundWrite (bar2 : Bool) (off : BitVec 32) (bs : ByteList) : Sys2Proof.Laws.NoWordSpells.Statement (.pcieInboundWrite bar2 off bs) := fun _ _ h => nomatch h
theorem Sys2Proof.Laws.NoWordSpells.pcieInboundRead (bar2 : Bool) (off : BitVec 32) (n : BitVec 13) : Sys2Proof.Laws.NoWordSpells.Statement (.pcieInboundRead bar2 off n) := fun _ _ h => nomatch h
theorem Sys2Proof.Laws.NoWordSpells.qspiWrite (a : BitVec 24) (bs : ByteList) : Sys2Proof.Laws.NoWordSpells.Statement (.qspiWrite a bs) := fun _ _ h => nomatch h
theorem Sys2Proof.Laws.NoWordSpells.qspiRead (a : BitVec 24) (n : BitVec 16) : Sys2Proof.Laws.NoWordSpells.Statement (.qspiRead a n) := fun _ _ h => nomatch h
theorem Sys2Proof.Laws.NoWordSpells.qspiStatus (code : Byte) : Sys2Proof.Laws.NoWordSpells.Statement (.qspiStatus code) := fun _ _ h => nomatch h
theorem Sys2Proof.Laws.NoWordSpells.getInfo (k : Fin 16) (b : ByteList) : Sys2Proof.Laws.NoWordSpells.Statement (.getInfo k b) := fun _ _ h => nomatch h
theorem Sys2Proof.Laws.NoWordSpells.getStatus (k : Fin 16) (b : ByteList) : Sys2Proof.Laws.NoWordSpells.Statement (.getStatus k b) := fun _ _ h => nomatch h
theorem Sys2Proof.Laws.NoWordSpells.resetCmd (k : Fin 16) (b : ByteList) : Sys2Proof.Laws.NoWordSpells.Statement (.resetCmd k b) := fun _ _ h => nomatch h
theorem Sys2Proof.Laws.NoWordSpells.powerCmd (k : Fin 16) (b : ByteList) : Sys2Proof.Laws.NoWordSpells.Statement (.powerCmd k b) := fun _ _ h => nomatch h
theorem Sys2Proof.Laws.NoWordSpells.regRead (k : Fin 16) (b : ByteList) : Sys2Proof.Laws.NoWordSpells.Statement (.regRead k b) := fun _ _ h => nomatch h
theorem Sys2Proof.Laws.NoWordSpells.regWrite (k : Fin 16) (b : ByteList) : Sys2Proof.Laws.NoWordSpells.Statement (.regWrite k b) := fun _ _ h => nomatch h
theorem Sys2Proof.Laws.NoWordSpells.graphLoad (k : Fin 16) (b : ByteList) : Sys2Proof.Laws.NoWordSpells.Statement (.graphLoad k b) := fun _ _ h => nomatch h
theorem Sys2Proof.Laws.NoWordSpells.graphSwitch (k : Fin 16) (b : ByteList) : Sys2Proof.Laws.NoWordSpells.Statement (.graphSwitch k b) := fun _ _ h => nomatch h
theorem Sys2Proof.Laws.NoWordSpells.graphAbort (k : Fin 16) (b : ByteList) : Sys2Proof.Laws.NoWordSpells.Statement (.graphAbort k b) := fun _ _ h => nomatch h
theorem Sys2Proof.Laws.NoWordSpells.switchAbort (m : BitVec 8) (lvl : BitVec 2) (v : Word) : Sys2Proof.Laws.NoWordSpells.Statement (.switchAbort m lvl v) := fun _ _ h => nomatch h
theorem Sys2Proof.Laws.NoWordSpells.graphRelease (k : Fin 16) (b : ByteList) : Sys2Proof.Laws.NoWordSpells.Statement (.graphRelease k b) := fun _ _ h => nomatch h
theorem Sys2Proof.Laws.NoWordSpells.graphStatus (k : Fin 16) (b : ByteList) : Sys2Proof.Laws.NoWordSpells.Statement (.graphStatus k b) := fun _ _ h => nomatch h
theorem Sys2Proof.Laws.NoWordSpells.graphStop (k : Fin 16) (b : ByteList) : Sys2Proof.Laws.NoWordSpells.Statement (.graphStop k b) := fun _ _ h => nomatch h
theorem Sys2Proof.Laws.NoWordSpells.paramSet (k : Fin 16) (b : ByteList) : Sys2Proof.Laws.NoWordSpells.Statement (.paramSet k b) := fun _ _ h => nomatch h
theorem Sys2Proof.Laws.NoWordSpells.paramGet (k : Fin 16) (b : ByteList) : Sys2Proof.Laws.NoWordSpells.Statement (.paramGet k b) := fun _ _ h => nomatch h
theorem Sys2Proof.Laws.NoWordSpells.ringSetup (k : Fin 16) (b : ByteList) : Sys2Proof.Laws.NoWordSpells.Statement (.ringSetup k b) := fun _ _ h => nomatch h
theorem Sys2Proof.Laws.NoWordSpells.ringStop (k : Fin 16) (b : ByteList) : Sys2Proof.Laws.NoWordSpells.Statement (.ringStop k b) := fun _ _ h => nomatch h
theorem Sys2Proof.Laws.NoWordSpells.meterSet (k : Fin 16) (b : ByteList) : Sys2Proof.Laws.NoWordSpells.Statement (.meterSet k b) := fun _ _ h => nomatch h
theorem Sys2Proof.Laws.NoWordSpells.meterRead (k : Fin 16) (b : ByteList) : Sys2Proof.Laws.NoWordSpells.Statement (.meterRead k b) := fun _ _ h => nomatch h
theorem Sys2Proof.Laws.NoWordSpells.faultFirst (k : Fin 16) (b : ByteList) : Sys2Proof.Laws.NoWordSpells.Statement (.faultFirst k b) := fun _ _ h => nomatch h
theorem Sys2Proof.Laws.NoWordSpells.faultAck (k : Fin 16) (b : ByteList) : Sys2Proof.Laws.NoWordSpells.Statement (.faultAck k b) := fun _ _ h => nomatch h
theorem Sys2Proof.Laws.NoWordSpells.faultCfg (k : Fin 16) (b : ByteList) : Sys2Proof.Laws.NoWordSpells.Statement (.faultCfg k b) := fun _ _ h => nomatch h
theorem Sys2Proof.Laws.NoWordSpells.countCfg (k : Fin 16) (b : ByteList) : Sys2Proof.Laws.NoWordSpells.Statement (.countCfg k b) := fun _ _ h => nomatch h
theorem Sys2Proof.Laws.NoWordSpells.faultPending (k : Fin 16) (b : ByteList) : Sys2Proof.Laws.NoWordSpells.Statement (.faultPending k b) := fun _ _ h => nomatch h
theorem Sys2Proof.Laws.NoWordSpells.faultDecide (k : Fin 16) (b : ByteList) : Sys2Proof.Laws.NoWordSpells.Statement (.faultDecide k b) := fun _ _ h => nomatch h
theorem Sys2Proof.Laws.NoWordSpells.faultClear (k : Fin 16) (b : ByteList) : Sys2Proof.Laws.NoWordSpells.Statement (.faultClear k b) := fun _ _ h => nomatch h
theorem Sys2Proof.Laws.NoWordSpells.logRead (k : Fin 16) (b : ByteList) : Sys2Proof.Laws.NoWordSpells.Statement (.logRead k b) := fun _ _ h => nomatch h
theorem Sys2Proof.Laws.NoWordSpells.logCompact (k : Fin 16) (b : ByteList) (bad : LedgerBad) : Sys2Proof.Laws.NoWordSpells.Statement (.logCompact k b bad) := fun _ _ h => nomatch h
theorem Sys2Proof.Laws.NoWordSpells.memWindow (k : Fin 16) (b : ByteList) : Sys2Proof.Laws.NoWordSpells.Statement (.memWindow k b) := fun _ _ h => nomatch h
theorem Sys2Proof.Laws.NoWordSpells.memCrc (k : Fin 16) (b : ByteList) : Sys2Proof.Laws.NoWordSpells.Statement (.memCrc k b) := fun _ _ h => nomatch h
theorem Sys2Proof.Laws.NoWordSpells.memStatus (k : Fin 16) (b : ByteList) : Sys2Proof.Laws.NoWordSpells.Statement (.memStatus k b) := fun _ _ h => nomatch h
theorem Sys2Proof.Laws.NoWordSpells.retirePage (k : Fin 16) (b : ByteList) (bad : LedgerBad) : Sys2Proof.Laws.NoWordSpells.Statement (.retirePage k b bad) := fun _ _ h => nomatch h
theorem Sys2Proof.Laws.NoWordSpells.repairRow (k : Fin 16) (b : ByteList) (bad : LedgerBad) : Sys2Proof.Laws.NoWordSpells.Statement (.repairRow k b bad) := fun _ _ h => nomatch h
theorem Sys2Proof.Laws.NoWordSpells.retireBank (k : Fin 16) (b : ByteList) (bad : LedgerBad) : Sys2Proof.Laws.NoWordSpells.Statement (.retireBank k b bad) := fun _ _ h => nomatch h
theorem Sys2Proof.Laws.NoWordSpells.marchCmd (k : Fin 16) (b : ByteList) : Sys2Proof.Laws.NoWordSpells.Statement (.marchCmd k b) := fun _ _ h => nomatch h
theorem Sys2Proof.Laws.NoWordSpells.scrubRange (k : Fin 16) (b : ByteList) : Sys2Proof.Laws.NoWordSpells.Statement (.scrubRange k b) := fun _ _ h => nomatch h
theorem Sys2Proof.Laws.NoWordSpells.depotPower (k : Fin 16) (b : ByteList) : Sys2Proof.Laws.NoWordSpells.Statement (.depotPower k b) := fun _ _ h => nomatch h
theorem Sys2Proof.Laws.NoWordSpells.fwProgram (k : Fin 16) (b : ByteList) (bad : LedgerBad) : Sys2Proof.Laws.NoWordSpells.Statement (.fwProgram k b bad) := fun _ _ h => nomatch h
theorem Sys2Proof.Laws.NoWordSpells.fwStatus (k : Fin 16) (b : ByteList) : Sys2Proof.Laws.NoWordSpells.Statement (.fwStatus k b) := fun _ _ h => nomatch h
theorem Sys2Proof.Laws.NoWordSpells.fwActivate (k : Fin 16) (b : ByteList) : Sys2Proof.Laws.NoWordSpells.Statement (.fwActivate k b) := fun _ _ h => nomatch h
theorem Sys2Proof.Laws.NoWordSpells.prosalStart : Sys2Proof.Laws.NoWordSpells.Statement .prosalStart := fun _ _ h => nomatch h
theorem Sys2Proof.Laws.NoWordSpells.optionWrite (k : Fin 16) (b : ByteList) (bad : LedgerBad) : Sys2Proof.Laws.NoWordSpells.Statement (.optionWrite k b bad) := fun _ _ h => nomatch h
theorem Sys2Proof.Laws.NoWordSpells.optionLock (k : Fin 16) (b : ByteList) : Sys2Proof.Laws.NoWordSpells.Statement (.optionLock k b) := fun _ _ h => nomatch h
theorem Sys2Proof.Laws.NoWordSpells.hostdataRead (k : Fin 16) (b : ByteList) : Sys2Proof.Laws.NoWordSpells.Statement (.hostdataRead k b) := fun _ _ h => nomatch h
theorem Sys2Proof.Laws.NoWordSpells.hostdataWrite (k : Fin 16) (b : ByteList) (bad : LedgerBad) : Sys2Proof.Laws.NoWordSpells.Statement (.hostdataWrite k b bad) := fun _ _ h => nomatch h
theorem Sys2Proof.Laws.NoWordSpells.twinCfg (k : Fin 16) (b : ByteList) : Sys2Proof.Laws.NoWordSpells.Statement (.twinCfg k b) := fun _ _ h => nomatch h
theorem Sys2Proof.Laws.NoWordSpells.twinStatus (k : Fin 16) (b : ByteList) : Sys2Proof.Laws.NoWordSpells.Statement (.twinStatus k b) := fun _ _ h => nomatch h
theorem Sys2Proof.Laws.NoWordSpells.twinSwap (k : Fin 16) (b : ByteList) : Sys2Proof.Laws.NoWordSpells.Statement (.twinSwap k b) := fun _ _ h => nomatch h
theorem Sys2Proof.Laws.NoWordSpells.twinTake (k : Fin 16) (b : ByteList) : Sys2Proof.Laws.NoWordSpells.Statement (.twinTake k b) := fun _ _ h => nomatch h
theorem Sys2Proof.Laws.NoWordSpells.twinChoice (k : Fin 16) (b : ByteList) : Sys2Proof.Laws.NoWordSpells.Statement (.twinChoice k b) := fun _ _ h => nomatch h
theorem Sys2Proof.Laws.NoWordSpells.twinJoin (k : Fin 16) (b : ByteList) : Sys2Proof.Laws.NoWordSpells.Statement (.twinJoin k b) := fun _ _ h => nomatch h
theorem Sys2Proof.Laws.NoWordSpells.twinRelay (k : Fin 16) (b : ByteList) : Sys2Proof.Laws.NoWordSpells.Statement (.twinRelay k b) := fun _ _ h => nomatch h
theorem Sys2Proof.Laws.NoWordSpells.twinRelayRead (k : Fin 16) (b : ByteList) : Sys2Proof.Laws.NoWordSpells.Statement (.twinRelayRead k b) := fun _ _ h => nomatch h
theorem Sys2Proof.Laws.NoWordSpells.modeGet (k : Fin 16) (b : ByteList) : Sys2Proof.Laws.NoWordSpells.Statement (.modeGet k b) := fun _ _ h => nomatch h
theorem Sys2Proof.Laws.NoWordSpells.modeSet (k : Fin 16) (b : ByteList) : Sys2Proof.Laws.NoWordSpells.Statement (.modeSet k b) := fun _ _ h => nomatch h
theorem Sys2Proof.Laws.NoWordSpells.laneMove (k : Fin 16) (b : ByteList) : Sys2Proof.Laws.NoWordSpells.Statement (.laneMove k b) := fun _ _ h => nomatch h
theorem Sys2Proof.Laws.NoWordSpells.laneService (k : Fin 16) (b : ByteList) (pass : Bool) : Sys2Proof.Laws.NoWordSpells.Statement (.laneService k b pass) := fun _ _ h => nomatch h
theorem Sys2Proof.Laws.NoWordSpells.clusterPin (k : Fin 16) (b : ByteList) : Sys2Proof.Laws.NoWordSpells.Statement (.clusterPin k b) := fun _ _ h => nomatch h
theorem Sys2Proof.Laws.NoWordSpells.expressMove (k : Fin 16) (b : ByteList) : Sys2Proof.Laws.NoWordSpells.Statement (.expressMove k b) := fun _ _ h => nomatch h
theorem Sys2Proof.Laws.NoWordSpells.unlockNonce (k : Fin 16) (b : ByteList) : Sys2Proof.Laws.NoWordSpells.Statement (.unlockNonce k b) := fun _ _ h => nomatch h
theorem Sys2Proof.Laws.NoWordSpells.unlockHmac (k : Fin 16) (b : ByteList) : Sys2Proof.Laws.NoWordSpells.Statement (.unlockHmac k b) := fun _ _ h => nomatch h
theorem Sys2Proof.Laws.NoWordSpells.unlockPassword (k : Fin 16) (b : ByteList) : Sys2Proof.Laws.NoWordSpells.Statement (.unlockPassword k b) := fun _ _ h => nomatch h
theorem Sys2Proof.Laws.NoWordSpells.lockCmd (k : Fin 16) (b : ByteList) : Sys2Proof.Laws.NoWordSpells.Statement (.lockCmd k b) := fun _ _ h => nomatch h
theorem Sys2Proof.Laws.NoWordSpells.keySet (k : Fin 16) (b : ByteList) (bad : LedgerBad) : Sys2Proof.Laws.NoWordSpells.Statement (.keySet k b bad) := fun _ _ h => nomatch h
theorem Sys2Proof.Laws.NoWordSpells.clockCfg (k : Fin 16) (b : ByteList) : Sys2Proof.Laws.NoWordSpells.Statement (.clockCfg k b) := fun _ _ h => nomatch h
theorem Sys2Proof.Laws.NoWordSpells.ptpCfg (k : Fin 16) (b : ByteList) : Sys2Proof.Laws.NoWordSpells.Statement (.ptpCfg k b) := fun _ _ h => nomatch h
theorem Sys2Proof.Laws.NoWordSpells.clockStatus (k : Fin 16) (b : ByteList) : Sys2Proof.Laws.NoWordSpells.Statement (.clockStatus k b) := fun _ _ h => nomatch h
theorem Sys2Proof.Laws.NoWordSpells.servoInput (k : Fin 16) (b : ByteList) : Sys2Proof.Laws.NoWordSpells.Statement (.servoInput k b) := fun _ _ h => nomatch h
theorem Sys2Proof.Laws.NoWordSpells.blockPreset (k : Fin 16) (b : ByteList) : Sys2Proof.Laws.NoWordSpells.Statement (.blockPreset k b) := fun _ _ h => nomatch h
theorem Sys2Proof.Laws.NoWordSpells.presetGo (m : BitVec 8) (lvl : BitVec 2) (v : Word) : Sys2Proof.Laws.NoWordSpells.Statement (.presetGo m lvl v) := fun _ _ h => nomatch h
theorem Sys2Proof.Laws.NoWordSpells.netPortCfg (k : Fin 16) (b : ByteList) : Sys2Proof.Laws.NoWordSpells.Statement (.netPortCfg k b) := fun _ _ h => nomatch h
theorem Sys2Proof.Laws.NoWordSpells.rxStreamSet (k : Fin 16) (b : ByteList) : Sys2Proof.Laws.NoWordSpells.Statement (.rxStreamSet k b) := fun _ _ h => nomatch h
theorem Sys2Proof.Laws.NoWordSpells.txStreamSet (k : Fin 16) (b : ByteList) : Sys2Proof.Laws.NoWordSpells.Statement (.txStreamSet k b) := fun _ _ h => nomatch h
theorem Sys2Proof.Laws.NoWordSpells.streamDelete (k : Fin 16) (b : ByteList) : Sys2Proof.Laws.NoWordSpells.Statement (.streamDelete k b) := fun _ _ h => nomatch h
theorem Sys2Proof.Laws.NoWordSpells.concealChoice (k : Fin 16) (b : ByteList) : Sys2Proof.Laws.NoWordSpells.Statement (.concealChoice k b) := fun _ _ h => nomatch h
theorem Sys2Proof.Laws.NoWordSpells.tdmCfg (k : Fin 16) (b : ByteList) : Sys2Proof.Laws.NoWordSpells.Statement (.tdmCfg k b) := fun _ _ h => nomatch h
theorem Sys2Proof.Laws.NoWordSpells.portRecal (k : Fin 16) (b : ByteList) : Sys2Proof.Laws.NoWordSpells.Statement (.portRecal k b) := fun _ _ h => nomatch h
theorem Sys2Proof.Laws.NoWordSpells.portStatus (k : Fin 16) (b : ByteList) : Sys2Proof.Laws.NoWordSpells.Statement (.portStatus k b) := fun _ _ h => nomatch h
theorem Sys2Proof.Laws.NoWordSpells.streamStatus (k : Fin 16) (b : ByteList) : Sys2Proof.Laws.NoWordSpells.Statement (.streamStatus k b) := fun _ _ h => nomatch h
theorem Sys2Proof.Laws.NoWordSpells.unlockTimeout : Sys2Proof.Laws.NoWordSpells.Statement .unlockTimeout := fun _ _ h => nomatch h
theorem Sys2Proof.Laws.NoWordSpells.bypassCmd : Sys2Proof.Laws.NoWordSpells.Statement .bypassCmd := fun _ _ h => nomatch h
theorem Sys2Proof.Laws.NoWordSpells.idcode : Sys2Proof.Laws.NoWordSpells.Statement .idcode := fun _ _ h => nomatch h
theorem Sys2Proof.Laws.NoWordSpells.samplePreload (cells : ByteList) : Sys2Proof.Laws.NoWordSpells.Statement (.samplePreload cells) := fun _ _ h => nomatch h
theorem Sys2Proof.Laws.NoWordSpells.extest : Sys2Proof.Laws.NoWordSpells.Statement .extest := fun _ _ h => nomatch h
theorem Sys2Proof.Laws.NoWordSpells.clampCmd : Sys2Proof.Laws.NoWordSpells.Statement .clampCmd := fun _ _ h => nomatch h
theorem Sys2Proof.Laws.NoWordSpells.highz : Sys2Proof.Laws.NoWordSpells.Statement .highz := fun _ _ h => nomatch h
theorem Sys2Proof.Laws.NoWordSpells.dbgAccess (a : BitVec 40) (d : Word) (write : Bool) : Sys2Proof.Laws.NoWordSpells.Statement (.dbgAccess a d write) := fun _ _ h => nomatch h
theorem Sys2Proof.Laws.NoWordSpells.haltCmd (m : BitVec 8) (lvl : BitVec 2) (c : Fin 19) (v : Word) : Sys2Proof.Laws.NoWordSpells.Statement (.haltCmd m lvl c v) := fun _ _ h => nomatch h
theorem Sys2Proof.Laws.NoWordSpells.triadStep (m : BitVec 8) (lvl : BitVec 2) (c : Fin 19) (v : Word) : Sys2Proof.Laws.NoWordSpells.Statement (.triadStep m lvl c v) := fun _ _ h => nomatch h
theorem Sys2Proof.Laws.NoWordSpells.resumeCmd (m : BitVec 8) (lvl : BitVec 2) (c : Fin 19) (v : Word) : Sys2Proof.Laws.NoWordSpells.Statement (.resumeCmd m lvl c v) := fun _ _ h => nomatch h
theorem Sys2Proof.Laws.NoWordSpells.injectGo (m : BitVec 8) (lvl : BitVec 2) (v : Word) : Sys2Proof.Laws.NoWordSpells.Statement (.injectGo m lvl v) := fun _ _ h => nomatch h
theorem Sys2Proof.Laws.NoWordSpells.breakGo (m : BitVec 8) (lvl : BitVec 2) (v : Word) : Sys2Proof.Laws.NoWordSpells.Statement (.breakGo m lvl v) := fun _ _ h => nomatch h
theorem Sys2Proof.Laws.NoWordSpells.breakEnd : Sys2Proof.Laws.NoWordSpells.Statement .breakEnd := fun _ _ h => nomatch h
theorem Sys2Proof.Laws.NoWordSpells.allOff (m : BitVec 8) (lvl : BitVec 2) (v : Word) : Sys2Proof.Laws.NoWordSpells.Statement (.allOff m lvl v) := fun _ _ h => nomatch h
theorem Sys2Proof.Laws.NoWordSpells.perturbationWrite (m : BitVec 8) (lvl : BitVec 2) (a : BitVec 22) (v : Word) : Sys2Proof.Laws.NoWordSpells.Statement (.perturbationWrite m lvl a v) := fun _ _ h => nomatch h
theorem Sys2Proof.Laws.NoWordSpells.registerWrite (m : BitVec 8) (lvl : BitVec 2) (a : BitVec 22) (v : Word) : Sys2Proof.Laws.NoWordSpells.Statement (.registerWrite m lvl a v) := fun _ _ h => nomatch h
theorem Sys2Proof.Laws.NoWordSpells.linkUp (k : Fin 4) : Sys2Proof.Laws.NoWordSpells.Statement (.linkUp k) := fun _ _ h => nomatch h
theorem Sys2Proof.Laws.NoWordSpells.undefinedEncoding (t : TriadId) (w : Word) : Sys2Proof.Laws.NoWordSpells.Statement (.undefinedEncoding t w) := fun _ _ h => nomatch h
theorem Sys2Proof.Laws.NoWordSpells.testLogicReset : Sys2Proof.Laws.NoWordSpells.Statement .testLogicReset := fun _ _ h => nomatch h
theorem Sys2Proof.Laws.NoWordSpells.preMasterQualification (k : Fin 4) : Sys2Proof.Laws.NoWordSpells.Statement (.preMasterQualification k) := fun _ _ h => nomatch h
end

