-- ==== Sys2Proof/Laws/Vector.lean ====
section
/-! SUPPORT. Laws/Vector.lean: what reading and writing elements, predicates and accumulators does, and the frame of a long-vector instruction. -/
namespace Sys2Proof.Machine
open Sys2Proof.Safety

theorem packElems_lt (e n : Nat) (f : Nat → Nat) : packElems e n f < 2 ^ (e * n) := by
  induction n with
  | zero => simp [packElems]
  | succ n ih =>
    simp only [packElems, Nat.mul_add, Nat.mul_one, pow_add]
    have h1 : f n % 2 ^ e < 2 ^ e := Nat.mod_lt _ (by positivity)
    have h2 : f n % 2 ^ e * 2 ^ (e * n) ≤ (2 ^ e - 1) * 2 ^ (e * n) := Nat.mul_le_mul_right _ (by omega)
    have h3 : (2 ^ e - 1) * 2 ^ (e * n) = 2 ^ e * 2 ^ (e * n) - 2 ^ (e * n) := by rw [Nat.sub_mul, Nat.one_mul]
    have h4 : 2 ^ (e * n) ≤ 2 ^ e * 2 ^ (e * n) := Nat.le_mul_of_pos_left _ (by positivity)
    have h5 : 2 ^ (e * n) * 2 ^ e = 2 ^ e * 2 ^ (e * n) := Nat.mul_comm _ _
    omega
/-- An element of packed elements. -/
theorem elemAt_packElems (e n : Nat) (f : Nat → Nat) (i : Nat) (h : i < n) : elemAt e (packElems e n f) i = f i % 2 ^ e := by
  induction n with
  | zero => omega
  | succ n ih =>
    simp only [packElems, elemAt]
    by_cases hi : i < n
    · have e1 : e * n = e * i + e * (n - i) := by rw [← Nat.mul_add]; congr 1; omega
      have e2 : f n % 2 ^ e * 2 ^ (e * n) = f n % 2 ^ e * 2 ^ (e * (n - i)) * 2 ^ (e * i) := by rw [e1, pow_add]; ring
      rw [e2, Nat.add_mul_div_right _ _ (by positivity)]
      have e3 : e * (n - i) = e * (n - i - 1) + e := by rw [← Nat.mul_succ]; congr 1; omega
      have e4 : f n % 2 ^ e * 2 ^ (e * (n - i)) = f n % 2 ^ e * 2 ^ (e * (n - i - 1)) * 2 ^ e := by rw [e3, pow_add]; ring
      rw [e4, Nat.add_mul_mod_self_right]
      exact ih hi
    · have : i = n := by omega
      subst this
      rw [Nat.add_mul_div_right _ _ (by positivity), Nat.div_eq_of_lt (packElems_lt e i f), Nat.zero_add, Nat.mod_mod]
theorem elemAt_lt (e x i : Nat) : elemAt e x i < 2 ^ e := Nat.mod_lt _ (by positivity)
theorem zv_lt (x : Triad) (r : Reg) : x.zv r < 2 ^ 1024 := BitVec.isLt _
theorem zv_putZ_self (x : Triad) (r : Reg) (w : Nat → Bool) (v : Nat) :
    (x.putZ r w v).zv r = packElems 32 32 fun i => if w i then elemAt 32 v i else elemAt 32 (x.zv r) i := by
  simp only [Triad.putZ, Triad.zv, Sparse.get_set_self, BitVec.toNat_ofNat]
  exact Nat.mod_eq_of_lt (packElems_lt 32 32 _)
theorem reg_toNat_ne {a b : Reg} (h : a ≠ b) : a.toNat ≠ b.toNat := fun e => h (BitVec.eq_of_toNat_eq e)
theorem zv_putZ_other (x : Triad) (r q : Reg) (w : Nat → Bool) (v : Nat) (h : q ≠ r) : (x.putZ r w v).zv q = x.zv q := by
  simp only [Triad.putZ, Triad.zv]
  rw [Sparse.get_set_other _ _ _ _ _ (reg_toNat_ne h.symm)]
theorem zr_putZ_self (x : Triad) (r : Reg) (w : Nat → Bool) (v i : Nat) (h : i < 32) :
    (x.putZ r w v).zr r i = if w i then elemAt 32 v i % 7 else x.zr r i := by
  simp only [Triad.putZ, Triad.zr, Sparse.get_set_self, BitVec.toNat_ofNat]
  rw [Nat.mod_eq_of_lt (packElems_lt 3 32 _), elemAt_packElems _ _ _ _ h]
  have : elemAt 3 (Sparse.get (fun _ => 0) x.zres r.toNat).toNat i < 2 ^ 3 := elemAt_lt _ _ _
  split_ifs
  · exact Nat.mod_eq_of_lt (by omega)
  · exact Nat.mod_eq_of_lt this
theorem zr_putZ_other (x : Triad) (r q : Reg) (w : Nat → Bool) (v i : Nat) (h : q ≠ r) : (x.putZ r w v).zr q i = x.zr q i := by
  simp only [Triad.putZ, Triad.zr]
  rw [Sparse.get_set_other _ _ _ _ _ (reg_toNat_ne h.symm)]
/-- A write leaves every residue that of its data. -/
theorem zGood_putZ (x : Triad) (r q : Reg) (w : Nat → Bool) (v k : Nat) (hk : k < 32) (h : x.zGood q k = true) : (x.putZ r w v).zGood q k = true := by
  unfold Triad.zGood at *
  by_cases e : q = r
  · subst e
    rw [zr_putZ_self _ _ _ _ _ hk, zv_putZ_self, elemAt_packElems _ _ _ _ hk]
    by_cases hw : w k
    · rw [if_pos hw, if_pos hw, Nat.mod_eq_of_lt (elemAt_lt 32 v k)]; simp
    · rw [if_neg hw, if_neg hw, Nat.mod_eq_of_lt (elemAt_lt 32 (x.zv q) k)]; exact h
  · rw [zr_putZ_other _ _ _ _ _ _ e, zv_putZ_other _ _ _ _ _ e]; exact h
/-- An element of 16 bits within its container. -/
theorem elemAt_16 (x i : Nat) : elemAt 16 x i = elemAt 16 (elemAt 32 x (i / 2)) (i % 2) := by
  have key : ∀ y j, j < 2 → elemAt 16 (y % 2 ^ 32) j = elemAt 16 y j := by
    intro y j hj
    unfold elemAt
    have : j = 0 ∨ j = 1 := by omega
    rcases this with rfl | rfl <;> simp <;> omega
  have h2 : elemAt 32 x (i / 2) = (x / 2 ^ (32 * (i / 2))) % 2 ^ 32 := rfl
  rw [h2, key _ _ (Nat.mod_lt _ (by decide))]
  unfold elemAt
  rw [Nat.div_div_eq_div_mul, ← pow_add]
  congr 3
  omega
theorem elem_container (e : Nat) (he : e = 16 ∨ e = 32) (a b i : Nat)
   (h : elemAt 32 a (inContainer e i) = elemAt 32 b (inContainer e i)) : elemAt e a i = elemAt e b i := by
  rcases he with rfl | rfl
  · rw [elemAt_16, elemAt_16 b]; simp only [inContainer, if_true] at h; rw [h]
  · simpa [inContainer] using h
/-- What a z register holds after elements were written. -/
theorem elemAt_writeElems (x : Triad) (r : Reg) (e : Nat) (he : e = 16 ∨ e = 32) (zero : Bool) (act : Nat → Bool) (v : Nat → Nat) (i : Nat) (hi : i < 1024 / e) :
    elemAt e ((x.writeElems r e zero act v).zv r) i = if act i then v i % 2 ^ e else if zero then 0 else elemAt e (x.zv r) i := by
  unfold Triad.writeElems
  dsimp only
  rw [zv_putZ_self]
  have hc : inContainer e i < 32 := by rcases he with rfl | rfl <;> simp [inContainer] <;> omega
  by_cases ht : (zero || containerHas e act (inContainer e i)) = true
  · rw [elem_container e he _ (packElems e (1024 / e) fun i => if act i then v i else if zero then 0 else elemAt e (x.zv r) i) i (by
      rw [elemAt_packElems _ _ _ _ hc, if_pos ht, Nat.mod_eq_of_lt (elemAt_lt _ _ _)]), elemAt_packElems _ _ _ _ hi]
    split_ifs
    · rfl
    · simp
    · exact Nat.mod_eq_of_lt (elemAt_lt _ _ _)
  · rw [elem_container e he _ (x.zv r) i (by rw [elemAt_packElems _ _ _ _ hc, if_neg ht, Nat.mod_eq_of_lt (elemAt_lt _ _ _)])]
    have hz : zero = false := by revert ht; cases zero <;> simp
    have ha : act i = false := by
      by_contra hh
      apply ht
      rcases he with rfl | rfl
      · simp only [containerHas, inContainer, if_true, Bool.or_eq_true]
        right
        have : i = 2 * (i / 2) ∨ i = 2 * (i / 2) + 1 := by omega
        rcases this with h | h
        · rw [h] at hh; simp only [Bool.not_eq_false] at hh; exact Or.inl hh
        · rw [h] at hh; simp only [Bool.not_eq_false] at hh; exact Or.inr hh
      · simp_all [containerHas, inContainer]
    simp [hz, ha]
theorem zv_writeElems_other (x : Triad) (r q : Reg) (e : Nat) (zero : Bool) (act : Nat → Bool) (v : Nat → Nat) (h : q ≠ r) :
    (x.writeElems r e zero act v).zv q = x.zv q := zv_putZ_other _ _ _ _ _ h
theorem zGood_writeElems (x : Triad) (r q : Reg) (e : Nat) (zero : Bool) (act : Nat → Bool) (v : Nat → Nat) (k : Nat) (hk : k < 32) (h : x.zGood q k = true) :
    (x.writeElems r e zero act v).zGood q k = true := zGood_putZ _ _ _ _ _ _ hk h
theorem goodFor_all (x : Triad) (r : Reg) (e : Nat) (act : Nat → Bool) (h : ∀ r k, k < 32 → x.zGood r k = true) : x.goodFor r e act = true := by
  simp only [Triad.goodFor, List.all_eq_true, List.mem_range, Bool.or_eq_true]
  exact fun k hk => Or.inr (h r k hk)
/-- Residues that are those of their data predict the residue of the result. -/
theorem strays_good (k : Chain) (a b : Nat) : k.strays a b (a % 7) (b % 7) = false := by
  have ha : a % 7 ≠ 7 := by omega
  have hb : b % 7 ≠ 7 := by omega
  cases k <;> simp only [Chain.strays, ha, hb, decide_false, Bool.false_or, bne_self_eq_false, Bool.or_self]
  · simp [Nat.add_mod]
  · rw [bne_eq_false_iff_eq]; omega
  · simp [Nat.mul_mod]
theorem chainGood_all (x : Triad) (c : Chain) (r1 r2 : Reg) (e : Nat) (act : Nat → Bool) (h : ∀ r k, k < 32 → x.zGood r k = true) :
    x.chainGood c r1 r2 e act = true := by
  simp only [Triad.chainGood, List.all_eq_true, List.mem_range, Bool.or_eq_true, Bool.not_eq_true']
  intro k hk
  have g1 := h r1 k hk
  have g2 := h r2 k hk
  simp only [Triad.zGood, decide_eq_true_eq] at g1 g2
  rw [g1, g2]
  exact Or.inr (strays_good _ _ _)
theorem keptGood_all (x : Triad) (r : Reg) (e : Nat) (zero : Bool) (act : Nat → Bool) (h : ∀ r k, k < 32 → x.zGood r k = true) :
    x.keptGood r e zero act = true := by
  simp only [Triad.keptGood, Bool.or_eq_true, List.all_eq_true, List.mem_range]
  exact Or.inr fun k hk => Or.inr (h r k hk)
/-! ## Predicates -/

theorem pv_putP_self (x : Triad) (r : Nat) (v : BitVec 64) (h : r ≠ 0) : (x.putP r v).pv r = v := by
  simp [Triad.putP, Triad.pv, h]
theorem pv_putP_other (x : Triad) (r q : Nat) (v : BitVec 64) (h : r ≠ q) : (x.putP r v).pv q = x.pv q := by
  unfold Triad.putP Triad.pv
  split_ifs <;> simp [h]
theorem pGood_putP (x : Triad) (r q : Nat) (v : BitVec 64) (h : x.pGood q = true) : (x.putP r v).pGood q = true := by
  unfold Triad.putP Triad.pGood at *
  split_ifs with h0
  · exact h
  · by_cases e : r = q
    · subst e; simp [h0]
    · simpa [e] using h
theorem packBits_get (n : Nat) (hn : n ≤ 64) (f : Nat → Bool) (i : Nat) (hi : i < 64) : (packBits n f).getLsbD i = (decide (i < n) && f i) := by
  unfold packBits
  rw [Nat.min_eq_left hn, BitVec.getLsbD_ofNat]
  simp only [hi, decide_true, Bool.true_and]
  by_cases h : i < n
  · have := elemAt_packElems 1 n (fun i => if f i then 1 else 0) i h
    unfold elemAt at this
    rw [Nat.testBit_eq_decide_div_mod_eq]
    simp only [Nat.one_mul, pow_one] at this
    rw [this]; cases f i <;> simp [h]
  · have h1 : packElems 1 n (fun i => if f i then 1 else 0) < 2 ^ i := lt_of_lt_of_le (packElems_lt 1 n _) (by rw [Nat.one_mul]; exact Nat.pow_le_pow_right (by omega) (by omega))
    rw [Nat.testBit_lt_two_pow h1]; simp [h]
/-! ## Accumulators -/

theorem elemAt_putZa (x : Triad) (r : Reg) (w : Nat → Bool) (v k : Nat) (hk : k < 32) :
    elemAt 48 ((x.putZa r w v).zav r) k = if w k then elemAt 48 v k else elemAt 48 (x.zav r) k := by
  simp only [Triad.putZa, Triad.zav, Sparse.get_set_self, BitVec.toNat_ofNat]
  rw [Nat.mod_eq_of_lt (packElems_lt 48 32 _), elemAt_packElems _ _ _ _ hk]
  exact Nat.mod_eq_of_lt (by split_ifs <;> exact elemAt_lt _ _ _)
theorem zav_putZa_other (x : Triad) (r q : Reg) (w : Nat → Bool) (v : Nat) (h : q ≠ r) : (x.putZa r w v).zav q = x.zav q := by
  simp only [Triad.putZa, Triad.zav]
  rw [Sparse.get_set_other _ _ _ _ _ (reg_toNat_ne h.symm)]
/-! ## The frame -/

/-- A long-vector instruction that passes its checks and writes no general register changes its triad alone. -/
theorem vinstr_ok (s : State) (t : TriadId) (word : DWord) (save : Bool) (body : VCfg → State → Triad → VOut) (h : Ready s t) (ht : t.val ≠ 0)
    (hc : save = true ∨ (s.triad t).level = 2 ∨ (vcfgOf (s.triad t).vcfg).bad = false) (hq : s.armed [1] = false)
    (hf : (body (s.triad t).vcfgNow (issue s t) ((issue s t).triad t)).fail = false)
    (hg : (body (s.triad t).vcfgNow (issue s t) ((issue s t).triad t)).g = none) 
    (hs : (body (s.triad t).vcfgNow (issue s t) ((issue s t).triad t)).x.stepping = (s.triad t).stepping)
    (hr : (body (s.triad t).vcfgNow (issue s t) ((issue s t).triad t)).x.run = .running) :
    ∃ u, vinstr t word true save body s = .next u ∧ OnlyTriad s u t ∧
      u.triad t = { (body (s.triad t).vcfgNow (issue s t) ((issue s t).triad t)).x with
        instret := (body (s.triad t).vcfgNow (issue s t) ((issue s t).triad t)).x.instret + 1 } := by
  set o := body (s.triad t).vcfgNow (issue s t) ((issue s t).triad t) with ho
  have hcfg : ((issue s t).triad t).vcfgNow = (s.triad t).vcfgNow := by rw [issue_triad]; rfl
  have hx : ((issue s t).setTriad t o.x).triad t = o.x := by simp
  obtain ⟨u, h1, h2, h3⟩ := instr_only s ((issue s t).setTriad t o.x) t (fun s _ =>
    let x := s.triad t
    if t.val = 0 || !true then .error (⟨0x01, word, true, 0⟩, s.setTriad t (x.elem none))
    else if !save && x.level != 2 && (vcfgOf x.vcfg).bad
      then .error (⟨0x18, x.vcfg, true, 0⟩, s.setTriad t (x.elem none))
    else .ok (s.vcommit t (body x.vcfgNow s x))) h (by
      dsimp only
      have e1 : (!save && ((issue s t).triad t).level != 2 && (vcfgOf ((issue s t).triad t).vcfg).bad) = false := by
        rw [issue_level, issue_triad]
        rcases hc with hc | hc | hc <;> simp [hc]
      rw [if_neg (by simp [ht]), e1, if_neg (by simp), hcfg, ← ho]
      have e2 : ∀ n, (issue s t).residueInjections t n = 0 := by
        intro n
        have : (issue s t).armed [1] = false := hq
        simp [State.residueInjections, this]
      simp [State.vcommit, e2, State.injectN, hf, hg]) rfl
      (fun r hr => by rw [State.triad_setTriad_other _ _ _ _ hr.symm, issue_other s t r hr]) (by rw [hx, hs]; exact h.free) (by rw [hx, hr]; simp)
  exact ⟨u, h1, h2, by rw [h3, hx]⟩

theorem tyBits_cases (ty : BitVec 2) : tyBits ty = 16 ∨ tyBits ty = 32 := by unfold tyBits; split_ifs <;> simp
theorem Triad.putZ_eq (x : Triad) (r : Reg) (w v) : x.putZ r w v = { x with z := (x.putZ r w v).z, zres := (x.putZ r w v).zres } := by
  simp only [Triad.putZ]
theorem Triad.writeElems_eq (x : Triad) (r : Reg) (e : Nat) (zero : Bool) (act v) :
    x.writeElems r e zero act v = { x with z := (x.writeElems r e zero act v).z, zres := (x.writeElems r e zero act v).zres } := Triad.putZ_eq _ _ _ _
@[simp] theorem Triad.zv_flags (x : Triad) (f : VFlags) (r : Reg) : (x.flags f).zv r = x.zv r := rfl
@[simp] theorem Triad.zGood_flags (x : Triad) (f : VFlags) (r : Reg) (k : Nat) : (x.flags f).zGood r k = x.zGood r k := rfl
@[simp] theorem Triad.zv_instret (x : Triad) (n : DWord) (r : Reg) : ({ x with instret := n } : Triad).zv r = x.zv r := rfl
@[simp] theorem Triad.zGood_instret (x : Triad) (n : DWord) (r : Reg) (k : Nat) : ({ x with instret := n } : Triad).zGood r k = x.zGood r k := rfl
/-- A long-vector instruction that writes elements of one z register and nothing else but VXSTAT. -/
theorem vinstr_wroteZ (s : State) (t : TriadId) (word : DWord) (save : Bool) (body : VCfg → State → Triad → VOut) (h : VecReady s t)
    (rd : Reg) (e : Nat) (he : e = 16 ∨ e = 32) (zero : Bool) (act : Nat → Bool) (v : Nat → Nat) (f : VFlags)
    (hx : (body (s.triad t).vcfgNow (issue s t) ((issue s t).triad t)).x = (((issue s t).triad t).writeElems rd e zero act v).flags f)
    (hf : (body (s.triad t).vcfgNow (issue s t) ((issue s t).triad t)).fail = false)
    (hg : (body (s.triad t).vcfgNow (issue s t) ((issue s t).triad t)).g = none) :
    ∃ u, vinstr t word true save body s = .next u ∧ WroteZ s u t rd e fun i =>
      if act i then v i % 2 ^ e else if zero then 0 else elemAt e ((s.triad t).zv rd) i := by
  have hi := issue_triad s t
  have hw := Triad.writeElems_eq ((issue s t).triad t) rd e zero act v
  obtain ⟨u, h1, h2, h3⟩ := vinstr_ok s t word save body h.ready h.lane (Or.inr h.config) h.quiet hf hg
    (by rw [hx, hw, hi]; rfl) (by rw [hx, hw, hi]; rfl)
  rw [hx] at h3
  refine ⟨u, h1, ⟨h2, ?_⟩, ?_, ?_, ?_, ?_⟩
  · rw [h3]
    generalize hq : ((issue s t).triad t).writeElems rd e zero act v = q at hw ⊢
    rw [hw, hi]
    rfl
  · intro i hlt
    rw [h3, Triad.zv_instret, Triad.zv_flags, elemAt_writeElems _ _ _ he _ _ _ _ hlt, hi]
    rfl
  · intro r hr
    rw [h3, Triad.zv_instret, Triad.zv_flags, zv_writeElems_other _ _ _ _ _ _ _ hr, hi]
    rfl
  · intro r k hk
    rw [h3, Triad.zGood_instret, Triad.zGood_flags]
    exact zGood_writeElems _ _ _ _ _ _ _ _ hk (by rw [hi]; exact h.zs r k hk)
  · rw [h3]
    generalize hq : ((issue s t).triad t).writeElems rd e zero act v = q at hw ⊢
    rw [hw, hi]
    exact ⟨rfl, rfl, rfl, rfl, rfl, rfl, rfl⟩
/-- An element-wise instruction. -/
theorem longElem_wrote (op : EOp) (major func : Nat) (s : State) (t : TriadId) (o : VR) (h : VecReady s t) (hl : op.legal o = true) :
   ∃ u, longElem op major func t o s = .next u ∧ WroteZ s u t o.vd (tyBits o.ty) fun i =>
      if (s.triad t).active (s.triad t).vcfgNow o i then (op.at (s.triad t).vcfgNow o ((s.triad t).zv o.vs1) ((s.triad t).zv o.vs2) ((s.triad t).zv o.vd) i).1 % 2 ^ tyBits o.ty
      else if o.z then 0 else elemAt (tyBits o.ty) ((s.triad t).zv o.vd) i := by
  have hi := issue_triad s t
  have hz : ∀ r k, k < 32 → ((issue s t).triad t).zGood r k = true := by rw [hi]; exact h.zs
  have hp : ∀ r, ((issue s t).triad t).pGood r = true := by rw [hi]; exact h.ps
  unfold longElem
  rw [hl]
  exact vinstr_wroteZ s t _ false (op.body o) h o.vd (tyBits o.ty) (tyBits_cases _) o.z ((s.triad t).active (s.triad t).vcfgNow o)
    (fun i => (op.at (s.triad t).vcfgNow o ((s.triad t).zv o.vs1) ((s.triad t).zv o.vs2) ((s.triad t).zv o.vd) i).1) _
    (by rw [hi]; rfl) (by simp [EOp.body, hp, goodFor_all _ _ _ _ hz, chainGood_all _ _ _ _ _ _ hz, keptGood_all _ _ _ _ _ hz]) rfl
end Sys2Proof.Machine
end

