-- ==== Sys2Proof/Tests/Slice0.lean ====
section
/-! SUPPORT. Tests/Slice0.lean: a concrete state for the hypotheses of each statement, an ill-formed command for each check of WellFormed, and
small behaviour tests whose expected values are worked by hand from the rules. -/
section
open Sys2Proof Sys2Proof.Machine Sys2Proof.Safety
set_option maxRecDepth 20000
set_option Elab.async false

/-! ## Small states -/

/-- A device out of reset, with registers' fields set. -/
def Sys2Proof.Tests.dev (fs : List (Fld × Nat)) : State := fs.foldl (fun s f => s.put f.1 f.2) { State.reset with boot := .firmware }

/-- A device in its boot ROM with one triad about to execute. -/
def Sys2Proof.Tests.tri (t : Nat) (x : Triad) : State := { State.reset with boot := .rom, triads := [(t, { x with run := .running })] }

/-- The supervisor triad at Roadbed with EXL 0, and its registers. -/
def Sys2Proof.Tests.sup (g : List (Nat × DWord)) : State := Sys2Proof.Tests.tri 0 { status := 2, g := g }

theorem Sys2Proof.Tests.ready_of (s : State) (t : TriadId) (h : s.runs t = true ∧ s.haltDue t = false ∧ (s.triad t).upset = [] ∧ (s.triad t).stepping = false)
    (f : (woken s t).fetch t = (woken s t, none)) : Ready s t := ⟨h.1, h.2.1, h.2.2.1, h.2.2.2, f⟩

theorem Sys2Proof.Tests.open0 (s : State) (h : (s.triad 0).exl = false) : Open s 0 := ⟨h, .inl rfl⟩

/-! ## Witnesses: states that meet the hypotheses of each statement -/

theorem test_witness_StepRunsTheFrontCommand : ({ State.reset with pending := [.fcuSample] } : State).pending = [.fcuSample] := rfl

theorem test_witness_EmptyQueueIdles : State.reset.pending = [] := rfl

theorem test_witness_EveryStepKeepsPinsDriven : State.reset.pins = State.reset.pinsOf ∧ step State.reset = .next State.reset := ⟨by decide, rfl⟩

theorem test_witness_EncodedInstructionsDecode : Instr.wf (.vld 18 ⟨31, 1, 0, 7, true, 3, 3⟩) = true ∧
    encodeWord (.vld 18 ⟨31, 1, 0, 7, true, 3, 3⟩) = some (18, 0xF3E107F8) ∧ (18 : TriadId).val ≠ 0 ∧ (0xFFFFFFFF : Nat) < 2 ^ 32 ∧
    decodeWord 0 0 = some (.add 0 0 0 0) := by decide +kernel

/-- Words written out from the formats of R75, R132 and R137: major, fields, func or immediate; and undefined ones. -/
theorem test_words :
    decodeWord 0 0b000000_00011_00001_00010_00000_000001 = some (.sub 0 3 1 2) ∧
    decodeWord 0 0b000010_00011_00001_00000_00000_000111 = some (.sextH 0 3 1) ∧
    decodeWord 0 0b000100_00011_00001_1111111111111111 = some (.addi 0 3 1 0xFFFF) ∧
    decodeWord 0 0b001010_00011_00001_00000000_10_111111 = some (.sari 0 3 1 63) ∧
    decodeWord 0 0b011011_00011_00001_0000000000001000 = some (.stD 0 3 1 8) ∧
    decodeWord 0 0b101000_11111111111111111111111111 = some (.j 0 0x3FFFFFF) ∧
    decodeWord 0 0b101010_00011_00001_000000100000_0000 = some (.mtc 0 3 0x020) ∧
    decodeWord 0 0b101011_00000_11111_00000_00000_000001 = some (.callr 0 31) ∧
    decodeWord 5 0b111000_00011_00001_00010_101_1_10_00010 = some (.vsadd 5 ⟨3, 1, 2, 5, true, 2⟩) ∧
    decodeWord 5 0b111101_00011_00001_00010_101_0_01_10_011 = some (.vstX 5 ⟨3, 1, 2, 5, false, 1, 2⟩) ∧
    decodeWord 0 0b110010_00011_00001_00010_000_0_00_00110 = some (.qbsel 0 ⟨3, 1, 2, 0, false, 0⟩) ∧
    decodeWord 0 0b000010_00011_00001_00001_00000_000111 = none ∧ decodeWord 0 0b000000_00011_00001_00010_00001_000001 = none ∧
    decodeWord 0 0b111000_00011_00001_00010_101_1_10_00010 = none ∧ decodeWord 5 0b110010_00011_00001_00010_000_0_00_00111 = none := by decide +kernel

theorem test_witness_SafeStateOutputs :
    State.reset.pins = State.reset.pinsOf ∧ step State.reset = .next State.reset ∧ State.reset.flag FCU_STATUS_SAFE = true := ⟨by decide, rfl, by decide⟩

theorem test_witness_MemoryKeepsItsFormAndReadsBack : Memory.wf (State.reset.setByte 0x40000000 1).mem = true := by decide

theorem test_witness_Ready : Ready (Sys2Proof.Tests.sup []) 0 := Sys2Proof.Tests.ready_of _ 0 (by decide) (by rfl)

theorem test_witness_DivisionCorners : Ready (Sys2Proof.Tests.sup [(1, BitVec.intMin 64), (2, BitVec.allOnes 64)]) 0 ∧
    (Sys2Proof.Tests.sup [(1, BitVec.intMin 64), (2, BitVec.allOnes 64)]).gx 0 1 = BitVec.intMin 64 ∧
    (Sys2Proof.Tests.sup [(1, BitVec.intMin 64), (2, BitVec.allOnes 64)]).gx 0 2 = BitVec.allOnes 64 ∧
    (Sys2Proof.Tests.sup [(1, BitVec.intMin 64), (2, BitVec.allOnes 64)]).gx 0 3 = 0 :=
  ⟨Sys2Proof.Tests.ready_of _ 0 (by decide) (by rfl), by decide⟩

/-- A triad at Footpath, whose rules let it fetch from the boot ROM. -/
def Sys2Proof.Tests.foot (t : Nat) (x : Triad) : State :=
  { Sys2Proof.Tests.tri t { x with status := 0 } with
    tg := { sets := [(4 * t, { mem := [(0, { base := 0, limit := 0x1FF, valid := true, perm := 5 })] })] } }

theorem Sys2Proof.Tests.plain_of (s : State) (u : Issuer) (a n : Nat) (k : AccKind) (w : Bool)
    (h : devRange a n = false ∧ s.check u a n k = .ok ∧ (List.range (a + n - a / 8 * 8)).all (fun i => !s.busError (a / 8 * 8 + i) w) = true ∧
      (wordsOf a n).all (fun y => decide (s.errOf y = .good) && !s.injectAt y) = true ∧ (u.unit = 0 ∨ s.roadTo u.lane = none)) :
    PlainAccess s u a n k w := by
  obtain ⟨h1, h2, h3, h4, h5⟩ := h
  refine ⟨h1, h2, fun x hx hy => ?_, fun y hy => ?_, fun h _ => h5.resolve_left (by omega)⟩
  · have := List.all_eq_true.mp h3 (x - a / 8 * 8) (List.mem_range.mpr (by omega))
    rw [Nat.add_sub_cancel' hx] at this
    simpa using this
  · simpa using List.all_eq_true.mp h4 y hy

theorem test_witness_footpath : Ready (Sys2Proof.Tests.foot 1 {}) 1 ∧ Open (Sys2Proof.Tests.foot 1 {}) (1 : TriadId).val :=
  ⟨Sys2Proof.Tests.ready_of _ 1 (by decide +kernel) (by rfl), by decide +kernel, by decide +kernel⟩

theorem test_x : PlainAccess (Sys2Proof.Tests.sup []) ((Sys2Proof.Tests.sup []).triadIssuer 0) 0x40000003 8 .load false :=
  Sys2Proof.Tests.plain_of _ _ _ _ _ _ (by decide +kernel)

/-! ### Scalar instructions -/

theorem test_witness_ComputationsWriteTheirResultAlone : Ready (Sys2Proof.Tests.sup []) 0 := test_witness_Ready

theorem test_witness_BranchesAndJumps : Ready (Sys2Proof.Tests.sup [(2, 1)]) 0 ∧
    (Sys2Proof.Tests.sup [(2, 1)]).gx 0 1 = (Sys2Proof.Tests.sup [(2, 1)]).gx 0 3 ∧ (Sys2Proof.Tests.sup [(2, 1)]).gx 0 1 ≠ (Sys2Proof.Tests.sup [(2, 1)]).gx 0 2 :=
  ⟨Sys2Proof.Tests.ready_of _ 0 (by decide) (by rfl), by decide⟩

/-- The supervisor with a shadow stack, in a SHADOW slot, and a return address on it. -/
def Sys2Proof.Tests.stack (v : Byte) : State :=
  { Sys2Proof.Tests.tri 0 { status := 2, ssRoad := ⟨0x40000010, 0x40000011, 0x40000008⟩ } with
    mem := [(0x40000010, v)]
    tg := { sets := [(0, { mem := [(0, { base := 0x400000, limit := 0x400000, valid := true, shadow := true, perm := 0xC0 })] })] } }

theorem test_witness_CallsAndReturns :
    (Ready (Sys2Proof.Tests.sup []) 0 ∧ Open (Sys2Proof.Tests.sup []) 0 ∧ (stackOf (Sys2Proof.Tests.sup []) 0) = {}) ∧
    (Ready (Sys2Proof.Tests.stack 1) 0 ∧ Open (Sys2Proof.Tests.stack 1) 0 ∧
      PlainAccess (Sys2Proof.Tests.stack 1) ((Sys2Proof.Tests.stack 1).triadIssuer 0) (0x40000010 - 8) 8 .push true ∧
      PlainAccess (Sys2Proof.Tests.stack 1) ((Sys2Proof.Tests.stack 1).triadIssuer 0) 0x40000010 8 .ret false ∧
      (Sys2Proof.Tests.stack 1).le 0x40000010 8 = ((Sys2Proof.Tests.stack 1).gx 0 31 ||| 1).toNat) ∧
    (Ready (Sys2Proof.Tests.stack 2) 0 ∧
      PlainAccess (Sys2Proof.Tests.stack 2) ((Sys2Proof.Tests.stack 2).triadIssuer 0) 0x40000010 8 .ret false ∧
      (Sys2Proof.Tests.stack 2).le 0x40000010 8 ≠ ((Sys2Proof.Tests.stack 2).gx 0 31 ||| 1).toNat) :=
  ⟨⟨test_witness_Ready, Sys2Proof.Tests.open0 _ (by decide), by decide⟩,
    ⟨Sys2Proof.Tests.ready_of _ 0 (by decide) (by rfl), Sys2Proof.Tests.open0 _ (by decide), Sys2Proof.Tests.plain_of _ _ _ _ _ _ (by decide +kernel),
      Sys2Proof.Tests.plain_of _ _ _ _ _ _ (by decide +kernel), by decide +kernel⟩,
    Sys2Proof.Tests.ready_of _ 0 (by decide) (by rfl), Sys2Proof.Tests.plain_of _ _ _ _ _ _ (by decide +kernel), by decide +kernel⟩

/-- The supervisor with addresses in g1 (scratchpad), g2 (Depot) and a count in g3. -/
def Sys2Proof.Tests.addr : State := Sys2Proof.Tests.sup [(1, 0x40000003), (2, 0x20000040), (3, 64), (4, 0x40000008)]

theorem Sys2Proof.Tests.ready_addr : Ready Sys2Proof.Tests.addr 0 := Sys2Proof.Tests.ready_of _ 0 (by decide) (by rfl)

theorem test_witness_LoadsReadMemory : Ready Sys2Proof.Tests.addr 0 ∧
    PlainAccess Sys2Proof.Tests.addr (Sys2Proof.Tests.addr.triadIssuer 0) (Sys2Proof.Tests.addr.eaddr 0 1 0) 8 .load false :=
  ⟨Sys2Proof.Tests.ready_addr, Sys2Proof.Tests.plain_of _ _ _ _ _ _ (by decide +kernel)⟩

theorem test_witness_StoresWriteTheirBytesAlone : Ready Sys2Proof.Tests.addr 0 ∧
    PlainAccess Sys2Proof.Tests.addr (Sys2Proof.Tests.addr.triadIssuer 0) (Sys2Proof.Tests.addr.eaddr 0 1 0) 8 .store true :=
  ⟨Sys2Proof.Tests.ready_addr, Sys2Proof.Tests.plain_of _ _ _ _ _ _ (by decide +kernel)⟩

theorem test_witness_AtomicsReplaceAndReturnTheOldValue : Ready Sys2Proof.Tests.addr 0 ∧ (Sys2Proof.Tests.addr.gx 0 4).toNat % 8 = 0 ∧
    (bankOf (Sys2Proof.Tests.addr.region 0x40000008) 0x40000008).isSome = true ∧
    PlainAccess Sys2Proof.Tests.addr (Sys2Proof.Tests.addr.triadIssuer 0) (Sys2Proof.Tests.addr.gx 0 4).toNat 8 .atomic false :=
  ⟨Sys2Proof.Tests.ready_addr, by decide +kernel, by decide +kernel, Sys2Proof.Tests.plain_of _ _ _ _ _ _ (by decide +kernel)⟩

/-- Addresses that stop an access: a misaligned device register, an atomic outside the banks, an unmapped place, a locked place. -/
def Sys2Proof.Tests.stops : State :=
  { ((Sys2Proof.Tests.sup [(1, 0x60000001), (2, 0x100), (3, 0x50000000), (4, 0x40000000)]).put (TG_LOCK_PERM_VALID 0) 1) with
    regs := [(TG_LOCK_BASE 0, 0x400000), (TG_LOCK_LIMIT 0, 0x400000), (TG_LOCK_PERM 0, 0x80FF0000)] }

theorem test_witness_AccessesStopBeforeTheyMove : Ready Sys2Proof.Tests.stops 0 ∧ Open Sys2Proof.Tests.stops 0 ∧
    (Sys2Proof.Tests.stops.gx 0 1).toNat % 8 ≠ 0 ∧
    ((Sys2Proof.Tests.stops.gx 0 2).toNat % 8 = 0 ∧ bankOf (Sys2Proof.Tests.stops.region 0x100) 0x100 = none) ∧
    (devRange (Sys2Proof.Tests.stops.eaddr 0 1 0) 2 = true ∧ Sys2Proof.Tests.stops.eaddr 0 1 0 % 2 ≠ 0) ∧
    (devRange (Sys2Proof.Tests.stops.eaddr 0 3 0) 8 = false ∧
      Sys2Proof.Tests.stops.check (Sys2Proof.Tests.stops.triadIssuer 0) (Sys2Proof.Tests.stops.eaddr 0 3 0) 8 .load = .own 0x50000000 ∧
      Sys2Proof.Tests.stops.check (Sys2Proof.Tests.stops.triadIssuer 0) (Sys2Proof.Tests.stops.eaddr 0 3 0) 8 .store = .own 0x50000000) ∧
    (devRange (Sys2Proof.Tests.stops.eaddr 0 4 0) 8 = false ∧
      Sys2Proof.Tests.stops.check (Sys2Proof.Tests.stops.triadIssuer 0) (Sys2Proof.Tests.stops.eaddr 0 4 0) 8 .load = .lock 0x40000000 ∧
      Sys2Proof.Tests.stops.check (Sys2Proof.Tests.stops.triadIssuer 0) (Sys2Proof.Tests.stops.eaddr 0 4 0) 8 .store = .lock 0x40000000) :=
  ⟨Sys2Proof.Tests.ready_of _ 0 (by decide +kernel) (by rfl), Sys2Proof.Tests.open0 _ (by decide +kernel), by decide +kernel⟩

theorem test_witness_BlockInstructions : Ready Sys2Proof.Tests.addr 0 ∧ Open Sys2Proof.Tests.addr 0 ∧ Sys2Proof.Tests.addr.gx 0 3 ≠ 0 ∧
    Sys2Proof.Tests.addr.gx 0 5 = 0 ∧ blockRegs false 2 1 3 = true ∧ blockRegs true 2 0 3 = true ∧ blockRegs false 2 1 5 = true ∧ blockRegs false 2 0 3 = false ∧
    PlainAccess Sys2Proof.Tests.addr (Sys2Proof.Tests.addr.triadIssuer 0) (Sys2Proof.Tests.addr.gx 0 1).toNat 64 .load false ∧
    PlainAccess Sys2Proof.Tests.addr (Sys2Proof.Tests.addr.triadIssuer 0) (Sys2Proof.Tests.addr.gx 0 2).toNat 64 .store true :=
  ⟨Sys2Proof.Tests.ready_addr, Sys2Proof.Tests.open0 _ (by decide), by decide, by decide, by decide, by decide, by decide, by decide,
    Sys2Proof.Tests.plain_of _ _ _ _ _ _ (by decide +kernel), Sys2Proof.Tests.plain_of _ _ _ _ _ _ (by decide +kernel)⟩

theorem test_witness_ControlRegisterMoves : Ready (Sys2Proof.Tests.sup []) 0 ∧ ((Sys2Proof.Tests.sup []).triad (0 : TriadId).val).level = 2 ∧
    Open (Sys2Proof.Tests.sup []) 0 ∧ ctlRead (0xFFF : N12).toNat = none ∧
    Ready (Sys2Proof.Tests.foot 1 {}) 1 ∧ Open (Sys2Proof.Tests.foot 1 {}) (1 : TriadId).val ∧ ((Sys2Proof.Tests.foot 1 {}).triad (1 : TriadId).val).level = 0 :=
  ⟨test_witness_Ready, by decide, Sys2Proof.Tests.open0 _ (by decide), by decide, test_witness_footpath.1, test_witness_footpath.2, by decide⟩

/-- A pending selection of rule set 1 of unit 0, with slot 0 of that set as given. -/
def Sys2Proof.Tests.pendSet (base limit perm : Word) : State :=
  { Sys2Proof.Tests.tri 0 { status := 2, pend := [(0x030, 1)] } with regs := [(TG_MBASE 0 1 0, base), (TG_MLIMIT 0 1 0, limit), (TG_MPERM 0 1 0, perm)] }

/-- A lane whose armed task has its Waymark window open, one check-in expected. -/
def Sys2Proof.Tests.armed : State :=
  ((Sys2Proof.Tests.tri 1 { taskid := 0x80000000 }).put (WMK_WINDOW_OPEN 0) 1).put (WMK_EXPECT_EXPECT 0 0) 1

theorem test_witness_BarriersApplyAndWait :
    (Ready (Sys2Proof.Tests.tri 0 { status := 2, pend := [(0x2012, 5)] }) 0 ∧
      ((Sys2Proof.Tests.tri 0 { status := 2, pend := [(0x2012, 5)] }).triad (0 : TriadId).val).pend = [(0x2012, 5)]) ∧
    (Ready (Sys2Proof.Tests.pendSet 1 2 0) 0 ∧ ((Sys2Proof.Tests.pendSet 1 2 0).stagedSet 0 1).bad = false) ∧
    (Ready (Sys2Proof.Tests.pendSet 2 1 0xFFFFFFFF) 0 ∧ ((Sys2Proof.Tests.pendSet 2 1 0xFFFFFFFF).stagedSet 0 1).bad = true ∧
      Open (Sys2Proof.Tests.pendSet 2 1 0xFFFFFFFF) 0) ∧
    (Ready (Sys2Proof.Tests.foot 1 {}) 1 ∧ Open (Sys2Proof.Tests.foot 1 {}) (1 : TriadId).val) ∧
    (Ready Sys2Proof.Tests.armed 1 ∧ (Sys2Proof.Tests.armed.triad 1).taskid.getLsbD 31 = true ∧ Sys2Proof.Tests.armed.flag (WMK_WINDOW_OPEN 0) = true ∧
      (Sys2Proof.Tests.armed.window 0).count < Sys2Proof.Tests.armed.get (WMK_EXPECT_EXPECT 0 (Sys2Proof.Tests.armed.get (WMK_WINDOW_TASK 0)))) :=
  ⟨⟨Sys2Proof.Tests.ready_of _ 0 (by decide) (by rfl), by decide⟩, ⟨Sys2Proof.Tests.ready_of _ 0 (by decide) (by rfl), by decide +kernel⟩,
    ⟨Sys2Proof.Tests.ready_of _ 0 (by decide) (by rfl), by decide +kernel, Sys2Proof.Tests.open0 _ (by decide)⟩, test_witness_footpath,
    Sys2Proof.Tests.ready_of _ 1 (by decide +kernel) (by rfl), by decide +kernel⟩

theorem test_witness_ExceptionsAreEnteredOrNest : Ready (Sys2Proof.Tests.sup []) 0 ∧ Open (Sys2Proof.Tests.sup []) 0 ∧
    Ready (Sys2Proof.Tests.tri 0 {}) 0 ∧ ((Sys2Proof.Tests.tri 0 {}).triad (0 : TriadId).val).exl = true ∧
    (definedWord 0 0xDFFFFFFF = false ∧ (0xDFFFFFFF : Word).toNat < 0x38 * 2 ^ 26) ∧
    (definedWord 0 0xE0000000 = false ∧ 0x38 * 2 ^ 26 ≤ (0xE0000000 : Word).toNat) ∧ (definedWord 1 0xE0000000 = true ∧ definedWord 0 0 = true) :=
  ⟨test_witness_Ready, Sys2Proof.Tests.open0 _ (by decide), Sys2Proof.Tests.ready_of _ 0 (by decide) (by rfl), by decide, by decide +kernel, by decide +kernel,
    by decide +kernel⟩

/-- An event pending for the supervisor at Roadbed, priority 1. -/
def Sys2Proof.Tests.irq : State :=
  ((Sys2Proof.Tests.tri 0 { status := 6, evrbase := 0x100 }).put (EVR_PEND_PEND 0) 2).setReg (EVR_ROUTE 1) 0x101

theorem test_witness_ReturnsCausesAndResynchronisation :
    (Ready (Sys2Proof.Tests.tri 0 { status := 2, eps := 2 }) 0 ∧ ((Sys2Proof.Tests.tri 0 { status := 2, eps := 2 }).triad (0 : TriadId).val).level = 2) ∧
    (Ready (Sys2Proof.Tests.foot 1 {}) 1 ∧ Open (Sys2Proof.Tests.foot 1 {}) (1 : TriadId).val) ∧
    (Ready (Sys2Proof.Tests.tri 0 { status := 1, eps := 2 }) 0 ∧ ((Sys2Proof.Tests.tri 0 { status := 1, eps := 2 }).triad (0 : TriadId).val).level = 1) ∧
    ((Sys2Proof.Tests.irq.triad 0).takes = true ∧ Sys2Proof.Tests.irq.haltDue 0 = false ∧ (Sys2Proof.Tests.irq.triad 0).exl = false ∧
      Sys2Proof.Tests.irq.nextInterrupt 0 = some (2, 1, 1)) ∧
    (∀ x ∈ [({ status := 1, check := some 7 } : Triad), { status := 1, overrun := true }], (((Sys2Proof.Tests.tri 1 x).triad 1).takes = true ∧
      (Sys2Proof.Tests.tri 1 x).haltDue 1 = false ∧ ((Sys2Proof.Tests.tri 1 x).triad 1).asyncOpen = true ∧ (Sys2Proof.Tests.tri 1 x).readyAt 1 2 = none)) ∧
    (let x := (Sys2Proof.Tests.tri 1 { mode := 1, odd := 2, upset := [2] }).triad 1
     x.mode = 1 ∧ ∀ k ∈ x.upset, k = x.odd) :=
  ⟨⟨Sys2Proof.Tests.ready_of _ 0 (by decide) (by rfl), by decide⟩, test_witness_footpath, ⟨Sys2Proof.Tests.ready_of _ 0 (by decide) (by rfl), by decide⟩,
    by decide +kernel, by decide +kernel, by decide⟩

/-! ### Vector instructions -/

/-- A lane at Roadbed, with predicate p1 = 1 and registers. -/
def Sys2Proof.Tests.vec : State := Sys2Proof.Tests.tri 1 { g := [(1, 0x40000010), (2, 0x40000008)], p := [(1, 1)], p2 := [(1, 1)] }

theorem Sys2Proof.Tests.ready_vec : Ready Sys2Proof.Tests.vec 1 := Sys2Proof.Tests.ready_of _ 1 (by decide +kernel) (by rfl)

theorem test_witness_VecReady : VecReady Sys2Proof.Tests.vec 1 where
  ready := Sys2Proof.Tests.ready_vec
  lane := by decide
  config := .inl (by decide)
  zs := fun r k hk => by
    have h : ∀ k < 32, decide (elemAt 3 0 k = elemAt 32 0 k % 7) = true := by decide +kernel
    exact h k hk
  zas := fun r k hk => by
    have h : ∀ k < 32, decide (elemAt 3 0 k = elemAt 48 0 k % 7) = true := by decide +kernel
    exact h k hk
  ps := fun r => by unfold Triad.pGood; simp [show Sys2Proof.Tests.vec.triad 1 = { g := [(1, 0x40000010), (2, 0x40000008)], p := [(1, 1)], p2 := [(1, 1)], run := .running } from rfl]
  ffm := by decide
  quiet := by decide +kernel

theorem test_witness_ShortReady : ShortReady Sys2Proof.Tests.vec 1 := ⟨Sys2Proof.Tests.ready_vec, .inl (by decide)⟩

theorem test_witness_ElementwiseInstructions : VecReady Sys2Proof.Tests.vec 1 ∧ (0 : BitVec 2) ∈ [(0 : BitVec 2), 1, 2] ∧ (15 : Reg).toNat < tyBits 0 ∧ (0 : BitVec 2) ≠ 3 :=
  ⟨test_witness_VecReady, by decide⟩

theorem test_witness_PermutesAndPredicates : VecReady Sys2Proof.Tests.vec 1 ∧ (7 : Reg).toNat < 8 ∧ saveFields ⟨8, 1, 0, 0, false, 0⟩ = true :=
  ⟨test_witness_VecReady, by decide⟩

theorem test_witness_VectorToScalarResults : VecReady Sys2Proof.Tests.vec 1 ∧ (7 : Reg).toNat < 8 ∧ saveFields ⟨1, 8, 0, 0, false, 0⟩ = true :=
  ⟨test_witness_VecReady, by decide⟩

theorem test_witness_AccumulatorsAccumulate : VecReady Sys2Proof.Tests.vec 1 ∧ (3 : Reg).toNat < 4 ∧ saveFields ⟨3, 3, 0, 0, false, 0⟩ = true :=
  ⟨test_witness_VecReady, by decide⟩

theorem test_witness_VectorInstructionsRefuse : (Ready (Sys2Proof.Tests.sup []) 0 ∧ Open (Sys2Proof.Tests.sup []) 0) ∧
    (Ready (Sys2Proof.Tests.foot 1 { vcfg := 0x20 }) 1 ∧ Open (Sys2Proof.Tests.foot 1 { vcfg := 0x20 }) (1 : TriadId).val ∧ (vcfgOf 0x20).bad = true) :=
  ⟨⟨test_witness_Ready, Sys2Proof.Tests.open0 _ (by decide)⟩,
    Sys2Proof.Tests.ready_of _ 1 (by decide +kernel) (by rfl), ⟨by decide +kernel, by decide +kernel⟩, by decide⟩

theorem Sys2Proof.Tests.vecPlain_of (s : State) (t : TriadId) (m : VMode) (o : VM) (w : Bool)
    (q : s.nextInterrupt t = none ∧ (s.triad t).check = none ∧ (s.triad t).overrun = false) (h : (s.vmElems t (s.triad t).vcfgNow m o).all (fun e => decide (e.2 % vmBytes m o = 0 ∧ e.2 < 2 ^ 40 ∧ devRange e.2 (vmBytes m o) = false ∧
      s.check (s.vectorIssuer t) e.2 (vmBytes m o) (if w then .store else .load) = .ok ∧
      ((List.range (e.2 + vmBytes m o - e.2 / 8 * 8)).all fun i => !s.busError (e.2 / 8 * 8 + i) w) = true ∧
      ((wordsOf e.2 (vmBytes m o)).all fun y => decide (s.errOf y = .good) && !s.injectAt y) = true ∧
      ((s.vectorIssuer t).unit = 0 ∨ s.roadTo (s.vectorIssuer t).lane = none))) = true) : Sys2Proof.Statements.VecPlain s t m o w := by
  refine ⟨q.1, q.2.1, q.2.2, fun i a hm => ?_⟩
  obtain ⟨h1, h2, h3⟩ := of_decide_eq_true (List.all_eq_true.mp h (i, a) hm)
  exact ⟨h1, h2, Sys2Proof.Tests.plain_of _ _ _ _ _ _ h3⟩

theorem test_witness_VectorMemoryMovesElements : VecReady Sys2Proof.Tests.vec 1 ∧ vmLegal .p false ⟨2, 1, 0, 1, false, 2, 0⟩ = true ∧
    Sys2Proof.Statements.VecPlain Sys2Proof.Tests.vec 1 .p ⟨2, 1, 0, 1, false, 2, 0⟩ false ∧ vmLegal .r true ⟨2, 2, 0, 0, false, 0, 0⟩ = true ∧
    Sys2Proof.Statements.VecPlain Sys2Proof.Tests.vec 1 .r ⟨2, 2, 0, 0, false, 0, 0⟩ true :=
  ⟨test_witness_VecReady, by decide, Sys2Proof.Tests.vecPlain_of _ _ _ _ _ (by decide +kernel) (by decide +kernel), by decide,
    Sys2Proof.Tests.vecPlain_of _ _ _ _ _ (by decide +kernel) (by decide +kernel)⟩

/-- Operands with no predicate and Z = 0, which each table of the short vectors has a row for: VADD and VFADD, a comparison, a permute. -/
theorem test_witness_short_tables : let o : VR := ⟨3, 1, 2, 0, false, 0⟩
    (o.pg = 0 ∧ o.z = false) ∧
    ((Sys2Proof.Statements.shortElementTable (Sys2Proof.Tests.vec.triad 1).vcfgNow 1 o 0).any fun p => decide ((0 : BitVec 5).toNat = p.2.1 ∧ o.ty ∈ p.2.2.1)) = true ∧
    ((Sys2Proof.Statements.shortElementTable (Sys2Proof.Tests.vec.triad 1).vcfgNow 1 { o with ty := 3 } 12).any fun p => decide ((12 : BitVec 5).toNat = p.2.1 ∧ 3 ∈ p.2.2.1)) = true ∧
    ((Sys2Proof.Statements.shortCompareTable (Sys2Proof.Tests.vec.triad 1).vcfgNow o).any fun p => decide ((5 : BitVec 5).toNat = p.1 ∧ o.ty ∈ p.2.1)) = true ∧
    ((Sys2Proof.Statements.shortPermuteTable Sys2Proof.Tests.vec 1 o).any fun p => decide ((12 : BitVec 5).toNat = p.1 ∧ o.ty ∈ p.2.1)) = true := by decide +kernel

theorem test_witness_ShortVectors : ShortReady Sys2Proof.Tests.vec 1 ∧ qFields ⟨1, 2, 1, 0, false, 0⟩ = true ∧ Sys2Proof.Tests.vec.eaddr 1 1 0 % 16 = 0 ∧
    PlainAccess Sys2Proof.Tests.vec (Sys2Proof.Tests.vec.triadIssuer 1) (Sys2Proof.Tests.vec.eaddr 1 1 0) 16 .load false ∧
    PlainAccess Sys2Proof.Tests.vec (Sys2Proof.Tests.vec.triadIssuer 1) (Sys2Proof.Tests.vec.eaddr 1 1 0) 16 .store true ∧
    (ShortReady (Sys2Proof.Tests.foot 1 {}) 1 ∧ Open (Sys2Proof.Tests.foot 1 {}) (1 : TriadId).val ∧ (Sys2Proof.Tests.foot 1 {}).eaddr 1 0 8 % 16 ≠ 0) :=
  ⟨test_witness_ShortReady, by decide, by decide, Sys2Proof.Tests.plain_of _ _ _ _ _ _ (by decide +kernel), Sys2Proof.Tests.plain_of _ _ _ _ _ _ (by decide +kernel),
    ⟨test_witness_footpath.1, .inr (by decide)⟩, test_witness_footpath.2, by decide⟩

/-! ### Events, faults, watchdogs -/

theorem test_witness_EventRouterWrites : (Sys2Proof.Tests.dev []).live = true ∧ (triadOf 0).isSome = true ∧ triadOf 0x60 = none ∧
    (Sys2Proof.Tests.dev []).fcu.queue = [] ∧ ({ Sys2Proof.Tests.dev [] with fcu := { queue := [⟨2, 1, 0, 0, none, []⟩] } } : State).fcu.queue ≠ [] := by
  decide +kernel

theorem test_witness_FaultUnit : Sys2Proof.Statements.Roadbed (Sys2Proof.Tests.dev []) 0 2 ∧ (Sys2Proof.Tests.dev []).armable = true ∧
    (Sys2Proof.Tests.dev [(FCU_STATUS_ARMED, 1)]).armable = false ∧ (Sys2Proof.Tests.dev []).flag (FCU_CH_STATUS_DEFERRED 319) = false := by
  unfold Sys2Proof.Statements.Roadbed; decide +kernel

/-- A channel that waits for the host's choice, its deadline at 5 ns. -/
def Sys2Proof.Tests.deferred (n sev : Nat) : State :=
  { Sys2Proof.Tests.dev [(FCU_STATUS_SAFE, 0), (FCU_CH_STATUS_DEFERRED n, 1)] with fcu := { deferred := [⟨n, sev, 5⟩] } }

/-- A channel with one fault sampled as 11 once. -/
def Sys2Proof.Tests.sampled : State :=
  { Sys2Proof.Tests.dev [(FCU_CH_CFG_SEV 253, 3)] with fcu := { fresh := false, pairs := [(253, { todo := [{}], run := 1, prev := some 3 })] } }

theorem test_witness_FaultsAreConfirmedAndDeferred :
    (∀ x ∈ [(319, 5), (253, 6)], (Sys2Proof.Tests.deferred x.1 x.2).fcu.deferred.find? (fun e => e.channel = x.1) = some ⟨x.1, x.2, 5⟩ ∧ laneOfFc x.1 = none ∧
      blockOfFc x.1 = none ∧ (Sys2Proof.Tests.deferred x.1 x.2).flag FCU_STATUS_SAFE = false ∧ (Sys2Proof.Tests.deferred x.1 x.2).get SOV_STATUS_ROLE ≠ 2) ∧
    ((Sys2Proof.Tests.dev []).boot ≠ .held ∧ Sys2Proof.Tests.sampled.boot ≠ .held ∧ (Sys2Proof.Tests.dev []).fcu.pairs = [] ∧ (Sys2Proof.Tests.dev []).flag RWK_BREAK_BUSY = false) ∧
    (Sys2Proof.Tests.sampled.fcu.pairs = [(253, { todo := [{}], run := 1, prev := some 3 })] ∧ (fcRow 253).isSome = true ∧
      Sys2Proof.Tests.sampled.flag RWK_BREAK_BUSY = false ∧ Sys2Proof.Tests.sampled.fcu.fresh = false ∧ Sys2Proof.Tests.sampled.flag (FCU_CH_STATUS_PEND 253) = false ∧
      Sys2Proof.Tests.sampled.flag FCU_FIRST_CH_VALID = false ∧ Sys2Proof.Tests.sampled.fcu.queue.length < 64 ∧ 1 ≤ Sys2Proof.Tests.sampled.get (FCU_CH_CFG_SEV 253) ∧
      Sys2Proof.Tests.sampled.get (FCU_CH_CFG_SEV 253) < 4) := by decide +kernel

/-- The Milestone running in a state, at tick `n`. -/
def Sys2Proof.Tests.mile (st n : Nat) (m : Milestone) : State := { Sys2Proof.Tests.dev [(MSW_STATUS_STATE, st), (MSW_CTRL_EN, 1)] with mile := { m with running := true }, up := 1000 * n }

theorem test_witness_Milestone :
    (let s := Sys2Proof.Tests.mile 2 5 { closeT := 6 }
     Sys2Proof.Statements.Roadbed s 0 2 ∧ Sys2Proof.Statements.WindowIsOpen s ∧ mswToken (s.get MSW_QUESTION_Q) (s.reg MSW_KEY).toNat ≠ 0) ∧
    (let s := Sys2Proof.Tests.mile 1 4 { openT := 5 }
     s.mile.running = true ∧ s.get MSW_STATUS_STATE = 1 ∧ s.since (s.get MSW_LAST_TICK_VALUE) < s.mile.openT) ∧
    (let s := Sys2Proof.Tests.mile 3 4 { graceLen := 5 }
     s.mile.running = true ∧ s.get MSW_STATUS_STATE = 3 ∧ s.since s.mile.graceFrom < s.mile.graceLen) ∧
    ((Sys2Proof.Tests.dev []).flag MSW_STATUS_KEY_SET = false ∧ (Sys2Proof.Tests.dev [(MSW_STATUS_KEY_SET, 1)]).flag MSW_STATUS_KEY_SET = true ∧
      (Sys2Proof.Tests.dev [(MSW_CTRL_EN, 0)]).flag MSW_CTRL_EN = false ∧
      mswSettings 1 ((Sys2Proof.Tests.dev []).get MSW_CLOSE_TICKS) ((Sys2Proof.Tests.dev []).get MSW_GRACE_TICKS) = true ∧
      mswSettings 0 ((Sys2Proof.Tests.dev []).get MSW_CLOSE_TICKS) ((Sys2Proof.Tests.dev []).get MSW_GRACE_TICKS) = false) ∧
    (let s := Sys2Proof.Tests.mile 1 64 { pair := some 1 }
     s.mile.pair = some 1 ∧ s.since 1 < 64 ∧ s.flag MSW_CTRL_LOCK = false ∧ (s.put MSW_CTRL_LOCK 1).flag MSW_CTRL_LOCK = true) ∧
    (let s := Sys2Proof.Tests.mile 1 5 { openT := 5, closeT := 6 }
     s.get MSW_STATUS_STATE = 1 ∧ s.mile.openT ≤ s.since (s.get MSW_LAST_TICK_VALUE) ∧ s.since (s.get MSW_LAST_TICK_VALUE) < s.mile.closeT) ∧
    (let s := Sys2Proof.Tests.mile 2 6 { closeT := 6 }
     s.get MSW_STATUS_STATE = 2 ∧ s.mile.closeT ≤ s.since (s.get MSW_LAST_TICK_VALUE) ∧
       s.since ((s.get MSW_LAST_TICK_VALUE + s.mile.closeT) % 2 ^ 32) < s.get MSW_GRACE_TICKS) ∧
    (let s := Sys2Proof.Tests.mile 3 5 { graceLen := 5 }
     s.get MSW_STATUS_STATE = 3 ∧ s.mile.graceLen ≤ s.since s.mile.graceFrom) := by
  unfold Sys2Proof.Statements.Roadbed Sys2Proof.Statements.WindowIsOpen; decide +kernel

/-- A supervisor activity with one check-in expected. -/
def Sys2Proof.Tests.activity (n : Nat) : State :=
  { Sys2Proof.Tests.dev [(WMK_SUP_CFG_EN 15, 1), (WMK_SUP_CFG_EXPECT 15, 1)] with windows := [(47, { count := n })] }

theorem test_witness_WaymarkRegisters : Sys2Proof.Statements.Roadbed (Sys2Proof.Tests.dev []) 0 2 ∧
    ((Sys2Proof.Tests.activity 0).live = true ∧ (Sys2Proof.Tests.activity 0).flag (WMK_SUP_CFG_EN 15) = true ∧
      ((Sys2Proof.Tests.activity 0).window 47).count < (Sys2Proof.Tests.activity 0).get (WMK_SUP_CFG_EXPECT 15) ∧ ((Sys2Proof.Tests.activity 0).window 47).flagged = false) ∧
    ((Sys2Proof.Tests.activity 1).window 47).count = (Sys2Proof.Tests.activity 1).get (WMK_SUP_CFG_EXPECT 15) := by
  unfold Sys2Proof.Statements.Roadbed; decide +kernel

/-! ### The engine -/

/-- An image of one partition with one task, on logical lane 0. -/
def Sys2Proof.Tests.img : Image :=
  { base := 0x20000000, format := 0, sectionsN := 0, length := 0, device := 0, minProsal := 0, rate := 2, bsize := 0, partitionsN := 1, laybyIdle := 0, idleBlocks := 0,
    hmacKey := 0, flags := 0, detClass := 0, tolerance := 0, imageId := 1, resv := 0, sections := [], parts := [⟨0, 0, 0, 1, 0, 100, 0, 0, 64, 0, 0⟩],
    tasks := [⟨0, 0, 16, 50, 10, 0xFFFF, 3, 0, 0⟩], coefs := [], routes := [], express := [], params := [], lanes := [0], allocs := [] }

/-- The image running, with lane 0 as given. -/
def Sys2Proof.Tests.run (l : LaneRun) (e : Engine) (fs : List (Fld × Nat)) : State :=
  { Sys2Proof.Tests.dev ((PWR_CLUSTER_STATE 0, 3) :: fs) with eng := { e with running := some Sys2Proof.Tests.img, seqRate := 2, lanes := (0, l) :: e.lanes, period := some 1 } }

def Sys2Proof.Tests.task0 : Task := ⟨0, 0, 16, 50, 10, 0xFFFF, 3, 0, 0⟩
def Sys2Proof.Tests.part0 : Partition := ⟨0, 0, 0, 1, 0, 100, 0, 0, 64, 0, 0⟩

theorem test_witness_TasksRunReplayAndFail :
    (Sys2Proof.Tests.run { phase := .waiting } {} []).nextTask 0 = some Sys2Proof.Tests.task0 ∧
    (∀ ph ∈ [LanePhase.running, .replaying], let s := Sys2Proof.Tests.run { phase := ph } {} []
      Sys2Proof.Statements.OnTask s 0 Sys2Proof.Tests.part0 Sys2Proof.Tests.task0 ∧ Sys2Proof.Statements.CleanRun s 0 ∧ (s.lane 0).shadow = none ∧ s.mayReplay 0 (s.lane 0).task = true ∧ s.tiedShadows = []) ∧
    (let s := Sys2Proof.Tests.run { phase := .running, replayed := [0] } {} []
     Sys2Proof.Statements.OnTask s 0 Sys2Proof.Tests.part0 Sys2Proof.Tests.task0 ∧ s.mayReplay 0 (s.lane 0).task = false) ∧
    (let s := Sys2Proof.Tests.tri 18 { budget := 0x8000000000000001 }
     (s.triad 18).budget.getLsbD 63 = true ∧ (s.triad 18).run = .running) := by
  unfold Sys2Proof.Statements.OnTask Sys2Proof.Statements.CleanRun; decide +kernel

/-- A mirror of one byte of logical lane 0, and Depot on. -/
def Sys2Proof.Tests.mirror : State :=
  { Sys2Proof.Tests.run {} { mirror := [(0, [⟨1, [7], List.replicate 64 0, false, true⟩])] } [] with memu := {} }

theorem test_witness_CommitsMirrorsAndLayby :
    (let s := Sys2Proof.Tests.run { phase := .finished } {} []
     s.eng.running = some Sys2Proof.Tests.img ∧ s.gateOpens 0 = true ∧ s.catching = false ∧ (s.lane 0).shadow = none) ∧
    (let s := Sys2Proof.Tests.mirror
     Sys2Proof.Tests.img.partOn 0 = some 0 ∧ s.mirrors 0 = [⟨1, [7], List.replicate 64 0, false, true⟩] ∧
       ∀ w ∈ wordsOf (s.mirrorAddr 0 0 (Sys2Proof.Tests.img.slotLen 0)) 65, s.busError (8 * w) true = false) ∧
    (let s := Sys2Proof.Tests.run {} { layby := [(16, { home := some 15 })], lanes := [(16, { phase := .preparing })] } []
     (s.layby 16).home = some 15 ∧ (s.lane 16).phase = .preparing) ∧
    (let s := Sys2Proof.Tests.run { phase := .failed, shadow := some 17 } { layby := [(17, { home := some 0 })], lanes := [(17, { phase := .finished })] } [(BSQ_LAYBY_USE17, 1)]
     (s.layby 17).home = some 0 ∧ s.isShadow 17 = true ∧ s.catching = false ∧ (s.lane 0).shadow = some 17 ∧ (s.lane 0).phase = .failed ∧
       (s.lane 0).committed = false ∧ (s.lane 17).clean = true) ∧
    (let s := Sys2Proof.Tests.run {} { layby := [(16, { home := some 0, road := true })] } [(BSQ_LAYBY_USE16, 3)]
     (s.layby 16).home = some 0 ∧ s.get (laybyUse 16) = 3 ∧ s.get (laybySettled 16) = 0 ∧ (s.layby 16).road = true ∧ s.partOf 16 = some Sys2Proof.Tests.part0) ∧
    17 ∈ ({ testing := [17] } : Engine).testing ∧
    (let s := Sys2Proof.Tests.run {} { pending := some Sys2Proof.Tests.img, switch := some { block := 9, hot := false, staging := true } } []
     s.eng.switch = some { block := 9, hot := false, staging := true } ∧ s.mayStage = true) := by decide +kernel

theorem test_witness_BoundariesAndClusters :
    (let s : State := { Sys2Proof.Tests.dev [] with eng := { seqRate := 2 } }
     s.eng.due = none ∧ s.eng.seqRate ≠ 0 ∧ s.eng.running = none ∧ s.eng.switch = none ∧ s.eng.preset = none ∧ s.eng.presetAt = none ∧ s.blockN + 1 < 2 ^ 64) ∧
    (let s := Sys2Proof.Tests.run {} {} []
     s.eng.due = none ∧ s.eng.running = some Sys2Proof.Tests.img ∧ s.eng.switch = none ∧ s.eng.preset = none ∧ s.eng.presetAt = none ∧ s.eng.updates = []) ∧
    (let s : State := { Sys2Proof.Tests.dev [] with eng := { seqRate := 2, due := some 1, outs := [⟨1, 5, [], Sys2Proof.Tests.img⟩] } }
     s.eng.due = some 1 ∧ s.stepDue = false ∧ s.eng.running = none ∧ s.eng.switch = none ∧ s.catching = false ∧ s.eng.period = none ∧ s.eng.outs ≠ []) ∧
    (let s := Sys2Proof.Tests.run {} { pending := some Sys2Proof.Tests.img, switch := some { block := 9, hot := false } } []
     s.eng.switch.isSome = true ∧ s.mayAbort = true) ∧ (Sys2Proof.Tests.run {} { switch := some { block := 2, hot := false } } []).mayAbort = false ∧
    (Sys2Proof.Tests.dev [(MCK_STATUS_STATE, 3), (MCK_STATUS_SOURCE, 1)]).ptpLocked = true ∧
    ((Sys2Proof.Tests.dev []).ptpLocked = false ∧ (Sys2Proof.Tests.dev []).get SOV_STATUS_ROLE < 2) ∧
    Sys2Proof.Statements.Roadbed (Sys2Proof.Tests.dev []) 0 2 ∧
    (Sys2Proof.Tests.dev [(PWR_CLUSTER_STATE 8, 4), (PWR_STATE_STATE, 3)]).get (PWR_CLUSTER_STATE 8) = 4 ∧
    (let s := Sys2Proof.Tests.run {} {} []
     Sys2Proof.Tests.img.idleBlocks ≤ Sparse.get (fun _ => 0) s.eng.idle 0 ∧ s.get (PWR_CLUSTER_STATE 0) = 3 ∧ s.eng.hostPower = false) := by
  unfold Sys2Proof.Statements.Roadbed; decide +kernel

theorem test_witness_ExpressBlocks :
    (let p : ExpProg := ⟨63, 2, 0, 0, 0, 0, 0, 0, 0, 0, 0, 0, 0, 0, 0, [], [], [], []⟩
     let s : State := { Sys2Proof.Tests.dev [] with exp := { progs := [p] } }
     s.exp.progs.find? (fun p => p.channel = 63) = some p ∧ s.expUpset (s.get (EXP_MAP_BLOCK 63)) = 0) ∧
    (Sys2Proof.Tests.dev [(EXP_VOTE_MODE 8, 1)]).get (EXP_VOTE_MODE 8) = 1 ∧
    (let s : State := { Sys2Proof.Tests.dev [] with exp := { failed := [7] } }
     s.exp.failed.find? (fun b => decide (b < 8)) = some 7 ∧ s.laybyExpressFree = true) ∧
    Sys2Proof.Statements.Roadbed (Sys2Proof.Tests.dev []) 0 2 ∧
    (let s := Sys2Proof.Tests.dev [(EXP_MOVE_BUSY, 1), (EXP_MOVE_BLOCK, 7)]
     s.flag EXP_MOVE_BUSY = true ∧ s.get64 EXP_MOVE_LO ≤ s.blockN ∧ s.get EXP_MOVE_BLOCK < 8 ∧ s.flag EXP_MOVE_RETURN = false ∧ s.laybyExpressFree = true ∧
       s.get EXP_MOVE_BLOCK ∉ s.exp.out) := by
  unfold Sys2Proof.Statements.Roadbed; decide +kernel

/-! ### Resets, memory units, Tollgates, movers, the gate, the host -/

/-- The boot ROM with no header in slot B, and bytes of slot A written. -/
def Sys2Proof.Tests.slots (c : List Host.Cell) : State :=
  { State.reset with boot := .rom, mem := c ++ (List.range 16).map fun i => (0x10300000 + i, 0) }

theorem test_witness_ResetSequence :
    ((Sys2Proof.Tests.dev []).boot ≠ .held ∧ ({ Sys2Proof.Tests.dev [] with pulling := true } : State).pulling = true) ∧
    (({ State.reset with boot := .held } : State).boot = .held ∧ ({ State.reset with boot := .held } : State).pulling = false ∧
      State.reset.bkp.counter = some State.reset.bkp.c0 ∧ ({ State.reset with bkp := { c0 := 1, c1 := 2, c2 := 3 } } : State).bkp.counter = none) ∧
    (State.reset.boot = .options ∧ ({ State.reset with boot := .fill } : State).boot = .fill) ∧
    (Sys2Proof.Tests.slots []).slotOrder.find? (Sys2Proof.Tests.slots []).slotPasses = some 0 ∧
    (Sys2Proof.Tests.slots [(0x10000000, 0)]).slotOrder.find? (Sys2Proof.Tests.slots [(0x10000000, 0)]).slotPasses = none ∧
    ((Sys2Proof.Tests.dev []).boot = .firmware ∧ (Sys2Proof.Tests.dev []).flag LPD_CONFIG_TRAINED = false ∧ dramConfig 3 1 = true ∧ (Sys2Proof.Tests.dev []).dramKept = false ∧
      (Sys2Proof.Tests.dev []).flag RST_MARCH_VALID = false) := by decide +kernel

theorem test_witness_RequestsAndMonitors : Sys2Proof.Statements.Roadbed (Sys2Proof.Tests.dev [(PWR_STATE_STATE, 3)]) 0 2 ∧ (Sys2Proof.Tests.dev [(PWR_STATE_STATE, 3)]).get PWR_STATE_STATE = 3 ∧
    (Sys2Proof.Tests.dev []).get PWR_STATE_STATE ≠ 3 ∧ ({ Sys2Proof.Tests.dev [] with fcu := { resetAt := some 5 } } : State).fcu.resetAt = some 5 ∧
    (let s : State := State.setReg { State.reset with boot := .off } PWR_WAKE 0x80008000
     s.boot = .off ∧ (s.reg PWR_WAKE).getLsbD 15 = true ∧ (s.reg PWR_WAKE).getLsbD 31 = true) ∧
    ((Sys2Proof.Tests.dev []).bkp.stopped = false ∧ (Sys2Proof.Tests.dev []).bkp.valid = true ∧ ({ State.reset with bkp := { valid := false } } : State).bkp.valid = false) := by
  unfold Sys2Proof.Statements.Roadbed; decide +kernel

theorem test_witness_MemoryUpkeep :
    (Sys2Proof.Statements.Roadbed (Sys2Proof.Tests.dev []) 0 2 ∧ (Sys2Proof.Tests.dev [(bankPwr 9 95, 2)]).mayMarch 9 95 true = true) ∧
    (let s : State := { Sys2Proof.Tests.dev [] with memu := { march := some { mem := 9, bank := 95, preserve := true, row := 1023 } } }
     s.memu.march = some { mem := 9, bank := 95, preserve := true, row := 1023 } ∧ 1023 < s.marchTotal 9 ∧ s.marchTotal 9 ≤ 1024) ∧
    0 < (Sys2Proof.Tests.dev [(LPD_CONFIG_RAW, 3)]).marchTotal 10 ∧
    (let s : State := { Sys2Proof.Tests.dev [] with memu := { rowCopy := [(repairKey 9 95 3, 7)] } }
     s.memu.rowCopy.find? (fun x => x.1 = repairKey 9 95 3) = some (repairKey 9 95 3, 7)) ∧
    (let s : State := { Sys2Proof.Tests.dev [] with memu := { moving := [(9 * 128 + 95, 4)] } }
     Sparse.get (fun _ => 0) s.memu.moving (9 * 128 + 95) = 3 + 1 ∧ 95 < memBanks 9) ∧
    (let s : State := { Sys2Proof.Tests.dev [] with memu := { writeBack := [0x40000000 / 8] } }
     0x40000000 / 8 ∈ s.memu.writeBack ∧ s.busError (8 * (0x40000000 / 8)) true = false) ∧
    (let s := Sys2Proof.Tests.dev [(LPD_CONFIG_TRAINED, 1), (LPD_STATUS_SELF_REFRESH, 0), (LPD_CONFIG_RAW, 3), (SCB_CTRL_LPD_EN, 1), (SCB_CTRL_SPM_EN, 1)]
     s.flag LPD_CONFIG_TRAINED = true ∧ s.flag LPD_STATUS_SELF_REFRESH = false ∧ s.flag (scrubEn 10) = true ∧ s.flag (scrubEn 0) = true ∧ s.flag SCB_CTRL_HOST = false ∧
       0 < (s.scrubRange 0).2 ∧ s.busError (8 * (s.scrubRange 0).1) false = false ∧ s.flag RWK_INJECT_BUSY = false ∧
       ({ s with werr := [((s.scrubRange 0).1, WErr.correctable)] } : State).errOf (s.scrubRange 0).1 = .correctable) ∧
    255 ∈ ({ pageCopy := [255] } : MemUnit).pageCopy := by
  unfold Sys2Proof.Statements.Roadbed; decide +kernel

theorem test_witness_ControlWordsAndLedger :
    (Sys2Proof.Statements.Roadbed (Sys2Proof.Tests.dev []) 0 2 ∧ (Sys2Proof.Tests.dev []).memu.tcw.find? (fun e => e.1 = 4) = none) ∧
    (let q : TcwSeq := ⟨0, FCU_CH_CFG 319, 7, true, 0⟩
     let s : State := { Sys2Proof.Tests.dev [] with memu := { tcw := [(4, q)] }, time := 1000 }
     s.memu.tcw.find? (fun e => e.1 = 4) = some (4, q) ∧ s.time ≤ q.time + 1000 ∧ s.get (FCU_CH_CFG_SEV_MIN 319) ≤ 7) ∧
    ((Sys2Proof.Tests.dev [(LDG_WADDR_VALUE, 0xFFFFF)]).flag LDG_CMD_BUSY = false ∧ (Sys2Proof.Tests.dev [(LDG_WADDR_VALUE, 0xFFFFF)]).ledgerLocked 0x7FFFF8 = false ∧
      (Sys2Proof.Tests.dev [(LDG_WADDR_VALUE, 0xFFFFF)]).get LDG_WADDR_VALUE * 8 = 0x7FFFF8) ∧
    (let s : State := { Sys2Proof.Tests.dev [] with memu := { ledger := some ⟨0x7FFFF8, 1, false⟩ } }
     s.memu.ledger = some ⟨0x7FFFF8, 1, false⟩ ∧ 0x7FFFF8 / 8 * 8 ∉ s.memu.worn) ∧
    (let e : QEntry := ⟨2, 1, 0, 0, none, []⟩
     let s : State := { Sys2Proof.Tests.dev [] with fcu := { queue := [e] } }
     s.fcu.queue = [e] ∧ s.live = true) := by
  unfold Sys2Proof.Statements.Roadbed; decide +kernel

theorem test_witness_TollgateRegisters :
    (tgHasSets 27 = true ∧ Sys2Proof.Statements.Roadbed (Sys2Proof.Tests.dev []) 0 2 ∧ (Sys2Proof.Machine.regAt (TG_CTRL 27 + 0x100 + 0x180 * 3 + 0)).isSome = true) ∧
    (let s : State := { Sys2Proof.Tests.dev [] with tg := { dirty := [4 * 27] } }
     ∀ k ∈ s.dirtySets 27, (s.stagedSet 27 k).bad = false) ∧
    (let s : State := { Sys2Proof.Tests.dev [] with tg := { dirty := [4 * 27] }, regs := [(TG_MBASE 27 0 0, 2), (TG_MLIMIT 27 0 0, 1), (TG_MPERM 27 0 0, 0xFFFFFFFF)] }
     ∃ k ∈ s.dirtySets 27, (s.stagedSet 27 k).bad = true) ∧
    ((Sys2Proof.Tests.dev []).flag (TG_LOCK_PERM_VALID 7) = false ∧ (Sys2Proof.Tests.dev []).lockOverlaps 7 = false ∧
      (Sys2Proof.Tests.dev [(TG_LOCK_PERM_VALID 7, 1)]).flag (TG_LOCK_PERM_VALID 7) = true ∧ (Sys2Proof.Tests.dev [(TG_LOCK_PERM_VALID 0, 1)]).lockOverlaps 7 = true) := by
  unfold Sys2Proof.Statements.Roadbed; decide +kernel

/-- Channel 63 of mover 3 in a state, with its work. -/
def Sys2Proof.Tests.mover (st : Nat) (x : Chan) : State :=
  { Sys2Proof.Tests.dev [(MVR_CH_STATUS_STATE 3 63, st), (MVR_CH_CFG_EN 3 63, 1), (MVR_CH_DESC_LO_ADDR 3 63, 0x40000020 / 32)] with
    chans := [(3 * 64 + 63, x)], mem := [(0x40000020, 0), (0x40000021, 1), (0x40000022, 0), (0x40000023, 0x40), (0x4000002B, 0x20), (0x40000030, 64)] }

theorem test_witness_MoversCopyBytes :
    ((Sys2Proof.Tests.mover 0 {}).live = true ∧ (Sys2Proof.Tests.mover 0 {}).chanWriter 0 2 3 63 = true ∧ (Sys2Proof.Tests.mover 0 {}).get (MVR_CH_STATUS_STATE 3 63) = 0 ∧
      (Sys2Proof.Tests.mover 0 {}).flag (MVR_CH_CFG_EN 3 63) = true ∧ (Sys2Proof.Tests.mover 2 {}).get (MVR_CH_STATUS_STATE 3 63) = 2 ∧
      (Sys2Proof.Tests.mover 0 {}).chanWriter 0x60 1 3 63 = false) ∧
    (let s := Sys2Proof.Tests.mover 1 {}
     let a := s.chDesc 3 63
     s.chanRuns 3 63 = true ∧ (s.chan 3 63).loaded = false ∧ s.descPlace a = true ∧ Sys2Proof.Statements.MoverClear s (s.moverIssuer 3 63) a 32 .load false ∧
       descGood (s.le a 8) (s.le (a + 8) 8) (s.le (a + 16) 4) (s.le (a + 20) 2) (s.le (a + 24) 8) = true) ∧
    (let s : State := { Sys2Proof.Tests.mover 1 {} with mem := [] }
     Sys2Proof.Statements.MoverClear s (s.moverIssuer 3 63) (s.chDesc 3 63) 32 .load false ∧ descGood 0 0 0 0 0 = false) ∧
    (let x : Chan := { src := 0x40000100, dst := 0x20000001, len := 64, loaded := true }
     let s := Sys2Proof.Tests.mover 1 x
     s.moverNext 3 = some 63 ∧ (s.chan 3 63).flags % 2 = 0 ∧ x.burst = 63 ∧ Sys2Proof.Statements.MoverClear s (s.moverIssuer 3 63) 0x40000100 63 .load false ∧
       Sys2Proof.Statements.MoverClear s (s.moverIssuer 3 63) 0x20000001 63 .store true) ∧
    (let x : Chan := { desc := 0x40000020, len := 64, done := 64, loaded := true, flags := 2 }
     let s := Sys2Proof.Tests.mover 1 x
     s.chanRuns 3 63 = true ∧ x.len ≤ x.done ∧ x.desc % 32 = 0 ∧ s.check (s.moverIssuer 3 63) (x.desc + 0x16) 2 .store = .ok ∧ isDevice (x.desc + 0x16) = false ∧
       s.busError (x.desc + 0x16) true = false ∧ s.errOf (x.desc / 8 + 2) = .good ∧ s.injectAt (x.desc / 8 + 2) = false) := by
  unfold Sys2Proof.Statements.MoverClear; decide +kernel

/-- Rules that give an inbound unit a kilobyte of scratchpad and Depot at levels 1 and 2. -/
def Sys2Proof.Tests.grant (u : Nat) : Nat × RuleSet := (4 * u, { mem := [(0, { base := 0x400000, limit := 0x400003, valid := true, perm := 0xD8 })] })

theorem test_witness_DebugAndRoadworks :
    (let s := Sys2Proof.Tests.dev [(DBG_STATUS_LEVEL, 2)]
     s.live = true ∧ s.get DBG_STATUS_LEVEL = 2 ∧ s.eng.running = none ∧ s.flag (DBG_CORE_HALTED 18) = false ∧ s.flag RWK_INJECT_BUSY = false ∧ s.flag RWK_BREAK_BUSY = false ∧
       (fcRow 253).isSome = true ∧ s.get (FCU_CH_CFG_SEV 253) < 6) ∧
    ((Sys2Proof.Tests.tri 18 {}).triad 18).run = .running ∧ (({ State.reset with triads := [(18, { run := .stopped })] } : State).triad 18).run = .stopped ∧
    (Sys2Proof.Tests.dev [(DBG_CORE_HALTED 18, 1)]).flag (DBG_CORE_HALTED 18) = true ∧ (Sys2Proof.Tests.dev [(RWK_BREAK_BUSY, 1)]).flag RWK_BREAK_BUSY = true ∧
    (Sys2Proof.Tests.dev []).flag FCU_STATUS_ARMED = false ∧
    (let s : State := { Sys2Proof.Tests.dev [] with tg := { sets := [Sys2Proof.Tests.grant 27] } }
     let w := (s.tap 0x10).gateUsed
     s.live = true ∧ s.option0 3 = false ∧ (w.inRead (w.inboundIssuer 0x7F 27) 0x40000000 4).2 = .ok [0, 0, 0, 0] ∧
       (w.inWrite (w.inboundIssuer 0x7F 27) 0x40000000 (leBytes 4 7)).2 = .ok []) := by decide +kernel

/-- Mailbox 15 in a state, with the bytes of a request. -/
def Sys2Proof.Tests.mbox (st : Nat) (bs : List Byte) : State :=
  { (Sys2Proof.Tests.dev [(MBX_STATE_STATE 15, st), (MBX_CTRL_PROSAL_UP, 1)]).setBytes (mboxAddr 15) bs with host := { posted := [15] } }

/-- GET_STATUS with no body, SEQ 1 and its CRC. -/
def Sys2Proof.Tests.request : List Byte :=
  let h := leBytes 2 0x0102 ++ leBytes 2 1 ++ List.replicate 12 0
  h ++ leBytes 4 (crc32c h).toNat

/-- Ring 7 on, with entries offered. -/
def Sys2Proof.Tests.ring (n : Nat) (fs : List (Fld × Nat)) : State :=
  (Sys2Proof.Tests.dev ((MBX_RING_STAT_ON 7, 1) :: fs)).setReg (MBX_RING_PROD 7) (BitVec.ofNat 32 n)

theorem test_witness_MailboxesAndRings :
    (Sys2Proof.Statements.HostWrites (Sys2Proof.Tests.dev []) 0x60 0 ∧ (Sys2Proof.Tests.dev []).get (MBX_STATE_STATE 15) = 0 ∧ (Sys2Proof.Tests.dev []).prosalUp = false ∧ (Sys2Proof.Tests.dev []).boot ≠ .recovery ∧
      (Sys2Proof.Tests.dev [(MBX_CTRL_PROSAL_UP, 1)]).serves = true ∧ (Sys2Proof.Tests.mbox 3 []).get (MBX_STATE_STATE 15) = 3 ∧ (Sys2Proof.Tests.mbox 1 []).get (MBX_STATE_STATE 15) = 1) ∧
    ((Sys2Proof.Tests.ring 0 []).flag (MBX_RING_STAT_ON 7) = true ∧ 2 ^ ((Sys2Proof.Tests.ring 0 []).ring 7).log2 < 2 ^ 31) ∧
    ((Sys2Proof.Tests.ring 32 [(SOV_STATUS_ROLE, 3)]).ringNext = some 7 ∧ (Sys2Proof.Tests.ring 32 [(SOV_STATUS_ROLE, 3)]).ringHeld 7 = 32 ∧
      (Sys2Proof.Tests.ring 1 []).ringNext = some 7 ∧ (Sys2Proof.Tests.ring 1 []).get SOV_STATUS_ROLE < 2) ∧
    ((Sys2Proof.Tests.dev []).boot = .firmware ∧ (Sys2Proof.Tests.dev []).prosalUp = false ∧ (Sys2Proof.Tests.dev []).flag (DBG_CORE_HALTED 0) = false) ∧
    (let s := Sys2Proof.Tests.mbox 1 (List.replicate 4 0 ++ [2])
     s.host.posted = [15] ∧ s.ready 15 = true ∧ lengthGood (s.mboxLe 15 4 2) = false) ∧
    (let s := Sys2Proof.Tests.mbox 1 (Sys2Proof.Tests.request.take 16)
     s.ready 15 = true ∧ lengthGood (s.mboxLe 15 4 2) = true ∧ s.mboxLe 15 16 4 ≠ (crc32c (s.bytes (mboxAddr 15) 16)).toNat) ∧
    (let s := Sys2Proof.Tests.mbox 1 Sys2Proof.Tests.request
     s.ready 15 = true ∧ lengthGood (s.mboxLe 15 4 2) = true ∧ s.mboxLe 15 16 4 = (crc32c (s.bytes (mboxAddr 15) 16)).toNat ∧ s.mboxLe 15 0 2 ≠ 0x0703 ∧
       (Sparse.get (fun _ => (0, (0 : Word), [])) s.host.last 15).2.2 = []) := by
  unfold Sys2Proof.Statements.HostWrites; decide +kernel

/-- The host's window on scratchpad 0, its masters enabled and granted. -/
def Sys2Proof.Tests.window : State :=
  { Sys2Proof.Tests.dev [(MBX_CTRL_PCIE_EN, 1), (MBX_CTRL_QSPI_EN, 1), (MBX_WINDOW_LO_BASE, 0x4000)] with tg := { sets := [Sys2Proof.Tests.grant 23, Sys2Proof.Tests.grant 24] } }

theorem test_witness_HostMastersReachMemory :
    (let s := Sys2Proof.Tests.window
     s.live = true ∧ s.flag MBX_CTRL_PCIE_EN = true ∧ s.flag MBX_CTRL_QSPI_EN = true ∧ s.barRange true 0x800001 256 = some 0x40000001 ∧
       Sys2Proof.Statements.InboundClear s (s.inboundIssuer 0x60 23) 0x40000001 256 .store true ∧
       Sys2Proof.Statements.InboundClear s (s.inboundIssuer 0x60 23) 0x40000001 256 .load false ∧ s.barRange false 0x10000 1 = none ∧
       s.qspiRange 0x800001 3 = some 0x40000001 ∧ Sys2Proof.Statements.InboundClear s (s.inboundIssuer 0x61 24) 0x40000001 3 .store true ∧
       Sys2Proof.Statements.InboundClear s (s.inboundIssuer 0x61 24) 0x40000001 3 .load false) ∧
    (let s : State := { Sys2Proof.Tests.window with werr := [(0x40000000 / 8, .uncorrectable)] }
     s.inboundCheck (s.inboundIssuer 0x60 23) 0x40000001 1 .load = .ok ∧ isDevice 0x40000001 = false ∧ s.rangeError 0x40000001 1 false = false ∧
       (s.readChecks (raiseOf (s.inboundIssuer 0x60 23) 10) (wordsOf 0x40000001 1)).2.isSome = true) := by
  unfold Sys2Proof.Statements.InboundClear; decide +kernel

/-! ### The network, Junction and the TDM ports -/

/-- The image with one route, its inputs delivered by the running image. -/
def Sys2Proof.Tests.routed (r : Route) (fs : List (Fld × Nat)) : State :=
  let s := Sys2Proof.Tests.dev fs
  let im := { Sys2Proof.Tests.img with routes := [r] }
  { s with eng := { running := some im, cur := some ⟨1, 0, [], im⟩ } }

theorem test_witness_JunctionMovesWords :
    (let s := Sys2Proof.Tests.routed ⟨0x4300, 0, 0, 0, 2047⟩ []
     let im := { Sys2Proof.Tests.img with routes := [⟨0x4300, 0, 0, 0, 2047⟩] }
     let p := s.sourcePort (s.lanePhys im) 0x4300
     let q := s.destPort (s.lanePhys im) ⟨0x4300, 0, 0, 0, 2047⟩
     p < 48 ∧ q < 48 ∧ s.wordMoves p q 0 = [(im, ⟨0, ⟨0x4300, 0, 0, 0, 2047⟩, 0⟩)] ∧ s.armed [4, 5] = false ∧ s.sourceRate im 0x4300 = some 2 ∧
       s.destRate im ⟨0x4300, 0, 0, 0, 2047⟩ = some 2) ∧
    (let fs := [(TDM_FORMAT_ENABLE 15, 1), (TDM_FORMAT_SLOTS 15, 31), (TDM_FORMAT_RATE 15, 2)]
     let s := Sys2Proof.Tests.routed ⟨0x4300, 1, 0, 15, 31⟩ fs
     let im := { Sys2Proof.Tests.img with routes := [⟨0x4300, 1, 0, 15, 31⟩] }
     let p := s.sourcePort (s.lanePhys im) 0x4300
     p < 48 ∧ s.wordMoves p 38 0 = [(im, ⟨0, ⟨0x4300, 1, 0, 15, 31⟩, 0⟩)] ∧ s.destRate im ⟨0x4300, 1, 0, 15, 31⟩ = some 2) ∧
    (Sys2Proof.Tests.dev []).wordMoves 47 47 255 = [] := by decide +kernel

/-- TDM port 15 in a state, with its run. -/
def Sys2Proof.Tests.tdm (fs : List (Fld × Nat)) (x : TdmPort) : State := { Sys2Proof.Tests.dev fs with tdm := [(15, x)] }

theorem test_witness_TdmPortsCarryFrames :
    Sys2Proof.Statements.Roadbed (Sys2Proof.Tests.dev []) 0 2 ∧
    (let s := Sys2Proof.Tests.tdm [(TDM_STATUS_STATE 15, 2), (TDM_FORMAT_MASTER 15, 1)] {}
     s.get (TDM_STATUS_STATE 15) = 2 ∧ s.flag (TDM_FORMAT_MASTER 15) = true) ∧
    (∀ st ∈ [1, 2, 3], let s := Sys2Proof.Tests.tdm [(TDM_STATUS_STATE 15, st), (TDM_FORMAT_SLOTS 15, 31), (TDM_FORMAT_WIDTH 15, 2)] { clean := 16, bad := 3 }
     s.get (TDM_STATUS_STATE 15) = st ∧ s.flag (TDM_FORMAT_MASTER 15) = false ∧ (1024 : BitVec 16).toNat = s.tdmSlots 15 * s.tdmWidth 15 ∧
       (1025 : BitVec 16).toNat ≠ s.tdmSlots 15 * s.tdmWidth 15 ∧ (s.tdmPort 15).grace = 0 ∧ 16 ≤ (s.tdmPort 15).clean ∧ 3 ≤ (s.tdmPort 15).bad) ∧
    (let s := Sys2Proof.Tests.tdm [] { wander := 16 }
     16 ≤ (s.tdmPort 15).wander ∧ s.flag (TDM_STATUS_RETIMED 15) = false) := by
  unfold Sys2Proof.Statements.Roadbed; decide +kernel

/-- A stream of one channel at 48 kHz in packets of 6 samples, on port 3. -/
def Sys2Proof.Tests.rx : RxStream :=
  { channels := 1, format := 0x05, firstCh := 16383, pt := 97, conceal := 0, ports := 3, depthLog := 10, lo := 0, absentMs := 10, offset := 0
    red := { dstIp := 0xEF000001, dstPort := 5004 }, blue := {} }

/-- The device with stream 4095 as given and port 3 up. -/
def Sys2Proof.Tests.streams (r : RxStream) (fs : List (Fld × Nat)) : State :=
  { Sys2Proof.Tests.dev ((NP_CTRL_SPEED 3, 1) :: (NP_STATUS_LINK 3, 1) :: fs) with net := { rx := [(4095, r)] } }

/-- The RTP payload of a packet of the stream with timestamp 0. -/
def Sys2Proof.Tests.rtp (r : RxStream) : List Byte := [0x80, 97] ++ List.replicate 10 0 ++ List.replicate (fmtP r.format * fmtBytes r.format) 1

/-- A frame of 60 bytes with a type. -/
def Sys2Proof.Tests.frame (ty : List Byte) : List Byte := List.replicate 12 0 ++ ty ++ List.replicate 46 0

/-- A UDP packet to 239.0.0.1, port 5004, in an Ethernet frame. -/
def Sys2Proof.Tests.udp (pay : List Byte) : List Byte :=
  let n := pay.length
  let head (sum : Nat) : List Byte := [0x45, 0] ++ beBytes 2 (28 + n) ++ [0, 0, 0x40, 0, 64, 17] ++ beBytes 2 sum ++ [10, 0, 0, 1, 239, 0, 0, 1]
  List.replicate 12 0 ++ [8, 0] ++ head (65535 - sum16 (head 0)) ++ [0x13, 0x8C, 0x13, 0x8C] ++ beBytes 2 (8 + n) ++ [0, 0] ++ pay

theorem test_witness_NetworkPortsReceive :
    (let s := Sys2Proof.Tests.streams Sys2Proof.Tests.rx []
     s.portUp 3 = true ∧ classifyFrame (s.get (NP_CTRL_VID 3)) (List.replicate 59 0) = .size ∧
       classifyFrame (s.get (NP_CTRL_VID 3)) (Sys2Proof.Tests.frame [0x86, 0xDD]) = .nonIpv4 ∧ classifyFrame (s.get (NP_CTRL_VID 3)) (Sys2Proof.Tests.frame [8, 0]) = .ipHdr) ∧
    (Sys2Proof.Tests.dev []).portUp 3 = false ∧
    (let s := Sys2Proof.Tests.streams Sys2Proof.Tests.rx []
     let pay := Sys2Proof.Tests.rtp Sys2Proof.Tests.rx
     classifyFrame (s.get (NP_CTRL_VID 3)) (Sys2Proof.Tests.udp pay) = .udp 0x0A000001 0xEF000001 5004 true pay ∧
       s.matchStream 3 0x0A000001 0xEF000001 5004 = some (4095, Sys2Proof.Tests.rx, false) ∧ (readRtp Sys2Proof.Tests.rx pay).isSome = true ∧
       s.matchStream 3 0x0A000001 0xEF000001 5005 = none) ∧
    (let r := { Sys2Proof.Tests.rx with lo := 480 }
     let s := (Sys2Proof.Tests.streams r []).loadEngines
     let n := recoverN (sampleCount 48000 s.time) r.offset 0
     let present := sampleTime 48000 (n + r.lo)
     (readRtp r (Sys2Proof.Tests.rtp r)).map (·.ts) = some 0 ∧
       s.placeCheck r n = .ok ∧ (Sys2Proof.Tests.streams r []).placeCheck r n = .own (s.jitterAddr r n 0) ∧
       s.time ≤ s.lastArrival present ∧ (present - s.time) * 48000 ≤ (2 ^ r.depthLog - fmtP r.format) * 1000000000) ∧
    (let s : State := { Sys2Proof.Tests.streams Sys2Proof.Tests.rx [] with time := 1000000 }
     s.lastArrival (sampleTime 48000 (recoverN (sampleCount 48000 s.time) 0 0 + Sys2Proof.Tests.rx.lo)) < s.time + s.get (RWK_NET_RX_HOLD 3) * 1000) := by decide +kernel

theorem test_witness_NetworkPortsPresent :
    (∀ st ∈ [1, 2], let s := Sys2Proof.Tests.streams { Sys2Proof.Tests.rx with next := some 7 } [(NPE_RXSTAT_STATE 4095, st)]
     s.rxAt 4095 = some { Sys2Proof.Tests.rx with next := some 7 } ∧ s.get (NPE_RXSTAT_STATE 4095) = st ∧ s.net.hostConceal = false) ∧
    (bufAt [(64 * 7, (5 : Word))] (7 - Sys2Proof.Tests.rx.lo) 0).isSome = true ∧
    (Sys2Proof.Tests.rx.leg false).lost = false ∧
    (let s := Sys2Proof.Tests.streams Sys2Proof.Tests.rx []
     s.rxAt 4095 = some Sys2Proof.Tests.rx ∧ s.get (NPE_RXSTAT_STATE 4095) ≠ 4) := by decide +kernel

/-- A transmit stream of one channel at 48 kHz on port 3, its packet 0 next. -/
def Sys2Proof.Tests.tx (b : Sparse Word) : TxStream :=
  { channels := 1, format := 0x05, pt := 97, ports := 3, ssrc := 0, offset := 0, txOffset := 0, red := {}, blue := {}, last := some 0, buf := b }

theorem test_witness_NetworkPortsCarryStreams :
    (let p := fmtP 0x05
     let x := Sys2Proof.Tests.tx ((List.range p).map fun j => (64 * (p + j), 1))
     let s : State := { Sys2Proof.Tests.dev [(FCU_STATUS_SAFE, 0), (NP_CTRL_SPEED 3, 1), (NP_STATUS_LINK 3, 1)] with net := { tx := [(4095, x)] } }
     s.txAt 4095 = some x ∧ s.flag FCU_STATUS_SAFE = false ∧ s.nextPacket x = 1 ∧
       ((List.range p).all fun j => (List.range x.channels).all fun c => (bufAt x.buf (1 * p + j) c).isSome) = true ∧
       (s.legsOf x (sampleTime 48000 p)).1 = true ∧ s.portUp 3 = true) ∧
    ((List.range 1).all fun c => (bufAt (Sys2Proof.Tests.tx []).buf 48 c).isSome) = false ∧
    (Sys2Proof.Tests.dev [(NP_STATUS_LINK 3, 1)]).flag (NP_STATUS_LINK 3) = true ∧ (Sys2Proof.Tests.dev [(NP_CTRL_SPEED 3, 1)]).get (NP_CTRL_SPEED 3) ≠ 0 ∧
    (Sys2Proof.Tests.dev []).get (NP_CTRL_SPEED 3) = 0 := by decide +kernel

/-! ### The media clock and PTP -/

/-- Port 3 with PTP on, in a state. -/
def Sys2Proof.Tests.ptp (fs : List (Fld × Nat)) (p : PtpPort) : State :=
  { Sys2Proof.Tests.dev ((NP_CTRL_SPEED 3, 1) :: (NP_STATUS_LINK 3, 1) :: (NP_CTRL_PTP_EN 3, 1) :: fs) with net := { ptp := [(3, p)] } }

theorem test_witness_MediaClockFollowsItsSource :
    (Sys2Proof.Tests.ptp [(NP_STATUS_PTP_STATE 3, 6)] { qualified := true }).ptpQualified = true ∧
    (let s := Sys2Proof.Tests.dev [(MCK_CTRL_SRC, 1), (MCK_STATUS_QUAL_PTP, 1)]
     s.sourceDue = some 1 ∧ s.flag MCK_CTRL_HOST_SERVO = false ∧ s.get SOV_STATUS_ROLE < 2 ∧ s.ptpQualified = false) ∧
    (let s := Sys2Proof.Tests.dev [(MCK_CTRL_SRC, 2), (MCK_STATUS_QUAL_WCLK, 1)]
     s.sourceDue = some 2) ∧
    (let s := Sys2Proof.Tests.dev [(MCK_STATUS_STATE, 3), (MCK_STATUS_SOURCE, 2), (MCK_CTRL_SRC, 2)]
     s.sourceDue = none ∧ s.inUse = true ∧ s.get MCK_STATUS_SOURCE = 2) ∧
    (withinPpm ((Sys2Proof.Tests.dev []).wclkFor 20833333) 20833333 = true ∧ withinPpm ((Sys2Proof.Tests.dev []).wclkFor 1) 1 = false) ∧
    (∀ j ∈ [1, 2], let s : State := { Sys2Proof.Tests.dev [(MCK_STATUS_STATE, 2), (MCK_STATUS_SOURCE, j)] with clk := { run := 16 } }
     s.inUse = true ∧ s.clk.step = none ∧ s.get MCK_STATUS_STATE ≠ 3 ∧ 16 ≤ s.clk.run) ∧
    (let s : State := { Sys2Proof.Tests.dev [(MCK_STATUS_STATE, 3), (MCK_STATUS_SOURCE, 1), (MCK_STATUS_QUAL_PTP, 1)] with clk := {} }
     s.flag MCK_STATUS_QUAL_PTP = true ∧ s.ptpQualified = false ∧ s.inUse = true ∧ s.get MCK_STATUS_SOURCE = 1) ∧
    (let s : State := { Sys2Proof.Tests.dev [(MCK_STATUS_STATE, 4), (MCK_STATUS_QUAL_WCLK, 1)] with clk := { holdAt := some 5 } }
     s.clk.holdAt = some 5 ∧ s.get MCK_STATUS_STATE = 4 ∧ s.clk.lostRaised = false ∧ s.flag MCK_STATUS_QUAL_WCLK = true ∧ s.inUse = false) ∧
    (let s : State := { Sys2Proof.Tests.dev [] with clk := { step := some (-5) } }
     s.clk.step = some (-5) ∧ s.stepDue = true ∧ s.eng.running = none) ∧
    (let s := Sys2Proof.Tests.dev [(MCK_CTRL_HOST_SERVO, 1), (MCK_STATUS_SOURCE, 1), (MCK_CTRL_SRC, 3)]
     Sys2Proof.Statements.Roadbed s 0 2 ∧ (∀ x ∈ [0x1081, 0x1083, 0x1084], let v : Word := BitVec.ofNat 32 x
        v.getLsbD 7 = s.flag MCK_CTRL_HOST_SERVO ∧ v.getLsbD 12 = true ∧ v.toNat % 8 ∈ [1, 3, 4]) ∧
       s.get MCK_STATUS_SOURCE ∈ srcOrder ((0x84 : Word).toNat % 8) ∧ (0x80 : Word).getLsbD 12 = false ∧ s.get MCK_STATUS_SOURCE ≠ 0) := by
  unfold Sys2Proof.Statements.Roadbed; decide +kernel

/-- A whole message in domain 127. -/
def Sys2Proof.Tests.msg (b : PtpBody) : PtpMessage := { version := 2, domain := 127, source := 9, seq := 0xFFFF, correction := 0, malformed := false, body := b }

theorem test_witness_PtpFollowsTheMaster :
    (∀ p ∈ [({ best := some { source := 9 } } : PtpPort), { best := some { source := 9 }, syncs := 1, outliers := 6 },
        { best := some { source := 9 }, sync := some (0xFFFF, 5, 0), req := some (0xFFFF, 3) }],
      let s := Sys2Proof.Tests.ptp [(NP_STATUS_PTP_STATE 3, 6), (MCK_PTP_CFG_DOMAIN, 127)] p
      s.ptpOn 3 = true ∧ Sys2Proof.Statements.GoodPtp s (Sys2Proof.Tests.msg .delayReq) ∧ s.fromMaster 3 (Sys2Proof.Tests.msg .delayReq) = true ∧ s.ptp 3 = p) ∧
    ((BitVec.ofNat 80 (State.portId (Sys2Proof.Tests.ptp [] {}) 3)).toNat = (Sys2Proof.Tests.ptp [] {}).portId 3) ∧
    (∀ x ∈ [1000, -1000], Int.natAbs x ≤ 1000) ∧ 1000 < Int.natAbs (-1001) ∧
    (let s := Sys2Proof.Tests.ptp [(NP_STATUS_PTP_STATE 3, 3), (MCK_PTP_CFG_DOMAIN, 127)] {}
     s.ptpOn 3 = true ∧ Sys2Proof.Statements.GoodPtp s (Sys2Proof.Tests.msg .delayReq) ∧ s.get (NP_STATUS_PTP_STATE 3) = 3) ∧
    (let s := Sys2Proof.Tests.ptp [(NP_STATUS_PTP_STATE 3, 1), (MCK_PTP_CFG_SLAVE_ONLY, 0)] {}
     s.ptpOn 3 = true ∧ (s.ptp 3).best = none ∧ s.get (NP_STATUS_PTP_STATE 3) = 1 ∧ s.flag MCK_PTP_CFG_SLAVE_ONLY = false ∧ (254 : BitVec 16).toNat < 255) ∧
    (let s := Sys2Proof.Tests.ptp [(NP_STATUS_PTP_STATE 3, 2), (MCK_PTP_CFG_SLAVE_ONLY, 0)] {}
     s.ptpOn 3 = true ∧ s.flag MCK_PTP_CFG_SLAVE_ONLY = false ∧ s.get (NP_STATUS_PTP_STATE 3) = 2 ∧ s.bestMaster = none) ∧
    (let s := Sys2Proof.Tests.ptp [(NP_STATUS_PTP_STATE 3, 5)] { req := some (0, 5), noResp := 14, sync := some (0, 5, -1) }
     s.ptpOn 3 = true ∧ (s.ptp 3).req = some (0, 5) ∧ (s.ptp 3).noResp < 15 ∧ (s.ptp 3).sync = some (0, 5, -1)) := by
  unfold Sys2Proof.Statements.GoodPtp; decide +kernel

/-! ### The Sorov link and the twin -/

/-- A whole frame on channel 3. -/
def Sys2Proof.Tests.head : SovHead := ⟨3, true, true, 0, 7⟩

/-- A device whose link is up, in a role. -/
def Sys2Proof.Tests.twin (role : Nat) (v : Sov) (fs : List (Fld × Nat)) : State :=
  { Sys2Proof.Tests.dev ((SOV_CHAN_STATE 3, 2) :: (SOV_CHAN_STATE 0, 2) :: (SOV_STATUS_LINK, 2) :: (SOV_STATUS_ROLE, role) :: (SOV_CTRL_EN, 1) :: fs) with sov := v }

theorem test_witness_TheLinkComesUpAndPairs :
    (let s : State := { Sys2Proof.Tests.dev [(SOV_CHAN_STATE 3, 1), (SOV_CHAN_STATE 0, 2)] with sov := { chans := [(3, { hearts := 8 })], peer := some ⟨0, 0, 0, 0, 0, 0, 0, false, false, 0⟩ } }
     s.get (SOV_CHAN_STATE 3) = 1 ∧ 8 ≤ (s.linkChan 3).hearts ∧ s.get SOV_STATUS_LINK = 0 ∧ s.get (SOV_CHAN_STATE 0) = 2) ∧
    (let s := Sys2Proof.Tests.twin 2 { peer := some ⟨0, 0, 0, 0, 0, 0, 0, false, false, 0⟩ } []
     s.get (SOV_CHAN_STATE 3) = 2 ∧ s.manyErrors 3 = false ∧ s.flag SOV_CTRL_EN = true ∧ s.sov.heartLost = false ∧ s.sov.peer.isSome = true) ∧
    (Sys2Proof.Tests.dev [(SOV_CHAN_STATE 3, 3)]).get (SOV_CHAN_STATE 3) = 3 ∧
    (∀ r ∈ [1, 2, 6], ∀ ty < 9, Sys2Proof.Statements.Arrives (Sys2Proof.Tests.twin r {} []) ty Sys2Proof.Tests.head ∧ (Sys2Proof.Tests.twin r {} []).get SOV_STATUS_ROLE = r) ∧
    (let s := Sys2Proof.Tests.twin 0 {} [(SOV_STATUS_LINK, 1)]
     Sys2Proof.Statements.Arrives { s with regs := (s.put SOV_STATUS_LINK 2).regs } 6 Sys2Proof.Tests.head ∧ s.get SOV_STATUS_LINK = 1 ∧ s.get SOV_STATUS_ROLE = 0 ∧ s.linkProto + 1 < 65535) ∧
    ((4 : Byte).toNat % 16 = 4 ∧ (4 : Byte) ≠ 2) := by
  unfold Sys2Proof.Statements.Arrives; decide +kernel

/-- Block 7's record of the device, and a partner's that differs in lane 15. -/
def Sys2Proof.Tests.rec : SyncRec := ⟨7, 0xFFFF, 0, 0, 1000, 0, 0, List.replicate 16 0, List.replicate 16 0⟩
def Sys2Proof.Tests.sync (x : Word) : SyncBody := ⟨0xFFFF, 0, 0, 2000, 0, 0, List.replicate 15 0 ++ [x], List.replicate 16 0⟩

theorem test_witness_TwinsCompareAndRepair :
    (∀ h ∈ [0, 1], ∀ role ∈ [2, 4], let s := Sys2Proof.Tests.twin role { own := [Sys2Proof.Tests.rec] } [(SOV_STATUS_COMPARE, 1), (SOV_CTRL_HOST, h)]
     Sys2Proof.Statements.Arrives s 1 Sys2Proof.Tests.head ∧ s.eng.period ≠ some 8 ∧ Sys2Proof.Statements.Differ s 7 (Sys2Proof.Tests.sync 1) Sys2Proof.Tests.rec ∧
       s.get SOV_STATUS_ROLE = role ∧ s.sov.diverged = [] ∧ s.flag SOV_CTRL_HOST = (h == 1) ∧ syncDiff Sys2Proof.Tests.rec (Sys2Proof.Tests.sync 0) = 0) ∧
    (let s : State := { Sys2Proof.Tests.twin 4 {} [] with eng := { period := some 8 } }
     s.eng.period = some (7 + 1) ∧ s.paired = true ∧ s.get SOV_STATUS_ROLE ≠ 3 ∧ 7 ∉ s.sov.heard) ∧
    (∀ role ∈ [3, 5], let s := Sys2Proof.Tests.twin role { held := 4 } []
     Sys2Proof.Statements.Arrives s 3 Sys2Proof.Tests.head ∧ 3 ≤ s.get SOV_STATUS_ROLE ∧ s.sov.held < (5 : Word).toNat ∧ (5 : Word).toNat ∉ s.sov.ahead ∧ s.checkpointTaken (7 + 9) = false ∧
       ¬ s.sov.held < (4 : Word).toNat) ∧
    (let u : Update := { id := 0, value := 0, block := 0, ramp := none, pseq := 1, host := false }
     let s := Sys2Proof.Tests.twin 2 { unacked := [(5, u)] } []
     s.sov.unacked = [(5, u)] ∧ s.get SOV_STATUS_ROLE = 2 ∧ s.get SOV_STATUS_LINK = 2 ∧ s.paired = true) ∧
    (let r := { Sys2Proof.Tests.rx with held := [0], lo := 480 }
     let s : State := { (Sys2Proof.Tests.twin 2 { asked := [⟨4095, 0⟩] } []).loadEngines with net := { rx := [(4095, r)] } }
     s.placeCheck r (recoverN (sampleCount 48000 s.time) r.offset 0) = .ok ∧
     Sys2Proof.Statements.Arrives s 7 Sys2Proof.Tests.head ∧ s.rxAt 4095 = some r ∧ recoverN (sampleCount 48000 s.time) r.offset 0 ∈ r.held ∧
       Sys2Proof.Statements.Arrives s 8 Sys2Proof.Tests.head ∧ s.sov.asked.contains ⟨4095, 0⟩ = true ∧
       s.time + 2000 ≤ sampleTime 48000 (recoverN (sampleCount 48000 s.time) r.offset 0 + r.lo) ∧ s.sov.asked.contains ⟨4095, 1⟩ = false ∧
       recoverN (sampleCount 48000 s.time) r.offset 48 ∉ r.held) := by
  unfold Sys2Proof.Statements.Arrives Sys2Proof.Statements.Differ
  refine ⟨?_, ?_, ?_, ?_, ?_⟩ <;> decide +kernel

theorem test_witness_TwinsCommandEachOther :
    (∀ role ∈ [2, 3, 5], let s := Sys2Proof.Tests.twin role {} [(MBX_CTRL_PROSAL_UP, 1)]
     Sys2Proof.Statements.Arrives s 5 Sys2Proof.Tests.head ∧ s.prosalUp = true ∧ s.get SOV_STATUS_ROLE = role ∧ s.selfReady = false ∧ s.eng.pending = none ∧ s.sov.relay.length < 16) ∧
    (Sys2Proof.Tests.twin 2 {} []).prosalUp = false ∧
    (let s := Sys2Proof.Tests.twin 4 { syncGood := true } [(MBX_CTRL_PROSAL_UP, 1), (FCU_STATUS_SAFE, 0), (FCU_STATUS_ARMED, 1)]
     s.selfReady = true ∧ s.eng.switch = none ∧ s.clk.step = none) ∧
    (let s : State := { Sys2Proof.Tests.twin 4 {} [(MBX_CTRL_PROSAL_UP, 1)] with eng := { running := some Sys2Proof.Tests.img, pending := some Sys2Proof.Tests.img } }
     s.eng.pending = some Sys2Proof.Tests.img ∧ 3 ≤ s.get SOV_STATUS_ROLE ∧ s.eng.switch = none ∧ s.eng.running ≠ none) ∧
    (let s : State := { Sys2Proof.Tests.twin 4 {} [(MBX_CTRL_PROSAL_UP, 1)] with eng := { pending := some Sys2Proof.Tests.img, switch := some ⟨9, true, false, false, 0, false, false⟩ } }
     s.eng.switch = some ⟨9, true, false, false, 0, false, false⟩ ∧ s.eng.pending ≠ none ∧ 9 < (10 : BitVec 64).toNat) := by
  unfold Sys2Proof.Statements.Arrives; decide +kernel

/-- Trained DRAM. -/
def Sys2Proof.Tests.dram : List (Fld × Nat) := [(LPD_CONFIG_TRAINED, 1), (LPD_CONFIG_RAW, 3), (LPD_CONFIG_RANKS, 1), (LPD_STATUS_SELF_REFRESH, 0)]

theorem test_witness_TwinsJoinAndHandOver :
    (let s : State := { Sys2Proof.Tests.twin 2 { snapOpen := true, join := some 5 } Sys2Proof.Tests.dram with
       tg := { sets := [(4 * 26, { mem := [(0, { base := 0x10000000, limit := 0x1000FFFF, valid := true, perm := 0xFF })] }),
         (4, { mem := [(0, { base := 0x10000000, limit := 0x1000FFFF, valid := true, perm := 0xFF })] })] } }
     Sys2Proof.Statements.Arrives s 2 Sys2Proof.Tests.head ∧ s.joinReads 0x1000000000 2032 = true ∧ s.busError 0x1000000000 false = false ∧
       s.check (s.inboundIssuer 0x78 26) 0x1000000000 2032 .load = .ok ∧ (∀ w ∈ wordsOf 0x1000000000 2032, s.errOf w = .good ∧ s.injectAt w = false)) ∧
    (∀ ph < 4, let s : State := { Sys2Proof.Tests.twin 3 { join := some 5, recorded := 5 } ((SOV_JOIN_PHASE, ph) :: Sys2Proof.Tests.dram) with eng := { running := some Sys2Proof.Tests.img } }
     Sys2Proof.Statements.Arrives s 2 Sys2Proof.Tests.head ∧ s.catching = true ∧ s.region 0x1000000000 = .dram ∧ s.sov.recorded < 5 + 1 ∧ s.get SOV_JOIN_PHASE = ph ∧
       s.get SOV_JOIN_BACKLOG = 0 ∧ s.get SOV_STATUS_ROLE = 3 ∧ s.sov.join ≠ none) ∧
    (let s := Sys2Proof.Tests.twin 4 { choiceBy := some 5, health := { code := 3, held := 2 }, takePair := { code := 3, held := 2 } } []
     s.sov.choiceBy = some 5 ∧ s.get SOV_STATUS_ROLE ≠ 2 ∧ s.sov.health.code = 3 ∧ 2 ≤ s.sov.health.held ∧ s.sov.takePair.code = 3 ∧ 2 ≤ s.sov.takePair.held) ∧
    (let s := Sys2Proof.Tests.twin 2 { takeAt := some 5 } [(FCU_STATUS_SAFE, 0)]
     s.sov.takeAt = some 5 ∧ s.get SOV_STATUS_ROLE = 2 ∧ s.sov.takeOut = false ∧ s.flag FCU_STATUS_SAFE = false) ∧
    (let s := Sys2Proof.Tests.twin 5 { cause := 4, syncGood := true, swapAt := some 9 } [(FCU_STATUS_SAFE, 0)]
     s.takeCause ≠ 0 ∧ s.sov.takeAt = none ∧ s.sov.swapAt = some 9 ∧ s.get SOV_STATUS_ROLE = 5) := by
  unfold Sys2Proof.Statements.Arrives; decide +kernel

/-! ### Prosal's commands -/

/-- Prosal with mailbox 15 posted. -/
def Sys2Proof.Tests.asked (fs : List (Fld × Nat)) : State :=
  { Sys2Proof.Tests.dev ((MBX_STATE_STATE 15, 1) :: (MBX_CTRL_PROSAL_UP, 1) :: fs) with host := { posted := [15] } }

/-- Mailbox 15 of such a state is asked for the command, with a body Prosal takes. -/
def Sys2Proof.Tests.takes (s : State) (op : Nat) (b : List Byte) : Bool := s.ready 15 && (s.judge 15 op b == none)

theorem Sys2Proof.Tests.asked_of (s : State) (op : Nat) (b : List Byte) (h : Sys2Proof.Tests.takes s op b = true) : Sys2Proof.Statements.Asked s 15 op b := by
  simpa [Sys2Proof.Tests.takes, Sys2Proof.Statements.Asked] using h

theorem test_witness_ResponsesStand :
    Sys2Proof.Tests.takes (Sys2Proof.Tests.asked []) 0x0102 [] = true ∧
    ((Sys2Proof.Tests.asked []).ready 15 = true ∧ (Sys2Proof.Tests.asked []).boot ≠ .recovery ∧ (Sys2Proof.Tests.asked []).headerGood 15 0x0102 = true ∧ [(0 : Byte)].length ≠ 0) ∧
    (let s : State := { Sys2Proof.Tests.asked [] with boot := .recovery }
     s.ready 15 = true ∧ s.boot = .recovery ∧ Sys2Proof.Tests.takes s 0x0102 [] = true) ∧
    (Sys2Proof.Tests.dev []).ready 15 = false := by decide +kernel

/-- The image pending beside itself running. -/
def Sys2Proof.Tests.switching (e : Engine) (fs : List (Fld × Nat)) : State :=
  { Sys2Proof.Tests.asked fs with eng := { e with running := some Sys2Proof.Tests.img, pending := some Sys2Proof.Tests.img, seqRate := 2, period := some 1 } }

theorem test_witness_ProsalAnswersSystemAndGraphCommands :
    (∀ x ∈ [(0x0101, []), (0x0102, []), (0x0103, leBytes 4 0xB007), (0x0104, [2, 0, 0, 0]), (0x0105, leBytes 8 0x60140000 ++ [1, 0, 0, 0]),
        (0x0106, leBytes 8 0x603FFFFC ++ leBytes 8 7), (0x0201, leBytes 8 0), (0x0202, leBytes 8 9 ++ leBytes 4 1), (0x0203, []), (0x0204, [1, 0, 0, 0]), (0x0205, []),
        (0x0206, leBytes 8 9)], Sys2Proof.Tests.takes (Sys2Proof.Tests.asked []) x.1 x.2 = true) ∧
    (let s := Sys2Proof.Tests.asked [(PWR_STATE_STATE, 3)]
     s.eng.running = none ∧ s.get PWR_STATE_STATE = 3 ∧ s.gateUsed.maintained = false ∧ s.gateUsed.standsBy = false ∧ s.boot ≠ .recovery) ∧
    (let g := (Sys2Proof.Tests.asked []).gateUsed
     g.check (g.prosalIssuer 1) 0x60140000 4 .load = .ok ∧ g.busError 0x60140000 false = false) ∧
    (let g := (Sys2Proof.Tests.asked [(DBG_STATUS_LEVEL, 1)]).gateUsed
     g.maintained = true ∧ g.check (g.prosalIssuer 2) 0x60140000 4 .store = .ok ∧ g.busError 0x60140000 true = false) ∧
    (let g := (Sys2Proof.Tests.asked []).gateUsed
     (match g.checkImage 0 0x800000 with | .error f => f.code | .ok _ => 0) = 2) ∧
    (let s := Sys2Proof.Tests.switching {} []
     let g := s.gateUsed
     let c := g.countIn Sys2Proof.Tests.img
     g.standsBy = false ∧ g.eng.pending = some Sys2Proof.Tests.img ∧ g.eng.switch = none ∧ g.eng.stopAfter = none ∧ c.hotPossible Sys2Proof.Tests.img = false ∧
       1 < c.earliestSwitch Sys2Proof.Tests.img ∧ g.mayAbort = true ∧ g.flag BSQ_CTRL_SWITCH_HOLD = false ∧ g.eng.running ≠ none ∧ g.blockA + 2 = 2) ∧
    (let g := (Sys2Proof.Tests.switching { switch := some ⟨1, true, false, false, 0, false, false⟩ } [(SOV_STATUS_ROLE, 3)]).gateUsed
     g.mayAbort = false ∧ g.standsBy = true) ∧
    (let g := (Sys2Proof.Tests.switching {} [(BSQ_CTRL_SWITCH_HOLD, 1)]).gateUsed
     g.flag BSQ_CTRL_SWITCH_HOLD = true ∧ g.eng.released = false) := by decide +kernel

theorem test_witness_ProsalSetsParametersAndFaults :
    (∀ x ∈ [(0x0301, [1, 0, 0, 0] ++ List.replicate 14 0 ++ [1, 0]), (0x0302, leBytes 4 7), (0x0303, [7, 16, 0xFF, 0] ++ leBytes 16 64), (0x0304, [7, 0, 0, 0]),
        (0x0401, leBytes 4 240 ++ List.replicate 480 0), (0x0402, [1, 0, 60, 0]), (0x0501, []), (0x0502, [253, 0, 0, 0]), (0x0503, [253, 0, 7, 1]),
        (0x0504, [218, 0, 1, 7] ++ leBytes 4 65535), (0x0505, leBytes 4 319), (0x0506, [253, 0, 7, 0]), (0x0507, [253, 0, 0, 0]), (0x0508, leBytes 4 0 ++ [7, 0, 0, 0]), (0x0509, [])],
      Sys2Proof.Tests.takes (Sys2Proof.Tests.asked []) x.1 x.2 = true) ∧
    (channelKnown 253 = true ∧ fld (leBytes 16 64) 0 8 % 64 = 0 ∧ (0 : Nat) < logSize) ∧
    (let g := (Sys2Proof.Tests.asked []).gateUsed
     g.standsBy = false ∧ g.flag (MBX_RING_STAT_ON 7) = false ∧ g.flag FCU_FIRST_CH_VALID = false ∧ g.sevMin 218 ≤ 7 ∧ g.flag FCU_CTRL_HOST = false) ∧
    (let im := { Sys2Proof.Tests.img with params := [⟨7, 0, 0, 0, 0, 0, 0⟩] }
     ∀ r ∈ [none, some (⟨0, 0, 48, 0, 0⟩ : Ramp)], let g := ({ Sys2Proof.Tests.asked [] with eng := { running := some im, params := [(0, ⟨0, r⟩)] } } : State).gateUsed
     g.eng.running = some im ∧ ∃ i ∈ im.paramInfo 7, (g.param i.key).ramp = r) ∧
    (let g := ({ Sys2Proof.Tests.asked [(MBX_RING_STAT_ON 7, 1), (FCU_FIRST_CH_VALID, 1), (FCU_FIRST_CH_CHANNEL, 253), (FCU_CTRL_HOST, 1), (FCU_CH_STATUS_DEFERRED 253, 1)] with
        host := { posted := [15], meters := List.replicate 61 (0, 0, 0) } } : State).gateUsed
     g.flag (MBX_RING_STAT_ON 7) = true ∧ g.flag FCU_FIRST_CH_VALID = true ∧ g.get FCU_FIRST_CH_CHANNEL = 253 ∧ g.flag FCU_CTRL_HOST = true ∧
       g.flag (FCU_CH_STATUS_DEFERRED 253) = true ∧ 1 + 60 ≤ g.host.meters.length) ∧
    (((Sys2Proof.Tests.asked []).gateUsed.wear none).compactLog.2 = true) := by decide +kernel

theorem Sys2Proof.Tests.setBytes_memu (bs : List Byte) : ∀ (s : State) (a : Nat), (s.setBytes a bs).memu = s.memu := by
  induction bs with
  | nil => intros; rfl
  | cons b bs ih => intro s a; simp [State.setBytes, ih, State.setByte]

theorem Sys2Proof.Tests.putLedger_ok (s : State) (o v : Nat) (h : s.memu.worn = []) : (s.putLedger o v).2 = true ∧ (s.putLedger o v).1.memu.worn = [] := by
  have e (w : Nat) (x : WErr) : (s.setErr w x).memu = s.memu := rfl
  unfold State.putLedger; dsimp only
  split
  · exact ⟨rfl, h⟩
  · simp [e, h, Sys2Proof.Tests.setBytes_memu]

theorem Sys2Proof.Tests.putRepairCopy_ok (s : State) (k w : Nat) (h : s.memu.worn = []) : (s.putRepairCopy k w).2 = true ∧ (s.putRepairCopy k w).1.memu.worn = [] := by
  unfold State.putRepairCopy; dsimp only
  split
  · exact ⟨rfl, h⟩
  · obtain ⟨a, b⟩ := Sys2Proof.Tests.putLedger_ok s (0x610000 + 0x8000 * k + 8 * ‹Nat›) w h
    simp only [a, Bool.not_true, Bool.false_eq_true, if_false]
    exact Sys2Proof.Tests.putLedger_ok _ _ _ b

theorem Sys2Proof.Tests.putRepair_ok (s : State) (w : Nat) (h : s.memu.worn = []) : (s.putRepair w).2 = true := by
  obtain ⟨a, b⟩ := Sys2Proof.Tests.putRepairCopy_ok s 0 w h
  unfold State.putRepair
  simp only [a, if_true]
  exact (Sys2Proof.Tests.putRepairCopy_ok _ _ _ b).1

theorem Sys2Proof.Tests.retirePage_ok (s : State) (p : Nat) (h : s.remapped p = none) (f : (List.range 256).find? (fun i => s.get (LPD_REMAP_STATE i) = 0) = some 0)
    (w : ((s.startPageCopy 0 p).drive 223 { addr := some (0x1000000000 + 4096 * p) }).memu.worn = []) : ∃ t, s.retirePage p = (t, some 0, true) := by
  unfold State.retirePage
  rw [h, f]
  exact ⟨_, Prod.ext rfl (Prod.ext rfl (Sys2Proof.Tests.putRepair_ok _ _ w))⟩

theorem Sys2Proof.Tests.repairRow_ok (s : State) (m b r : Nat)
    (f : (List.range 4).find? (fun sp => !(s.repairEntry (repairKey m b sp)).valid && !s.memu.rowCopy.any fun x => x.1 = repairKey m b sp) = some 0)
    (w : ((s.startRowCopy (repairKey m b 0) r).drive 222 (placeRaise m b r)).memu.worn = []) : ∃ t, s.repairRow m b r = (t, some 0, true) := by
  unfold State.repairRow
  dsimp only
  rw [f]
  exact ⟨_, Prod.ext rfl (Prod.ext rfl (Sys2Proof.Tests.putRepair_ok _ _ w))⟩

/-- A page and a row that Prosal retires or repairs with the Ledger taking the entry. -/
theorem test_witness_repairs :
    (∃ t, ((Sys2Proof.Tests.asked Sys2Proof.Tests.dram).gateUsed.wear none).retirePage (pageOf 0x1000000000) = (t, some 0, true)) ∧
    (∃ t, ((Sys2Proof.Tests.asked []).gateUsed.wear none).repairRow 9 95 1 = (t, some 0, true)) :=
  ⟨Sys2Proof.Tests.retirePage_ok _ _ (by decide +kernel) (by decide +kernel) (by decide +kernel),
   Sys2Proof.Tests.repairRow_ok _ _ _ _ (by decide +kernel) (by decide +kernel)⟩

theorem test_witness_ProsalKeepsMemoryFirmwareAndKeys :
    (∀ x ∈ [(0x0601, leBytes 8 0x21000000 ++ leBytes 4 1), (0x0602, leBytes 8 0x40000001 ++ leBytes 8 9), (0x0603, []), (0x0604, leBytes 8 0x1000000000),
        (0x0605, [9, 95, 1, 0]), (0x0606, [9, 95, 0, 0]), (0x0607, [9, 95, 1, 0]), (0x0608, [15, 0, 0, 0] ++ leBytes 8 0x1000000000 ++ leBytes 8 1 ++ leBytes 4 604800),
        (0x0609, [5, 15, 2, 0]), (0x0701, leBytes 4 0 ++ leBytes 4 256), (0x0702, []), (0x0703, []), (0x0704, [191, 0, 0, 0] ++ leBytes 8 1), (0x0705, leBytes 4 3),
        (0x0706, leBytes 4 0x3FFF8 ++ leBytes 4 8), (0x0707, leBytes 4 0x3FFF8 ++ leBytes 12 8), (0x0A01, [2, 0, 0, 0]), (0x0A02, 2 :: List.replicate 35 0),
        (0x0A03, 2 :: List.replicate 19 0), (0x0A04, []), (0x0A05, 3 :: List.replicate 35 0)], Sys2Proof.Tests.takes (Sys2Proof.Tests.asked []) x.1 x.2 = true) ∧
    (let g := ({ Sys2Proof.Tests.asked [] with tg := { sets := [Sys2Proof.Tests.grant 0] } } : State).gateUsed
     g.windowGood 0x21000000 = true ∧ g.crcRange 0x40000001 9 = true ∧ g.rangeError 0x40000001 9 false = false ∧ g.check (g.prosalIssuer 2) 0x40000001 9 .load = .ok ∧
       (g.readChecks (raiseOf (g.prosalIssuer 2) 2) (wordsOf 0x40000001 9)).2 = none ∧ g.maintained = false) ∧
    (let g := ({ Sys2Proof.Tests.asked [] with werr := [(0x40000000 / 8, .uncorrectable)] } : State).gateUsed
     (g.readChecks (raiseOf (g.prosalIssuer 2) 2) (wordsOf 0x40000001 9)).2 ≠ none) ∧
    (let w := (Sys2Proof.Tests.asked Sys2Proof.Tests.dram).gateUsed.wear none
     w.region 0x1000000000 = .dram ∧ bankKnown 9 95 = true ∧ 1 < memRows 9 ∧ w.spmUsed 8 = false) ∧
    (Sys2Proof.Tests.asked [(SCB_MARCH_STATUS_BUSY, 1)]).gateUsed.mayMarch 9 95 true = false ∧ (∃ d < 6, (Sys2Proof.Tests.asked []).gateUsed.depotUsed d = false) ∧
    (Sys2Proof.Tests.asked [(bankPwr 9 95, 2)]).gateUsed.mayMarch 9 95 true = true ∧
    (let g := ({ Sys2Proof.Tests.asked [(LDG_LOCK_OPTION_WRITE, 0), (DBG_STATUS_LEVEL, 1)] with
        mem := (List.range 8).map fun i => (0x107FFFF8 + i, 1) } : State).gateUsed
     g.activateBusy = false ∧ g.host.posted = [(15 : Fin 16).val] ∧ g.maintained = true ∧ g.flag LDG_LOCK_OPTION_WRITE = false ∧ (g.putLedger 0x6005F8 1).2 = true ∧
       ((g.putLedger 0x6005F8 1).1.putLedger 0x6045F8 1).2 = true ∧ (((g.putLedger 0x6005F8 1).1.putLedger 0x6045F8 1).1.putLedger 0x6085F8 1).2 = true ∧
       (g.readChecks (raiseOf (g.prosalIssuer 2) 2) (wordsOf 0x107FFFF8 8)).2 = none ∧ (g.putLedgers 0x7FFFF8 [8]).2 = true) ∧
    ({ Sys2Proof.Tests.asked [] with eng := { parks := [⟨0, 16, false, 9, 0⟩] } } : State).gateUsed.activateBusy = true ∧
    (let g := ({ Sys2Proof.Tests.asked [(LDG_LOCK_KEY_WRITE, 0)] with gate := { nonce := some ⟨1, 2, 0⟩ }, mem := (List.range 0x100).map fun i => (0x10620000 + i, if i = 0xC0 then 1 else 0) } : State).gateUsed
     g.option0 3 = false ∧ levelBad (2 :: List.replicate 35 0) = false ∧ g.bkp.lockUntil ≤ g.get64 SEN_TIME_LO ∧ g.gate.nonce = some ⟨1, 2, 0⟩ ∧ g.up ≤ 10000000000 ∧
       (g.bytes (keyArea + 0xA0 + 0x20 * (2 - 1)) 32).any (· ≠ 0) = true ∧ (g.bytes (keyArea + 0x20 + 0x20 * 3) 32).any (· ≠ 0) = false ∧ g.flag LDG_LOCK_KEY_WRITE = false) ∧
    ((Sys2Proof.Tests.asked []).setReg (SEN_OPTION_LO 0) 8).gateUsed.option0 3 = true := by decide +kernel

theorem test_witness_ProsalCommandsTwinsAndModes :
    (∀ x ∈ [(0x0801, leBytes 4 0x004000FF), (0x0802, []), (0x0803, leBytes 8 9), (0x0804, []), (0x0805, [2, 0, 0, 0]), (0x0806, []), (0x0807, List.replicate 16 1), (0x0808, []),
        (0x0901, []), (0x0902, [10, 1, 0, 0] ++ leBytes 8 0), (0x0903, [0, 0, 1, 0] ++ leBytes 8 0), (0x0904, [17, 1, 0, 0]), (0x0905, [8, 4, 0, 0]), (0x0906, [7, 1, 0, 0] ++ leBytes 8 9)],
      Sys2Proof.Tests.takes (Sys2Proof.Tests.asked []) x.1 x.2 = true) ∧
    (let g := ({ Sys2Proof.Tests.asked [(SOV_STATUS_ROLE, 2), (SOV_STATUS_LINK, 2)] with sov := { readyAt := some 0, relay := [(1, 2)] } } : State).gateUsed
     g.standsBy = false ∧ g.standbyReady = true ∧ g.sov.join = none ∧ g.eng.switch = none ∧ g.clk.step = none ∧ g.sov.swapAt = none ∧ g.mayTake = false ∧ g.sov.choiceBy = none ∧
       g.get SOV_STATUS_LINK = 2 ∧ g.sov.relay = [(1, 2)] ∧ g.blockA + 2 ≤ 9) ∧
    (let g := ({ Sys2Proof.Tests.asked [(SOV_STATUS_ROLE, 4), (FCU_STATUS_SAFE, 0), (SOV_CTRL_HOST, 1), (SOV_STATUS_PEER_HEALTH, 2)] with sov := { syncGood := true, heartLost := true } } : State).gateUsed
     g.mayTake = true) ∧
    (let g := ({ Sys2Proof.Tests.asked [(SOV_STATUS_ROLE, 6)] with sov := { choiceBy := some 9 } } : State).gateUsed
     g.sov.choiceBy ≠ none ∧ g.get SOV_STATUS_ROLE = 6) ∧
    (let g := (Sys2Proof.Tests.asked []).gateUsed
     (∀ f ≤ 10, g.modeOf f = false ∧ g.modeRefused f = false) ∧ g.standsBy = false ∧ g.laneCarries 17 = false ∧ g.eng.hostPower = false ∧ ¬ 9 < g.blockA + 2) ∧
    ({ Sys2Proof.Tests.asked [(SOV_STATUS_ROLE, 2)] with eng := { switch := some ⟨9, true, false, false, 0, false, false⟩, hostPower := true } } : State).gateUsed.modeRefused 6 = true ∧
    (let g := ({ Sys2Proof.Tests.asked [] with eng := { running := some Sys2Proof.Tests.img, seqRate := 2, period := some 1 } } : State).gateUsed
     Sys2Proof.Tests.img.partOn 0 = some 0 ∧ Sys2Proof.Tests.img.parts[0]? = some Sys2Proof.Tests.part0 ∧ g.eng.parks = [] ∧ g.eng.switch = none ∧ g.parkLanes ≠ [] ∧
       g.flag (BSQ_LANE_MAP_ON_LAYBY 0) = false ∧ g.eng.outOfService.contains 0 = false ∧ g.poolUsed.length + g.poolWithheld + (64 + 63) / 64 ≤ 65536 ∧
       g.expressMayMove 7 false = true) := by decide +kernel

/-- A receive and a transmit stream record: one channel of L24 at 48 kHz. -/
def Sys2Proof.Tests.rxRec (lo : Nat) : List Byte := leBytes 2 4095 ++ [1, 5] ++ leBytes 2 16383 ++ [97, 0, 3, 0, 6, 0] ++ leBytes 2 lo ++ List.replicate 42 0
def Sys2Proof.Tests.txRec : List Byte := leBytes 2 4095 ++ [1, 5, 0, 0, 97, 0, 3] ++ List.replicate 79 0

theorem test_witness_ProsalConfiguresClocksAndPorts :
    (∀ x ∈ [(0x0B01, leBytes 4 0x464), (0x0B02, leBytes 4 0x5A4111 ++ leBytes 4 0), (0x0B03, []), (0x0B04, List.replicate 8 7 ++ leBytes 4 1), (0x0B05, leBytes 8 9),
        (0x0C01, leBytes 4 2 ++ List.replicate 16 0), (0x0C02, Sys2Proof.Tests.rxRec 7), (0x0C03, Sys2Proof.Tests.txRec), (0x0C04, [1, 0, 0xFF, 0x0F]), (0x0C05, [0xFF, 0x0F, 1, 0] ++ leBytes 8 9),
        (0x0C06, leBytes 4 0), (0x0C07, [1, 3, 1, 0]), (0x0C08, [1, 15, 0, 0]), (0x0C09, [1, 0, 0x9C, 0x0F, 100, 0, 0, 0])],
      Sys2Proof.Tests.takes (Sys2Proof.Tests.asked []) x.1 x.2 = true) ∧
    (regFits MCK_CTRL 0x464 = true ∧ regFits MCK_PTP_PRIO 0 = true ∧ rxRecordGood (Sys2Proof.Tests.rxRec 7) = true ∧ rxRecordGood (Sys2Proof.Tests.rxRec 58) = true ∧
      txRecordGood Sys2Proof.Tests.txRec = true ∧ regFits (NP_CTRL 3) 2 = true ∧ regFits (NP_PTP_ASYM 3) 0 = true ∧ regFits (TDM_FORMAT 15) 0 = true) ∧
    (∀ v ∈ [0x5A4111, 0x92D911], let w : Word := BitVec.ofNat 32 v
     regFits MCK_PTP_CFG w = true ∧ -7 ≤ signed4 w 20 ∧ signed4 w 20 ≤ 5 ∧ -3 ≤ signed4 w 12 ∧ signed4 w 12 ≤ 4 ∧ -7 ≤ signed4 w 8 ∧ signed4 w 8 ≤ 1 ∧ 2 ≤ v / 2 ^ 16 % 16 ∧ v / 2 ^ 16 % 16 ≤ 10) ∧
    (let g := (Sys2Proof.Tests.asked [(NPE_JBUF_SIZE, 1)]).gateUsed
     g.standsBy = false ∧ g.flag MCK_CTRL_HOST_SERVO = false ∧ g.ptpLocked = false ∧ g.rxHeld 4095 + weight 1 5 ≤ 16384 ∧ (g.jitterBase 4095 (jitterBytes 1 6)).isSome = true ∧ (Sys2Proof.Tests.asked []).gateUsed.jitterBase 4095 (jitterBytes 1 6) = none ∧
       g.txHeld 4095 + weight 1 5 ≤ 16384 ∧ g.rxAt 4095 = none ∧ g.net.hostConceal = false ∧ g.recalRefused 1 3 = true) ∧
    (let g := (Sys2Proof.Tests.asked [(MCK_CTRL_HOST_SERVO, 1), (MCK_STATUS_STATE, 3), (MCK_STATUS_SOURCE, 1)]).gateUsed
     g.flag MCK_CTRL_HOST_SERVO = true ∧ g.ptpLocked = true) ∧
    (let r := { Sys2Proof.Tests.rx with episode := true }
     let g := ({ Sys2Proof.Tests.asked [] with net := { rx := [(4095, r)], tx := [(4095, Sys2Proof.Tests.tx [])], hostConceal := true } } : State).gateUsed
     g.rxAt 4095 = some r ∧ (g.txAt 4095).isSome = true ∧ g.net.hostConceal = true) := by decide +kernel

/-! ## Ill-formed commands, one for each check of `Instr.wf` -/

theorem test_wf_reserved_level : Instr.wf (.softwareEvent 0 3 0) = false := by decide
theorem test_wf_unknown_master : Instr.wf (.eventClear 0x99 2 0 0) = false := by decide
theorem test_wf_unaligned_register : Instr.wf (.registerWrite 0 2 2 0) = false := by decide
theorem test_wf_unaligned_control_word : Instr.wf (.tcwMismatch 1 0 0 0) = false := by decide
theorem test_wf_long_body : Instr.wf (.getInfo 0 (List.replicate 493 0)) = false := by decide
theorem test_wf_ledger_word : Instr.wf (.commandTake (some 4) true) = false := by decide
theorem test_wf_ptp_nanoseconds : Instr.wf (.ptpMessage 0 (Sys2Proof.Tests.msg (.followUp ⟨0, 1000000000⟩))) = false := by decide
theorem test_wf_column_twice : Instr.wf (.moverBurst 0 0 [(5, 0), (5, 1)]) = false := by decide
theorem test_wf_state_size : Instr.wf (.stateFrame ⟨0, true, true, 0, 0⟩ ⟨0, 2040, 0, 0, []⟩) = false := by decide
theorem test_wf_state_kind : Instr.wf (.stateFrame ⟨0, true, true, 0, 0⟩ ⟨3, 8, 0, 0, []⟩) = false := by decide
theorem test_wf_state_data : Instr.wf (.stateFrame ⟨0, true, true, 0, 0⟩ ⟨1, 8, 0, 0, [0]⟩) = false := by decide
theorem test_wf_tdm_slots : Instr.wf (.tdmFrame 0 0 0 (List.replicate 33 0)) = false := by decide
theorem test_wf_inbound_write_empty : Instr.wf (.pcieInboundWrite true 0 []) = false := by decide
theorem test_wf_inbound_write_long : Instr.wf (.pcieInboundWrite true 0 (List.replicate 257 0)) = false := by decide
theorem test_wf_inbound_read_none : Instr.wf (.pcieInboundRead true 0 0) = false := by decide
theorem test_wf_inbound_read_long : Instr.wf (.pcieInboundRead true 0 4097) = false := by decide
theorem test_wf_empty_frame : Instr.wf (.frameReceive 0 ⟨.clean, true⟩ []) = false := by decide
theorem test_wf_no_records : Instr.wf (.paramFrame ⟨0, true, true, 0, 0⟩ ⟨0, []⟩) = false := by decide
theorem test_wf_many_records : Instr.wf (.paramFrame ⟨0, true, true, 0, 0⟩ ⟨0, List.replicate 128 ⟨0, 0, 0, 0, false⟩⟩) = false := by decide
theorem test_wf_many_needs : Instr.wf (.needFrame ⟨0, true, true, 0, 0⟩ (List.replicate 256 ⟨0, 0⟩)) = false := by decide
theorem test_wf_ring_entries : Instr.wf (.ringService 0 (List.replicate 132 0) true) = false := by decide
theorem test_wf_ring_part_entry : Instr.wf (.ringService 0 [0] true) = false := by decide
theorem test_wf_bank_power : Instr.wf (.bankPowerTransitionComplete 9 96) = false := by decide
theorem test_wf_row_copy_bank : Instr.wf (.rowRepairCopyComplete 0 32 0) = false := by decide
theorem test_wf_march_page : Instr.wf (.dramMarchGranule 0 1 true) = false := by decide
theorem test_wf_short_vector_integer : Instr.wf (.shortVectorIntegerOp 0 ⟨0x14, ⟨0, 0, 0, 0, false, 0⟩⟩) = false := by decide
theorem test_wf_short_vector_fp32 : Instr.wf (.shortVectorFp32Op 0 ⟨0x0D, ⟨0, 0, 0, 0, false, 0⟩⟩) = false := by decide
theorem test_wf_short_vector_compare : Instr.wf (.shortVectorCompare 0 ⟨6, ⟨0, 0, 0, 0, false, 0⟩⟩) = false := by decide
theorem test_wf_short_vector_permute : Instr.wf (.shortVectorPermute 0 ⟨0x10, ⟨0, 0, 0, 0, false, 0⟩⟩) = false := by decide
theorem test_wf_good : Instr.wf (.registerWrite 0x60 2 4 0) = true := by decide

/-! ## Behaviour: expected values worked by hand from the rules -/

/-- What one command makes of a state, told by a reading of it. -/
def Sys2Proof.Tests.after {α : Type} (c : Instr) (s : State) (f : State → α) : Option α :=
  match step { s with pending := [c] } with
  | .next t => some (f t)
  | .fault _ => none
  | .refused _ => none

/-- ADD wraps at 64 bits and PC moves on by 4 (R77). -/
theorem test_add_wraps : Sys2Proof.Tests.after (.add 0 3 1 2) (Sys2Proof.Tests.sup [(1, BitVec.allOnes 64), (2, 2)]) (fun t => (t.gx 0 3, (t.triad 0).pc)) = some (1, 4) := by decide +kernel

/-- ADD to g0 writes nothing (R75). -/
theorem test_add_zero_register : Sys2Proof.Tests.after (.add 0 0 1 2) (Sys2Proof.Tests.sup [(1, 5), (2, 2)]) (fun t => t.gx 0 0) = some 0 := by decide +kernel

/-- DIV of the most negative number by -1 returns the dividend; DIV by zero returns 0 (R78). -/
theorem test_div_overflow : Sys2Proof.Tests.after (.div 0 3 1 2) (Sys2Proof.Tests.sup [(1, BitVec.intMin 64), (2, BitVec.allOnes 64)]) (fun t => t.gx 0 3) =
    some (BitVec.intMin 64) := by decide +kernel
theorem test_rem_by_zero : Sys2Proof.Tests.after (.rem 0 3 1 2) (Sys2Proof.Tests.sup [(1, 7)]) (fun t => t.gx 0 3) = some 7 := by decide +kernel

/-- ADDI sign-extends its immediate. -/
theorem test_addi_sign : Sys2Proof.Tests.after (.addi 0 1 1 0xFFFF) (Sys2Proof.Tests.sup [(1, 0)]) (fun t => t.gx 0 1) = some (BitVec.allOnes 64) := by decide +kernel

/-- The end of reset counts it (R345): RST.COUNT goes from 0 to 1, and the low bits of the count are the first question (R327). -/
theorem test_reset_counted : Sys2Proof.Tests.after (.resetEnd false) { State.reset with boot := .held, bkp := { State.reset.bkp with c0 := 6, c1 := 6, c2 := 6 } }
    (fun t => (t.reg RST_COUNT, t.get MSW_QUESTION_Q)) = some (7, 7) := by decide +kernel

/-- A frame with a bad FCS is counted in ERR_L2 and nowhere else (R201). -/
theorem test_bad_fcs_counted : Sys2Proof.Tests.after (.frameReceive 3 ⟨.clean, false⟩ [1]) (Sys2Proof.Tests.streams Sys2Proof.Tests.rx [])
    (fun t => (t.get (NP_ERR_L2_FCS 3), t.get (NP_RX_FRAMES_COUNT 3))) = some (1, 0) := by decide +kernel

/-- CRC-32C of "123456789" is E3069283, the polynomial's published check value. -/
theorem test_crc32c_check : crc32c [0x31, 0x32, 0x33, 0x34, 0x35, 0x36, 0x37, 0x38, 0x39] = 0xE3069283 := by decide +kernel

/-- SHA-256 of "abc" is the value FIPS 180-4 publishes; its first and last words. -/
theorem test_sha256_abc : (let d := sha256 [0x61, 0x62, 0x63]; (d.take 4, d.drop 28)) = ([0xBA, 0x78, 0x16, 0xBF], [0xF2, 0x00, 0x15, 0xAD]) := by decide +kernel

end
end

namespace Sys2Proof.Proofs
open Sys2Proof.Machine Sys2Proof.Safety

/-! ## Memory: what a dropped range reads as -/

/-- A filter by key leaves the keys it keeps as they were; every other key reads as unlisted. -/
theorem get_filter_key {α : Type} (d : Nat → α) (keep : Nat → Bool) (m : Sparse α) (k : Nat) :
    Sparse.get d (m.filter fun c => keep c.1) k = if keep k then Sparse.get d m k else d k := by
  induction m with
  | nil => simp [Sparse.get]
  | cons c m ih =>
    obtain ⟨j, v⟩ := c
    rw [List.filter_cons]
    by_cases hjk : j = k
    · subst hjk
      by_cases hj : keep j
      · simp [hj, Sparse.get]
      · simpa [hj] using ih
    · by_cases hj : keep j <;> simp [hj, Sparse.get, hjk, ih]

/-- A range dropped reads as it did unwritten, and every other byte reads as before (R249, R351). -/
theorem byte_fill (s : State) (a n x : Nat) :
    (s.fill a n).byte x = if a ≤ x ∧ x < a + n then memDflt x else s.byte x := by
  have hkey : (s.fill a n).byte x = if decide (x < a ∨ a + n ≤ x) then s.byte x else memDflt x :=
    get_filter_key memDflt (fun k => decide (k < a ∨ a + n ≤ k)) s.mem x
  rw [hkey]
  by_cases hx : a ≤ x ∧ x < a + n
  · rw [if_pos hx, if_neg (by simpa using hx)]
  · rw [if_neg hx, if_pos (by simp; omega)]

/-- Bytes written at ascending addresses read back, in the order written. -/
theorem bytes_setBytes_same (s : State) (a : Nat) (bs : List Byte) : (s.setBytes a bs).bytes a bs.length = bs :=
  le_eq _ a bs fun x hlo hhi => by rw [State.byte_setBytes, if_pos ⟨hlo, hhi⟩]

/-- A write leaves every byte outside its range as it was. -/
theorem byte_setBytes_outside (s : State) (a : Nat) (bs : List Byte) (x : Nat) (hx : x < a ∨ a + bs.length ≤ x) :
    (s.setBytes a bs).byte x = s.byte x := by
  rw [State.byte_setBytes, if_neg (by omega)]

/-- Settles O10: each operation's own canonical-form lemma, and the byte read after a write and after a drop. -/
theorem memoryKeepsItsFormAndReadsBack : Obligations.MemoryKeepsItsFormAndReadsBack := by
  constructor
  · intro s h
    exact ⟨fun a v => wf_setByte s a v h, fun a bs => wf_setBytes bs s a h, fun a n => wf_fill s a n h,
      fun a bs r => wf_storeWord s a bs r h, fun r n a bs => wf_storeBytes r n s a bs h⟩
  · intro s a bs
    exact ⟨bytes_setBytes_same s a bs, byte_setBytes_outside s a bs, byte_fill s a⟩

/-! ## Loads -/

/-- Every row of the table of loads is a load instruction of its width and extension, and reads at least one byte. -/
theorem exec_loadTable (s : State) (t : TriadId) (rd rs1 : Reg) (imm : Imm16) :
    ∀ p ∈ Sys2Proof.Statements.loadTable t rd rs1 imm,
      0 < p.2.1 ∧ exec p.1 s = loadInstr p.2.1 p.2.2 t rd rs1 imm s := by
  simp only [Sys2Proof.Statements.loadTable, List.forall_mem_cons, List.not_mem_nil, false_implies, implies_true, and_true]
  exact ⟨⟨by decide, exec_ldB ..⟩, ⟨by decide, exec_ldBu ..⟩, ⟨by decide, exec_ldH ..⟩, ⟨by decide, exec_ldHu ..⟩,
    ⟨by decide, exec_ldW ..⟩, ⟨by decide, exec_ldWu ..⟩, ⟨by decide, exec_ldD ..⟩⟩

/-- Settles O13: every load is `loadInstr`, which on a ready triad and plain memory writes what it reads (R77, R90). -/
theorem loadsReadMemory : Obligations.LoadsReadMemory := by
  intro s t rd rs1 imm hready p hp hplain
  obtain ⟨hpos, hexec⟩ := exec_loadTable s t rd rs1 imm p hp
  rw [hexec]
  exact loadInstr_wrote s p.2.1 p.2.2 t rd rs1 imm hready hpos hplain

end Sys2Proof.Proofs

namespace Sys2Proof.Proofs
open Sys2Proof.Machine Sys2Proof.Safety

/-! ## Prosal's clock and port commands: the reply of each -/

/-- A command whose request is accepted answers what its effect replies (R405, R410). -/
theorem answered_of_reply {s : State} {k : Fin 16} {op : Nat} {b : ByteList} {c : Instr} {st : Status} {t : State} {body : List Byte}
    (f : State → Reply) (hasked : Sys2Proof.Statements.Asked s k op b) (hrow : exec c s = s.row k op b f)
    (hreply : f s.gateUsed = (t, ⟨st, body⟩)) : Sys2Proof.Statements.Answered s k op b c st t body := by
  obtain ⟨hready, hjudge⟩ := hasked
  unfold Sys2Proof.Statements.Answered
  rw [hrow, State.row, occurs_of _ _ _ hready, State.serve, hjudge, hreply]

theorem cmdClockCfg_ok (g : State) (b : List Byte) (hfits : regFits MCK_CTRL (fldW b 0) = true) (hsource : (fldW b 0).toNat % 8 ≤ 4)
    (hrate : (fldW b 0).toNat / 16 % 8 ≤ 6) (hmode : (fldW b 0).toNat / 512 % 4 ≤ 2) :
    g.cmdClockCfg b = (g.writeMckCtrl 0 2 (MCK_CTRL_HOST_SERVO.write (MCK_CTRL_STEP_REQ.write (fldW b 0) 0) (g.get MCK_CTRL_HOST_SERVO)), ⟨.ok, []⟩) := by
  simp [State.cmdClockCfg, State.okay, hfits, hsource, hrate, hmode]

theorem cmdPtpCfg_ok (g : State) (b : List Byte) (hcfg : regFits MCK_PTP_CFG (fldW b 0) = true) (hprio : regFits MCK_PTP_PRIO (fldW b 4) = true)
    (hann : -7 ≤ signed4 (fldW b 0) 20 ∧ signed4 (fldW b 0) 20 ≤ 5) (hdelay : -3 ≤ signed4 (fldW b 0) 12 ∧ signed4 (fldW b 0) 12 ≤ 4)
    (hsync : -7 ≤ signed4 (fldW b 0) 8 ∧ signed4 (fldW b 0) 8 ≤ 1)
    (htimeout : 2 ≤ (fldW b 0).toNat / 2 ^ 16 % 16 ∧ (fldW b 0).toNat / 2 ^ 16 % 16 ≤ 10) :
    g.cmdPtpCfg b = ((g.writePtpCfg 0 2 (fldW b 0)).writePlain 2 MCK_PTP_PRIO (fldW b 4), ⟨.ok, []⟩) := by
  simp only [State.cmdPtpCfg, State.okay, hcfg, hprio, hann, hdelay, hsync, htimeout, and_self, decide_true, Bool.not_true, Bool.or_self, Bool.false_eq_true, if_false]

/-- SERVO_INPUT without the STEP flag, as a function of its flags (R231). -/
theorem cmdServoInput_reply (g : State) (b : List Byte) (hactive : g.standsBy = false) (hflags : fld b 8 4 ≤ 3) :
    g.cmdServoInput b =
      if g.flag MCK_CTRL_HOST_SERVO = true then
        (let t := g.writeHostFreq 0 2 (fldW b 0)
         let t := if fld b 8 4 % 2 = 1 then t.writeHostPhase 0 2 (fldW b 4) else t
         (if 2 ≤ fld b 8 4 then t.writeMckCtrl 0 2 (MCK_CTRL_STEP_REQ.write (t.reg MCK_CTRL) 1) else t, ⟨.ok, []⟩))
      else (g, ⟨.mode, []⟩) := by
  have hnot : ¬ 3 < fld b 8 4 := by omega
  cases hservo : g.flag MCK_CTRL_HOST_SERVO
  · simp [State.cmdServoInput, State.answers, hactive, hnot, hservo]
  · simp [State.cmdServoInput, State.okay, hactive, hnot, hservo]

theorem cmdBlockPreset_reply (g : State) (b : List Byte) (hactive : g.standsBy = false) :
    g.cmdBlockPreset b = if g.ptpLocked = true then (g, ⟨.state, []⟩) else ((g.put64 BSQ_PRESET_LO (fld b 0 8)).armPreset, ⟨.ok, []⟩) := by
  simp only [State.cmdBlockPreset, State.answers, State.okay, hactive, Bool.false_eq_true, if_false]

theorem cmdStreamDelete_rx (g : State) (b : List Byte) (hzero : zeros b 1 1 = true) (hindex : fld b 2 2 ≤ 4095) (hdir : fld b 0 1 = 0) :
    g.cmdStreamDelete b =
      if (g.rxAt (fld b 2 2)).isNone then (g, ⟨.state, []⟩)
      else (g.reportJoins (State.setReg { g with net := { g.net with rx := Sparse.drop g.net.rx (fld b 2 2) } } (NPE_RXSTAT (fld b 2 2)) 0), ⟨.ok, []⟩) := by
  simp [State.cmdStreamDelete, State.answers, State.okay, hzero, hdir, Nat.not_lt.mpr hindex]

theorem cmdStreamDelete_tx (g : State) (b : List Byte) (hzero : zeros b 1 1 = true) (hindex : fld b 2 2 ≤ 4095) (hdir : fld b 0 1 = 1) :
    g.cmdStreamDelete b =
      if (g.txAt (fld b 2 2)).isNone then (g, ⟨.state, []⟩)
      else (State.setReg { g with net := { g.net with tx := Sparse.drop g.net.tx (fld b 2 2) } } (NPE_TXSTAT (fld b 2 2)) 0, ⟨.ok, []⟩) := by
  simp [State.cmdStreamDelete, State.answers, State.okay, hzero, hdir, Nat.not_lt.mpr hindex]

theorem cmdRxStreamSet_noChannels (g : State) (b : List Byte) (hgood : rxRecordGood b = true)
    (hfull : 16384 < g.rxHeld (fld b 0 2) + weight (rxRecord b).channels (rxRecord b).format) : g.cmdRxStreamSet b = (g, ⟨.noSpace, []⟩) := by
  simp [State.cmdRxStreamSet, State.answers, hgood, hfull]

theorem cmdRxStreamSet_noBuffer (g : State) (b : List Byte) (hgood : rxRecordGood b = true)
    (hroom : g.rxHeld (fld b 0 2) + weight (rxRecord b).channels (rxRecord b).format ≤ 16384)
    (hnone : g.jitterBase (fld b 0 2) (jitterBytes (rxRecord b).channels (rxRecord b).depthLog) = none) :
    g.cmdRxStreamSet b = (g, ⟨.noSpace, []⟩) := by
  simp [State.cmdRxStreamSet, State.answers, hgood, Nat.not_lt.mpr hroom, hnone]

theorem cmdRxStreamSet_placed (g : State) (b : List Byte) (base : Nat) (hgood : rxRecordGood b = true)
    (hroom : g.rxHeld (fld b 0 2) + weight (rxRecord b).channels (rxRecord b).format ≤ 16384)
    (hbase : g.jitterBase (fld b 0 2) (jitterBytes (rxRecord b).channels (rxRecord b).depthLog) = some base) :
    g.cmdRxStreamSet b =
      (let t := (g.setRx (fld b 0 2) { rxRecord b with base := base }).setReg (NPE_RXSTAT (fld b 0 2)) (BitVec.ofNat 32 (2 ^ 29))
       if t.anyOverRate = true then (g, ⟨.bandwidth, []⟩) else (g.reportJoins t, ⟨.ok, []⟩)) := by
  simp only [State.cmdRxStreamSet, State.answers, State.okay, hgood, Nat.not_lt.mpr hroom, hbase, Bool.not_true, Bool.false_eq_true, if_false]

theorem cmdTxStreamSet_of_good (g : State) (b : List Byte) (hgood : txRecordGood b = true)
    (hroom : g.txHeld (fld b 0 2) + weight (txRecord b).channels (txRecord b).format ≤ 16384) :
    g.cmdTxStreamSet b =
      (let t := (g.setTx (fld b 0 2) (txRecord b)).setReg (NPE_TXSTAT (fld b 0 2)) (BitVec.ofNat 32 (2 * 2 ^ 29))
       if t.anyOverRate = true then (g, ⟨.bandwidth, []⟩) else (t, ⟨.ok, []⟩)) := by
  simp only [State.cmdTxStreamSet, State.answers, State.okay, hgood, Nat.not_lt.mpr hroom, Bool.not_true, Bool.false_eq_true, if_false]

theorem cmdConcealChoice_mode (g : State) (b : List Byte) (hactive : g.standsBy = false) (hindex : fld b 0 2 ≤ 4095)
    (hpolicy : fld b 2 1 ≤ 1) (hzero : zeros b 3 1 = true) (hmode : g.net.hostConceal = false) :
    g.cmdConcealChoice b = (g, ⟨.mode, []⟩) := by
  simp [State.cmdConcealChoice, State.answers, hactive, hindex, hpolicy, hzero, hmode]

theorem cmdConcealChoice_ok (g : State) (b : List Byte) (r : RxStream) (hactive : g.standsBy = false) (hindex : fld b 0 2 ≤ 4095)
    (hpolicy : fld b 2 1 ≤ 1) (hzero : zeros b 3 1 = true) (hmode : g.net.hostConceal = true) (hrx : g.rxAt (fld b 0 2) = some r)
    (hepisode : r.episode = true) :
    g.cmdConcealChoice b =
      ((g.setRx (fld b 0 2) { r with choice := some (fld b 2 1, fld b 4 8) }).put (NPE_RXSTAT_HOST_WAIT (fld b 0 2)) 0, ⟨.ok, []⟩) := by
  simp [State.cmdConcealChoice, State.okay, hactive, hindex, hpolicy, hzero, hmode, hrx, hepisode]

/-- NET_PORT_CFG's effect on port `k`'s registers, before R203 is checked. -/
theorem cmdNetPortCfg_reply (g : State) (k : Nat) (b : List Byte) (hctrl : regFits (NP_CTRL k) (fldW b 0) = true)
    (hspeed : (fldW b 0).toNat % 4 ≠ 3) (hasym : regFits (NP_PTP_ASYM k) (fldW b 16) = true) :
    g.cmdNetPortCfg k b =
      (let t := g.writeNp 2 (NP_CTRL k) (fldW b 0)
       let t := ((t.setReg (NP_MAC_LO k) (fldW b 4)).put (NP_MAC_HI_MAC k) (fld b 8 2)).setReg (NP_IPV4 k) (fldW b 12)
       let t := t.writePlain 2 (NP_PTP_ASYM k) (fldW b 16)
       if t.overRate k = true then (g, ⟨.bandwidth, []⟩) else (t, ⟨.ok, []⟩)) := by
  simp only [State.cmdNetPortCfg, State.answers, State.okay, hctrl, hspeed, hasym, Bool.not_true, decide_false, Bool.or_self,
    Bool.false_eq_true, if_false]

theorem cmdTdmCfg_reply (g : State) (k : Nat) (b : List Byte) (hfits : regFits (TDM_FORMAT k) (fldW b 0) = true) :
    g.cmdTdmCfg k b =
      (let t := g.writeTdmFormat k 0 2 (fldW b 0)
       if t.get (TDM_STATUS_STATE k) = 4 then (t, ⟨.badArgument, []⟩) else (t, ⟨.ok, t.regField (TDM_STATUS k)⟩)) := by
  simp only [State.cmdTdmCfg, State.answers, State.okay, hfits, Bool.not_true, Bool.false_eq_true, if_false]

theorem cmdPortRecal_reply (g : State) (b : List Byte) (hkind : fld b 0 1 ≤ 1) (hport : fld b 1 1 ≤ 3) (hflags : fld b 2 2 ≤ 1) :
    g.cmdPortRecal b =
      if fld b 2 2 = 0 ∧ g.recalRefused (fld b 0 1) (fld b 1 1) = true then (g, ⟨.state, []⟩)
      else (g.draw.2.startRecal (fld b 0 1) (fld b 1 1), ⟨.ok, leBytes 4 (g.draw.1.toNat % (if fld b 0 1 = 0 then 40001 else 20001))⟩) := by
  simp [State.cmdPortRecal, State.answers, State.okay, Nat.not_lt.mpr hkind, Nat.not_lt.mpr hport, Nat.not_lt.mpr hflags]

theorem cmdPortStatus_net (g : State) (b : List Byte) (hzero : zeros b 2 2 = true) (hkind : fld b 0 1 = 0) (hport : fld b 1 1 ≤ 3) :
    g.cmdPortStatus b = (g, ⟨.ok, g.regField (NP_STATUS (fld b 1 1)) ++ g.regField (NP_RX_FRAMES (fld b 1 1)) ++ g.regField (NP_TX_FRAMES (fld b 1 1)) ++
      g.regField (NP_ERR_L2 (fld b 1 1)) ++ g.regField (NP_ERR_L3 (fld b 1 1)) ++ g.regField (NP_ERR_RTP (fld b 1 1)) ++
      g.regField (NP_CTRLQ (fld b 1 1)) ++ g.regField (NP_FEC (fld b 1 1))⟩) := by
  simp [State.cmdPortStatus, State.okay, hzero, hkind, Nat.not_lt.mpr hport]

theorem cmdPortStatus_tdm (g : State) (b : List Byte) (hzero : zeros b 2 2 = true) (hkind : fld b 0 1 = 1) (hport : fld b 1 1 ≤ 15) :
    g.cmdPortStatus b = (g, ⟨.ok, g.regField (TDM_FORMAT (fld b 1 1)) ++ g.regField (TDM_STATUS (fld b 1 1)) ++ g.regField (TDM_ERR (fld b 1 1))⟩) := by
  simp [State.cmdPortStatus, State.okay, hzero, hkind, Nat.not_lt.mpr hport]

theorem cmdStreamStatus_ok (g : State) (b : List Byte) (hdir : fld b 0 1 ≤ 1) (hzero : zeros b 1 1 = true) (hzero' : zeros b 6 2 = true)
    (hcount : 1 ≤ fld b 4 2 ∧ fld b 4 2 ≤ 100 ∧ fld b 2 2 + fld b 4 2 ≤ 4096) :
    g.cmdStreamStatus b = (g, ⟨.ok, (List.range (fld b 4 2)).flatMap fun i =>
      g.regField (if fld b 0 1 = 0 then NPE_RXSTAT (fld b 2 2 + i) else NPE_TXSTAT (fld b 2 2 + i))⟩) := by
  simp only [State.cmdStreamStatus, State.okay, hzero, hzero', hcount, Nat.not_lt.mpr hdir, and_self, decide_true, decide_false, Bool.not_true,
    Bool.or_self, Bool.false_eq_true, if_false]

/-- Settles O60: each command's row answers what its effect replies, and the reply under the clause's conditions. -/
theorem prosalConfiguresClocksAndPorts : Obligations.ProsalConfiguresClocksAndPorts := by
  intro s k b g v port
  refine ⟨?clockCfg, ?ptpCfg, ?clockStatus, ?servoInput, ?blockPreset, ?netPortCfg, ?rxStreamSet, ?txStreamSet, ?streamDelete, ?concealChoice,
    ?tdmCfg, ?portRecal, ?portStatus, ?streamStatus⟩
  case clockCfg =>
    intro hasked hfits hsource hrate hmode
    exact answered_of_reply _ hasked rfl (cmdClockCfg_ok g b hfits hsource hrate hmode)
  case ptpCfg =>
    intro hasked hcfg hprio ha ha' hd hd' hs hs' ht ht'
    exact answered_of_reply _ hasked rfl (cmdPtpCfg_ok g b hcfg hprio ⟨ha, ha'⟩ ⟨hd, hd'⟩ ⟨hs, hs'⟩ ⟨ht, ht'⟩)
  case clockStatus => exact fun hasked => answered_of_reply _ hasked rfl rfl
  case servoInput =>
    intro hasked hactive
    refine ⟨fun hflags hservo => ?_, fun hflags hservo => ?_, fun hflags hservo => ?_⟩
    · exact answered_of_reply _ hasked rfl ((cmdServoInput_reply g b hactive hflags).trans (if_neg (ne_true_of_eq_false hservo)))
    · refine answered_of_reply _ hasked rfl ((cmdServoInput_reply g b hactive (by omega)).trans ?_)
      simp [hservo, hflags, v]
    · refine answered_of_reply _ hasked rfl ((cmdServoInput_reply g b hactive (by omega)).trans ?_)
      simp [hservo, hflags, v]
  case blockPreset =>
    intro hasked hactive
    exact ⟨fun hlock => answered_of_reply _ hasked rfl ((cmdBlockPreset_reply g b hactive).trans (if_neg (ne_true_of_eq_false hlock))),
      fun hlock => answered_of_reply _ hasked rfl ((cmdBlockPreset_reply g b hactive).trans (if_pos hlock))⟩
  case netPortCfg =>
    intro t₁ t₂ t₃ hasked hctrl hspeed hasym
    have hreply := cmdNetPortCfg_reply g port b hctrl hspeed hasym
    exact ⟨fun hrate => answered_of_reply _ hasked rfl (hreply.trans (if_neg (ne_true_of_eq_false hrate))),
      fun hrate => answered_of_reply _ hasked rfl (hreply.trans (if_pos hrate))⟩
  case rxStreamSet =>
    intro i r hasked hgood
    refine ⟨fun hfull => answered_of_reply _ hasked rfl (cmdRxStreamSet_noChannels g b hgood hfull),
      fun hroom => ⟨fun hnone => answered_of_reply _ hasked rfl (cmdRxStreamSet_noBuffer g b hgood hroom hnone), fun base hbase => ?_⟩⟩
    have hreply := cmdRxStreamSet_placed g b base hgood hroom hbase
    exact ⟨fun hrate => answered_of_reply _ hasked rfl (hreply.trans (if_neg (ne_true_of_eq_false hrate))),
      fun hrate => answered_of_reply _ hasked rfl (hreply.trans (if_pos hrate))⟩
  case txStreamSet =>
    intro i r t hasked hgood hroom
    have hreply := cmdTxStreamSet_of_good g b hgood hroom
    exact ⟨fun hrate => answered_of_reply _ hasked rfl (hreply.trans (if_neg (ne_true_of_eq_false hrate))),
      fun hrate => answered_of_reply _ hasked rfl (hreply.trans (if_pos hrate))⟩
  case streamDelete =>
    intro i hasked hzero hindex
    refine ⟨fun hdir hsome => ?_, fun hdir hsome => ?_, fun hdir hnone => ?_⟩
    · exact answered_of_reply _ hasked rfl ((cmdStreamDelete_rx g b hzero hindex hdir).trans (if_neg (ne_true_of_eq_false (Option.isNone_eq_false_iff.mpr hsome))))
    · exact answered_of_reply _ hasked rfl ((cmdStreamDelete_tx g b hzero hindex hdir).trans (if_neg (ne_true_of_eq_false (Option.isNone_eq_false_iff.mpr hsome))))
    · exact answered_of_reply _ hasked rfl ((cmdStreamDelete_rx g b hzero hindex hdir).trans (if_pos (by simpa using hnone)))
  case concealChoice =>
    intro i hasked hactive hindex hpolicy hzero
    exact ⟨fun r hmode hrx hepisode =>
        answered_of_reply _ hasked rfl (cmdConcealChoice_ok g b r hactive hindex hpolicy hzero hmode hrx hepisode),
      fun hmode => answered_of_reply _ hasked rfl (cmdConcealChoice_mode g b hactive hindex hpolicy hzero hmode)⟩
  case tdmCfg =>
    intro t hasked hfits
    have hreply := cmdTdmCfg_reply g port b hfits
    exact ⟨fun hstate => answered_of_reply _ hasked rfl (hreply.trans (if_neg hstate)),
      fun hstate => answered_of_reply _ hasked rfl (hreply.trans (if_pos hstate))⟩
  case portRecal =>
    intro hasked hkind hport hflags
    have hreply := cmdPortRecal_reply g b hkind hport hflags
    refine ⟨fun hmay => answered_of_reply _ hasked rfl (hreply.trans (if_neg ?_)),
      fun hflag hrefused => answered_of_reply _ hasked rfl (hreply.trans (if_pos ⟨hflag, hrefused⟩))⟩
    rintro ⟨hzero, hrefused⟩
    rcases hmay with hforce | hfree
    · omega
    · simp [hfree] at hrefused
  case portStatus =>
    intro j hasked hzero
    exact ⟨fun hkind hport => answered_of_reply _ hasked rfl (cmdPortStatus_net g b hzero hkind hport),
      fun hkind hport => answered_of_reply _ hasked rfl (cmdPortStatus_tdm g b hzero hkind hport)⟩
  case streamStatus =>
    intro hasked hdir hzero hzero' hlow hhigh hend
    exact answered_of_reply _ hasked rfl (cmdStreamStatus_ok g b hdir hzero hzero' ⟨hlow, hhigh, hend⟩)

end Sys2Proof.Proofs

namespace Sys2Proof.Proofs
open Sys2Proof.Machine Sys2Proof.Safety

/-! ## Registers: what writes to others leave, and 64-bit pairs -/

theorem reg_put_other (s : State) (f : Fld) (v a : Nat) (h : f.addr ≠ a) : (s.put f v).reg a = s.reg a :=
  State.reg_setReg_other _ _ _ _ h

theorem reg_put64_other (s : State) (lo v a : Nat) (hlo : lo ≠ a) (hhi : lo + 4 ≠ a) : (s.put64 lo v).reg a = s.reg a := by
  rw [State.put64, State.reg_setReg_other _ _ _ _ hhi, State.reg_setReg_other _ _ _ _ hlo]

/-- A 64-bit pair read back after it is written. -/
theorem get64_put64_same (s : State) (lo v : Nat) : (s.put64 lo v).get64 lo = v % 2 ^ 64 := by
  rw [State.get64, State.put64, State.reg_setReg_self, State.reg_setReg_other _ _ _ _ (by omega), State.reg_setReg_self, BitVec.toNat_ofNat,
    BitVec.toNat_ofNat]
  omega

theorem get64_eq_of_regs {s u : State} (lo : Nat) (hlo : u.reg lo = s.reg lo) (hhi : u.reg (lo + 4) = s.reg (lo + 4)) : u.get64 lo = s.get64 lo := by
  rw [State.get64, hlo, hhi, State.get64]

/-! ## Events and host vectors -/

/-- Whether a stored event is pending is told by its word of EVR.PEND alone. -/
theorem eventPending_eq_of_reg {s u : State} (e : Nat) (he : e < 320) (h : u.reg (EVR_PEND (e / 32)) = s.reg (EVR_PEND (e / 32))) :
    u.eventPending e = s.eventPending e := by
  simp only [State.eventPending, Nat.not_le.mpr he, if_false, h]

/-- The words of EVR.PEND lie together: a register elsewhere is none of them. -/
theorem ne_EVR_PEND (a e : Nat) (he : e < 320) (ha : a < EVR_PEND 0 ∨ EVR_PEND 9 < a) : a ≠ EVR_PEND (e / 32) := by
  unfold EVR_PEND at *; omega

theorem eventPending_setReg (s : State) (a : Nat) (w : Word) (e : Nat) (he : e < 320) (ha : a < EVR_PEND 0 ∨ EVR_PEND 9 < a) :
    (s.setReg a w).eventPending e = s.eventPending e :=
  eventPending_eq_of_reg e he (State.reg_setReg_other _ _ _ _ (ne_EVR_PEND a e he ha))

theorem eventPending_put (s : State) (f : Fld) (v e : Nat) (he : e < 320) (ha : f.addr < EVR_PEND 0 ∨ EVR_PEND 9 < f.addr) :
    (s.put f v).eventPending e = s.eventPending e :=
  eventPending_setReg s f.addr _ e he ha

theorem eventPending_put64 (s : State) (lo v e : Nat) (he : e < 320) (ha : lo + 4 < EVR_PEND 0 ∨ EVR_PEND 9 < lo) :
    (s.put64 lo v).eventPending e = s.eventPending e := by
  rw [State.put64, eventPending_setReg _ _ _ _ he (by omega), eventPending_setReg _ _ _ _ he (by omega)]

/-- A pulse of any event leaves a pending event pending. -/
theorem eventPending_pulse_mono (s : State) (e d : Nat) (he : e < 320) (h : s.eventPending e = true) : (s.pulse d).eventPending e = true := by
  unfold State.pulse
  split_ifs with hd
  · exact h
  · by_cases hw : d / 32 = e / 32
    · simp only [State.eventPending, Nat.not_le.mpr he, if_false] at h ⊢
      rw [hw, State.reg_setReg_self, BitVec.toNat_or, Nat.testBit_or, h, Bool.true_or]
    · rw [eventPending_eq_of_reg e he (State.reg_setReg_other _ _ _ _ (by unfold EVR_PEND; omega))]
      exact h

@[simp] theorem get64_drivePins (s : State) (lo : Nat) : s.drivePins.get64 lo = s.get64 lo := rfl

@[simp] theorem flag_drivePins (s : State) (f : Fld) : s.drivePins.flag f = s.flag f := rfl

@[simp] theorem eventPending_drivePins (s : State) (e : Nat) : s.drivePins.eventPending e = s.eventPending e := rfl

theorem eventPending_irq (s : State) (v e : Nat) (he : e < 320) : (s.irq v).eventPending e = s.eventPending e :=
  eventPending_eq_of_reg e he (State.reg_irq_other s v _ (ne_EVR_PEND _ e he (by decide)))

/-- A host vector that is set is pending (R404). -/
theorem irqPend_irq (s : State) (v : Nat) (hv : v < 32) : ((s.irq v).reg MBX_IRQ_PEND).getLsbD v = true := by
  have hbit : (s.reg MBX_IRQ_PEND ||| BitVec.ofNat 32 (2 ^ v)).getLsbD v = true := by
    rw [BitVec.getLsbD_or, BitVec.getLsbD_ofNat, Nat.testBit_two_pow_self, decide_eq_true hv, Bool.and_self, Bool.or_true]
  unfold State.irq
  dsimp only
  split_ifs
  · exact (congrArg (fun w : Word => w.getLsbD v) (State.reg_setReg_self _ _ _)).trans hbit
  · exact (congrArg (fun w : Word => w.getLsbD v) (State.reg_setReg_self _ _ _)).trans hbit

/-! ## Frames between the twins -/

/-- What a valid frame of a critical type leaves of the link: its channel and the link have heard it, the next SEQ is expected (R372, R373). -/
def heard (s : State) (ty : Nat) (h : SovHead) : State :=
  s.onSov fun v => { v with
    chans := Sparse.set (fun _ => {}) v.chans h.chan { s.linkChan h.chan with lastAt := s.time }
    heardAt := s.time, heartLost := false
    seqRx := Sparse.set (fun _ => 0) v.seqRx ty ((h.seq.toNat + 1) % 2 ^ 32) }

theorem sovAccept_critical (s : State) (ty : Nat) (h : SovHead) (hcrit : sovCritical ty = true) (harr : Sys2Proof.Statements.Arrives s ty h) :
    s.sovAccept ty h = (heard s ty h, true, false) := by
  obtain ⟨hcrc, hlen, hchan, hlink, hseq⟩ := harr
  have h4 : ty ≠ 4 := by rintro rfl; simp [sovCritical] at hcrit
  have hd : (h.seq.toNat + 2 ^ 32 - Sparse.get (fun _ => 0) s.sov.seqRx ty) % 2 ^ 32 = 0 := by
    rw [← hseq hcrit]; omega
  have hsmall : ¬2 ^ 31 ≤ 0 := by decide
  have hlink' : ∀ f g, ((s.onSov f).onSov g).get SOV_STATUS_LINK = 2 := fun _ _ => hlink
  simp only [State.sovAccept, State.setLinkChan, hchan, hcrc, hlen, hcrit, h4, hlink', State.onSov_sov, hd, ne_eq, not_true_eq_false, and_false,
    or_self, if_false, if_true, Bool.not_true, Bool.false_eq_true, hsmall, decide_false]
  rfl

/-- The state in which a CMD frame that arrives is acted on: it is heard, and event 45 is pending (R377). -/
def cmdTaken (s : State) (h : SovHead) : State := (heard s 5 h).pulse 45

theorem onCmd_taken (s : State) (op : Nat) (h : SovHead) (c : SovCmd) (f : State → State) (harr : Sys2Proof.Statements.Arrives s 5 h)
    (hserved : c.answer = true ∨ (cmdTaken s h).prosalUp = true) : s.onCmd op h c f = .next (f (cmdTaken s h)).drivePins := by
  have hbusy : (!c.answer && !(cmdTaken s h).prosalUp) = false := by rcases hserved with hc | hp <;> simp [*]
  unfold cmdTaken at hbusy ⊢
  simp [State.onCmd, State.onFrame, sovAccept_critical s 5 h rfl harr, hbusy]

theorem onCmd_busy (s : State) (op : Nat) (h : SovHead) (c : SovCmd) (f : State → State) (harr : Sys2Proof.Statements.Arrives s 5 h)
    (hasks : c.answer = false) (hdown : (cmdTaken s h).prosalUp = false) :
    s.onCmd op h c f = .next ((cmdTaken s h).sendCmd op 1 c.tag.toNat 0 0).drivePins := by
  unfold cmdTaken at hdown ⊢
  simp [State.onCmd, State.onFrame, sovAccept_critical s 5 h rfl harr, hasks, hdown]

/-- Hearing a frame and pending event 45 touch one register. -/
theorem reg_cmdTaken (s : State) (h : SovHead) (a : Nat) (ha : EVR_PEND 1 ≠ a) : (cmdTaken s h).reg a = s.reg a :=
  State.reg_pulse_other (heard s 5 h) 45 a ha

theorem get_cmdTaken (s : State) (h : SovHead) (f : Fld) (hf : EVR_PEND 1 ≠ f.addr) : (cmdTaken s h).get f = s.get f := by
  rw [State.get, reg_cmdTaken s h _ hf, State.get]

theorem flag_cmdTaken (s : State) (h : SovHead) (f : Fld) (hf : EVR_PEND 1 ≠ f.addr) : (cmdTaken s h).flag f = s.flag f := by
  rw [State.flag, get_cmdTaken s h f hf, State.flag]

@[simp] theorem eng_cmdTaken (s : State) (h : SovHead) : (cmdTaken s h).eng = s.eng := rfl

@[simp] theorem clk_cmdTaken (s : State) (h : SovHead) : (cmdTaken s h).clk = s.clk := rfl

theorem eventPending_cmdTaken (s : State) (h : SovHead) : (cmdTaken s h).eventPending 45 = true :=
  State.eventPending_pulse (heard s 5 h) 45 (by decide) (by decide)

@[simp] theorem prosalUp_cmdTaken (s : State) (h : SovHead) : (cmdTaken s h).prosalUp = s.prosalUp := flag_cmdTaken s h MBX_CTRL_PROSAL_UP (by decide)

@[simp] theorem role_cmdTaken (s : State) (h : SovHead) : (cmdTaken s h).get SOV_STATUS_ROLE = s.get SOV_STATUS_ROLE :=
  get_cmdTaken s h SOV_STATUS_ROLE (by decide)

@[simp] theorem selfReady_cmdTaken (s : State) (h : SovHead) : (cmdTaken s h).selfReady = s.selfReady := by
  have hsov : (cmdTaken s h).sov.syncGood = s.sov.syncGood ∧ (cmdTaken s h).sov.choiceBy = s.sov.choiceBy := ⟨rfl, rfl⟩
  simp only [State.selfReady, State.pinsOf, role_cmdTaken, hsov, get_cmdTaken s h SOV_STATUS_LINK (by decide),
    flag_cmdTaken s h FCU_STATUS_SAFE (by decide), flag_cmdTaken s h FCU_STATUS_ARMED (by decide), flag_cmdTaken s h SOV_CTRL_EN (by decide)]

@[simp] theorem blockA_cmdTaken (s : State) (h : SovHead) : (cmdTaken s h).blockA = s.blockA := by
  have hN : (cmdTaken s h).blockN = s.blockN :=
    get64_eq_of_regs BSQ_BLOCK_LO (reg_cmdTaken s h _ (by decide)) (reg_cmdTaken s h _ (by decide))
  have htime : (cmdTaken s h).time = s.time := rfl
  simp only [State.blockA, eng_cmdTaken, hN, htime]
  rfl

/-! ## Answers -/

@[simp] theorem get_sendCmd (s : State) (op st tag a0 a1 : Nat) (f : Fld) : (s.sendCmd op st tag a0 a1).get f = s.get f := rfl

@[simp] theorem get64_sendCmd (s : State) (op st tag a0 a1 lo : Nat) : (s.sendCmd op st tag a0 a1).get64 lo = s.get64 lo := rfl

/-- A CMD frame with body `b` has gone out last, and event 45 is pending. -/
def CmdSent (u : State) (b : List Byte) : Prop := (Sys2Proof.Statements.SentFrame u 5).body = b ∧ u.eventPending 45 = true

@[simp] theorem get64_answer (s : State) (op st : Nat) (c : SovCmd) (lo : Nat) : (s.answer op st c).get64 lo = s.get64 lo := rfl

@[simp] theorem eventPending_answer (s : State) (op st : Nat) (c : SovCmd) (e : Nat) : (s.answer op st c).eventPending e = s.eventPending e := rfl

theorem cmdSent_sendCmd (s : State) (op st tag a0 a1 : Nat) (hp : s.eventPending 45 = true) :
    CmdSent (s.sendCmd op st tag a0 a1).drivePins (Sys2Proof.Statements.cmdBody op st tag a0 a1) := by
  refine ⟨?_, hp⟩
  have hget := Sparse.get_put_self (fun _ => (⟨0, 0, []⟩ : SovSent)) s.sov.sent 5
    ⟨Sparse.get (fun _ => 0) s.sov.seqTx 5, s.get64 BSQ_BLOCK_LO, Sys2Proof.Statements.cmdBody op st tag a0 a1⟩
  exact congrArg SovSent.body hget

theorem cmdSent_answer (s : State) (op st : Nat) (c : SovCmd) (hp : s.eventPending 45 = true) :
    CmdSent (s.answer op st c).drivePins (Sys2Proof.Statements.cmdBody op st c.tag.toNat c.arg0.toNat c.arg1.toNat) :=
  cmdSent_sendCmd s op st _ _ _ hp

/-! ## An accepted switch (R62, R65, R66) -/

/-- What every step of a loop keeps, the loop keeps. -/
theorem foldl_keeps {α β γ : Type} (g : α → γ) (f : α → β → α) (hf : ∀ a b, g (f a b) = g a) (l : List β) (a : α) : g (l.foldl f a) = g a := by
  induction l generalizing a with
  | nil => rfl
  | cons b l ih => exact (ih (f a b)).trans (hf a b)

theorem reg_setStep_other (s : State) (k a : Nat) (hstep : BSQ_SWITCH_STATE_STEP.addr ≠ a) (hev : EVR_PEND 1 ≠ a) (hirq : MBX_IRQ_PEND ≠ a) :
    (s.setStep k).reg a = s.reg a := by
  unfold State.setStep
  split_ifs
  · rfl
  · rw [State.reg_irq_other _ _ _ hirq, State.reg_pulse_other _ _ _ hev, reg_put_other _ _ _ _ hstep]

@[simp] theorem eng_setStep (s : State) (k : Nat) : (s.setStep k).eng = s.eng := by
  unfold State.setStep
  split_ifs
  · rfl
  · rw [State.irq_eq, State.pulse_regs]; rfl

theorem eventPending_setStep (s : State) (k e : Nat) (he : e < 320) (h : s.eventPending e = true) : (s.setStep k).eventPending e = true := by
  unfold State.setStep
  split_ifs
  · exact h
  · rw [eventPending_irq _ _ _ he]
    refine eventPending_pulse_mono _ _ _ he ?_
    rw [eventPending_put _ _ _ _ he (by decide)]
    exact h

@[simp] theorem running_cancelParks (s : State) (b : Nat) : (s.cancelParks b).eng.running = s.eng.running := by
  unfold State.cancelParks State.parkCancelled
  extract_lets gone m m'
  have hm : m.eng = s.eng := foldl_keeps State.eng (fun s (k : Park) => s.put (laybyUse k.layby) k.use) (fun _ _ => rfl) _ s
  have hm' : m'.eng = s.eng := by
    simp only [m']
    split_ifs
    · exact hm
    · rw [State.irq_eq]; exact hm
  rw [State.onEng_eng, hm']

theorem laybyUse_addr (p : Nat) : (laybyUse p).addr = BSQ_LAYBY_USE16.addr := by
  unfold laybyUse; split_ifs <;> rfl

theorem eventPending_cancelParks (s : State) (b e : Nat) (he : e < 320) : (s.cancelParks b).eventPending e = s.eventPending e := by
  unfold State.cancelParks State.parkCancelled
  extract_lets gone m m'
  have hm : m.eventPending e = s.eventPending e :=
    foldl_keeps (·.eventPending e) (fun s (k : Park) => s.put (laybyUse k.layby) k.use)
      (fun u k => eventPending_put u _ _ e he (by rw [laybyUse_addr]; decide)) _ s
  have hm' : m'.eventPending e = s.eventPending e := by
    simp only [m']
    split_ifs
    · exact hm
    · rw [eventPending_irq _ _ _ he]; exact hm
  exact hm'

/-- While an image runs, an accepted switch stands at its block, shown in BSQ.SWITCH; pending events stay pending. -/
theorem acceptSwitch_running (s : State) (im : Image) (b : Nat) (hot alone : Bool) (hrun : s.eng.running ≠ none) :
    (s.acceptSwitch im b hot alone).eng.switch.map (fun w => (w.block, w.alone)) = some (b, alone) ∧
      (s.acceptSwitch im b hot alone).get64 BSQ_SWITCH_LO = b % 2 ^ 64 ∧
      ∀ e < 320, s.eventPending e = true → (s.acceptSwitch im b hot alone).eventPending e = true := by
  unfold State.acceptSwitch
  extract_lets wait w m
  have hpend : ∀ e < 320, s.eventPending e = true → m.eventPending e = true := fun e he hp => by
    rw [eventPending_put64 _ _ _ _ he (by decide), eventPending_cancelParks _ _ _ he]; exact hp
  have hb : m.get64 BSQ_SWITCH_LO = b % 2 ^ 64 := get64_put64_same _ _ _
  have hr : m.eng.running.isNone = false := by
    have : m.eng.running = s.eng.running := running_cancelParks s b
    rw [this, Option.isNone_eq_false_iff]; exact Option.isSome_iff_ne_none.mpr hrun
  split_ifs
  · exact ⟨rfl, hb, hpend⟩
  · have hlet : m.letStage im w = (m.onEng fun e => { e with switch := some w }).setStep 2 := by
      simp [State.letStage, hr]
    rw [hlet]
    refine ⟨by rw [eng_setStep]; rfl, ?_, fun e he hp => eventPending_setStep _ _ _ he (hpend e he hp)⟩
    rw [get64_eq_of_regs BSQ_SWITCH_LO (reg_setStep_other _ _ _ (by decide) (by decide) (by decide))
      (reg_setStep_other _ _ _ (by decide) (by decide) (by decide))]
    exact hb

/-! ## Commands between the twins -/

section
variable {s : State} {h : SovHead} {c : SovCmd} (harr : Sys2Proof.Statements.Arrives s 5 h)
include harr

/-- While Prosal restarts a request is answered BUSY and has no effect (R377). -/
theorem busy_answer (op : Nat) (i : Instr) (f : State → State) (hi : exec i s = s.onCmd op h c f) (hasks : c.answer = false) (hdown : s.prosalUp = false) :
    Gives s i fun u => CmdSent u (Sys2Proof.Statements.cmdBody op 1 c.tag.toNat 0 0) ∧ u.eng = s.eng ∧ u.clk = s.clk ∧ u.sov.swapAt = s.sov.swapAt ∧
      u.sov.join = s.sov.join :=
  ⟨_, hi.trans (onCmd_busy s op h c f harr hasks (by simpa using hdown)), cmdSent_sendCmd _ _ _ _ _ _ (eventPending_cmdTaken s h), rfl, rfl, rfl, rfl⟩

/-- What is served goes on with the command's effect on the state in which the frame was taken. -/
theorem gives_served (op : Nat) (i : Instr) (f : State → State) (Q : State → Prop) (hi : exec i s = s.onCmd op h c f)
    (hserved : c.answer = true ∨ s.prosalUp = true) (hQ : Q (f (cmdTaken s h)).drivePins) : Gives s i Q :=
  ⟨_, hi.trans (onCmd_taken s op h c f harr (by simpa using hserved)), hQ⟩

/-- A request answered with a refusal changes nothing else (R377). -/
theorem gives_refused (op st : Nat) (i : Instr) (f : State → State) (Q : State → Prop) (hi : exec i s = s.onCmd op h c f) (hup : s.prosalUp = true)
    (hf : f (cmdTaken s h) = (cmdTaken s h).answer op st c) (hQ : ∀ u, u = ((cmdTaken s h).answer op st c).drivePins → Q u) :
    Gives s i fun u => Q u ∧ CmdSent u (Sys2Proof.Statements.cmdBody op st c.tag.toNat c.arg0.toNat c.arg1.toNat) :=
  gives_served harr op i f _ hi (.inr hup) ⟨hQ _ (by rw [hf]), by rw [hf]; exact cmdSent_answer _ _ _ _ (eventPending_cmdTaken s h)⟩

theorem swap_armed (hasks : c.answer = false) (hup : s.prosalUp = true) (hready : s.selfReady = true) (hsw : s.eng.switch = none) (hst : s.clk.step = none) :
    Gives s (.swapCmd h c) fun u => u.sov.swapAt = some c.arg0.toNat ∧
      CmdSent u (Sys2Proof.Statements.cmdBody 1 0 c.tag.toNat c.arg0.toNat c.arg1.toNat) := by
  refine gives_served harr 1 _ _ _ (exec_swapCmd h c s) (.inr hup) ?_
  simp only [hasks, Bool.false_eq_true, if_false, selfReady_cmdTaken, eng_cmdTaken, clk_cmdTaken, hready, hsw, hst, Option.isNone_none, Bool.and_self, if_true]
  exact ⟨rfl, cmdSent_answer _ _ _ _ (eventPending_cmdTaken s h)⟩

theorem swap_refused (hasks : c.answer = false) (hup : s.prosalUp = true) (hready : s.selfReady = false) :
    Gives s (.swapCmd h c) fun u => u.sov.swapAt = s.sov.swapAt ∧
      CmdSent u (Sys2Proof.Statements.cmdBody 1 2 c.tag.toNat c.arg0.toNat c.arg1.toNat) := by
  refine gives_refused harr 1 2 _ _ _ (exec_swapCmd h c s) hup ?_ (by rintro _ rfl; rfl)
  simp [hasks, hready]

theorem swap_given_up (hans : c.answer = true) (hst : c.status ≠ 0) :
    Gives s (.swapCmd h c) fun u => u.sov.swapAt = none ∧ u.sov.sent = s.sov.sent := by
  refine gives_served harr 1 _ _ _ (exec_swapCmd h c s) (.inl hans) ?_
  simp only [hans, hst, if_true, if_false]
  exact ⟨rfl, rfl⟩

theorem switch_accepted (im : Image) (hasks : c.answer = false) (hup : s.prosalUp = true) (hpend : s.eng.pending = some im)
    (hrole : 3 ≤ s.get SOV_STATUS_ROLE) (hsw : s.eng.switch = none) (hrun : s.eng.running ≠ none) :
    Gives s (.switchCmd h c) fun u =>
      let b := max c.arg0.toNat (s.earliestSwitch im)
      u.eng.switch.map (fun w => (w.block, w.alone)) = some (b, c.arg1.getLsbD 0) ∧ CmdSent u (Sys2Proof.Statements.cmdBody 3 0 0 b 0) ∧
        u.get64 BSQ_SWITCH_LO = b % 2 ^ 64 := by
  have hcount : (cmdTaken s h).countIn im = cmdTaken s h := by
    simp [State.countIn, Option.isSome_iff_ne_none.mpr hrun]
  have hfirst : (cmdTaken s h).earliestSwitch im = s.earliestSwitch im := by simp only [State.earliestSwitch, blockA_cmdTaken]
  refine gives_served harr 2 _ _ _ (exec_switchCmd h c s) (.inr hup) ?_
  simp only [hasks, Bool.false_eq_true, if_false, eng_cmdTaken, hpend, role_cmdTaken, hrole, hsw, and_self, if_true, hcount, hfirst]
  have haccept := acceptSwitch_running (cmdTaken s h) im (max c.arg0.toNat (s.earliestSwitch im)) ((cmdTaken s h).hotPossible im) (c.arg1.getLsbD 0) hrun
  generalize State.acceptSwitch _ _ _ _ _ = u at haccept ⊢
  obtain ⟨hblock, hlo, hev⟩ := haccept
  have hev' : (u.answer 2 0 c).eventPending 45 = true := (eventPending_answer u 2 0 c 45).trans (hev 45 (by decide) (eventPending_cmdTaken s h))
  rw [get64_drivePins, get64_sendCmd, get64_answer]
  exact ⟨hblock, cmdSent_sendCmd _ _ _ _ _ _ hev', hlo⟩

omit harr in
/-- The primary's registers and record of a join at block `j` (R393). -/
theorem joinReq_regs (m : State) (j : Nat) : ((m.put64 SOV_JOIN_LO j).put SOV_JOIN_PHASE 0).get SOV_JOIN_PHASE = 0 ∧
    ((m.put64 SOV_JOIN_LO j).put SOV_JOIN_PHASE 0).get64 SOV_JOIN_LO = j % 2 ^ 64 ∧
    ((m.put64 SOV_JOIN_LO j).put SOV_JOIN_PHASE 0).eventPending 45 = m.eventPending 45 := by
  refine ⟨State.get_put_eq _ _ _ (by decide) (by decide), ?_, ?_⟩
  · rw [get64_eq_of_regs SOV_JOIN_LO (reg_put_other _ _ _ _ (by decide)) (reg_put_other _ _ _ _ (by decide)), get64_put64_same]
  · rw [eventPending_put _ _ _ _ (by decide) (by decide), eventPending_put64 _ _ _ _ (by decide) (by decide)]

theorem switch_refused (hasks : c.answer = false) (hup : s.prosalUp = true) (hpend : s.eng.pending = none) :
    Gives s (.switchCmd h c) fun u => u.eng = s.eng ∧ CmdSent u (Sys2Proof.Statements.cmdBody 2 2 c.tag.toNat c.arg0.toNat c.arg1.toNat) := by
  refine gives_refused harr 2 2 _ _ _ (exec_switchCmd h c s) hup ?_ (by rintro _ rfl; rfl)
  simp [hasks, hpend]

theorem step_taken (hasks : c.answer = false) (hup : s.prosalUp = true) (hrole : 3 ≤ s.get SOV_STATUS_ROLE) :
    Gives s (.stepCmd h c) fun u => u.clk = { s.clk with step := some (-s.clk.offset), stepAt := some c.arg0.toNat } ∧
      CmdSent u (Sys2Proof.Statements.cmdBody 4 0 c.tag.toNat c.arg0.toNat c.arg1.toNat) := by
  refine gives_served harr 4 _ _ _ (exec_stepCmd h c s) (.inr hup) ?_
  simp only [hasks, role_cmdTaken, Nat.not_lt.mpr hrole, decide_false, Bool.or_self, Bool.false_eq_true, if_false]
  exact ⟨rfl, cmdSent_answer _ _ _ _ (eventPending_cmdTaken s h)⟩

theorem preset_taken (hasks : c.answer = false) (hup : s.prosalUp = true) (hrole : 3 ≤ s.get SOV_STATUS_ROLE) :
    Gives s (.presetCmd h c) fun u => u.eng = { s.eng with presetAt := some (c.arg0.toNat, c.arg1.toNat) } ∧
      CmdSent u (Sys2Proof.Statements.cmdBody 10 0 c.tag.toNat c.arg0.toNat c.arg1.toNat) := by
  refine gives_served harr 10 _ _ _ (exec_presetCmd h c s) (.inr hup) ?_
  simp only [hasks, role_cmdTaken, Nat.not_lt.mpr hrole, decide_false, Bool.or_self, Bool.false_eq_true, if_false]
  exact ⟨rfl, cmdSent_answer _ _ _ _ (eventPending_cmdTaken s h)⟩

theorem join_answered (hup : s.prosalUp = true) (hrole : s.get SOV_STATUS_ROLE = 2) :
    Gives s (.joinReq h c) fun u =>
      let j := s.blockA + 2
      u.sov.join = some j ∧ u.sov.snapOpen = false ∧ u.get SOV_JOIN_PHASE = 0 ∧ u.get64 SOV_JOIN_LO = j % 2 ^ 64 ∧
        CmdSent u (Sys2Proof.Statements.cmdBody 6 0 c.tag.toNat j 0) := by
  refine gives_served harr 5 _ _ _ (exec_joinReq h c s) (.inr hup) ?_
  simp only [role_cmdTaken, hrole, ne_eq, not_true_eq_false, if_false, blockA_cmdTaken]
  obtain ⟨hphase, hlo, hev⟩ := joinReq_regs
    ((cmdTaken s h).onSov fun v => { v with join := some (s.blockA + 2), snapOpen := false, snapRead := [], joinLog := [], expressAt := none }) (s.blockA + 2)
  rw [State.get_drivePins, get64_drivePins, get_sendCmd, get64_sendCmd]
  exact ⟨rfl, rfl, hphase, hlo, cmdSent_sendCmd _ _ _ _ _ _ (hev.trans (eventPending_cmdTaken s h))⟩

theorem join_refused (hup : s.prosalUp = true) (hrole : s.get SOV_STATUS_ROLE ≠ 2) :
    Gives s (.joinReq h c) fun u => u.sov.join = s.sov.join ∧ CmdSent u (Sys2Proof.Statements.cmdBody 5 2 c.tag.toNat c.arg0.toNat c.arg1.toNat) := by
  refine gives_refused harr 5 2 _ _ _ (exec_joinReq h c s) hup ?_ (by rintro _ rfl; rfl)
  simp [hrole]

theorem expressAt_taken (hup : s.prosalUp = true) (hrole : s.get SOV_STATUS_ROLE = 2) :
    Gives s (.expressAt h c) fun u => u.sov.expressAt = some c.arg0.toNat ∧
      CmdSent u (Sys2Proof.Statements.cmdBody 7 0 c.tag.toNat c.arg0.toNat c.arg1.toNat) := by
  refine gives_served harr 7 _ _ _ (exec_expressAt h c s) (.inr hup) ?_
  simp only [role_cmdTaken, hrole, ne_eq, not_true_eq_false, if_false]
  exact ⟨rfl, cmdSent_answer _ _ _ _ (eventPending_cmdTaken s h)⟩

theorem switchAt_deferred (w : Switch) (hserved : c.answer = true ∨ s.prosalUp = true) (hsw : s.eng.switch = some w) (hpend : s.eng.pending ≠ none)
    (hboth : w.alone = false) (hlater : w.block < c.arg0.toNat) :
    Gives s (.switchAt h c) fun u => u.eng = { s.eng with switch := some { w with block := c.arg0.toNat } } ∧ u.get64 BSQ_SWITCH_LO = c.arg0.toNat ∧
      u.flag BSQ_STATUS_SWITCH_DEFERRED = true ∧ (u.reg MBX_IRQ_PEND).getLsbD 27 = true := by
  have hsome : s.eng.pending.isNone = false := by rw [Option.isNone_eq_false_iff]; exact Option.isSome_iff_ne_none.mpr hpend
  refine gives_served harr 3 _ _ _ (exec_switchAt h c s) hserved ?_
  simp only [eng_cmdTaken, hsw, hboth, hsome, Nat.not_le.mpr hlater, decide_false, Bool.or_self, Bool.false_eq_true, if_false]
  unfold State.putSwitch
  set m := ((cmdTaken s h).onEng fun e => { e with switch := some { w with block := c.arg0.toNat } }).put64 BSQ_SWITCH_LO c.arg0.toNat with hm
  have heng : ((m.put BSQ_STATUS_SWITCH_DEFERRED 1).irq 27).eng = m.eng := by rw [State.irq_eq]; rfl
  have hreg : ∀ a, MBX_IRQ_PEND ≠ a → BSQ_STATUS_SWITCH_DEFERRED.addr ≠ a → ((m.put BSQ_STATUS_SWITCH_DEFERRED 1).irq 27).reg a = m.reg a := fun a h1 h2 => by
    rw [State.reg_irq_other _ _ _ h1, reg_put_other _ _ _ _ h2]
  simp only [State.drivePins_eng, get64_drivePins, flag_drivePins, State.reg_drivePins]
  refine ⟨heng.trans (by simp only [hm, hboth]; rfl), ?_, ?_, irqPend_irq _ _ (by decide)⟩
  · refine (get64_eq_of_regs BSQ_SWITCH_LO (hreg _ (by decide) (by decide)) (hreg _ (by decide) (by decide))).trans ?_
    rw [hm, get64_put64_same]
    exact Nat.mod_eq_of_lt c.arg0.isLt
  · have hget : ((m.put BSQ_STATUS_SWITCH_DEFERRED 1).irq 27).get BSQ_STATUS_SWITCH_DEFERRED = 1 := by
      rw [State.get_irq_other _ _ _ (by decide), State.get_put_eq _ _ _ (by decide) (by decide)]
    simp [State.flag, hget]

theorem joinAck_learns (hserved : c.answer = true ∨ s.prosalUp = true) (hrole : s.get SOV_STATUS_ROLE = 3) :
    Gives s (.joinAck h c) fun u => u.sov.join = some c.arg0.toNat ∧ u.sov.recorded = c.arg0.toNat ∧ u.sov.expressAt = none ∧
      u.get SOV_JOIN_PHASE = 0 ∧ u.get SOV_JOIN_BACKLOG = 0 ∧ u.get64 SOV_JOIN_LO = c.arg0.toNat := by
  refine gives_served harr 6 _ _ _ (exec_joinAck h c s) hserved ?_
  simp only [role_cmdTaken, hrole, ne_eq, not_true_eq_false, if_false]
  obtain ⟨hphase, hlo, -⟩ := joinReq_regs
    ((cmdTaken s h).onSov fun v => { v with join := some c.arg0.toNat, recorded := c.arg0.toNat, expressAt := none }) c.arg0.toNat
  rw [State.get_drivePins, State.get_drivePins, get64_drivePins]
  refine ⟨rfl, rfl, rfl, ?_, State.get_put_eq _ SOV_JOIN_BACKLOG 0 (by decide) (by decide), ?_⟩
  · exact (State.get_put_apart _ SOV_JOIN_BACKLOG SOV_JOIN_PHASE _ (by decide) (by decide)).trans hphase
  · refine (get64_eq_of_regs SOV_JOIN_LO (reg_put_other _ _ _ _ (by decide)) (reg_put_other _ _ _ _ (by decide))).trans ?_
    exact hlo.trans (Nat.mod_eq_of_lt c.arg0.isLt)

theorem diverge_noted (hserved : c.answer = true ∨ s.prosalUp = true) :
    Gives s (.divergeCmd h c) fun u => u.eventPending 45 = true ∧ u.eng = s.eng ∧ u.fcu = s.fcu ∧ u.sov.sent = s.sov.sent ∧ u.mem = s.mem :=
  gives_served harr 8 _ _ _ (exec_divergeCmd h c s) hserved ⟨eventPending_cmdTaken s h, rfl, rfl, rfl, rfl⟩

/-- HOST has its effect while Prosal restarts too: it is not a request. -/
theorem execHostCmd_arrives (d : HostData) :
    exec (.hostCmd h d) s = .next (match d with
      | .relay a b => if 16 ≤ s.sov.relay.length then cmdTaken s h
          else ((cmdTaken s h).onSov fun v => { v with relay := v.relay ++ [(a.toNat, b.toNat)] }).irq 25
      | .mode f host block => if s.get SOV_STATUS_ROLE < 3 then cmdTaken s h else (cmdTaken s h).forwardedMode f.toNat host block.toNat).drivePins := by
  have hrelay : ((heard s 5 h).pulse 45).sov.relay = s.sov.relay := rfl
  have hrole : ((heard s 5 h).pulse 45).get SOV_STATUS_ROLE = s.get SOV_STATUS_ROLE := role_cmdTaken s h
  rw [exec_hostCmd, execHostCmd, State.onFrame, sovAccept_critical s 5 h rfl harr]
  cases d <;> simp only [hrelay, hrole, if_true, done_eq, cmdTaken]

theorem host_relayed (x : BitVec 64) (y : BitVec 64) (hroom : s.sov.relay.length < 16) :
    Gives s (.hostCmd h (.relay x y)) fun u =>
      u.sov.relay = s.sov.relay ++ [(x.toNat, y.toNat)] ∧ (u.reg MBX_IRQ_PEND).getLsbD 25 = true ∧ u.eventPending 45 = true := by
  refine ⟨_, execHostCmd_arrives harr _, ?_⟩
  simp only [Nat.not_le.mpr hroom, if_false]
  refine ⟨?_, irqPend_irq _ _ (by decide), ?_⟩
  · rw [State.irq_eq]; rfl
  · exact (eventPending_irq _ 25 45 (by decide)).trans (eventPending_cmdTaken s h)

/-- A mode forwarded by the primary is made by a standby (R413, R429). -/
theorem host_mode (f : BitVec 4) (host : Bool) (blk : BitVec 64) (Q : State → Prop) (hrole : 3 ≤ s.get SOV_STATUS_ROLE)
    (hQ : Q ((cmdTaken s h).forwardedMode f.toNat host blk.toNat).drivePins) : Gives s (.hostCmd h (.mode f host blk)) Q := by
  refine ⟨_, execHostCmd_arrives harr _, ?_⟩
  simp only [Nat.not_lt.mpr hrole, if_false]
  exact hQ

theorem host_modes (f : BitVec 4) (host : Bool) (blk : BitVec 64) (hrole : 3 ≤ s.get SOV_STATUS_ROLE) :
    (f = 6 → Gives s (.hostCmd h (.mode f host blk)) fun u => u.flag BSQ_CTRL_SWITCH_HOLD = host ∧ u.sov.relay = s.sov.relay) ∧
    (f = 7 → Gives s (.hostCmd h (.mode f host blk)) fun u => u.eng = { s.eng with rampChange := some (blk.toNat, host), rampStopped := false }) ∧
    (f = 8 → Gives s (.hostCmd h (.mode f host blk)) fun u => u.net = { s.net with hostConceal := host }) := by
  refine ⟨?_, ?_, ?_⟩
  · rintro rfl
    refine host_mode harr _ _ _ _ hrole ⟨(State.flag_put_self _ BSQ_CTRL_SWITCH_HOLD _ (by decide)).trans ?_, rfl⟩
    cases host <;> rfl
  · rintro rfl
    exact host_mode harr _ _ _ _ hrole rfl
  · rintro rfl
    exact host_mode harr _ _ _ _ hrole rfl

/-- Each of a partner's requests is served only while Prosal is up. -/
theorem busy_requests (op : Nat) (cmd : Instr)
    (hcmd : (op = 1 ∧ cmd = .swapCmd h c) ∨ (op = 2 ∧ cmd = .switchCmd h c) ∨ (op = 3 ∧ cmd = .switchAt h c) ∨ (op = 4 ∧ cmd = .stepCmd h c) ∨
      (op = 5 ∧ cmd = .joinReq h c) ∨ (op = 6 ∧ cmd = .joinAck h c) ∨ (op = 7 ∧ cmd = .expressAt h c) ∨ (op = 8 ∧ cmd = .divergeCmd h c) ∨
      (op = 10 ∧ cmd = .presetCmd h c)) (hasks : c.answer = false) (hdown : s.prosalUp = false) :
    Gives s cmd fun u => CmdSent u (Sys2Proof.Statements.cmdBody op 1 c.tag.toNat 0 0) ∧ u.eng = s.eng ∧ u.clk = s.clk ∧ u.sov.swapAt = s.sov.swapAt ∧
      u.sov.join = s.sov.join := by
  rcases hcmd with ⟨rfl, rfl⟩ | ⟨rfl, rfl⟩ | ⟨rfl, rfl⟩ | ⟨rfl, rfl⟩ | ⟨rfl, rfl⟩ | ⟨rfl, rfl⟩ | ⟨rfl, rfl⟩ | ⟨rfl, rfl⟩ | ⟨rfl, rfl⟩
  · exact busy_answer harr 1 _ _ (exec_swapCmd h c s) hasks hdown
  · exact busy_answer harr 2 _ _ (exec_switchCmd h c s) hasks hdown
  · exact busy_answer harr 3 _ _ (exec_switchAt h c s) hasks hdown
  · exact busy_answer harr 4 _ _ (exec_stepCmd h c s) hasks hdown
  · exact busy_answer harr 5 _ _ (exec_joinReq h c s) hasks hdown
  · exact busy_answer harr 6 _ _ (exec_joinAck h c s) hasks hdown
  · exact busy_answer harr 7 _ _ (exec_expressAt h c s) hasks hdown
  · exact busy_answer harr 8 _ _ (exec_divergeCmd h c s) hasks hdown
  · exact busy_answer harr 10 _ _ (exec_presetCmd h c s) hasks hdown

end

/-- Settles O54, command by command: a CMD frame that arrives is heard and acted on in `cmdTaken`, and each command's effect on that state gives its
clause. -/
theorem twinsCommandEachOther : Obligations.TwinsCommandEachOther := by
  intro s h c d harr
  refine ⟨fun op cmd hcmd hasks hdown => busy_requests harr op cmd hcmd hasks hdown, ?_, fun hans hst => swap_given_up harr hans hst, ?_, ?_, ?_⟩
  · rintro ⟨hasks, hup⟩
    exact ⟨fun hready hsw hst => swap_armed harr hasks hup hready hsw hst, fun hready => swap_refused harr hasks hup hready,
      fun im hpend hrole hsw hrun => switch_accepted harr im hasks hup hpend hrole hsw hrun, fun hpend => switch_refused harr hasks hup hpend,
      fun hrole => step_taken harr hasks hup hrole, fun hrole => join_answered harr hup hrole, fun hrole => join_refused harr hup hrole,
      fun hrole => expressAt_taken harr hup hrole, fun hrole => preset_taken harr hasks hup hrole⟩
  · exact fun hserved => ⟨fun w hsw hpend hboth hlater => switchAt_deferred harr w hserved hsw hpend hboth hlater,
      fun hrole => joinAck_learns harr hserved hrole, diverge_noted harr hserved⟩
  · rintro x y rfl hroom
    exact host_relayed harr x y hroom
  · rintro f host blk rfl hrole
    exact host_modes harr f host blk hrole

end Sys2Proof.Proofs

namespace Sys2Proof.Proofs
open Sys2Proof.Machine Sys2Proof.Safety

/-! ## Loops -/

theorem foldl_keeps_of_mem {α β γ : Type} (g : α → γ) (f : α → β → α) (l : List β) (hf : ∀ a, ∀ b ∈ l, g (f a b) = g a) (a : α) :
    g (l.foldl f a) = g a := by
  induction l generalizing a with
  | nil => rfl
  | cons b l ih => exact (ih (fun a c hc => hf a c (List.mem_cons_of_mem b hc)) (f a b)).trans (hf a b List.mem_cons_self)

/-! ## What changes of registers and of power leave -/

/-- A state without its registers: what a change of registers alone keeps. -/
def offRegs (s : State) : State := { s with regs := [] }

theorem eq_of_offRegs {s u : State} (h : offRegs u = offRegs s) : u = { s with regs := u.regs } :=
  calc u = { offRegs u with regs := u.regs } := rfl
    _ = { offRegs s with regs := u.regs } := by rw [h]
    _ = { s with regs := u.regs } := rfl

theorem mem_of_offRegs {s u : State} (h : offRegs u = offRegs s) : u.mem = s.mem := congrArg (·.mem) h

theorem eng_of_offRegs {s u : State} (h : offRegs u = offRegs s) : u.eng = s.eng := congrArg (·.eng) h

theorem time_of_offRegs {s u : State} (h : offRegs u = offRegs s) : u.time = s.time := congrArg (·.time) h

@[simp] theorem reg_onEng (s : State) (f : Engine → Engine) (a : Nat) : (s.onEng f).reg a = s.reg a := rfl

@[simp] theorem get_onEng (s : State) (f : Engine → Engine) (x : Fld) : (s.onEng f).get x = s.get x := rfl

@[simp] theorem eventPending_onEng (s : State) (f : Engine → Engine) (e : Nat) : (s.onEng f).eventPending e = s.eventPending e := rfl

theorem offRegs_setReg (s : State) (a : Nat) (w : Word) : offRegs (s.setReg a w) = offRegs s := rfl

theorem offRegs_put (s : State) (f : Fld) (v : Nat) : offRegs (s.put f v) = offRegs s := rfl

theorem offRegs_put64 (s : State) (lo v : Nat) : offRegs (s.put64 lo v) = offRegs s := rfl

theorem offRegs_pulse (s : State) (e : Nat) : offRegs (s.pulse e) = offRegs s := by rw [State.pulse_regs]; rfl

/-- What the power steps of clusters and banks keep: all but registers, memory with its check bits, triads and the list of wakes. -/
def offPower (s : State) : State := { s with regs := [], mem := [], werr := [], triads := [], eng := { s.eng with waking := [] } }

theorem offPower_of_offRegs {s u : State} (h : offRegs u = offRegs s) : offPower u = offPower s := by rw [eq_of_offRegs h]; rfl

/-! ## Banks (R249) -/

theorem setBank_on (s : State) (n b st : Nat) (hst : st ≠ 0) :
    s.setBank n b st = s.put (bankPwr n b) (if s.bankRetired n b = true then 0 else st) := by
  unfold State.setBank
  split_ifs <;> rfl

theorem offPower_setBank (s : State) (n b st : Nat) : offPower (s.setBank n b st) = offPower s := by
  unfold State.setBank
  dsimp only
  split_ifs <;> rfl

theorem reg_setBank (s : State) (n b st a : Nat) (ha : (bankPwr n b).addr ≠ a) : (s.setBank n b st).reg a = s.reg a := by
  unfold State.setBank
  dsimp only
  split_ifs <;> exact State.reg_setReg_other _ _ _ _ ha

theorem offRegs_setBanks (s : State) (n st : Nat) (hst : st ≠ 0) : offRegs (s.setBanks n st) = offRegs s :=
  foldl_keeps offRegs (fun s b => s.setBank n b st) (fun s b => by rw [setBank_on s n b st hst]; rfl) _ s

theorem offPower_setBanks (s : State) (n st : Nat) : offPower (s.setBanks n st) = offPower s :=
  foldl_keeps offPower (fun s b => s.setBank n b st) (fun s b => offPower_setBank s n b st) _ s

theorem bankPwr_addr (n b : Nat) (hn : n < 9) : (bankPwr n b).addr = SPM_PWR_LO n ∨ (bankPwr n b).addr = SPM_PWR_HI n := by
  unfold bankPwr
  rw [if_pos hn]
  split_ifs
  · exact .inl rfl
  · exact .inr rfl

theorem reg_setBanks (s : State) (n st a : Nat) (hn : n < 9) (hlo : SPM_PWR_LO n ≠ a) (hhi : SPM_PWR_HI n ≠ a) : (s.setBanks n st).reg a = s.reg a :=
  foldl_keeps (·.reg a) (fun s b => s.setBank n b st)
    (fun s b => reg_setBank s n b st a (by rcases bankPwr_addr n b hn with h | h <;> rw [h] <;> assumption)) _ s

/-- The power fields of two banks of a scratchpad lie apart. -/
theorem bankPwr_apart (n b c : Nat) (hn : n < 9) (hb : b < 32) (hc : c < 32) (hbc : c ≠ b) (s : State) (v : Nat) :
    (s.put (bankPwr n c) v).get (bankPwr n b) = s.get (bankPwr n b) := by
  unfold bankPwr
  rw [if_pos hn, if_pos hn]
  split_ifs with h1 h2 h2
  · exact State.get_put_apart _ _ _ _ (by dsimp only; omega) (by dsimp only; omega)
  · exact State.get_put_other _ _ _ _ (by show SPM_PWR_LO n ≠ SPM_PWR_HI n; unfold SPM_PWR_LO SPM_PWR_HI; omega)
  · exact State.get_put_other _ _ _ _ (by show SPM_PWR_HI n ≠ SPM_PWR_LO n; unfold SPM_PWR_LO SPM_PWR_HI; omega)
  · exact State.get_put_apart _ _ _ _ (by dsimp only; omega) (by dsimp only; omega)

theorem bankPwr_fits (n b : Nat) (hn : n < 9) (hb : b < 32) : (bankPwr n b).lo + (bankPwr n b).width ≤ 32 ∧ (bankPwr n b).width = 2 := by
  unfold bankPwr
  rw [if_pos hn]
  split_ifs
  · exact ⟨by dsimp only; omega, rfl⟩
  · exact ⟨by dsimp only; omega, rfl⟩

theorem bankRetired_put_bankPwr (s : State) (n b c v : Nat) (hn : n < 9) : (s.put (bankPwr n c) v).bankRetired n b = s.bankRetired n b := by
  have haddr : (bankPwr n c).addr ≠ SPM_RETIRED n := by
    rcases bankPwr_addr n c hn with h | h
    · rw [h]; unfold SPM_PWR_LO SPM_RETIRED; omega
    · rw [h]; unfold SPM_PWR_HI SPM_RETIRED; omega
  unfold State.bankRetired
  rw [if_pos hn, if_pos hn, reg_put_other _ _ _ _ haddr]

/-- Every bank of a scratchpad that is not retired takes the state set (R249, R253). -/
theorem get_setBanks (s : State) (n st b : Nat) (hn : n < 9) (hst : st ≠ 0) (hst' : st < 4) (hb : b < 32) (hret : s.bankRetired n b = false) :
    (s.setBanks n st).get (bankPwr n b) = st := by
  have hkept : ∀ (u : State) (c : Nat), (u.setBank n c st).bankRetired n b = u.bankRetired n b := fun u c => by
    rw [setBank_on u n c st hst]; exact bankRetired_put_bankPwr u n b c _ hn
  have hset : ∀ u : State, (u.setBank n b st).bankRetired n b = false → (u.setBank n b st).get (bankPwr n b) = st := fun u hu => by
    rw [hkept] at hu
    obtain ⟨hfits, hwidth⟩ := bankPwr_fits n b hn hb
    rw [setBank_on u n b st hst, hu, if_neg Bool.false_ne_true, State.get_put_eq _ _ _ hfits (by rw [hwidth]; omega)]
  have hall : ∀ l : List Nat, (∀ c ∈ l, c < 32) → ∀ u : State, (b ∈ l ∨ (u.bankRetired n b = false → u.get (bankPwr n b) = st)) →
      ((l.foldl (fun s b => s.setBank n b st) u).bankRetired n b = false → (l.foldl (fun s b => s.setBank n b st) u).get (bankPwr n b) = st) := by
    intro l
    induction l with
    | nil => exact fun _ u hu => hu.resolve_left List.not_mem_nil
    | cons c l ih =>
      intro hl u hu
      refine ih (fun d hd => hl d (List.mem_cons_of_mem c hd)) (u.setBank n c st) ?_
      by_cases hcb : c = b
      · exact .inr (hcb ▸ hset u)
      · refine hu.imp (fun hm => (List.mem_cons.mp hm).resolve_left (Ne.symm hcb)) fun hg hr => ?_
        rw [hkept] at hr
        rw [setBank_on u n c st hst, bankPwr_apart n b c hn hb (hl c List.mem_cons_self) hcb]
        exact hg hr
  refine hall (List.range 32) (fun c hc => List.mem_range.mp hc) s (.inl (List.mem_range.mpr hb)) ?_
  exact (foldl_keeps (·.bankRetired n b) (fun s c => s.setBank n c st) (fun u c => hkept u c) _ s).trans hret

/-! ## Clusters (R362) -/

/-- The registers a change of cluster `n`'s power may write. -/
def clusterReg (n a : Nat) : Bool :=
  a == PWR_CLUSTER n || a == SPM_PWR_LO n || a == SPM_PWR_HI n || a == BSQ_LANE_STAT (2 * n) || a == BSQ_LANE_STAT (2 * n + 1)

theorem ne_of_not_clusterReg {n a : Nat} (h : clusterReg n a = false) :
    PWR_CLUSTER n ≠ a ∧ SPM_PWR_LO n ≠ a ∧ SPM_PWR_HI n ≠ a ∧ BSQ_LANE_STAT (2 * n) ≠ a ∧ BSQ_LANE_STAT (2 * n + 1) ≠ a := by
  simp only [clusterReg, Bool.or_eq_false_iff, beq_eq_false_iff_ne, ne_eq] at h
  obtain ⟨⟨⟨⟨h1, h2⟩, h3⟩, h4⟩, h5⟩ := h
  exact ⟨Ne.symm h1, Ne.symm h2, Ne.symm h3, Ne.symm h4, Ne.symm h5⟩

theorem bankRetired_put_cluster (s : State) (n b v : Nat) (hn : n < 9) : (s.put (PWR_CLUSTER_STATE n) v).bankRetired n b = s.bankRetired n b := by
  unfold State.bankRetired
  rw [if_pos hn, if_pos hn, reg_put_other _ _ _ _ (by show PWR_CLUSTER n ≠ _; unfold PWR_CLUSTER SPM_RETIRED; omega)]

theorem offRegs_lanesStill (s : State) (n : Nat) : offRegs (s.lanesStill n) = offRegs s :=
  foldl_keeps offRegs _ (fun s p => by split_ifs <;> rfl) _ s

theorem reg_lanesStill (s : State) (n a : Nat) (h1 : BSQ_LANE_STAT (2 * n) ≠ a) (h2 : BSQ_LANE_STAT (2 * n + 1) ≠ a) : (s.lanesStill n).reg a = s.reg a :=
  foldl_keeps_of_mem (·.reg a) _ _ (fun s p hp => by
    have hpa : BSQ_LANE_STAT p ≠ a := by
      rcases List.mem_pair.mp hp with rfl | rfl
      · exact h1
      · exact h2
    split_ifs
    · rfl
    · exact reg_put_other _ _ _ _ hpa) s

theorem offPower_resetTriad (s : State) (t : Nat) (r : RunState) : offPower (s.resetTriad t r) = offPower s := rfl

theorem offPower_gateCluster (s : State) (n : Nat) : offPower (s.gateCluster n) = offPower s := by
  unfold State.gateCluster
  extract_lets m m'
  have hm : offPower m = offPower s := by
    simp only [m]
    rw [offPower_of_offRegs (offRegs_lanesStill _ n), offPower_setBanks, offPower_of_offRegs (offRegs_put _ _ _), offPower_of_offRegs (offRegs_put _ _ _)]
  have hm' : offPower m' = offPower m := foldl_keeps offPower (fun s t => s.resetTriad t .held) (fun s t => offPower_resetTriad s t .held) _ m
  have hwake : ∀ u : State, offPower (u.onEng fun e => { e with waking := e.waking.filter (· ≠ n) }) = offPower u := fun _ => rfl
  exact (hwake m').trans (hm'.trans hm)

theorem reg_gateCluster (s : State) (n a : Nat) (hn : n < 9) (ha : clusterReg n a = false) : (s.gateCluster n).reg a = s.reg a := by
  obtain ⟨hc, hlo, hhi, h1, h2⟩ := ne_of_not_clusterReg ha
  unfold State.gateCluster
  extract_lets m m'
  have hm' : m'.reg a = m.reg a := foldl_keeps (·.reg a) (fun s t => s.resetTriad t .held) (fun _ _ => rfl) _ m
  have hm : m.reg a = s.reg a := by
    simp only [m]
    rw [reg_lanesStill _ n a h1 h2, reg_setBanks _ n 0 a hn hlo hhi, reg_put_other _ _ _ _ hc, reg_put_other _ _ _ _ hc]
  have hwake : ∀ u : State, (u.onEng fun e => { e with waking := e.waking.filter (· ≠ n) }).reg a = u.reg a := fun _ => rfl
  exact (hwake m').trans (hm'.trans hm)

theorem offRegs_warmCluster (s : State) (n : Nat) : offRegs (s.warmCluster n) = offRegs s := by
  rw [State.warmCluster, offRegs_lanesStill, offRegs_setBanks _ n 1 (by decide), offRegs_put]

theorem offPower_gateAll (s : State) : offPower s.gateAll = offPower s := by
  unfold State.gateAll
  split_ifs
  · rfl
  · refine foldl_keeps offPower _ (fun s n => ?_) _ s
    split_ifs
    · rfl
    · exact offPower_gateCluster s n

theorem reg_gateAll (s : State) (a : Nat) (ha : ∀ n < 9, clusterReg n a = false) : s.gateAll.reg a = s.reg a := by
  unfold State.gateAll
  split_ifs
  · rfl
  · refine foldl_keeps_of_mem (·.reg a) _ _ (fun s n hn => ?_) s
    have hn' := List.mem_range.mp hn
    split_ifs
    · rfl
    · exact reg_gateCluster s n a hn' (ha n hn')

theorem offRegs_settlePower (s : State) : offRegs s.settlePower = offRegs s := by
  unfold State.settlePower
  split_ifs
  · exact offRegs_pulse _ 2
  · rfl

theorem reg_settlePower (s : State) (a : Nat) (h1 : PWR_STATE ≠ a) (h2 : EVR_PEND 0 ≠ a) : s.settlePower.reg a = s.reg a := by
  unfold State.settlePower
  split_ifs
  · rw [State.reg_pulse_other _ _ _ h2, reg_put_other _ _ _ _ h1]
  · rfl

/-! ## A cluster wakes (R362) -/

/-- A state without its triads: what changes of triads alone keep. -/
def offTriads (s : State) : State := { s with triads := [] }

theorem offTriads_setRoute (s : State) (p : Nat) : offTriads (s.setRoute p) = offTriads s := by
  unfold State.setRoute
  dsimp only
  split_ifs <;> rfl

theorem reg_of_offTriads {s u : State} (h : offTriads u = offTriads s) (a : Nat) : u.reg a = s.reg a := congrArg (·.reg a) h

theorem get_of_offTriads {s u : State} (h : offTriads u = offTriads s) (f : Fld) : u.get f = s.get f := congrArg (·.get f) h

theorem eventPending_of_offTriads {s u : State} (h : offTriads u = offTriads s) (e : Nat) : u.eventPending e = s.eventPending e :=
  congrArg (·.eventPending e) h

theorem mem_of_offTriads {s u : State} (h : offTriads u = offTriads s) : u.mem = s.mem := congrArg (·.mem) h

theorem eng_of_offTriads {s u : State} (h : offTriads u = offTriads s) : u.eng = s.eng := congrArg (·.eng) h

/-- A cluster in RUN with its banks ON, its wake announced, before its triads start. -/
def awake (s : State) (n : Nat) : State :=
  (((s.put (PWR_CLUSTER_STATE n) 3).setBanks n 2).pulse 3).onEng fun e => { e with waking := e.waking.filter (· ≠ n) }

/-- A wake leaves the cluster awake, its triads started; the first takes the device out of STANDBY. -/
theorem wakeDone_eq (s : State) (n : Nat) : ∃ v : State, offTriads v = offTriads (awake s n) ∧
    s.wakeDone n = if v.get PWR_STATE_STATE = 3 then (v.put PWR_STATE_STATE 4).pulse 2 else v := by
  refine ⟨[2 * n + 1, 2 * n + 2].foldl (fun s t => if (s.triad t).run = .held then (s.resetTriad t .running).setRoute (t - 1) else s) (awake s n), ?_, rfl⟩
  refine foldl_keeps offTriads _ (fun s t => ?_) _ _
  split_ifs
  · exact offTriads_setRoute _ _
  · rfl

section
variable {s : State} {n : Nat} (hn : n < 9)
include hn

theorem reg_awake (a : Nat) (hc : clusterReg n a = false) (hev : EVR_PEND 0 ≠ a) : (awake s n).reg a = s.reg a := by
  obtain ⟨hst, hlo, hhi, -, -⟩ := ne_of_not_clusterReg hc
  unfold awake
  rw [reg_onEng, State.reg_pulse_other _ 3 a hev, reg_setBanks _ n 2 a hn hlo hhi, reg_put_other _ _ _ _ hst]

theorem clusterState_awake : (awake s n).get (PWR_CLUSTER_STATE n) = 3 := by
  have hreg : (awake s n).reg (PWR_CLUSTER n) = (s.put (PWR_CLUSTER_STATE n) 3).reg (PWR_CLUSTER n) := by
    unfold awake
    rw [reg_onEng, State.reg_pulse_other _ 3 _ (by unfold EVR_PEND PWR_CLUSTER; omega), reg_setBanks _ n 2 _ hn (by unfold SPM_PWR_LO PWR_CLUSTER; omega)
      (by unfold SPM_PWR_HI PWR_CLUSTER; omega)]
  rw [State.get, hreg, ← State.get, State.get_put_eq _ _ _ (by simp only; omega) (by simp only; omega)]

theorem bank_awake (b : Nat) (hb : b < 32) (hret : s.bankRetired n b = false) : (awake s n).get (bankPwr n b) = 2 := by
  have hret' : (s.put (PWR_CLUSTER_STATE n) 3).bankRetired n b = false := (bankRetired_put_cluster s n b 3 hn).trans hret
  have hev : EVR_PEND (3 / 32) ≠ (bankPwr n b).addr := by
    rcases bankPwr_addr n b hn with h | h
    · rw [h]; unfold EVR_PEND SPM_PWR_LO; omega
    · rw [h]; unfold EVR_PEND SPM_PWR_HI; omega
  unfold awake
  rw [get_onEng, State.get_pulse_other _ _ _ hev]
  exact get_setBanks _ n 2 b hn (by decide) (by decide) hb hret'

end

theorem eventPending_awake (s : State) (n : Nat) : (awake s n).eventPending 3 = true := by
  rw [awake, eventPending_onEng]
  exact State.eventPending_pulse _ 3 (by decide) (by decide)

theorem mem_awake (s : State) (n : Nat) : (awake s n).mem = s.mem := by
  unfold awake
  rw [State.onEng_mem, State.mem_pulse, mem_of_offRegs (offRegs_setBanks _ n 2 (by decide)), State.put_mem]

theorem wakeDone_wakes (s : State) (n : Nat) (hn : n < 9) :
    (s.wakeDone n).get (PWR_CLUSTER_STATE n) = 3 ∧ (s.wakeDone n).eventPending 3 = true ∧ n ∉ (s.wakeDone n).eng.waking ∧ (s.wakeDone n).mem = s.mem ∧
      (∀ b < 32, s.bankRetired n b = false → (s.wakeDone n).get (bankPwr n b) = 2) ∧
      (s.get PWR_STATE_STATE = 3 → (s.wakeDone n).get PWR_STATE_STATE = 4 ∧ (s.wakeDone n).eventPending 2 = true) := by
  obtain ⟨v, hv, hwake⟩ := wakeDone_eq s n
  have hclear : clusterReg n PWR_STATE = false := (by decide : ∀ n < 9, clusterReg n PWR_STATE = false) n hn
  have hstandby : v.get PWR_STATE_STATE = s.get PWR_STATE_STATE := by
    rw [get_of_offTriads hv, State.get, reg_awake hn _ hclear (by decide), State.get]
  have hstate : v.get (PWR_CLUSTER_STATE n) = 3 := (get_of_offTriads hv _).trans (clusterState_awake hn)
  have hpend : v.eventPending 3 = true := (eventPending_of_offTriads hv 3).trans (eventPending_awake s n)
  have hwaking : n ∉ v.eng.waking := by
    rw [eng_of_offTriads hv]; simp [awake]
  have hmem : v.mem = s.mem := (mem_of_offTriads hv).trans (mem_awake s n)
  have hbank : ∀ b < 32, s.bankRetired n b = false → v.get (bankPwr n b) = 2 := fun b hb hret => (get_of_offTriads hv _).trans (bank_awake hn b hb hret)
  rw [hwake]
  split_ifs with h3
  · have hput : ∀ f : Fld, PWR_STATE ≠ f.addr → EVR_PEND 0 ≠ f.addr → ((v.put PWR_STATE_STATE 4).pulse 2).get f = v.get f := fun f h1 h2 => by
      rw [State.get_pulse_other _ 2 _ h2, State.get_put_other _ _ _ _ h1]
    refine ⟨(hput _ ?_ ?_).trans hstate, eventPending_pulse_mono _ 3 2 (by decide) ?_, ?_, ?_, fun b hb hret => (hput _ ?_ ?_).trans (hbank b hb hret),
      fun _ => ⟨?_, State.eventPending_pulse _ 2 (by decide) (by decide)⟩⟩
    · show PWR_STATE ≠ PWR_CLUSTER n; unfold PWR_STATE PWR_CLUSTER; omega
    · show EVR_PEND 0 ≠ PWR_CLUSTER n; unfold EVR_PEND PWR_CLUSTER; omega
    · rw [eventPending_put _ _ _ _ (by decide) (by decide)]; exact hpend
    · rw [eng_of_offRegs (offRegs_pulse _ 2)]; exact hwaking
    · rw [State.mem_pulse]; exact hmem
    · rcases bankPwr_addr n b hn with h | h
      · rw [h]; unfold PWR_STATE SPM_PWR_LO; omega
      · rw [h]; unfold PWR_STATE SPM_PWR_HI; omega
    · rcases bankPwr_addr n b hn with h | h
      · rw [h]; unfold EVR_PEND SPM_PWR_LO; omega
      · rw [h]; unfold EVR_PEND SPM_PWR_HI; omega
    · rw [State.get_pulse_other _ 2 _ (by decide), State.get_put_eq _ _ _ (by decide) (by decide)]
  · rw [hstandby] at h3
    exact ⟨hstate, hpend, hwaking, hmem, hbank, fun h => absurd h h3⟩

theorem cluster_wakes (s : State) (c : Fin 9) (hstate : s.get (PWR_CLUSTER_STATE c) = 4) :
    Gives s (.clusterWakeComplete c) fun u =>
      u.get (PWR_CLUSTER_STATE c) = 3 ∧ u.eventPending 3 = true ∧ c.val ∉ u.eng.waking ∧ u.mem = s.mem ∧
      (∀ b < 32, s.bankRetired c b = false → u.get (bankPwr c b) = 2) ∧
      (s.get PWR_STATE_STATE = 3 → u.get PWR_STATE_STATE = 4 ∧ u.eventPending 2 = true) := by
  have hwakes := wakeDone_wakes s c c.isLt
  refine ⟨_, (exec_clusterWakeComplete c s).trans (occurs_of _ _ _ (by simpa using hstate)), ?_⟩
  generalize s.wakeDone c = u at hwakes ⊢
  exact hwakes

/-! ## A cluster rests (R56) -/

theorem warmCluster_rests (s : State) (n : Nat) (hn : n < 9) :
    (s.warmCluster n).get (PWR_CLUSTER_STATE n) = 1 ∧ ∀ b < 32, s.bankRetired n b = false → (s.warmCluster n).get (bankPwr n b) = 1 := by
  have hlanes : ∀ (u : State) (a : Nat), BSQ_LANE_STAT (2 * n + 1) < a ∨ a < BSQ_LANE_STAT (2 * n) → (u.lanesStill n).reg a = u.reg a := fun u a ha =>
    reg_lanesStill u n a (by unfold BSQ_LANE_STAT at *; omega) (by unfold BSQ_LANE_STAT at *; omega)
  refine ⟨?_, fun b hb hret => ?_⟩
  · have hreg : (s.warmCluster n).reg (PWR_CLUSTER n) = (s.put (PWR_CLUSTER_STATE n) 1).reg (PWR_CLUSTER n) := by
      rw [State.warmCluster, hlanes _ _ (.inr (by unfold PWR_CLUSTER BSQ_LANE_STAT; omega)),
        reg_setBanks _ n 1 _ hn (by unfold SPM_PWR_LO PWR_CLUSTER; omega) (by unfold SPM_PWR_HI PWR_CLUSTER; omega)]
    rw [State.get, hreg, ← State.get, State.get_put_eq _ _ _ (by simp only; omega) (by simp only; omega)]
  · rw [State.get, State.warmCluster, hlanes, ← State.get]
    · exact get_setBanks _ n 1 b hn (by decide) (by decide) hb ((bankRetired_put_cluster s n b 1 hn).trans hret)
    · rcases bankPwr_addr n b hn with h | h
      · rw [h]; unfold BSQ_LANE_STAT SPM_PWR_LO; omega
      · rw [h]; unfold BSQ_LANE_STAT SPM_PWR_HI; omega

theorem cluster_rests (s : State) (c : Fin 9) (im : Image) (hrun : s.eng.running = some im) (hidle : im.idleBlocks ≤ Sparse.get (fun _ => 0) s.eng.idle c)
    (hstate : s.get (PWR_CLUSTER_STATE c) = 3) (hhost : s.eng.hostPower = false) :
    Gives s (.idleBlocksExpiry c) fun u =>
      u.get (PWR_CLUSTER_STATE c) = 1 ∧ (∀ b < 32, s.bankRetired c b = false → u.get (bankPwr c b) = 1) ∧ Sys2Proof.Statements.RegsOnly s u := by
  obtain ⟨hwarm, hbanks⟩ := warmCluster_rests s c c.isLt
  have hregs := eq_of_offRegs (offRegs_warmCluster s c)
  have hexec : exec (.idleBlocksExpiry c) s = .next (s.warmCluster c).drivePins := by
    rw [exec_idleBlocksExpiry, execIdleBlocksExpiry, hrun]
    exact occurs_of _ _ _ (by simp [hidle, hstate, hhost])
  refine ⟨_, hexec, ?_⟩
  generalize s.warmCluster c = u at hwarm hbanks hregs ⊢
  refine ⟨hwarm, hbanks, ?_⟩
  rw [Sys2Proof.Statements.RegsOnly, hregs]
  rfl

/-! ## Block boundaries (R16) -/

@[simp] theorem eng_until (s : State) (t : Nat) : (s.until t).eng = s.eng := by rw [State.until_eq]

@[simp] theorem regs_until (s : State) (t : Nat) : (s.until t).regs = s.regs := by rw [State.until_eq]

@[simp] theorem mem_until (s : State) (t : Nat) : (s.until t).mem = s.mem := by rw [State.until_eq]

@[simp] theorem sov_until (s : State) (t : Nat) : (s.until t).sov = s.sov := by rw [State.until_eq]

/-- The state at a block boundary: time has come, the CRC of the block that ends and the meters are taken, and its lane period is due if an image
runs. -/
def atBoundary (s : State) : State :=
  (((s.until (s.frameTime (s.blockN + 1) 0)).closeExpressCrc s.blockN).readMeters).onEng fun e =>
    { e with due := if s.eng.running.isSome then some s.blockN else none }

theorem eng_blockEnd (s : State) (n : Nat) : ((s.closeExpressCrc n).readMeters).eng = s.eng := rfl

theorem time_blockEnd (s : State) (n : Nat) : ((s.closeExpressCrc n).readMeters).time = s.time := rfl

theorem mem_blockEnd (s : State) (n : Nat) : ((s.closeExpressCrc n).readMeters).mem = s.mem := rfl

theorem eng_atBoundary (s : State) : (atBoundary s).eng = { s.eng with due := if s.eng.running.isSome then some s.blockN else none } := by
  rw [atBoundary, State.onEng_eng, eng_blockEnd, eng_until]

theorem time_atBoundary (s : State) : (atBoundary s).time = max s.time (s.frameTime (s.blockN + 1) 0) := by
  rw [atBoundary, State.onEng_time, time_blockEnd, State.time_until]

theorem mem_atBoundary (s : State) : (atBoundary s).mem = s.mem := by
  rw [atBoundary, State.onEng_mem, mem_blockEnd, mem_until]

/-- With no switch and no preset a running count takes the next block's number. -/
theorem blockBoundary_counts (s : State) (hrate : s.eng.seqRate ≠ 0) (hsw : s.eng.switch = none) (hpre : s.eng.preset = none) (hat : s.eng.presetAt = none) :
    s.blockBoundary = (atBoundary s).beginBlock (s.blockN + 1) := by
  have heng := eng_atBoundary s
  have hpreset : (atBoundary s).takePreset s.blockN = (atBoundary s, none) := by simp [State.takePreset, State.presetFor, heng, hpre, hat]
  have hrun : (((s.until (s.frameTime (s.blockN + 1) 0)).closeExpressCrc s.blockN).readMeters).eng = s.eng := by rw [eng_blockEnd, eng_until]
  unfold State.blockBoundary
  extract_lets last counts m1 m2 m3
  have hcounts : counts := hrate
  have hm3 : m3 = atBoundary s := by simp only [m3, m2, m1, last, hcounts, if_true, decide_true, Bool.true_and, hrun, atBoundary]
  have hnosw : (atBoundary s).eng.switch = none := by rw [heng]; exact hsw
  clear_value m3
  subst hm3
  simp only [hcounts, if_true, last, hpreset, Option.getD_none]
  cases (atBoundary s).eng.running <;> cases (atBoundary s).eng.pending <;> simp only [hnosw]

/-- The start of block `n` in the registers: its number and time, event 40, and a joining standby's phase (R16, R393). -/
def stamped (s : State) (n : Nat) : State :=
  let m := ((s.put64 BSQ_BLOCK_LO n).put64 BSQ_BOUNDARY_LO s.time).pulse 40
  if m.sov.expressAt = some n then m.put SOV_JOIN_PHASE 3 else m

theorem offRegs_stamped (s : State) (n : Nat) : offRegs (stamped s n) = offRegs s := by
  unfold stamped
  dsimp only
  split_ifs
  · rw [offRegs_put, offRegs_pulse, offRegs_put64, offRegs_put64]
  · rw [offRegs_pulse, offRegs_put64, offRegs_put64]

theorem blockN_stamped (s : State) (n : Nat) (hn : n < 2 ^ 64) : (stamped s n).blockN = n := by
  have hm : ∀ t : Nat, (((s.put64 BSQ_BLOCK_LO n).put64 BSQ_BOUNDARY_LO t).pulse 40).get64 BSQ_BLOCK_LO = n := fun t => by
    refine (get64_eq_of_regs (s := s.put64 BSQ_BLOCK_LO n) BSQ_BLOCK_LO ?_ ?_).trans ((get64_put64_same s BSQ_BLOCK_LO n).trans (Nat.mod_eq_of_lt hn))
    · rw [State.reg_pulse_other _ 40 _ (by decide), reg_put64_other _ _ _ _ (by decide) (by decide)]
    · rw [State.reg_pulse_other _ 40 _ (by decide), reg_put64_other _ _ _ _ (by decide) (by decide)]
  unfold stamped State.blockN
  dsimp only
  split_ifs
  · rw [get64_eq_of_regs BSQ_BLOCK_LO (reg_put_other _ SOV_JOIN_PHASE 3 _ (by decide)) (reg_put_other _ SOV_JOIN_PHASE 3 _ (by decide))]
    exact hm s.time
  · exact hm s.time

theorem eventPending_stamped (s : State) (n : Nat) : (stamped s n).eventPending 40 = true := by
  have hm : ∀ u : State, (u.pulse 40).eventPending 40 = true := fun u => State.eventPending_pulse u 40 (by decide) (by decide)
  unfold stamped
  dsimp only
  split_ifs
  · rw [eventPending_put _ _ _ _ (by decide) (by decide)]; exact hm _
  · exact hm _

/-- With no switch on its way a block begins as stamped, and the running image's updates for it enter. -/
theorem beginBlock_noSwitch (s : State) (n : Nat) (hsw : s.eng.switch = none) :
    s.beginBlock n = s.eng.running.elim (stamped s n) fun im => ((stamped s n).stopExpressRamps im n).applyUpdates im n true := by
  have heng : (stamped s n).eng = s.eng := eng_of_offRegs (offRegs_stamped s n)
  unfold State.beginBlock
  extract_lets m1 m2 m3
  have hm2 : m2 = stamped s n := rfl
  have hm3 : m3 = stamped s n := by
    simp only [m3, hm2, heng, hsw]
  have hinput : (stamped s n).inputImage = s.eng.running := by simp only [State.inputImage, heng, hsw]
  clear_value m3
  rw [hm3, hinput]
  cases s.eng.running with
  | none => rfl
  | some im => rfl

/-- The express updates that act at a block: none wait, so only ramps change, and only in the engine. -/
theorem applyUpdates_none (s : State) (im : Image) (n : Nat) (b : Bool) (h : s.eng.updates = []) :
    s.applyUpdates im n b = s.onEng fun e => { e with updates := [] } := by
  unfold State.applyUpdates
  rw [h]
  rfl

/-- Stopping the express ramps changes parameters alone. -/
def offParams (s : State) : State := { s with eng := { s.eng with params := [], rampStopped := false } }

theorem offParams_stopExpressRamps (s : State) (im : Image) (n : Nat) : offParams (s.stopExpressRamps im n) = offParams s := by
  unfold State.stopExpressRamps
  split
  · split_ifs <;> rfl
  · rfl

theorem idle_count_goes_on (s : State) (hdue : s.eng.due = none) (hrate : s.eng.seqRate ≠ 0) (hrun : s.eng.running = none) (hsw : s.eng.switch = none)
    (hpre : s.eng.preset = none) (hat : s.eng.presetAt = none) (hN : s.blockN + 1 < 2 ^ 64) :
    Gives s .blockBoundary fun u => u.blockN = s.blockN + 1 ∧ u.time = max s.time (s.frameTime (s.blockN + 1) 0) ∧ u.eventPending 40 = true ∧
      u.eng.due = none ∧ u.mem = s.mem := by
  have heng := eng_atBoundary s
  have hboundary : s.blockBoundary = stamped (atBoundary s) (s.blockN + 1) := by
    rw [blockBoundary_counts s hrate hsw hpre hat, beginBlock_noSwitch _ _ (by rw [heng]; exact hsw), heng]
    simp only [hrun, Option.elim_none]
  have hoff := offRegs_stamped (atBoundary s) (s.blockN + 1)
  refine ⟨_, (exec_blockBoundary s).trans (occurs_of _ _ _ (by simp [State.blockDue, hdue, hrate])), ?_⟩
  rw [hboundary]
  have hblock := blockN_stamped (atBoundary s) _ hN
  have hpend := eventPending_stamped (atBoundary s) (s.blockN + 1)
  have htime : (stamped (atBoundary s) (s.blockN + 1)).time = max s.time (s.frameTime (s.blockN + 1) 0) :=
    (time_of_offRegs hoff).trans (time_atBoundary s)
  have hdue' : (stamped (atBoundary s) (s.blockN + 1)).eng.due = none := by
    rw [eng_of_offRegs hoff, heng, hrun]; rfl
  have hmem : (stamped (atBoundary s) (s.blockN + 1)).mem = s.mem := (mem_of_offRegs hoff).trans (mem_atBoundary s)
  generalize stamped (atBoundary s) (s.blockN + 1) = u at *
  exact ⟨hblock, htime, hpend, hdue', hmem⟩

theorem running_count_goes_on (s : State) (im : Image) (hdue : s.eng.due = none) (hrate : s.eng.seqRate ≠ 0) (hrun : s.eng.running = some im)
    (hsw : s.eng.switch = none) (hpre : s.eng.preset = none) (hat : s.eng.presetAt = none) (hupd : s.eng.updates = []) (hN : s.blockN + 1 < 2 ^ 64) :
    Gives s .blockBoundary fun u => u.blockN = s.blockN + 1 ∧ u.eng.due = some s.blockN ∧ u.eventPending 40 = true ∧ u.eng.running = some im ∧
      u.mem = s.mem := by
  have heng := eng_atBoundary s
  have hoff := offRegs_stamped (atBoundary s) (s.blockN + 1)
  have hboundary : s.blockBoundary = ((stamped (atBoundary s) (s.blockN + 1)).stopExpressRamps im (s.blockN + 1)).applyUpdates im (s.blockN + 1) true := by
    rw [blockBoundary_counts s hrate hsw hpre hat, beginBlock_noSwitch _ _ (by rw [heng]; exact hsw), heng]
    simp only [hrun, Option.elim_some]
  have hblock := blockN_stamped (atBoundary s) _ hN
  have hpend := eventPending_stamped (atBoundary s) (s.blockN + 1)
  have heng' : (stamped (atBoundary s) (s.blockN + 1)).eng = { s.eng with due := some s.blockN } := by
    rw [eng_of_offRegs hoff, heng, hrun]; rfl
  have hmem : (stamped (atBoundary s) (s.blockN + 1)).mem = s.mem := (mem_of_offRegs hoff).trans (mem_atBoundary s)
  refine ⟨_, (exec_blockBoundary s).trans (occurs_of _ _ _ (by simp [State.blockDue, hdue, hrate])), ?_⟩
  rw [hboundary]
  generalize stamped (atBoundary s) (s.blockN + 1) = m at *
  have hramps := offParams_stopExpressRamps m im (s.blockN + 1)
  generalize m.stopExpressRamps im (s.blockN + 1) = r at *
  have hnone : r.eng.updates = [] := (congrArg (·.eng.updates) hramps : r.eng.updates = m.eng.updates).trans (by rw [heng', hupd])
  rw [applyUpdates_none r im _ true hnone]
  refine ⟨?_, ?_, ?_, ?_, ?_⟩
  · exact (congrArg (·.blockN) hramps : r.blockN = m.blockN).trans hblock
  · exact (congrArg (·.eng.due) hramps : r.eng.due = m.eng.due).trans (by rw [heng'])
  · exact (congrArg (·.eventPending 40) hramps : r.eventPending 40 = m.eventPending 40).trans hpend
  · exact (congrArg (·.eng.running) hramps : r.eng.running = m.eng.running).trans (by rw [heng', hrun])
  · exact (congrArg (·.mem) hramps : r.mem = m.mem).trans hmem

theorem frame_boundary (s : State) (hrate : s.eng.seqRate ≠ 0) :
    Gives s .frameBoundary fun u => u.time = max s.time (s.frameAfter (s.time + 1)) ∧ u.regs = s.regs ∧ u.mem = s.mem :=
  ⟨_, (exec_frameBoundary s).trans (occurs_of _ _ _ (by simpa using hrate)), State.time_until s _, regs_until s _, mem_until s _⟩

/-! ## Lane periods (R18) and outputs (R20) -/

theorem exec_lanePeriodBoundary_due (s : State) (n : Nat) (hdue : s.eng.due = some n) (hstep : s.stepDue = false) :
    exec .lanePeriodBoundary s = .next (s.lanePeriod n).drivePins := by
  rw [exec_lanePeriodBoundary, execLanePeriodBoundary, hdue]
  exact occurs_of _ _ _ (by simp [hstep])

theorem switchPoint_noSwitch (s : State) (n : Nat) (hsw : s.eng.switch = none) (hper : s.eng.period = none) : s.switchPoint n = s := by
  have hends : s.imageEnds n = false := by
    unfold State.imageEnds
    rw [hsw, hper]
    cases s.eng.stopAfter <;> rfl
  unfold State.switchPoint State.hotSwitch
  simp only [hends, Bool.false_eq_true, if_false, hsw]

/-- With nothing running and no switch on its way, a lane period that ends leaves the clusters gated. -/
theorem lanePeriod_idle (s : State) (n : Nat) (hrun : s.eng.running = none) (hsw : s.eng.switch = none) (hcatch : s.catching = false)
    (hper : s.eng.period = none) :
    s.lanePeriod n = ((s.until (s.frameTime s.blockN 1)).onEng fun e => { e with due := none }).gateAll.settlePower := by
  have hcatch' : (s.until (s.frameTime s.blockN 1)).catching = false := by
    unfold State.catching at hcatch ⊢
    rw [State.get_until, sov_until]; exact hcatch
  have heng : (s.until (s.frameTime s.blockN 1)).eng = s.eng := eng_until s _
  unfold State.lanePeriod
  generalize s.until (s.frameTime s.blockN 1) = m at *
  have hpoint : m.switchPoint n = m := switchPoint_noSwitch m n (by rw [heng]; exact hsw) (by rw [heng]; exact hper)
  simp only [hcatch', Bool.false_eq_true, if_false, heng, hrun, hpoint]

theorem idle_lane_period (s : State) (n : Nat) (hdue : s.eng.due = some n) (hstep : s.stepDue = false) (hrun : s.eng.running = none)
    (hsw : s.eng.switch = none) (hcatch : s.catching = false) (hper : s.eng.period = none) :
    Gives s .lanePeriodBoundary fun u => u.eng.due = none ∧ u.time = max s.time (s.frameTime s.blockN 1) ∧ u.eng.running = none := by
  have hexec := exec_lanePeriodBoundary_due s n hdue hstep
  rw [lanePeriod_idle s n hrun hsw hcatch hper] at hexec
  refine ⟨_, hexec, ?_⟩
  have htime : (s.until (s.frameTime s.blockN 1)).time = max s.time (s.frameTime s.blockN 1) := State.time_until s _
  have heng : (s.until (s.frameTime s.blockN 1)).eng.running = none := by rw [eng_until]; exact hrun
  generalize s.until (s.frameTime s.blockN 1) = m at *
  have hoff : offPower ((m.onEng fun e => { e with due := none }).gateAll.settlePower) = offPower (m.onEng fun e => { e with due := none }) :=
    (offPower_of_offRegs (offRegs_settlePower _)).trans (offPower_gateAll _)
  generalize (m.onEng fun e => { e with due := none }).gateAll.settlePower = u at *
  exact ⟨congrArg (·.eng.due) hoff, (congrArg (·.time) hoff : u.time = m.time).trans htime, (congrArg (·.eng.running) hoff : u.eng.running = m.eng.running).trans heng⟩

theorem output_starts (s : State) (b : OutBlock) (rest : List OutBlock) (houts : s.eng.outs = b :: rest) :
    Gives s .outputStart fun u => u.eng = { s.eng with cur := some b, outs := rest } ∧ u.time = max s.time b.start ∧ u.regs = s.regs := by
  have hexec : exec .outputStart s = .next (s.startOutput b rest).drivePins := by
    rw [exec_outputStart, execOutputStart, houts]; rfl
  refine ⟨_, hexec, ?_, ?_, ?_⟩
  · rw [State.drivePins_eng, State.startOutput, State.onEng_eng, eng_until]
  · rw [State.drivePins_time, State.startOutput, State.onEng_time, State.time_until]
  · rw [State.drivePins_regs, State.startOutput, State.onEng_regs, regs_until]

/-! ## Aborts (R67) -/

@[simp] theorem eng_silence (s : State) (cs : List Nat) : (s.silence cs).eng = s.eng := rfl

theorem running_initExpressParams (s : State) (im : Image) (kept : List Nat) : (s.initExpressParams im kept).eng.running = s.eng.running :=
  foldl_keeps (·.eng.running) (fun (s : State) (x : Nat × Word) => s.setParam x.1 { value := x.2 }) (fun _ _ => rfl) _ _

theorem running_setExpress (s : State) (im : Image) : (s.setExpress im).eng.running = s.eng.running := by
  unfold State.setExpress
  dsimp only
  rw [eng_silence, running_initExpressParams, State.put_eng, foldl_keeps State.eng _ fun u c => State.put_eng u (EXP_MAP_PROGRAMMED c) _]

/-- A state without its registers and rule sets: what loading rules keeps. -/
def offRules (s : State) : State := { s with regs := [], tg := {} }

theorem eng_of_offRules {s u : State} (h : offRules u = offRules s) : u.eng = s.eng := congrArg (·.eng) h

theorem offRules_of_offRegs {s u : State} (h : offRegs u = offRegs s) : offRules u = offRules s := by rw [eq_of_offRegs h]; rfl

theorem offRules_applySet (s : State) (u set : Nat) : offRules (s.applySet u set) = offRules s := by
  rw [State.applySet, offRules_of_offRegs (offRegs_put _ _ _), offRules_of_offRegs (offRegs_put _ _ _)]
  rfl

theorem offRules_loadRules (s : State) (u set : Nat) (mem : List MSlot) (per : Nat → Nat) : offRules (s.loadRules u set mem per) = offRules s := by
  unfold State.loadRules
  rw [offRules_applySet]
  refine (foldl_keeps offRules _ (fun s w => ?_) _ _).trans (foldl_keeps offRules _ (fun s i => ?_) _ _)
  · exact offRules_of_offRegs (offRegs_setReg s _ _)
  · rw [State.loadSlot, offRules_of_offRegs (offRegs_setReg _ _ _), offRules_of_offRegs (offRegs_setReg _ _ _), offRules_of_offRegs (offRegs_setReg _ _ _)]

theorem offRules_tg (s : State) (x : Tollgate) : offRules { s with tg := x } = offRules s := rfl

theorem offRules_loadUnit (s : State) (u : Nat) (mem : List MSlot) (per : Nat → Nat) : offRules (s.loadUnit u mem per) = offRules s := by
  unfold State.loadUnit
  refine (offRules_tg _ _).trans ?_
  rw [offRules_of_offRegs (offRegs_put _ _ _), offRules_loadRules]

theorem eng_keepWindow (s : State) : s.keepWindow.eng = s.eng := by
  unfold State.keepWindow State.loadInbound
  split_ifs
  · exact eng_of_offRules (foldl_keeps offRules _ (fun s u => offRules_loadUnit s u _ _) _ _)
  · rfl

theorem get_setStep (s : State) (k : Nat) (hk : k < 8) : (s.setStep k).get BSQ_SWITCH_STATE_STEP = k := by
  unfold State.setStep
  split_ifs with h
  · exact h
  · rw [State.get_irq_other _ _ _ (by decide), State.get_pulse_other _ _ _ (by decide), State.get_put_eq _ _ _ (by decide) hk]

theorem abortSwitch_discards (s : State) :
    s.abortSwitch.eng.switch = none ∧ s.abortSwitch.eng.pending = none ∧ s.abortSwitch.get BSQ_SWITCH_STATE_STEP = 0 ∧
      s.abortSwitch.eng.running = s.eng.running := by
  unfold State.abortSwitch
  extract_lets m m'
  have hm : m.eng.running = s.eng.running := by
    simp only [m]
    split
    · split_ifs
      · rfl
      · exact running_setExpress s _
    · rfl
  have hm' : (m'.keepWindow.setStep 0).eng = { m.eng with pending := none, switch := none, released := false } := by
    rw [eng_setStep, eng_keepWindow]; rfl
  have hstep : (m'.keepWindow.setStep 0).get BSQ_SWITCH_STATE_STEP = 0 := get_setStep _ 0 (by decide)
  generalize m'.keepWindow.setStep 0 = w at *
  have hoff : offPower w.gateAll.settlePower = offPower w := (offPower_of_offRegs (offRegs_settlePower _)).trans (offPower_gateAll _)
  have hreg : w.gateAll.settlePower.get BSQ_SWITCH_STATE_STEP = w.get BSQ_SWITCH_STATE_STEP := by
    rw [State.get, reg_settlePower _ _ (by decide) (by decide), reg_gateAll _ _ (by decide), State.get]
  generalize w.gateAll.settlePower = u at *
  refine ⟨(congrArg (·.eng.switch) hoff : u.eng.switch = w.eng.switch).trans ?_, (congrArg (·.eng.pending) hoff : u.eng.pending = w.eng.pending).trans ?_,
    hreg.trans hstep, (congrArg (·.eng.running) hoff : u.eng.running = w.eng.running).trans ?_⟩
  · rw [hm']
  · rw [hm']
  · rw [hm']; exact hm

section
variable {s : State} {m : BitVec 8} {lvl : BitVec 2} {v : Word} (hbed : Sys2Proof.Statements.Roadbed s m lvl)
include hbed

theorem bySupervisor_roadbed : bySupervisor m.toNat lvl.toNat = true := by
  obtain ⟨-, rfl, hlvl⟩ := hbed
  simp [bySupervisor, hlvl]

theorem switch_aborted (hbit : v.getLsbD 3 = true) (hsw : s.eng.switch.isSome = true) (hmay : s.mayAbort = true) :
    Gives s (.switchAbort m lvl v) fun u =>
      u.eng.switch = none ∧ u.eng.pending = none ∧ u.get BSQ_SWITCH_STATE_STEP = 0 ∧ u.eng.running = s.eng.running := by
  have hwrite : s.writeSwitchState m.toNat lvl.toNat v = s.abortSwitch := by
    simp [State.writeSwitchState, bySupervisor_roadbed hbed, hbit, hsw, hmay]
  have hgone := abortSwitch_discards s
  refine ⟨_, (exec_switchAbort m lvl v s).trans (access_of _ _ hbed.1), ?_⟩
  rw [hwrite]
  generalize s.abortSwitch = u at hgone ⊢
  exact hgone

theorem late_abort_ignored (hmay : s.mayAbort = false) : Ignored s (.switchAbort m lvl v) := by
  have hwrite : s.writeSwitchState m.toNat lvl.toNat v = s := by simp [State.writeSwitchState, hmay]
  exact (exec_switchAbort m lvl v s).trans ((access_of _ _ hbed.1).trans (by rw [hwrite]))

/-! ## Presets (R17) -/

/-- A write of BSQ.CTRL with PRESET_GO. -/
theorem presetGo_arms (hgo : v.getLsbD 0 = true) :
    exec (.presetGo m lvl v) s = .next ((s.put BSQ_CTRL_SWITCH_HOLD (v.toNat / 2 % 2)).armPreset).drivePins := by
  have hwrite : s.writeBsqCtrl m.toNat lvl.toNat v = (s.put BSQ_CTRL_SWITCH_HOLD (v.toNat / 2 % 2)).armPreset := by
    simp [State.writeBsqCtrl, bySupervisor_roadbed hbed, hgo]
  exact (exec_presetGo m lvl v s).trans ((access_of _ _ hbed.1).trans (by rw [hwrite]))

omit hbed in
theorem ptpLocked_put_ctrl (h : Nat) : (s.put BSQ_CTRL_SWITCH_HOLD h).ptpLocked = s.ptpLocked := by
  simp only [State.ptpLocked, State.get_put_other s BSQ_CTRL_SWITCH_HOLD MCK_STATUS_STATE _ (by decide),
    State.get_put_other s BSQ_CTRL_SWITCH_HOLD MCK_STATUS_SOURCE _ (by decide)]

theorem preset_ignored (hgo : v.getLsbD 0 = true) (hptp : s.ptpLocked = true) :
    Gives s (.presetGo m lvl v) fun u =>
      u.flag BSQ_STATUS_PRESET_IGN = true ∧ u.get BSQ_CTRL_SWITCH_HOLD = v.toNat / 2 % 2 ∧ Sys2Proof.Statements.RegsOnly s u := by
  have harm : (s.put BSQ_CTRL_SWITCH_HOLD (v.toNat / 2 % 2)).armPreset = (s.put BSQ_CTRL_SWITCH_HOLD (v.toNat / 2 % 2)).put BSQ_STATUS_PRESET_IGN 1 := by
    simp only [State.armPreset, ptpLocked_put_ctrl, hptp, if_true]
  have hhold : (s.put BSQ_CTRL_SWITCH_HOLD (v.toNat / 2 % 2)).get BSQ_CTRL_SWITCH_HOLD = v.toNat / 2 % 2 :=
    State.get_put_eq _ _ _ (by decide) (Nat.mod_lt _ (by decide))
  have hregs := eq_of_offRegs (offRegs_put s BSQ_CTRL_SWITCH_HOLD (v.toNat / 2 % 2))
  refine ⟨_, presetGo_arms hbed hgo, ?_⟩
  rw [harm]
  generalize s.put BSQ_CTRL_SWITCH_HOLD (v.toNat / 2 % 2) = w at *
  refine ⟨?_, ?_, ?_⟩
  · rw [flag_drivePins, State.flag_put_self _ _ _ (by decide)]; rfl
  · rw [State.get_drivePins, State.get_put_other _ _ _ _ (by decide)]; exact hhold
  · rw [Sys2Proof.Statements.RegsOnly, hregs]; rfl

theorem preset_waits (hgo : v.getLsbD 0 = true) (hptp : s.ptpLocked = false) (hrole : s.get SOV_STATUS_ROLE < 2) (hrate : s.eng.seqRate ≠ 0) :
    Gives s (.presetGo m lvl v) fun u =>
      u.eng = { s.eng with preset := some (s.get64 BSQ_PRESET_LO) } ∧ u.get BSQ_CTRL_SWITCH_HOLD = v.toNat / 2 % 2 := by
  have hhold : (s.put BSQ_CTRL_SWITCH_HOLD (v.toNat / 2 % 2)).get BSQ_CTRL_SWITCH_HOLD = v.toNat / 2 % 2 :=
    State.get_put_eq _ _ _ (by decide) (Nat.mod_lt _ (by decide))
  have hlo : (s.put BSQ_CTRL_SWITCH_HOLD (v.toNat / 2 % 2)).get64 BSQ_PRESET_LO = s.get64 BSQ_PRESET_LO :=
    get64_eq_of_regs _ (reg_put_other _ _ _ _ (by decide)) (reg_put_other _ _ _ _ (by decide))
  have hrole' : (s.put BSQ_CTRL_SWITCH_HOLD (v.toNat / 2 % 2)).get SOV_STATUS_ROLE = s.get SOV_STATUS_ROLE := State.get_put_other _ _ _ _ (by decide)
  have harm : (s.put BSQ_CTRL_SWITCH_HOLD (v.toNat / 2 % 2)).armPreset =
      (s.put BSQ_CTRL_SWITCH_HOLD (v.toNat / 2 % 2)).onEng fun e => { e with preset := some (s.get64 BSQ_PRESET_LO) } := by
    have h3 : ¬3 ≤ s.get SOV_STATUS_ROLE := by omega
    have h2 : s.get SOV_STATUS_ROLE ≠ 2 := by omega
    simp only [State.armPreset, ptpLocked_put_ctrl, hptp, Bool.false_eq_true, if_false, hrole', h3, h2, State.put_eng, hrate, hlo]
  refine ⟨_, presetGo_arms hbed hgo, ?_⟩
  rw [harm]
  refine ⟨rfl, ?_⟩
  rw [State.get_drivePins, get_onEng]
  exact hhold

end

/-- Settles O37: block boundaries, lane periods, outputs, aborts and presets clause by clause, and the power of clusters. -/
theorem boundariesAndClusters : Obligations.BoundariesAndClusters := by
  refine ⟨fun s m lvl v => ⟨?_, ?_, frame_boundary s, ?_, output_starts s, fun hbed => ?_⟩, fun s c => ⟨cluster_wakes s c, cluster_rests s c⟩⟩
  · exact fun hdue hrate hrun hsw hpre hat hN => idle_count_goes_on s hdue hrate hrun hsw hpre hat hN
  · exact fun im hdue hrate hrun hsw hpre hat hupd hN => running_count_goes_on s im hdue hrate hrun hsw hpre hat hupd hN
  · exact fun n hdue hstep => ⟨exec_lanePeriodBoundary_due s n hdue hstep,
      fun hrun hsw hcatch hper => idle_lane_period s n hdue hstep hrun hsw hcatch hper⟩
  · exact ⟨switch_aborted hbed, late_abort_ignored hbed, preset_ignored hbed, preset_waits hbed⟩

end Sys2Proof.Proofs

namespace Sys2Proof.Proofs
open Sys2Proof.Machine Sys2Proof.Safety

/-! ## Lanes and Layby lanes -/

@[simp] theorem lane_setLane_same (s : State) (p : Nat) (l : LaneRun) : (s.setLane p l).lane p = l := Sparse.get_set_self _ _ _ _

theorem lane_setLane_other (s : State) (p q : Nat) (l : LaneRun) (h : p ≠ q) : (s.setLane p l).lane q = s.lane q := Sparse.get_set_other _ _ _ _ _ h

@[simp] theorem lane_onLane_same (s : State) (p : Nat) (f : LaneRun → LaneRun) : (s.onLane p f).lane p = f (s.lane p) := lane_setLane_same _ _ _

theorem lane_onLane_other (s : State) (p q : Nat) (f : LaneRun → LaneRun) (h : p ≠ q) : (s.onLane p f).lane q = s.lane q := lane_setLane_other _ _ _ _ h

@[simp] theorem layby_setLayby_same (s : State) (y : Nat) (x : LaybyLane) : (s.setLayby y x).layby y = x := Sparse.get_set_self _ _ _ _

@[simp] theorem lane_drivePins (s : State) (p : Nat) : s.drivePins.lane p = s.lane p := rfl

@[simp] theorem pair_drivePins (s : State) (n : Nat) : s.drivePins.pair n = s.pair n := rfl

theorem lane_of_offRegs {s u : State} (h : offRegs u = offRegs s) (p : Nat) : u.lane p = s.lane p := congrArg (·.lane p) h

/-- A lane moves to a phase: beside its record, only its LANE_STAT.STATE may change. -/
theorem offRegs_setPhase (s : State) (p : Nat) (ph : LanePhase) : offRegs (s.setPhase p ph) = offRegs (s.onLane p fun l => { l with phase := ph }) := by
  unfold State.setPhase
  dsimp only
  split
  · split_ifs <;> rfl
  · rfl

theorem reg_setPhase (s : State) (p : Nat) (ph : LanePhase) (a : Nat) (h : BSQ_LANE_STAT p ≠ a) : (s.setPhase p ph).reg a = s.reg a := by
  unfold State.setPhase
  dsimp only
  split
  · split_ifs
    · rfl
    · exact reg_put_other _ _ _ _ h
    · exact reg_put_other _ _ _ _ h
  · rfl

theorem lane_setPhase_same (s : State) (p : Nat) (ph : LanePhase) : (s.setPhase p ph).lane p = { s.lane p with phase := ph } := by
  rw [lane_of_offRegs (offRegs_setPhase s p ph), lane_onLane_same]

theorem lane_setPhase_other (s : State) (p q : Nat) (ph : LanePhase) (h : p ≠ q) : (s.setPhase p ph).lane q = s.lane q := by
  rw [lane_of_offRegs (offRegs_setPhase s p ph), lane_onLane_other _ _ _ _ h]

/-- A state without registers and lane records: what changes of lanes keep. -/
def offLanes (s : State) : State := { s with regs := [], eng := { s.eng with lanes := [] } }

theorem offLanes_of_offRegs {s u : State} (h : offRegs u = offRegs s) : offLanes u = offLanes s := by rw [eq_of_offRegs h]; rfl

theorem offLanes_onLane (s : State) (p : Nat) (f : LaneRun → LaneRun) : offLanes (s.onLane p f) = offLanes s := rfl

theorem offLanes_put (s : State) (f : Fld) (v : Nat) : offLanes (s.put f v) = offLanes s := rfl

theorem offLanes_setPhase (s : State) (p : Nat) (ph : LanePhase) : offLanes (s.setPhase p ph) = offLanes s := by
  rw [offLanes_of_offRegs (offRegs_setPhase s p ph), offLanes_onLane]

section
variable {s u : State} (h : offLanes u = offLanes s)
include h

theorem running_of_offLanes : u.eng.running = s.eng.running := congrArg (·.eng.running) h

theorem mem_of_offLanes : u.mem = s.mem := congrArg (·.mem) h

theorem fcu_of_offLanes : u.fcu = s.fcu := congrArg (·.fcu) h

theorem triad_of_offLanes (t : Nat) : u.triad t = s.triad t := congrArg (·.triad t) h

theorem layby_of_offLanes (y : Nat) : u.layby y = s.layby y := congrArg (·.layby y) h

variable {p : Nat} (hpart : (u.lane p).part = (s.lane p).part)
include hpart

theorem partOf_of_offLanes : u.partOf p = s.partOf p := by
  simp only [State.partOf, running_of_offLanes h, hpart]

theorem taskOf_of_offLanes (k : Nat) : u.taskOf p k = s.taskOf p k := by
  simp only [State.taskOf, partOf_of_offLanes h hpart, running_of_offLanes h]

theorem codeAt_of_offLanes : u.codeAt p = s.codeAt p := by
  have harea : u.eng.area = s.eng.area := congrArg (·.eng.area) h
  simp only [State.codeAt, State.codeLane, State.partKey, layby_of_offLanes h, hpart, harea]

end

theorem partOf_bump (s : State) (f : Fld) (p : Nat) : (s.bump f).partOf p = s.partOf p := rfl

theorem taskOf_bump (s : State) (f : Fld) (p k : Nat) : (s.bump f).taskOf p k = s.taskOf p k := rfl

/-- A saturating count fits its field. -/
theorem get_bump (s : State) (f : Fld) (h : f.lo + f.width ≤ 32) : (s.bump f).get f = satCount f.width (s.get f + 1) := by
  have hpos : 0 < 2 ^ f.width := by positivity
  exact State.get_put_eq _ _ _ h (by unfold satCount; omega)

/-! ## Task entry (R55, R127) -/

/-- What entering a task keeps: all but registers, rule sets, triads and windows. -/
def offEntry (s : State) : State := { s with regs := [], tg := {}, triads := [], windows := [] }

theorem offEntry_of_offRegs {s u : State} (h : offRegs u = offRegs s) : offEntry u = offEntry s := by rw [eq_of_offRegs h]; rfl

theorem eq_of_offRules {s u : State} (h : offRules u = offRules s) : u = { s with regs := u.regs, tg := u.tg } :=
  calc u = { offRules u with regs := u.regs, tg := u.tg } := rfl
    _ = { offRules s with regs := u.regs, tg := u.tg } := by rw [h]
    _ = { s with regs := u.regs, tg := u.tg } := rfl

theorem offEntry_of_offRules {s u : State} (h : offRules u = offRules s) : offEntry u = offEntry s := by rw [eq_of_offRules h]; rfl

/-- Loading rules writes Tollgate registers alone. -/
theorem reg_loadRules (s : State) (u set : Nat) (mem : List MSlot) (per : Nat → Nat) (a : Nat) (h : a < 0x60080000 ∨ 0x60080300 + 0x800 * u + 0x180 * set ≤ a) :
    (s.loadRules u set mem per).reg a = s.reg a := by
  have hslot : ∀ (v : State) (i : Nat), i < 16 → (v.loadSlot u set i ((mem[i]?).getD {})).reg a = v.reg a := fun v i hi => by
    rw [State.loadSlot, State.reg_setReg_other _ _ _ _ (by unfold TG_MPERM; omega), State.reg_setReg_other _ _ _ _ (by unfold TG_MLIMIT; omega),
      State.reg_setReg_other _ _ _ _ (by unfold TG_MBASE; omega)]
  have happly : ∀ v : State, (v.applySet u set).reg a = v.reg a := fun v => by
    have ha : TG_STATUS u ≠ a := by unfold TG_STATUS; omega
    rw [State.applySet, reg_put_other _ _ _ _ ha, reg_put_other _ _ _ _ ha]
    rfl
  unfold State.loadRules
  rw [happly]
  refine (foldl_keeps_of_mem (fun v : State => v.reg a) _ _ (fun v w hw => ?_) _).trans (foldl_keeps_of_mem (fun v : State => v.reg a) _ _ (fun v i hi => ?_) _)
  · exact State.reg_setReg_other _ _ _ _ (by have := List.mem_range.mp hw; unfold TG_PSLOT; omega)
  · exact hslot v i (List.mem_range.mp hi)

theorem triad_of_offRules {s u : State} (h : offRules u = offRules s) (t : Nat) : u.triad t = s.triad t := congrArg (·.triad t) h

theorem offEntry_onTriad (s : State) (t : Nat) (f : Triad → Triad) : offEntry (s.onTriad t f) = offEntry s := rfl

theorem offEntry_setWindow (s : State) (k : Nat) (w : Window) : offEntry (s.setWindow k w) = offEntry s := rfl

theorem offEntry_openWindow (s : State) (p k : Nat) : offEntry (s.openWindow p k) = offEntry s := by
  rw [State.openWindow, offEntry_setWindow, offEntry_of_offRegs (offRegs_put _ _ _), offEntry_of_offRegs (offRegs_put _ _ _)]

theorem offEntry_loadTaskRules (s : State) (p : Nat) (im : Image) (pt : Partition) (tk : Task) : offEntry (s.loadTaskRules p im pt tk) = offEntry s := by
  rw [State.loadTaskRules, offEntry_onTriad, offEntry_of_offRules (offRules_loadRules _ _ _ _ _)]

@[simp] theorem reg_setWindow (s : State) (k : Nat) (w : Window) (a : Nat) : (s.setWindow k w).reg a = s.reg a := rfl

@[simp] theorem get_setWindow (s : State) (k : Nat) (w : Window) (f : Fld) : (s.setWindow k w).get f = s.get f := rfl

@[simp] theorem flag_setWindow (s : State) (k : Nat) (w : Window) (f : Fld) : (s.setWindow k w).flag f = s.flag f := rfl

@[simp] theorem reg_onTriad (s : State) (t : Nat) (f : Triad → Triad) (a : Nat) : (s.onTriad t f).reg a = s.reg a := rfl

@[simp] theorem get_onTriad (s : State) (t : Nat) (f : Triad → Triad) (x : Fld) : (s.onTriad t f).get x = s.get x := rfl

@[simp] theorem window_onTriad (s : State) (t : Nat) (f : Triad → Triad) (k : Nat) : (s.onTriad t f).window k = s.window k := rfl

@[simp] theorem triad_setWindow (s : State) (k : Nat) (w : Window) (t : Nat) : (s.setWindow k w).triad t = s.triad t := rfl

theorem triad_of_offRegs {s u : State} (h : offRegs u = offRegs s) (t : Nat) : u.triad t = s.triad t := congrArg (·.triad t) h

theorem triad_openWindow (s : State) (p k t : Nat) : (s.openWindow p k).triad t = s.triad t := by
  rw [State.openWindow, triad_setWindow, triad_of_offRegs (offRegs_put _ _ _), triad_of_offRegs (offRegs_put _ _ _)]

/-- The triad of a lane as its executive enters a task. -/
def entered (s : State) (p : Nat) (tk : Task) (k : Nat) (restore : Bool) (x : Triad) : Triad :=
  { x.applyPend.vzero with
    g := if restore then (s.triad (p + 1)).g.filter (fun e => decide (e.1 < 19)) ++ (s.lane p).saved ++
        (s.triad (p + 1)).g.filter (fun e => decide (30 < e.1)) else (s.triad (p + 1)).g
    vcfg := 0, vxstat := 0, run := .running, check := none, overrun := false
    ssFoot := { ssp := BitVec.ofNat 64 (s.areaAt p 5 + shadowBytes), ssbase := BitVec.ofNat 64 (s.areaAt p 5 + shadowBytes)
                sslimit := BitVec.ofNat 64 (s.areaAt p 5) }
    taskid := BitVec.ofNat 64 (2 ^ 31 + k % 256)
    budget := BitVec.ofNat 64 (2 ^ 63 + s.laneCycles (p + 1) tk.dNs % 2 ^ 32)
    status := x.status &&& ~~~ (0xF : DWord)
    pc := BitVec.ofNat 64 (s.codeAt p + tk.entry) }

/-- With its four low bits cleared STATUS names Footpath (R100). -/
theorem level_cleared (w : DWord) : (w &&& ~~~ (0xF : DWord)).toNat % 4 = 0 := by
  have hmask : (~~~ (0xF : DWord)).toNat % 2 ^ 2 = 0 := by decide
  rw [BitVec.toNat_and, show 4 = 2 ^ 2 from rfl, Nat.and_mod_two_pow, hmask, Nat.and_zero]

section
variable {s : State} {p k : Nat} {restore : Bool} {im : Image} {pt : Partition} {tk : Task}
  (hrun : s.eng.running = some im) (hpart : s.partOf p = some pt) (htask : s.taskOf p k = some tk)
include hrun hpart htask

theorem enterTask_eq : s.enterTask p k restore = ((s.onTriad (p + 1) (entered s p tk k restore)).loadTaskRules p im pt tk).openWindow p k := by
  simp only [State.enterTask, hrun, hpart, htask]
  rfl

theorem offEntry_enterTask : offEntry (s.enterTask p k restore) = offEntry s := by
  rw [enterTask_eq hrun hpart htask, offEntry_openWindow, offEntry_loadTaskRules, offEntry_onTriad]

/-- Entering a task writes Tollgate and Waymark registers alone. -/
theorem reg_enterTask (a : Nat) (h : a < 0x60060000 ∨ 0x60090000 ≤ a) (hp : p < 18) : (s.enterTask p k restore).reg a = s.reg a := by
  have ha : WMK_WINDOW p ≠ a := by unfold WMK_WINDOW; omega
  rw [enterTask_eq hrun hpart htask, State.openWindow, reg_setWindow, reg_put_other _ _ _ _ ha, reg_put_other _ _ _ _ ha, State.loadTaskRules, reg_onTriad,
    reg_loadRules _ _ _ _ _ _ (by unfold taskSet; omega), reg_onTriad]

theorem windowOpen_enterTask : (s.enterTask p k restore).flag (WMK_WINDOW_OPEN p) = true := by
  have hopen : ∀ u : State, (u.openWindow p k).get (WMK_WINDOW_OPEN p) = 1 := fun u => by
    rw [State.openWindow, get_setWindow, State.get_put_apart _ _ _ _ (by simp only; omega) (by simp only; omega),
      State.get_put_eq _ _ _ (by simp only; omega) (by simp only; omega)]
  rw [State.flag, enterTask_eq hrun hpart htask, hopen]
  rfl

theorem triad_enterTask_same :
    (s.enterTask p k restore).triad (p + 1) = { entered s p tk k restore (s.triad (p + 1)) with tgset := BitVec.ofNat 64 taskSet } := by
  rw [enterTask_eq hrun hpart htask, triad_openWindow, State.loadTaskRules, State.triad_onTriad_self, triad_of_offRules (offRules_loadRules _ _ _ _ _),
    State.triad_onTriad_self]

/-- The triad at the entry of a task (R127): armed, its budget loaded, at the task's code in Footpath, vectors cleared, its rules selected. -/
theorem triad_enterTask_armed :
    let x := (s.enterTask p k false).triad (p + 1)
    x.taskid = BitVec.ofNat 64 (2 ^ 31 + k % 256) ∧ x.budget = BitVec.ofNat 64 (2 ^ 63 + s.laneCycles (p + 1) tk.dNs % 2 ^ 32) ∧
      x.pc = BitVec.ofNat 64 (s.codeAt p + tk.entry) ∧ x.level = 0 ∧ x.run = .running ∧ x.z = [] ∧ x.vcfg = 0 ∧ x.tgset = BitVec.ofNat 64 taskSet ∧
      x.g = (s.triad (p + 1)).g := by
  intro x
  have hx : x = { entered s p tk k false (s.triad (p + 1)) with tgset := BitVec.ofNat 64 taskSet } := triad_enterTask_same hrun hpart htask
  rw [hx]
  exact ⟨rfl, rfl, rfl, level_cleared _, rfl, rfl, rfl, rfl, rfl⟩

theorem triad_enterTask_other (t : Nat) (ht : t ≠ p + 1) : (s.enterTask p k restore).triad t = s.triad t := by
  rw [enterTask_eq hrun hpart htask, triad_openWindow, State.loadTaskRules, State.triad_onTriad_other _ _ _ _ (Ne.symm ht),
    triad_of_offRules (offRules_loadRules _ _ _ _ _), State.triad_onTriad_other _ _ _ _ (Ne.symm ht)]

end

/-! ## A task starts (R22) -/

/-- The state in which the executive enters the next task of lane `p`. -/
def starting (s : State) (p : Nat) : State :=
  ((s.onLane p fun l => { l with
    since := s.time, fault := false, exc := none, saved := (s.triad (p + 1)).callee
    points := (l.task, l.outs, l.fresh) :: l.points }).setPhase p .running).put (BSQ_LANE_STAT_TASK p) (s.lane p).task

theorem startTask_eq (s : State) (p : Nat) : s.startTask p = (starting s p).enterTask p (s.lane p).task false := rfl

theorem offLanes_starting (s : State) (p : Nat) : offLanes (starting s p) = offLanes s := by
  rw [starting, offLanes_put, offLanes_setPhase, offLanes_onLane]

theorem lane_starting (s : State) (p : Nat) : ((starting s p).lane p).phase = .running ∧ ((starting s p).lane p).part = (s.lane p).part := by
  rw [starting, lane_of_offRegs (offRegs_put _ _ _), lane_setPhase_same, lane_onLane_same]
  exact ⟨rfl, rfl⟩

theorem reg_starting (s : State) (p a : Nat) (h : BSQ_LANE_STAT p ≠ a) : (starting s p).reg a = s.reg a := by
  rw [starting, reg_put_other _ _ _ _ h, reg_setPhase _ _ _ _ h]
  rfl

theorem laneCycles_starting (s : State) (p d : Nat) (hp : p < 18) : (starting s p).laneCycles (p + 1) d = s.laneCycles (p + 1) d := by
  have hop : (starting s p).get (PWR_CLUSTER_OP ((p + 1 - 1) / 2)) = s.get (PWR_CLUSTER_OP ((p + 1 - 1) / 2)) := by
    rw [State.get, reg_starting _ _ _ (by show BSQ_LANE_STAT p ≠ PWR_CLUSTER _; unfold BSQ_LANE_STAT PWR_CLUSTER; omega), State.get]
  simp only [State.laneCycles, hop]

/-- What `nextTask` names: a task of the partition on a lane of the running image. -/
theorem taskOf_some {s : State} {p k : Nat} {tk : Task} (h : s.taskOf p k = some tk) : ∃ im pt, s.eng.running = some im ∧ s.partOf p = some pt := by
  unfold State.taskOf at h
  obtain ⟨im, hrun, h⟩ := Option.bind_eq_some_iff.mp h
  obtain ⟨pt, hpart, -⟩ := Option.bind_eq_some_iff.mp h
  exact ⟨im, pt, hrun, hpart⟩

theorem task_starts (s : State) (p : Fin 18) (tk : Task) (hnext : s.nextTask p = some tk) :
    Gives s (.taskStart p) fun u =>
      (u.lane p).phase = .running ∧ (u.triad (p + 1)).taskid = BitVec.ofNat 64 (2 ^ 31 + (s.lane p).task % 256) ∧
      (u.triad (p + 1)).budget = BitVec.ofNat 64 (2 ^ 63 + s.laneCycles (p + 1) tk.dNs % 2 ^ 32) ∧
      (u.triad (p + 1)).pc = BitVec.ofNat 64 (s.codeAt p + tk.entry) ∧ (u.triad (p + 1)).level = 0 ∧
      (u.triad (p + 1)).run = .running ∧ (u.triad (p + 1)).z = [] ∧ (u.triad (p + 1)).vcfg = 0 ∧
      (u.triad (p + 1)).tgset = BitVec.ofNat 64 taskSet ∧ (u.triad (p + 1)).g = (s.triad (p + 1)).g ∧
      u.flag (WMK_WINDOW_OPEN p) = true ∧ u.mem = s.mem ∧ u.fcu = s.fcu ∧ ∀ t, t ≠ p.val + 1 → u.triad t = s.triad t := by
  have htask : s.taskOf p (s.lane p).task = some tk := by
    unfold State.nextTask at hnext
    split_ifs at hnext
    exact (Option.filter_eq_some_iff.mp hnext).1
  obtain ⟨im, pt, hrun, hpart⟩ := taskOf_some htask
  obtain ⟨hphase, hsame⟩ := lane_starting s p
  have hoff := offLanes_starting s p
  have hrun' : (starting s p).eng.running = some im := (running_of_offLanes hoff).trans hrun
  have hpart' : (starting s p).partOf p = some pt := (partOf_of_offLanes hoff hsame).trans hpart
  have htask' : (starting s p).taskOf p (s.lane p).task = some tk := (taskOf_of_offLanes hoff hsame _).trans htask
  have hentry := offEntry_enterTask (restore := false) hrun' hpart' htask'
  obtain ⟨htaskid, hbudget, hpc, hlevel, hrunning, hz, hvcfg, htgset, hg⟩ := triad_enterTask_armed hrun' hpart' htask'
  have hother := triad_enterTask_other (restore := false) hrun' hpart' htask'
  have hopen := windowOpen_enterTask (restore := false) hrun' hpart' htask'
  rw [laneCycles_starting s p tk.dNs p.isLt] at hbudget
  rw [codeAt_of_offLanes hoff hsame] at hpc
  rw [triad_of_offLanes hoff] at hg
  have hmem := mem_of_offLanes hoff
  have hfcu := fcu_of_offLanes hoff
  have htriads := triad_of_offLanes hoff
  refine ⟨_, (exec_taskStart p s).trans (occurs_of _ _ _ (by rw [hnext]; rfl)), ?_⟩
  rw [startTask_eq]
  generalize starting s p = m at *
  generalize m.enterTask p (s.lane p).task false = u at *
  exact ⟨(congrArg (fun v => (v.lane p).phase) hentry : (u.lane p).phase = (m.lane p).phase).trans hphase, htaskid, hbudget, hpc, hlevel, hrunning, hz, hvcfg,
    htgset, hg, hopen, (congrArg (·.mem) hentry : u.mem = m.mem).trans hmem, (congrArg (·.fcu) hentry : u.fcu = m.fcu).trans hfcu,
    fun t ht => (hother t ht).trans (htriads t)⟩

/-! ## A task ends (R22, R23) -/

theorem windowOpen_put (s : State) (p : Nat) : (s.put (WMK_WINDOW_OPEN p) 0).flag (WMK_WINDOW_OPEN p) = false := by
  rw [State.flag_put_self _ _ _ (by simp only; omega)]; rfl

/-- A window that holds what the task expects is closed without a flag (R337). -/
theorem closeWindow_expected (s : State) (p : Nat)
    (h : s.flag (WMK_WINDOW_OPEN p) = true → s.get (WMK_EXPECT_EXPECT p (s.get (WMK_WINDOW_TASK p))) ≤ (s.window p).count) :
    s.closeWindow p true = if s.flag (WMK_WINDOW_OPEN p) = true then (s.put (WMK_WINDOW_OPEN p) 0).setWindow p {} else s := by
  unfold State.closeWindow
  by_cases hopen : s.flag (WMK_WINDOW_OPEN p) = true
  · have hcount : (true && !(s.window p).flagged && decide ((s.window p).count < s.get (WMK_EXPECT_EXPECT p (s.get (WMK_WINDOW_TASK p))))) = false := by
      rw [decide_eq_false (Nat.not_lt.mpr (h hopen)), Bool.and_false]
    rw [if_pos hopen, if_neg (by rw [hopen]; decide)]
    extract_lets w k m
    have hm : m = s := if_neg (by rw [hcount]; decide)
    rw [hm]
  · rw [if_neg hopen, if_pos (by rw [Bool.eq_false_of_not_eq_true hopen]; rfl)]

/-- Leaving a task whose window is as expected: the window is shut, and only triads, windows and its register have changed. -/
theorem leaveTask_expected (s : State) (p : Nat)
    (h : s.flag (WMK_WINDOW_OPEN p) = true → s.get (WMK_EXPECT_EXPECT p (s.get (WMK_WINDOW_TASK p))) ≤ (s.window p).count) :
    offEntry (s.leaveTask p true) = offEntry s ∧ (s.leaveTask p true).flag (WMK_WINDOW_OPEN p) = false ∧
      ∀ a, WMK_WINDOW p ≠ a → (s.leaveTask p true).reg a = s.reg a := by
  unfold State.leaveTask
  generalize hm : (s.onTriad (p + 1) fun x => { x with taskid := BitVec.ofNat 64 (x.taskid.toNat % 2 ^ 31) }) = m
  have hoff : offEntry m = offEntry s := by rw [← hm, offEntry_onTriad]
  have hreg : ∀ a, m.reg a = s.reg a := fun a => by rw [← hm, reg_onTriad]
  have hget : ∀ f : Fld, m.get f = s.get f := fun f => by rw [State.get, hreg, State.get]
  have hwin : m.window p = s.window p := by rw [← hm, window_onTriad]
  have hclose := closeWindow_expected m p (by simpa only [State.flag, hget, hwin] using h)
  rw [hclose]
  split_ifs with hopen
  · refine ⟨?_, ?_, fun a ha => ?_⟩
    · rw [offEntry_setWindow, offEntry_of_offRegs (offRegs_put _ _ _), hoff]
    · rw [flag_setWindow, windowOpen_put]
    · rw [reg_setWindow, reg_put_other _ _ _ _ ha, hreg]
  · exact ⟨hoff, by simpa using hopen, fun a _ => hreg a⟩

theorem lane_publish (s : State) (x p : Nat) : (s.publish x).lane p = s.lane p := by
  unfold State.publish; split_ifs <;> rfl

/-- A state without what tasks publish. -/
def offPublished (s : State) : State := { s with eng := { s.eng with published := [] } }

theorem offPublished_publish (s : State) (x : Nat) : offPublished (s.publish x) = offPublished s := by
  unfold State.publish; split_ifs <;> rfl

theorem publish_mem (s : State) (x : Nat) (h : x ≠ 0xFFFF) : x ∈ (s.publish x).eng.published := by
  unfold State.publish
  split_ifs with hx
  · rw [decide_eq_false h, Bool.false_or] at hx
    exact List.contains_iff_mem.mp hx
  · exact List.mem_append_right _ (List.mem_singleton_self x)

theorem isShadow_home (s : State) (p : Nat) (hp : p < 16) : s.isShadow p = false := by
  have : isLayby p = false := decide_eq_false (by omega)
  rw [State.isShadow, this, Bool.false_and]

theorem offRegs_notePeak (s : State) (p : Nat) : offRegs (s.notePeak p) = offRegs s := by
  unfold State.notePeak
  dsimp only
  split_ifs <;> rfl

theorem reg_notePeak (s : State) (p a : Nat) (h : BSQ_LANE_STAT p ≠ a) : (s.notePeak p).reg a = s.reg a := by
  unfold State.notePeak
  dsimp only
  split_ifs
  · exact reg_put_other _ _ _ _ h
  · rfl

@[simp] theorem reg_onLane (s : State) (p : Nat) (f : LaneRun → LaneRun) (a : Nat) : (s.onLane p f).reg a = s.reg a := rfl

@[simp] theorem lane_onTriad (s : State) (t : Nat) (f : Triad → Triad) (p : Nat) : (s.onTriad t f).lane p = s.lane p := rfl

/-- A lane that has run its last task: it rests, and its record keeps that task. -/
def laneRested (s : State) (p n : Nat) : State := ((s.restLane p).notePeak p).onLane p fun l => { l with task := n }

theorem lane_laneRested (s : State) (p n : Nat) : (laneRested s p n).lane p = { s.lane p with task := n } := by
  rw [laneRested, lane_onLane_same, lane_of_offRegs (offRegs_notePeak _ _), State.restLane, lane_onTriad]

theorem reg_laneRested (s : State) (p n a : Nat) (h : BSQ_LANE_STAT p ≠ a) : (laneRested s p n).reg a = s.reg a := by
  rw [laneRested, reg_onLane, reg_notePeak _ _ _ h, State.restLane, reg_onTriad]

theorem offLanes_laneRested (s : State) (p n : Nat) : offTriads (offLanes (laneRested s p n)) = offTriads (offLanes s) := by
  rw [laneRested, offLanes_onLane, offLanes_of_offRegs (offRegs_notePeak _ _)]
  rfl

/-- The record of a lane whose task has ended clean. -/
def endedLane (l : LaneRun) (pt : Partition) (outs : List OutSample) (fresh : Sparse Byte) : LaneRun :=
  { l with
    outs := l.outs ++ outs, fresh := overlay l.fresh fresh, exc := none, first := none
    phase := if l.task + 1 < pt.tasks then .waiting else .finished
    task := if l.task + 1 < pt.tasks then l.task + 1 else pt.tasks - 1 }

/-- State `u` is `s` with the task of home lane `p` ended clean: its record, its exchange point published, nothing else but the lane's own
LANE_STAT. -/
def EndedClean (s u : State) (p : Nat) (pt : Partition) (tk : Task) (outs : List OutSample) (fresh : Sparse Byte) : Prop :=
  u.lane p = endedLane (s.lane p) pt outs fresh ∧ (tk.publishes ≠ 0xFFFF → tk.publishes ∈ u.eng.published) ∧ u.mem = s.mem ∧ u.fcu = s.fcu ∧
    ∀ a, BSQ_LANE_STAT p ≠ a → u.reg a = s.reg a

/-- The clean end of a task on a home lane. -/
theorem taskDone_home (s : State) (p : Nat) (pt : Partition) (tk : Task) (outs : List OutSample) (fresh : Sparse Byte) (hp : p < 16)
    (hpart : s.partOf p = some pt) (htask : s.taskOf p (s.lane p).task = some tk) :
    EndedClean s (s.taskDone p outs fresh) p pt tk outs fresh := by
  unfold State.taskDone
  simp only [hpart, htask]
  generalize hm : (s.onLane p fun l => { l with
      outs := l.outs ++ outs, fresh := overlay l.fresh fresh, exc := none, first := none, task := l.task + 1 }) = m
  have hlane : m.lane p = { s.lane p with
      outs := (s.lane p).outs ++ outs, fresh := overlay (s.lane p).fresh fresh, exc := none, first := none, task := (s.lane p).task + 1 } := by
    rw [← hm, lane_onLane_same]
  have hmem : m.mem = s.mem := by rw [← hm]; rfl
  have hfcu : m.fcu = s.fcu := by rw [← hm]; rfl
  have hreg : ∀ a, m.reg a = s.reg a := fun a => by rw [← hm]; rfl
  simp only [isShadow_home m p hp, Bool.false_and, Bool.false_eq_true, if_false]
  have hpub : ∀ h : tk.publishes ≠ 0xFFFF, tk.publishes ∈ (m.publish tk.publishes).eng.published := publish_mem m _
  have hoff := offPublished_publish m tk.publishes
  have hlane' := (lane_publish m tk.publishes p).trans hlane
  generalize m.publish tk.publishes = w at *
  have hmem' : w.mem = s.mem := (congrArg (·.mem) hoff : w.mem = m.mem).trans hmem
  have hfcu' : w.fcu = s.fcu := (congrArg (·.fcu) hoff : w.fcu = m.fcu).trans hfcu
  have hreg' : ∀ a, w.reg a = s.reg a := fun a => (congrArg (·.reg a) hoff : w.reg a = m.reg a).trans (hreg a)
  split_ifs with hmore
  · have hphase := lane_setPhase_same w p .waiting
    have hoff' := offLanes_setPhase w p .waiting
    have hreg'' := reg_setPhase w p .waiting
    generalize w.setPhase p .waiting = x at *
    have hrest : ∀ f : Triad → Triad, EndedClean s x p pt tk outs fresh → EndedClean s (x.onTriad (p + 1) f) p pt tk outs fresh := fun _ h => h
    refine hrest _ ?_
    refine ⟨?_, fun h => ?_, (mem_of_offLanes hoff').trans hmem', (fcu_of_offLanes hoff').trans hfcu', fun a ha => (hreg'' a ha).trans (hreg' a)⟩
    · exact hphase.trans (by rw [hlane']; simp only [endedLane, hmore, if_true])
    · have hx : x.eng.published = w.eng.published := congrArg (·.eng.published) hoff'
      show tk.publishes ∈ x.eng.published
      rw [hx]; exact hpub h
  · have hphase := lane_setPhase_same w p .finished
    have hoff' := offLanes_setPhase w p .finished
    have hreg'' := reg_setPhase w p .finished
    have hrest := lane_laneRested (w.setPhase p .finished) p (pt.tasks - 1)
    have hroff := offLanes_laneRested (w.setPhase p .finished) p (pt.tasks - 1)
    have hrreg := reg_laneRested (w.setPhase p .finished) p (pt.tasks - 1)
    change EndedClean s (laneRested (w.setPhase p .finished) p (pt.tasks - 1)) p pt tk outs fresh
    generalize laneRested (w.setPhase p .finished) p (pt.tasks - 1) = u at *
    generalize w.setPhase p .finished = x at *
    refine ⟨?_, fun h => ?_, ?_, ?_, fun a ha => (hrreg a ha).trans ((hreg'' a ha).trans (hreg' a))⟩
    · rw [hrest, hphase, hlane']; simp only [endedLane, hmore, if_false]
    · have hu : u.eng.published = x.eng.published := congrArg (·.eng.published) hroff
      have hx : x.eng.published = w.eng.published := congrArg (·.eng.published) hoff'
      rw [hu, hx]; exact hpub h
    · exact (congrArg (·.mem) hroff : u.mem = x.mem).trans ((mem_of_offLanes hoff').trans hmem')
    · exact (congrArg (·.fcu) hroff : u.fcu = x.fcu).trans ((fcu_of_offLanes hoff').trans hfcu')

theorem taskEnded_of_endedClean {s m u : State} {p : Nat} {pt : Partition} {tk : Task} {r : TaskResult} (hlane : m.lane p = s.lane p) (hmem : m.mem = s.mem)
    (hfcu : m.fcu = s.fcu) (hopen : m.flag (WMK_WINDOW_OPEN p) = false) (h : EndedClean m u p pt tk (ownOuts (s.lane p).part r.outs) (s.freshBytes p r))
    (hp : p < 16) : Sys2Proof.Statements.TaskEnded s u p pt tk r := by
  obtain ⟨hl, hpub, hm, hf, hreg⟩ := h
  rw [hlane] at hl
  have hshut : u.flag (WMK_WINDOW_OPEN p) = false := by
    rw [State.flag, State.get, hreg _ (by show BSQ_LANE_STAT p ≠ WMK_WINDOW p; unfold BSQ_LANE_STAT WMK_WINDOW; omega), ← State.get, ← State.flag]
    exact hopen
  refine ⟨by rw [hl]; rfl, by rw [hl]; rfl, hpub, hshut, by rw [hl]; rfl, by rw [hl]; rfl, hm.trans hmem, hf.trans hfcu⟩

theorem freshBytes_of_partOf {u v : State} {p : Nat} (h : u.partOf p = v.partOf p) (r : TaskResult) : u.freshBytes p r = v.freshBytes p r := by
  simp only [State.freshBytes, h]

section
variable {s : State} {p : Nat} {pt : Partition} {tk : Task} (hon : Sys2Proof.Statements.OnTask s p pt tk) (hclean : Sys2Proof.Statements.CleanRun s p)
include hon hclean

/-- What the executive finds once it has left the task: the lane as it was, its window shut. -/
theorem leaveTask_clean : (s.leaveTask p true).lane p = s.lane p ∧ (s.leaveTask p true).partOf p = some pt ∧
    (s.leaveTask p true).taskOf p (s.lane p).task = some tk ∧ (s.leaveTask p true).mem = s.mem ∧ (s.leaveTask p true).fcu = s.fcu ∧
    (s.leaveTask p true).flag (WMK_WINDOW_OPEN p) = false ∧ ∀ a, WMK_WINDOW p ≠ a → (s.leaveTask p true).reg a = s.reg a := by
  obtain ⟨hp, hpart, htask⟩ := hon
  obtain ⟨-, -, hwindow⟩ := hclean
  obtain ⟨hoff, hopen, hreg⟩ := leaveTask_expected s p hwindow
  generalize s.leaveTask p true = m at *
  exact ⟨congrArg (·.lane p) hoff, (congrArg (·.partOf p) hoff : m.partOf p = s.partOf p).trans hpart,
    (congrArg (·.taskOf p (s.lane p).task) hoff : m.taskOf p (s.lane p).task = s.taskOf p (s.lane p).task).trans htask, congrArg (·.mem) hoff,
    congrArg (·.fcu) hoff, hopen, hreg⟩

theorem endTask_running (r : TaskResult) (hphase : (s.lane p).phase = .running) :
    s.endTask p r = (s.leaveTask p true).taskDone p (ownOuts (s.lane p).part r.outs) (s.freshBytes p r) := by
  obtain ⟨hlane, hpart, -⟩ := leaveTask_clean hon hclean
  obtain ⟨hfault, hexc, -⟩ := hclean
  have hfresh : (s.leaveTask p true).freshBytes p r = s.freshBytes p r := freshBytes_of_partOf (hpart.trans hon.2.1.symm) r
  unfold State.endTask
  generalize s.leaveTask p true = m at *
  simp only [hlane, hfault, hexc, hphase, hfresh, Option.isSome_none, Bool.or_self, Bool.false_eq_true, if_false, reduceCtorEq]

theorem endTask_replaying (r : TaskResult) (hphase : (s.lane p).phase = .replaying) (hshadow : (s.lane p).shadow = none) :
    s.endTask p r = ((s.leaveTask p true).bump (BSQ_LANE_REC_REPLAYS p)).taskDone p (ownOuts (s.lane p).part r.outs) (s.freshBytes p r) := by
  obtain ⟨hlane, hpart, -⟩ := leaveTask_clean hon hclean
  obtain ⟨hfault, hexc, -⟩ := hclean
  have hfresh : ((s.leaveTask p true).bump (BSQ_LANE_REC_REPLAYS p)).freshBytes p r = s.freshBytes p r :=
    freshBytes_of_partOf ((partOf_bump _ _ _).trans (hpart.trans hon.2.1.symm)) r
  unfold State.endTask
  generalize s.leaveTask p true = m at *
  simp only [hlane, hfault, hexc, hphase, hshadow, hfresh, Option.isSome_none, Bool.or_self, Bool.false_eq_true, if_false, if_true]

end

theorem task_completes {s : State} {p : Fin 18} {pt : Partition} {tk : Task} (hon : Sys2Proof.Statements.OnTask s p pt tk)
    (hclean : Sys2Proof.Statements.CleanRun s p) (r : TaskResult) (hphase : (s.lane p).phase = .running) :
    Gives s (.taskComplete p r) fun u => Sys2Proof.Statements.TaskEnded s u p pt tk r := by
  obtain ⟨hlane, hpart, htask, hmem, hfcu, hopen, -⟩ := leaveTask_clean hon hclean
  refine ⟨_, (exec_taskComplete p r s).trans (occurs_of _ _ _ (decide_eq_true hphase)), ?_⟩
  rw [endTask_running hon hclean r hphase]
  generalize s.leaveTask p true = m at *
  rw [← hlane] at htask
  have hdone := taskDone_home m p pt tk (ownOuts (s.lane p).part r.outs) (s.freshBytes p r) hon.1 hpart htask
  have hended := taskEnded_of_endedClean hlane hmem hfcu hopen hdone hon.1
  generalize m.taskDone p (ownOuts (s.lane p).part r.outs) (s.freshBytes p r) = u at *
  exact hended

theorem replay_completes {s : State} {p : Fin 18} {pt : Partition} {tk : Task} (hon : Sys2Proof.Statements.OnTask s p pt tk)
    (hclean : Sys2Proof.Statements.CleanRun s p) (r : TaskResult) (hphase : (s.lane p).phase = .replaying) (hshadow : (s.lane p).shadow = none) :
    Gives s (.replayComplete p r) fun u => Sys2Proof.Statements.TaskEnded s u p pt tk r ∧
      u.get (BSQ_LANE_REC_REPLAYS p) = satCount (BSQ_LANE_REC_REPLAYS p).width (s.get (BSQ_LANE_REC_REPLAYS p) + 1) := by
  have hp := hon.1
  obtain ⟨hlane, hpart, htask, hmem, hfcu, hopen, hreg⟩ := leaveTask_clean hon hclean
  refine ⟨_, (exec_replayComplete p r s).trans (occurs_of _ _ _ (decide_eq_true hphase)), ?_⟩
  rw [endTask_replaying hon hclean r hphase hshadow]
  generalize s.leaveTask p true = m at *
  have hcount : (m.bump (BSQ_LANE_REC_REPLAYS p)).get (BSQ_LANE_REC_REPLAYS p) =
      satCount (BSQ_LANE_REC_REPLAYS p).width (s.get (BSQ_LANE_REC_REPLAYS p) + 1) := by
    rw [get_bump _ _ (by simp only; omega), State.get, hreg _ (by show WMK_WINDOW p ≠ BSQ_LANE_REC p; unfold WMK_WINDOW BSQ_LANE_REC; omega), ← State.get]
  have hopen' : (m.bump (BSQ_LANE_REC_REPLAYS p)).flag (WMK_WINDOW_OPEN p) = false := by
    rw [State.flag, State.bump, State.get_put_other _ _ _ _ (by show BSQ_LANE_REC p ≠ WMK_WINDOW p; unfold WMK_WINDOW BSQ_LANE_REC; omega), ← State.flag]
    exact hopen
  have hlane' : (m.bump (BSQ_LANE_REC_REPLAYS p)).lane p = s.lane p := (lane_of_offRegs (offRegs_put _ _ _) _).trans hlane
  have hpart' : (m.bump (BSQ_LANE_REC_REPLAYS p)).partOf p = some pt := (partOf_bump _ _ _).trans hpart
  have htask' : (m.bump (BSQ_LANE_REC_REPLAYS p)).taskOf p (s.lane p).task = some tk := (taskOf_bump _ _ _ _).trans htask
  have hmem' : (m.bump (BSQ_LANE_REC_REPLAYS p)).mem = s.mem := (State.mem_bump _ _).trans hmem
  have hfcu' : (m.bump (BSQ_LANE_REC_REPLAYS p)).fcu = s.fcu := (State.put_fcu _ _ _).trans hfcu
  generalize m.bump (BSQ_LANE_REC_REPLAYS p) = w at *
  rw [← hlane'] at htask'
  have hdone := taskDone_home w p pt tk (ownOuts (s.lane p).part r.outs) (s.freshBytes p r) hon.1 hpart' htask'
  have hended := taskEnded_of_endedClean hlane' hmem' hfcu' hopen' hdone hon.1
  obtain ⟨-, -, -, -, hregs⟩ := hdone
  generalize w.taskDone p (ownOuts (s.lane p).part r.outs) (s.freshBytes p r) = u at *
  refine ⟨hended, ?_⟩
  rw [State.get_drivePins, State.get, hregs _ (by show BSQ_LANE_STAT p ≠ BSQ_LANE_REC p; unfold BSQ_LANE_STAT BSQ_LANE_REC; omega), ← State.get]
  exact hcount

/-! ## A budget runs out (R55, R74) -/

theorem budgetExpires_eq (s : State) (p : Nat) : s.budgetExpires p =
    ((((s.until (s.time + s.cyclesNs (p + 1) ((s.triad (p + 1)).budget.toNat % 2 ^ 32))).onTriad (p + 1) fun x => { x with budget := 0, overrun := true }).bump
      (BSQ_LANE_STAT_OVERRUNS p)).put BSQ_STATUS_OVERRUN 1) := rfl

theorem budget_expires (s : State) (p : Fin 18) (harmed : (s.triad (p + 1)).budget.getLsbD 63 = true) (hrun : (s.triad (p + 1)).run = .running) :
    Gives s (.taskBudgetExpiry p) fun u =>
      (u.triad (p + 1)).overrun = true ∧ (u.triad (p + 1)).budget = 0 ∧ u.flag BSQ_STATUS_OVERRUN = true ∧
      u.get (BSQ_LANE_STAT_OVERRUNS p) = satCount (BSQ_LANE_STAT_OVERRUNS p).width (s.get (BSQ_LANE_STAT_OVERRUNS p) + 1) ∧
      u.time = s.time + s.cyclesNs (p + 1) ((s.triad (p + 1)).budget.toNat % 2 ^ 32) ∧ u.mem = s.mem := by
  have hp := p.isLt
  have hexec : exec (.taskBudgetExpiry p) s = .next (s.budgetExpires p).drivePins :=
    (exec_taskBudgetExpiry p s).trans (occurs_of _ _ _ (by rw [harmed, decide_eq_true hrun]; rfl))
  refine ⟨_, hexec, ?_⟩
  rw [budgetExpires_eq]
  generalize hc : s.cyclesNs (p.val + 1) ((s.triad (p.val + 1)).budget.toNat % 2 ^ 32) = c
  have htime : (s.until (s.time + c)).time = s.time + c := (State.time_until s _).trans (by omega)
  have hget : ∀ f, (s.until (s.time + c)).get f = s.get f := State.get_until s _
  have hmem := mem_until s (s.time + c)
  generalize s.until (s.time + c) = w at *
  have hmtime : (w.onTriad (p.val + 1) fun x => { x with budget := 0, overrun := true }).time = w.time := rfl
  have hmmem : (w.onTriad (p.val + 1) fun x => { x with budget := 0, overrun := true }).mem = w.mem := rfl
  generalize hm : (w.onTriad (p.val + 1) fun x => { x with budget := 0, overrun := true }) = m at *
  have htriad : m.triad (p + 1) = { w.triad (p + 1) with budget := 0, overrun := true } := by rw [← hm, State.triad_onTriad_self]
  have hget' : ∀ f, m.get f = s.get f := fun f => by rw [← hm, get_onTriad, hget]
  have hoff : offRegs ((m.bump (BSQ_LANE_STAT_OVERRUNS p)).put BSQ_STATUS_OVERRUN 1) = offRegs m := by rw [offRegs_put, State.bump, offRegs_put]
  have hflag : ((m.bump (BSQ_LANE_STAT_OVERRUNS p)).put BSQ_STATUS_OVERRUN 1).flag BSQ_STATUS_OVERRUN = true := by
    rw [State.flag_put_self _ _ _ (by decide)]; rfl
  have hcount : ((m.bump (BSQ_LANE_STAT_OVERRUNS p)).put BSQ_STATUS_OVERRUN 1).get (BSQ_LANE_STAT_OVERRUNS p) =
      satCount (BSQ_LANE_STAT_OVERRUNS p).width (s.get (BSQ_LANE_STAT_OVERRUNS p) + 1) := by
    rw [State.get_put_other _ _ _ _ (by show BSQ_STATUS ≠ BSQ_LANE_STAT p; unfold BSQ_STATUS BSQ_LANE_STAT; omega), get_bump _ _ (by simp only; omega), hget']
  generalize (m.bump (BSQ_LANE_STAT_OVERRUNS p)).put BSQ_STATUS_OVERRUN 1 = u at *
  have hu := triad_of_offRegs hoff (p.val + 1)
  refine ⟨?_, ?_, ?_, ?_, ?_, ?_⟩
  · rw [State.triad_drivePins, hu, htriad]
  · rw [State.triad_drivePins, hu, htriad]
  · rw [flag_drivePins, hflag]
  · rw [State.get_drivePins, hcount]
  · rw [State.drivePins_time, time_of_offRegs hoff, hmtime, htime]
  · rw [State.drivePins_mem, mem_of_offRegs hoff, hmmem, hmem]

/-! ## Shadows (R29, R30, R167) -/

/-- What the assignment and the end of shadows keep: all but registers and the records of lanes and Layby lanes. -/
def offSpare (s : State) : State := { s with regs := [], eng := { s.eng with lanes := [], layby := [] } }

theorem offSpare_of_offRegs {s u : State} (h : offRegs u = offRegs s) : offSpare u = offSpare s := by rw [eq_of_offRegs h]; rfl

theorem offSpare_setLayby (s : State) (y : Nat) (x : LaybyLane) : offSpare (s.setLayby y x) = offSpare s := rfl

theorem offSpare_setLane (s : State) (p : Nat) (l : LaneRun) : offSpare (s.setLane p l) = offSpare s := rfl

theorem offSpare_onLane (s : State) (p : Nat) (f : LaneRun → LaneRun) : offSpare (s.onLane p f) = offSpare s := rfl

@[simp] theorem lane_setLayby (s : State) (y : Nat) (x : LaybyLane) (p : Nat) : (s.setLayby y x).lane p = s.lane p := rfl

@[simp] theorem reg_setLayby (s : State) (y : Nat) (x : LaybyLane) (a : Nat) : (s.setLayby y x).reg a = s.reg a := rfl

@[simp] theorem reg_setLane (s : State) (p : Nat) (l : LaneRun) (a : Nat) : (s.setLane p l).reg a = s.reg a := rfl

@[simp] theorem get_setLayby (s : State) (y : Nat) (x : LaybyLane) (f : Fld) : (s.setLayby y x).get f = s.get f := rfl

@[simp] theorem get_setLane (s : State) (p : Nat) (l : LaneRun) (f : Fld) : (s.setLane p l).get f = s.get f := rfl

@[simp] theorem get_onLane (s : State) (p : Nat) (g : LaneRun → LaneRun) (f : Fld) : (s.onLane p g).get f = s.get f := rfl

theorem lane_drive (s : State) (n : Nat) (r : Raise) (p : Nat) : (s.drive n r).lane p = s.lane p := by rw [State.drive_fcu]; rfl

theorem lane_put (s : State) (f : Fld) (v p : Nat) : (s.put f v).lane p = s.lane p := rfl

/-- A lane's record without the name of its shadow. -/
def noShadow (l : LaneRun) : LaneRun := { l with shadow := none }

theorem laybyLogical_addr (p : Nat) : (laybyLogical p).addr = BSQ_LAYBY := by
  unfold laybyLogical; split_ifs <;> rfl

/-- A register that the assignment and the end of shadows do not write. -/
def spareFree (a : Nat) : Prop := BSQ_LAYBY ≠ a ∧ BSQ_LANE_STAT 16 ≠ a ∧ BSQ_LANE_STAT 17 ≠ a

theorem reg_put_laybyUse (s : State) (y v a : Nat) (h : spareFree a) : (s.put (laybyUse y) v).reg a = s.reg a :=
  reg_put_other _ _ _ _ (by rw [laybyUse_addr]; exact h.1)

theorem reg_put_laybyLogical (s : State) (y v a : Nat) (h : spareFree a) : (s.put (laybyLogical y) v).reg a = s.reg a :=
  reg_put_other _ _ _ _ (by rw [laybyLogical_addr]; exact h.1)

theorem reg_put_laneState (s : State) (y v a : Nat) (hy : y = 16 ∨ y = 17) (h : spareFree a) : (s.put (BSQ_LANE_STAT_STATE y) v).reg a = s.reg a := by
  obtain ⟨-, h16, h17⟩ := h
  rcases hy with rfl | rfl
  · exact reg_put_other _ _ _ _ h16
  · exact reg_put_other _ _ _ _ h17

theorem offSpare_dropShadow (s : State) (y : Nat) : offSpare (s.dropShadow y) = offSpare s := by
  unfold State.dropShadow
  split_ifs
  · rw [offSpare_onLane, offSpare_setLayby]
  · rfl
  · extract_lets m m'
    have hm : offSpare m = offSpare s := by
      simp only [m]; split <;> rfl
    have hm' : offSpare m' = offSpare m := by
      simp only [m']
      rw [offSpare_setLayby, offSpare_of_offRegs (offRegs_put _ _ _), offSpare_of_offRegs (offRegs_put _ _ _)]
    rw [offSpare_of_offRegs (offRegs_put _ _ _), offSpare_setLane, hm', hm]

section
variable {s : State} {y : Nat} (hy : y = 16 ∨ y = 17)
include hy

theorem reg_dropShadow (a : Nat) (h : spareFree a) : (s.dropShadow y).reg a = s.reg a := by
  unfold State.dropShadow
  split_ifs
  · rw [reg_onLane, reg_setLayby]
  · rfl
  · extract_lets m m'
    have hm : m.reg a = s.reg a := by
      simp only [m]; split <;> rfl
    have hm' : m'.reg a = m.reg a := by
      simp only [m']
      rw [reg_setLayby, reg_put_laybyLogical _ _ _ _ h, reg_put_laybyUse _ _ _ _ h]
    rw [reg_put_laneState _ _ _ _ hy h, reg_setLane, hm', hm]

/-- The end of another lane's shadow leaves a lane that has none. -/
theorem lane_dropShadow (p : Nat) (hp : p < 16) (hnone : (s.lane p).shadow = none) : (s.dropShadow y).lane p = s.lane p := by
  have hyp : y ≠ p := by omega
  unfold State.dropShadow
  split_ifs
  · rw [lane_onLane_other _ _ _ _ hyp, lane_setLayby]
  · rfl
  · extract_lets m m'
    have hm : m.lane p = s.lane p := by
      simp only [m]
      split
      · next h _ =>
        by_cases hh : h = p
        · subst hh
          rw [lane_onLane_same, hnone]
          split_ifs <;> (rw [← hnone])
        · exact lane_onLane_other _ _ _ _ hh
      · rfl
    rw [lane_put, lane_setLane_other _ _ _ _ hyp]
    simp only [m']
    rw [lane_setLayby, lane_put, lane_put, hm]

end

theorem pickLayby_some {s : State} {q y : Nat} (h : s.pickLayby q = some y) : (y = 16 ∨ y = 17) ∧ q ≠ y ∧ s.get (laybyUse y) = 0 := by
  have hfree : ∀ z, s.laybyFree z = true → s.get (laybyUse z) = 0 := fun z hz => by
    simp only [State.laybyFree, Bool.and_eq_true, decide_eq_true_eq] at hz
    exact hz.1.1.1
  unfold State.pickLayby at h
  split_ifs at h with h16 h17
  · obtain rfl := Option.some.inj h
    rw [Bool.and_eq_true, decide_eq_true_eq] at h16
    exact ⟨.inl rfl, h16.1, hfree 16 h16.2⟩
  · obtain rfl := Option.some.inj h
    rw [Bool.and_eq_true, decide_eq_true_eq] at h17
    exact ⟨.inr rfl, h17.1, hfree 17 h17.2⟩

/-- The state in which Layby lane `y` prepares a shadow of lane `q`. -/
def preparing (s : State) (q y : Nat) : State :=
  let l := s.lane q
  let s := (s.put (laybyUse y) 1).put (laybyLogical y) l.logical
  let s := s.setLayby y { home := some q, road := false, divert := [], point := l.task, allow := s.allowance, cycle := s.sentryCycle + 1 }
  (s.setLane y { phase := .preparing, logical := l.logical, part := l.part, task := l.task, outs := l.outs, fresh := l.fresh, saved := l.saved
                 since := s.time, inputs := l.inputs }).put (BSQ_LANE_STAT_STATE y) 3

theorem assignShadow_some {s : State} {q y : Nat} (h : s.pickLayby q = some y) :
    s.assignShadow q = (preparing s q y).onLane q fun r => { r with shadow := some y } := by
  unfold State.assignShadow
  rw [h]
  rfl

theorem assignShadow_none {s : State} {q : Nat} (h : s.pickLayby q = none) : s.assignShadow q = s := by
  unfold State.assignShadow
  rw [h]

theorem offSpare_preparing (s : State) (q y : Nat) : offSpare (preparing s q y) = offSpare s := by
  rw [preparing, offSpare_of_offRegs (offRegs_put _ _ _), offSpare_setLane, offSpare_setLayby, offSpare_of_offRegs (offRegs_put _ _ _),
    offSpare_of_offRegs (offRegs_put _ _ _)]

theorem reg_preparing (s : State) (q y a : Nat) (hy : y = 16 ∨ y = 17) (h : spareFree a) : (preparing s q y).reg a = s.reg a := by
  rw [preparing, reg_put_laneState _ _ _ _ hy h, reg_setLane, reg_setLayby, reg_put_laybyLogical _ _ _ _ h, reg_put_laybyUse _ _ _ _ h]

theorem lane_preparing_other (s : State) (q y p : Nat) (h : y ≠ p) : (preparing s q y).lane p = s.lane p := by
  rw [preparing, lane_put, lane_setLane_other _ _ _ _ h, lane_setLayby, lane_put, lane_put]

theorem phase_preparing (s : State) (q y : Nat) : ((preparing s q y).lane y).phase = .preparing := by
  rw [preparing, lane_put, lane_setLane_same]

theorem get_laybyUse_preparing (s : State) (q y z : Nat) (hy : y = 16 ∨ y = 17) (hz : z = 16 ∨ z = 17) :
    (preparing s q y).get (laybyUse z) = if z = y then 1 else s.get (laybyUse z) := by
  have hstat : (BSQ_LANE_STAT_STATE y).addr ≠ (laybyUse z).addr := by
    rcases hy with rfl | rfl <;> rcases hz with rfl | rfl <;> decide
  have hfit : ∀ x, (laybyUse x).lo + (laybyUse x).width ≤ 32 := fun x => by unfold laybyUse; split_ifs <;> decide
  have hlogical : (laybyLogical y).lo + (laybyLogical y).width ≤ 32 := by unfold laybyLogical; split_ifs <;> decide
  have hapart : (laybyUse z).lo + (laybyUse z).width ≤ (laybyLogical y).lo ∨ (laybyLogical y).lo + (laybyLogical y).width ≤ (laybyUse z).lo := by
    rcases hy with rfl | rfl <;> rcases hz with rfl | rfl <;> decide
  rw [preparing, State.get_put_other _ _ _ _ hstat, get_setLane, get_setLayby, State.get_put_apart _ _ _ _ hlogical hapart]
  split_ifs with hzy
  · subst hzy
    exact State.get_put_eq _ _ _ (hfit z) (by unfold laybyUse; split_ifs <;> decide)
  · refine State.get_put_apart _ _ _ _ (hfit y) ?_
    rcases hy with rfl | rfl <;> rcases hz with rfl | rfl
    · exact absurd rfl hzy
    · decide
    · decide
    · exact absurd rfl hzy

/-- The shadow of lane `p`, if it has one, is one that prepares on a Layby lane. -/
def ShadowPrepares (s : State) (p : Nat) : Prop :=
  ∀ y, (s.lane p).shadow = some y → (y = 16 ∨ y = 17) ∧ s.get (laybyUse y) = 1 ∧ (s.lane y).phase = .preparing

theorem noShadow_assignShadow (s : State) (q p : Nat) (hp : p < 16) : noShadow ((s.assignShadow q).lane p) = noShadow (s.lane p) := by
  cases h : s.pickLayby q with
  | none => rw [assignShadow_none h]
  | some y =>
    obtain ⟨hy, -, -⟩ := pickLayby_some h
    rw [assignShadow_some h]
    by_cases hqp : q = p
    · subst hqp
      rw [lane_onLane_same, lane_preparing_other _ _ _ _ (by omega)]
      rfl
    · rw [lane_onLane_other _ _ _ _ hqp, lane_preparing_other _ _ _ _ (by omega)]

theorem shadowPrepares_assignShadow (s : State) (q p : Nat) (hp : p < 16) (hinv : ShadowPrepares s p) : ShadowPrepares (s.assignShadow q) p := by
  cases h : s.pickLayby q with
  | none => rw [assignShadow_none h]; exact hinv
  | some y =>
    obtain ⟨hy, hqy, hfree⟩ := pickLayby_some h
    rw [assignShadow_some h]
    intro z hz
    rw [get_onLane]
    by_cases hqp : q = p
    · subst hqp
      rw [lane_onLane_same] at hz
      obtain rfl := Option.some.inj hz
      rw [lane_onLane_other _ _ _ _ hqy, get_laybyUse_preparing _ _ _ _ hy hy, if_pos rfl]
      exact ⟨hy, rfl, phase_preparing s q y⟩
    · rw [lane_onLane_other _ _ _ _ hqp, lane_preparing_other _ _ _ _ (by omega)] at hz
      obtain ⟨hz', huse, hprep⟩ := hinv z hz
      have hzy : y ≠ z := by rintro rfl; rw [hfree] at huse; cases huse
      refine ⟨hz', by rw [get_laybyUse_preparing _ _ _ _ hy hz', if_neg (Ne.symm hzy)]; exact huse, ?_⟩
      by_cases hqz : q = z
      · subst hqz
        rw [lane_onLane_same, lane_preparing_other _ _ _ _ hzy]; exact hprep
      · rw [lane_onLane_other _ _ _ _ hqz, lane_preparing_other _ _ _ _ hzy]; exact hprep

theorem offSpare_assignShadow (s : State) (q : Nat) : offSpare (s.assignShadow q) = offSpare s := by
  cases h : s.pickLayby q with
  | none => rw [assignShadow_none h]
  | some y => rw [assignShadow_some h, offSpare_onLane, offSpare_preparing]

theorem reg_assignShadow (s : State) (q a : Nat) (ha : spareFree a) : (s.assignShadow q).reg a = s.reg a := by
  cases h : s.pickLayby q with
  | none => rw [assignShadow_none h]
  | some y => rw [assignShadow_some h, reg_onLane, reg_preparing _ _ _ _ (pickLayby_some h).1 ha]

/-- The shadows dropped and assigned as a shadow of lane `p` starts. -/
theorem startShadow_eq (s : State) (p : Nat) (hnone : (s.lane p).shadow = none) :
    s.startShadow p = ((p :: s.tiedShadows.map Prod.fst).insertionSort (· ≤ ·)).foldl State.assignShadow
      (s.tiedShadows.foldl (fun s x => s.dropShadow x.2) s) := by
  unfold State.startShadow
  rw [hnone]
  rfl

theorem tiedShadows_layby (s : State) (x : Nat × Nat) (hx : x ∈ s.tiedShadows) : x.2 = 16 ∨ x.2 = 17 := by
  unfold State.tiedShadows at hx
  obtain ⟨y, hy, hxy⟩ := List.mem_filterMap.mp hx
  split_ifs at hxy
  obtain ⟨h, -, rfl⟩ := Option.map_eq_some_iff.mp hxy
  exact List.mem_pair.mp hy

section
variable {s : State} {p : Nat} (hp : p < 16) (hnone : (s.lane p).shadow = none)
include hp hnone

theorem lane_dropShadows (l : List (Nat × Nat)) (hl : ∀ x ∈ l, x.2 = 16 ∨ x.2 = 17) : (l.foldl (fun s x => s.dropShadow x.2) s).lane p = s.lane p := by
  induction l generalizing s with
  | nil => rfl
  | cons x l ih =>
    have hx := lane_dropShadow (s := s) (hl x List.mem_cons_self) p hp hnone
    exact (ih (by rw [hx]; exact hnone) fun z hz => hl z (List.mem_cons_of_mem x hz)).trans hx

/-- A shadow started for a home lane leaves the lane's record but the shadow's name, and that shadow prepares (R29, R167). -/
theorem startShadow_prepares : noShadow ((s.startShadow p).lane p) = noShadow (s.lane p) ∧ ShadowPrepares (s.startShadow p) p := by
  rw [startShadow_eq s p hnone]
  have hdrop := lane_dropShadows hp hnone s.tiedShadows (tiedShadows_layby s)
  generalize s.tiedShadows.foldl (fun s x => s.dropShadow x.2) s = m at *
  generalize (p :: s.tiedShadows.map Prod.fst).insertionSort (· ≤ ·) = l
  have hm : ShadowPrepares m p := fun y hy => by rw [hdrop, hnone] at hy; cases hy
  rw [← hdrop]
  clear hdrop hnone
  induction l generalizing m with
  | nil => exact ⟨rfl, hm⟩
  | cons q l ih =>
    obtain ⟨hlane, hprep⟩ := ih (m.assignShadow q) (shadowPrepares_assignShadow m q p hp hm)
    exact ⟨hlane.trans (noShadow_assignShadow m q p hp), hprep⟩

end

section
variable {s : State} {p : Nat} (hnone : (s.lane p).shadow = none)
include hnone

theorem reg_startShadow (a : Nat) (ha : spareFree a) : (s.startShadow p).reg a = s.reg a := by
  rw [startShadow_eq s p hnone, foldl_keeps (·.reg a) State.assignShadow (fun v q => reg_assignShadow v q a ha)]
  exact foldl_keeps_of_mem (·.reg a) (fun s x => s.dropShadow x.2) _ (fun v x hx => reg_dropShadow (tiedShadows_layby s x hx) a ha) s

theorem offSpare_startShadow : offSpare (s.startShadow p) = offSpare s := by
  rw [startShadow_eq s p hnone, foldl_keeps offSpare State.assignShadow offSpare_assignShadow]
  exact foldl_keeps offSpare (fun (s : State) (x : Nat × Nat) => s.dropShadow x.2) (fun v x => offSpare_dropShadow v x.2) _ s

/-- With no shadow tied to it in the same Sentry cycle, a lane takes the free Layby lane (R167). -/
theorem shadow_startShadow (hfree : s.tiedShadows = []) : ((s.startShadow p).lane p).shadow = s.pickLayby p := by
  rw [startShadow_eq s p hnone, hfree]
  show ((s.assignShadow p).lane p).shadow = _
  cases h : s.pickLayby p with
  | none => rw [assignShadow_none h, hnone]
  | some y => rw [assignShadow_some h, lane_onLane_same]

end

/-! ## A task fails its check (R23, R29, R161) -/

theorem offTriads_onTriad (s : State) (t : Nat) (f : Triad → Triad) : offTriads (s.onTriad t f) = offTriads s := rfl

/-- A failed check is reported as CHECK_FAILURE at the triad's PC; the state is as it was (R107). -/
theorem reported_check (s : State) (p : Nat) :
    s.reported p .check = (⟨0x22, BitVec.ofNat 64 ((s.triad (p + 1)).check.getD 1), false, 0⟩, (s.triad (p + 1)).pc, s) := rfl

/-- Taking a failed check touches the lane's triad alone (R107, R108). -/
theorem offTriads_failureTaken (s : State) (p : Nat) : offTriads (s.failureTaken p .check) = offTriads s := by
  unfold State.failureTaken
  rw [reported_check]
  dsimp only
  split_ifs with hleft
  · rfl
  · have hexl : (s.triad (p + 1)).exl = false := by
      rw [Bool.or_eq_true, not_or] at hleft
      exact Bool.eq_false_of_not_eq_true hleft.2
    rw [enterException_open _ _ _ _ _ hexl (by simp), offTriads_onTriad]

/-- The lane set back to the replay point of task `k` (R161). -/
def replaying (s : State) (p k : Nat) : State :=
  ((s.onLane p fun l => { l with task := k, fault := false, exc := none, first := none, replayed := k :: l.replayed, since := s.time }).setPhase p
    .replaying).put (BSQ_LANE_STAT_TASK p) k

theorem taskFailure_replays (s : State) (p k : Nat) (hp : p < 16) (hphase : (s.lane p).phase = .running) (hmay : s.mayReplay p k = true) :
    s.taskFailure p k none = (((replaying s p k).enterTask p k true).drive (34 + 8 * p) (s.laneCause p)).startShadow p := by
  simp only [State.taskFailure, hphase, isShadow_home s p hp, hmay, Bool.false_eq_true, if_false, if_true, Option.isSome_none]
  rfl

/-- The lane whose replay may not start: counted and reported, with task `k` as its replay point. -/
def noReplay (s : State) (p k : Nat) : State :=
  ((s.bump (BSQ_LANE_REC_REPLAY_FAILS p)).drive (34 + 8 * p) (s.laneCause p)).onLane p fun l => { l with task := k }

theorem taskFailure_fails (s : State) (p k : Nat) (hp : p < 16) (hphase : (s.lane p).phase = .running) (hmay : s.mayReplay p k = false) :
    s.taskFailure p k none = (((noReplay s p k).startShadow p).setPhase p .failed).onLane p fun l => { l with fault := true } := by
  have hlane : ((noReplay s p k).lane p).phase = .running := by
    rw [noReplay, lane_onLane_same, lane_drive, State.bump, lane_put]
    exact hphase
  have hfail : (noReplay s p k).laneFail p = (((noReplay s p k).startShadow p).setPhase p .failed).onLane p fun l => { l with fault := true } := by
    simp only [State.laneFail, isShadow_home _ p hp, hlane, Bool.false_eq_true, if_false]
  rw [← hfail]
  simp only [State.taskFailure, hphase, isShadow_home s p hp, hmay, Bool.false_eq_true, if_false]
  rfl

/-- What a replay's start keeps, beside the shadows: all but registers, rule sets, triads, windows, channels and lane records. -/
def offReplay (s : State) : State :=
  { s with regs := [], tg := {}, triads := [], windows := [], fcu := {}, eng := { s.eng with lanes := [] } }

theorem offReplay_of_offLanes {s u : State} (h : offLanes u = offLanes s) : offReplay u = offReplay s := by
  show offReplay (offLanes u) = offReplay (offLanes s)
  rw [h]

theorem offReplay_of_offEntry {s u : State} (h : offEntry u = offEntry s) : offReplay u = offReplay s := by
  show offReplay (offEntry u) = offReplay (offEntry s)
  rw [h]

theorem offReplay_of_offTriads {s u : State} (h : offTriads u = offTriads s) : offReplay u = offReplay s := by
  show offReplay (offTriads u) = offReplay (offTriads s)
  rw [h]

theorem offReplay_drive (s : State) (n : Nat) (r : Raise) : offReplay (s.drive n r) = offReplay s := by rw [State.drive_fcu]; rfl

section
variable {s u : State} (hreg : u.reg BSQ_LAYBY = s.reg BSQ_LAYBY)
include hreg

theorem laybyUse_of_reg (y : Nat) : u.get (laybyUse y) = s.get (laybyUse y) := by
  rw [State.get, laybyUse_addr, hreg, State.get, laybyUse_addr]

theorem tiedShadows_of_offReplay (hoff : offReplay u = offReplay s) (hlane : ∀ y, y = 16 ∨ y = 17 → u.lane y = s.lane y) :
    u.tiedShadows = s.tiedShadows := by
  have hup : u.sentryCycle = s.sentryCycle := congrArg (·.sentryCycle) hoff
  have hlayby : ∀ y, u.layby y = s.layby y := fun y => congrArg (·.layby y) hoff
  simp only [State.tiedShadows, laybyUse_of_reg hreg, hup, hlayby, List.filterMap_cons, List.filterMap_nil, hlane 16 (.inl rfl), hlane 17 (.inr rfl)]

theorem pickLayby_of_offReplay (hoff : offReplay u = offReplay s) (hpin : u.reg (PWR_CLUSTER 8) = s.reg (PWR_CLUSTER 8))
    (hret : u.reg (SPM_RETIRED 8) = s.reg (SPM_RETIRED 8)) (p : Nat) : u.pickLayby p = s.pickLayby p := by
  have hpin' : u.get (PWR_CLUSTER_PIN 8) = s.get (PWR_CLUSTER_PIN 8) := by rw [State.get, hpin, State.get]
  have hpower : u.eng.hostPower = s.eng.hostPower := congrArg (·.eng.hostPower) hoff
  have hrun : u.eng.running = s.eng.running := congrArg (·.eng.running) hoff
  have hout : u.eng.outOfService = s.eng.outOfService := congrArg (·.eng.outOfService) hoff
  have hpinned : u.laybyPinned = s.laybyPinned := by simp only [State.laybyPinned, hpin', hpower, hrun]
  have hfree : ∀ y, u.laybyFree y = s.laybyFree y := fun y => by
    rw [State.laybyFree, laybyUse_of_reg hreg, hout, hpinned, hret, State.laybyFree]
  rw [State.pickLayby, hfree, hfree, State.pickLayby]

end

theorem lane_replaying_same (s : State) (p k : Nat) :
    (replaying s p k).lane p = { s.lane p with
      task := k, fault := false, exc := none, first := none, replayed := k :: (s.lane p).replayed, since := s.time, phase := .replaying } := by
  rw [replaying, lane_put, lane_setPhase_same, lane_onLane_same]

theorem lane_replaying_other (s : State) (p k q : Nat) (h : p ≠ q) : (replaying s p k).lane q = s.lane q := by
  rw [replaying, lane_put, lane_setPhase_other _ _ _ _ h, lane_onLane_other _ _ _ _ h]

theorem offLanes_replaying (s : State) (p k : Nat) : offLanes (replaying s p k) = offLanes s := by
  rw [replaying, offLanes_put, offLanes_setPhase, offLanes_onLane]

theorem reg_replaying (s : State) (p k a : Nat) (h : BSQ_LANE_STAT p ≠ a) : (replaying s p k).reg a = s.reg a := by
  rw [replaying, reg_put_other _ _ _ _ h, reg_setPhase _ _ _ _ h]
  rfl

/-- The lane in its replay, its channel raised, before its shadow starts. -/
def replayBegun (s : State) (p k : Nat) : State := ((replaying s p k).enterTask p k true).drive (34 + 8 * p) (s.laneCause p)

/-- The replay channel of a lane is a row of the FCU's table. -/
theorem replayChannel : ∀ p : Fin 16, (fcRow (34 + 8 * p.val)).isSome = true := by decide

section
variable {s : State} {p k : Nat} {pt : Partition} {tk : Task} (hpart : s.partOf p = some pt) (htask : s.taskOf p k = some tk)
include hpart htask

theorem replay_entry : offEntry ((replaying s p k).enterTask p k true) = offEntry (replaying s p k) ∧
    ∀ a, a < 0x60060000 ∨ 0x60090000 ≤ a → p < 18 → ((replaying s p k).enterTask p k true).reg a = (replaying s p k).reg a := by
  obtain ⟨im, -, hrun, -⟩ := taskOf_some htask
  have hoff := offLanes_replaying s p k
  have hsame : ((replaying s p k).lane p).part = (s.lane p).part := by rw [lane_replaying_same]
  have hrun' := (running_of_offLanes hoff).trans hrun
  have hpart' := (partOf_of_offLanes hoff hsame).trans hpart
  have htask' := (taskOf_of_offLanes hoff hsame k).trans htask
  exact ⟨offEntry_enterTask hrun' hpart' htask', reg_enterTask hrun' hpart' htask'⟩

theorem offReplay_replayBegun : offReplay (replayBegun s p k) = offReplay s := by
  rw [replayBegun, offReplay_drive, offReplay_of_offEntry (replay_entry hpart htask).1, offReplay_of_offLanes (offLanes_replaying s p k)]

theorem lane_replayBegun (q : Nat) : (replayBegun s p k).lane q = (replaying s p k).lane q := by
  have hentry := (replay_entry hpart htask).1
  rw [replayBegun, lane_drive]
  generalize (replaying s p k).enterTask p k true = u at *
  exact congrArg (·.lane q) hentry

theorem reg_replayBegun (hp : p < 16) (a : Nat) (ha : BSQ_LANE_STAT p ≠ a) (hdev : a < 0x60060000 ∨ 0x60090000 ≤ a) :
    (replayBegun s p k).reg a = s.reg a := by
  rw [← reg_replaying s p k a ha, ← (replay_entry hpart htask).2 a hdev (by omega), replayBegun, State.drive_fcu]
  rfl

theorem todo_replayBegun (hp : p < 16) :
    ((replayBegun s p k).pair (34 + 8 * p)).todo.length = (s.pair (34 + 8 * p)).todo.length + 1 := by
  have hentry := (replay_entry hpart htask).1
  have hfcu := fcu_of_offLanes (offLanes_replaying s p k)
  rw [replayBegun, State.pair_drive _ _ _ (replayChannel ⟨p, hp⟩)]
  generalize (replaying s p k).enterTask p k true = u at *
  have hu : u.fcu = s.fcu := (congrArg (·.fcu) hentry : u.fcu = (replaying s p k).fcu).trans hfcu
  have hpair : u.pair (34 + 8 * p) = s.pair (34 + 8 * p) := by rw [State.pair, hu, State.pair]
  rw [hpair, List.length_append, List.length_singleton]

end

/-- A lane that has not failed takes nothing of its shadow (R30). -/
theorem selectShadow_unfailed (s : State) (p : Nat) (h : (s.lane p).phase ≠ .failed) : s.selectShadow p = s := by
  unfold State.selectShadow
  split
  · rw [if_pos h]
  · rfl

theorem offPublished_publishShadow (s : State) (y : Nat) : offPublished (s.publishShadow y) = offPublished s := by
  refine foldl_keeps offPublished _ (fun v k => ?_) _ s
  split
  · exact offPublished_publish v _
  · rfl

/-- A shadow that still prepares gives its home lane its published data alone (R30). -/
theorem offPublished_selectShadow (s : State) (p : Nat) (h : ∀ y, (s.lane p).shadow = some y → (s.lane y).phase = .preparing) :
    offPublished (s.selectShadow p) = offPublished s := by
  unfold State.selectShadow
  split
  · next im y _ hy =>
    dsimp only
    split_ifs with hfailed hclean
    · rfl
    · have hpub := offPublished_publishShadow s y
      generalize s.publishShadow y = u at *
      have hlane : u.lane y = s.lane y := congrArg (·.lane y) hpub
      rw [hlane, LaneRun.clean, h y hy] at hclean
      cases hclean
    · exact offPublished_publishShadow s y
  · rfl

@[simp] theorem pair_onLane (s : State) (p : Nat) (f : LaneRun → LaneRun) (n : Nat) : (s.onLane p f).pair n = s.pair n := rfl

@[simp] theorem mem_onLane (s : State) (p : Nat) (f : LaneRun → LaneRun) : (s.onLane p f).mem = s.mem := rfl

theorem pair_put (s : State) (f : Fld) (v n : Nat) : (s.put f v).pair n = s.pair n := rfl

theorem mem_drive (s : State) (n : Nat) (r : Raise) : (s.drive n r).mem = s.mem := by rw [State.drive_fcu]

theorem lane_noReplay_same (s : State) (p k : Nat) : (noReplay s p k).lane p = { s.lane p with task := k } := by
  rw [noReplay, lane_onLane_same, lane_drive, State.bump, lane_put]

theorem reg_drive (s : State) (n : Nat) (r : Raise) (a : Nat) : (s.drive n r).reg a = s.reg a := by rw [State.drive_fcu]; rfl

theorem laneRec_spareFree (p : Nat) : spareFree (BSQ_LANE_REC p) := by
  unfold spareFree BSQ_LAYBY BSQ_LANE_STAT BSQ_LANE_REC
  omega

/-- A lane whose replay may not start, after it failed for the block: counted and reported, with a shadow at most preparing (R161). -/
theorem failed_noReplay (s : State) (p k : Nat) (hp : p < 16) (hnone : (s.lane p).shadow = none) :
    let w := (((noReplay s p k).startShadow p).setPhase p .failed).onLane p fun l => { l with fault := true }
    ((w.lane p).phase = .failed ∧ w.get (BSQ_LANE_REC_REPLAY_FAILS p) =
        satCount (BSQ_LANE_REC_REPLAY_FAILS p).width (s.get (BSQ_LANE_REC_REPLAY_FAILS p) + 1) ∧
      (w.pair (34 + 8 * p)).todo.length = (s.pair (34 + 8 * p)).todo.length + 1 ∧ w.mem = s.mem) ∧
    ∀ y, (w.lane p).shadow = some y → (w.lane y).phase = .preparing := by
  have hlane := lane_noReplay_same s p k
  have hnone' : ((noReplay s p k).lane p).shadow = none := by rw [hlane]; exact hnone
  have hget : (noReplay s p k).get (BSQ_LANE_REC_REPLAY_FAILS p) =
      satCount (BSQ_LANE_REC_REPLAY_FAILS p).width (s.get (BSQ_LANE_REC_REPLAY_FAILS p) + 1) := by
    rw [noReplay, get_onLane, State.get, reg_drive, ← State.get, get_bump _ _ (by simp only; omega)]
  have hpair : ((noReplay s p k).pair (34 + 8 * p)).todo.length = (s.pair (34 + 8 * p)).todo.length + 1 := by
    rw [noReplay, pair_onLane, State.pair_drive _ _ _ (replayChannel ⟨p, hp⟩), List.length_append, List.length_singleton, State.bump, pair_put]
  have hmem : (noReplay s p k).mem = s.mem := by rw [noReplay, mem_onLane, mem_drive, State.bump, mem_of_offRegs (offRegs_put _ _ _)]
  generalize noReplay s p k = m at *
  have hspare := offSpare_startShadow hnone'
  obtain ⟨-, hprep⟩ := startShadow_prepares hp hnone'
  have hreg := reg_startShadow hnone'
  generalize m.startShadow p = v at *
  have hoff := offLanes_setPhase v p .failed
  have hsame := lane_setPhase_same v p .failed
  have hother := fun q => lane_setPhase_other v p q .failed
  have hcount : (v.setPhase p .failed).get (BSQ_LANE_REC_REPLAY_FAILS p) = m.get (BSQ_LANE_REC_REPLAY_FAILS p) := by
    rw [State.get, reg_setPhase _ _ _ _ (by show BSQ_LANE_STAT p ≠ BSQ_LANE_REC p; unfold BSQ_LANE_STAT BSQ_LANE_REC; omega),
      hreg _ (laneRec_spareFree p), ← State.get]
  generalize v.setPhase p .failed = x at *
  intro w
  have hwp : w.lane p = { x.lane p with fault := true } := lane_onLane_same _ _ _
  have hpair' : w.pair (34 + 8 * p) = m.pair (34 + 8 * p) :=
    (congrArg (·.pair (34 + 8 * p)) hoff : x.pair (34 + 8 * p) = v.pair (34 + 8 * p)).trans (congrArg (·.pair (34 + 8 * p)) hspare)
  have hmem' : w.mem = m.mem := (mem_of_offLanes hoff).trans (congrArg (·.mem) hspare)
  refine ⟨⟨by rw [hwp, hsame], ?_, by rw [hpair', hpair], hmem'.trans hmem⟩, fun y hy => ?_⟩
  · rw [← hget, ← hcount]
    exact get_onLane _ _ _ _
  · rw [hwp, hsame] at hy
    obtain ⟨hy', -, hphase⟩ := hprep y hy
    rw [← hphase, ← hother y (by omega)]
    exact congrArg LaneRun.phase (lane_onLane_other _ _ _ _ (by omega))

/-- What the executive makes of a failed check of the running task (R29, R161). -/
theorem exec_checkFailed (s : State) (p : Fin 18) (hphase : (s.lane p).phase = .running) :
    exec (.taskFailure p .check) s =
      .next (((s.failureTaken p .check).taskFailure p (s.lane p).task none).selectShadow p).drivePins := by
  have hlane : (s.failureTaken p .check).lane p = s.lane p := congrArg (·.lane p) (offTriads_failureTaken s p)
  have htake : s.takeFailure p .check = ((s.failureTaken p .check).taskFailure p (s.lane p).task none).selectShadow p := by
    rw [State.takeFailure, hphase]
    simp only [State.actOnFailure, hlane]
  rw [exec_taskFailure, ← htake]
  show occurs (true && _) s (s.takeFailure p .check) = _
  exact occurs_of _ _ _ (by rw [hphase]; rfl)

section
variable (s : State) (p : Fin 18) (pt : Partition) (tk : Task) (hon : Sys2Proof.Statements.OnTask s p pt tk)
  (hphase : (s.lane p).phase = .running) (hnone : (s.lane p).shadow = none)
include hon hphase hnone

theorem check_replays (hmay : s.mayReplay p (s.lane p).task = true) :
    Gives s (.taskFailure p .check) fun u =>
      (u.lane p).phase = .replaying ∧ (s.lane p).task ∈ (u.lane p).replayed ∧ (u.lane p).outs = (s.lane p).outs ∧ (u.lane p).fresh = (s.lane p).fresh ∧
      (u.pair (34 + 8 * p)).todo.length = (s.pair (34 + 8 * p)).todo.length + 1 ∧ (s.tiedShadows = [] → (u.lane p).shadow = s.pickLayby p) := by
  obtain ⟨hp, hpart, htask⟩ := hon
  refine ⟨_, exec_checkFailed s p hphase, ?_⟩
  have hm := offTriads_failureTaken s p
  generalize s.failureTaken p .check = m at *
  have hlanes : ∀ q, m.lane q = s.lane q := fun q => congrArg (·.lane q) hm
  have hpair : m.pair (34 + 8 * p) = s.pair (34 + 8 * p) := congrArg (·.pair (34 + 8 * p)) hm
  have hpart' : m.partOf p = some pt := (congrArg (·.partOf p) hm : m.partOf p = s.partOf p).trans hpart
  have htask' : m.taskOf p (s.lane p).task = some tk := (congrArg (·.taskOf p (s.lane p).task) hm : _ = s.taskOf p (s.lane p).task).trans htask
  have hmay' : m.mayReplay p (s.lane p).task = true := (congrArg (·.mayReplay p (s.lane p).task) hm : _ = s.mayReplay p (s.lane p).task).trans hmay
  rw [taskFailure_replays m p _ hp (by rw [hlanes, hphase]) hmay']
  generalize hk : (s.lane p).task = k at *
  rw [show (((replaying m p k).enterTask p k true).drive (34 + 8 * p) (m.laneCause p)) = replayBegun m p k from rfl]
  have hoff := (offReplay_replayBegun hpart' htask').trans (offReplay_of_offTriads hm)
  have hlane := lane_replayBegun hpart' htask'
  have hreg := fun a ha hdev => (reg_replayBegun hpart' htask' hp a ha hdev).trans (reg_of_offTriads hm a)
  have htodo := todo_replayBegun hpart' htask' hp
  rw [hpair] at htodo
  generalize replayBegun m p k = w at *
  have hwp := (hlane p).trans (lane_replaying_same m p k)
  rw [hlanes] at hwp
  have hwnone : (w.lane p).shadow = none := by rw [hwp]; exact hnone
  have hspare := offSpare_startShadow hwnone
  obtain ⟨hkept, -⟩ := startShadow_prepares hp hwnone
  have hshadow := shadow_startShadow hwnone
  rw [hwp] at hkept
  generalize w.startShadow p = v at *
  have hvphase : (v.lane p).phase = .replaying := (congrArg LaneRun.phase hkept : _ = LanePhase.replaying)
  rw [selectShadow_unfailed v p (by rw [hvphase]; decide)]
  have hreplayed := congrArg LaneRun.replayed hkept
  have houts := congrArg LaneRun.outs hkept
  have hfresh := congrArg LaneRun.fresh hkept
  have hvpair : v.pair (34 + 8 * p) = w.pair (34 + 8 * p) := congrArg (·.pair (34 + 8 * p)) hspare
  beta_reduce
  rw [lane_drivePins, pair_drivePins]
  refine ⟨hvphase, hreplayed ▸ List.mem_cons_self, houts, hfresh, by rw [hvpair, htodo], fun htied => ?_⟩
  have hlayby : w.reg BSQ_LAYBY = s.reg BSQ_LAYBY := hreg _ (by unfold BSQ_LANE_STAT BSQ_LAYBY; omega) (by decide)
  have hother : ∀ y, y = 16 ∨ y = 17 → w.lane y = s.lane y := fun y hy => by
    rw [hlane, lane_replaying_other _ _ _ _ (by omega), hlanes]
  rw [hshadow ((tiedShadows_of_offReplay hlayby hoff hother).trans htied),
    pickLayby_of_offReplay hlayby hoff (hreg _ (by unfold BSQ_LANE_STAT PWR_CLUSTER; omega) (by decide))
      (hreg _ (by unfold BSQ_LANE_STAT SPM_RETIRED; omega) (by decide))]

theorem check_fails (hmay : s.mayReplay p (s.lane p).task = false) :
    Gives s (.taskFailure p .check) fun u =>
      (u.lane p).phase = .failed ∧ u.get (BSQ_LANE_REC_REPLAY_FAILS p) =
        satCount (BSQ_LANE_REC_REPLAY_FAILS p).width (s.get (BSQ_LANE_REC_REPLAY_FAILS p) + 1) ∧
      (u.pair (34 + 8 * p)).todo.length = (s.pair (34 + 8 * p)).todo.length + 1 ∧ u.mem = s.mem := by
  obtain ⟨hp, -, -⟩ := hon
  refine ⟨_, exec_checkFailed s p hphase, ?_⟩
  have hm := offTriads_failureTaken s p
  generalize s.failureTaken p .check = m at *
  have hlanes : ∀ q, m.lane q = s.lane q := fun q => congrArg (·.lane q) hm
  have hmay' : m.mayReplay p (s.lane p).task = false := (congrArg (·.mayReplay p (s.lane p).task) hm : _ = s.mayReplay p (s.lane p).task).trans hmay
  rw [taskFailure_fails m p _ hp (by rw [hlanes, hphase]) hmay']
  obtain ⟨hfields, hprep⟩ := failed_noReplay m p (s.lane p).task hp (by rw [hlanes, hnone])
  generalize ((((noReplay m p (s.lane p).task).startShadow p).setPhase p .failed).onLane p fun l => { l with fault := true }) = w at *
  obtain ⟨hwphase, hcount, htodo, hmem⟩ := hfields
  have hsel := offPublished_selectShadow w p hprep
  generalize w.selectShadow p = v at *
  have hvphase : (v.lane p).phase = (w.lane p).phase := congrArg (fun x => (x.lane p).phase) hsel
  have hvget : v.get (BSQ_LANE_REC_REPLAY_FAILS p) = w.get (BSQ_LANE_REC_REPLAY_FAILS p) := congrArg (·.get (BSQ_LANE_REC_REPLAY_FAILS p)) hsel
  have hvpair : v.pair (34 + 8 * p) = w.pair (34 + 8 * p) := congrArg (·.pair (34 + 8 * p)) hsel
  have hvmem : v.mem = w.mem := congrArg (·.mem) hsel
  have hmpair : m.pair (34 + 8 * p) = s.pair (34 + 8 * p) := congrArg (·.pair (34 + 8 * p)) hm
  beta_reduce
  rw [lane_drivePins, pair_drivePins, State.get_drivePins, State.drivePins_mem]
  exact ⟨hvphase.trans hwphase, by rw [hvget, hcount, get_of_offTriads hm], by rw [hvpair, htodo, hmpair], by rw [hvmem, hmem, mem_of_offTriads hm]⟩

end

/-- Settles O34: a task's start, its clean end and a replay's, its failed check with and without a replay, and its budget, clause by clause. -/
theorem tasksRunReplayAndFail : Obligations.TasksRunReplayAndFail := by
  refine fun s p pt tk r => ⟨task_starts s p tk, fun hon hclean => ⟨?_, ?_⟩, fun hon hphase hnone => ⟨?_, ?_⟩, budget_expires s p⟩
  · exact task_completes hon hclean r
  · exact replay_completes hon hclean r
  · exact check_replays s p pt tk hon hphase hnone
  · exact check_fails s p pt tk hon hphase hnone

end Sys2Proof.Proofs

namespace Sys2Proof.Proofs
open Sys2Proof.Machine Sys2Proof.Safety

/-! ## Mirrors (R172 to R174) -/

/-- What writing bytes and queueing a mirror keep: all but memory and the engine's mirror records. -/
def offMirror (s : State) : State :=
  { s with mem := [], werr := [], eng := { s.eng with mirror := [], mirrorAt := [], mirrorSeq := [], bodyCrc := [] } }

/-- An engine without the records of its mirrors. -/
def engOffMirror (e : Engine) : Engine := { e with mirror := [], mirrorAt := [], mirrorSeq := [], bodyCrc := [] }

theorem offMirror_onEng (s : State) (f : Engine → Engine) (h : engOffMirror (f s.eng) = engOffMirror s.eng) : offMirror (s.onEng f) = offMirror s := by
  show { s with mem := [], werr := [], eng := engOffMirror (f s.eng) } = offMirror s
  rw [h]
  rfl

theorem offMirror_setBytes (s : State) (a : Nat) (bs : List Byte) : offMirror (s.setBytes a bs) = offMirror s := by rw [setBytes_eq]; rfl

theorem offMirror_putMirror (s : State) (a : Nat) (bs : List Byte) : offMirror (s.putMirror a bs) = offMirror s :=
  (foldl_keeps offMirror (fun (s : State) w => s.setErr w .good) (fun _ _ => rfl) _ _).trans (offMirror_setBytes s a bs)

theorem mem_putMirror (s : State) (a : Nat) (bs : List Byte) : (s.putMirror a bs).mem = (s.setBytes a bs).mem :=
  foldl_keeps State.mem (fun (s : State) w => s.setErr w .good) (fun _ _ => rfl) _ _

theorem byte_of_mem {s u : State} (h : u.mem = s.mem) (x : Nat) : u.byte x = s.byte x := by rw [State.byte, h, State.byte]

theorem byte_putMirror_outside (s : State) (a : Nat) (bs : List Byte) (x : Nat) (hx : x < a ∨ a + bs.length ≤ x) :
    (s.putMirror a bs).byte x = s.byte x := by
  rw [byte_of_mem (mem_putMirror s a bs), byte_setBytes_outside _ _ _ _ hx]

theorem bytes_putMirror_same (s : State) (a : Nat) (bs : List Byte) : (s.putMirror a bs).bytes a bs.length = bs := by
  have hbytes : (s.putMirror a bs).bytes a bs.length = (s.setBytes a bs).bytes a bs.length :=
    List.map_congr_left fun i _ => byte_of_mem (mem_putMirror s a bs) (a + i)
  rw [hbytes, bytes_setBytes_same]

theorem mirrors_of_eng {s u : State} (h : u.eng.mirror = s.eng.mirror) (l : Nat) : u.mirrors l = s.mirrors l := by
  rw [State.mirrors, h, State.mirrors]

@[simp] theorem mirrors_drivePins (s : State) (l : Nat) : s.drivePins.mirrors l = s.mirrors l := rfl

@[simp] theorem stateBuf_drivePins (s : State) (l : Nat) : s.drivePins.stateBuf l = s.stateBuf l := rfl

theorem mirrors_onEng (s : State) (f : Engine → Engine) (l : Nat) (h : (f s.eng).mirror = s.eng.mirror) : (s.onEng f).mirrors l = s.mirrors l :=
  mirrors_of_eng h l

theorem mirrors_put (s : State) (f : Fld) (v l : Nat) : (s.put f v).mirrors l = s.mirrors l := rfl

theorem mem_onEng (s : State) (f : Engine → Engine) : (s.onEng f).mem = s.mem := rfl

theorem mem_setMirrors (s : State) (l : Nat) (ms : List MirrorRun) : (s.setMirrors l ms).mem = s.mem := rfl

@[simp] theorem mirrors_setMirrors_same (s : State) (l : Nat) (ms : List MirrorRun) : (s.setMirrors l ms).mirrors l = ms := Sparse.get_set_self _ _ _ _

theorem offMirror_setMirrors (s : State) (l : Nat) (ms : List MirrorRun) : offMirror (s.setMirrors l ms) = offMirror s := rfl

/-- The mover has taken up mirror `m` of logical lane `l`, its body written from `a` on, into slot `slot`. -/
def takenUp (s : State) (l slot a : Nat) (m : MirrorRun) (rest : List MirrorRun) : State :=
  ((s.putMirror a m.body).setMirrors l ({ m with begun := true } :: rest)).onEng fun e =>
    { e with mirrorAt := Sparse.set (fun _ => 0) e.mirrorAt (2 * l + slot) 0 }

/-- The oldest mirror of a logical lane is taken up, or nothing happens. -/
theorem mirrorBegins_cases (s : State) (im : Image) (q l : Nat) : s.mirrorBegins im q l = s ∨
    ∃ m rest, s.mirrors l = m :: rest ∧
      s.mirrorBegins im q l = takenUp s l (s.freeSlot l) (s.mirrorAddr l (s.freeSlot l) (im.slotLen q) + 64) m rest := by
  unfold State.mirrorBegins
  cases hm : s.mirrors l with
  | nil => exact .inl rfl
  | cons m rest =>
    dsimp only
    split_ifs
    · exact .inl rfl
    · exact .inr ⟨m, rest, rfl, rfl⟩

theorem mirrorBegins_none (s : State) (im : Image) (q l : Nat) (h : s.mirrors l = []) : s.mirrorBegins im q l = s := by
  unfold State.mirrorBegins
  rw [h]

theorem offMirror_takenUp (s : State) (l slot a : Nat) (m : MirrorRun) (rest : List MirrorRun) : offMirror (takenUp s l slot a m rest) = offMirror s := by
  rw [takenUp, offMirror_onEng _ _ rfl, offMirror_setMirrors, offMirror_putMirror]

theorem mem_takenUp (s : State) (l slot a : Nat) (m : MirrorRun) (rest : List MirrorRun) :
    (takenUp s l slot a m rest).mem = (s.putMirror a m.body).mem := by
  rw [takenUp, mem_onEng, mem_setMirrors]

theorem mirrors_takenUp (s : State) (l slot a : Nat) (m : MirrorRun) (rest : List MirrorRun) :
    (takenUp s l slot a m rest).mirrors l = { m with begun := true } :: rest := by
  unfold takenUp
  rw [mirrors_onEng, mirrors_setMirrors_same]
  rfl

theorem offMirror_mirrorBegins (s : State) (im : Image) (q l : Nat) : offMirror (s.mirrorBegins im q l) = offMirror s := by
  rcases mirrorBegins_cases s im q l with h | ⟨m, rest, -, h⟩
  · rw [h]
  · rw [h, offMirror_takenUp]

/-- Taking up a mirror leaves the queue of mirrors as it is, but for the mark on its head. -/
theorem blocks_mirrorBegins (s : State) (im : Image) (q l : Nat) : ((s.mirrorBegins im q l).mirrors l).map (·.block) = (s.mirrors l).map (·.block) := by
  rcases mirrorBegins_cases s im q l with h | ⟨m, rest, hm, h⟩
  · rw [h]
  · rw [h, mirrors_takenUp, hm]
    rfl

/-- Only the body of the mirror at the head of the queue may be written (R174). -/
theorem byte_mirrorBegins (s : State) (im : Image) (q l x : Nat)
    (hx : ∀ m ∈ ((s.mirrorBegins im q l).mirrors l).head?, x < s.mirrorAddr l (s.freeSlot l) (im.slotLen q) + 64 ∨
      s.mirrorAddr l (s.freeSlot l) (im.slotLen q) + 64 + m.body.length ≤ x) : (s.mirrorBegins im q l).byte x = s.byte x := by
  rcases mirrorBegins_cases s im q l with h | ⟨m, rest, -, h⟩
  · rw [h]
  · rw [h, mirrors_takenUp] at hx
    rw [h, byte_of_mem (mem_takenUp s l _ _ m rest)]
    exact byte_putMirror_outside s _ m.body x (hx { m with begun := true } (Option.mem_some_self _))

/-- The state in which the mirror of a commit waits in the queue of its logical lane (R172). -/
def queued (s : State) (im : Image) (q l phys flags : Nat) : State :=
  let seq := (Sparse.get (fun _ => 0) s.eng.mirrorSeq l + 1) % 2 ^ 32
  let body := s.mirrorBody im q l
  (s.setMirrors l (s.mirrors l ++ [{ block := s.eng.period.getD 0, body := body, header := s.mirrorHeader im q l phys flags seq body }])).onEng fun e =>
    { e with mirrorSeq := Sparse.set (fun _ => 0) e.mirrorSeq l seq, bodyCrc := Sparse.set (fun _ => 0) e.bodyCrc l (crc32c body) }

theorem startMirror_eq (s : State) (im : Image) (q l phys flags : Nat) :
    s.startMirror im q l phys flags = (queued s im q l phys flags).mirrorBegins im q l := rfl

theorem offMirror_queued (s : State) (im : Image) (q l phys flags : Nat) : offMirror (queued s im q l phys flags) = offMirror s := by
  unfold queued
  dsimp only
  rw [offMirror_onEng _ _ rfl, offMirror_setMirrors]

theorem mem_queued (s : State) (im : Image) (q l phys flags : Nat) : (queued s im q l phys flags).mem = s.mem := by
  unfold queued
  rw [mem_onEng, mem_setMirrors]

theorem length_mirrors_queued (s : State) (im : Image) (q l phys flags : Nat) :
    ((queued s im q l phys flags).mirrors l).length = (s.mirrors l).length + 1 := by
  unfold queued
  dsimp only
  rw [mirrors_onEng, mirrors_setMirrors_same, List.length_append, List.length_singleton]
  rfl

theorem offMirror_startMirror (s : State) (im : Image) (q l phys flags : Nat) : offMirror (s.startMirror im q l phys flags) = offMirror s := by
  rw [startMirror_eq, offMirror_mirrorBegins, offMirror_queued]

theorem length_mirrors_startMirror (s : State) (im : Image) (q l phys flags : Nat) :
    ((s.startMirror im q l phys flags).mirrors l).length = (s.mirrors l).length + 1 := by
  have hblocks := congrArg List.length (blocks_mirrorBegins (queued s im q l phys flags) im q l)
  rw [List.length_map, List.length_map, length_mirrors_queued] at hblocks
  rw [startMirror_eq, hblocks]

/-- All that a new mirror may write is the body of the one at the head of the queue. -/
theorem byte_startMirror (s : State) (im : Image) (q l phys flags x : Nat)
    (hx : ∀ m ∈ ((s.startMirror im q l phys flags).mirrors l).head?, x < s.mirrorAddr l (s.freeSlot l) (im.slotLen q) + 64 ∨
      s.mirrorAddr l (s.freeSlot l) (im.slotLen q) + 64 + m.body.length ≤ x) : (s.startMirror im q l phys flags).byte x = s.byte x := by
  rw [startMirror_eq] at hx ⊢
  rw [← byte_of_mem (mem_queued s im q l phys flags) x]
  have hslot : (queued s im q l phys flags).freeSlot l = s.freeSlot l := rfl
  have haddr : ∀ i n, (queued s im q l phys flags).mirrorAddr l i n = s.mirrorAddr l i n := fun _ _ => rfl
  generalize queued s im q l phys flags = u at *
  exact byte_mirrorBegins u im q l x (by rw [hslot, haddr]; exact hx)

/-! ## Commits (R24, R30) -/

/-- The state in which the result of the run on lane `src` is the block of logical lane `l`, its home lane committed. -/
def taken (s : State) (l home src : Nat) : State :=
  let r := s.lane src
  let s := if r.phase = .suspended then s else s.setStateBuf l (overlay (s.stateBuf l) r.fresh)
  s.onLane home fun h => { h with committed := true, outs := r.outs, via := some src }

theorem commitFrom_eq (s : State) (im : Image) (q l home src : Nat) : s.commitFrom im q l home src =
    (taken s l home src).startMirror im q l src ((if src = home then 0 else 1) + (if (s.lane src).phase = .suspended then 2 else 0)) := rfl

/-- What the taking of a result keeps: all but the state buffers and the lanes. -/
def offCommit (s : State) : State := { s with eng := { s.eng with states := [], lanes := [] } }

theorem offCommit_setStateBuf (s : State) (l : Nat) (b : Sparse Byte) : offCommit (s.setStateBuf l b) = offCommit s := rfl

theorem offCommit_onLane (s : State) (p : Nat) (f : LaneRun → LaneRun) : offCommit (s.onLane p f) = offCommit s := rfl

theorem offCommit_taken (s : State) (l home src : Nat) : offCommit (taken s l home src) = offCommit s := by
  unfold taken
  dsimp only
  rw [offCommit_onLane]
  split_ifs
  · rfl
  · rw [offCommit_setStateBuf]

theorem lane_setStateBuf (s : State) (l : Nat) (b : Sparse Byte) (p : Nat) : (s.setStateBuf l b).lane p = s.lane p := rfl

theorem lane_taken (s : State) (l home src : Nat) :
    (taken s l home src).lane home = { s.lane home with committed := true, outs := (s.lane src).outs, via := some src } := by
  unfold taken
  dsimp only
  rw [lane_onLane_same]
  split_ifs
  · rfl
  · rw [lane_setStateBuf]

theorem stateBuf_taken (s : State) (l home src : Nat) (h : (s.lane src).phase ≠ .suspended) :
    (taken s l home src).stateBuf l = overlay (s.stateBuf l) (s.lane src).fresh := by
  have hlane : ∀ (u : State) (f : LaneRun → LaneRun), (u.onLane home f).stateBuf l = u.stateBuf l := fun _ _ => rfl
  unfold taken
  dsimp only
  rw [hlane, if_neg h]
  exact Sparse.get_set_self _ _ _ _

/-- Without a join under way nothing is caught up with (R395). -/
theorem catchUp_joined (s : State) (h : s.catching = false) : s.catchUp = s := by
  unfold State.catchUp
  split
  · rw [h, Bool.false_and, Bool.false_and, if_neg Bool.false_ne_true]
  · rfl

theorem catching_of {s u : State} (hrole : u.get SOV_STATUS_ROLE = s.get SOV_STATUS_ROLE) (hsov : u.sov = s.sov) : u.catching = s.catching := by
  rw [State.catching, hrole, hsov, State.catching]

theorem offMirror_commitFrom {s : State} (im : Image) (q l home src : Nat) :
    offMirror (s.commitFrom im q l home src) = offMirror (taken s l home src) := by rw [commitFrom_eq, offMirror_startMirror]

theorem commitOwn_alone (s : State) (im : Image) (q l p : Nat) (hnone : (s.lane p).shadow = none) :
    s.commitOwn im q l p = s.commitFrom im q l p p := by
  have hlane : (s.commitFrom im q l p p).lane p = (taken s l p p).lane p := by
    have hoff := offMirror_commitFrom (s := s) im q l p p
    generalize s.commitFrom im q l p p = u at *
    generalize taken s l p p = v at *
    exact congrArg (·.lane p) hoff
  have hshadow : ((s.commitFrom im q l p p).lane p).shadow = none := by rw [hlane, lane_taken]; exact hnone
  simp only [State.commitOwn, hshadow]

/-- The gate commits a lane's own result (R24). -/
theorem gate_commits (s : State) (p : Fin 18) (im : Image) (hrun : s.eng.running = some im) (hopen : s.gateOpens p = true)
    (hcatch : s.catching = false) (hnone : (s.lane p).shadow = none) :
    Gives s (.commitGateOpen p) fun u =>
      (u.lane p).committed = true ∧ (u.lane p).via = some p.val ∧ (u.lane p).outs = (s.lane p).outs ∧
      (u.mirrors (s.lane p).logical).length = (s.mirrors (s.lane p).logical).length + 1 ∧ u.regs = s.regs ∧
      (∀ a, (∀ m ∈ (u.mirrors (s.lane p).logical).head?,
          let b := s.mirrorAddr (s.lane p).logical (s.freeSlot (s.lane p).logical) (im.slotLen (s.lane p).part) + 64
          a < b ∨ b + m.body.length ≤ a) → u.byte a = s.byte a) ∧
      ((s.lane p).phase ≠ .suspended → u.stateBuf (s.lane p).logical = overlay (s.stateBuf (s.lane p).logical) (s.lane p).fresh) := by
  generalize hl : (s.lane p).logical = l
  generalize hq : (s.lane p).part = q
  have hexec : exec (.commitGateOpen p) s = .next (s.commitOwn im q l p).catchUp.drivePins := by
    rw [exec_commitGateOpen, execCommitGateOpen, hrun, hl, hq]
    exact occurs_of _ _ _ hopen
  refine ⟨_, hexec, ?_⟩
  rw [commitOwn_alone s im q l p hnone, commitFrom_eq]
  have htaken := offCommit_taken s l p p
  have hlane := lane_taken s l p p
  have hbuf := stateBuf_taken s l p p
  generalize taken s l p p = m at *
  have hregs : m.regs = s.regs := congrArg (·.regs) htaken
  have hmem : m.mem = s.mem := congrArg (·.mem) htaken
  have hmirrors : m.mirrors l = s.mirrors l := congrArg (·.mirrors l) htaken
  have hslot : m.freeSlot l = s.freeSlot l := congrArg (·.freeSlot l) htaken
  have haddr : m.mirrorAddr l (s.freeSlot l) (im.slotLen q) = s.mirrorAddr l (s.freeSlot l) (im.slotLen q) :=
    congrArg (·.mirrorAddr l (s.freeSlot l) (im.slotLen q)) htaken
  have hcatch' : m.catching = false := (congrArg (·.catching) htaken : m.catching = s.catching).trans hcatch
  generalize (if p.val = p.val then 0 else 1) + (if (s.lane p).phase = .suspended then 2 else 0) = flags
  have hoff := offMirror_startMirror m im q l p flags
  have hlength := length_mirrors_startMirror m im q l p flags
  have hbyte := byte_startMirror m im q l p flags
  rw [hslot, haddr] at hbyte
  generalize m.startMirror im q l p flags = u at *
  have hu : u.lane p = m.lane p := congrArg (·.lane p) hoff
  have hubuf : u.stateBuf l = m.stateBuf l := congrArg (·.stateBuf l) hoff
  have huregs : u.regs = m.regs := congrArg (·.regs) hoff
  rw [catchUp_joined u ((congrArg (·.catching) hoff : u.catching = m.catching).trans hcatch')]
  beta_reduce
  rw [lane_drivePins, mirrors_drivePins, stateBuf_drivePins, State.drivePins_regs, hu, hlane]
  refine ⟨rfl, rfl, rfl, by rw [hlength, hmirrors], huregs.trans hregs, fun a ha => ?_, fun hsusp => hubuf.trans (hbuf hsusp)⟩
  rw [State.byte_drivePins, hbyte a ha, byte_of_mem hmem]

/-- The state in which the header of mirror `m` stands at `a`, its slot the newest and the mirrors after it left (R174). -/
def headed (s : State) (l slot a : Nat) (m : MirrorRun) (rest : List MirrorRun) : State :=
  (((s.putMirror a m.header).setMirrors l rest).put (BSQ_MIRROR_NEWEST l) (slot + 1)).onEng fun e =>
    { e with mirrorAt := Sparse.set (fun _ => 0) e.mirrorAt (2 * l + slot) (m.block + 1) }

theorem mirrors_headed (s : State) (l slot a : Nat) (m : MirrorRun) (rest : List MirrorRun) : (headed s l slot a m rest).mirrors l = rest := by
  unfold headed
  rw [mirrors_onEng, mirrors_put, mirrors_setMirrors_same]
  rfl

theorem newest_headed (s : State) (l slot a : Nat) (m : MirrorRun) (rest : List MirrorRun) (h : slot < 2) :
    (headed s l slot a m rest).get (BSQ_MIRROR_NEWEST l) = slot + 1 := by
  rw [headed, get_onEng, State.get_put_eq _ _ _ (by simp only; omega) (by simp only; omega)]

theorem mem_headed (s : State) (l slot a : Nat) (m : MirrorRun) (rest : List MirrorRun) :
    (headed s l slot a m rest).mem = (s.putMirror a m.header).mem := by
  rw [headed, mem_onEng, mem_of_offRegs (offRegs_put _ _ _), mem_setMirrors]

theorem triads_headed (s : State) (l slot a : Nat) (m : MirrorRun) (rest : List MirrorRun) : (headed s l slot a m rest).triads = s.triads := by
  have heng : ∀ (u : State) (f : Engine → Engine), (u.onEng f).triads = u.triads := fun _ _ => rfl
  have hput : ∀ (u : State) (f : Fld) (v : Nat), (u.put f v).triads = u.triads := fun _ _ _ => rfl
  have hset : ∀ u : State, (u.setMirrors l rest).triads = u.triads := fun _ => rfl
  have hoff := offMirror_putMirror s a m.header
  rw [headed, heng, hput, hset]
  generalize s.putMirror a m.header = u at *
  exact congrArg (·.triads) hoff

theorem bytes_of_mem {s u : State} (h : u.mem = s.mem) (a n : Nat) : u.bytes a n = s.bytes a n :=
  List.map_congr_left fun i _ => byte_of_mem h (a + i)

/-- A mirror ends with its header, in the slot that did not hold the newest (R174). -/
theorem mirror_ends (s : State) (l : Fin 16) (im : Image) (q : Nat) (m : MirrorRun) (rest : List MirrorRun) (hrun : s.eng.running = some im)
    (hpart : im.partOn l = some q) (hmirrors : s.mirrors l = m :: rest) (hbegun : m.begun = true) :
    let slot := if s.get (BSQ_MIRROR_NEWEST l) = 1 then 1 else 0
    let a := s.mirrorAddr l slot (im.slotLen q)
    (∀ w ∈ wordsOf a 64, s.busError (8 * w) true = false) → Gives s (.mirrorComplete l) fun u =>
      u.get (BSQ_MIRROR_NEWEST l) = slot + 1 ∧ (u.mirrors l).map (·.block) = rest.map (·.block) ∧ u.triads = s.triads ∧
      (rest = [] → u.bytes a m.header.length = m.header ∧ ∀ x, x < a ∨ a + m.header.length ≤ x → u.byte x = s.byte x) := by
  intro slot a hbus
  have hexec : exec (.mirrorComplete l) s = .next (s.mirrorDone im q l).drivePins := by
    rw [exec_mirrorComplete, execMirrorComplete, hrun]
    simp only [Option.bind_some, hpart, Option.map_some, done_eq]
  have hfails : s.depotFails a 64 = false := List.any_eq_false.mpr fun w hw => by rw [hbus w hw]; exact Bool.false_ne_true
  refine ⟨_, hexec, ?_⟩
  have hdone : s.mirrorDone im q l = (headed s l slot a m rest).mirrorBegins im q l := by
    unfold State.mirrorDone
    rw [hmirrors]
    dsimp only
    rw [hbegun, if_neg (by decide), show s.freeSlot l = slot from rfl, show s.mirrorAddr l slot (im.slotLen q) = a from rfl, hfails,
      if_neg (by decide)]
    rfl
  rw [hdone]
  have hslot : slot < 2 := by simp only [slot]; split_ifs <;> decide
  have hnewest := newest_headed s l slot a m rest hslot
  have hrest := mirrors_headed s l slot a m rest
  have htriads := triads_headed s l slot a m rest
  have hmem := mem_headed s l slot a m rest
  generalize headed s l slot a m rest = v at *
  have hoff := offMirror_mirrorBegins v im q l
  have hblocks := blocks_mirrorBegins v im q l
  have hnone := mirrorBegins_none v im q l
  generalize v.mirrorBegins im q l = u at *
  have hget : u.get (BSQ_MIRROR_NEWEST l) = v.get (BSQ_MIRROR_NEWEST l) := congrArg (·.get (BSQ_MIRROR_NEWEST l)) hoff
  have hutriads : u.triads = v.triads := congrArg (·.triads) hoff
  beta_reduce
  rw [State.get_drivePins, mirrors_drivePins, State.drivePins_triads, hget, hnewest, hblocks, hrest]
  refine ⟨rfl, rfl, hutriads.trans htriads, fun hlast => ?_⟩
  have humem : u.drivePins.mem = (s.putMirror a m.header).mem := by rw [State.drivePins_mem, hnone (hrest.trans hlast), hmem]
  refine ⟨by rw [bytes_of_mem humem, bytes_putMirror_same], fun x hx => ?_⟩
  rw [byte_of_mem humem, byte_putMirror_outside _ _ _ _ hx]

/-! ## Shadows are committed (R30, R175) -/

theorem sov_drive (s : State) (n : Nat) (r : Raise) : (s.drive n r).sov = s.sov := by rw [State.drive_fcu]

theorem sov_put (s : State) (f : Fld) (v : Nat) : (s.put f v).sov = s.sov := rfl

/-- The commit channel of a lane is a row of the FCU's table. -/
theorem commitChannel : ∀ p : Fin 16, (fcRow (36 + 8 * p.val)).isSome = true := by decide

theorem selectShadow_commits (s : State) (im : Image) (h y : Nat) (hrun : s.eng.running = some im) (hshadow : (s.lane h).shadow = some y)
    (hfailed : (s.lane h).phase = .failed) (hopen : (s.lane h).committed = false) (hclean : (s.lane y).clean = true) :
    s.selectShadow h = (s.publishShadow y).commitShadow im (s.lane h).part (s.lane h).logical h y := by
  have hpub := offPublished_publishShadow s y
  unfold State.selectShadow
  rw [hrun, hshadow]
  dsimp only
  rw [if_neg (not_not.mpr hfailed)]
  generalize s.publishShadow y = u at *
  have hlane : ∀ p, u.lane p = s.lane p := fun p => congrArg (·.lane p) hpub
  rw [hlane, hlane, hclean, hopen]
  exact if_pos rfl

/-- The clean shadow of a lane that failed is committed and counted, its channel raised (R30, R175). -/
theorem shadow_commits (s : State) (k : Fin 2) (im : Image) (h : Nat) (hhome : (s.layby (16 + k)).home = some h) (hh : h < 16)
    (hsh : s.isShadow (16 + k) = true) (hrun : s.eng.running = some im) (hcatch : s.catching = false) (hshadow : (s.lane h).shadow = some (16 + k.val))
    (hfailed : (s.lane h).phase = .failed) (hopen : (s.lane h).committed = false) (hclean : (s.lane (16 + k)).clean = true) :
    Gives s (.shadowComplete k) fun u => (u.lane h).committed = true ∧ (u.lane h).via = some (16 + k.val) ∧
      (u.lane h).outs = (s.lane (16 + k)).outs ∧ (u.pair (36 + 8 * h)).todo.length = (s.pair (36 + 8 * h)).todo.length + 1 ∧
      u.get (BSQ_LANE_REC_SHADOW_COMMITS h) = satCount (BSQ_LANE_REC_SHADOW_COMMITS h).width (s.get (BSQ_LANE_REC_SHADOW_COMMITS h) + 1) := by
  have hexec : exec (.shadowComplete k) s = .next (s.selectShadow h).catchUp.drivePins := by
    rw [exec_shadowComplete, execShadowComplete, hhome]
    exact occurs_of _ _ _ hsh
  refine ⟨_, hexec, ?_⟩
  rw [selectShadow_commits s im h _ hrun hshadow hfailed hopen hclean, State.commitShadow]
  generalize 16 + k.val = y at *
  have hpub := (offPublished_publishShadow (s.publishShadow y) y).trans (offPublished_publishShadow s y)
  generalize (s.publishShadow y).publishShadow y = v at *
  have hvlane : v.lane y = s.lane y := congrArg (·.lane y) hpub
  have hoff := offMirror_commitFrom (s := v) im (s.lane h).part (s.lane h).logical h y
  have hcommit := offCommit_taken v (s.lane h).logical h y
  have hlane := lane_taken v (s.lane h).logical h y
  generalize v.commitFrom im (s.lane h).part (s.lane h).logical h y = w at *
  generalize taken v (s.lane h).logical h y = x at *
  have hwlane : w.lane h = x.lane h := congrArg (·.lane h) hoff
  have hget : ∀ f, w.get f = s.get f := fun f =>
    (congrArg (·.get f) hoff : w.get f = x.get f).trans ((congrArg (·.get f) hcommit : x.get f = v.get f).trans (congrArg (·.get f) hpub))
  have hpair : ∀ n, w.pair n = s.pair n := fun n =>
    (congrArg (·.pair n) hoff : w.pair n = x.pair n).trans ((congrArg (·.pair n) hcommit : x.pair n = v.pair n).trans (congrArg (·.pair n) hpub))
  have hsov : w.sov = s.sov :=
    (congrArg (·.sov) hoff : w.sov = x.sov).trans ((congrArg (·.sov) hcommit : x.sov = v.sov).trans (congrArg (·.sov) hpub))
  generalize w.shadowCause h y = r
  have hrole : ((w.bump (BSQ_LANE_REC_SHADOW_COMMITS h)).drive (36 + 8 * h) r).get SOV_STATUS_ROLE = s.get SOV_STATUS_ROLE := by
    rw [State.get, reg_drive, ← State.get, State.bump,
      State.get_put_other _ _ _ _ (by show BSQ_LANE_REC h ≠ SOV_STATUS; unfold BSQ_LANE_REC SOV_STATUS; omega), hget]
  have hsov' : ((w.bump (BSQ_LANE_REC_SHADOW_COMMITS h)).drive (36 + 8 * h) r).sov = s.sov := by
    rw [sov_drive, State.bump, sov_put, hsov]
  rw [catchUp_joined _ ((catching_of hrole hsov').trans hcatch), lane_drivePins, pair_drivePins, State.get_drivePins, lane_drive, State.pair_drive _ _ _ (commitChannel ⟨h, hh⟩), State.get, reg_drive, ← State.get,
    get_bump _ _ (by simp only; omega), hget, List.length_append, List.length_singleton, State.bump, pair_put, hpair, lane_put, hwlane, hlane, hvlane]
  exact ⟨rfl, rfl, rfl, rfl, rfl⟩

/-! ## The Layby (R160, R167, R169) -/

@[simp] theorem layby_drivePins (s : State) (y : Nat) : s.drivePins.layby y = s.layby y := rfl

theorem offEntry_enterTask_any (s : State) (p k : Nat) (restore : Bool) : offEntry (s.enterTask p k restore) = offEntry s := by
  cases htask : s.taskOf p k with
  | some tk =>
    obtain ⟨im, pt, hrun, hpart⟩ := taskOf_some htask
    exact offEntry_enterTask hrun hpart htask
  | none =>
    unfold State.enterTask
    split
    · next hsome => cases htask.symm.trans hsome
    · rfl

theorem offPower_of_offTriads {s u : State} (h : offTriads u = offTriads s) : offPower u = offPower s := by
  show offPower (offTriads u) = offPower (offTriads s)
  rw [h]

theorem offPower_awake (s : State) (n : Nat) : offPower (awake s n) = offPower s := by
  have hwake : ∀ (u : State) (l : List Nat → List Nat), offPower (u.onEng fun e => { e with waking := l e.waking }) = offPower u := fun _ _ => rfl
  rw [awake, hwake, offPower_of_offRegs (offRegs_pulse _ _), offPower_setBanks, offPower_of_offRegs (offRegs_put _ _ _)]

/-- A cluster's wake changes registers, memory, triads and the list of clusters that wake. -/
theorem offPower_wakeDone (s : State) (n : Nat) : offPower (s.wakeDone n) = offPower s := by
  obtain ⟨v, hv, hwake⟩ := wakeDone_eq s n
  rw [hwake, ← offPower_awake s n, ← offPower_of_offTriads hv]
  split_ifs
  · rw [offPower_of_offRegs (offRegs_pulse _ _), offPower_of_offRegs (offRegs_put _ _ _)]
  · rfl

theorem offPower_runLayby (s : State) : offPower s.runLayby = offPower s := by
  unfold State.runLayby
  split_ifs
  · rfl
  · exact offPower_wakeDone s 8

theorem offEntry_copyLane (s : State) (p y : Nat) : offEntry (s.copyLane p y) = offEntry s := by
  unfold State.copyLane
  exact foldl_keeps offEntry (fun (s : State) k => s.put (WMK_EXPECT_EXPECT y k) (s.get (WMK_EXPECT_EXPECT p k)))
    (fun v k => offEntry_of_offRegs (offRegs_put v _ _)) _ _

/-- The slip road is open and the home lane's rules stand in Layby lane `y` (R167 step 4). -/
def opened (s : State) (y h : Nat) : State :=
  (s.runLayby.setLayby y { s.runLayby.layby y with home := some h, road := true, divert := [] }).copyLane h y

/-- Two states have the same lane `y`, the same tasks on it and the same exchange points published. -/
def SameRun (u s : State) (y : Nat) : Prop :=
  u.lane y = s.lane y ∧ (∀ k, u.taskOf y k = s.taskOf y k) ∧ ∀ tk, u.mayStart tk = s.mayStart tk

theorem sameRun_of {s u : State} {y : Nat} (hlane : u.lane y = s.lane y) (hrun : u.eng.running = s.eng.running)
    (hpub : u.eng.published = s.eng.published) : SameRun u s y := by
  refine ⟨hlane, fun k => ?_, fun tk => ?_⟩
  · simp only [State.taskOf, State.partOf, hlane, hrun]
  · simp only [State.mayStart, hpub]

theorem SameRun.trans {s u v : State} {y : Nat} (h : SameRun v u y) (g : SameRun u s y) : SameRun v s y := by
  obtain ⟨hlane, htask, hstart⟩ := h
  obtain ⟨glane, gtask, gstart⟩ := g
  exact ⟨hlane.trans glane, fun k => (htask k).trans (gtask k), fun tk => (hstart tk).trans (gstart tk)⟩

theorem sameRun_runLayby (s : State) (y : Nat) : SameRun s.runLayby s y := by
  have hoff := offPower_runLayby s
  generalize s.runLayby = u at *
  exact sameRun_of (congrArg (·.lane y) hoff) (congrArg (·.eng.running) hoff) (congrArg (·.eng.published) hoff)

theorem sameRun_setLayby (s : State) (y : Nat) (x : LaybyLane) : SameRun (s.setLayby y x) s y := sameRun_of rfl rfl rfl

theorem sameRun_of_offEntry {s u : State} (h : offEntry u = offEntry s) (y : Nat) : SameRun u s y :=
  sameRun_of (congrArg (·.lane y) h) (congrArg (·.eng.running) h) (congrArg (·.eng.published) h)

theorem layby_of_offEntry {s u : State} (h : offEntry u = offEntry s) (y : Nat) : u.layby y = s.layby y := congrArg (·.layby y) h

theorem sameRun_opened (s : State) (y h : Nat) : SameRun (opened s y h) s y :=
  (sameRun_of_offEntry (offEntry_copyLane _ h y) y).trans ((sameRun_setLayby _ y _).trans (sameRun_runLayby s y))

theorem layby_opened (s : State) (y h : Nat) : (opened s y h).layby y = { s.runLayby.layby y with home := some h, road := true, divert := [] } := by
  rw [opened, layby_of_offEntry (offEntry_copyLane _ h y), layby_setLayby_same]

/-- A Layby lane that enters a task runs, and its own record is as it was. -/
theorem entered_phase (s : State) (y k : Nat) :
    let u := ((s.setPhase y .running).put (BSQ_LANE_STAT_TASK y) k).enterTask y k true
    u.layby y = s.layby y ∧ (u.lane y).phase = .running := by
  have hentry := offEntry_enterTask_any ((s.setPhase y .running).put (BSQ_LANE_STAT_TASK y) k) y k true
  have hlane := congrArg LaneRun.phase ((lane_put (s.setPhase y .running) (BSQ_LANE_STAT_TASK y) k y).trans (lane_setPhase_same s y .running))
  have hlayby := layby_of_offLanes ((offLanes_put (s.setPhase y .running) (BSQ_LANE_STAT_TASK y) k).trans (offLanes_setPhase s y .running)) y
  generalize (s.setPhase y .running).put (BSQ_LANE_STAT_TASK y) k = m at *
  generalize m.enterTask y k true = u at *
  have hulane : u.lane y = m.lane y := congrArg (·.lane y) hentry
  have hulayby : u.layby y = m.layby y := congrArg (·.layby y) hentry
  exact ⟨hulayby.trans hlayby, hulane ▸ hlane⟩

/-- Layby lane `y` enters the task at its replay point, or waits for what that task waits on (R167 step 5). -/
def laybyStarts (s : State) (y : Nat) : State :=
  match s.taskOf y (s.lane y).task with
  | some tk => if s.mayStart tk then ((s.setPhase y .running).put (BSQ_LANE_STAT_TASK y) (s.lane y).task).enterTask y (s.lane y).task true
               else s.setPhase y .waiting
  | none => s

theorem laybyEnters_eq (s : State) (y h : Nat) : s.laybyEnters y h = laybyStarts (opened s y h) y := rfl

theorem laybyStarts_serves (s : State) (y : Nat) : (laybyStarts s y).layby y = s.layby y ∧
    ∀ tk, s.taskOf y (s.lane y).task = some tk → ((laybyStarts s y).lane y).phase = (if s.mayStart tk then .running else .waiting) := by
  unfold laybyStarts
  cases htask : s.taskOf y (s.lane y).task with
  | none => exact ⟨rfl, fun tk h => nomatch h⟩
  | some tk =>
    dsimp only
    by_cases hstart : s.mayStart tk = true
    · obtain ⟨hlayby, hphase⟩ := entered_phase s y (s.lane y).task
      rw [if_pos hstart]
      exact ⟨hlayby, fun tk' h => by rw [← Option.some.inj h, if_pos hstart, hphase]⟩
    · rw [if_neg hstart]
      exact ⟨layby_of_offLanes (offLanes_setPhase s y .waiting) y, fun tk' h => by rw [← Option.some.inj h, if_neg hstart, lane_setPhase_same]⟩

theorem laybyEnters_serves (s : State) (y h : Nat) : ((s.laybyEnters y h).layby y).home = some h ∧ ((s.laybyEnters y h).layby y).road = true ∧
    ∀ tk, s.taskOf y (s.lane y).task = some tk → ((s.laybyEnters y h).lane y).phase = (if s.mayStart tk then .running else .waiting) := by
  obtain ⟨hlane, htask, hstart⟩ := sameRun_opened s y h
  obtain ⟨hlayby, hphase⟩ := laybyStarts_serves (opened s y h) y
  rw [hlane] at hphase
  rw [laybyEnters_eq, hlayby, layby_opened]
  exact ⟨rfl, rfl, fun tk hsome => by rw [hphase tk ((htask _).trans hsome), hstart]⟩

/-- A prepared Layby lane serves its home lane through the slip road, and enters its task or waits (R167). -/
theorem layby_serves (s : State) (k : Fin 2) (h : Nat) (hhome : (s.layby (16 + k)).home = some h) (hphase : (s.lane (16 + k)).phase = .preparing) :
    Gives s (.laybyReady k) fun u => (u.layby (16 + k)).home = some h ∧ (u.layby (16 + k)).road = true ∧
      ∀ tk, s.taskOf (16 + k) (s.lane (16 + k)).task = some tk →
        (u.lane (16 + k)).phase = (if s.mayStart tk then .running else .waiting) := by
  have hexec : exec (.laybyReady k) s = .next (s.laybyEnters (16 + k) h).drivePins := by
    rw [exec_laybyReady, execLaybyReady, hhome]
    exact occurs_of _ _ _ (decide_eq_true hphase)
  refine ⟨_, hexec, ?_⟩
  beta_reduce
  rw [layby_drivePins, lane_drivePins]
  exact laybyEnters_serves s (16 + k) h

/-! ## Settling, tests and staging (R65, R160, R169) -/

theorem laybySettled_addr (y : Nat) : (laybySettled y).addr = BSQ_LAYBY := by
  unfold laybySettled; split_ifs <;> rfl

theorem settle_ends (s : State) (k : Fin 2) (h : Nat) (hhome : (s.layby (16 + k)).home = some h) (huse : s.get (laybyUse (16 + k)) = 3)
    (hset : s.get (laybySettled (16 + k)) = 0) (hroad : (s.layby (16 + k)).road = true) (pt : Partition) (s1 : State)
    (hpart : s.partOf (16 + k) = some pt) (hdivert : s.divertAll (16 + k) (s.codeAt (16 + k)) ((pt.footprint + 63) / 64) = (s1, true)) :
    Gives s (.settleComplete k) fun u => (u.layby (16 + k)).road = false ∧ u.get (laybySettled (16 + k)) = 1 := by
  have hexec : exec (.settleComplete k) s = .next (s.settleDone (16 + k) h).drivePins := by
    rw [exec_settleComplete]
    simp only [execSettleComplete, hhome]
    exact occurs_of _ _ _ (by rw [huse, hset, hroad]; rfl)
  refine ⟨_, hexec, ?_⟩
  generalize 16 + k.val = y at *
  generalize hm : (s1.setLayby y { s1.layby y with road := false }).put (laybySettled y) 1 = m
  have hlayby : (m.layby y).road = false := by
    have hput : m.layby y = (s1.setLayby y { s1.layby y with road := false }).layby y := by rw [← hm]; rfl
    rw [hput, layby_setLayby_same]
  have hsettled : m.get (laybySettled y) = 1 := by
    rw [← hm]
    exact State.get_put_eq _ _ _ (by unfold laybySettled; split_ifs <;> decide) (by unfold laybySettled; split_ifs <;> decide)
  have hdone : s.settleDone y h = if decide (h / 2 < 8) && m.eng.outOfService.contains (2 * (h / 2)) && m.eng.outOfService.contains (2 * (h / 2) + 1)
      then m.gateCluster (h / 2) else m := by
    simp only [State.settleDone, hpart, hdivert, Bool.not_true, Bool.false_eq_true, if_false, hm]
  rw [layby_drivePins, State.get_drivePins, hdone]
  split_ifs with hgate
  · have hc : h / 2 < 8 := by
      rw [Bool.and_eq_true, Bool.and_eq_true, decide_eq_true_eq] at hgate
      obtain ⟨⟨hcluster, -⟩, -⟩ := hgate
      exact hcluster
    have hpower := offPower_gateCluster m (h / 2)
    have hreg := reg_gateCluster m (h / 2) BSQ_LAYBY (by omega) (by
      simp only [clusterReg, Bool.or_eq_false_iff, beq_eq_false_iff_ne, ne_eq]
      unfold BSQ_LAYBY PWR_CLUSTER SPM_PWR_LO SPM_PWR_HI BSQ_LANE_STAT
      omega)
    generalize m.gateCluster (h / 2) = u at *
    have hulayby : u.layby y = m.layby y := congrArg (·.layby y) hpower
    rw [hulayby, State.get, laybySettled_addr, hreg, ← laybySettled_addr y, ← State.get]
    exact ⟨hlayby, hsettled⟩
  · exact ⟨hlayby, hsettled⟩

theorem test_passes (s : State) (p : Fin 18) (htesting : p.val ∈ s.eng.testing) :
    Gives s (.laneTestComplete p true) fun u =>
      u = { s with eng := { s.eng with testing := s.eng.testing.filter (· ≠ p.val) }, pins := u.pins } :=
  ⟨_, (exec_laneTestComplete p true s).trans (occurs_of _ _ _ (by rw [List.contains_iff_mem.mpr htesting]; rfl)), rfl⟩

theorem eng_stageLane (s : State) (im : Image) (y key q : Nat) (p : Partition) : (s.stageLane im y key q p).eng = s.eng := by
  have hset : ∀ (u : State) (a : Nat) (bs : List Byte), (u.setBytes a bs).eng = u.eng := fun u a bs => by rw [setBytes_eq]
  unfold State.stageLane
  rw [hset, hset]
  exact (foldl_keeps State.eng _ (fun u x => hset u _ _) _ _).trans (hset _ _ _)

theorem eng_stageImage (s : State) (im : Image) : (s.stageImage im).eng = s.eng := by
  refine foldl_keeps State.eng _ (fun u x => ?_) _ s
  split
  · exact eng_stageLane _ _ _ _ _ _
  · rfl

/-- A staging that is complete is STEP 3, the switch held where the host holds it (R65, R67). -/
theorem staging_completes (s : State) (w : Switch) (hsw : s.eng.switch = some w) (hmay : s.mayStage = true) :
    Gives s .stagingComplete fun u => u.get BSQ_SWITCH_STATE_STEP = 3 ∧
      u.eng = { s.eng with switch := some { w with staged := true, held := s.flag BSQ_CTRL_SWITCH_HOLD } } := by
  refine ⟨_, (exec_stagingComplete s).trans (occurs_of _ _ _ hmay), ?_⟩
  beta_reduce
  rw [State.get_drivePins, get_setStep _ _ (by decide), State.drivePins_eng, eng_setStep]
  refine ⟨rfl, ?_⟩
  generalize s.flag BSQ_CTRL_SWITCH_HOLD = held
  split
  · next im _ =>
    have heng := eng_stageImage s im
    generalize s.stageImage im = u at *
    simp only [State.onEng, heng, hsw, Option.map_some]
  · simp only [State.onEng, hsw, Option.map_some]

/-- Settles O35: commits, mirrors, the Layby lanes, shadows, settling, lane tests and staging, clause by clause. -/
theorem commitsMirrorsAndLayby : Obligations.CommitsMirrorsAndLayby := by
  refine fun s p l k im q h => ⟨gate_commits s p im, ?_, layby_serves s k h, ?_, ?_, test_passes s p, staging_completes s⟩
  · exact fun m rest hrun hpart hmirrors hbegun => mirror_ends s l im q m rest hrun hpart hmirrors hbegun
  · exact fun hhome hh hsh hrun hcatch hshadow hfailed hopen hclean =>
      shadow_commits s k im h hhome hh hsh hrun hcatch hshadow hfailed hopen hclean
  · exact fun hhome huse hset hroad pt s1 hpart hdivert => settle_ends s k h hhome huse hset hroad pt s1 hpart hdivert

end Sys2Proof.Proofs

namespace Sys2Proof.Proofs
open Sys2Proof.Machine Sys2Proof.Safety

/-! ## The words of the instructions (R75 to R77, R132 to R136) -/

/-! ### The fields of a word -/

theorem bitsAt_lt (w lo n : Nat) : bitsAt w lo n < 2 ^ n := Nat.mod_lt _ (by positivity)

theorem toNat_bitsAt (w lo n : Nat) : (BitVec.ofNat n (bitsAt w lo n)).toNat = bitsAt w lo n := by
  rw [BitVec.toNat_ofNat, Nat.mod_eq_of_lt (bitsAt_lt w lo n)]

theorem toNat_regAt (w lo : Nat) : (regAt w lo).toNat = bitsAt w lo 5 := toNat_bitsAt w lo 5

/-- A register field of a word is the register whose number it holds. -/
theorem regAt_eq {w lo : Nat} {r : Reg} (h : w / 2 ^ lo % 2 ^ 5 = r.toNat) : regAt w lo = r :=
  BitVec.eq_of_toNat_eq (by rw [toNat_regAt, bitsAt, h])

theorem ofNat_bits_eq {n v : Nat} {x : BitVec n} (h : v = x.toNat) : BitVec.ofNat n v = x := by
  rw [h, BitVec.ofNat_toNat, BitVec.setWidth_eq]

/-- What the R format puts in each field, and nothing above bit 31. -/
theorem fields_wordR {m f : Nat} (rd rs1 rs2 : Reg) (hm : m < 64) (hf : f < 64) :
    wordR m f rd rs1 rs2 < 2 ^ 32 ∧ bitsAt (wordR m f rd rs1 rs2) 26 6 = m ∧ regAt (wordR m f rd rs1 rs2) 21 = rd ∧
      regAt (wordR m f rd rs1 rs2) 16 = rs1 ∧ bitsAt (wordR m f rd rs1 rs2) 11 5 = rs2.toNat ∧ bitsAt (wordR m f rd rs1 rs2) 6 5 = 0 ∧
      bitsAt (wordR m f rd rs1 rs2) 0 6 = f := by
  have h1 := rd.isLt
  have h2 := rs1.isLt
  have h3 := rs2.isLt
  unfold bitsAt wordR
  refine ⟨?_, ?_, regAt_eq ?_, regAt_eq ?_, ?_, ?_, ?_⟩ <;> omega

/-- What the formats of two registers and 16 bits put in each field. -/
theorem fields_wordI {m : Nat} (a b : Reg) (imm : Imm16) (hm : m < 64) :
    wordI m a b imm < 2 ^ 32 ∧ bitsAt (wordI m a b imm) 26 6 = m ∧ regAt (wordI m a b imm) 21 = a ∧
      regAt (wordI m a b imm) 16 = b ∧ bitsAt (wordI m a b imm) 0 16 = imm.toNat := by
  have h1 := a.isLt
  have h2 := b.isLt
  have h3 := imm.isLt
  unfold bitsAt wordI
  refine ⟨?_, ?_, regAt_eq ?_, regAt_eq ?_, ?_⟩ <;> omega

/-- What the C format puts in each field. -/
theorem fields_wordC {sub : Nat} (g : Reg) (n : N12) (hs : sub < 32) :
    wordC sub g n < 2 ^ 32 ∧ bitsAt (wordC sub g n) 26 6 = 0x2A ∧ regAt (wordC sub g n) 21 = g ∧ bitsAt (wordC sub g n) 16 5 = sub ∧
      BitVec.ofNat 12 (bitsAt (wordC sub g n) 4 12) = n ∧ bitsAt (wordC sub g n) 0 4 = 0 := by
  have h1 := g.isLt
  have h2 := n.isLt
  unfold bitsAt wordC
  refine ⟨?_, ?_, regAt_eq ?_, ?_, ofNat_bits_eq ?_, ?_⟩ <;> omega

theorem flag_mul (b : Bool) : (if b then 2 ^ 7 else 0) = 2 ^ 7 * b.toNat := by cases b <;> rfl

/-- What the VR format puts in each field. -/
theorem fields_wordV {m f : Nat} (o : VR) (hm : m < 64) (hf : f < 32) :
    wordV m f o < 2 ^ 32 ∧ bitsAt (wordV m f o) 26 6 = m ∧ vrAt (wordV m f o) = o ∧ bitsAt (wordV m f o) 0 5 = f := by
  obtain ⟨vd, vs1, vs2, pg, z, ty⟩ := o
  have h1 := vd.isLt
  have h2 := vs1.isLt
  have h3 := vs2.isLt
  have h4 := pg.isLt
  have h5 := ty.isLt
  have h6 := z.toNat_lt
  have hz : bitsAt (wordV m f ⟨vd, vs1, vs2, pg, z, ty⟩) 7 1 = z.toNat := by simp only [bitsAt, wordV, flag_mul]; omega
  simp only [vrAt, VR.mk.injEq, hz]
  unfold bitsAt wordV
  simp only [flag_mul]
  refine ⟨?_, ?_, ⟨regAt_eq ?_, regAt_eq ?_, regAt_eq ?_, ofNat_bits_eq ?_, ?_, ofNat_bits_eq ?_⟩, ?_⟩
  case refine_7 => cases z <;> rfl
  all_goals omega

/-- What the VM format puts in each field. -/
theorem fields_wordM {m mode : Nat} (o : VM) (hm : m < 64) (hmode : mode < 8) :
    wordM m mode o < 2 ^ 32 ∧ bitsAt (wordM m mode o) 26 6 = m ∧ vmAt (wordM m mode o) = o ∧ bitsAt (wordM m mode o) 0 3 = mode := by
  obtain ⟨vt, gb, ix, pg, ff, ty, sc⟩ := o
  have h1 := vt.isLt
  have h2 := gb.isLt
  have h3 := ix.isLt
  have h4 := pg.isLt
  have h5 := ty.isLt
  have h6 := sc.isLt
  have h7 := ff.toNat_lt
  have hff : bitsAt (wordM m mode ⟨vt, gb, ix, pg, ff, ty, sc⟩) 7 1 = ff.toNat := by simp only [bitsAt, wordM, flag_mul]; omega
  simp only [vmAt, VM.mk.injEq, hff]
  unfold bitsAt wordM
  simp only [flag_mul]
  refine ⟨?_, ?_, ⟨regAt_eq ?_, regAt_eq ?_, regAt_eq ?_, ofNat_bits_eq ?_, ?_, ofNat_bits_eq ?_, ofNat_bits_eq ?_⟩, ?_⟩
  case refine_7 => cases ff <;> rfl
  all_goals omega
/-! ### A word out of its fields -/

/-- What lies from bit `lo` on: a field of `n` bits, and what lies above it. -/
theorem div_eq_field (w lo n : Nat) : w / 2 ^ lo = bitsAt w lo n + 2 ^ n * (w / 2 ^ (lo + n)) := by
  rw [bitsAt, pow_add, ← Nat.div_div_eq_div_mul, Nat.mod_add_div]

theorem toNat_flagAt (w lo : Nat) : (decide (bitsAt w lo 1 = 1)).toNat = bitsAt w lo 1 := by
  have h := bitsAt_lt w lo 1
  interval_cases bitsAt w lo 1 <;> rfl

theorem wordR_of_fields {w : Nat} (hw : w < 2 ^ 32) (h : bitsAt w 6 5 = 0) :
    wordR (bitsAt w 26 6) (bitsAt w 0 6) (regAt w 21) (regAt w 16) (regAt w 11) = w := by
  have h0 := div_eq_field w 0 6
  have h1 := div_eq_field w 6 5
  have h2 := div_eq_field w 11 5
  have h3 := div_eq_field w 16 5
  have h4 := div_eq_field w 21 5
  have h5 := div_eq_field w 26 6
  simp only [wordR, toNat_regAt]
  omega

theorem wordI_of_fields {w : Nat} (hw : w < 2 ^ 32) :
    wordI (bitsAt w 26 6) (regAt w 21) (regAt w 16) (BitVec.ofNat 16 (bitsAt w 0 16)) = w := by
  have h0 := div_eq_field w 0 16
  have h1 := div_eq_field w 16 5
  have h2 := div_eq_field w 21 5
  have h3 := div_eq_field w 26 6
  simp only [wordI, toNat_regAt, toNat_bitsAt]
  omega

theorem wordC_of_fields {w : Nat} (hw : w < 2 ^ 32) (hm : bitsAt w 26 6 = 0x2A) (h : bitsAt w 0 4 = 0) :
    wordC (bitsAt w 16 5) (regAt w 21) (BitVec.ofNat 12 (bitsAt w 4 12)) = w := by
  have h0 := div_eq_field w 0 4
  have h1 := div_eq_field w 4 12
  have h2 := div_eq_field w 16 5
  have h3 := div_eq_field w 21 5
  have h4 := div_eq_field w 26 6
  simp only [wordC, toNat_regAt, toNat_bitsAt]
  omega

theorem wordV_of_fields {w : Nat} (hw : w < 2 ^ 32) : wordV (bitsAt w 26 6) (bitsAt w 0 5) (vrAt w) = w := by
  have h0 := div_eq_field w 0 5
  have h1 := div_eq_field w 5 2
  have h2 := div_eq_field w 7 1
  have h3 := div_eq_field w 8 3
  have h4 := div_eq_field w 11 5
  have h5 := div_eq_field w 16 5
  have h6 := div_eq_field w 21 5
  have h7 := div_eq_field w 26 6
  simp only [wordV, flag_mul]
  simp only [vrAt, toNat_regAt, toNat_bitsAt, toNat_flagAt]
  omega

theorem wordM_of_fields {w : Nat} (hw : w < 2 ^ 32) : wordM (bitsAt w 26 6) (bitsAt w 0 3) (vmAt w) = w := by
  have h0 := div_eq_field w 0 3
  have h1 := div_eq_field w 3 2
  have h2 := div_eq_field w 5 2
  have h3 := div_eq_field w 7 1
  have h4 := div_eq_field w 8 3
  have h5 := div_eq_field w 11 5
  have h6 := div_eq_field w 16 5
  have h7 := div_eq_field w 21 5
  have h8 := div_eq_field w 26 6
  simp only [wordM, flag_mul]
  simp only [vmAt, toNat_regAt, toNat_bitsAt, toNat_flagAt]
  omega

/-! ### The rows of the tables and their words -/

/-- Triad `t` may carry instruction `i`, whose word is `w`. -/
def Spells (t : TriadId) (w : Nat) (i : Instr) : Prop := i.wf = true ∧ encodeWord i = some (t, w)

theorem tripleRows_spell : ∀ r ∈ tripleRows, ∀ t a b c, Spells t (wordR r.1 r.2.1 a b c) (r.2.2 t a b c) := by
  intro r hr
  fin_cases hr <;> exact fun _ _ _ _ => ⟨rfl, rfl⟩

theorem pairRows_spell : ∀ r ∈ pairRows, ∀ t a b, Spells t (wordR 0x02 r.1 a b 0) (r.2 t a b) := by
  intro r hr
  fin_cases hr <;> exact fun _ _ _ => ⟨rfl, rfl⟩

theorem immRows_spell : ∀ r ∈ immRows, ∀ t a b i, Spells t (wordI r.1 a b i) (r.2 t a b i) := by
  intro r hr
  fin_cases hr <;> exact fun _ _ _ _ => ⟨rfl, rfl⟩

theorem shiftRows_spell : ∀ r ∈ shiftRows, ∀ t a b i,
    Spells t (wordI 0x0A a b (BitVec.ofNat 16 (64 * r.1 + i.toNat))) (r.2 t a b i) := by
  intro r hr
  fin_cases hr <;> exact fun _ _ _ _ => ⟨rfl, rfl⟩

theorem systemRows_spell : ∀ r ∈ systemRows, ∀ t, Spells t (wordC r.1 0 0) (r.2 t) := by
  intro r hr
  fin_cases hr <;> exact fun _ => ⟨rfl, rfl⟩

theorem vrRows_spell : ∀ r ∈ vrRows, ∀ t o, Spells t (wordV r.1 r.2.1 o) (r.2.2 t o) := by
  intro r hr
  fin_cases hr <;> exact fun _ _ => ⟨rfl, rfl⟩

theorem vmRows_spell : ∀ r ∈ vmRows, ∀ t o, Spells t (wordM r.1 r.2.1 o) (r.2.2 t o) := by
  intro r hr
  fin_cases hr <;> exact fun _ _ => ⟨rfl, rfl⟩

/-- A short-vector word is well-formed where its class defines its func. -/
theorem svRows_spell : ∀ r ∈ svRows, ∀ t w, r.2.1 w.func.toNat = true → Spells t (wordV r.1 w.func.toNat w.o) (r.2.2 t w) := by
  intro r hr
  fin_cases hr <;> intro t w hf <;> refine ⟨?_, rfl⟩ <;> simp [Instr.wf] at hf ⊢ <;> omega

/-! ### A word that decodes is that instruction's word -/

/-- The row a search by major and func finds is a row of the table, with that major and func. -/
theorem row_of_find {α : Type} {rows : List (Nat × Nat × α)} {m f : Nat} {r : Nat × Nat × α}
    (h : (rows.find? fun r => r.1 = m && r.2.1 = f) = some r) : r ∈ rows ∧ r.1 = m ∧ r.2.1 = f := by
  have hr := List.find?_some h
  simp only [Bool.and_eq_true, decide_eq_true_eq] at hr
  exact ⟨List.mem_of_find?_eq_some h, hr⟩

/-- The row a search by one number finds is a row of the table, with that number. -/
theorem row_of_find_fst {α : Type} {rows : List (Nat × α)} {m : Nat} {r : Nat × α} (h : (rows.find? fun r => r.1 = m) = some r) :
    r ∈ rows ∧ r.1 = m :=
  ⟨List.mem_of_find?_eq_some h, by simpa using List.find?_some h⟩

theorem spells_of_word {t : TriadId} {v w : Nat} {i : Instr} (hv : v = w) (h : Spells t v i) : Spells t w i := hv ▸ h

theorem spells_of_decodeC {t : TriadId} {w : Nat} {i : Instr} (hw : w < 2 ^ 32) (hm : bitsAt w 26 6 = 0x2A) (h : decodeC t w = some i) :
    Spells t w i := by
  unfold decodeC at h
  dsimp only at h
  split at h
  · cases h
  next hlow =>
  have hword := wordC_of_fields hw hm (not_not.mp hlow)
  split at h
  · next hsub => cases h; rw [hsub] at hword; exact spells_of_word hword ⟨rfl, rfl⟩
  · next hsub => cases h; rw [hsub] at hword; exact spells_of_word hword ⟨rfl, rfl⟩
  · next hsub =>
    split at h <;> cases h
    next hg => rw [hsub, hg] at hword; exact spells_of_word hword ⟨rfl, rfl⟩
  · next hsub =>
    split at h <;> cases h
    next hg => rw [hsub, hg] at hword; exact spells_of_word hword ⟨rfl, rfl⟩
  · split at h
    · next hgn =>
      obtain ⟨r, hfind, rfl⟩ := Option.map_eq_some_iff.mp h
      obtain ⟨hmem, hsub⟩ := row_of_find_fst hfind
      simp only [Bool.and_eq_true, decide_eq_true_eq] at hgn
      rw [hgn.1, hgn.2, ← hsub] at hword
      exact spells_of_word hword (systemRows_spell r hmem t)
    · cases h

theorem spells_of_decodeV {t : TriadId} {w : Nat} {i : Instr} (hw : w < 2 ^ 32) (h : decodeV t w = some i) : Spells t w i := by
  unfold decodeV at h
  dsimp only at h
  split at h
  · cases h
  split at h
  · next r hfind =>
    cases h
    obtain ⟨hmem, hmajor, hfunc⟩ := row_of_find hfind
    have hspell := vrRows_spell r hmem t (vrAt w)
    rwa [hmajor, hfunc, wordV_of_fields hw] at hspell
  split at h
  · next r hfind =>
    cases h
    have hr := List.find?_some hfind
    simp only [Bool.and_eq_true, decide_eq_true_eq] at hr
    have hfunc : (BitVec.ofNat 5 (bitsAt w 0 5)).toNat = bitsAt w 0 5 := toNat_bitsAt w 0 5
    have hspell := svRows_spell r (List.mem_of_find?_eq_some hfind) t ⟨BitVec.ofNat 5 (bitsAt w 0 5), vrAt w⟩ (by rw [hfunc]; exact hr.2)
    rwa [hfunc, hr.1, wordV_of_fields hw] at hspell
  · obtain ⟨r, hfind, rfl⟩ := Option.map_eq_some_iff.mp h
    obtain ⟨hmem, hmajor, hmode⟩ := row_of_find hfind
    have hspell := vmRows_spell r hmem t (vmAt w)
    rwa [hmajor, hmode, wordM_of_fields hw] at hspell

theorem spells_of_decodeR {t : TriadId} {w : Nat} {i : Instr} (hw : w < 2 ^ 32) (h : decodeR t w = some i) : Spells t w i := by
  unfold decodeR at h
  dsimp only at h
  split at h
  · cases h
  next hmid =>
  have hword := wordR_of_fields hw (not_not.mp hmid)
  have hzero : ∀ lo, bitsAt w lo 5 = 0 → regAt w lo = 0 := fun lo hlo => by rw [regAt, hlo]; rfl
  split at h
  · next r hfind =>
    cases h
    obtain ⟨hmem, hmajor, hfunc⟩ := row_of_find hfind
    have hspell := tripleRows_spell r hmem t (regAt w 21) (regAt w 16) (regAt w 11)
    rwa [hmajor, hfunc, hword] at hspell
  split at h
  · next hpair =>
    obtain ⟨r, hfind, rfl⟩ := Option.map_eq_some_iff.mp h
    obtain ⟨hmem, hfunc⟩ := row_of_find_fst hfind
    simp only [Bool.and_eq_true, decide_eq_true_eq] at hpair
    rw [hpair.1, hzero 11 hpair.2, ← hfunc] at hword
    exact spells_of_word hword (pairRows_spell r hmem t _ _)
  split at h
  · next hjump =>
    simp only [Bool.and_eq_true, decide_eq_true_eq] at hjump
    obtain ⟨⟨hm, hrd⟩, hrs2⟩ := hjump
    rw [hm, hzero 21 hrd, hzero 11 hrs2] at hword
    split at h
    · next hf => cases h; rw [hf] at hword; exact spells_of_word hword ⟨rfl, rfl⟩
    split at h
    · next hf => cases h; rw [hf] at hword; exact spells_of_word hword ⟨rfl, rfl⟩
    split at h
    · next hf =>
      cases h
      simp only [Bool.and_eq_true, decide_eq_true_eq] at hf
      rw [hf.1, hzero 16 hf.2] at hword
      exact spells_of_word hword ⟨rfl, rfl⟩
    · cases h
  · cases h

/-- A shift's 16 bits are its func, its amount and nothing above them. -/
theorem imm_of_shift {w : Nat} (h : bitsAt w 8 8 = 0) : bitsAt w 0 16 = 64 * bitsAt w 6 2 + bitsAt w 0 6 := by
  simp only [bitsAt] at *
  omega

theorem jump_of_fields {w : Nat} (hw : w < 2 ^ 32) : bitsAt w 26 6 * 2 ^ 26 + (BitVec.ofNat 26 (bitsAt w 0 26)).toNat = w := by
  rw [toNat_bitsAt]
  simp only [bitsAt]
  omega

/-- A word that decodes to an instruction is that instruction's word, and the instruction is well-formed. -/
theorem spells_of_decodeWord {t : TriadId} {w : Nat} {i : Instr} (hw : w < 2 ^ 32) (h : decodeWord t w = some i) : Spells t w i := by
  unfold decodeWord at h
  dsimp only at h
  split at h
  · next r hfind =>
    cases h
    obtain ⟨hmem, hmajor⟩ := row_of_find_fst hfind
    have hspell := immRows_spell r hmem t (regAt w 21) (regAt w 16) (BitVec.ofNat 16 (bitsAt w 0 16))
    rwa [hmajor, wordI_of_fields hw] at hspell
  split at h
  · next hm =>
    split at h
    · cases h
    · next hhigh =>
      obtain ⟨r, hfind, rfl⟩ := Option.map_eq_some_iff.mp h
      obtain ⟨hmem, hkind⟩ := row_of_find_fst hfind
      have hspell := shiftRows_spell r hmem t (regAt w 21) (regAt w 16) (BitVec.ofNat 6 (bitsAt w 0 6))
      rwa [toNat_bitsAt, hkind, ← imm_of_shift (not_not.mp hhigh), ← hm, wordI_of_fields hw] at hspell
  split at h
  · next hm => cases h; exact spells_of_word (hm ▸ jump_of_fields hw) ⟨rfl, rfl⟩
  split at h
  · next hm => cases h; exact spells_of_word (hm ▸ jump_of_fields hw) ⟨rfl, rfl⟩
  split at h
  · next hm => exact spells_of_decodeC hw hm h
  split at h
  · exact spells_of_decodeV hw h
  · exact spells_of_decodeR hw h

/-! ### An instruction's word decodes to it -/

/-- A word of 32 bits that decodes to `i`. -/
def Decodes (t : TriadId) (w : Nat) (i : Instr) : Prop := w < 2 ^ 32 ∧ decodeWord t w = some i

/-- Triad `t` has the unit that word `w` names: the supervisor has no long vectors (R76). -/
def HasUnit (t : TriadId) (w : Nat) : Prop := w < 0x38 * 2 ^ 26 ∨ t.val ≠ 0

/-- A major of the R format. -/
def isMajorR (m : Nat) : Bool := (immRows.find? fun r => r.1 = m).isNone && m != 0x0A && m != 0x28 && m != 0x29 && m != 0x2A && decide (m < 0x30)

/-- A major of the VR and VM formats. -/
def isMajorV (m : Nat) : Bool := (immRows.find? fun r => r.1 = m).isNone && decide (0x30 ≤ m ∧ m < 64)

theorem isMajorR_lt {m : Nat} (hm : isMajorR m = true) : m < 64 := by
  simp only [isMajorR, Bool.and_eq_true, decide_eq_true_eq] at hm
  omega

theorem isMajorV_lt {m : Nat} (hm : isMajorV m = true) : m < 64 := by
  simp only [isMajorV, Bool.and_eq_true, decide_eq_true_eq] at hm
  omega

theorem decodeWord_of_majorR {t : TriadId} {w : Nat} (h : isMajorR (bitsAt w 26 6) = true) : decodeWord t w = decodeR t w := by
  simp only [isMajorR, Bool.and_eq_true, bne_iff_ne, ne_eq, decide_eq_true_eq, Option.isNone_iff_eq_none] at h
  obtain ⟨⟨⟨⟨⟨hrow, h0A⟩, h28⟩, h29⟩, h2A⟩, h30⟩ := h
  simp only [decodeWord, hrow, h0A, h28, h29, h2A, Nat.not_le.mpr h30, if_false]

theorem decodeWord_of_majorV {t : TriadId} {w : Nat} (h : isMajorV (bitsAt w 26 6) = true) : decodeWord t w = decodeV t w := by
  simp only [isMajorV, Bool.and_eq_true, decide_eq_true_eq, Option.isNone_iff_eq_none] at h
  obtain ⟨hrow, h30, -⟩ := h
  have hno : ∀ k < 0x30, bitsAt w 26 6 ≠ k := fun k hk => by omega
  simp only [decodeWord, hrow, hno 0x0A (by decide), hno 0x28 (by decide), hno 0x29 (by decide), hno 0x2A (by decide), h30, if_false, if_true]

/-- Where a triad has the unit, a vector major is not refused. -/
theorem unit_not_refused {t : TriadId} {w : Nat} (hw : w < 2 ^ 32) (h : HasUnit t w) : (0x38 ≤ bitsAt w 26 6 && t.val = 0) = false := by
  simp only [Bool.and_eq_false_iff, decide_eq_false_iff_not]
  unfold HasUnit at h
  unfold bitsAt
  omega

/-! Which row a word's fields lead to. -/

section
variable {t : TriadId} {w : Nat}

theorem decodeWord_of_imm {r : Nat × (TriadId → Reg → Reg → Imm16 → Instr)}
    (hrow : (immRows.find? fun r => r.1 = bitsAt w 26 6) = some r) :
    decodeWord t w = some (r.2 t (regAt w 21) (regAt w 16) (BitVec.ofNat 16 (bitsAt w 0 16))) := by
  unfold decodeWord
  dsimp only
  rw [hrow]

theorem decodeWord_of_shift {r : Nat × (TriadId → Reg → Reg → Sh6 → Instr)} (hmajor : bitsAt w 26 6 = 0x0A) (hhigh : bitsAt w 8 8 = 0)
    (hrow : (shiftRows.find? fun r => r.1 = bitsAt w 6 2) = some r) :
    decodeWord t w = some (r.2 t (regAt w 21) (regAt w 16) (BitVec.ofNat 6 (bitsAt w 0 6))) := by
  unfold decodeWord
  dsimp only
  rw [hmajor, hhigh, hrow]
  rfl

theorem decodeWord_of_j (hmajor : bitsAt w 26 6 = 0x28) : decodeWord t w = some (.j t (BitVec.ofNat 26 (bitsAt w 0 26))) := by
  unfold decodeWord
  dsimp only
  rw [hmajor]
  rfl

theorem decodeWord_of_call (hmajor : bitsAt w 26 6 = 0x29) : decodeWord t w = some (.call t (BitVec.ofNat 26 (bitsAt w 0 26))) := by
  unfold decodeWord
  dsimp only
  rw [hmajor]
  rfl

theorem decodeWord_of_majorC (hmajor : bitsAt w 26 6 = 0x2A) : decodeWord t w = decodeC t w := by
  unfold decodeWord
  dsimp only
  rw [hmajor]
  rfl

theorem decodeR_of_triple {r : Nat × Nat × (TriadId → Reg → Reg → Reg → Instr)} (hmid : bitsAt w 6 5 = 0)
    (hrow : (tripleRows.find? fun r => r.1 = bitsAt w 26 6 && r.2.1 = bitsAt w 0 6) = some r) :
    decodeR t w = some (r.2.2 t (regAt w 21) (regAt w 16) (regAt w 11)) := by
  unfold decodeR
  dsimp only
  rw [hmid, hrow]
  rfl

theorem decodeR_of_pair {r : Nat × (TriadId → Reg → Reg → Instr)} (hmid : bitsAt w 6 5 = 0)
    (hnot : (tripleRows.find? fun r => r.1 = bitsAt w 26 6 && r.2.1 = bitsAt w 0 6) = none)
    (hmajor : bitsAt w 26 6 = 0x02) (hrs2 : bitsAt w 11 5 = 0) (hrow : (pairRows.find? fun r => r.1 = bitsAt w 0 6) = some r) :
    decodeR t w = some (r.2 t (regAt w 21) (regAt w 16)) := by
  unfold decodeR
  dsimp only
  rw [hmid, hnot, hmajor, hrs2, hrow]
  rfl

/-- The jumps to a register, RET among them, leave the fields they do not use 0. -/
theorem decodeR_of_jump (hmid : bitsAt w 6 5 = 0) (hmajor : bitsAt w 26 6 = 0x2B) (hrd : bitsAt w 21 5 = 0) (hrs2 : bitsAt w 11 5 = 0) :
    (bitsAt w 0 6 = 0 → decodeR t w = some (.jr t (regAt w 16))) ∧ (bitsAt w 0 6 = 1 → decodeR t w = some (.callr t (regAt w 16))) ∧
      (bitsAt w 0 6 = 2 → bitsAt w 16 5 = 0 → decodeR t w = some (.ret t)) := by
  unfold decodeR
  dsimp only
  rw [hmid, hmajor, hrd, hrs2]
  refine ⟨fun hf => ?_, fun hf => ?_, fun hf hrs1 => ?_⟩
  · rw [hf]; rfl
  · rw [hf]; rfl
  · rw [hf, hrs1]; rfl

theorem decodeC_of_system {r : Nat × (TriadId → Instr)} (hlow : bitsAt w 0 4 = 0) (hg : regAt w 21 = 0) (hn : BitVec.ofNat 12 (bitsAt w 4 12) = 0)
    (hrow : (systemRows.find? fun r => r.1 = bitsAt w 16 5) = some r) : decodeC t w = some (r.2 t) := by
  have hmem := List.mem_of_find?_eq_some hrow
  have hsub : r.1 = bitsAt w 16 5 := by simpa using List.find?_some hrow
  unfold decodeC
  dsimp only
  rw [hlow, hg, hn]
  rw [← hsub] at hrow ⊢
  fin_cases hmem <;> rfl

theorem decodeC_of_field (hlow : bitsAt w 0 4 = 0) :
    (bitsAt w 16 5 = 0 → decodeC t w = some (.mfc t (regAt w 21) (BitVec.ofNat 12 (bitsAt w 4 12)))) ∧
      (bitsAt w 16 5 = 1 → decodeC t w = some (.mtc t (regAt w 21) (BitVec.ofNat 12 (bitsAt w 4 12)))) ∧
      (bitsAt w 16 5 = 6 → regAt w 21 = 0 → decodeC t w = some (.srvc t (BitVec.ofNat 12 (bitsAt w 4 12)))) ∧
      (bitsAt w 16 5 = 7 → regAt w 21 = 0 → decodeC t w = some (.waymark t (BitVec.ofNat 12 (bitsAt w 4 12)))) := by
  unfold decodeC
  dsimp only
  rw [hlow]
  refine ⟨fun hs => ?_, fun hs => ?_, fun hs hg => ?_, fun hs hg => ?_⟩
  · rw [hs]; rfl
  · rw [hs]; rfl
  · rw [hs, hg]; rfl
  · rw [hs, hg]; rfl

theorem decodeV_of_vr {r : Nat × Nat × (TriadId → VR → Instr)} (hunit : (0x38 ≤ bitsAt w 26 6 && t.val = 0) = false)
    (hrow : (vrRows.find? fun r => r.1 = bitsAt w 26 6 && r.2.1 = bitsAt w 0 5) = some r) : decodeV t w = some (r.2.2 t (vrAt w)) := by
  unfold decodeV
  dsimp only
  rw [hunit, hrow]
  rfl

theorem decodeV_of_sv {r : Nat × (Nat → Bool) × (TriadId → SV → Instr)} (hunit : (0x38 ≤ bitsAt w 26 6 && t.val = 0) = false)
    (hnot : (vrRows.find? fun r => r.1 = bitsAt w 26 6 && r.2.1 = bitsAt w 0 5) = none)
    (hrow : (svRows.find? fun r => r.1 = bitsAt w 26 6 && r.2.1 (bitsAt w 0 5)) = some r) :
    decodeV t w = some (r.2.2 t ⟨BitVec.ofNat 5 (bitsAt w 0 5), vrAt w⟩) := by
  unfold decodeV
  dsimp only
  rw [hunit, hnot, hrow]
  rfl

theorem decodeV_of_vm {r : Nat × Nat × (TriadId → VM → Instr)} (hunit : (0x38 ≤ bitsAt w 26 6 && t.val = 0) = false)
    (hnot : (vrRows.find? fun r => r.1 = bitsAt w 26 6 && r.2.1 = bitsAt w 0 5) = none)
    (hnot' : (svRows.find? fun r => r.1 = bitsAt w 26 6 && r.2.1 (bitsAt w 0 5)) = none)
    (hrow : (vmRows.find? fun r => r.1 = bitsAt w 26 6 && r.2.1 = bitsAt w 0 3) = some r) : decodeV t w = some (r.2.2 t (vmAt w)) := by
  unfold decodeV
  dsimp only
  rw [hunit, hnot, hnot', hrow]
  rfl

end

/-! The word of each format decodes to the instruction of its row. -/

section
variable {t : TriadId} {m f : Nat}

theorem imm_decodes {mk : TriadId → Reg → Reg → Imm16 → Instr} (hrow : (immRows.find? fun r => r.1 = m) = some (m, mk)) (hm : m < 64)
    (a b : Reg) (imm : Imm16) : Decodes t (wordI m a b imm) (mk t a b imm) := by
  obtain ⟨hlt, hmajor, ha, hb, himm⟩ := fields_wordI a b imm hm
  have h := decodeWord_of_imm (t := t) (hmajor.symm ▸ hrow)
  rw [ha, hb, ofNat_bits_eq himm] at h
  exact ⟨hlt, h⟩

theorem shift_fields {w k : Nat} {sh : Sh6} (h : bitsAt w 0 16 = 64 * k + sh.toNat) (hk : k < 4) :
    bitsAt w 8 8 = 0 ∧ bitsAt w 6 2 = k ∧ bitsAt w 0 6 = sh.toNat := by
  have hsh := sh.isLt
  simp only [bitsAt] at *
  omega

theorem shift_decodes {k : Nat} {mk : TriadId → Reg → Reg → Sh6 → Instr} (hrow : (shiftRows.find? fun r => r.1 = k) = some (k, mk)) (hk : k < 4)
    (a b : Reg) (sh : Sh6) : Decodes t (wordI 0x0A a b (BitVec.ofNat 16 (64 * k + sh.toNat))) (mk t a b sh) := by
  have hsh := sh.isLt
  obtain ⟨hlt, hmajor, ha, hb, himm⟩ := fields_wordI (m := 0x0A) a b (BitVec.ofNat 16 (64 * k + sh.toNat)) (by decide)
  rw [BitVec.toNat_ofNat, Nat.mod_eq_of_lt (by omega)] at himm
  obtain ⟨hhigh, hkind, hamount⟩ := shift_fields himm hk
  have h := decodeWord_of_shift (t := t) hmajor hhigh (hkind.symm ▸ hrow)
  rw [ha, hb, ofNat_bits_eq hamount] at h
  exact ⟨hlt, h⟩

theorem jump_fields {w m : Nat} {off : Off26} (h : w = m * 2 ^ 26 + off.toNat) (hm : m < 64) :
    w < 2 ^ 32 ∧ bitsAt w 26 6 = m ∧ bitsAt w 0 26 = off.toNat := by
  have hoff := off.isLt
  simp only [bitsAt]
  omega

theorem j_decodes (off : Off26) : Decodes t (0x28 * 2 ^ 26 + off.toNat) (.j t off) := by
  obtain ⟨hlt, hmajor, hoff⟩ := jump_fields (m := 0x28) (off := off) rfl (by decide)
  have h := decodeWord_of_j (t := t) hmajor
  rw [ofNat_bits_eq hoff] at h
  exact ⟨hlt, h⟩

theorem call_decodes (off : Off26) : Decodes t (0x29 * 2 ^ 26 + off.toNat) (.call t off) := by
  obtain ⟨hlt, hmajor, hoff⟩ := jump_fields (m := 0x29) (off := off) rfl (by decide)
  have h := decodeWord_of_call (t := t) hmajor
  rw [ofNat_bits_eq hoff] at h
  exact ⟨hlt, h⟩

theorem triple_decodes {mk : TriadId → Reg → Reg → Reg → Instr} (hrow : (tripleRows.find? fun r => r.1 = m && r.2.1 = f) = some (m, f, mk))
    (hm : isMajorR m = true) (hf : f < 64) (a b c : Reg) : Decodes t (wordR m f a b c) (mk t a b c) := by
  obtain ⟨hlt, hmajor, ha, hb, hc, hmid, hfunc⟩ := fields_wordR a b c (isMajorR_lt hm) hf
  have h := decodeR_of_triple (t := t) hmid (by rw [hmajor, hfunc]; exact hrow)
  rw [← decodeWord_of_majorR (hmajor.symm ▸ hm), ha, hb, regAt_eq hc] at h
  exact ⟨hlt, h⟩

theorem pair_decodes {mk : TriadId → Reg → Reg → Instr} (hrow : (pairRows.find? fun r => r.1 = f) = some (f, mk))
    (hnot : (tripleRows.find? fun r => r.1 = 0x02 && r.2.1 = f) = none) (hf : f < 64) (a b : Reg) :
    Decodes t (wordR 0x02 f a b 0) (mk t a b) := by
  obtain ⟨hlt, hmajor, ha, hb, hc, hmid, hfunc⟩ := fields_wordR (m := 0x02) a b 0 (by decide) hf
  have h := decodeR_of_pair (t := t) hmid (by rw [hmajor, hfunc]; exact hnot) hmajor hc (hfunc.symm ▸ hrow)
  rw [← decodeWord_of_majorR (hmajor.symm ▸ rfl), ha, hb] at h
  exact ⟨hlt, h⟩

theorem field_of_regAt {w lo : Nat} {r : Reg} (h : regAt w lo = r) : bitsAt w lo 5 = r.toNat := by rw [← h, toNat_regAt]

theorem jr_decodes (b : Reg) : Decodes t (wordR 0x2B 0 0 b 0) (.jr t b) := by
  obtain ⟨hlt, hmajor, ha, hb, hc, hmid, hfunc⟩ := fields_wordR (m := 0x2B) (f := 0) 0 b 0 (by decide) (by decide)
  have h := (decodeR_of_jump (t := t) hmid hmajor (field_of_regAt ha) hc).1 hfunc
  rw [← decodeWord_of_majorR (hmajor.symm ▸ rfl), hb] at h
  exact ⟨hlt, h⟩

theorem callr_decodes (b : Reg) : Decodes t (wordR 0x2B 1 0 b 0) (.callr t b) := by
  obtain ⟨hlt, hmajor, ha, hb, hc, hmid, hfunc⟩ := fields_wordR (m := 0x2B) (f := 1) 0 b 0 (by decide) (by decide)
  have h := (decodeR_of_jump (t := t) hmid hmajor (field_of_regAt ha) hc).2.1 hfunc
  rw [← decodeWord_of_majorR (hmajor.symm ▸ rfl), hb] at h
  exact ⟨hlt, h⟩

theorem ret_decodes : Decodes t (wordR 0x2B 2 0 0 0) (.ret t) := by
  obtain ⟨hlt, hmajor, ha, hb, hc, hmid, hfunc⟩ := fields_wordR (m := 0x2B) (f := 2) 0 0 0 (by decide) (by decide)
  have h := (decodeR_of_jump (t := t) hmid hmajor (field_of_regAt ha) hc).2.2 hfunc (field_of_regAt hb)
  rw [← decodeWord_of_majorR (hmajor.symm ▸ rfl)] at h
  exact ⟨hlt, h⟩

theorem mfc_decodes (g : Reg) (n : N12) : Decodes t (wordC 0x00 g n) (.mfc t g n) := by
  obtain ⟨hlt, hmajor, hg, hsub, hn, hlow⟩ := fields_wordC (sub := 0x00) g n (by decide)
  have h := (decodeC_of_field (t := t) hlow).1 hsub
  rw [← decodeWord_of_majorC hmajor, hg, hn] at h
  exact ⟨hlt, h⟩

theorem mtc_decodes (g : Reg) (n : N12) : Decodes t (wordC 0x01 g n) (.mtc t g n) := by
  obtain ⟨hlt, hmajor, hg, hsub, hn, hlow⟩ := fields_wordC (sub := 0x01) g n (by decide)
  have h := (decodeC_of_field (t := t) hlow).2.1 hsub
  rw [← decodeWord_of_majorC hmajor, hg, hn] at h
  exact ⟨hlt, h⟩

theorem srvc_decodes (n : N12) : Decodes t (wordC 0x06 0 n) (.srvc t n) := by
  obtain ⟨hlt, hmajor, hg, hsub, hn, hlow⟩ := fields_wordC (sub := 0x06) 0 n (by decide)
  have h := (decodeC_of_field (t := t) hlow).2.2.1 hsub hg
  rw [← decodeWord_of_majorC hmajor, hn] at h
  exact ⟨hlt, h⟩

theorem waymark_decodes (n : N12) : Decodes t (wordC 0x07 0 n) (.waymark t n) := by
  obtain ⟨hlt, hmajor, hg, hsub, hn, hlow⟩ := fields_wordC (sub := 0x07) 0 n (by decide)
  have h := (decodeC_of_field (t := t) hlow).2.2.2 hsub hg
  rw [← decodeWord_of_majorC hmajor, hn] at h
  exact ⟨hlt, h⟩

theorem system_decodes {sub : Nat} {mk : TriadId → Instr} (hrow : (systemRows.find? fun r => r.1 = sub) = some (sub, mk)) (hs : sub < 32) :
    Decodes t (wordC sub 0 0) (mk t) := by
  obtain ⟨hlt, hmajor, hg, hsub, hn, hlow⟩ := fields_wordC (sub := sub) 0 0 hs
  have h := decodeC_of_system (t := t) hlow hg hn (hsub.symm ▸ hrow)
  rw [← decodeWord_of_majorC hmajor] at h
  exact ⟨hlt, h⟩

theorem vr_decodes {mk : TriadId → VR → Instr} (hrow : (vrRows.find? fun r => r.1 = m && r.2.1 = f) = some (m, f, mk))
    (hm : isMajorV m = true) (hf : f < 32) (o : VR) (hunit : HasUnit t (wordV m f o)) : Decodes t (wordV m f o) (mk t o) := by
  obtain ⟨hlt, hmajor, ho, hfunc⟩ := fields_wordV o (isMajorV_lt hm) hf
  have h := decodeV_of_vr (unit_not_refused hlt hunit) (by rw [hmajor, hfunc]; exact hrow)
  rw [← decodeWord_of_majorV (hmajor.symm ▸ hm), ho] at h
  exact ⟨hlt, h⟩

theorem sv_decodes {mk : TriadId → SV → Instr} {funcs : Nat → Bool} {v : SV}
    (hrow : (svRows.find? fun r => r.1 = m && r.2.1 v.func.toNat) = some (m, funcs, mk))
    (hnot : (vrRows.find? fun r => r.1 = m && r.2.1 = v.func.toNat) = none)
    (hm : isMajorV m = true) (hunit : HasUnit t (wordV m v.func.toNat v.o)) : Decodes t (wordV m v.func.toNat v.o) (mk t v) := by
  obtain ⟨hlt, hmajor, ho, hfunc⟩ := fields_wordV v.o (isMajorV_lt hm) v.func.isLt
  have h := decodeV_of_sv (unit_not_refused hlt hunit) (by rw [hmajor, hfunc]; exact hnot) (by rw [hmajor, hfunc]; exact hrow)
  rw [← decodeWord_of_majorV (hmajor.symm ▸ hm), ho, ofNat_bits_eq hfunc] at h
  exact ⟨hlt, h⟩

theorem vm_decodes {mode : Nat} {mk : TriadId → VM → Instr} (hrow : (vmRows.find? fun r => r.1 = m && r.2.1 = mode) = some (m, mode, mk))
    (hm : isMajorV m = true) (hmode : mode < 8) (hnot : ∀ f, (vrRows.find? fun r => r.1 = m && r.2.1 = f) = none)
    (hnot' : ∀ f, (svRows.find? fun r => r.1 = m && r.2.1 f) = none)
    (o : VM) (hunit : HasUnit t (wordM m mode o)) : Decodes t (wordM m mode o) (mk t o) := by
  obtain ⟨hlt, hmajor, ho, hmode'⟩ := fields_wordM o (isMajorV_lt hm) hmode
  have h := decodeV_of_vm (unit_not_refused hlt hunit) (hmajor.symm ▸ hnot _) (hmajor.symm ▸ hnot' _) (by rw [hmajor, hmode']; exact hrow)
  rw [← decodeWord_of_majorV (hmajor.symm ▸ hm), ho] at h
  exact ⟨hlt, h⟩

end

theorem of_encoded {t' t : TriadId} {v w : Nat} {i : Instr} (henc : some (t', v) = some (t, w)) (h : HasUnit t' v → Decodes t' v i)
    (hunit : HasUnit t w) : Decodes t w i := by
  obtain ⟨rfl, rfl⟩ := Prod.mk.inj (Option.some.inj henc)
  exact h hunit

/-- A short-vector word of a func its class defines decodes to it. -/
theorem svRows_decode : ∀ r ∈ svRows, ∀ (t : TriadId) (v : SV), r.2.1 v.func.toNat = true → HasUnit t (wordV r.1 v.func.toNat v.o) →
    Decodes t (wordV r.1 v.func.toNat v.o) (r.2.2 t v) := by
  intro r hr t v hf hunit
  have hnot : (vrRows.find? fun q => q.1 = r.1 && q.2.1 = v.func.toNat) = none := by
    fin_cases hr <;> simp [vrRows] at hf ⊢
    omega
  have hrow : (svRows.find? fun q => q.1 = r.1 && q.2.1 v.func.toNat) = some r := by
    fin_cases hr <;> (simp [svRows] at hf ⊢; exact hf)
  have hm : isMajorV r.1 = true := by fin_cases hr <;> rfl
  exact sv_decodes hrow hnot hm hunit

/-- The word of a well-formed instruction decodes to it, on a triad that has the unit. -/
theorem decodes_of_spells {t : TriadId} {w : Nat} {i : Instr} (h : Spells t w i) (hunit : HasUnit t w) : Decodes t w i := by
  obtain ⟨hwf, henc⟩ := h
  cases i with
  | add t' a b c | sub t' a b c | andCmd t' a b c | orCmd t' a b c | xorCmd t' a b c | shl t' a b c | shr t' a b c | sar t' a b c | setlt t' a b c
  | setltU t' a b c | minCmd t' a b c | maxCmd t' a b c | minU t' a b c | maxU t' a b c | addW t' a b c | subW t' a b c | shlW t' a b c
  | shrW t' a b c | sarW t' a b c | mul t' a b c | mulHs t' a b c | mulHu t' a b c | mulW t' a b c | div t' a b c | divU t' a b c | rem t' a b c
  | remU t' a b c | rol t' a b c | ror t' a b c | aaddW t' a b c | aaddD t' a b c | aswpW t' a b c | aswpD t' a b c | bmove t' a b c
  | bfill t' a b c | bcrc t' a b c =>
    exact of_encoded henc (fun _ => triple_decodes rfl rfl (by decide) a b c) hunit
  | clz t' a b | ctz t' a b | bitcnt t' a b | byterev t' a b | sextB t' a b | sextH t' a b | sextW t' a b =>
    exact of_encoded henc (fun _ => pair_decodes rfl rfl (by decide) a b) hunit
  | addi t' a b i | andi t' a b i | ori t' a b i | xori t' a b i | setlti t' a b i | setltiU t' a b i | shin t' a b i | pcadd t' a b i
  | ldB t' a b i | ldBu t' a b i | ldH t' a b i | ldHu t' a b i | ldW t' a b i | ldWu t' a b i | ldD t' a b i | stB t' a b i | stH t' a b i
  | stW t' a b i | stD t' a b i | beq t' a b i | bne t' a b i | blt t' a b i | bge t' a b i | bltU t' a b i | bgeU t' a b i | qld t' a b i
  | qst t' a b i =>
    exact of_encoded henc (fun _ => imm_decodes rfl (by decide) a b i) hunit
  | shli t' a b i =>
    exact of_encoded henc (fun _ => shift_decodes (k := 0) rfl (by decide) a b i) hunit
  | shri t' a b i =>
    exact of_encoded henc (fun _ => shift_decodes (k := 1) rfl (by decide) a b i) hunit
  | sari t' a b i =>
    exact of_encoded henc (fun _ => shift_decodes (k := 2) rfl (by decide) a b i) hunit
  | j t' off =>
    exact of_encoded henc (fun _ => j_decodes off) hunit
  | call t' off =>
    exact of_encoded henc (fun _ => call_decodes off) hunit
  | jr t' b =>
    exact of_encoded henc (fun _ => jr_decodes b) hunit
  | callr t' b =>
    exact of_encoded henc (fun _ => callr_decodes b) hunit
  | ret t' =>
    exact of_encoded henc (fun _ => ret_decodes) hunit
  | mfc t' g n =>
    exact of_encoded henc (fun _ => mfc_decodes g n) hunit
  | mtc t' g n =>
    exact of_encoded henc (fun _ => mtc_decodes g n) hunit
  | srvc t' n =>
    exact of_encoded henc (fun _ => srvc_decodes n) hunit
  | waymark t' n =>
    exact of_encoded henc (fun _ => waymark_decodes n) hunit
  | syncC t' | syncI t' | syncM t' | eret t' | waitCmd t' | breakCmd t' =>
    exact of_encoded henc (fun _ => system_decodes rfl (by decide)) hunit
  | vadd t' o | vsub t' o | vsadd t' o | vssub t' o | vmul t' o | vmulh t' o | vmin t' o | vmax t' o | vabs t' o | vneg t' o | vand t' o | vor t' o
  | vxor t' o | vnot t' o | vshl t' o | vshr t' o | vsra t' o | vshli t' o | vshri t' o | vsrai t' o | vsel t' o | vmov t' o | vfadd t' o
  | vfsub t' o | vfmul t' o | vfma t' o | vfms t' o | vfmin t' o | vfmax t' o | vfabs t' o | vfneg t' o | vcvtfq t' o | vcvtqf t' o | vcvtfi t' o
  | vcvtif t' o | vcmpeq t' o | vcmpne t' o | vcmplt t' o | vcmple t' o | vcmpltu t' o | vcmpleu t' o | pand t' o | por t' o | pxor t' o
  | pandn t' o | plimit t' o | vsplat t' o | vextr t' o | vins t' o | vperm t' o | vrev t' o | vslide t' o | vweavl t' o | vweavh t' o
  | vsplite t' o | vsplito t' o | vwidl t' o | vwidh t' o | vnarr t' o | vrsum t' o | vrmin t' o | vrmax t' o | vmac t' o | vmsc t' o | vzaclr t' o
  | vzard t' o | vzawr t' o | vzamvl t' o | vzamvh t' o | vzars t' o | ffarm t' o | ffread t' o | ptally t' o | pmovg t' o | gmovp t' o
  | vzero t' o | qbsel t' o | qmovg t' o | gmovq t' o =>
    exact of_encoded henc (fun hunit => vr_decodes rfl rfl (by decide) o hunit) hunit
  | vld t' o | vst t' o | vldP t' o | vstP t' o | vldS t' o | vstS t' o | vldX t' o | vstX t' o | vldR t' o | vstR t' o =>
    exact of_encoded henc (fun hunit => vm_decodes rfl rfl (by decide) (fun _ => rfl) (fun _ => rfl) o hunit) hunit
  | shortVectorIntegerOp t' v =>
    have hfunc := of_decide_eq_true hwf
    exact of_encoded henc (svRows_decode svRows[0] (List.getElem_mem _) t' v (by simp [svRows]; omega)) hunit
  | shortVectorFp32Op t' v =>
    have hfunc := of_decide_eq_true hwf
    exact of_encoded henc (svRows_decode svRows[1] (List.getElem_mem _) t' v (by simp [svRows]; omega)) hunit
  | shortVectorCompare t' v =>
    have hfunc := of_decide_eq_true hwf
    exact of_encoded henc (svRows_decode svRows[2] (List.getElem_mem _) t' v (by simp [svRows]; omega)) hunit
  | shortVectorPermute t' v =>
    have hfunc := of_decide_eq_true hwf
    exact of_encoded henc (svRows_decode svRows[3] (List.getElem_mem _) t' v (by simp [svRows]; omega)) hunit
  | _ => cases henc

/-- Settles O6: an instruction's word has its fields where its format puts them, so the search of the tables finds its row; a row found gives back
the word its fields spell. -/
theorem encodedInstructionsDecode : Obligations.EncodedInstructionsDecode :=
  ⟨fun _ _ _ hwf henc hunit => decodes_of_spells ⟨hwf, henc⟩ hunit, fun _ _ _ hw h => spells_of_decodeWord hw h⟩

end Sys2Proof.Proofs

namespace Sys2Proof.Proofs
open Sys2Proof.Machine Sys2Proof.Safety

/-! ## Scalar computations (R77, R78) -/

/-! ### The operators of the model, as the tables of the statements write them -/

theorem bit01_slt (x y : DWord) : bit01 (x.slt y) = if x.toInt < y.toInt then 1 else 0 := by
  simp only [bit01, BitVec.slt_iff_toInt_lt]

theorem bit01_ult (x y : DWord) : bit01 (x.ult y) = if x.toNat < y.toNat then 1 else 0 := by
  simp only [bit01, BitVec.ult_iff_lt, BitVec.lt_def]

theorem ite_slt {α : Type} (x y : DWord) (a b : α) : (if x.slt y then a else b) = if x.toInt < y.toInt then a else b := by
  simp only [BitVec.slt_iff_toInt_lt]

theorem ite_ult {α : Type} (x y : DWord) (a b : α) : (if x.ult y then a else b) = if x.toNat < y.toNat then a else b := by
  simp only [BitVec.ult_iff_lt, BitVec.lt_def]

theorem toInt_sxI (i : Imm16) : (sxI i).toInt = i.toInt := BitVec.toInt_signExtend_of_le (by decide)

theorem mul_eq_ofInt (x y : DWord) : x * y = BitVec.ofInt 64 (x.toInt * y.toInt) := by
  rw [BitVec.ofInt_mul, BitVec.ofInt_toInt, BitVec.ofInt_toInt]

theorem highOf_natMul (x y : DWord) : highOf (x.toNat * y.toNat) = BitVec.ofNat 64 (x.toNat * y.toNat / 2 ^ 64) := by
  rw [highOf, ← BitVec.ofInt_natCast]
  norm_cast

theorem rotateLeft_mod (x y : DWord) : x.rotateLeft (y.toNat % 64) = x <<< (y.toNat % 64) ||| x >>> (64 - y.toNat % 64) := by
  rw [BitVec.rotateLeft_def, Nat.mod_mod]

theorem rotateRight_mod (x y : DWord) : x.rotateRight (y.toNat % 64) = x >>> (y.toNat % 64) ||| x <<< (64 - y.toNat % 64) := by
  rw [BitVec.rotateRight_def, Nat.mod_mod]

/-- Every row of the table of R-format computations is a computation from x and y, with the row's result. -/
theorem exec_aluTable (s : State) (t : TriadId) (rd rs1 rs2 : Reg) :
    ∀ p ∈ Sys2Proof.Statements.aluTable t rd rs1 rs2, exec p.1 s = aluR t rd rs1 rs2 p.2 s := by
  simp only [Sys2Proof.Statements.aluTable, List.cons_append, List.nil_append, List.forall_mem_cons, List.not_mem_nil, false_implies,
    implies_true, and_true]
  simp only [exec_add, exec_sub, exec_andCmd, exec_orCmd, exec_xorCmd, exec_shl, exec_shr, exec_sar, exec_setlt, exec_setltU, exec_minCmd,
    exec_maxCmd, exec_minU, exec_maxU, exec_addW, exec_subW, exec_shlW, exec_shrW, exec_sarW, exec_mul, exec_mulHs, exec_mulHu, exec_mulW,
    exec_div, exec_divU, exec_rem, exec_remU, exec_rol, exec_ror, execSetlt, execSetltU, execMinCmd, execMaxCmd, execMinU, execMaxU, execMul,
    execMulHu, execRol, execRor, bit01_slt, bit01_ult, ite_slt, ite_ult, mul_eq_ofInt, highOf_natMul, rotateLeft_mod, rotateRight_mod,
    true_and, and_true]
  and_intros <;> rfl

theorem aluWritesItsResultAlone : Sys2Proof.Statements.AluWritesItsResultAlone := by
  intro s t rd rs1 rs2 hready p hp
  rw [exec_aluTable s t rd rs1 rs2 p hp]
  exact aluR_wrote s t rd rs1 rs2 p.2 hready

/-- Every row of the table of immediates is a computation from x alone, with the row's result. -/
theorem exec_immediateTable (s : State) (t : TriadId) (rd rs1 : Reg) (imm : Imm16) (sh : Sh6) :
    ∀ p ∈ Sys2Proof.Statements.immediateTable t rd rs1 imm sh, exec p.1 s = alu1 t rd rs1 p.2 s := by
  simp only [Sys2Proof.Statements.immediateTable, List.forall_mem_cons, List.not_mem_nil, false_implies, implies_true, and_true]
  simp only [exec_addi, exec_andi, exec_ori, exec_xori, exec_setlti, exec_setltiU, exec_shli, exec_shri, exec_sari, exec_shin, exec_sextB,
    exec_sextH, exec_sextW, execSetlti, execSetltiU, bit01_slt, bit01_ult, toInt_sxI, true_and]
  and_intros <;> rfl

/-! ### BYTEREV -/

/-- Byte `k` of a little-endian value. -/
theorem leVal_byte (bs : List Byte) (k : Nat) : BitVec.ofNat 8 (leVal bs / 256 ^ k) = bs.getD k 0 := by
  induction bs generalizing k with
  | nil => simp [leVal]
  | cons b bs ih =>
    have hb := b.isLt
    cases k with
    | zero =>
      apply BitVec.eq_of_toNat_eq
      simp only [leVal, pow_zero, Nat.div_one, BitVec.toNat_ofNat, List.getD_cons_zero]
      omega
    | succ k =>
      have hdiv : leVal (b :: bs) / 256 = leVal bs := by simp only [leVal]; omega
      rw [pow_succ', ← Nat.div_div_eq_div_mul, hdiv, ih, List.getD_cons_succ]

theorem leBytes_reverse_getD {v k : Nat} (hk : k < 8) : (leBytes 8 v).reverse.getD k 0 = BitVec.ofNat 8 (v / 256 ^ (7 - k)) := by
  have hlen : k < (leBytes 8 v).reverse.length := by simpa using hk
  rw [List.getD_eq_getElem _ _ hlen, List.getElem_reverse]
  simp only [leBytes, List.length_map, List.length_range, List.getElem_map, List.getElem_range, Nat.reduceSub]

theorem extract_byte (x : DWord) (k : Nat) : x.extractLsb' (8 * k) 8 = BitVec.ofNat 8 (x.toNat / 256 ^ k) := by
  apply BitVec.eq_of_toNat_eq
  rw [BitVec.extractLsb'_toNat, BitVec.toNat_ofNat, Nat.shiftRight_eq_div_pow, pow_mul]
  rfl

theorem leVal_lt (bs : List Byte) : leVal bs < 256 ^ bs.length := by
  induction bs with
  | nil => exact Nat.one_pos
  | cons b bs ih =>
    have hb := b.isLt
    rw [leVal, List.length_cons, pow_succ']
    omega

/-- BYTEREV's result: byte 7 − k of x at byte k. -/
theorem extract_byterev (x : DWord) {k : Nat} (hk : k < 8) :
    (BitVec.ofNat 64 (leVal (leBytes 8 x.toNat).reverse)).extractLsb' (8 * k) 8 = x.extractLsb' (56 - 8 * k) 8 := by
  have hlt : leVal (leBytes 8 x.toNat).reverse < 2 ^ 64 := by
    have hlt := leVal_lt (leBytes 8 x.toNat).reverse
    rwa [List.length_reverse, length_leBytes] at hlt
  rw [show 56 - 8 * k = 8 * (7 - k) by omega, extract_byte, extract_byte, BitVec.toNat_ofNat, Nat.mod_eq_of_lt hlt, leVal_byte,
    leBytes_reverse_getD hk]

theorem byterev_writes (s : State) (t : TriadId) (rd rs1 : Reg) (h : Ready s t) :
    ∃ u v, exec (.byterev t rd rs1) s = .next u ∧ WroteG s u t rd v ∧
      ∀ k < 8, v.extractLsb' (8 * k) 8 = (s.gx t rs1).extractLsb' (56 - 8 * k) 8 := by
  obtain ⟨u, hexec, hwrote⟩ := alu1_wrote s t rd rs1 (fun x => BitVec.ofNat 64 (leVal (leBytes 8 x.toNat).reverse)) h
  exact ⟨u, _, hexec, hwrote, fun k hk => extract_byterev _ hk⟩

theorem pcadd_writes (s : State) (t : TriadId) (rd rs1 : Reg) (imm : Imm16) (h : Ready s t) :
    ∃ u, exec (.pcadd t rd rs1 imm) s = .next u ∧ WroteG s u t rd ((s.triad t).pc + (s.gx t rs1 <<< 16) + imm.signExtend 64) := by
  obtain ⟨u, hexec, hwrote⟩ := instrG_wrote s t rd (fun s pc => pc + (s.gx t rs1 <<< 16) + sxI imm) h
  exact ⟨u, hexec, by simpa only [issue_gx, sxI] using hwrote⟩

theorem immediatesWriteTheirResultAlone : Sys2Proof.Statements.ImmediatesWriteTheirResultAlone := by
  intro s t rd rs1 imm sh hready
  refine ⟨fun p hp => ?_, byterev_writes s t rd rs1 hready, pcadd_writes s t rd rs1 imm hready⟩
  rw [exec_immediateTable s t rd rs1 imm sh p hp]
  exact alu1_wrote s t rd rs1 p.2 hready

/-! ### Counts of bits -/

theorem leadingZeros_le (n v : Nat) : leadingZeros n v ≤ n := by
  induction n with
  | zero => exact le_rfl
  | succ n ih =>
    unfold leadingZeros
    split <;> omega

/-- The bits above the first set one are clear, and it is set. -/
theorem leadingZeros_spec (n v : Nat) : (∀ i < n, n - leadingZeros n v ≤ i → v.testBit i = false) ∧
    (leadingZeros n v < n → v.testBit (n - 1 - leadingZeros n v) = true) := by
  induction n with
  | zero => exact ⟨fun i hi => absurd hi (by omega), fun h => absurd h (by omega)⟩
  | succ n ih =>
    obtain ⟨hclear, hset⟩ := ih
    unfold leadingZeros
    split
    · next hbit => exact ⟨fun i hi hle => absurd hi (by omega), fun _ => hbit⟩
    · next hbit =>
      refine ⟨fun i hi hle => ?_, fun hlt => ?_⟩
      · rcases Nat.lt_succ_iff_lt_or_eq.mp hi with hlt | rfl
        · exact hclear i hlt (by omega)
        · exact eq_false_of_ne_true hbit
      · rw [show n + 1 - 1 - (leadingZeros n v + 1) = n - 1 - leadingZeros n v by omega]
        exact hset (by omega)

theorem trailingZeros_le (n i v : Nat) : trailingZeros n i v ≤ n := by
  induction n generalizing i with
  | zero => exact le_rfl
  | succ n ih =>
    have := ih (i + 1)
    unfold trailingZeros
    split <;> omega

/-- From bit `i` up the bits below the first set one are clear, and it is set. -/
theorem trailingZeros_spec (n i v : Nat) : (∀ k < trailingZeros n i v, v.testBit (i + k) = false) ∧
    (trailingZeros n i v < n → v.testBit (i + trailingZeros n i v) = true) := by
  induction n generalizing i with
  | zero => exact ⟨fun k hk => absurd hk (by simp [trailingZeros]), fun h => absurd h (by omega)⟩
  | succ n ih =>
    obtain ⟨hclear, hset⟩ := ih (i + 1)
    unfold trailingZeros
    split
    · next hbit => exact ⟨fun k hk => absurd hk (by omega), fun _ => hbit⟩
    · next hbit =>
      refine ⟨fun k hk => ?_, fun hlt => ?_⟩
      · cases k with
        | zero => exact eq_false_of_ne_true hbit
        | succ k =>
          rw [show i + (k + 1) = i + 1 + k by omega]
          exact hclear k (by omega)
      · rw [show i + (trailingZeros n (i + 1) v + 1) = i + 1 + trailingZeros n (i + 1) v by omega]
        exact hset (by omega)

theorem popCount_eq (n v : Nat) : popCount n v = ((List.range n).filter fun i => v.testBit i).length := by
  induction n with
  | zero => rfl
  | succ n ih =>
    rw [popCount, ih, List.range_succ, List.filter_append, List.length_append, Nat.add_comm]
    cases h : v.testBit n <;> simp [h]

theorem bitCounts : Sys2Proof.Statements.BitCounts := by
  intro s t rd rs1 hready
  refine ⟨?_, ?_, ?_⟩
  · obtain ⟨u, hexec, hwrote⟩ := alu1_wrote s t rd rs1 (fun x => BitVec.ofNat 64 (leadingZeros 64 x.toNat)) hready
    obtain ⟨hclear, hset⟩ := leadingZeros_spec 64 (s.gx t rs1).toNat
    refine ⟨u, _, hexec, hwrote, leadingZeros_le 64 _, fun i hi => ?_, hset⟩
    by_cases hlt : i < 64
    · exact hclear i hlt hi
    · exact BitVec.getLsbD_of_ge _ _ (by omega)
  · obtain ⟨u, hexec, hwrote⟩ := alu1_wrote s t rd rs1 (fun x => BitVec.ofNat 64 (trailingZeros 64 0 x.toNat)) hready
    have hspec := trailingZeros_spec 64 0 (s.gx t rs1).toNat
    simp only [Nat.zero_add] at hspec
    exact ⟨u, _, hexec, hwrote, trailingZeros_le 64 0 _, hspec.1, hspec.2⟩
  · obtain ⟨u, hexec, hwrote⟩ := alu1_wrote s t rd rs1 (fun x => BitVec.ofNat 64 (popCount 64 x.toNat)) hready
    rw [popCount_eq] at hwrote
    exact ⟨u, hexec, hwrote⟩

/-- Settles O11: each computation is one function of x, of x and y, or of the PC and x, whose instruction writes its result alone. -/
theorem computationsWriteTheirResultAlone : Obligations.ComputationsWriteTheirResultAlone :=
  ⟨aluWritesItsResultAlone, immediatesWriteTheirResultAlone, bitCounts⟩

/-! ### No exception, and the corners of division (R78) -/

/-- An instruction that wrote one general register took no exception. -/
theorem noException_of_wroteG {s u : State} {t : Nat} {rd : Reg} {v : DWord} (h : WroteG s u t rd v) :
    (u.triad t).ecause = (s.triad t).ecause ∧ (u.triad t).status = (s.triad t).status ∧ (u.triad t).pc = (s.triad t).pc + 4 := by
  obtain ⟨-, htriad, -⟩ := h
  rw [htriad]
  exact ⟨rfl, rfl, rfl⟩

theorem intMin_tdiv_neg_one : BitVec.ofInt 64 ((BitVec.intMin 64).toInt.tdiv (BitVec.allOnes 64).toInt) = BitVec.intMin 64 := by decide

theorem intMin_tmod_neg_one : BitVec.ofInt 64 ((BitVec.intMin 64).toInt.tmod (BitVec.allOnes 64).toInt) = 0 := by decide

/-- Every computation of the tables writes one general register, whatever its operands. -/
theorem computation_wrote (s : State) (t : TriadId) (rd rs1 rs2 : Reg) (imm : Imm16) (sh : Sh6) (h : Ready s t) :
    ∀ c ∈ (Sys2Proof.Statements.aluTable t rd rs1 rs2).map (·.1) ++ (Sys2Proof.Statements.immediateTable t rd rs1 imm sh).map (·.1) ++
      [.clz t rd rs1, .ctz t rd rs1, .bitcnt t rd rs1, .byterev t rd rs1, .pcadd t rd rs1 imm],
      ∃ u v, exec c s = .next u ∧ WroteG s u t rd v := by
  intro c hc
  obtain ⟨hclz, hctz, hbitcnt⟩ := bitCounts s t rd rs1 h
  simp only [List.mem_append, List.mem_map, List.mem_cons, List.not_mem_nil, or_false] at hc
  rcases hc with (⟨p, hp, rfl⟩ | ⟨p, hp, rfl⟩) | rfl | rfl | rfl | rfl | rfl
  · obtain ⟨u, hexec, hwrote⟩ := aluWritesItsResultAlone s t rd rs1 rs2 h p hp
    exact ⟨u, _, hexec, hwrote⟩
  · obtain ⟨u, hexec, hwrote⟩ := (immediatesWriteTheirResultAlone s t rd rs1 imm sh h).1 p hp
    exact ⟨u, _, hexec, hwrote⟩
  · obtain ⟨u, n, hexec, hwrote, -⟩ := hclz
    exact ⟨u, _, hexec, hwrote⟩
  · obtain ⟨u, n, hexec, hwrote, -⟩ := hctz
    exact ⟨u, _, hexec, hwrote⟩
  · obtain ⟨u, hexec, hwrote⟩ := hbitcnt
    exact ⟨u, _, hexec, hwrote⟩
  · obtain ⟨u, v, hexec, hwrote, -⟩ := byterev_writes s t rd rs1 h
    exact ⟨u, v, hexec, hwrote⟩
  · obtain ⟨u, hexec, hwrote⟩ := pcadd_writes s t rd rs1 imm h
    exact ⟨u, _, hexec, hwrote⟩

/-- Settles O8: the divisions are computations whose result at the corners is worked out, and no computation takes an exception. -/
theorem divisionCorners : Obligations.DivisionCorners := by
  intro s t rd rs1 rs2 hready
  have hwrote := aluR_wrote s t rd rs1 rs2 (h := hready)
  refine ⟨fun hzero => ?_, fun hmin hneg => ?_, fun imm sh c hc => ?_⟩
  · simp only [hzero] at hwrote
    exact ⟨hwrote fun x y => if y = 0 then 0 else BitVec.ofInt 64 (x.toInt.tdiv y.toInt),
      hwrote fun x y => if y = 0 then 0 else BitVec.ofNat 64 (x.toNat / y.toNat),
      hwrote fun x y => if y = 0 then x else BitVec.ofInt 64 (x.toInt.tmod y.toInt),
      hwrote fun x y => if y = 0 then x else BitVec.ofNat 64 (x.toNat % y.toNat)⟩
  · rw [hmin, hneg] at hwrote
    have hdiv := hwrote fun x y => if y = 0 then 0 else BitVec.ofInt 64 (x.toInt.tdiv y.toInt)
    have hrem := hwrote fun x y => if y = 0 then x else BitVec.ofInt 64 (x.toInt.tmod y.toInt)
    rw [if_neg (by decide), intMin_tdiv_neg_one] at hdiv
    rw [if_neg (by decide), intMin_tmod_neg_one] at hrem
    exact ⟨hdiv, hrem⟩
  · obtain ⟨u, v, hexec, hw⟩ := computation_wrote s t rd rs1 rs2 imm sh hready c hc
    exact ⟨u, hexec, noException_of_wroteG hw⟩

/-! ## Branches and jumps (R77) -/

theorem shiftLeft_two (v : DWord) : v <<< 2 = 4 * v := by
  rw [BitVec.shiftLeft_eq_mul_twoPow, BitVec.mul_comm]
  rfl

theorem branch_taken {s : State} {t : TriadId} {rs1 rs2 : Reg} {off : Imm16} {c : DWord → DWord → Bool} (h : Ready s t)
    (hc : c (s.gx t rs1) (s.gx t rs2) = true) :
    ∃ u, branch t rs1 rs2 off c s = .next u ∧ WentTo s u t ((s.triad t).pc + 4 * off.signExtend 64) := by
  refine instr_went s t _ _ h ?_
  simp only [issue_gx, hc, if_true, sxI, shiftLeft_two]

theorem branch_notTaken {s : State} {t : TriadId} {rs1 rs2 : Reg} {off : Imm16} {c : DWord → DWord → Bool} (h : Ready s t)
    (hc : c (s.gx t rs1) (s.gx t rs2) = false) : ∃ u, branch t rs1 rs2 off c s = .next u ∧ WentTo s u t ((s.triad t).pc + 4) := by
  refine instr_moved s t _ h ?_
  simp only [issue_gx, hc, Bool.false_eq_true, if_false]

/-- Every row of the table of branches is a branch that tests the row's condition. -/
theorem exec_branchTable (s : State) (t : TriadId) (rs1 rs2 : Reg) (off : Imm16) :
    ∀ p ∈ Sys2Proof.Statements.branchTable t rs1 rs2 off, ∃ c : DWord → DWord → Bool,
      exec p.1 s = branch t rs1 rs2 off c s ∧ ∀ x y, c x y = true ↔ p.2 x y := by
  simp only [Sys2Proof.Statements.branchTable, List.forall_mem_cons, List.not_mem_nil, false_implies, implies_true, and_true]
  refine ⟨⟨_, exec_beq .., fun x y => ?_⟩, ⟨_, exec_bne .., fun x y => ?_⟩, ⟨_, exec_blt .., fun x y => ?_⟩, ⟨_, exec_bge .., fun x y => ?_⟩,
    ⟨_, exec_bltU .., fun x y => ?_⟩, ⟨_, exec_bgeU .., fun x y => ?_⟩⟩
  · exact beq_iff_eq
  · exact bne_iff_ne
  · exact BitVec.slt_iff_toInt_lt
  · rw [Bool.not_eq_true', Bool.eq_false_iff, ne_eq, BitVec.slt_iff_toInt_lt, not_lt]
  · exact BitVec.ult_iff_lt
  · rw [Bool.not_eq_true', Bool.eq_false_iff, ne_eq, BitVec.ult_iff_lt, BitVec.lt_def, not_lt]

/-- Settles O9: a branch sets the PC or leaves it at the next instruction, a jump sets it, and nothing else is touched. -/
theorem branchesAndJumps : Obligations.BranchesAndJumps := by
  intro s t rs1 rs2 off o26 hready
  refine ⟨fun p hp => ?_, ?_, ?_⟩
  · obtain ⟨c, hexec, hcond⟩ := exec_branchTable s t rs1 rs2 off p hp
    rw [hexec]
    exact ⟨fun htrue => branch_taken hready ((hcond _ _).mpr htrue),
      fun hfalse => branch_notTaken hready (eq_false_of_ne_true (mt (hcond _ _).mp hfalse))⟩
  · rw [exec_j]
    refine instr_went s t _ _ hready ?_
    rw [jTarget, shiftLeft_two]
  · rw [exec_jr]
    refine instr_went s t _ _ hready ?_
    rw [issue_gx]

/-! ## Stores and the accesses that stop (R77, R82, R90, R91, R109, R289) -/

/-- Every row of the table of stores is a store instruction of its width, and writes at least one byte. -/
theorem exec_storeTable (s : State) (t : TriadId) (rs2 rs1 : Reg) (imm : Imm16) :
    ∀ p ∈ Sys2Proof.Statements.storeTable t rs2 rs1 imm, 0 < p.2 ∧ exec p.1 s = storeInstr p.2 t rs2 rs1 imm s := by
  simp only [Sys2Proof.Statements.storeTable, List.forall_mem_cons, List.not_mem_nil, false_implies, implies_true, and_true]
  exact ⟨⟨by decide, exec_stB ..⟩, ⟨by decide, exec_stH ..⟩, ⟨by decide, exec_stW ..⟩, ⟨by decide, exec_stD ..⟩⟩

/-- Settles O14: every store is `storeInstr`, which on a ready triad and plain memory writes its bytes alone. -/
theorem storesWriteTheirBytesAlone : Obligations.StoresWriteTheirBytesAlone := by
  intro s t rs2 rs1 imm hready p hp hplain
  obtain ⟨hpos, hexec⟩ := exec_storeTable s t rs2 rs1 imm p hp
  rw [hexec]
  exact storeInstr_wrote s p.2 t rs2 rs1 imm hready hpos hplain

/-- Every row of the table of atomics is an atomic of the row's width, new value and extension. -/
theorem exec_atomicTable (s : State) (t : TriadId) (rd rs1 rs2 : Reg) :
    ∀ p ∈ Sys2Proof.Statements.atomicTable t rd rs1 rs2,
      (p.2.1 = 4 ∨ p.2.1 = 8) ∧ exec p.1 s = atomicInstr p.2.1 p.2.2.1 p.2.2.2 t rd rs1 rs2 s := by
  simp only [Sys2Proof.Statements.atomicTable, List.forall_mem_cons, List.not_mem_nil, false_implies, implies_true, and_true]
  exact ⟨⟨by decide, exec_aaddW ..⟩, ⟨by decide, exec_aaddD ..⟩, ⟨by decide, exec_aswpW ..⟩, ⟨by decide, exec_aswpD ..⟩⟩

/-- Settles O16: what stops a load, a store or an atomic stops its instruction before anything moves. -/
theorem accessesStopBeforeTheyMove : Obligations.AccessesStopBeforeTheyMove := by
  intro s t rd rs1 rs2 imm hready hopen
  refine ⟨fun p hp => ?_, fun p hp => ?_, fun p hp => ?_⟩
  · rw [(exec_atomicTable s t rd rs1 rs2 p hp).2]
    exact atomicInstr_stops s _ _ _ t rd rs1 rs2 hready hopen
  · rw [(exec_loadTable s t rd rs1 imm p hp).2]
    exact ⟨loadInstr_misaligned s _ _ t rd rs1 imm hready hopen, fun hdev b => (loadInstr_refused s _ _ t rd rs1 imm hready hopen hdev b).1,
      fun hdev b => (loadInstr_refused s _ _ t rd rs1 imm hready hopen hdev b).2⟩
  · rw [(exec_storeTable s t rs2 rs1 imm p hp).2]
    exact ⟨storeInstr_misaligned s _ t rs2 rs1 imm hready hopen, fun hdev b => (storeInstr_refused s _ t rs2 rs1 imm hready hopen hdev b).1,
      fun hdev b => (storeInstr_refused s _ t rs2 rs1 imm hready hopen hdev b).2⟩

/-! ## What an instruction leaves, from what its body left -/

theorem setG_eq (s : State) (t : Nat) (r : Reg) (v : DWord) : s.setG t r v = { s with triads := (s.setG t r v).triads } := by
  unfold State.setG
  split_ifs <;> rfl

theorem triad_setG_self (s : State) (t : Nat) (r : Reg) (v : DWord) :
    (s.setG t r v).triad t = { s.triad t with g := ((s.setG t r v).triad t).g } := by
  unfold State.setG
  split_ifs <;> simp

theorem triad_setG_other (s : State) {t q : Nat} (r : Reg) (v : DWord) (h : q ≠ t) : (s.setG t r v).triad q = s.triad q := by
  unfold State.setG
  split_ifs
  · rfl
  · exact State.triad_onTriad_other _ _ _ _ h.symm

/-- A triad one instruction further on. -/
def retired (x : Triad) : Triad := { x with instret := x.instret + 1 }

/-- An instruction whose body leaves its triad running ends by counting it. -/
theorem instr_retired {s m : State} {t : TriadId} {body : State → DWord → Res} (h : Ready s t)
    (hb : body (issue s t) (s.triad t).pc = .ok m) (hstep : (m.triad t).stepping = false) (hrun : (m.triad t).run = .running) :
    instr t body s = .next (m.onTriad t retired).drivePins := by
  have hend := finish_triad m t hstep (by rw [hrun]; decide)
  rw [instr_ok s m t body h hb]
  exact congrArg _ hend

theorem gx_retired (m : State) (t : Nat) (r : Reg) : (m.onTriad t retired).drivePins.gx t r = m.gx t r := by
  unfold State.gx
  rw [State.triad_drivePins, State.triad_onTriad_self]
  rfl

/-- A state that differs from `s` in triad `t` alone. -/
def SameBut (t : Nat) (s m : State) : Prop := m = { s with triads := m.triads } ∧ ∀ r, r ≠ t → m.triad r = s.triad r

theorem sameBut_refl (t : Nat) (s : State) : SameBut t s s := ⟨rfl, fun _ _ => rfl⟩

theorem sameBut_trans {t : Nat} {s m n : State} (h : SameBut t s m) (g : SameBut t m n) : SameBut t s n := by
  obtain ⟨hm, hmt⟩ := h
  obtain ⟨hn, hnt⟩ := g
  refine ⟨?_, fun r hr => (hnt r hr).trans (hmt r hr)⟩
  rw [hn, hm]

theorem sameBut_setG (s : State) (t : Nat) (r : Reg) (v : DWord) : SameBut t s (s.setG t r v) :=
  ⟨setG_eq s t r v, fun _ hq => triad_setG_other s r v hq⟩

theorem sameBut_onTriad (s : State) (t : Nat) (f : Triad → Triad) : SameBut t s (s.onTriad t f) :=
  ⟨rfl, fun _ hq => State.triad_onTriad_other s t _ f hq.symm⟩

theorem sameBut_issue (s : State) (t : Nat) : SameBut t s (issue s t) := ⟨rfl, fun r hr => issue_other s t r hr⟩

theorem byte_sameBut {t : Nat} {s m : State} (h : SameBut t s m) (a : Nat) : m.byte a = s.byte a := by rw [h.1]; rfl

theorem onlyTriad_of_sameBut {t : Nat} {s m : State} (h : SameBut t s m) : OnlyTriad s m.drivePins t := onlyTriad_of s m t h.1 h.2

/-- A body that stored `n` bytes at `a`, then changed its triad alone: the instruction stored there and nowhere else. -/
theorem storedAt_of_body {s s1 m : State} {t : TriadId} {a n : Nat} {bs : List Byte} (hmem : MemOnly (issue s t) s1) (hm : SameBut t s1 m)
    (hbytes : ∀ x, s1.byte x = if a ≤ x ∧ x < a + n then bs.getD (x - a) 0 else s.byte x) (herr : ∀ w ∈ wordsOf a n, s1.errOf w = .good) :
    StoredAt s (m.onTriad t retired).drivePins t a n := by
  obtain ⟨hmeq, hmother⟩ := sameBut_trans hm (sameBut_onTriad m t retired)
  generalize m.onTriad t retired = u at *
  refine ⟨fun x hx => ?_, fun w hw => ?_, fun r hr => ?_, ?_⟩
  · have hx1 := hbytes x
    rw [if_neg (by omega)] at hx1
    rw [State.byte_drivePins, hmeq]
    exact hx1
  · show u.errOf w = .good
    rw [hmeq]
    exact herr w hw
  · rw [State.triad_drivePins, hmother r hr, triad_memOnly hmem, issue_other s t r hr]
  · rw [hmeq, hmem]
    exact ⟨rfl, rfl, rfl, rfl, rfl⟩

/-- The value `n` bytes were written with reads back. -/
theorem le_of_bytes {u : State} {a n v : Nat} (h : ∀ x, a ≤ x → x < a + n → u.byte x = (leBytes n v).getD (x - a) 0) :
    u.le a n = v % 2 ^ (8 * n) := by
  have hbytes := le_eq u a (leBytes n v) (by rw [length_leBytes]; exact h)
  rw [length_leBytes] at hbytes
  rw [State.le, hbytes, leVal_leBytes]

/-! ## Atomics (R82) -/

/-- The addresses of the banks: Depot, and the low 4 MiB of each scratchpad's window. -/
theorem isBank_iff (s : State) (a : Nat) : (bankOf (s.region a) a).isSome = true ↔
    (0x20000000 ≤ a ∧ a < 0x21800000) ∨ (0x40000000 ≤ a ∧ a < 0x49000000 ∧ (a - 0x40000000) % 0x1000000 < 0x400000) := by
  unfold State.region
  split_ifs <;> simp only [bankOf, Option.isSome_some, Option.isSome_none, Bool.false_eq_true, true_iff, false_iff] <;> omega

/-- A byte's word lies in a bank where the byte does. -/
theorem isBank_word {s : State} {a : Nat} (h : (bankOf (s.region a) a).isSome = true) :
    (bankOf (s.region (a / 8 * 8)) (a / 8 * 8)).isSome = true := by
  rw [isBank_iff] at *
  omega

/-- A bank answers reads and writes alike. -/
theorem busError_bank {s : State} {a : Nat} (h : (bankOf (s.region a) a).isSome = true) : s.busError a true = s.busError a false := by
  unfold State.busError
  cases hr : s.region a <;> first | rfl | (rw [hr] at h; cases h)

/-- A whole good word written: its eight bytes, and every other byte as it was. -/
theorem putWord_plain (s : State) (u : Issuer) (r : Raise) (a : Nat) (bs : List Byte) (ha : a % 8 = 0) (hlen : bs.length = 8)
    (hroad : 1 ≤ u.unit → u.unit ≤ 18 → s.roadTo u.lane = none) (hbus : s.busError a true = false) (hgood : s.errOf (a / 8) = .good)
    (hinj : s.injectAt (a / 8) = false) :
    ∃ s1, s.putWords u r 2 a bs = (s1, none) ∧ MemOnly s s1 ∧
      (∀ x, s1.byte x = if a ≤ x ∧ x < a + bs.length then bs.getD (x - a) 0 else s.byte x) ∧ ∀ w, s.errOf w = .good → s1.errOf w = .good := by
  obtain ⟨s1, hstore, hmem, hbytes, herr⟩ := storeWord_good s a bs r hgood hinj
  have hdivert : (if 1 ≤ u.unit ∧ u.unit ≤ 18 then s.divertGranule u.lane a else (s, true)) = (s, true) := by
    split_ifs with hu
    · exact divert_home s u a (hroad hu.1 hu.2)
    · rfl
  have hne : bs.isEmpty = false := by cases bs <;> simp_all
  have htake : bs.take 8 = bs := List.take_of_length_le hlen.le
  have hdrop : bs.drop 8 = [] := List.drop_eq_nil_of_le hlen.le
  refine ⟨s1, ?_, hmem, hbytes, herr⟩
  simp only [State.putWords, hne, place_home s u a hroad, hbus, ha, Nat.sub_zero, hdivert, htake, hstore, hdrop, List.isEmpty_nil,
    Bool.not_true, Bool.false_eq_true, if_false, if_true]

/-- The new bytes of the word of an aligned atomic, in their places among the old ones. -/
theorem atomic_word_getD {old new : List Byte} {k n j : Nat} (hold : old.length = 8) (hnew : new.length = n) (hk : k + n ≤ 8) :
    (old.take k ++ new ++ old.drop (k + n)).getD j 0 = if k ≤ j ∧ j < k + n then new.getD (j - k) 0 else old.getD j 0 := by
  simp only [List.getD_eq_getElem?_getD, List.getElem?_append, List.length_append, List.length_take, hold, hnew, List.getElem?_take,
    List.getElem?_drop, Nat.min_eq_left (show k ≤ 8 by omega)]
  by_cases hin : k ≤ j ∧ j < k + n
  · rw [if_pos hin, if_pos (by omega), if_neg (by omega)]
  · rw [if_neg hin]
    by_cases hlow : j < k
    · rw [if_pos (by omega), if_pos hlow, if_pos hlow]
    · rw [if_neg (by omega), show k + n + (j - (k + n)) = j by omega]

theorem getD_bytes (s : State) {a n x : Nat} (hlo : a ≤ x) (hhi : x < a + n) : (s.bytes a n).getD (x - a) 0 = s.byte x := by
  rw [List.getD_eq_getElem _ _ (by simp [State.bytes]; omega)]
  simp only [State.bytes, List.getElem_map, List.getElem_range, Nat.add_sub_cancel' hlo]

/-- An aligned atomic on plain memory of a bank: the old value, and the new one in its bytes alone. -/
theorem atomic_plain (s : State) (t : TriadId) (a n : Nat) (f : Nat → Nat) (hn : n = 4 ∨ n = 8) (halign : a % n = 0)
    (hbank : (bankOf (s.region a) a).isSome = true) (h : PlainAccess s (s.triadIssuer t) a n .atomic false) :
    ∃ s1, s.atomic t a n f = .ok (s1, s.le a n) ∧ MemOnly s s1 ∧
      (∀ x, s1.byte x = if a ≤ x ∧ x < a + n then (leBytes n (f (s.le a n))).getD (x - a) 0 else s.byte x) ∧
      ∀ w ∈ wordsOf a n, s1.errOf w = .good := by
  have hin : a % 8 + n ≤ 8 := by rcases hn with rfl | rfl <;> omega
  have hpos : 0 < n := by omega
  have hword : a - a % 8 = a / 8 * 8 := by omega
  have hwords : wordsOf a n = [a / 8] := by
    simp only [wordsOf, show (a + n - 1) / 8 - a / 8 + 1 = 1 by omega]
    rfl
  obtain ⟨hgood, hinj⟩ := h.good (a / 8) (by simp [hwords])
  have hread : s.readEach (s.triadIssuer t) (raiseOf (s.triadIssuer t) 4) [a / 8] = ⟨s, s.bytes (a / 8 * 8) 8, none⟩ := by
    have hr := readEach_good s (s.triadIssuer t) (raiseOf (s.triadIssuer t) 4) (wordsOf a n) h.home
      fun w hw => ⟨wordsOf_there hpos h.there w hw, h.good w hw⟩
    rwa [hwords, List.flatMap_singleton, Nat.mul_comm] at hr
  have hold : leVal (((s.bytes (a / 8 * 8) 8).drop (a % 8)).take n) = s.le a n := by
    have hb := bytes_wordsOf s a n hpos
    rw [hwords, List.flatMap_singleton, Nat.mul_comm] at hb
    rw [hb, State.le]
  have hfault : s.atomicFault (s.triadIssuer t) a n = none := by
    have hsome : (bankOf (s.region a) a).isNone = false := by rw [← Option.not_isSome, hbank]; rfl
    simp only [State.atomicFault, halign, hsome, h.allowed, refused_ok, ne_eq, not_true, Bool.false_eq_true, if_false]
  have hbus : s.busError (a / 8 * 8) true = false := by
    rw [busError_bank (isBank_word hbank)]
    exact h.there _ le_rfl (by omega)
  have hlen8 : (s.bytes (a / 8 * 8) 8).length = 8 := by simp [State.bytes]
  have hnewlen : (leBytes n (f (s.le a n))).length = n := length_leBytes _ _
  generalize hnew : leBytes n (f (s.le a n)) = new at *
  have hlen : ((s.bytes (a / 8 * 8) 8).take (a % 8) ++ new ++ (s.bytes (a / 8 * 8) 8).drop (a % 8 + n)).length = 8 := by
    simp only [List.length_append, List.length_take, List.length_drop, hlen8, hnewlen]
    omega
  obtain ⟨s1, hput, hmem, hbytes, herr⟩ := putWord_plain s (s.triadIssuer t) (raiseOf (s.triadIssuer t) 4) (a / 8 * 8) _ (by omega) hlen h.home hbus
    (by rwa [Nat.mul_div_cancel _ (by decide)]) (by rwa [Nat.mul_div_cancel _ (by decide)])
  refine ⟨s1, ?_, hmem, fun x => ?_, fun w hw => herr w (h.good w hw).1⟩
  · simp only [State.atomic, hfault, hread, hold, hnew, hword, hput]
  · rw [hbytes, hlen]
    by_cases hx : a / 8 * 8 ≤ x ∧ x < a / 8 * 8 + 8
    · rw [if_pos hx, atomic_word_getD hlen8 hnewlen hin, getD_bytes s hx.1 hx.2]
      by_cases hxa : a ≤ x ∧ x < a + n
      · rw [if_pos (by omega), if_pos hxa, show x - a / 8 * 8 - a % 8 = x - a by omega]
      · rw [if_neg (by omega), if_neg hxa]
    · rw [if_neg hx, if_neg (by omega)]

/-- Settles O15: an atomic is `atomicInstr`, whose word is read, replaced and written back, and whose old value goes to g[rd]. -/
theorem atomicsReplaceAndReturnTheOldValue : Obligations.AtomicsReplaceAndReturnTheOldValue := by
  intro s t rd rs1 rs2 hready p hp
  obtain ⟨hn, hexec⟩ := exec_atomicTable s t rd rs1 rs2 p hp
  rw [hexec]
  obtain ⟨c, n, f, g⟩ := p
  dsimp only at hn ⊢
  intro halign hbank hplain
  have hissuer := triadIssuer_issue s t
  obtain ⟨s1, hatomic, hmem, hbytes, herr⟩ := atomic_plain (issue s t) t (s.gx t rs1).toNat n (fun old => f old (s.gx t rs2).toNat) hn halign
    (by rwa [region_issue]) (by rw [hissuer]; exact plain_issue hplain)
  set old := (issue s t).le (s.gx t rs1).toNat n with hold
  have htriad : (s1.setG t rd (g old)).triad t = { s.triad t with
      run := .running, pc := (s.triad t).pc + 4, g := ((s1.setG t rd (g old)).triad t).g } := by
    rw [triad_setG_self, triad_memOnly hmem, issue_triad]
  have hsame := sameBut_setG s1 t rd (g old)
  have hgx := State.gx_setG s1 t rd
  have hbody : instr t (fun s _ => match s.atomic t (s.gx t rs1).toNat n (fun old => f old (s.gx t rs2).toNat) with
      | .error e => .error e
      | .ok (s1, old) => .ok (s1.setG t rd (g old))) s = .next ((s1.setG t rd (g old)).onTriad t retired).drivePins :=
    instr_retired hready (by simp only [issue_gx, hatomic]) (by rw [htriad]; exact hready.free) (by rw [htriad])
  refine ⟨_, hbody, ?_, storedAt_of_body hmem hsame hbytes herr, fun r => ?_, ?_⟩
  · refine le_of_bytes fun x hlo hhi => ?_
    have hx := hbytes x
    rw [if_pos ⟨hlo, hhi⟩] at hx
    rw [State.byte_drivePins, State.byte_onTriad, byte_sameBut hsame]
    exact hx
  · rw [gx_retired, hgx, State.gx, triad_memOnly hmem]
    exact congrArg _ (issue_gx s t r)
  · rw [State.triad_drivePins, State.triad_onTriad_self, htriad]
    rfl

end Sys2Proof.Proofs

namespace Sys2Proof.Proofs
open Sys2Proof.Machine Sys2Proof.Safety

/-! ## Control registers (R71 to R74, R85, R101, R104) -/

/-- An instruction whose body writes one general register. -/
theorem instr_wroteG {s : State} {t : TriadId} {rd : Reg} {v : DWord} {body : State → DWord → Res} (h : Ready s t)
    (hb : body (issue s t) (s.triad t).pc = .ok ((issue s t).setG t rd v)) : ∃ u, instr t body s = .next u ∧ WroteG s u t rd v := by
  obtain ⟨u, hexec, hwrote⟩ := instrG_wrote s t rd (fun _ _ => v) h
  refine ⟨u, ?_, hwrote⟩
  rw [← hexec, instrG, instr_ready s t _ h, instr_ready s t _ h, hb]

/-- An instruction whose body traps, its triad as it was found. -/
theorem instr_trapped {s : State} {t : TriadId} {code : Nat} {val : DWord} {body : State → DWord → Res} (h : Ready s t) (ho : Open s t)
    (hb : body (issue s t) (s.triad t).pc = trap (issue s t) code val) (hcode : code ≠ 0x15) :
    ∃ u, instr t body s = .next u ∧ Stopped s u t code val :=
  instr_stopped s (issue s t) t ⟨code, val, false, 0⟩ body h ho hb hcode rfl rfl rfl fun _ => rfl

/-- Neither the PC nor the run state of a triad is a control register. -/
theorem mfc_issue (s : State) (t : TriadId) (n : Nat) : (issue s t).mfc t n = s.mfc t n := by
  simp only [State.mfc, State.ctlValue, issue_triad]
  rfl

theorem mfc_reads {s : State} {t : TriadId} {l : Nat} (g : Reg) (n : N12) (h : Ready s t) (hread : ctlRead n.toNat = some l)
    (hlevel : l ≤ (s.triad t).level) : ∃ u, exec (.mfc t g n) s = .next u ∧ WroteG s u t g (s.mfc t n.toNat) := by
  rw [exec_mfc]
  refine instr_wroteG h ?_
  simp only [hread, issue_level, Nat.not_lt.mpr hlevel, if_false, mfc_issue]

theorem mfc_reserved {s : State} {t : TriadId} (g : Reg) (n : N12) (h : Ready s t) (hread : ctlRead n.toNat = none) :
    ∃ u, exec (.mfc t g n) s = .next u ∧ WroteG s u t g 0 := by
  rw [exec_mfc]
  refine instr_wroteG h ?_
  simp only [hread]

theorem mfc_privileged {s : State} {t : TriadId} {l : Nat} (g : Reg) (n : N12) (h : Ready s t) (ho : Open s t) (hread : ctlRead n.toNat = some l)
    (hlevel : (s.triad t).level < l) : ∃ u, exec (.mfc t g n) s = .next u ∧ Stopped s u t 0x02 (encC 0 g n) := by
  rw [exec_mfc]
  refine instr_trapped h ho ?_ (by decide)
  simp only [hread, issue_level, hlevel, if_true]

/-- A row of the registers no barrier delays: the level it is read at, and what MFC returns. -/
theorem mfcTable_row (s : State) (t : Nat) : ∀ p ∈ Sys2Proof.Statements.mfcTable s t, ctlRead p.1.toNat = some p.2.1 ∧ s.mfc t p.1.toNat = p.2.2 := by
  simp only [Sys2Proof.Statements.mfcTable, List.forall_mem_cons, List.not_mem_nil, false_implies, implies_true, and_true]
  and_intros <;> rfl

/-- A row of the sync registers: the level it is read at, and what MFC returns, a pending value before the one in force. -/
theorem syncTable_row (s : State) (t : Nat) : ∀ p ∈ Sys2Proof.Statements.syncTable s t,
    ctlRead p.1.toNat = some p.2.1 ∧ s.mfc t p.1.toNat = ((s.triad t).pending p.1.toNat).getD p.2.2 := by
  simp only [Sys2Proof.Statements.syncTable, List.forall_mem_cons, List.not_mem_nil, false_implies, implies_true, and_true]
  and_intros <;> rfl

theorem mfcReadsControlRegisters : Sys2Proof.Statements.MfcReadsControlRegisters := by
  intro s t g hready
  refine ⟨fun p hp hlevel => ?_, fun p hp hlevel => ?_, fun n hn => mfc_reserved g n hready hn, fun p hp hlevel hopen => ?_⟩
  · obtain ⟨hread, hvalue⟩ := mfcTable_row s t p hp
    rw [← hvalue]
    exact mfc_reads g p.1 hready hread hlevel
  · obtain ⟨hread, hvalue⟩ := syncTable_row s t p hp
    rw [← hvalue]
    exact mfc_reads g p.1 hready hread hlevel
  · have hread : ctlRead p.1.toNat = some p.2.1 := by
      rcases List.mem_append.mp hp with hp | hp
      · exact (mfcTable_row s t p hp).1
      · exact (syncTable_row s t p hp).1
    exact mfc_privileged g p.1 hready hopen hread hlevel

/-- Every register of the table of writes is one that Roadbed may write. -/
theorem mtcTable_writable (v : DWord) : ∀ p ∈ Sys2Proof.Statements.mtcTable v,
    (∃ l, ctlRead p.1.toNat = some l) ∧ ∀ x : Triad, x.ctlWrite p.1.toNat ≤ 2 := by
  intro p hp
  fin_cases hp <;> exact ⟨⟨_, rfl⟩, fun _ => Nat.le_of_ble_eq_true rfl⟩

/-- EVAL and ESCRATCH hold every bit. -/
theorem mtc_whole (m : State) (t : Nat) (v : DWord) :
    (m.mtc t 0x004 v = m.onTriad t fun x => { x with eval := v }) ∧ (m.mtc t 0x006 v = m.onTriad t fun x => { x with escratch := v }) := by
  have heval : m.mtc t 0x004 v = m.onTriad t fun x => { x with eval := v &&& BitVec.allOnes 64 } := by cases t <;> rfl
  have hscratch : m.mtc t 0x006 v = m.onTriad t fun x => { x with escratch := v &&& BitVec.allOnes 64 } := by cases t <;> rfl
  rw [BitVec.and_allOnes] at heval hscratch
  exact ⟨heval, hscratch⟩

/-- A write to a register of the table changes its triad by the row's function. -/
theorem mtcTable_mtc (m : State) (t : Nat) (v : DWord) : ∀ p ∈ Sys2Proof.Statements.mtcTable v, m.mtc t p.1.toNat v = m.onTriad t p.2 := by
  obtain ⟨heval, hscratch⟩ := mtc_whole m t v
  simp only [Sys2Proof.Statements.mtcTable, List.forall_mem_cons, List.not_mem_nil, false_implies, implies_true, and_true]
  refine ⟨?_, ?_, ?_, ?_, heval, hscratch, ?_, ?_, ?_, ?_, ?_⟩ <;> cases t <;> rfl

/-- The registers of the table are none of what the frame of an instruction sets. -/
theorem mtcTable_frame (v : DWord) : ∀ p ∈ Sys2Proof.Statements.mtcTable v,
    (∀ x : Triad, (p.2 x).stepping = x.stepping ∧ (p.2 x).run = x.run ∧ (p.2 x).instret = x.instret) ∧
      ∀ (x : Triad) (pc : DWord), p.2 { x with run := .running, pc := pc } = { p.2 x with run := .running, pc := pc } := by
  intro p hp
  fin_cases hp <;> exact ⟨fun _ => ⟨rfl, rfl, rfl⟩, fun _ _ => rfl⟩

theorem mtc_writes {s : State} {t : TriadId} (g : Reg) (h : Ready s t) (hlevel : (s.triad t).level = 2)
    {p : N12 × (Triad → Triad)} (hp : p ∈ Sys2Proof.Statements.mtcTable (s.gx t g)) :
    ∃ u, exec (.mtc t g p.1) s = .next u ∧ Changed s u t p.2 := by
  obtain ⟨⟨l, hread⟩, hwrite⟩ := mtcTable_writable _ p hp
  obtain ⟨hkeeps, hcomm⟩ := mtcTable_frame _ p hp
  rw [exec_mtc]
  refine instr_changed s t p.2 _ h ?_ (fun x => (hkeeps x).1) (fun x => (hkeeps x).2.1) (fun x => (hkeeps x).2.2) (hcomm _ _)
  simp only [hread, issue_level, hlevel, Nat.not_lt.mpr (hwrite _), if_false, issue_gx, mtcTable_mtc _ _ _ p hp]

theorem mtc_privileged {s : State} {t : TriadId} (g : Reg) {n : N12} {l : Nat} (h : Ready s t) (ho : Open s t) (hlevel : (s.triad t).level = 2)
    (hread : ctlRead n.toNat = some l) (hwrite : ∀ x : Triad, x.ctlWrite n.toNat = 3) :
    ∃ u, exec (.mtc t g n) s = .next u ∧ Stopped s u t 0x02 (encC 1 g n) := by
  rw [exec_mtc]
  refine instr_trapped h ho ?_ (by decide)
  simp only [hread, issue_level, hlevel, hwrite, show 2 < 3 by decide, if_true]

theorem mtc_reserved {s : State} {t : TriadId} (g : Reg) {n : N12} (h : Ready s t) (ho : Open s t) (hread : ctlRead n.toNat = none) :
    ∃ u, exec (.mtc t g n) s = .next u ∧ Stopped s u t 0x01 (encC 1 g n) := by
  rw [exec_mtc]
  refine instr_trapped h ho ?_ (by decide)
  simp only [hread]

/-- The registers no level writes. -/
theorem readOnly_registers : ∀ n ∈ [(0x042 : N12), 0x050, 0x051, 0x052, 0x060, 0x061],
    (∃ l, ctlRead n.toNat = some l) ∧ ∀ x : Triad, x.ctlWrite n.toNat = 3 := by
  intro n hn
  fin_cases hn <;> exact ⟨⟨_, rfl⟩, fun _ => rfl⟩

theorem mtcWritesControlRegisters : Sys2Proof.Statements.MtcWritesControlRegisters := by
  intro s t g hready hlevel
  refine ⟨fun p hp => mtc_writes g hready hlevel hp, fun hopen => ⟨fun n hn => ?_, fun n hn => mtc_reserved g hready hopen hn⟩⟩
  obtain ⟨⟨l, hread⟩, hwrite⟩ := readOnly_registers n hn
  exact mtc_privileged g hready hopen hlevel hread hwrite

/-- Settles O18: each register's row of the tables names its access level and the model's own read or write of it. -/
theorem controlRegisterMoves : Obligations.ControlRegisterMoves := ⟨mfcReadsControlRegisters, mtcWritesControlRegisters⟩

/-! ## Barriers, waits and Waymarks (R77, R81, R85 to R87, R95, R101, R338) -/

theorem issue_pend (s : State) (t : TriadId) : ((issue s t).triad t).pend = (s.triad t).pend := by rw [issue_triad]

theorem pending_nil {x : Triad} (h : x.pend = []) (k : Nat) : x.pending k = none := by rw [Triad.pending, h]; rfl

theorem pending_single {x : Triad} {k : Nat} {v : DWord} (h : x.pend = [(k, v)]) (j : Nat) : x.pending j = if k = j then some v else none := by
  rw [Triad.pending, h]
  by_cases hj : k = j <;> simp [hj]

theorem applyPend_nil {x : Triad} (h : x.pend = []) : x.applyPend = { x with pend := [] } := by rw [Triad.applyPend, h]; rfl

theorem applyPend_single {x : Triad} {k : Nat} {v : DWord} (h : x.pend = [(k, v)]) : x.applyPend = { x.applyPending k v with pend := [] } := by
  rw [Triad.applyPend, h]
  rfl

/-- Where no TASKID is pending, a barrier's values go to its triad alone. -/
theorem applySyncs_of_noTask {m : State} {t : Nat} (h : (m.triad t).pending 0x040 = none) :
    m.applySyncs t = m.onTriad t Triad.applyPend := by
  simp only [State.applySyncs, h]
  rfl

/-- SYNC.C with neither TGSET nor TASKID pending applies what is pending. -/
theorem syncC_applies {m : State} {t : Nat} (hset : (m.triad t).pending 0x030 = none) (htask : (m.triad t).pending 0x040 = none) :
    m.syncC t = .ok (m.onTriad t Triad.applyPend) := by
  simp only [State.syncC, hset, applySyncs_of_noTask htask]

/-- The sync registers a barrier applies to its triad alone, each with what its value changes. -/
def appliedRows (v : DWord) : List (Nat × (Triad → Triad)) :=
  [(0x005, fun x => { x with evbase := v, pend := [] }), (0x020, fun x => { x with vcfg := v, pend := [] }),
   (0x031, fun x => { x with evrbase := v, pend := [] }), (0x010, fun x => { x with ssFoot := { x.ssFoot with ssp := v }, pend := [] }),
   (0x1011, fun x => { x with ssCarr := { x.ssCarr with ssbase := v }, pend := [] }),
   (0x2012, fun x => { x with ssRoad := { x.ssRoad with sslimit := v }, pend := [] })]

theorem appliedRows_apply (v : DWord) : ∀ p ∈ appliedRows v, p.1 ≠ 0x030 ∧ p.1 ≠ 0x040 ∧
    ∀ x : Triad, { x.applyPending p.1 v with pend := [] } = p.2 x := by
  intro p hp
  fin_cases hp <;>
    exact ⟨Nat.ne_of_beq_eq_false rfl, Nat.ne_of_beq_eq_false rfl, fun x => by simp [Triad.applyPending, Triad.setShadow, Triad.shadowOf]⟩

theorem appliedRows_frame (v : DWord) : ∀ p ∈ appliedRows v,
    (∀ x : Triad, (p.2 x).stepping = x.stepping ∧ (p.2 x).run = x.run ∧ (p.2 x).instret = x.instret) ∧
      ∀ (x : Triad) (pc : DWord), p.2 { x with run := .running, pc := pc } = { p.2 x with run := .running, pc := pc } := by
  intro p hp
  fin_cases hp <;> exact ⟨fun _ => ⟨rfl, rfl, rfl⟩, fun _ _ => rfl⟩

theorem syncC_one {s : State} {t : TriadId} {v : DWord} (h : Ready s t) {p : Nat × (Triad → Triad)} (hp : p ∈ appliedRows v)
    (hpend : (s.triad t).pend = [(p.1, v)]) : ∃ u, exec (.syncC t) s = .next u ∧ Changed s u t p.2 := by
  obtain ⟨hset, htask, hrow⟩ := appliedRows_apply v p hp
  obtain ⟨hkeeps, hcomm⟩ := appliedRows_frame v p hp
  rw [← issue_pend] at hpend
  have happly : (issue s t).onTriad t Triad.applyPend = (issue s t).onTriad t p.2 := by
    unfold State.onTriad
    rw [applyPend_single hpend, hrow]
  rw [exec_syncC]
  refine instr_changed s t p.2 _ h ?_ (fun x => (hkeeps x).1) (fun x => (hkeeps x).2.1) (fun x => (hkeeps x).2.2) (hcomm _ _)
  rw [← happly]
  exact syncC_applies (by rw [pending_single hpend, if_neg hset]) (by rw [pending_single hpend, if_neg htask])

theorem syncC_none {s : State} {t : TriadId} (h : Ready s t) (hpend : (s.triad t).pend = []) :
    ∃ u, exec (.syncC t) s = .next u ∧ WentTo s u t ((s.triad t).pc + 4) := by
  have hissue := (issue_pend s t).trans hpend
  obtain ⟨u, hexec, honly, htriad⟩ := instr_changed s t (fun x => { x with pend := [] }) (fun s _ => s.syncC t) h
    (by
      rw [syncC_applies (pending_nil hissue _) (pending_nil hissue _)]
      unfold State.onTriad
      rw [applyPend_nil hissue])
    (fun _ => rfl) (fun _ => rfl) (fun _ => rfl) rfl
  refine ⟨u, hexec, honly, ?_⟩
  rw [htriad, ← hpend]

theorem dropPending_single {x : Triad} {k : Nat} {v : DWord} (h : x.pend = [(k, v)]) : x.dropPending k = { x with pend := [] } := by
  have hdrop : Sparse.drop x.pend k = [] := by rw [h]; simp [Sparse.drop]
  rw [Triad.dropPending, hdrop]

theorem triad_applySet (s : State) (u k t : Nat) : (s.applySet u k).triad t = s.triad t :=
  (triad_of_offRegs (offRegs_put _ _ _) t).trans (triad_of_offRegs (offRegs_put _ _ _) t)

theorem ruleSet_put (s : State) (f : Fld) (n u k : Nat) : (s.put f n).ruleSet u k = s.ruleSet u k := rfl

theorem ruleSet_onTriad (s : State) (t : Nat) (f : Triad → Triad) (u k : Nat) : (s.onTriad t f).ruleSet u k = s.ruleSet u k := rfl

theorem ruleSet_drivePins (s : State) (u k : Nat) : s.drivePins.ruleSet u k = s.ruleSet u k := rfl

theorem ruleSet_applySet (s : State) (u k : Nat) : (s.applySet u k).ruleSet u k = s.stagedSet u k := by
  rw [State.applySet, ruleSet_put, ruleSet_put]
  exact Sparse.get_set_self _ _ _ _

/-- The state in which a SYNC.C applies the staged set TGSET names. -/
def tgsetTaken (m : State) (t : Nat) (v : DWord) : State :=
  (m.setTriad t { m.triad t with pend := [], tgset := v }).applySet t (v.toNat % 4)

theorem triad_tgsetTaken (m : State) (t : Nat) (v : DWord) : (tgsetTaken m t v).triad t = { m.triad t with pend := [], tgset := v } := by
  rw [tgsetTaken, triad_applySet, State.triad_setTriad_self]

theorem ruleSet_tgsetTaken (m : State) (t : Nat) (v : DWord) : (tgsetTaken m t v).ruleSet t (v.toNat % 4) = m.stagedSet t (v.toNat % 4) :=
  ruleSet_applySet _ _ _

/-- SYNC.C with TGSET alone pending: the staged set is judged, then applied or discarded (R86, R291). -/
theorem syncC_tgset {m : State} {t : Nat} {v : DWord} (hpend : (m.triad t).pend = [(0x030, v)]) :
    m.syncC t = if (m.stagedSet t (v.toNat % 4)).bad then
      .error (⟨0x08, v, false, 0⟩, (m.setTriad t { m.triad t with pend := [] }).onTriad t Triad.applyPend)
    else .ok ((tgsetTaken m t v).onTriad t Triad.applyPend) := by
  have hset : (m.triad t).pending 0x030 = some v := by rw [pending_single hpend, if_pos rfl]
  have hgone : ∀ {n : State}, (n.triad t).pend = [] → n.applySyncs t = n.onTriad t Triad.applyPend :=
    fun hn => applySyncs_of_noTask (pending_nil hn _)
  rw [State.syncC]
  simp only [hset, dropPending_single hpend]
  rw [hgone (congrArg Triad.pend (State.triad_setTriad_self m t _)), ← tgsetTaken, hgone (congrArg Triad.pend (triad_tgsetTaken m t v))]

/-- SYNC.C with a TGSET whose staged set is sound: the set comes into force, and TGSET names it. -/
theorem syncC_tgset_applied {s : State} {t : TriadId} {v : DWord} (h : Ready s t) (hpend : (s.triad t).pend = [(0x030, v)])
    (hgood : (s.stagedSet t (v.toNat % 4)).bad = false) :
    ∃ u, exec (.syncC t) s = .next u ∧ (u.triad t).tgset = v ∧ (u.triad t).pend = [] ∧
      u.ruleSet t (v.toNat % 4) = s.stagedSet t (v.toNat % 4) := by
  have hbody := syncC_tgset ((issue_pend s t).trans hpend)
  rw [show (issue s t).stagedSet t (v.toNat % 4) = s.stagedSet t (v.toNat % 4) from rfl, hgood, if_neg (by decide)] at hbody
  have hnt := triad_tgsetTaken (issue s t) t v
  have hm : ((tgsetTaken (issue s t) t v).onTriad t Triad.applyPend).triad t =
      { s.triad t with run := .running, pc := (s.triad t).pc + 4, pend := [], tgset := v } := by
    rw [State.triad_onTriad_self, applyPend_nil (congrArg Triad.pend hnt), hnt, issue_triad]
  have hu := instr_retired (body := fun s _ => s.syncC t) h hbody (by rw [hm]; exact h.free) (by rw [hm])
  rw [exec_syncC]
  refine ⟨_, hu, ?_⟩
  rw [State.triad_drivePins, State.triad_onTriad_self, hm, ruleSet_drivePins, ruleSet_onTriad, ruleSet_onTriad, ruleSet_tgsetTaken]
  exact ⟨rfl, rfl, rfl⟩

theorem entry_stepping (x : Triad) (e : Exc) (l : Nat) (pc : DWord) : (entry x e l pc).stepping = x.stepping := rfl

theorem entry_tgset (x : Triad) (e : Exc) (l : Nat) (pc : DWord) : (entry x e l pc).tgset = x.tgset := rfl

theorem entry_eval (x : Triad) (e : Exc) (l : Nat) (pc : DWord) : (entry x e l pc).eval = e.val := rfl

/-- The low byte of ECAUSE holds the cause's code (R109). -/
theorem entry_cause (x : Triad) {e : Exc} (l : Nat) (pc : DWord) (hcode : e.code < 256) : (entry x e l pc).ecause.toNat % 256 = e.code := by
  simp only [entry, BitVec.toNat_ofNat]
  split_ifs <;> omega

/-- SYNC.C with a TGSET whose staged set is at fault: TOLLGATE_CONFIG, and TGSET as it was. -/
theorem syncC_tgset_refused {s : State} {t : TriadId} {v : DWord} (h : Ready s t) (ho : Open s t) (hpend : (s.triad t).pend = [(0x030, v)])
    (hbad : (s.stagedSet t (v.toNat % 4)).bad = true) :
    ∃ u, exec (.syncC t) s = .next u ∧ (u.triad t).tgset = (s.triad t).tgset ∧ (u.triad t).ecause.toNat % 256 = 0x08 ∧ (u.triad t).eval = v := by
  have hbody := syncC_tgset ((issue_pend s t).trans hpend)
  rw [show (issue s t).stagedSet t (v.toNat % 4) = s.stagedSet t (v.toNat % 4) from rfl, hbad, if_pos rfl] at hbody
  generalize hmdef : ((issue s t).setTriad t { (issue s t).triad t with pend := [] }).onTriad t Triad.applyPend = m at hbody
  have hm : m.triad t = { s.triad t with run := .running, pc := (s.triad t).pc + 4, pend := [] } := by
    rw [← hmdef, State.triad_onTriad_self, State.triad_setTriad_self, applyPend_nil rfl, issue_triad]
  have hx : (m.setPc t (s.triad t).pc).triad t = { s.triad t with run := .running, pend := [] } := by
    rw [State.setPc, State.triad_onTriad_self, hm]
  obtain ⟨g, hraise⟩ := raiseSync_open (m.setPc t (s.triad t).pc) t ⟨0x08, v, false, 0⟩ (by rw [hx]; exact ho.1) (by rw [hx]; exact ho.2)
    (Nat.ne_of_beq_eq_false rfl)
  have hu := instr_error s m t _ (fun s _ => s.syncC t) h hbody
  have htriad : ((m.setPc t (s.triad t).pc).raiseSync t ⟨0x08, v, false, 0⟩).triad t =
      entry { s.triad t with run := .running, pend := [] } ⟨0x08, v, false, 0⟩ (syncTarget 0x08 (s.triad t).level) (s.triad t).pc := by
    rw [hraise, State.triad_eng, State.triad_setTriad_self, hx]
    rfl
  rw [State.endStep_free _ _ (by rw [htriad, entry_stepping]; exact h.free)] at hu
  rw [exec_syncC]
  refine ⟨_, hu, ?_⟩
  rw [State.triad_drivePins, htriad, entry_tgset, entry_eval]
  exact ⟨rfl, entry_cause _ _ _ (by norm_num), rfl⟩

theorem syncAppliesPendingValues : Sys2Proof.Statements.SyncAppliesPendingValues := by
  intro s t v hready
  exact ⟨fun p hp hpend => syncC_one hready hp hpend, syncC_none hready, syncC_tgset_applied hready,
    fun hpend hbad hopen _ => syncC_tgset_refused hready hopen hpend hbad⟩

theorem waitCmd_waits {s : State} {t : TriadId} (h : Ready s t) (hlevel : 1 ≤ (s.triad t).level) :
    ∃ u, exec (.waitCmd t) s = .next u ∧ OnlyTriad s u t ∧
      u.triad t = { s.triad t with pc := (s.triad t).pc + 4, instret := (s.triad t).instret + 1, run := .waiting } := by
  have hm : ((issue s t).onTriad t fun x => { x with run := .waiting }).triad t =
      { s.triad t with run := .waiting, pc := (s.triad t).pc + 4 } := by rw [State.triad_onTriad_self, issue_triad]
  rw [exec_waitCmd]
  obtain ⟨u, hexec, honly, htriad⟩ := instr_only s ((issue s t).onTriad t fun x => { x with run := .waiting }) t
    (fun s _ => if (s.triad t).level = 0 then trap s 0x02 (encC 0x08 0 0) else .ok (s.onTriad t fun x => { x with run := .waiting })) h
    (by simp only [issue_level, show (s.triad t).level ≠ 0 by omega, if_false]) rfl
    (sameBut_trans (sameBut_issue s t) (sameBut_onTriad _ t _)).2 (by rw [hm]; exact h.free) (by rw [hm]; nofun)
  exact ⟨u, hexec, honly, by rw [htriad, hm]⟩

theorem waitCmd_privileged {s : State} {t : TriadId} (h : Ready s t) (hlevel : (s.triad t).level = 0) (ho : Open s t) :
    ∃ u, exec (.waitCmd t) s = .next u ∧ Stopped s u t 0x02 (encC 8 0 0) := by
  rw [exec_waitCmd]
  refine instr_trapped h ho ?_ (by decide)
  simp only [issue_level, hlevel, if_true]

/-- WAYMARK with no armed task only moves on. -/
theorem waymark_unarmed {s : State} {t : TriadId} (n : N12) (h : Ready s t) (harm : t.val = 0 ∨ (s.triad t).taskid.getLsbD 31 = false) :
    ∃ u, exec (.waymark t n) s = .next u ∧ WentTo s u t ((s.triad t).pc + 4) := by
  rw [exec_waymark]
  refine instr_moved s t _ h ?_
  have hno : (t.val ≠ 0 && ((issue s t).triad t).taskid.getLsbD 31) = false := by
    rw [issue_triad]
    rcases harm with h0 | hclear
    · rw [h0]; rfl
    · rw [hclear, Bool.and_false]
  simp only [hno, Bool.false_eq_true, if_false]

theorem window_drivePins (s : State) (k : Nat) : s.drivePins.window k = s.window k := rfl

theorem window_setWindow_self (s : State) (k : Nat) (w : Window) : (s.setWindow k w).window k = w := Sparse.get_set_self _ _ _ _

/-- A check-in below the expected count is counted, with its time, and does nothing else (R338). -/
theorem checkIn_counts {s : State} {p : Nat} (pc point : Nat) (hopen : s.flag (WMK_WINDOW_OPEN p) = true)
    (hcount : (s.window p).count < s.get (WMK_EXPECT_EXPECT p (s.get (WMK_WINDOW_TASK p)))) :
    s.checkIn p pc point = s.setWindow p { s.window p with count := (s.window p).count + 1, lastAt := some s.time } := by
  unfold State.checkIn
  rw [hopen, Bool.not_true, if_neg Bool.false_ne_true]
  refine if_neg ?_
  rw [Bool.and_eq_true, decide_eq_true_eq]
  exact fun hflag => absurd hflag.1 hcount.ne

theorem byte_setWindow (s : State) (k : Nat) (w : Window) (a : Nat) : (s.setWindow k w).byte a = s.byte a := rfl

theorem regs_setWindow (s : State) (k : Nat) (w : Window) : (s.setWindow k w).regs = s.regs := rfl

theorem fcu_setWindow (s : State) (k : Nat) (w : Window) : (s.setWindow k w).fcu = s.fcu := rfl

theorem waymark_counts {s : State} {t : TriadId} (n : N12) (h : Ready s t) (hlane : t.val ≠ 0) (harm : (s.triad t).taskid.getLsbD 31 = true)
    (hopen : s.flag (WMK_WINDOW_OPEN (laneOf t)) = true)
    (hcount : (s.window (laneOf t)).count < s.get (WMK_EXPECT_EXPECT (laneOf t) (s.get (WMK_WINDOW_TASK (laneOf t))))) :
    ∃ u, exec (.waymark t n) s = .next u ∧
      u.triad t = { s.triad t with pc := (s.triad t).pc + 4, instret := (s.triad t).instret + 1, run := .running } ∧
      u.window (laneOf t) = { s.window (laneOf t) with count := (s.window (laneOf t)).count + 1, lastAt := some s.time } ∧
      u.regs = s.regs ∧ u.fcu = s.fcu ∧ ∀ a, u.byte a = s.byte a := by
  generalize hw : ({ s.window (laneOf t) with count := (s.window (laneOf t)).count + 1, lastAt := some s.time } : Window) = w
  have hm : ((issue s t).setWindow (laneOf t) w).triad t = { s.triad t with run := .running, pc := (s.triad t).pc + 4 } := issue_triad s t
  have hcheck : (issue s t).checkIn (laneOf t) (s.triad t).pc.toNat n.toNat = (issue s t).setWindow (laneOf t) w :=
    (checkIn_counts (s := issue s t) _ _ hopen hcount).trans (congrArg _ hw)
  have harmed : (t.val ≠ 0 && ((issue s t).triad t).taskid.getLsbD 31) = true := by rw [issue_triad]; simp [hlane, harm]
  have hu := instr_retired (body := fun s pc =>
      .ok (if t.val ≠ 0 && (s.triad t).taskid.getLsbD 31 then s.checkIn (laneOf t) pc.toNat n.toNat else s)) h
    (by rw [if_pos harmed, hcheck]) (by rw [hm]; exact h.free) (by rw [hm])
  rw [exec_waymark]
  refine ⟨_, hu, ?_⟩
  refine ⟨?_, ?_, regs_setWindow (issue s t) (laneOf t) w, fcu_setWindow (issue s t) (laneOf t) w, fun a => ?_⟩
  · rw [State.triad_drivePins, State.triad_onTriad_self, hm]
    rfl
  · rw [window_drivePins, window_onTriad, window_setWindow_self]
  · rw [State.byte_drivePins, State.byte_onTriad, byte_setWindow, issue_byte]

theorem barriersWaitsAndWaymarks : Sys2Proof.Statements.BarriersWaitsAndWaymarks := by
  intro s t n hready
  rw [exec_syncI, exec_syncM]
  exact ⟨instr_moved s t _ hready rfl, instr_moved s t _ hready rfl, waitCmd_waits hready, waitCmd_privileged hready,
    waymark_unarmed n hready, waymark_counts n hready⟩

/-- Settles O19: a barrier applies what is pending, and the other instructions have the effects said of each. -/
theorem barriersApplyAndWait : Obligations.BarriersApplyAndWait := ⟨syncAppliesPendingValues, barriersWaitsAndWaymarks⟩

end Sys2Proof.Proofs

namespace Sys2Proof.Proofs
open Sys2Proof.Machine Sys2Proof.Safety

/-! ## Block instructions (R92 to R94) -/

/-- A state inside the body of an instruction of triad `t`: of the triad its general registers alone have moved, beside the PC past the
instruction; memory may have. -/
structure Midway (s m : State) (t : Nat) : Prop where
  regs : m.regs = s.regs
  triad : m.triad t = { s.triad t with run := .running, pc := (s.triad t).pc + 4, g := (m.triad t).g }

theorem midway_memOnly {s m : State} {t : Nat} (h : MemOnly (issue s t) m) : Midway s m t := by
  refine ⟨by rw [h]; rfl, ?_⟩
  rw [triad_memOnly h, issue_triad]

theorem Midway.setG {s m : State} {t : Nat} (h : Midway s m t) (r : Reg) (v : DWord) : Midway s (m.setG t r v) t := by
  refine ⟨(congrArg State.regs (setG_eq m t r v)).trans h.regs, ?_⟩
  rw [triad_setG_self, h.triad]

/-- What the next interrupt turns on: the registers, and of the triad what a step leaves alone. -/
theorem nextInterrupt_congr {s m : State} {t : Nat} (hregs : m.regs = s.regs) (hstatus : (m.triad t).status = (s.triad t).status)
    (hevr : (m.triad t).evrbase = (s.triad t).evrbase) (hcheck : (m.triad t).check = (s.triad t).check)
    (hover : (m.triad t).overrun = (s.triad t).overrun) : m.nextInterrupt t = s.nextInterrupt t := by
  have hpending : ∀ l e, m.pendingAt t l e = s.pendingAt t l e := fun l e => by
    simp only [State.pendingAt, State.eventPending, State.flag, State.get, State.reg, hregs, hevr]
    rfl
  have hready : ∀ l, m.readyAt t l = s.readyAt t l := fun l => by
    simp only [State.readyAt, State.bestEvent, hpending, Triad.level, Triad.exl, hstatus]
    rfl
  simp only [State.nextInterrupt, hready, Triad.asyncOpen, Triad.level, Triad.exl, hstatus, hcheck, hover]
  rfl

theorem Midway.nextInterrupt {s m : State} {t : Nat} (h : Midway s m t) : m.nextInterrupt t = s.nextInterrupt t :=
  nextInterrupt_congr h.regs (by rw [h.triad]) (by rw [h.triad]) (by rw [h.triad]) (by rw [h.triad])

/-- The PC after a step of `k` bytes (R93). -/
def stepPc (s : State) (t : Nat) (rs2 : Reg) (k : Nat) : DWord :=
  if s.gx t rs2 = BitVec.ofNat 64 k ∧ s.nextInterrupt t = none then (s.triad t).pc + 4 else (s.triad t).pc

/-- The end of a step: the count falls, and the PC is back at the instruction where it is to run again. -/
theorem stepDone_ends {s m : State} {t : Nat} {rs2 : Reg} {k : Nat} (h : Midway s m t) (hcount : m.gx t rs2 = s.gx t rs2) :
    SameBut t m (m.stepDone t rs2 k (s.triad t).pc) ∧ (m.stepDone t rs2 k (s.triad t).pc).triad t =
      { (m.setG t rs2 (s.gx t rs2 - BitVec.ofNat 64 k)).triad t with pc := stepPc s t rs2 k } := by
  have hzero : s.gx t rs2 - BitVec.ofNat 64 k = 0 ↔ s.gx t rs2 = BitVec.ofNat 64 k := sub_eq_zero
  have hset := sameBut_setG m t rs2 (s.gx t rs2 - BitVec.ofNat 64 k)
  have hmid := h.setG rs2 (s.gx t rs2 - BitVec.ofNat 64 k)
  simp only [State.stepDone, stepPc, hcount, hmid.nextInterrupt, Bool.and_eq_true, decide_eq_true_eq, hzero, Option.isNone_iff_eq_none]
  split_ifs
  · exact ⟨hset, by rw [hmid.triad]⟩
  · exact ⟨sameBut_trans hset (sameBut_onTriad _ t _), State.triad_onTriad_self _ t _⟩

/-- A step of a block instruction whose body ends in `stepDone`: its count falls, and beside its triad nothing moves after `m`. -/
theorem blockInstr_steps {s m : State} {t : TriadId} {rd rs1 rs2 : Reg} {func : Nat} {step : State → Nat → DWord → Res} (h : Ready s t)
    (hregs : blockRegs (func = 1) rd rs1 rs2 = true) (hne : s.gx t rs2 ≠ 0) (hm : Midway s m t) (hcount : m.gx t rs2 = s.gx t rs2)
    (hstep : step (issue s t) (min 64 (s.gx t rs2).toNat) (s.triad t).pc =
      .ok (m.stepDone t rs2 (min 64 (s.gx t rs2).toNat) (s.triad t).pc)) :
    ∃ n, blockInstr func t rd rs1 rs2 step s = .next (n.onTriad t retired).drivePins ∧ SameBut t m n ∧
      Sys2Proof.Statements.Stepped s (n.onTriad t retired).drivePins t rs2 (min 64 (s.gx t rs2).toNat) ∧
      ∀ r, r ≠ rs2 → (n.onTriad t retired).drivePins.gx t r = m.gx t r := by
  have hrs2 : rs2 ≠ 0 := by rintro rfl; exact hne rfl
  have hlen : (issue s t).stepLen t rs2 = min 64 (s.gx t rs2).toNat := by rw [State.stepLen, issue_gx]
  generalize min 64 (s.gx t rs2).toNat = k at *
  obtain ⟨hsame, htriad⟩ := stepDone_ends (k := k) hm hcount
  have hmid := hm.setG rs2 (s.gx t rs2 - BitVec.ofNat 64 k)
  have hgx : ∀ r, (m.stepDone t rs2 k (s.triad t).pc).gx t r = if r = rs2 then s.gx t rs2 - BitVec.ofNat 64 k else m.gx t r := fun r => by
    have hset := State.gx_setG m t rs2 r (s.gx t rs2 - BitVec.ofNat 64 k)
    simp only [and_iff_left hrs2] at hset
    rw [← hset, State.gx, htriad]
    rfl
  generalize m.stepDone t rs2 k (s.triad t).pc = n at *
  have hexec : blockInstr func t rd rs1 rs2 step s = .next (n.onTriad t retired).drivePins := by
    refine instr_retired h ?_ (by rw [htriad, hmid.triad]; exact h.free) (by rw [htriad, hmid.triad])
    simp only [hregs, issue_gx, hne, hlen, hstep, Bool.not_true, Bool.false_eq_true, if_false]
  refine ⟨n, hexec, hsame, ⟨?_, ?_⟩, fun r hr => ?_⟩
  · rw [gx_retired, hgx, if_pos rfl]
  · rw [State.triad_drivePins, State.triad_onTriad_self, htriad]
    rfl
  · rw [gx_retired, hgx, if_neg hr]

/-- A read of the first `k` of `n` plain bytes. -/
theorem blockRead_plain {s : State} {u : Issuer} {a n k : Nat} {kd : AccKind} (h : PlainAccess s u a n kd false) (hpos : 0 < k) (hle : k ≤ n) :
    s.blockRead u a k = (s, s.bytes a k, none) := by
  have hdev : isDevice a = false := (Bool.or_eq_false_iff.mp h.normal).1
  have hwords : ∀ w ∈ wordsOf a k, w ∈ wordsOf a n := fun w hw => by
    simp only [wordsOf, List.mem_map, List.mem_range] at hw ⊢
    obtain ⟨i, hi, rfl⟩ := hw
    exact ⟨i, by omega, rfl⟩
  have hread := readEach_good s u (raiseOf u 5) (wordsOf a k) h.home fun w hw =>
    ⟨wordsOf_there (by omega) h.there w (hwords w hw), h.good w (hwords w hw)⟩
  simp only [State.blockRead, hdev, hread, bytes_wordsOf s a k hpos, Bool.false_eq_true, if_false, Option.map_none]

/-- Only memory changed, and of memory only the `k` bytes at `a`: they are `bs`, in words with good check bits. -/
structure WroteBytes (s s1 : State) (a k : Nat) (bs : List Byte) : Prop where
  mem : MemOnly s s1
  bytes : ∀ x, s1.byte x = if a ≤ x ∧ x < a + k then bs.getD (x - a) 0 else s.byte x
  err : ∀ w ∈ wordsOf a k, s1.errOf w = .good

/-- A write of plain bytes. -/
theorem blockWrite_plain {s : State} {u : Issuer} {a k : Nat} {bs : List Byte} {kd : AccKind} (hlen : bs.length = k)
    (h : PlainAccess s u a k kd true) :
    ∃ s1, s.blockWrite u a bs = .ok s1 ∧ WroteBytes s s1 a k bs := by
  subst hlen
  have hdev : isDevice a = false := (Bool.or_eq_false_iff.mp h.normal).1
  obtain ⟨s1, hput, hmem, hbytes, herr⟩ := putWords_plain u (raiseOf u 5) (bs.length + 1) s a bs (by omega) h.home
    (fun x h1 h2 => h.there x (by omega) h2) (fun x => good_bytes h.good x)
  refine ⟨s1, ?_, ⟨hmem, hbytes, fun w hw => herr w (h.good w hw).1⟩⟩
  simp only [State.blockWrite, hdev, hput, Bool.false_eq_true, if_false]

theorem length_bytes (s : State) (a n : Nat) : (s.bytes a n).length = n := by simp [State.bytes]

theorem length_ascending {d k : Nat} {src : List Byte} (h : d = 0 → src.length = k) : (ascending d k src).length = k := by
  unfold ascending
  split_ifs with hd
  · exact h hd
  · simp

/-- A byte-ascending copy repeats the bytes between the two places (R94). -/
theorem ascending_getD (s : State) {a d k j : Nat} (hj : j < k) :
    (ascending d k (s.bytes a (if d = 0 then k else min d k))).getD j 0 = s.byte (a + if d = 0 then j else j % d) := by
  have hget : ∀ {i n : Nat}, i < n → (s.bytes a n).getD i 0 = s.byte (a + i) := fun {i n} hi => by
    have hbyte := getD_bytes s (Nat.le_add_right a i) (Nat.add_lt_add_left hi a)
    rwa [Nat.add_sub_cancel_left] at hbyte
  unfold ascending
  split_ifs with hd
  · exact hget hj
  · have hmod : j % d < min d k := lt_min (Nat.mod_lt _ (by omega)) ((Nat.mod_le _ _).trans_lt hj)
    rw [List.getD_eq_getElem _ _ (by simpa using hj), List.getElem_map, List.getElem_range, hget hmod]

theorem blockRegs_distinct {fill : Bool} {rd rs1 rs2 : Reg} (h : blockRegs fill rd rs1 rs2 = true) :
    rd ≠ rs1 ∧ rd ≠ rs2 ∧ rs1 ≠ rs2 ∧ rd ≠ 0 ∧ (fill = true ∨ rs1 ≠ 0) := by
  simp only [blockRegs, Bool.and_eq_true, Bool.or_eq_true, bne_iff_ne] at h
  obtain ⟨⟨⟨⟨⟨h1, h2⟩, h3⟩, h4⟩, -⟩, h5⟩ := h
  exact ⟨h1, h2, h3, h4, h5⟩

theorem gx_memOnly {s s1 : State} {t : TriadId} (h : MemOnly (issue s t) s1) (r : Reg) : s1.gx t r = s.gx t r :=
  (by rw [State.gx, triad_memOnly h]; rfl : s1.gx t r = (issue s t).gx t r).trans (issue_gx s t r)

theorem gx_setG_same (s : State) (t : Nat) {r : Reg} (v : DWord) (h : r ≠ 0) : (s.setG t r v).gx t r = v := by
  rw [State.gx_setG, if_pos ⟨rfl, h⟩]

theorem gx_setG_other (s : State) (t : Nat) {r q : Reg} (v : DWord) (h : q ≠ r) : (s.setG t r v).gx t q = s.gx t q := by
  rw [State.gx_setG, if_neg fun hq => h hq.1]

/-- A plain step of BMOVE writes the bytes of an ascending copy, and moves both addresses on. -/
theorem bmoveStep_plain {s : State} {t k : Nat} {rd rs1 rs2 : Reg} (pc : DWord) (hpos : 0 < k)
    (hsrc : PlainAccess s (s.triadIssuer t) (s.gx t rs1).toNat k .load false)
    (hdst : PlainAccess s (s.triadIssuer t) (s.gx t rd).toNat k .store true) :
    ∃ (s1 : State) (bs : List Byte), WroteBytes s s1 (s.gx t rd).toNat k bs ∧
      (∀ j < k, bs.getD j 0 = s.byte ((s.gx t rs1).toNat +
        if (s.gx t rd).toNat ≤ (s.gx t rs1).toNat then j else j % ((s.gx t rd).toNat - (s.gx t rs1).toNat))) ∧
      s.bmoveStep t rd rs1 rs2 k pc =
        .ok (((s1.setG t rd (s1.gx t rd + BitVec.ofNat 64 k)).setG t rs1 (s1.gx t rs1 + BitVec.ofNat 64 k)).stepDone t rs2 k pc) := by
  generalize hdist : (s.gx t rd).toNat - (s.gx t rs1).toNat = d
  have hread : s.blockRead (s.triadIssuer t) (s.gx t rs1).toNat (if d = 0 then k else min d k) = (s, s.bytes _ _, none) :=
    blockRead_plain hsrc (by split_ifs <;> omega) (by split_ifs <;> omega)
  have hlen : (ascending d k (s.bytes (s.gx t rs1).toNat (if d = 0 then k else min d k))).length = k :=
    length_ascending fun hd => by rw [length_bytes, if_pos hd]
  obtain ⟨s1, hwrite, hwrote⟩ := blockWrite_plain hlen hdst
  refine ⟨s1, _, hwrote, fun j hj => ?_, ?_⟩
  · rw [ascending_getD s hj]
    simp only [← hdist, Nat.sub_eq_zero_iff_le]
  · simp only [State.bmoveStep, hdist, hsrc.allowed, hdst.allowed, refused_ok, Option.orElse_none, hread, hwrite, Option.isSome_none,
      Bool.false_eq_true, if_false]

/-- Byte a mod 8 of a pattern at each address a of a step (R93). -/
theorem pattern_getD (x : DWord) {a k j : Nat} (hj : j < k) :
    ((List.range k).map fun i => BitVec.ofNat 8 (x.toNat / 256 ^ ((a + i) % 8))).getD j 0 = x.extractLsb' (8 * ((a + j) % 8)) 8 := by
  rw [List.getD_eq_getElem _ _ (by simpa using hj), List.getElem_map, List.getElem_range, extract_byte]

/-- A plain step of BFILL writes the pattern's bytes, and moves the address on. -/
theorem bfillStep_plain {s : State} {t k : Nat} {rd rs1 rs2 : Reg} (pc : DWord)
    (hdst : PlainAccess s (s.triadIssuer t) (s.gx t rd).toNat k .store true) :
    ∃ (s1 : State) (bs : List Byte), WroteBytes s s1 (s.gx t rd).toNat k bs ∧
      (∀ j < k, bs.getD j 0 = (s.gx t rs1).extractLsb' (8 * (((s.gx t rd).toNat + j) % 8)) 8) ∧
      s.bfillStep t rd rs1 rs2 k pc = .ok ((s1.setG t rd (s1.gx t rd + BitVec.ofNat 64 k)).stepDone t rs2 k pc) := by
  obtain ⟨s1, hwrite, hwrote⟩ := blockWrite_plain (bs := (List.range k).map fun i =>
    BitVec.ofNat 8 ((s.gx t rs1).toNat / 256 ^ (((s.gx t rd).toNat + i) % 8))) (by simp) hdst
  refine ⟨s1, _, hwrote, fun j hj => pattern_getD _ hj, ?_⟩
  simp only [State.bfillStep, hdst.allowed, refused_ok, hwrite]

/-- A plain step of BCRC folds its bytes into g[rd], and moves the address on. -/
theorem bcrcStep_plain {s : State} {t k : Nat} {rd rs1 rs2 : Reg} (pc : DWord) (hpos : 0 < k)
    (hsrc : PlainAccess s (s.triadIssuer t) (s.gx t rs1).toNat k .load false) :
    s.bcrcStep t rd rs1 rs2 k pc = .ok (((s.setG t rd ((crcUpdate ((s.gx t rd).setWidth 32) (s.bytes (s.gx t rs1).toNat k)).setWidth 64)).setG t rs1
      (s.gx t rs1 + BitVec.ofNat 64 k)).stepDone t rs2 k pc) := by
  simp only [State.bcrcStep, hsrc.allowed, refused_ok, blockRead_plain hsrc hpos le_rfl]

/-- The bytes a body stored are those found after the instruction. -/
theorem byte_of_body {m n : State} {t : TriadId} (h : SameBut t m n) (x : Nat) : (n.onTriad t retired).drivePins.byte x = m.byte x := by
  rw [State.byte_drivePins, State.byte_onTriad, byte_sameBut h]

theorem stepLen_pos {v : DWord} (h : v ≠ 0) : 0 < min 64 v.toNat := by
  have hv : v.toNat ≠ 0 := fun h0 => h (BitVec.eq_of_toNat_eq h0)
  omega

/-- An issued instruction finds plain what its triad found plain. -/
theorem plain_issued {s : State} {t : TriadId} {r : Reg} {k : Nat} {kd : AccKind} {w : Bool}
    (h : PlainAccess s (s.triadIssuer t) (s.gx t r).toNat k kd w) :
    PlainAccess (issue s t) ((issue s t).triadIssuer t) ((issue s t).gx t r).toNat k kd w := by
  rw [triadIssuer_issue, issue_gx]
  exact plain_issue h

theorem bmove_steps {s : State} {t : TriadId} {rd rs1 rs2 : Reg} (h : Ready s t) (hne : s.gx t rs2 ≠ 0)
    (hregs : blockRegs false rd rs1 rs2 = true)
    (hsrc : PlainAccess s (s.triadIssuer t) (s.gx t rs1).toNat (min 64 (s.gx t rs2).toNat) .load false)
    (hdst : PlainAccess s (s.triadIssuer t) (s.gx t rd).toNat (min 64 (s.gx t rs2).toNat) .store true) :
    ∃ u, exec (.bmove t rd rs1 rs2) s = .next u ∧
      (∀ j < min 64 (s.gx t rs2).toNat, u.byte ((s.gx t rd).toNat + j) = s.byte ((s.gx t rs1).toNat +
        if (s.gx t rd).toNat ≤ (s.gx t rs1).toNat then j else j % ((s.gx t rd).toNat - (s.gx t rs1).toNat))) ∧
      StoredAt s u t (s.gx t rd).toNat (min 64 (s.gx t rs2).toNat) ∧
      u.gx t rd = s.gx t rd + BitVec.ofNat 64 (min 64 (s.gx t rs2).toNat) ∧
      u.gx t rs1 = s.gx t rs1 + BitVec.ofNat 64 (min 64 (s.gx t rs2).toNat) ∧
      Sys2Proof.Statements.Stepped s u t rs2 (min 64 (s.gx t rs2).toNat) ∧ ∀ r, r ≠ rd → r ≠ rs1 → r ≠ rs2 → u.gx t r = s.gx t r := by
  obtain ⟨hd1, hd2, h12, hd0, hfill⟩ := blockRegs_distinct hregs
  have h10 : rs1 ≠ 0 := hfill.resolve_left Bool.false_ne_true
  obtain ⟨s1, bs, ⟨hmem, hbytes, herr⟩, hbs, hstep⟩ :=
    bmoveStep_plain (rs2 := rs2) (s.triad t).pc (stepLen_pos hne) (plain_issued hsrc) (plain_issued hdst)
  simp only [issue_gx, issue_byte] at hbytes herr hbs
  simp only [gx_memOnly hmem] at hstep
  generalize hk : min 64 (s.gx t rs2).toNat = k at *
  have hsame := sameBut_trans (sameBut_setG s1 t rd (s.gx t rd + BitVec.ofNat 64 k)) (sameBut_setG _ t rs1 (s.gx t rs1 + BitVec.ofNat 64 k))
  have hmid := ((midway_memOnly hmem).setG rd (s.gx t rd + BitVec.ofNat 64 k)).setG rs1 (s.gx t rs1 + BitVec.ofNat 64 k)
  have hkept : ∀ r, r ≠ rd → r ≠ rs1 → ((s1.setG t rd (s.gx t rd + BitVec.ofNat 64 k)).setG t rs1 (s.gx t rs1 + BitVec.ofNat 64 k)).gx t r =
      s.gx t r := fun r hr hr1 => by rw [gx_setG_other _ _ _ hr1, gx_setG_other _ _ _ hr, gx_memOnly hmem]
  obtain ⟨n, hexec, hn, hstepped, hgx⟩ := blockInstr_steps (func := 0) (step := fun s k pc => s.bmoveStep t rd rs1 rs2 k pc) h hregs hne hmid
    (hkept rs2 hd2.symm h12.symm) (by rw [hk]; exact hstep)
  rw [hk] at hstepped
  rw [exec_bmove]
  refine ⟨_, hexec, fun j hj => ?_, storedAt_of_body hmem (sameBut_trans hsame hn) hbytes herr, ?_, ?_, hstepped, fun r hr hr1 hr2 => ?_⟩
  · rw [byte_of_body (sameBut_trans hsame hn), hbytes, if_pos (by omega), Nat.add_sub_cancel_left, hbs j hj]
  · rw [hgx rd hd2, gx_setG_other _ _ _ hd1, gx_setG_same _ _ _ hd0]
  · rw [hgx rs1 h12, gx_setG_same _ _ _ h10]
  · rw [hgx r hr2, hkept r hr hr1]

theorem bfill_steps {s : State} {t : TriadId} {rd rs1 rs2 : Reg} (h : Ready s t) (hne : s.gx t rs2 ≠ 0)
    (hregs : blockRegs true rd rs1 rs2 = true)
    (hdst : PlainAccess s (s.triadIssuer t) (s.gx t rd).toNat (min 64 (s.gx t rs2).toNat) .store true) :
    ∃ u, exec (.bfill t rd rs1 rs2) s = .next u ∧
      (∀ j < min 64 (s.gx t rs2).toNat, u.byte ((s.gx t rd).toNat + j) = (s.gx t rs1).extractLsb' (8 * (((s.gx t rd).toNat + j) % 8)) 8) ∧
      StoredAt s u t (s.gx t rd).toNat (min 64 (s.gx t rs2).toNat) ∧
      u.gx t rd = s.gx t rd + BitVec.ofNat 64 (min 64 (s.gx t rs2).toNat) ∧
      Sys2Proof.Statements.Stepped s u t rs2 (min 64 (s.gx t rs2).toNat) ∧ ∀ r, r ≠ rd → r ≠ rs2 → u.gx t r = s.gx t r := by
  obtain ⟨-, hd2, -, hd0, -⟩ := blockRegs_distinct hregs
  obtain ⟨s1, bs, ⟨hmem, hbytes, herr⟩, hbs, hstep⟩ :=
    bfillStep_plain (rs1 := rs1) (rs2 := rs2) (s.triad t).pc (plain_issued hdst)
  simp only [issue_gx, issue_byte] at hbytes herr hbs
  simp only [gx_memOnly hmem] at hstep
  generalize hk : min 64 (s.gx t rs2).toNat = k at *
  have hsame := sameBut_setG s1 t rd (s.gx t rd + BitVec.ofNat 64 k)
  have hkept : ∀ r, r ≠ rd → (s1.setG t rd (s.gx t rd + BitVec.ofNat 64 k)).gx t r = s.gx t r := fun r hr => by
    rw [gx_setG_other _ _ _ hr, gx_memOnly hmem]
  obtain ⟨n, hexec, hn, hstepped, hgx⟩ := blockInstr_steps (func := 1) (step := fun s k pc => s.bfillStep t rd rs1 rs2 k pc) h hregs hne
    ((midway_memOnly hmem).setG rd _) (hkept rs2 hd2.symm) (by rw [hk]; exact hstep)
  rw [hk] at hstepped
  rw [exec_bfill]
  refine ⟨_, hexec, fun j hj => ?_, storedAt_of_body hmem (sameBut_trans hsame hn) hbytes herr, ?_, hstepped, fun r hr hr2 => ?_⟩
  · rw [byte_of_body (sameBut_trans hsame hn), hbytes, if_pos (by omega), Nat.add_sub_cancel_left, hbs j hj]
  · rw [hgx rd hd2, gx_setG_same _ _ _ hd0]
  · rw [hgx r hr2, hkept r hr]

theorem bcrc_steps {s : State} {t : TriadId} {rd rs1 rs2 : Reg} (h : Ready s t) (hne : s.gx t rs2 ≠ 0)
    (hregs : blockRegs false rd rs1 rs2 = true)
    (hsrc : PlainAccess s (s.triadIssuer t) (s.gx t rs1).toNat (min 64 (s.gx t rs2).toNat) .load false) :
    ∃ u, exec (.bcrc t rd rs1 rs2) s = .next u ∧ OnlyTriad s u t ∧
      u.gx t rd = (crcUpdate ((s.gx t rd).setWidth 32) (s.bytes (s.gx t rs1).toNat (min 64 (s.gx t rs2).toNat))).setWidth 64 ∧
      u.gx t rs1 = s.gx t rs1 + BitVec.ofNat 64 (min 64 (s.gx t rs2).toNat) ∧
      Sys2Proof.Statements.Stepped s u t rs2 (min 64 (s.gx t rs2).toNat) ∧ ∀ r, r ≠ rd → r ≠ rs1 → r ≠ rs2 → u.gx t r = s.gx t r := by
  obtain ⟨hd1, hd2, h12, hd0, hfill⟩ := blockRegs_distinct hregs
  have h10 : rs1 ≠ 0 := hfill.resolve_left Bool.false_ne_true
  have hstep := bcrcStep_plain (rd := rd) (rs2 := rs2) (s.triad t).pc (stepLen_pos hne) (plain_issued hsrc)
  have hbytes : (issue s t).bytes (s.gx t rs1).toNat (min 64 (s.gx t rs2).toNat) = s.bytes (s.gx t rs1).toNat (min 64 (s.gx t rs2).toNat) := rfl
  simp only [issue_gx, hbytes] at hstep
  generalize hk : min 64 (s.gx t rs2).toNat = k at *
  generalize (crcUpdate ((s.gx t rd).setWidth 32) (s.bytes (s.gx t rs1).toNat k)).setWidth 64 = c at *
  have hsame := sameBut_trans (sameBut_setG (issue s t) t rd c) (sameBut_setG _ t rs1 (s.gx t rs1 + BitVec.ofNat 64 k))
  have hmid := ((midway_memOnly (MemOnly.refl (issue s t))).setG rd c).setG rs1 (s.gx t rs1 + BitVec.ofNat 64 k)
  have hkept : ∀ r, r ≠ rd → r ≠ rs1 → (((issue s t).setG t rd c).setG t rs1 (s.gx t rs1 + BitVec.ofNat 64 k)).gx t r = s.gx t r :=
    fun r hr hr1 => by rw [gx_setG_other _ _ _ hr1, gx_setG_other _ _ _ hr, issue_gx]
  obtain ⟨n, hexec, hn, hstepped, hgx⟩ := blockInstr_steps (func := 2) (step := fun s k pc => s.bcrcStep t rd rs1 rs2 k pc) h hregs hne hmid
    (hkept rs2 hd2.symm h12.symm) (by rw [hk]; exact hstep)
  rw [hk] at hstepped
  rw [exec_bcrc]
  refine ⟨_, hexec, ?_, ?_, ?_, hstepped, fun r hr hr1 hr2 => ?_⟩
  · exact onlyTriad_of_sameBut (sameBut_trans (sameBut_trans (sameBut_trans (sameBut_issue s t) hsame) hn) (sameBut_onTriad n t retired))
  · rw [hgx rd hd2, gx_setG_other _ _ _ hd1, gx_setG_same _ _ _ hd0]
  · rw [hgx rs1 h12, gx_setG_same _ _ _ h10]
  · rw [hgx r hr2, hkept r hr hr1]

theorem blockInstructionsMoveOneStep : Sys2Proof.Statements.BlockInstructionsMoveOneStep := by
  intro s t rd rs1 rs2 hready hne
  exact ⟨bmove_steps hready hne, bfill_steps hready hne, bcrc_steps hready hne⟩

theorem blockInstr_ends {s : State} {t : TriadId} {rd rs1 rs2 : Reg} {func : Nat} {step : State → Nat → DWord → Res} (h : Ready s t)
    (hregs : blockRegs (func = 1) rd rs1 rs2 = true) (hzero : s.gx t rs2 = 0) :
    ∃ u, blockInstr func t rd rs1 rs2 step s = .next u ∧ WentTo s u t ((s.triad t).pc + 4) := by
  refine instr_moved s t _ h ?_
  simp only [hregs, issue_gx, hzero, Bool.not_true, Bool.false_eq_true, if_false, if_true]

theorem blockInstr_refuses {s : State} {t : TriadId} {rd rs1 rs2 : Reg} {func : Nat} {step : State → Nat → DWord → Res} (h : Ready s t)
    (hregs : blockRegs (func = 1) rd rs1 rs2 = false) (ho : Open s t) :
    ∃ u, blockInstr func t rd rs1 rs2 step s = .next u ∧ Stopped s u t 0x01 (encBlock func rd rs1 rs2) := by
  refine instr_trapped h ho ?_ (by decide)
  simp only [hregs, Bool.not_false, if_true]

theorem exec_blockTable (s : State) (t : TriadId) (rd rs1 rs2 : Reg) :
    ∀ p ∈ [(Instr.bmove t rd rs1 rs2, false, 0), (Instr.bfill t rd rs1 rs2, true, 1), (Instr.bcrc t rd rs1 rs2, false, 2)],
      p.2.1 = decide (p.2.2 = 1) ∧ ∃ step, exec p.1 s = blockInstr p.2.2 t rd rs1 rs2 step s := by
  simp only [List.forall_mem_cons, List.not_mem_nil, false_implies, implies_true, and_true]
  exact ⟨⟨rfl, _, exec_bmove _ _ _ _ _⟩, ⟨rfl, _, exec_bfill _ _ _ _ _⟩, ⟨rfl, _, exec_bcrc _ _ _ _ _⟩⟩

theorem blockInstructionsEndAndRefuse : Sys2Proof.Statements.BlockInstructionsEndAndRefuse := by
  intro s t rd rs1 rs2 hready p hp
  obtain ⟨hfill, step, hexec⟩ := exec_blockTable s t rd rs1 rs2 p hp
  rw [hexec, hfill]
  exact ⟨blockInstr_ends hready, blockInstr_refuses hready⟩

/-- Settles O17: each block instruction is `blockInstr` with its own step, which reads and writes plain memory and then ends in `stepDone`. -/
theorem blockInstructions : Obligations.BlockInstructions := ⟨blockInstructionsMoveOneStep, blockInstructionsEndAndRefuse⟩

end Sys2Proof.Proofs

namespace Sys2Proof.Proofs
open Sys2Proof.Machine Sys2Proof.Safety

/-! ## Calls and returns (R114 to R117) -/

/-- A triad with the shadow-stack pointer of its level moved to `v`. -/
def withSsp (x : Triad) (v : DWord) : Triad := x.setShadow x.level { x.shadowOf x.level with ssp := v }

theorem withSsp_eq (x : Triad) (v : DWord) :
    withSsp x v = { x with ssFoot := (withSsp x v).ssFoot, ssCarr := (withSsp x v).ssCarr, ssRoad := (withSsp x v).ssRoad } := by
  unfold withSsp Triad.setShadow
  split_ifs <;> rfl

theorem level_withSsp (x : Triad) (v : DWord) : (withSsp x v).level = x.level := by
  rw [withSsp_eq]
  rfl

theorem shadowOf_withSsp (x : Triad) (v : DWord) : (withSsp x v).shadowOf x.level = { x.shadowOf x.level with ssp := v } := by
  unfold withSsp Triad.setShadow Triad.shadowOf
  split_ifs <;> rfl

theorem stackOf_of_withSsp {n s : State} {t : Nat} {v pc : DWord} {g : Sparse DWord} (h : n.triad t = { withSsp (s.triad t) v with g := g, pc := pc }) :
    stackOf (n.onTriad t retired).drivePins t = { stackOf s t with ssp := v } := by
  have hstack : stackOf (n.onTriad t retired).drivePins t = (withSsp (s.triad t) v).shadowOf (withSsp (s.triad t) v).level := by
    rw [stackOf, State.triad_drivePins, State.triad_onTriad_self, h]
    rfl
  rw [hstack, level_withSsp, shadowOf_withSsp, stackOf]

theorem stackOf_issue (s : State) (t : TriadId) : stackOf (issue s t) t = stackOf s t := by
  rw [stackOf, issue_triad]
  rfl

theorem gx_of_g {m n : State} {t : Nat} (h : (n.triad t).g = (m.triad t).g) (r : Reg) : n.gx t r = m.gx t r := by
  rw [State.gx, h, State.gx]

/-- A shadow stack without room refuses a push. -/
theorem push_full {s : State} {t : Nat} (ret : DWord) (hfull : (stackOf s t).ssp.toNat < (stackOf s t).sslimit.toNat + 8) :
    s.push t ret = trap s 0x13 (stackOf s t).ssp := if_pos hfull

/-- A push with room, onto plain memory, stores the address with bit 0 set and moves the pointer down. -/
theorem push_plain {s : State} {t : Nat} (ret : DWord) (hroom : (stackOf s t).sslimit.toNat + 8 ≤ (stackOf s t).ssp.toNat)
    (h : PlainAccess s (s.triadIssuer t) ((stackOf s t).ssp.toNat - 8) 8 .push true) :
    ∃ s1, s.push t ret = .ok (s1.setTriad t (withSsp (s.triad t) ((stackOf s t).ssp - 8))) ∧
      WroteBytes s s1 ((stackOf s t).ssp.toNat - 8) 8 (leBytes 8 (ret ||| 1).toNat) := by
  have hlen : (leBytes 8 (ret ||| 1).toNat).length = 8 := length_leBytes _ _
  obtain ⟨s1, hstore, hmem, hbytes, herr⟩ := storeAt_plain s (s.triadIssuer t) ((stackOf s t).ssp.toNat - 8) _ .push 3 false
    (hlen.symm ▸ by decide) (hlen.symm ▸ h)
  rw [hlen] at hbytes herr
  refine ⟨s1, ?_, hmem, hbytes, herr⟩
  unfold stackOf at hroom hstore
  simp only [State.push, Nat.not_lt.mpr hroom, hstore, if_false, State.onTriad, triad_memOnly hmem]
  rfl

/-- A call with room: its push, g31 and the PC. -/
theorem callTo_plain {s : State} {t : Nat} (pc target : DWord) (hroom : (stackOf s t).sslimit.toNat + 8 ≤ (stackOf s t).ssp.toNat)
    (h : PlainAccess s (s.triadIssuer t) ((stackOf s t).ssp.toNat - 8) 8 .push true) :
    ∃ s1 n, s.callTo t pc target = .ok n ∧ WroteBytes s s1 ((stackOf s t).ssp.toNat - 8) 8 (leBytes 8 (pc + 4 ||| 1).toNat) ∧ SameBut t s1 n ∧
      n.triad t = { withSsp (s.triad t) ((stackOf s t).ssp - 8) with g := (n.triad t).g, pc := target } ∧
      ∀ r, n.gx t r = if r = 31 then pc + 4 else s.gx t r := by
  obtain ⟨s1, hpush, hwrote⟩ := push_plain (pc + 4) hroom h
  set x := withSsp (s.triad t) ((stackOf s t).ssp - 8) with hx
  have hset := sameBut_onTriad s1 t fun _ => x
  have hpc := sameBut_onTriad ((s1.setTriad t x).setG t 31 (pc + 4)) t fun y => { y with pc := target }
  refine ⟨s1, ((s1.setTriad t x).setG t 31 (pc + 4)).setPc t target, ?_, hwrote, ?_, ?_, fun r => ?_⟩
  · rw [State.callTo, hpush]
  · exact sameBut_trans (sameBut_trans hset (sameBut_setG _ t 31 _)) hpc
  · rw [State.setPc, State.triad_onTriad_self, triad_setG_self, State.triad_setTriad_self]
  · have hg : (s1.setTriad t x).gx t r = s.gx t r := gx_of_g (by rw [State.triad_setTriad_self, hx, withSsp_eq]) r
    rw [gx_of_g (m := (s1.setTriad t x).setG t 31 (pc + 4)) (by rw [State.setPc, State.triad_onTriad_self]), State.gx_setG, hg]
    simp only [show (31 : Reg) ≠ 0 by decide, and_true, ne_eq, not_false_eq_true]

/-- Each call is `callTo` with the row's target. -/
theorem exec_callTable (s : State) (t : TriadId) (rs1 : Reg) (off : Off26) : ∀ p ∈ Sys2Proof.Statements.callTable s t rs1 off,
    ∃ body, exec p.1 s = instr t body s ∧ body (issue s t) (s.triad t).pc = (issue s t).callTo t (s.triad t).pc p.2 := by
  simp only [Sys2Proof.Statements.callTable, List.forall_mem_cons, List.not_mem_nil, false_implies, implies_true, and_true]
  refine ⟨⟨_, exec_call .., ?_⟩, ⟨_, exec_callr .., ?_⟩⟩
  · rw [jTarget, shiftLeft_two]
  · rw [issue_gx]

section
variable {s : State} {t : TriadId} {target : DWord} {body : State → DWord → Res}

theorem call_overflows (h : Ready s t) (hbody : body (issue s t) (s.triad t).pc = (issue s t).callTo t (s.triad t).pc target)
    (hfull : (stackOf s t).ssp.toNat < (stackOf s t).sslimit.toNat + 8) (ho : Open s t) :
    ∃ u, instr t body s = .next u ∧ Stopped s u t 0x13 (stackOf s t).ssp := by
  rw [← stackOf_issue] at hfull ⊢
  refine instr_trapped h ho (hbody.trans ?_) (by decide)
  rw [State.callTo, push_full _ hfull]
  rfl

theorem call_pushes (h : Ready s t) (hbody : body (issue s t) (s.triad t).pc = (issue s t).callTo t (s.triad t).pc target)
    (hroom : (stackOf s t).sslimit.toNat + 8 ≤ (stackOf s t).ssp.toNat)
    (hplain : PlainAccess s (s.triadIssuer t) ((stackOf s t).ssp.toNat - 8) 8 .push true) :
    ∃ u, instr t body s = .next u ∧ (u.triad t).pc = target ∧ (∀ r, u.gx t r = if r = 31 then (s.triad t).pc + 4 else s.gx t r) ∧
      stackOf u t = { stackOf s t with ssp := (stackOf s t).ssp - 8 } ∧
      u.le ((stackOf s t).ssp.toNat - 8) 8 = ((s.triad t).pc + 4 ||| 1).toNat ∧
      ∀ a, a < (stackOf s t).ssp.toNat - 8 ∨ (stackOf s t).ssp.toNat ≤ a → u.byte a = s.byte a := by
  obtain ⟨s1, n, hcall, ⟨hmem, hbytes, -⟩, hsame, htriad, hgx⟩ := callTo_plain (s := issue s t) (t := t) (s.triad t).pc target
    (by rwa [stackOf_issue]) (by rw [stackOf_issue, triadIssuer_issue]; exact plain_issue hplain)
  rw [stackOf_issue] at hbytes htriad
  have hframe : (n.triad t).stepping = false ∧ (n.triad t).run = .running := by
    rw [htriad, withSsp_eq, issue_triad]
    exact ⟨h.free, rfl⟩
  refine ⟨_, instr_retired h (hbody.trans hcall) hframe.1 hframe.2, ?_, fun r => ?_, ?_, ?_, fun a ha => ?_⟩
  · rw [State.triad_drivePins, State.triad_onTriad_self, htriad]
    rfl
  · rw [gx_retired, hgx, issue_gx]
  · rw [stackOf_of_withSsp htriad, stackOf_issue]
  · rw [le_of_bytes fun x hlo hhi => ?_]
    · exact Nat.mod_eq_of_lt ((s.triad t).pc + 4 ||| 1).isLt
    · rw [byte_of_body hsame, hbytes, if_pos ⟨hlo, hhi⟩]
  · rw [byte_of_body hsame, hbytes, if_neg (by omega), issue_byte]

end

theorem callsPushTheReturnAddress : Sys2Proof.Statements.CallsPushTheReturnAddress := by
  intro s t rs1 off hready p hp
  obtain ⟨body, hexec, hbody⟩ := exec_callTable s t rs1 off p hp
  rw [hexec]
  exact ⟨call_overflows hready hbody, call_pushes hready hbody⟩

/-- RET on an empty shadow stack. -/
theorem ret_empty {s : State} {t : Nat} (h : (stackOf s t).ssbase.toNat ≤ (stackOf s t).ssp.toNat) :
    s.ret t = trap s 0x14 (stackOf s t).ssp := if_pos h

/-- RET compares the top of a shadow stack in plain memory with g31, bit 0 set. -/
theorem ret_plain {s : State} {t : Nat} (hheld : (stackOf s t).ssp.toNat < (stackOf s t).ssbase.toNat)
    (h : PlainAccess s (s.triadIssuer t) (stackOf s t).ssp.toNat 8 .ret false) :
    s.ret t = if s.le (stackOf s t).ssp.toNat 8 ≠ (s.gx t 31 ||| 1).toNat then trap s 0x12 (s.gx t 31)
      else .ok ((s.onTriad t fun x => withSsp x ((stackOf s t).ssp + 8)).setPc t (s.gx t 31)) := by
  have hload := loadBytes_plain s _ _ 8 .ret 2 false (by decide) h
  unfold stackOf at hheld hload
  simp only [State.ret, Nat.not_le.mpr hheld, hload, if_false]
  rfl

theorem ret_underflows {s : State} {t : TriadId} (h : Ready s t) (hempty : (stackOf s t).ssbase.toNat ≤ (stackOf s t).ssp.toNat) (ho : Open s t) :
    ∃ u, exec (.ret t) s = .next u ∧ Stopped s u t 0x14 (stackOf s t).ssp := by
  rw [← stackOf_issue] at hempty ⊢
  rw [exec_ret]
  exact instr_trapped h ho (ret_empty hempty) (by decide)

section
variable {s : State} {t : TriadId} (h : Ready s t) (hheld : (stackOf s t).ssp.toNat < (stackOf s t).ssbase.toNat)
  (hplain : PlainAccess s (s.triadIssuer t) (stackOf s t).ssp.toNat 8 .ret false)
include h hheld hplain

omit h in
/-- What RET's body comes to, its operands as the instruction found them. -/
theorem ret_issued : (issue s t).ret t = if s.le (stackOf s t).ssp.toNat 8 ≠ (s.gx t 31 ||| 1).toNat then trap (issue s t) 0x12 (s.gx t 31)
    else .ok (((issue s t).onTriad t fun x => withSsp x ((stackOf s t).ssp + 8)).setPc t (s.gx t 31)) := by
  have hret := ret_plain (s := issue s t) (t := t) (by rwa [stackOf_issue]) (by rw [stackOf_issue, triadIssuer_issue]; exact plain_issue hplain)
  rw [stackOf_issue, issue_gx] at hret
  exact hret

theorem ret_mismatches (hdiffer : s.le (stackOf s t).ssp.toNat 8 ≠ (s.gx t 31 ||| 1).toNat) (ho : Open s t) :
    ∃ u, exec (.ret t) s = .next u ∧ Stopped s u t 0x12 (s.gx t 31) := by
  rw [exec_ret]
  exact instr_trapped h ho ((ret_issued hheld hplain).trans (if_pos hdiffer)) (by decide)

theorem ret_pops (hequal : s.le (stackOf s t).ssp.toNat 8 = (s.gx t 31 ||| 1).toNat) :
    ∃ u, exec (.ret t) s = .next u ∧ OnlyTriad s u t ∧ (u.triad t).pc = s.gx t 31 ∧ (∀ r, u.gx t r = s.gx t r) ∧
      stackOf u t = { stackOf s t with ssp := (stackOf s t).ssp + 8 } := by
  have hbody := (ret_issued hheld hplain).trans (if_neg (not_not_intro hequal))
  have hsame := sameBut_trans (sameBut_trans (sameBut_issue s t) (sameBut_onTriad _ t fun x => withSsp x ((stackOf s t).ssp + 8)))
    (sameBut_onTriad _ t fun x => { x with pc := s.gx t 31 })
  generalize hn : ((issue s t).onTriad t fun x => withSsp x ((stackOf s t).ssp + 8)).setPc t (s.gx t 31) = n at hbody
  have htriad : n.triad t = { withSsp ((issue s t).triad t) ((stackOf s t).ssp + 8) with pc := s.gx t 31 } := by
    rw [← hn, State.setPc, State.triad_onTriad_self, State.triad_onTriad_self]
  have hkept : (n.triad t).stepping = false ∧ (n.triad t).run = .running ∧ (n.triad t).g = ((issue s t).triad t).g := by
    rw [htriad, withSsp_eq, issue_triad]
    exact ⟨h.free, rfl, rfl⟩
  obtain ⟨hstep, hrun, hg⟩ := hkept
  rw [exec_ret]
  refine ⟨_, instr_retired (body := fun s _ => s.ret t) h hbody hstep hrun, ?_, ?_, fun r => ?_, ?_⟩
  · rw [← hn]
    exact onlyTriad_of_sameBut (sameBut_trans hsame (sameBut_onTriad _ t retired))
  · rw [State.triad_drivePins, State.triad_onTriad_self, htriad]
    rfl
  · rw [gx_retired, gx_of_g hg, issue_gx]
  · rw [stackOf_of_withSsp htriad, stackOf_issue]

end

theorem returnsPopTheShadowStack : Sys2Proof.Statements.ReturnsPopTheShadowStack := by
  intro s t hready
  exact ⟨ret_underflows hready, fun hheld hplain => ⟨ret_mismatches hready hheld hplain, ret_pops hready hheld hplain⟩⟩

/-- Settles O12: a call is `callTo`, whose push stores one word below the pointer or traps; RET compares the word at the pointer, then pops or traps. -/
theorem callsAndReturns : Obligations.CallsAndReturns := ⟨callsPushTheReturnAddress, returnsPopTheShadowStack⟩

end Sys2Proof.Proofs

namespace Sys2Proof.Proofs
open Sys2Proof.Machine Sys2Proof.Safety

/-! ## Exceptions are entered, or nest (R105, R108, R110, R111) -/

/-- The STATUS an entry leaves: IPL kept, EXL set, the target level. -/
def entryStatus (st : DWord) (l : Nat) : DWord := BitVec.ofNat 64 (st.toNat / 2 ^ 8 % 2 ^ 4 * 2 ^ 8 + 2 ^ 3 + l)

theorem toNat_entryStatus (st : DWord) {l : Nat} (h : l < 4) : (entryStatus st l).toNat = st.toNat / 2 ^ 8 % 2 ^ 4 * 2 ^ 8 + 2 ^ 3 + l := by
  rw [entryStatus, BitVec.toNat_ofNat]
  omega

theorem entryStatus_level (st : DWord) {l : Nat} (h : l < 4) : (entryStatus st l).toNat % 4 = l := by
  rw [toNat_entryStatus st h]
  omega

theorem entryStatus_exl (st : DWord) {l : Nat} (h : l < 4) : (entryStatus st l).getLsbD 3 = true := by
  rw [BitVec.getLsbD, toNat_entryStatus st h, Nat.testBit_eq_decide_div_mod_eq, decide_eq_true_eq]
  omega

theorem entry_level (x : Triad) (e : Exc) {l : Nat} (pc : DWord) (h : l < 4) : (entry x e l pc).level = l := entryStatus_level x.status h

theorem entry_exl (x : Triad) (e : Exc) {l : Nat} (pc : DWord) (h : l < 4) : (entry x e l pc).exl = true := entryStatus_exl x.status h

theorem syncTarget_of_level {code : Nat} (l : Nat) (h : code ≠ 0x08 ∧ code ≠ 0x15) : syncTarget code l = if l = 0 then 1 else 2 := by
  simp only [syncTarget, h.1, h.2, decide_false, Bool.or_self, Bool.false_eq_true, if_false]

/-- What an instruction comes to whose body raises an exception and leaves no debug step in progress. -/
theorem instr_raised {s m : State} {t : TriadId} {e : Exc} {body : State → DWord → Res} (h : Ready s t)
    (hb : body (issue s t) (s.triad t).pc = .error (e, m)) (hfree : (((m.setPc t (s.triad t).pc).raiseSync t e).triad t).stepping = false) :
    instr t body s = .next ((m.setPc t (s.triad t).pc).raiseSync t e).drivePins := by
  rw [instr_error s m t e body h hb, State.endStep_free _ _ hfree]

/-- An instruction that raises an exception does so with the PC at it. -/
theorem triad_reissued (s : State) (t : TriadId) : ((issue s t).setPc t (s.triad t).pc).triad t = { s.triad t with run := .running } := by
  rw [State.setPc, State.triad_onTriad_self, issue_triad]

/-- On the supervisor, a synchronous exception while EXL is 1 halts the triad and raises FC 19 (R111). -/
theorem raiseSync_nested {m : State} {t : Nat} {e : Exc} (ht : t = 0) (hexl : (m.triad t).exl = true) (hcode : e.code ≠ 0x15) :
    m.raiseSync t e = (m.onTriad t fun x => { x with run := .nested }).drive 19 (m.triadRaise 0 e.code (m.triad t).pc e.val) := by
  subst ht
  have henter : m.enterException 0 e (syncTarget e.code (m.triad 0).level) (m.triad 0).pc = m.nestedFault 0 e :=
    if_pos (by rw [hexl, Bool.and_true, decide_eq_true_eq]; exact hcode)
  rw [State.raiseSync]
  simp only [if_true, hcode, if_false, henter]
  unfold State.nestedFault
  exact if_pos rfl

/-- Command `c` is an instruction of triad `t` that traps with cause `code` and EVAL `val` wherever it is executed. -/
def Traps (t : TriadId) (c : Instr) (code : Nat) (val : DWord) : Prop :=
  code ≠ 0x08 ∧ code ≠ 0x15 ∧ ∃ body, (∀ s, exec c s = instr t body s) ∧ ∀ s pc, body s pc = trap s code val

theorem srvc_traps (t : TriadId) (n : N12) : Traps t (.srvc t n) 0x10 (n.setWidth 64) :=
  ⟨by decide, by decide, _, exec_srvc t n, fun _ _ => rfl⟩

theorem breakCmd_traps (t : TriadId) : Traps t (.breakCmd t) 0x11 0 := ⟨by decide, by decide, _, exec_breakCmd t, fun _ _ => rfl⟩

theorem exec_undefined {t : TriadId} {w : Word} (hundef : definedWord t w = false) (s : State) :
    exec (.undefinedEncoding t w) s = instr t (fun s _ => if 0x38 ≤ w.toNat / 2 ^ 26 then
      .error (⟨0x01, w.setWidth 64, true, 0⟩, s.onTriad t fun x => x.elem none) else trap s 0x01 (w.setWidth 64)) s := by
  rw [exec_undefinedEncoding, execUndefinedEncoding, hundef]
  rfl

theorem undefinedEncoding_traps {t : TriadId} {w : Word} (hundef : definedWord t w = false) (hmajor : w.toNat < 0x38 * 2 ^ 26) :
    Traps t (.undefinedEncoding t w) 0x01 (w.setWidth 64) :=
  ⟨by decide, by decide, _, exec_undefined hundef, fun _ _ => if_neg (by omega)⟩

theorem Traps.enters {s : State} {t : TriadId} {c : Instr} {code : Nat} {val : DWord} (h : Traps t c code val) (hready : Ready s t)
    (hopen : Open s t) : ∃ u, exec c s = .next u ∧ Entered s u t code (if (s.triad t).level = 0 then 1 else 2) val (s.triad t).pc := by
  obtain ⟨h8, h15, body, hexec, hbody⟩ := h
  obtain ⟨u, hinstr, hentered, -⟩ := instr_trapped hready hopen (hbody (issue s t) (s.triad t).pc) h15
  rw [syncTarget_of_level _ ⟨h8, h15⟩] at hentered
  exact ⟨u, (hexec s).trans hinstr, hentered⟩

theorem Traps.nests {s : State} {t : TriadId} {c : Instr} {code : Nat} {val : DWord} (h : Traps t c code val) (hready : Ready s t)
    (ht : t.val = 0) (hexl : (s.triad t).exl = true) : ∃ u, exec c s = .next u ∧ u.triad t = { s.triad t with run := .nested } ∧
      u.pair 19 = { s.pair 19 with todo := (s.pair 19).todo ++ [s.triadRaise 0 code (s.triad t).pc val] } := by
  obtain ⟨-, h15, body, hexec, hbody⟩ := h
  have hraise := raiseSync_nested (m := (issue s t).setPc t (s.triad t).pc) (e := ⟨code, val, false, 0⟩) ht
    (by rw [triad_reissued]; exact hexl) h15
  have htriad : (((issue s t).setPc t (s.triad t).pc).raiseSync t ⟨code, val, false, 0⟩).triad t = { s.triad t with run := .nested } := by
    rw [hraise, State.triad_drive, State.triad_onTriad_self, triad_reissued]
  refine ⟨_, (hexec s).trans (instr_raised hready (hbody _ _) (by rw [htriad]; exact hready.free)), htriad, ?_⟩
  refine (congrArg (·.pair 19) hraise).trans ((State.pair_drive _ _ _ (by decide)).trans ?_)
  rw [triad_reissued]
  rfl

theorem entry_ecause (x : Triad) (code : Nat) (val : DWord) (q l : Nat) (pc : DWord) :
    (entry x ⟨code, val, false, q⟩ l pc).ecause = BitVec.ofNat 64 (q * 2 ^ 16 + x.level * 2 ^ 8 + code) := by
  simp only [entry, Bool.false_eq_true, if_false, Nat.add_zero]

theorem entry_ecause_vec (x : Triad) (code : Nat) (val : DWord) (l : Nat) (pc : DWord) :
    (entry x ⟨code, val, true, 0⟩ l pc).ecause = BitVec.ofNat 64 (0x1000 + x.level * 2 ^ 8 + code) := by
  simp only [entry, if_true, Nat.zero_mul, Nat.zero_add, Nat.reducePow]

theorem byte_eng (s : State) (g : Engine) (a : Nat) : ({ s with eng := g } : State).byte a = s.byte a := rfl

/-- An instruction whose body raises an exception on an open triad enters it; no byte of memory moves. -/
theorem instr_enters {s m : State} {t : TriadId} {e : Exc} {body : State → DWord → Res} (h : Ready s t)
    (hb : body (issue s t) (s.triad t).pc = .error (e, m)) (hexl : (m.triad t).exl = false) (hlevel : t.val = 0 ∨ (m.triad t).level = 0)
    (hcode : e.code ≠ 0x15) (hfree : (m.triad t).stepping = false) :
    ∃ u, instr t body s = .next u ∧ (∀ a, u.byte a = m.byte a) ∧ u.triad t =
      entry { m.triad t with pc := (s.triad t).pc } e (syncTarget e.code (m.triad t).level) (s.triad t).pc := by
  have hpc : (m.setPc t (s.triad t).pc).triad t = { m.triad t with pc := (s.triad t).pc } := State.triad_onTriad_self m t _
  obtain ⟨g, hraise⟩ := raiseSync_open (m.setPc t (s.triad t).pc) t e (by rw [hpc]; exact hexl) (by rw [hpc]; exact hlevel) hcode
  rw [hpc] at hraise
  have htriad := (congrArg (·.triad t) hraise).trans (State.triad_setTriad_self _ t _)
  refine ⟨_, instr_raised h hb (by rw [htriad]; exact hfree), fun a => ?_, htriad⟩
  rw [State.byte_drivePins, hraise, byte_eng, State.byte_setTriad, State.byte_setPc]

theorem elem_none_elemValid (x : Triad) : (x.elem none).vxstat.getLsbD 6 = false := by
  simp [Triad.elem]

/-- An undefined encoding in the majors of long vectors is entered as that of a long-vector instruction, tied to no element (R147). -/
theorem undefinedEncoding_vecEnters {s : State} {t : TriadId} {w : Word} (hready : Ready s t) (hopen : Open s t)
    (hundef : definedWord t w = false) (hmajor : 0x38 * 2 ^ 26 ≤ w.toNat) :
    ∃ u, exec (.undefinedEncoding t w) s = .next u ∧ Sys2Proof.Statements.VecEntered s u t 0x01 (w.setWidth 64) := by
  have hm : ((issue s t).onTriad t fun x => x.elem none).triad t =
      { s.triad t with run := .running, pc := (s.triad t).pc + 4, vxstat := ((s.triad t).elem none).vxstat } := by
    rw [State.triad_onTriad_self, issue_triad]
    rfl
  obtain ⟨u, hexec, hbyte, htriad⟩ := instr_enters (body := fun s _ => if 0x38 ≤ w.toNat / 2 ^ 26 then
      .error (⟨0x01, w.setWidth 64, true, 0⟩, s.onTriad t fun x => x.elem none) else trap s 0x01 (w.setWidth 64)) hready
    (if_pos (by omega)) (by rw [hm]; exact hopen.1) (by rw [hm]; exact hopen.2) (Nat.ne_of_beq_eq_false rfl) (by rw [hm]; exact hready.free)
  rw [hm, syncTarget_of_level (code := 0x01) _ (by decide)] at htriad
  have hlow : (if (s.triad t).level = 0 then 1 else 2) < 4 := by split_ifs <;> decide
  refine ⟨u, (exec_undefined hundef s).trans hexec, ?_⟩
  unfold Sys2Proof.Statements.VecEntered State.gx
  rw [htriad]
  exact ⟨rfl, rfl, rfl, entry_ecause_vec _ _ _ _ _, elem_none_elemValid _, entry_level _ _ _ hlow, entry_exl _ _ _ hlow, rfl, rfl, rfl, rfl,
    fun _ => rfl, hbyte⟩

theorem exceptionsAreEntered : Sys2Proof.Statements.ExceptionsAreEntered := by
  intro s t n w hready hopen
  refine ⟨?_, fun hundef hmajor => (undefinedEncoding_traps hundef hmajor).enters hready hopen, undefinedEncoding_vecEnters hready hopen,
    fun hdef => ?_⟩
  · simp only [List.forall_mem_cons, List.not_mem_nil, false_implies, implies_true, and_true]
    exact ⟨(srvc_traps t n).enters hready hopen, (breakCmd_traps t).enters hready hopen⟩
  · rw [Ignored, exec_undefinedEncoding, execUndefinedEncoding, if_pos hdef, done_eq]

theorem nestedFaultsHalt : Sys2Proof.Statements.NestedFaultsHalt := by
  intro s t n w hready ht hexl hundef hmajor
  simp only [List.forall_mem_cons, List.not_mem_nil, false_implies, implies_true, and_true]
  exact ⟨(srvc_traps t n).nests hready ht hexl, (breakCmd_traps t).nests hready ht hexl, (undefinedEncoding_traps hundef hmajor).nests hready ht hexl⟩

/-- Settles O20: each of the instructions traps, and a trap is entered where EXL is 0 and halts the supervisor where it is 1. -/
theorem exceptionsAreEnteredOrNest : Obligations.ExceptionsAreEnteredOrNest := ⟨exceptionsAreEntered, nestedFaultsHalt⟩

end Sys2Proof.Proofs

namespace Sys2Proof.Proofs
open Sys2Proof.Machine Sys2Proof.Safety

/-! ## ERET (R112, R113) -/

theorem eret_returns {s : State} {t : TriadId} (h : Ready s t) (hlevel : (s.triad t).level ≠ 0)
    (hback : (s.triad t).eps.toNat % 4 ≤ (s.triad t).level) :
    ∃ u, exec (.eret t) s = .next u ∧ OnlyTriad s u t ∧ u.triad t = { s.triad t with
      status := if (s.triad t).eps.toNat % 4 = 0 then (s.triad t).eps &&& ~~~ 8 else (s.triad t).eps, pc := (s.triad t).epc
      instret := (s.triad t).instret + 1, run := .running } := by
  generalize hst : (if (s.triad t).eps.toNat % 4 = 0 then (s.triad t).eps &&& ~~~ 8 else (s.triad t).eps) = st
  have hm : ((issue s t).onTriad t fun x => { x with status := st, pc := (s.triad t).epc }).triad t =
      { s.triad t with run := .running, status := st, pc := (s.triad t).epc } := by rw [State.triad_onTriad_self, issue_triad]
  have hbody : (issue s t).eret t (s.triad t).pc =
      .ok ((issue s t).onTriad t fun x => { x with status := st, pc := (s.triad t).epc }) := by
    rw [State.eret, issue_level]
    simp only [issue_triad, hlevel, Nat.not_lt.mpr hback, hst, if_false]
    rw [State.onTriad, issue_triad]
  obtain ⟨u, hexec, honly, htriad⟩ := instr_only s _ t (fun s pc => s.eret t pc) h hbody rfl
    (sameBut_trans (sameBut_issue s t) (sameBut_onTriad _ t _)).2 (by rw [hm]; exact h.free) (by rw [hm]; nofun)
  exact ⟨u, hexec, honly, by rw [htriad, hm]⟩

theorem eret_privileged {s : State} {t : TriadId} (h : Ready s t) (hlevel : (s.triad t).level = 0) (ho : Open s t) :
    ∃ u, exec (.eret t) s = .next u ∧ Stopped s u t 0x02 (encC 5 0 0) := by
  rw [exec_eret]
  refine instr_trapped h ho ?_ (by decide)
  rw [State.eret, issue_level]
  exact if_pos hlevel

/-- A triad after the entry of RETURN_ELEVATION: EPC and EPS are kept (R112). -/
def elevated (x : Triad) (e : Exc) (pc : DWord) : Triad := { entry x e 2 pc with epc := x.epc, eps := x.eps }

theorem elevated_kept (x : Triad) (e : Exc) (pc : DWord) :
    (elevated x e pc).epc = x.epc ∧ (elevated x e pc).eps = x.eps ∧ (elevated x e pc).stepping = x.stepping := ⟨rfl, rfl, rfl⟩

theorem elevated_entered (x : Triad) (e : Exc) (pc : DWord) : (elevated x e pc).ecause = (entry x e 2 pc).ecause ∧
    (elevated x e pc).eval = e.val ∧ (elevated x e pc).status = entryStatus x.status 2 := ⟨rfl, rfl, rfl⟩

/-- RETURN_ELEVATION is entered whatever EXL says; on the supervisor it raises FC 19 (R112, R113). -/
theorem raiseSync_elevation {m : State} {t : Nat} {e : Exc} (ht : t = 0) (hcode : e.code = 0x15) :
    (m.raiseSync t e).triad t = elevated (m.triad t) e (m.triad t).pc := by
  subst ht
  have henter : m.enterException 0 e (syncTarget e.code (m.triad 0).level) (m.triad 0).pc =
      m.onTriad 0 fun x => elevated x e (m.triad 0).pc := by
    rw [State.enterException]
    simp only [hcode, ne_eq, not_true, decide_false, Bool.false_and, Bool.false_eq_true, if_false, if_true]
    simp only [State.onTriad, elevated, entry, hcode]
    rfl
  rw [State.raiseSync]
  simp only [hcode, if_true] at henter ⊢
  rw [henter, State.triad_drive, State.triad_onTriad_self]

theorem eret_elevates {s : State} {t : TriadId} (h : Ready s t) (ht : t.val = 0) (hlevel : (s.triad t).level = 1)
    (hback : 2 ≤ (s.triad t).eps.toNat % 4) :
    ∃ u, exec (.eret t) s = .next u ∧ (u.triad t).epc = (s.triad t).epc ∧ (u.triad t).eps = (s.triad t).eps ∧ (u.triad t).ecause = 0x115 ∧
      (u.triad t).eval = (s.triad t).pc ∧ (u.triad t).status.toNat % 4 = 2 ∧ (u.triad t).exl = true := by
  have hbody : (issue s t).eret t (s.triad t).pc = trap (issue s t) 0x15 (s.triad t).pc := by
    rw [State.eret, issue_level]
    simp only [issue_triad, hlevel, show 1 < (s.triad t).eps.toNat % 4 by omega, if_true, Nat.one_ne_zero, if_false]
  generalize he : (⟨0x15, (s.triad t).pc, false, 0⟩ : Exc) = e
  have htriad := raiseSync_elevation (m := (issue s t).setPc t (s.triad t).pc) (e := e) ht (by rw [← he])
  rw [triad_reissued] at htriad
  generalize hx : ({ s.triad t with run := .running } : Triad) = x at htriad
  obtain ⟨hepc, heps, hstep⟩ := elevated_kept x e x.pc
  obtain ⟨hcause, heval, hstatus⟩ := elevated_entered x e x.pc
  rw [← htriad] at hepc heps hstep hcause heval hstatus
  have hexec := instr_raised (body := fun s pc => s.eret t pc) h (hbody.trans (by rw [trap, he])) (by rw [hstep, ← hx]; exact h.free)
  rw [exec_eret]
  refine ⟨_, hexec, ?_⟩
  rw [State.triad_drivePins, Triad.exl, hepc, heps, hcause, heval, hstatus, ← he, entry_ecause, ← hx]
  refine ⟨rfl, rfl, ?_, rfl, entryStatus_level _ (by decide), entryStatus_exl _ (by decide)⟩
  exact congrArg (fun l => BitVec.ofNat 64 (0 * 2 ^ 16 + l * 2 ^ 8 + 0x15)) hlevel

theorem eretReturns : Sys2Proof.Statements.EretReturns := by
  intro s t hready
  exact ⟨eret_returns hready, eret_privileged hready, eret_elevates hready⟩

/-! ## Asynchronous causes (R106, R107, R109, R110) -/

theorem vectorOffset_async {code : Nat} (l : Nat) (h : code ∈ [0x20, 0x21, 0x22]) : vectorOffset l code = if l = 1 then 0x200 else 0x600 := by
  fin_cases h <;> rfl

/-- The entry of an asynchronous cause, field by field. -/
theorem entry_async (x : Triad) {code : Nat} (val : DWord) (q l : Nat) (pc : DWord) (h : code ∈ [0x20, 0x21, 0x22]) :
    entry x ⟨code, val, false, q⟩ l pc = { x with
      epc := pc, eps := x.status, eval := val, ecause := BitVec.ofNat 64 (q * 2 ^ 16 + x.level * 2 ^ 8 + code)
      status := BitVec.ofNat 64 (x.status.toNat / 2 ^ 8 % 2 ^ 4 * 2 ^ 8 + 2 ^ 3 + l)
      pc := BitVec.ofNat 64 (x.evbase.toNat / 2 ^ 12 * 2 ^ 12 + if l = 1 then 0x200 else 0x600) } := by
  simp only [entry, vectorOffset_async l h, Bool.false_eq_true, if_false, Nat.add_zero]

/-- What the entry of an asynchronous cause at Carriageway leaves (R107, R110). -/
theorem entry_carriageway (x : Triad) {code : Nat} (val pc : DWord) (h : code ∈ [0x20, 0x21, 0x22]) :
    (entry x ⟨code, val, false, 0⟩ 1 pc).epc = pc ∧ (entry x ⟨code, val, false, 0⟩ 1 pc).eval = val ∧
      (entry x ⟨code, val, false, 0⟩ 1 pc).ecause = BitVec.ofNat 64 (x.level * 2 ^ 8 + code) ∧ (entry x ⟨code, val, false, 0⟩ 1 pc).level = 1 ∧
      (entry x ⟨code, val, false, 0⟩ 1 pc).pc = BitVec.ofNat 64 (x.evbase.toNat / 2 ^ 12 * 2 ^ 12 + 0x200) := by
  rw [entry_level _ _ _ (by decide), entry_async _ _ _ _ _ h, Nat.zero_mul, Nat.zero_add]
  exact ⟨rfl, rfl, rfl, rfl, rfl⟩

/-- An exception entered on a triad whose EXL is 0 changes that triad alone. -/
theorem enterException_entry {m : State} {t : Nat} {e : Exc} {l : Nat} {pc : DWord} (hexl : (m.triad t).exl = false) (hcode : e.code ≠ 0x15) :
    SameBut t m (m.enterException t e l pc) ∧ (m.enterException t e l pc).triad t = entry (m.triad t) e l pc := by
  rw [enterException_open m t e l pc hexl hcode]
  exact ⟨sameBut_onTriad m t _, State.triad_onTriad_self m t _⟩

/-- A task at Footpath has a budget overrun as its exception (R35, R118). -/
def overrunNoted (s m : State) (t : TriadId) : State :=
  if (s.triad t).level = 0 then m.onLane (laneOf t) fun l => { l with exc := some ⟨0x21, (s.triad t).pc⟩ } else m

theorem triad_overrunNoted (s m : State) (t : TriadId) (r : Nat) : (overrunNoted s m t).triad r = m.triad r := by
  unfold overrunNoted
  split_ifs <;> rfl

section
variable {s : State} {t : TriadId} (htakes : (s.triad t).takes = true) (hhalt : s.haltDue t = false) (hexl : (s.triad t).exl = false)
include htakes hhalt hexl

theorem interruptTaken_enters {l e q : Nat} (hnext : s.nextInterrupt t = some (l, e, q)) :
    ∃ u, exec (.interruptTaken t) s = .next u ∧ OnlyTriad s u t ∧
      u.triad t = entry { s.triad t with run := .running } ⟨0x20, BitVec.ofNat 64 e, false, q⟩ l (s.triad t).pc := by
  have hx : (s.onTriad t fun x => { x with run := .running }).triad t = { s.triad t with run := .running } := State.triad_onTriad_self _ _ _
  obtain ⟨hsame, htriad⟩ := enterException_entry (m := s.onTriad t fun x => { x with run := .running }) (e := ⟨0x20, BitVec.ofNat 64 e, false, q⟩)
    (l := l) (pc := (s.triad t).pc) (by rw [hx]; exact hexl) (Nat.ne_of_beq_eq_false rfl)
  rw [hx] at htriad
  refine ⟨(s.takeInterrupt t l e q).drivePins, ?_, onlyTriad_of_sameBut (sameBut_trans (sameBut_onTriad s t _) hsame), htriad⟩
  rw [exec_interruptTaken, execInterruptTaken]
  simp only [htakes, hhalt, hnext, Bool.not_false, Bool.and_self, if_true, done_eq]

section
variable (hlane : t.val ≠ 0) (hasync : (s.triad t).asyncOpen = true) (hroad : s.readyAt t 2 = none)
include hlane hasync hroad

omit hexl in
/-- Nothing keeps the triad from a CHECK_FAILURE or TASK_BUDGET_OVERRUN at this boundary. -/
theorem asyncCause_unhindered :
    ¬ (t.val = 0 || !(s.triad t).takes || s.haltDue t || !(s.triad t).asyncOpen || (s.readyAt t 2).isSome) = true := by
  simp only [hlane, htakes, hhalt, hasync, hroad, decide_false, Bool.not_true, Option.isSome_none, Bool.or_self, Bool.false_eq_true, not_false_eq_true]

theorem checkFailure_enters {v : Nat} (hcheck : (s.triad t).check = some v) :
    ∃ u, exec (.asyncCauseTaken t) s = .next u ∧
      u.triad t = entry { s.triad t with check := none, run := .running } ⟨0x22, BitVec.ofNat 64 v, false, 0⟩ 1 (s.triad t).pc := by
  obtain ⟨-, htriad⟩ := enterException_entry (m := s.setTriad t { s.triad t with check := none, run := .running })
    (e := ⟨0x22, BitVec.ofNat 64 v, false, 0⟩) (l := 1) (pc := (s.triad t).pc) (by rw [State.triad_setTriad_self]; exact hexl)
    (Nat.ne_of_beq_eq_false rfl)
  rw [State.triad_setTriad_self] at htriad
  refine ⟨_, ?_, (State.triad_drivePins _ t).trans htriad⟩
  rw [exec_asyncCauseTaken]
  refine (if_neg (asyncCause_unhindered htakes hhalt hlane hasync hroad)).trans ?_
  rw [hcheck]
  rfl

theorem budgetOverrun_enters (hcheck : (s.triad t).check = none) (hover : (s.triad t).overrun = true) :
    ∃ u, exec (.asyncCauseTaken t) s = .next u ∧
      u.triad t = entry { s.triad t with overrun := false, run := .running } ⟨0x21, 0, false, 0⟩ 1 (s.triad t).pc := by
  obtain ⟨-, htriad⟩ := enterException_entry (m := s.setTriad t { s.triad t with overrun := false, run := .running })
    (e := ⟨0x21, 0, false, 0⟩) (l := 1) (pc := (s.triad t).pc) (by rw [State.triad_setTriad_self]; exact hexl) (by decide)
  rw [State.triad_setTriad_self] at htriad
  refine ⟨(overrunNoted s _ t).drivePins, ?_, (State.triad_drivePins _ t).trans ((triad_overrunNoted s _ t t).trans htriad)⟩
  rw [exec_asyncCauseTaken]
  refine (if_neg (asyncCause_unhindered htakes hhalt hlane hasync hroad)).trans ?_
  split
  case h_1 v hv => exact absurd (hcheck.symm.trans hv) nofun
  case h_2 => exact if_pos hover

end
end

theorem asynchronousCausesAreTaken : Sys2Proof.Statements.AsynchronousCausesAreTaken := by
  intro s t htakes hhalt hexl
  refine ⟨fun l e q hnext => ?_, fun hlane hasync hroad => ⟨fun v hcheck => ?_, fun hcheck hover => ?_⟩⟩
  · obtain ⟨u, hexec, honly, htriad⟩ := interruptTaken_enters htakes hhalt hexl hnext
    rw [entry_async _ _ _ _ _ (by decide)] at htriad
    exact ⟨u, hexec, honly, htriad⟩
  · obtain ⟨u, hexec, htriad⟩ := checkFailure_enters htakes hhalt hexl hlane hasync hroad hcheck
    refine ⟨u, hexec, ?_⟩
    rw [htriad]
    exact ⟨rfl, entry_carriageway _ _ _ (by decide)⟩
  · obtain ⟨u, hexec, htriad⟩ := budgetOverrun_enters htakes hhalt hexl hlane hasync hroad hcheck hover
    obtain ⟨hepc, -, hcause, hlevel, -⟩ := entry_carriageway { s.triad t with overrun := false, run := .running } (code := 0x21) 0 (s.triad t).pc
      (by decide)
    refine ⟨u, hexec, ?_⟩
    rw [htriad]
    exact ⟨rfl, hepc, hcause, hlevel⟩

/-! ## The ends of a resynchronisation (R157 to R159, R175) -/

/-- The odd core joins where the two cores it copies from agree (R158). -/
theorem rejoin_agreed {s : State} {t : Nat} (h : ∀ k ∈ (s.triad t).upset, k = (s.triad t).odd) :
    s.rejoin t = s.onTriad t fun x => { x with mode := 0, joinedAt := Sparse.put x.joinedAt x.odd (s.time + 1), upset := [] } := by
  have hnone : ((s.triad t).upset.any fun k => decide (k ≠ (s.triad t).odd)) = false := by
    rw [List.any_eq_false]
    exact fun k hk => by simp [h k hk]
  rw [State.rejoin, hnone]
  rfl

theorem resyncComplete_rejoins {s : State} {t : TriadId} (hmode : (s.triad t).mode = 1) (h : ∀ k ∈ (s.triad t).upset, k = (s.triad t).odd) :
    ∃ u, exec (.resyncComplete t) s = .next u ∧ OnlyTriad s u t ∧ u.triad t =
      { s.triad t with mode := 0, upset := [], joinedAt := Sparse.put (s.triad t).joinedAt (s.triad t).odd (s.time + 1) } := by
  refine ⟨_, occurs_of _ _ _ (decide_eq_true hmode), ?_⟩
  rw [rejoin_agreed h]
  exact ⟨onlyTriad_of_sameBut (sameBut_onTriad s t _), (State.triad_drivePins _ t).trans (State.triad_onTriad_self s t _)⟩

/-- The hold-out channel of every triad is a row of the FCU's table. -/
theorem holdOutChannel : ∀ t : TriadId, (fcRow (if t.val = 0 then 17 else 33 + 8 * laneOf t)).isSome = true := by decide

theorem coreHoldOut_raises {s : State} {t : TriadId} (hmode : (s.triad t).mode = 1) :
    ∃ u, exec (.coreHoldOut t) s = .next u ∧ u.triad t = { s.triad t with mode := 2 } ∧ (∀ a, u.byte a = s.byte a) ∧
      (u.pair (if t.val = 0 then 17 else 33 + 8 * laneOf t)).todo.length =
        (s.pair (if t.val = 0 then 17 else 33 + 8 * laneOf t)).todo.length + 1 := by
  have hchannel := holdOutChannel t
  refine ⟨_, occurs_of _ _ _ (decide_eq_true hmode), ?_⟩
  generalize (if t.val = 0 then 17 else 33 + 8 * laneOf t) = n at *
  refine ⟨?_, fun a => ?_, ?_⟩
  · rw [State.triad_drivePins, State.triad_drive, State.triad_onTriad_self]
  · rw [State.byte_drivePins, State.byte_drive, State.byte_onTriad]
  · refine (congrArg (·.todo.length) (State.pair_drive _ n _ hchannel)).trans ?_
    exact List.length_append

theorem resynchronisationEnds : Sys2Proof.Statements.ResynchronisationEnds := fun _ _ hmode =>
  ⟨resyncComplete_rejoins hmode, coreHoldOut_raises hmode⟩

/-- Settles O21: ERET restores what the entry saved or is refused, an asynchronous cause is entered where EXL is 0, and a resynchronisation ends in
MODE 0 or, with its channel raised, in MODE 2. -/
theorem returnsCausesAndResynchronisation : Obligations.ReturnsCausesAndResynchronisation :=
  ⟨eretReturns, asynchronousCausesAreTaken, resynchronisationEnds⟩

end Sys2Proof.Proofs

namespace Sys2Proof.Proofs
open Sys2Proof.Machine Sys2Proof.Safety

/-! ## What a long-vector instruction leaves (R125, R139, R150) -/

/-- A triad about to execute a long-vector instruction still passes every check once the PC is past it. -/
theorem issue_zGood {s : State} {t : TriadId} (h : VecReady s t) (r : Reg) (k : Nat) (hk : k < 32) :
    ((issue s t).triad t).zGood r k = true := by
  rw [issue_triad]
  exact h.zs r k hk

theorem issue_zaGood {s : State} {t : TriadId} (h : VecReady s t) (r : Reg) (k : Nat) (hk : k < 32) :
    ((issue s t).triad t).zaGood r k = true := by
  rw [issue_triad]
  exact h.zas r k hk

theorem issue_pGood {s : State} {t : TriadId} (h : VecReady s t) (r : Nat) : ((issue s t).triad t).pGood r = true := by
  rw [issue_triad]
  exact h.ps r

theorem issue_ffmGood {s : State} {t : TriadId} (h : VecReady s t) : ((issue s t).triad t).ffmGood = true := by
  rw [issue_triad]
  exact h.ffm

theorem residueInjections_quiet {s : State} (hquiet : s.armed [1] = false) (t made : Nat) : s.residueInjections t made = 0 := by
  simp only [State.residueInjections, hquiet, Bool.false_and, Bool.false_eq_true, if_false]

/-- A result sent to a general register once the checks have passed. -/
theorem vcommit_general {s : State} {t : Nat} {out : VOut} {r : Reg} {v : DWord} (hquiet : s.armed [1] = false) (hfail : out.fail = false)
    (hg : out.g = some (r, v)) : s.vcommit t out = (s.setTriad t out.x).setG t r v := by
  simp [State.vcommit, residueInjections_quiet hquiet, State.injectN, hfail, hg]

/-- An instruction that wrote general register `rd`, left `w` in VXSTAT, and nothing else of its triad but PC and INSTRET. -/
def WroteGFlags (s u : State) (t : Nat) (rd : Reg) (v w : DWord) : Prop :=
  OnlyTriad s u t ∧ (∀ r, u.gx t r = if r = rd ∧ rd ≠ 0 then v else s.gx t r) ∧
    u.triad t = { s.triad t with
      g := (u.triad t).g, vxstat := w, pc := (s.triad t).pc + 4, instret := (s.triad t).instret + 1, run := .running }

/-- With VXSTAT as it was, that is a general register written alone. -/
theorem WroteGFlags.wroteG {s u : State} {t : Nat} {rd : Reg} {v : DWord} (h : WroteGFlags s u t rd v (s.triad t).vxstat) : WroteG s u t rd v :=
  ⟨h.1, h.2.2, h.2.1⟩

theorem sameBut_setTriad (s : State) (t : Nat) (x : Triad) : SameBut t s (s.setTriad t x) := sameBut_onTriad s t fun _ => x

theorem instr_wroteGFlags {s : State} {t : TriadId} {rd : Reg} {v w : DWord} {body : State → DWord → Res} (h : Ready s t)
    (hb : body (issue s t) (s.triad t).pc = .ok (((issue s t).setTriad t { (issue s t).triad t with vxstat := w }).setG t rd v)) :
    ∃ u, instr t body s = .next u ∧ WroteGFlags s u t rd v w := by
  generalize hm : ((issue s t).setTriad t { (issue s t).triad t with vxstat := w }).setG t rd v = m at hb
  have htriad : m.triad t = { s.triad t with run := .running, pc := (s.triad t).pc + 4, vxstat := w, g := (m.triad t).g } := by
    rw [← hm, triad_setG_self, State.triad_setTriad_self, issue_triad]
  have hsame : SameBut t s m := by
    rw [← hm]
    exact sameBut_trans (sameBut_issue s t) (sameBut_trans (sameBut_setTriad _ _ _) (sameBut_setG _ _ _ _))
  refine ⟨_, instr_retired h hb (by rw [htriad]; exact h.free) (by rw [htriad]),
    onlyTriad_of_sameBut (sameBut_trans hsame (sameBut_onTriad m t retired)), fun r => ?_, ?_⟩
  · rw [gx_retired, ← hm, State.gx_setG, State.gx, State.triad_setTriad_self, ← issue_gx s t r]
    rfl
  · rw [State.triad_drivePins, State.triad_onTriad_self, retired, htriad]

/-- On a lane about to execute it, a long-vector instruction of legal fields comes to its body's commit (R125, R133). -/
theorem vinstr_ready {s : State} {t : TriadId} (word : DWord) (save : Bool) (body : VCfg → State → Triad → VOut) (h : VecReady s t) :
    vinstr t word true save body s =
      instr t (fun m _ => .ok (m.vcommit t (body (s.triad t).vcfgNow m (m.triad t)))) s := by
  have hconfig : (!save && ((issue s t).triad t).level != 2 && (vcfgOf ((issue s t).triad t).vcfg).bad) = false := by
    rw [issue_level, issue_triad]
    rcases h.config with hc | hc <;> simp [hc]
  have hnow : ((issue s t).triad t).vcfgNow = (s.triad t).vcfgNow := by rw [issue_triad]; rfl
  rw [vinstr, instr_ready s t _ h.ready, instr_ready s t _ h.ready]
  simp only [h.lane, Bool.not_true, decide_false, Bool.or_self, Bool.false_eq_true, if_false, hconfig, hnow]

/-- A long-vector instruction that passes its checks and writes a general register and VXSTAT. -/
theorem vinstr_wroteGFlags {s : State} {t : TriadId} {word : DWord} {save : Bool} {body : VCfg → State → Triad → VOut} {rd : Reg} {v w : DWord}
    (h : VecReady s t)
    (hx : (body (s.triad t).vcfgNow (issue s t) ((issue s t).triad t)).x = { (issue s t).triad t with vxstat := w })
    (hfail : (body (s.triad t).vcfgNow (issue s t) ((issue s t).triad t)).fail = false)
    (hg : (body (s.triad t).vcfgNow (issue s t) ((issue s t).triad t)).g = some (rd, v)) :
    ∃ u, vinstr t word true save body s = .next u ∧ WroteGFlags s u t rd v w := by
  rw [vinstr_ready word save body h]
  refine instr_wroteGFlags h.ready ?_
  rw [vcommit_general (s := issue s t) h.quiet hfail hg, hx]

/-- A long-vector instruction that passes its checks and writes a general register alone. -/
theorem vinstr_wroteG {s : State} {t : TriadId} {word : DWord} {save : Bool} {body : VCfg → State → Triad → VOut} {rd : Reg} {v : DWord}
    (h : VecReady s t) (hx : (body (s.triad t).vcfgNow (issue s t) ((issue s t).triad t)).x = (issue s t).triad t)
    (hfail : (body (s.triad t).vcfgNow (issue s t) ((issue s t).triad t)).fail = false)
    (hg : (body (s.triad t).vcfgNow (issue s t) ((issue s t).triad t)).g = some (rd, v)) :
    ∃ u, vinstr t word true save body s = .next u ∧ WroteG s u t rd v := by
  obtain ⟨u, hexec, hwrote⟩ := vinstr_wroteGFlags (word := word) (save := save) (w := (s.triad t).vxstat) h (by rw [hx, issue_triad]) hfail hg
  exact ⟨u, hexec, hwrote.wroteG⟩

/-! ## Vector instructions with a scalar result (R134, R135) -/

/-- The container an element of a type lies in is one of the register's 32. -/
theorem inContainer_lt {ty : BitVec 2} {i : Nat} (h : i < tyElems ty) : inContainer (tyBits ty) i < 32 := by
  unfold inContainer tyBits
  unfold tyElems at h
  by_cases hty : ty = 0
  · simp only [hty, if_true] at *
    omega
  · simp only [hty, if_false] at *
    exact h

theorem tyElems_pos (ty : BitVec 2) : 0 < tyElems ty := by
  unfold tyElems
  split_ifs <;> decide

theorem vextr_wrote {s : State} {t : TriadId} {o : VR} (h : VecReady s t) (hpg : o.pg = 0) (hz : o.z = false) :
    ∃ u, exec (.vextr t o) s = .next u ∧ WroteG s u t o.vd
      (toG o.ty (elemAt (tyBits o.ty) ((s.triad t).zv o.vs1) ((s.gx t o.vs2).toNat % tyElems o.ty))) := by
  have hlegal : (o.pg = 0 && !o.z) = true := by simp [hpg, hz]
  rw [exec_vextr, execVextr, hlegal]
  refine vinstr_wroteG h rfl ?_ ?_
  · simp only [issue_gx, issue_zGood h _ _ (inContainer_lt (Nat.mod_lt _ (tyElems_pos o.ty))), Bool.not_true]
  · simp only [issue_gx, issue_triad]
    rfl

theorem ptally_wrote {s : State} {t : TriadId} {o : VR} (h : VecReady s t) (hp : o.vs1.toNat < 8) :
    ∃ u, exec (.ptally t o) s = .next u ∧ WroteG s u t o.vd (BitVec.ofNat 64 ((List.range (tyElems o.ty)).filter fun i =>
      (s.triad t).active (s.triad t).vcfgNow o i && ((s.triad t).pv o.vs1.toNat).getLsbD i).length) := by
  have hlegal : isP o.vs1 = true := decide_eq_true hp
  rw [exec_ptally, execPtally, hlegal]
  refine vinstr_wroteG h rfl ?_ ?_
  · simp only [issue_pGood h, Bool.and_self, Bool.not_true]
  · rw [issue_triad]
    rfl

/-- PMOVG of a predicate (R135). -/
theorem pmovg_wrote_predicate {s : State} {t : TriadId} {o : VR} (h : VecReady s t) (hsave : saveFields o = true) (hp : o.vs1.toNat < 8) :
    ∃ u, exec (.pmovg t o) s = .next u ∧ WroteG s u t o.vd ((s.triad t).pv o.vs1.toNat) := by
  have hlegal : (saveFields o && decide (o.vs1.toNat ≤ 8)) = true := by simp [hsave, hp.le]
  have hne : o.vs1 ≠ 8 := by rintro heq; simp [heq] at hp
  rw [exec_pmovg, execPmovg, hlegal]
  refine vinstr_wroteG h rfl ?_ ?_
  · simp only [hne, if_false, issue_pGood h, Bool.not_true]
  · simp only [hne, if_false, issue_triad]
    rfl

/-- PMOVG of the first-fault mask (R135). -/
theorem pmovg_wrote_ffm {s : State} {t : TriadId} {o : VR} (h : VecReady s t) (hsave : saveFields o = true) (heq : o.vs1 = 8) :
    ∃ u, exec (.pmovg t o) s = .next u ∧ WroteG s u t o.vd (s.triad t).ffm := by
  have hlegal : (saveFields o && decide (o.vs1.toNat ≤ 8)) = true := by simp [hsave, heq]
  rw [exec_pmovg, execPmovg, hlegal]
  refine vinstr_wroteG h rfl ?_ ?_
  · simp only [heq, if_true, issue_ffmGood h, Bool.not_true]
  · simp only [heq, if_true, issue_triad]

/-- A reduction writes the tree over the active elements, and its flags. -/
theorem longReduce_wrote {s : State} {t : TriadId} (func : Nat) (o : VR) (h : VecReady s t) :
    let x := s.triad t
    let r := reduceAll func x.vcfgNow o.ty (tyElems o.ty) fun i =>
      if x.active x.vcfgNow o i then elemAt (tyBits o.ty) (x.zv o.vs1) i else reduceIdle func o.ty
    ∃ u, longReduce func t o s = .next u ∧ WroteGFlags s u t o.vd (toG o.ty r.1) (x.vxstat ||| r.2.bits) := by
  intro x r
  refine vinstr_wroteGFlags h ?_ ?_ ?_
  · rw [issue_triad]
    rfl
  · simp only [issue_pGood h, goodFor_all _ _ _ _ (issue_zGood h), Bool.and_self, Bool.not_true]
  · rw [issue_triad]
    rfl

/-- Settles O22: each of the instructions passes its checks and sends its scalar to g[rd], the reductions their flags to VXSTAT too. -/
theorem vectorToScalarResults : Obligations.VectorToScalarResults := by
  intro s t o h
  refine ⟨vextr_wrote h, ptally_wrote h, pmovg_wrote_predicate h, pmovg_wrote_ffm h, ?_⟩
  simp only [List.forall_mem_cons, List.not_mem_nil, false_implies, implies_true, and_true]
  exact ⟨longReduce_wrote 0x0D o h, longReduce_wrote 0x0E o h, longReduce_wrote 0x0F o h⟩

end Sys2Proof.Proofs

namespace Sys2Proof.Proofs
open Sys2Proof.Machine Sys2Proof.Safety

/-! ## Where a long-vector instruction is refused (R125, R132, R133, R147) -/

/-- A long-vector instruction whose body raises an exception tied to no element enters it. -/
theorem instr_vecEnters {s : State} {t : TriadId} {code : Nat} {val : DWord} {body : State → DWord → Res} (hready : Ready s t) (hopen : Open s t)
    (hcode : code ≠ 0x08 ∧ code ≠ 0x15) (hb : body (issue s t) (s.triad t).pc =
      .error (⟨code, val, true, 0⟩, (issue s t).setTriad t (((issue s t).triad t).elem none))) :
    ∃ u, instr t body s = .next u ∧ Sys2Proof.Statements.VecEntered s u t code val := by
  have hm : ((issue s t).setTriad t (((issue s t).triad t).elem none)).triad t =
      { s.triad t with run := .running, pc := (s.triad t).pc + 4, vxstat := ((s.triad t).elem none).vxstat } := by
    rw [State.triad_setTriad_self, issue_triad]
    rfl
  obtain ⟨u, hexec, hbyte, htriad⟩ := instr_enters hready hb (by rw [hm]; exact hopen.1) (by rw [hm]; exact hopen.2) hcode.2
    (by rw [hm]; exact hready.free)
  rw [hm, syncTarget_of_level _ hcode] at htriad
  have hlow : (if (s.triad t).level = 0 then 1 else 2) < 4 := by split_ifs <;> decide
  refine ⟨u, hexec, ?_⟩
  unfold Sys2Proof.Statements.VecEntered State.gx
  rw [htriad]
  exact ⟨rfl, rfl, rfl, entry_ecause_vec _ _ _ _ _, elem_none_elemValid _, entry_level _ _ _ hlow, entry_exl _ _ _ hlow, rfl, rfl, rfl, rfl,
    fun _ => rfl, hbyte⟩

/-- The supervisor has no long vectors (R76, R133). -/
theorem vinstr_illegal {s : State} {t : TriadId} (word : DWord) (legal save : Bool) (body : VCfg → State → Triad → VOut) (hready : Ready s t)
    (hopen : Open s t) (ht : t.val = 0) :
    ∃ u, vinstr t word legal save body s = .next u ∧ Sys2Proof.Statements.VecEntered s u t 0x01 word :=
  instr_vecEnters hready hopen (by decide) (if_pos (by simp only [ht, decide_true, Bool.true_or]))

/-- Below Roadbed an invalid VCFG stops a legal long-vector instruction outside the save set (R125). -/
theorem vinstr_misconfigured {s : State} {t : TriadId} (word : DWord) (body : VCfg → State → Triad → VOut) (hready : Ready s t) (hopen : Open s t)
    (ht : t.val ≠ 0) (hbad : (vcfgOf (s.triad t).vcfg).bad = true) :
    ∃ u, vinstr t word true false body s = .next u ∧ Sys2Proof.Statements.VecEntered s u t 0x18 (s.triad t).vcfg := by
  have hlevel : (s.triad t).level = 0 := hopen.2.resolve_left ht
  have hcfg : ((issue s t).triad t).vcfg = (s.triad t).vcfg := by rw [issue_triad]
  refine instr_vecEnters hready hopen (by decide) ?_
  simp only [issue_level, hlevel, hcfg, hbad, ht, decide_false, Bool.not_true, Bool.not_false, Bool.or_self, Bool.false_eq_true, if_false]
  rfl

theorem tyInt_contains {ty : BitVec 2} (h : ty ≠ 3) : tyInt.contains ty = true := by
  revert ty
  decide

theorem tyAll_contains (ty : BitVec 2) : tyAll.contains ty = true := by
  revert ty
  decide

/-- An integer operation on two registers is legal on every type but FP32. -/
theorem legal_plain {op : EOp} {o : VR} (htys : op.tys = tyInt) (hone : op.one = false) (himm : op.imm = false) (hty : o.ty ≠ 3) :
    op.legal o = true := by
  simp only [EOp.legal, htys, hone, himm, tyInt_contains hty, Bool.not_false, Bool.true_or, Bool.and_self]

/-- A legal element-wise instruction is one outside the save set. -/
theorem longElem_plain {op : EOp} (major func : Nat) (t : TriadId) {o : VR} (s : State) (hlegal : op.legal o = true) :
    ∃ body, longElem op major func t o s = vinstr t (encVR major func o) true false body s :=
  ⟨_, by rw [longElem, hlegal]⟩

/-- A permute of every type is legal, outside the save set. -/
theorem longPerm_plain {func : Nat} (t : TriadId) (o : VR) (s : State) (htys : permTys func = tyAll) :
    ∃ body, longPerm func t o s = vinstr t (encVR 0x3B func o) true false body s :=
  ⟨_, by rw [longPerm, htys, tyAll_contains]⟩

/-- Each row of the table is a long-vector instruction outside the save set, with the row's word, legal but for FP32. -/
theorem exec_plainVectors {t : TriadId} {o : VR} (hty : o.ty ≠ 3) (s : State) : ∀ p ∈ Sys2Proof.Statements.plainVectors t o,
    ∃ body, exec p.1 s = vinstr t p.2 true false body s := by
  simp only [Sys2Proof.Statements.plainVectors, List.forall_mem_cons, List.not_mem_nil, false_implies, implies_true, and_true,
    exec_vadd, exec_vsub, exec_vsadd, exec_vand, exec_vshl, exec_vsplat, exec_vperm, exec_vrev, exec_vslide, exec_vrsum, execVadd, execVsub,
    execVsadd, execVand, execVshl, execVsplat, execVperm, execVrev, execVslide, execVrsum, longReduce]
  exact ⟨longElem_plain 0x38 0x00 t s (legal_plain rfl rfl rfl hty), longElem_plain 0x38 0x01 t s (legal_plain rfl rfl rfl hty), longElem_plain 0x38 0x02 t s (legal_plain rfl rfl rfl hty),
    longElem_plain 0x38 0x0A t s (legal_plain rfl rfl rfl hty), longElem_plain 0x38 0x0E t s (legal_plain rfl rfl rfl hty), ⟨_, rfl⟩, longPerm_plain t o s rfl,
    longPerm_plain t o s rfl, longPerm_plain t o s rfl, ⟨_, rfl⟩⟩

/-- Settles O24: each row is a legal instruction of the long-vector frame, which refuses it on the supervisor and under an invalid VCFG. -/
theorem vectorInstructionsRefuse : Obligations.VectorInstructionsRefuse := by
  intro s t o hready hopen hty p hp
  obtain ⟨body, hexec⟩ := exec_plainVectors hty s p hp
  rw [hexec]
  exact ⟨vinstr_illegal p.2 true false body hready hopen, vinstr_misconfigured p.2 body hready hopen⟩

end Sys2Proof.Proofs

namespace Sys2Proof.Proofs
open Sys2Proof.Machine Sys2Proof.Safety

/-! ## Element-wise instructions (R129, R130, R134, R135) -/

/-- Operation `op` is what a row of the table of element-wise instructions says of a type: the types it permits, what its vs2 field is, and the value
of an element. -/
structure RowOf (c : VCfg) (ty : BitVec 2) (op : EOp) (tys : List (BitVec 2)) (kind : Nat) (f : Nat → Nat → Nat → Nat) : Prop where
  types : op.tys = tys
  amount : op.imm = decide (kind = 2)
  unary : (!op.one || op.plain || decide (kind = 1)) = true
  value : ∀ a b d, (op.f c ty a b d).1 = f a b d

theorem RowOf.legal {c : VCfg} {op : EOp} {tys : List (BitVec 2)} {kind : Nat} {f : Nat → Nat → Nat → Nat} {o : VR} (h : RowOf c o.ty op tys kind f)
    (hty : o.ty ∈ tys) (hunary : kind = 1 → o.vs2 = 0) (hamount : kind = 2 → o.vs2.toNat < tyBits o.ty) : op.legal o = true := by
  have hone := h.unary
  simp only [EOp.legal, h.types, h.amount, Bool.and_eq_true, Bool.or_eq_true, Bool.not_eq_true', decide_eq_true_eq, decide_eq_false_iff_not,
    List.contains_iff_mem] at hone ⊢
  refine ⟨⟨hty, hone.imp_right hunary⟩, ?_⟩
  by_cases hkind : kind = 2
  · exact Or.inr (hamount hkind)
  · exact Or.inl hkind

/-- The operations of the element-wise instructions, in the order of their table. -/
def elementOps : List EOp :=
  [opAdd, opSub, opSadd, opSsub, opMul, opMulh, opMin, opMax, opAbs, opNeg, opAnd, opOr, opXor, opNot, opShl, opShr, opSra, opShli, opShri,
   opSrai, opMov, opFadd, opFsub, opFmul, opFma, opFms, opFmin, opFmax, opFabs, opFneg, opCvtfq, opCvtqf, opCvtfi, opCvtif]

/-- A row of the table of element-wise instructions is an instruction of operation `op`. -/
def IsElementRow (c : VCfg) (t : TriadId) (o : VR) (p : Instr × List (BitVec 2) × Nat × (Nat → Nat → Nat → Nat)) (op : EOp) : Prop :=
  RowOf c o.ty op p.2.1 p.2.2.1 p.2.2.2 ∧ ∃ major func, ∀ s, exec p.1 s = longElem op major func t o s

theorem vmul_row (c : VCfg) (t : TriadId) (o : VR) : IsElementRow c t o (.vmul t o, [0, 1, 2], 0, fun (a b _ : Nat) =>
    if o.ty = 2 then (satE 32 (roundShift (qrndFrm c.qrnd) (sgn 32 a * sgn 32 b) 31)).1
    else unsgn (tyBits o.ty) (sgn (tyBits o.ty) a * sgn (tyBits o.ty) b)) opMul :=
  ⟨⟨rfl, rfl, rfl, fun _ _ _ => apply_ite Prod.fst _ _ _⟩, _, _, exec_vmul t o⟩

theorem elementTable_rows (c : VCfg) (t : TriadId) (o : VR) :
    List.Forall₂ (IsElementRow c t o) (Sys2Proof.Statements.elementTable c t o) elementOps := by
  unfold Sys2Proof.Statements.elementTable elementOps
  exact
    .cons ⟨⟨rfl, rfl, rfl, fun _ _ _ => rfl⟩, _, _, exec_vadd t o⟩ <|
    .cons ⟨⟨rfl, rfl, rfl, fun _ _ _ => rfl⟩, _, _, exec_vsub t o⟩ <|
    .cons ⟨⟨rfl, rfl, rfl, fun _ _ _ => rfl⟩, _, _, exec_vsadd t o⟩ <|
    .cons ⟨⟨rfl, rfl, rfl, fun _ _ _ => rfl⟩, _, _, exec_vssub t o⟩ <|
    .cons (vmul_row c t o) <|
    .cons ⟨⟨rfl, rfl, rfl, fun _ _ _ => rfl⟩, _, _, exec_vmulh t o⟩ <|
    .cons ⟨⟨rfl, rfl, rfl, fun _ _ _ => rfl⟩, _, _, exec_vmin t o⟩ <|
    .cons ⟨⟨rfl, rfl, rfl, fun _ _ _ => rfl⟩, _, _, exec_vmax t o⟩ <|
    .cons ⟨⟨rfl, rfl, rfl, fun _ _ _ => rfl⟩, _, _, exec_vabs t o⟩ <|
    .cons ⟨⟨rfl, rfl, rfl, fun _ _ _ => rfl⟩, _, _, exec_vneg t o⟩ <|
    .cons ⟨⟨rfl, rfl, rfl, fun _ _ _ => rfl⟩, _, _, exec_vand t o⟩ <|
    .cons ⟨⟨rfl, rfl, rfl, fun _ _ _ => rfl⟩, _, _, exec_vor t o⟩ <|
    .cons ⟨⟨rfl, rfl, rfl, fun _ _ _ => rfl⟩, _, _, exec_vxor t o⟩ <|
    .cons ⟨⟨rfl, rfl, rfl, fun _ _ _ => rfl⟩, _, _, exec_vnot t o⟩ <|
    .cons ⟨⟨rfl, rfl, rfl, fun _ _ _ => rfl⟩, _, _, exec_vshl t o⟩ <|
    .cons ⟨⟨rfl, rfl, rfl, fun _ _ _ => rfl⟩, _, _, exec_vshr t o⟩ <|
    .cons ⟨⟨rfl, rfl, rfl, fun _ _ _ => rfl⟩, _, _, exec_vsra t o⟩ <|
    .cons ⟨⟨rfl, rfl, rfl, fun _ _ _ => rfl⟩, _, _, exec_vshli t o⟩ <|
    .cons ⟨⟨rfl, rfl, rfl, fun _ _ _ => rfl⟩, _, _, exec_vshri t o⟩ <|
    .cons ⟨⟨rfl, rfl, rfl, fun _ _ _ => rfl⟩, _, _, exec_vsrai t o⟩ <|
    .cons ⟨⟨rfl, rfl, rfl, fun _ _ _ => rfl⟩, _, _, exec_vmov t o⟩ <|
    .cons ⟨⟨rfl, rfl, rfl, fun _ _ _ => rfl⟩, _, _, exec_vfadd t o⟩ <|
    .cons ⟨⟨rfl, rfl, rfl, fun _ _ _ => rfl⟩, _, _, exec_vfsub t o⟩ <|
    .cons ⟨⟨rfl, rfl, rfl, fun _ _ _ => rfl⟩, _, _, exec_vfmul t o⟩ <|
    .cons ⟨⟨rfl, rfl, rfl, fun _ _ _ => rfl⟩, _, _, exec_vfma t o⟩ <|
    .cons ⟨⟨rfl, rfl, rfl, fun _ _ _ => rfl⟩, _, _, exec_vfms t o⟩ <|
    .cons ⟨⟨rfl, rfl, rfl, fun _ _ _ => rfl⟩, _, _, exec_vfmin t o⟩ <|
    .cons ⟨⟨rfl, rfl, rfl, fun _ _ _ => rfl⟩, _, _, exec_vfmax t o⟩ <|
    .cons ⟨⟨rfl, rfl, rfl, fun _ _ _ => rfl⟩, _, _, exec_vfabs t o⟩ <|
    .cons ⟨⟨rfl, rfl, rfl, fun _ _ _ => rfl⟩, _, _, exec_vfneg t o⟩ <|
    .cons ⟨⟨rfl, rfl, rfl, fun _ _ _ => rfl⟩, _, _, exec_vcvtfq t o⟩ <|
    .cons ⟨⟨rfl, rfl, rfl, fun _ _ _ => rfl⟩, _, _, exec_vcvtqf t o⟩ <|
    .cons ⟨⟨rfl, rfl, rfl, fun _ _ _ => rfl⟩, _, _, exec_vcvtfi t o⟩ <|
    .cons ⟨⟨rfl, rfl, rfl, fun _ _ _ => rfl⟩, _, _, exec_vcvtif t o⟩ <|
    .nil

/-- Every row of a table that answers a list answers one of its entries. -/
theorem exists_of_mem_forall₂ {α β : Type} {R : α → β → Prop} {l : List α} {m : List β} (h : List.Forall₂ R l m) {a : α} (ha : a ∈ l) :
    ∃ b ∈ m, R a b := by
  induction h with
  | nil => cases ha
  | cons hab _ ih =>
    rcases List.mem_cons.mp ha with rfl | ha
    · exact ⟨_, List.mem_cons_self, hab⟩
    · obtain ⟨b, hb, hR⟩ := ih ha
      exact ⟨b, List.mem_cons_of_mem _ hb, hR⟩

theorem elementwiseInstructionsWriteActiveElements : Sys2Proof.Statements.ElementwiseInstructionsWriteActiveElements := by
  intro s t o h x c e p hp hty hunary hamount
  obtain ⟨op, -, hrow, major, func, hexec⟩ := exists_of_mem_forall₂ (elementTable_rows c t o) hp
  obtain ⟨u, hlong, hwrote⟩ := longElem_wrote op major func s t o h (hrow.legal hty hunary hamount)
  refine ⟨u, (hexec s).trans hlong, ?_⟩
  have hvalue : ∀ a b d, (op.f (s.triad t).vcfgNow o.ty a b d).1 = p.2.2.2 a b d := hrow.value
  simp only [EOp.at, hvalue, hrow.amount, decide_eq_true_eq] at hwrote
  exact hwrote

/-! ## Saturation (R129) -/

/-- The flags of an operation that can only saturate. -/
def satFlag (b : Bool) : VFlags := { sat := b }

theorem satFlag_join (a b : Bool) : (satFlag a).join (satFlag b) = satFlag (a || b) := rfl

/-- What `satE` calls clipped. -/
def clips (e : Nat) (v : Int) : Bool := decide (v < -(2 ^ (e - 1) : Int)) || decide ((2 ^ (e - 1) : Int) ≤ v)

theorem satE_flags (e : Nat) (v : Int) : (satE e v).2 = satFlag (clips e v) := by
  unfold satE clips
  by_cases hlow : v < -(2 ^ (e - 1) : Int)
  · simp only [hlow, if_true, decide_true, Bool.true_or]
    rfl
  · by_cases hhigh : (2 ^ (e - 1) : Int) ≤ v
    · simp only [hlow, hhigh, if_false, if_true, decide_true, Bool.or_true]
      rfl
    · simp only [hlow, hhigh, if_false, decide_false, Bool.or_self]
      rfl

theorem foldl_satFlag (b : Nat → Bool) (l : List Nat) (a : Bool) :
    l.foldl (fun f i => f.join (satFlag (b i))) (satFlag a) = satFlag (a || l.any b) := by
  induction l generalizing a with
  | nil => simp
  | cons i l ih => simp only [List.foldl_cons, satFlag_join, ih, List.any_cons, Bool.or_assoc]

theorem joinFlags_satFlag (n : Nat) (act b : Nat → Bool) :
    joinFlags n act (fun i => satFlag (b i)) = satFlag ((List.range n).any fun i => act i && b i) := by
  unfold joinFlags
  rw [← List.any_filter]
  exact foldl_satFlag b _ false

theorem or_satFlag_bits (v : DWord) (b : Bool) : v ||| (satFlag b).bits = if b then v ||| 0x4000 else v := by
  cases b
  · exact BitVec.or_zero
  · rfl

/-- An element-wise instruction of a ready lane passes its checks. -/
theorem longElem_passes (op : EOp) {s : State} {t : TriadId} (o : VR) (c : VCfg) (h : VecReady s t) :
    (op.body o c (issue s t) ((issue s t).triad t)).fail = false := by
  have hz := issue_zGood h
  simp [EOp.body, issue_pGood h, goodFor_all _ _ _ _ hz, chainGood_all _ _ _ _ _ _ hz, keptGood_all _ _ _ _ _ hz]

/-- What an element-wise instruction leaves in VXSTAT. -/
theorem longElem_vxstat (op : EOp) (major func : Nat) {s : State} {t : TriadId} {o : VR} (h : VecReady s t) (hlegal : op.legal o = true) :
    let x := s.triad t
    ∃ u, longElem op major func t o s = .next u ∧ (u.triad t).vxstat = x.vxstat |||
      (joinFlags (tyElems o.ty) (x.active x.vcfgNow o) fun i => (op.at x.vcfgNow o (x.zv o.vs1) (x.zv o.vs2) (x.zv o.vd) i).2).bits := by
  intro x
  obtain ⟨u, hexec, -, htriad⟩ := vinstr_ok s t (encVR major func o) false (op.body o) h.ready h.lane (Or.inr h.config) h.quiet
    (longElem_passes op o _ h) rfl (by rw [issue_triad]; rfl) (by rw [issue_triad]; rfl)
  refine ⟨u, by rw [longElem, hlegal, hexec], ?_⟩
  rw [htriad, issue_triad]
  rfl

/-- An operation that saturates `g` of its operands sets VXSTAT.SAT where an active element is clipped. -/
theorem longElem_saturates {op : EOp} {g : Int → Int → Int} (major func : Nat) {s : State} {t : TriadId} {o : VR} (h : VecReady s t)
    (hlegal : op.legal o = true) (himm : op.imm = false) (hf : ∀ c ty a b d, op.f c ty a b d = satE (tyBits ty) (g (sgn (tyBits ty) a) (sgn (tyBits ty) b))) :
    let x := s.triad t
    let e := tyBits o.ty
    ∃ u, longElem op major func t o s = .next u ∧ (u.triad t).vxstat =
      if (List.range (tyElems o.ty)).any fun i => x.active x.vcfgNow o i && clips e (g (sgn e (elemAt e (x.zv o.vs1) i)) (sgn e (elemAt e (x.zv o.vs2) i)))
      then x.vxstat ||| 0x4000 else x.vxstat := by
  intro x e
  obtain ⟨u, hexec, hvxstat⟩ := longElem_vxstat op major func h hlegal
  refine ⟨u, hexec, ?_⟩
  simp only [EOp.at, hf, himm, Bool.false_eq_true, if_false, satE_flags, joinFlags_satFlag, or_satFlag_bits] at hvxstat
  exact hvxstat

theorem saturationIsSticky : Sys2Proof.Statements.SaturationIsSticky := by
  intro s t o h hty x e
  simp only [List.forall_mem_cons, List.not_mem_nil, false_implies, implies_true, and_true, exec_vsadd, exec_vssub, execVsadd, execVssub]
  have hlegal : opSadd.legal o = true ∧ opSsub.legal o = true := ⟨legal_plain rfl rfl rfl hty, legal_plain rfl rfl rfl hty⟩
  exact ⟨longElem_saturates 0x38 0x02 h hlegal.1 rfl fun _ _ _ _ _ => rfl, longElem_saturates 0x38 0x03 h hlegal.2 rfl fun _ _ _ _ _ => rfl⟩

/-- Settles O25: each row of the table is an element-wise instruction of its operation, and only clipping leaves a flag of VSADD and VSSUB. -/
theorem elementwiseInstructions : Obligations.ElementwiseInstructions :=
  ⟨elementwiseInstructionsWriteActiveElements, saturationIsSticky⟩

end Sys2Proof.Proofs

namespace Sys2Proof.Proofs
open Sys2Proof.Machine Sys2Proof.Safety

/-! ## Vector registers, predicates and accumulators written alone (R139) -/

/-- `y` is `x` but for its vector registers and VXSTAT. -/
def VecPart (x y : Triad) : Prop :=
  y = { x with
    z := y.z, zres := y.zres, p := y.p, p2 := y.p2, za := y.za, zares := y.zares, ffm := y.ffm, ffm2 := y.ffm2, vxstat := y.vxstat, q := y.q }

theorem vecPart_putP (x : Triad) (r : Nat) (v : BitVec 64) (f : VFlags) : VecPart x ((x.putP r v).flags f) := by
  unfold Triad.putP
  split_ifs <;> rfl

/-- A long-vector instruction that passes its checks and changes vector registers alone. -/
theorem vinstr_vecOnly {s : State} {t : TriadId} {word : DWord} {save : Bool} {body : VCfg → State → Triad → VOut} {y : Triad} (h : VecReady s t)
    (hx : (body (s.triad t).vcfgNow (issue s t) ((issue s t).triad t)).x = y) (hy : VecPart ((issue s t).triad t) y)
    (hfail : (body (s.triad t).vcfgNow (issue s t) ((issue s t).triad t)).fail = false)
    (hg : (body (s.triad t).vcfgNow (issue s t) ((issue s t).triad t)).g = none) :
    ∃ u, vinstr t word true save body s = .next u ∧ VecOnly s u t ∧ u.triad t = { y with instret := y.instret + 1 } := by
  unfold VecPart at hy
  have hi := issue_triad s t
  obtain ⟨u, hexec, honly, htriad⟩ := vinstr_ok s t word save body h.ready h.lane (Or.inr h.config) h.quiet hfail hg
    (by rw [hx, hy, hi]) (by rw [hx, hy, hi])
  rw [hx] at htriad
  refine ⟨u, hexec, ⟨honly, ?_⟩, htriad⟩
  rw [htriad, hy, hi]

/-- A long-vector instruction that writes elements of one z register, each as `f` says, and nothing else but VXSTAT. -/
theorem vinstr_wroteZ_as {s : State} {t : TriadId} {word : DWord} {save : Bool} {body : VCfg → State → Triad → VOut} {rd : Reg} {e : Nat}
    {f : Nat → Nat} (zero : Bool) (act : Nat → Bool) (v : Nat → Nat) (flags : VFlags) (h : VecReady s t) (he : e = 16 ∨ e = 32)
    (hx : (body (s.triad t).vcfgNow (issue s t) ((issue s t).triad t)).x = (((issue s t).triad t).writeElems rd e zero act v).flags flags)
    (hfail : (body (s.triad t).vcfgNow (issue s t) ((issue s t).triad t)).fail = false)
    (hg : (body (s.triad t).vcfgNow (issue s t) ((issue s t).triad t)).g = none)
    (hf : ∀ i, (if act i then v i % 2 ^ e else if zero then 0 else elemAt e ((s.triad t).zv rd) i) = f i) :
    ∃ u, vinstr t word true save body s = .next u ∧ WroteZ s u t rd e f := by
  rw [← funext hf]
  exact vinstr_wroteZ s t word save body h rd e he zero act v flags hx hfail hg

/-- A long-vector instruction that writes one predicate and nothing else but VXSTAT. -/
theorem vinstr_wroteP {s : State} {t : TriadId} {word : DWord} {save : Bool} {body : VCfg → State → Triad → VOut} {rd : Reg} {v : BitVec 64}
    {f : Nat → Bool} (flags : VFlags) (h : VecReady s t)
    (hx : (body (s.triad t).vcfgNow (issue s t) ((issue s t).triad t)).x = (((issue s t).triad t).putP rd.toNat v).flags flags)
    (hfail : (body (s.triad t).vcfgNow (issue s t) ((issue s t).triad t)).fail = false)
    (hg : (body (s.triad t).vcfgNow (issue s t) ((issue s t).triad t)).g = none) (hv : ∀ i < 64, v.getLsbD i = f i) :
    ∃ u, vinstr t word true save body s = .next u ∧ WroteP s u t rd f := by
  obtain ⟨u, hexec, honly, htriad⟩ := vinstr_vecOnly (word := word) (save := save) h hx (vecPart_putP _ _ _ _) hfail hg
  have hpv : ∀ r, (u.triad t).pv r = (((issue s t).triad t).putP rd.toNat v).pv r := fun r => by rw [htriad]; rfl
  have hissue : ∀ r, ((issue s t).triad t).pv r = (s.triad t).pv r := fun r => by rw [issue_triad]; rfl
  have hzero : rd = 0 ↔ rd.toNat = 0 := ⟨fun heq => by rw [heq]; rfl, fun heq => BitVec.eq_of_toNat_eq heq⟩
  refine ⟨u, hexec, honly, fun hrd i hi => ?_, fun r hr => ?_, fun r => ?_, ?_⟩
  · rw [hpv, pv_putP_self _ _ _ (mt hzero.mpr hrd), hv i hi]
  · rw [hpv, ← hissue]
    by_cases hrd : rd = 0
    · rw [Triad.putP, if_pos (hzero.mp hrd)]
    · exact pv_putP_other _ _ _ _ (hr.resolve_right hrd).symm
  · have hgood := pGood_putP ((issue s t).triad t) rd.toNat r v (issue_pGood h r)
    rw [htriad]
    exact hgood
  · rw [htriad]
    unfold Triad.putP
    split_ifs <;> rw [issue_triad] <;> exact ⟨rfl, rfl, rfl, rfl, rfl, rfl, rfl⟩

/-! ## Instructions that write predicates (R122, R124, R134, R135) -/

theorem flags_none (x : Triad) : x.flags {} = x := by
  have hbits : VFlags.bits {} = 0#64 := rfl
  rw [Triad.flags, hbits, BitVec.or_zero]

theorem tyElems_cases (ty : BitVec 2) : tyElems ty = 64 ∨ tyElems ty = 32 := by
  unfold tyElems
  split_ifs <;> simp

theorem tyElems_le (ty : BitVec 2) : tyElems ty ≤ 64 := by
  rcases tyElems_cases ty with hn | hn <;> omega

/-- A bit of a predicate packed from the elements of a type. -/
theorem packBits_elements (ty : BitVec 2) (f : Nat → Bool) (i : Nat) (hi : i < 64) :
    (packBits (tyElems ty) f).getLsbD i = (decide (i < tyElems ty) && f i) := packBits_get _ (tyElems_le ty) f i hi

theorem longCmp_wrote {op : COp} (func : Nat) {s : State} {t : TriadId} {o : VR} (h : VecReady s t) (hty : op.tys.contains o.ty = true)
    (hvd : o.vd.toNat < 8) :
    let x := s.triad t
    ∃ u, longCmp op func t o s = .next u ∧ WroteP s u t o.vd fun i => (decide (i < tyElems o.ty) && x.active x.vcfgNow o i) &&
      (op.f x.vcfgNow o.ty (elemAt (tyBits o.ty) (x.zv o.vs1) i) (elemAt (tyBits o.ty) (x.zv o.vs2) i)).1 := by
  intro x
  have hlegal : (op.tys.contains o.ty && isP o.vd) = true := by rw [hty, isP, decide_eq_true hvd]; rfl
  have hz := issue_zGood h
  rw [longCmp, hlegal]
  refine vinstr_wroteP _ h rfl ?_ rfl fun i hi => ?_
  · simp only [issue_pGood h, goodFor_all _ _ _ _ hz, Bool.and_self, Bool.not_true]
  · rw [packBits_elements _ _ _ hi, issue_triad, Bool.and_assoc]
    rfl

/-- A predicate operation on legal fields (R134). -/
theorem predOp_wrote {g : BitVec 64 → BitVec 64 → BitVec 64} {f : Nat → Bool} (func : Nat) {s : State} {t : TriadId} {o : VR} (h : VecReady s t)
    (hvd : o.vd.toNat < 8) (hlegal : o.ty = 0 ∧ o.pg = 0 ∧ o.vs1.toNat < 8 ∧ o.vs2.toNat < 8)
    (hf : ∀ i < 64, (g ((s.triad t).pv o.vs1.toNat) ((s.triad t).pv o.vs2.toNat)).getLsbD i = f i) :
    ∃ u, predOp g func t o s = .next u ∧ WroteP s u t o.vd f := by
  obtain ⟨hty, hpg, hvs1, hvs2⟩ := hlegal
  have hfields : (o.ty = 0 && o.pg = 0 && isP o.vd && isP o.vs1 && isP o.vs2) = true := by simp [isP, hty, hpg, hvd, hvs1, hvs2]
  rw [predOp, hfields]
  refine vinstr_wroteP {} h (flags_none _).symm ?_ rfl ?_
  · simp only [issue_pGood h, Bool.and_self, Bool.not_true]
  · rw [issue_triad]
    exact hf

theorem plimit_wrote {s : State} {t : TriadId} {o : VR} (h : VecReady s t) (hvd : o.vd.toNat < 8) (hpg : o.pg = 0) :
    ∃ u, exec (.plimit t o) s = .next u ∧ WroteP s u t o.vd fun i => decide (i < tyElems o.ty) && decide (i < (s.triad t).vcfgNow.n o.ty) &&
      decide ((s.gx t o.vs1).toNat + i < (s.gx t o.vs2).toNat) := by
  have hlegal : (o.pg = 0 && isP o.vd) = true := by simp [isP, hpg, hvd]
  rw [exec_plimit, execPlimit, hlegal]
  refine vinstr_wroteP {} h (flags_none _).symm rfl rfl fun i hi => ?_
  rw [packBits_elements _ _ _ hi, issue_gx, issue_gx, Bool.and_assoc]

theorem ffread_wrote {s : State} {t : TriadId} {o : VR} (h : VecReady s t) (hvd : o.vd.toNat < 8) :
    ∃ u, exec (.ffread t o) s = .next u ∧ WroteP s u t o.vd fun i =>
      (decide (i < tyElems o.ty) && (s.triad t).active (s.triad t).vcfgNow o i) && (s.triad t).ffm.getLsbD i := by
  have hlegal : isP o.vd = true := decide_eq_true hvd
  rw [exec_ffread, execFfread, hlegal]
  refine vinstr_wroteP {} h (flags_none _).symm ?_ rfl fun i hi => ?_
  · simp only [issue_ffmGood h, issue_pGood h, Bool.and_self, Bool.not_true]
  · rw [packBits_elements _ _ _ hi, issue_triad, Bool.and_assoc]
    rfl

/-- A signed comparison compares FP32 elements as such, and others by their signed values. -/
theorem signedCmp_value (r : Int → Int → Bool) (c : VCfg) (ty : BitVec 2) (a b : Nat) :
    (signedCmp r c ty a b).1 = if ty = 3 then (fpCompare c.fp r a b).1 else r (sgn (tyBits ty) a) (sgn (tyBits ty) b) := apply_ite Prod.fst _ _ _

theorem predicateTable_writes {s : State} {t : TriadId} {o : VR} (h : VecReady s t) (hvd : o.vd.toNat < 8) :
    ∀ p ∈ Sys2Proof.Statements.predicateTable s t o, p.2.1 → ∃ u, exec p.1 s = .next u ∧ WroteP s u t o.vd p.2.2 := by
  have hints : o.ty = 0 ∨ o.ty = 1 → tyIntOnly.contains o.ty = true := by rintro (hty | hty) <;> rw [hty] <;> decide
  simp only [Sys2Proof.Statements.predicateTable, List.forall_mem_cons, List.not_mem_nil, false_implies, implies_true, and_true]
  simp only [← signedCmp_value, exec_vcmpeq, exec_vcmpne, exec_vcmplt, exec_vcmple, exec_vcmpltu, exec_vcmpleu, exec_pand, exec_por, exec_pxor,
    exec_pandn, execVcmpeq, execVcmpne, execVcmplt, execVcmple, execVcmpltu, execVcmpleu, execPand, execPor, execPxor, execPandn]
  exact ⟨fun _ => longCmp_wrote 0x00 h (tyAll_contains _) hvd, fun _ => longCmp_wrote 0x01 h (tyAll_contains _) hvd,
    fun _ => longCmp_wrote 0x02 h (tyAll_contains _) hvd, fun _ => longCmp_wrote 0x03 h (tyAll_contains _) hvd,
    fun hty => longCmp_wrote 0x04 h (hints hty) hvd, fun hty => longCmp_wrote 0x05 h (hints hty) hvd,
    fun hlegal => predOp_wrote 0x08 h hvd hlegal fun i _ => BitVec.getLsbD_and,
    fun hlegal => predOp_wrote 0x09 h hvd hlegal fun i _ => BitVec.getLsbD_or,
    fun hlegal => predOp_wrote 0x0A h hvd hlegal fun i _ => BitVec.getLsbD_xor,
    fun hlegal => predOp_wrote 0x0B h hvd hlegal fun i hi => by simp [hi],
    plimit_wrote h hvd, fun _ => ffread_wrote h hvd⟩

theorem gmovp_wrote_predicate {s : State} {t : TriadId} {o : VR} (h : VecReady s t) (hsave : saveFields o = true) (hvd : o.vd.toNat < 8) :
    ∃ u, exec (.gmovp t o) s = .next u ∧ WroteP s u t o.vd fun i => (s.gx t o.vs1).getLsbD i := by
  have hlegal : (saveFields o && decide (o.vd.toNat ≤ 8)) = true := by simp [hsave, hvd.le]
  have hne : o.vd ≠ 8 := by rintro heq; simp [heq] at hvd
  rw [exec_gmovp, execGmovp, hlegal]
  refine vinstr_wroteP {} h ?_ rfl rfl fun i _ => rfl
  simp only [hne, if_false, issue_gx, flags_none]

/-- A long-vector instruction that passes its checks and writes the first-fault mask alone. -/
theorem vinstr_wroteFfm {s : State} {t : TriadId} {word : DWord} {save : Bool} {body : VCfg → State → Triad → VOut} {v : BitVec 64} (h : VecReady s t)
    (hx : (body (s.triad t).vcfgNow (issue s t) ((issue s t).triad t)).x = ((issue s t).triad t).putFfm v)
    (hfail : (body (s.triad t).vcfgNow (issue s t) ((issue s t).triad t)).fail = false)
    (hg : (body (s.triad t).vcfgNow (issue s t) ((issue s t).triad t)).g = none) :
    ∃ u, vinstr t word true save body s = .next u ∧ VecOnly s u t ∧ (u.triad t).ffm = v ∧ (u.triad t).ffm2 = v ∧
      (u.triad t).z = (s.triad t).z ∧ (u.triad t).p = (s.triad t).p := by
  obtain ⟨u, hexec, honly, htriad⟩ := vinstr_vecOnly (word := word) (save := save) h hx rfl hfail hg
  refine ⟨u, hexec, honly, ?_⟩
  rw [htriad, issue_triad]
  exact ⟨rfl, rfl, rfl, rfl⟩

theorem gmovp_wrote_ffm {s : State} {t : TriadId} {o : VR} (h : VecReady s t) (hsave : saveFields o = true) (hvd : o.vd = 8) :
    ∃ u, exec (.gmovp t o) s = .next u ∧ VecOnly s u t ∧ (u.triad t).ffm = s.gx t o.vs1 ∧ (u.triad t).ffm2 = s.gx t o.vs1 ∧
      (u.triad t).z = (s.triad t).z ∧ (u.triad t).p = (s.triad t).p := by
  have hlegal : (saveFields o && decide (o.vd.toNat ≤ 8)) = true := by simp [hsave, hvd]
  rw [exec_gmovp, execGmovp, hlegal]
  refine vinstr_wroteFfm h ?_ rfl rfl
  simp only [hvd, if_true, issue_gx]

theorem ffarm_wrote {s : State} {t : TriadId} {o : VR} (h : VecReady s t) (hvd : o.vd = 0) (hvs2 : o.vs2 = 0) (hpg : o.pg = 0)
    (hvs1 : o.vs1.toNat < 8) :
    ∃ u, exec (.ffarm t o) s = .next u ∧ VecOnly s u t ∧ (u.triad t).ffm = (s.triad t).pv o.vs1.toNat ∧
      (u.triad t).ffm2 = (s.triad t).pv o.vs1.toNat ∧ (u.triad t).z = (s.triad t).z ∧ (u.triad t).p = (s.triad t).p := by
  have hlegal : (o.vd = 0 && o.vs2 = 0 && o.pg = 0 && isP o.vs1) = true := by simp [isP, hvd, hvs2, hpg, hvs1]
  rw [exec_ffarm, execFfarm, hlegal]
  refine vinstr_wroteFfm h ?_ ?_ rfl
  · rw [issue_triad]
    rfl
  · simp only [issue_pGood h, Bool.not_true]

theorem zv_cleared {x : Triad} (h : x.z = []) (r : Reg) : x.zv r = 0 := by
  rw [Triad.zv, h, Sparse.get]
  exact BitVec.toNat_zero

theorem zav_cleared {x : Triad} (h : x.za = []) (r : Reg) : x.zav r = 0 := by
  rw [Triad.zav, h, Sparse.get]
  exact BitVec.toNat_zero

theorem vzero_clears {s : State} {t : TriadId} {o : VR} (h : VecReady s t) (hsave : saveFields o = true) :
    ∃ u, exec (.vzero t o) s = .next u ∧ VecOnly s u t ∧ (u.triad t).q = (s.triad t).q ∧ (u.triad t).vxstat = (s.triad t).vxstat ∧
      (∀ r, (u.triad t).zv r = 0 ∧ (u.triad t).zav r = 0) ∧ (∀ r, 1 ≤ r → (u.triad t).pv r = 0) ∧ (u.triad t).ffm = BitVec.allOnes 64 := by
  rw [exec_vzero, execVzero, hsave]
  obtain ⟨u, hexec, honly, htriad⟩ := vinstr_vecOnly (word := encVR 0x3F 0x05 o) (save := true) (body := fun _ _ x =>
    { x := { x with z := [], zres := [], p := [], p2 := [], za := [], zares := [],
                    ffm := BitVec.allOnes 64, ffm2 := BitVec.allOnes 64 }
      made := 1152 }) h rfl rfl rfl rfl
  refine ⟨u, hexec, honly, ?_⟩
  rw [htriad, issue_triad]
  exact ⟨rfl, rfl, fun r => ⟨zv_cleared rfl r, zav_cleared rfl r⟩, fun r hr => if_neg (by omega), rfl⟩

theorem predicateInstructionsWritePredicates : Sys2Proof.Statements.PredicateInstructionsWritePredicates := by
  intro s t o h
  exact ⟨predicateTable_writes h, gmovp_wrote_predicate h, gmovp_wrote_ffm h, ffarm_wrote h, vzero_clears h⟩

end Sys2Proof.Proofs

namespace Sys2Proof.Proofs
open Sys2Proof.Machine Sys2Proof.Safety

/-! ## Permutes and moves into z (R135) -/

/-- Element `i` a permute makes, and its flags, of registers whose data `reg` gives. -/
def permElem (func : Nat) (ty : BitVec 2) (n : Nat) (o : VR) (reg : Reg → Nat) (i : Nat) : Nat × VFlags :=
  let src := permSrc func ty n o (fun i => elemAt (tyBits ty) (reg o.vs2) i) i
  permConv func (elemAt src.2.1 (reg src.1) src.2.2)

/-- The permutes of long and short vectors: function code, types, and where element `i` comes from. -/
def permRows (ty : BitVec 2) (n : Nat) (o : VR) (reg : Reg → Nat) : List (Nat × List (BitVec 2) × (Nat → Nat)) :=
  let e := tyBits ty
  let a := fun i => elemAt e (reg o.vs1) i
  let b := fun i => elemAt e (reg o.vs2) i
  [(0x03, [0, 1, 2, 3], fun i => a (b i % n)), (0x04, [0, 1, 2, 3], fun i => a (n - 1 - i)),
   (0x05, [0, 1, 2, 3], fun i => if i + 1 < n then a (i + 1) else b 0),
   (0x06, [0, 1, 2, 3], fun i => if i % 2 = 0 then a (i / 2) else b (i / 2)),
   (0x07, [0, 1, 2, 3], fun i => if i % 2 = 0 then a (n / 2 + i / 2) else b (n / 2 + i / 2)),
   (0x08, [0, 1, 2, 3], fun i => if i < n / 2 then a (2 * i) else b (2 * (i - n / 2))),
   (0x09, [0, 1, 2, 3], fun i => if i < n / 2 then a (2 * i + 1) else b (2 * (i - n / 2) + 1)),
   (0x0A, [1], fun i => unsgn 32 (sgn 16 (elemAt 16 (reg o.vs1) i))), (0x0B, [1], fun i => unsgn 32 (sgn 16 (elemAt 16 (reg o.vs1) (n + i)))),
   (0x0C, [0], fun i => (satE 16 (sgn 32 (if i < n / 2 then elemAt 32 (reg o.vs1) i else elemAt 32 (reg o.vs2) (i - n / 2)))).1)]

/-- The permutes make the elements of their rows, on the types of their rows. -/
theorem permRows_elem (ty : BitVec 2) (n : Nat) (o : VR) (reg : Reg → Nat) :
    ∀ p ∈ permRows ty n o reg, permTys p.1 = p.2.1 ∧ ∀ i, (permElem p.1 ty n o reg i).1 = p.2.2 i := by
  simp only [permRows, List.forall_mem_cons, List.not_mem_nil, false_implies, implies_true, and_true]
  refine ⟨⟨rfl, fun i => rfl⟩, ⟨rfl, fun i => rfl⟩, ⟨rfl, fun i => ?slide⟩, ⟨rfl, fun i => ?weavl⟩, ⟨rfl, fun i => ?weavh⟩, ⟨rfl, fun i => ?splite⟩,
    ⟨rfl, fun i => ?splito⟩, ⟨rfl, fun i => rfl⟩, ⟨rfl, fun i => rfl⟩, ⟨rfl, fun i => ?narr⟩⟩
  case slide => by_cases hi : i + 1 < n <;> simp [permElem, permSrc, permConv, hi]
  case weavl => by_cases hi : i % 2 = 0 <;> simp [permElem, permSrc, permConv, hi]
  case weavh => by_cases hi : i % 2 = 0 <;> simp [permElem, permSrc, permConv, hi]
  case splite => by_cases hi : i < n / 2 <;> simp [permElem, permSrc, permConv, hi]
  case splito => by_cases hi : i < n / 2 <;> simp [permElem, permSrc, permConv, hi]
  case narr => by_cases hi : i < n / 2 <;> simp [permElem, permSrc, permConv, hi]

/-- The source of an element of a permute lies in a container of its register. -/
theorem permSrc_container {func : Nat} {ty : BitVec 2} (o : VR) (ix : Nat → Nat) {i : Nat} (hty : (permTys func).contains ty = true) (hi : i < tyElems ty) :
    let src := permSrc func ty (tyElems ty) o ix i
    inContainer src.2.1 src.2.2 < 32 := by
  have hn := tyElems_cases ty
  have hmod : ix i % tyElems ty < tyElems ty := Nat.mod_lt _ (tyElems_pos ty)
  have hhalf : tyElems ty / 2 ≤ 32 := by omega
  have hrest : i - tyElems ty / 2 < 32 := by omega
  have hwide : permTys func = [1] → tyElems ty = 32 := by
    intro hone
    rw [hone] at hty
    have hty1 : ty = 1 := by simpa using hty
    rw [hty1]
    rfl
  unfold permSrc
  dsimp only
  split
  · exact inContainer_lt hmod
  · exact inContainer_lt (i := tyElems ty - 1 - i) (by omega)
  · split_ifs with hnext
    · exact inContainer_lt hnext
    · exact inContainer_lt (tyElems_pos ty)
  · exact inContainer_lt (i := i / 2) (by omega)
  · exact inContainer_lt (i := tyElems ty / 2 + i / 2) (by omega)
  · split_ifs
    · exact inContainer_lt (i := 2 * i) (by omega)
    · exact inContainer_lt (i := 2 * (i - tyElems ty / 2)) (by omega)
  · split_ifs
    · exact inContainer_lt (i := 2 * i + 1) (by omega)
    · exact inContainer_lt (i := 2 * (i - tyElems ty / 2) + 1) (by omega)
  · simp only [inContainer, if_true]
    omega
  · have hn32 := hwide rfl
    simp only [inContainer, if_true]
    omega
  · split_ifs with hlow
    · exact lt_of_lt_of_le hlow hhalf
    · exact hrest

theorem longPerm_wrote (func : Nat) {s : State} {t : TriadId} {o : VR} (h : VecReady s t) (hty : (permTys func).contains o.ty = true) :
    let x := s.triad t
    ∃ u, longPerm func t o s = .next u ∧ WroteZ s u t o.vd (tyBits o.ty) fun i =>
      if x.active x.vcfgNow o i then (permElem func o.ty (tyElems o.ty) o x.zv i).1 % 2 ^ tyBits o.ty
      else if o.z then 0 else elemAt (tyBits o.ty) (x.zv o.vd) i := by
  intro x
  have hz := issue_zGood h
  rw [longPerm, hty]
  refine vinstr_wroteZ_as o.z (x.active x.vcfgNow o) (fun i => (permElem func o.ty (tyElems o.ty) o x.zv i).1) _ h (tyBits_cases _)
    (by rw [issue_triad]; rfl) ?_ rfl fun _ => rfl
  simp only [issue_pGood h, goodFor_all _ _ _ _ hz, keptGood_all _ _ _ _ _ hz, Bool.or_true, Bool.and_self, Bool.true_and, Bool.not_eq_false',
    List.all_eq_true, List.mem_range, Bool.or_eq_true]
  exact fun i hi => Or.inr (hz _ _ (permSrc_container o _ hty hi))

theorem vsplat_wrote {s : State} {t : TriadId} {o : VR} (h : VecReady s t) :
    let x := s.triad t
    ∃ u, exec (.vsplat t o) s = .next u ∧ WroteZ s u t o.vd (tyBits o.ty) fun i =>
      if x.active x.vcfgNow o i then (s.gx t o.vs1).toNat % 2 ^ tyBits o.ty else if o.z then 0 else elemAt (tyBits o.ty) (x.zv o.vd) i := by
  intro x
  rw [exec_vsplat, execVsplat]
  refine vinstr_wroteZ_as o.z (x.active x.vcfgNow o) (fun _ => (s.gx t o.vs1).toNat % 2 ^ tyBits o.ty) {} h (tyBits_cases _) ?_ ?_ rfl fun _ => ?_
  · rw [flags_none, issue_gx, issue_triad]
    rfl
  · simp only [issue_pGood h, keptGood_all _ _ _ _ _ (issue_zGood h), Bool.and_self, Bool.not_true]
  · rw [Nat.mod_mod]

/-- VSEL takes each element of one source or the other by the predicate's bit. -/
theorem vsel_wrote {s : State} {t : TriadId} {o : VR} (h : VecReady s t) (hzero : o.z = false) :
    let x := s.triad t
    let e := tyBits o.ty
    ∃ u, exec (.vsel t o) s = .next u ∧ WroteZ s u t o.vd e fun i =>
      if i < x.vcfgNow.n o.ty then (if (x.pv o.pg.toNat).getLsbD i then elemAt e (x.zv o.vs1) i else elemAt e (x.zv o.vs2) i)
      else elemAt e (x.zv o.vd) i := by
  intro x e
  have hz := issue_zGood h
  have hlegal : (!o.z) = true := by rw [hzero]; rfl
  rw [exec_vsel, execVsel, hlegal]
  refine vinstr_wroteZ_as false (fun i => decide (i < x.vcfgNow.n o.ty))
    (fun i => if (x.pv o.pg.toNat).getLsbD i then elemAt e (x.zv o.vs1) i else elemAt e (x.zv o.vs2) i) {} h (tyBits_cases _) ?_ ?_ rfl fun i => ?_
  · rw [flags_none, issue_triad]
    rfl
  · simp only [issue_pGood h, goodFor_all _ _ _ _ hz, keptGood_all _ _ _ _ _ hz, Bool.and_self, Bool.not_true]
  · rw [Nat.mod_eq_of_lt (by split_ifs <;> exact elemAt_lt _ _ _)]
    simp only [decide_eq_true_eq, Bool.false_eq_true, if_false]
    rfl

/-- VINS writes the element it names, when that is active. -/
theorem vins_wrote {s : State} {t : TriadId} {o : VR} (h : VecReady s t) (hpg : o.pg = 0) (hzero : o.z = false) :
    let x := s.triad t
    let e := tyBits o.ty
    ∃ u, exec (.vins t o) s = .next u ∧ WroteZ s u t o.vd e fun i =>
      if i = (s.gx t o.vs2).toNat % tyElems o.ty ∧ x.active x.vcfgNow o i = true then (s.gx t o.vs1).toNat % 2 ^ e else elemAt e (x.zv o.vd) i := by
  intro x e
  have hlegal : (o.pg = 0 && !o.z) = true := by simp [hpg, hzero]
  rw [exec_vins, execVins, hlegal]
  refine vinstr_wroteZ_as false (fun i => decide (i = (s.gx t o.vs2).toNat % tyElems o.ty) && x.active x.vcfgNow o i)
    (fun _ => (s.gx t o.vs1).toNat % 2 ^ e) {} h (tyBits_cases _) ?_ ?_ rfl fun i => ?_
  · simp only [issue_gx]
    rw [flags_none, issue_triad]
    rfl
  · simp only [keptGood_all _ _ _ _ _ (issue_zGood h), Bool.not_true]
  · simp only [Bool.and_eq_true, decide_eq_true_eq, Nat.mod_mod, Bool.false_eq_true, if_false]
    rfl

/-- The permutes of the table stand in it in the order of `permRows`; VSPLAT follows them. -/
theorem permuteTable_rows (s : State) (t : TriadId) (o : VR) :
    List.Forall₂ (fun p q => p.2 = q.2 ∧ exec p.1 s = longPerm q.1 t o s) ((Sys2Proof.Statements.permuteTable s t o).take 10)
      (permRows o.ty (tyElems o.ty) o (s.triad t).zv) :=
  .cons ⟨rfl, exec_vperm t o s⟩ <| .cons ⟨rfl, exec_vrev t o s⟩ <| .cons ⟨rfl, exec_vslide t o s⟩ <| .cons ⟨rfl, exec_vweavl t o s⟩ <|
  .cons ⟨rfl, exec_vweavh t o s⟩ <| .cons ⟨rfl, exec_vsplite t o s⟩ <| .cons ⟨rfl, exec_vsplito t o s⟩ <| .cons ⟨rfl, exec_vwidl t o s⟩ <|
  .cons ⟨rfl, exec_vwidh t o s⟩ <| .cons ⟨rfl, exec_vnarr t o s⟩ .nil

theorem permuteTable_writes {s : State} {t : TriadId} {o : VR} (h : VecReady s t) :
    let x := s.triad t
    let e := tyBits o.ty
    ∀ p ∈ Sys2Proof.Statements.permuteTable s t o, o.ty ∈ p.2.1 → ∃ u, exec p.1 s = .next u ∧ WroteZ s u t o.vd e fun i =>
      if x.active x.vcfgNow o i then p.2.2 i % 2 ^ e else if o.z then 0 else elemAt e (x.zv o.vd) i := by
  intro x e p hp hty
  rcases List.mem_append.mp (show p ∈ (Sys2Proof.Statements.permuteTable s t o).take 10 ++ [(.vsplat t o, [0, 1, 2, 3], _)] from hp) with hp | hp
  · obtain ⟨q, hq, hrow, hexec⟩ := exists_of_mem_forall₂ (permuteTable_rows s t o) hp
    obtain ⟨htys, helem⟩ := permRows_elem o.ty (tyElems o.ty) o x.zv q hq
    obtain ⟨u, hperm, hwrote⟩ := longPerm_wrote q.1 h (by rw [htys, ← hrow]; exact List.contains_iff_mem.mpr hty)
    refine ⟨u, hexec.trans hperm, ?_⟩
    simp only [hrow, ← helem]
    exact hwrote
  · rw [List.mem_singleton.mp hp]
    exact vsplat_wrote h

theorem permutesMoveElements : Sys2Proof.Statements.PermutesMoveElements := by
  intro s t o h
  exact ⟨permuteTable_writes h, vsel_wrote h, vins_wrote h⟩

/-- Settles O26: each permute takes its element from a source in its register, and each predicate is packed from the bits of its rule. -/
theorem permutesAndPredicates : Obligations.PermutesAndPredicates := ⟨permutesMoveElements, predicateInstructionsWritePredicates⟩

end Sys2Proof.Proofs

namespace Sys2Proof.Proofs
open Sys2Proof.Machine Sys2Proof.Safety

/-! ## Accumulators (R123, R134, R135) -/

theorem zar_putZa_self (x : Triad) (r : Reg) (w : Nat → Bool) (v i : Nat) (h : i < 32) :
    (x.putZa r w v).zar r i = if w i then elemAt 48 v i % 7 else x.zar r i := by
  have hold : x.zar r i < 2 ^ 3 := elemAt_lt _ _ _
  simp only [Triad.putZa, Triad.zar, Sparse.get_set_self, BitVec.toNat_ofNat]
  rw [Nat.mod_eq_of_lt (packElems_lt 3 32 _), elemAt_packElems _ _ _ _ h]
  split_ifs
  · exact Nat.mod_eq_of_lt (by omega)
  · exact Nat.mod_eq_of_lt hold

theorem zar_putZa_other (x : Triad) (r q : Reg) (w : Nat → Bool) (v i : Nat) (h : q ≠ r) : (x.putZa r w v).zar q i = x.zar q i := by
  simp only [Triad.putZa, Triad.zar]
  rw [Sparse.get_set_other _ _ _ _ _ (reg_toNat_ne h.symm)]

/-- A write of an accumulator leaves every residue that of its data. -/
theorem zaGood_putZa {x : Triad} (r q : Reg) (w : Nat → Bool) (v : Nat) {k : Nat} (hk : k < 32) (h : x.zaGood q k = true) :
    (x.putZa r w v).zaGood q k = true := by
  unfold Triad.zaGood at *
  by_cases hq : q = r
  · subst hq
    rw [zar_putZa_self _ _ _ _ _ hk, elemAt_putZa _ _ _ _ _ hk]
    split_ifs
    · exact decide_eq_true rfl
    · exact h
  · rw [zar_putZa_other _ _ _ _ _ _ hq, zav_putZa_other _ _ _ _ _ hq]
    exact h

theorem zav_flags (x : Triad) (f : VFlags) (r : Reg) : (x.flags f).zav r = x.zav r := rfl

theorem zaGood_flags (x : Triad) (f : VFlags) (r : Reg) (k : Nat) : (x.flags f).zaGood r k = x.zaGood r k := rfl

theorem zav_instret (x : Triad) (n : DWord) (r : Reg) : ({ x with instret := n } : Triad).zav r = x.zav r := rfl

theorem zaGood_instret (x : Triad) (n : DWord) (r : Reg) (k : Nat) : ({ x with instret := n } : Triad).zaGood r k = x.zaGood r k := rfl

theorem vecPart_putZa (x : Triad) (r : Reg) (w : Nat → Bool) (v : Nat) (f : VFlags) : VecPart x ((x.putZa r w v).flags f) := by
  have hput : x.putZa r w v = { x with za := (x.putZa r w v).za, zares := (x.putZa r w v).zares } := by simp only [Triad.putZa]
  generalize x.putZa r w v = y at *
  rw [hput]
  rfl

/-- A long-vector instruction that writes one accumulator, each element as `f` says, and nothing else but VXSTAT. -/
theorem vinstr_wroteZa {s : State} {t : TriadId} {word : DWord} {save : Bool} {body : VCfg → State → Triad → VOut} {rd : Reg} {f : Nat → Nat}
    (w : Nat → Bool) (v : Nat) (flags : VFlags) (h : VecReady s t)
    (hx : (body (s.triad t).vcfgNow (issue s t) ((issue s t).triad t)).x = (((issue s t).triad t).putZa rd w v).flags flags)
    (hfail : (body (s.triad t).vcfgNow (issue s t) ((issue s t).triad t)).fail = false)
    (hg : (body (s.triad t).vcfgNow (issue s t) ((issue s t).triad t)).g = none)
    (hf : ∀ k < 32, (if w k then elemAt 48 v k else elemAt 48 ((s.triad t).zav rd) k) = f k) :
    ∃ u, vinstr t word true save body s = .next u ∧ WroteZa s u t rd f := by
  obtain ⟨u, hexec, honly, htriad⟩ := vinstr_vecOnly (word := word) (save := save) h hx (vecPart_putZa _ _ _ _ _) hfail hg
  have hzav : ∀ r, (u.triad t).zav r = (((issue s t).triad t).putZa rd w v).zav r := fun r => by rw [htriad, zav_instret, zav_flags]
  have hissue : ∀ r, ((issue s t).triad t).zav r = (s.triad t).zav r := fun r => by rw [issue_triad]; rfl
  refine ⟨u, hexec, honly, fun k hk => ?_, fun r hr => ?_, fun r k hk => ?_, ?_⟩
  · rw [hzav, elemAt_putZa _ _ _ _ _ hk, hissue, hf k hk]
  · rw [hzav, zav_putZa_other _ _ _ _ _ hr, hissue]
  · rw [htriad, zaGood_instret, zaGood_flags]
    exact zaGood_putZa rd r w v hk (issue_zaGood h r k hk)
  · rw [htriad, issue_triad]
    exact ⟨rfl, rfl, rfl, rfl, rfl, rfl, rfl⟩

theorem unsgn_lt (e : Nat) (i : Int) : unsgn e i < 2 ^ e := by
  have hpos : (0 : Int) < 2 ^ e := by positivity
  have hlt := Int.emod_lt_of_pos i hpos
  have hnn := Int.emod_nonneg i hpos.ne'
  unfold unsgn
  zify
  rw [Int.toNat_of_nonneg hnn]
  exact hlt

theorem satE_lt {e : Nat} (he : 0 < e) (i : Int) : (satE e i).1 < 2 ^ e := by
  have hhalf : 2 ^ (e - 1) < 2 ^ e := Nat.pow_lt_pow_right (by decide) (by omega)
  unfold satE
  split_ifs
  · exact hhalf
  · exact lt_of_le_of_lt (Nat.sub_le _ _) hhalf
  · exact unsgn_lt e i

/-- The containers that the active elements of a type lie in. -/
theorem containerHas_tyBits (ty : BitVec 2) (act : Nat → Bool) (k : Nat) :
    containerHas (tyBits ty) act k = if ty = 0 then act (2 * k) || act (2 * k + 1) else act k := by
  unfold containerHas tyBits
  split_ifs <;> simp_all

theorem all_zaGood {s : State} {t : TriadId} (h : VecReady s t) (r : Reg) (on : Nat → Bool) :
    ((List.range 32).all fun k => !on k || ((issue s t).triad t).zaGood r k) = true :=
  List.all_eq_true.mpr fun k hk => by rw [issue_zaGood h r k (List.mem_range.mp hk), Bool.or_true]

/-- VMAC and VMSC: what each element of the accumulator becomes, with the sign the product term enters with. -/
theorem macOp_wrote {minus : Bool} {sign : Int} (func : Nat) {s : State} {t : TriadId} {o : VR} (h : VecReady s t)
    (hsign : ∀ p : Int, (if minus then -p else p) = sign * p) (hty : o.ty = 0 ∨ o.ty = 2) (hzero : o.z = false) (hvd : o.vd.toNat < 4) :
    let x := s.triad t
    let act := x.active x.vcfgNow o
    ∃ u, macOp minus func t o s = .next u ∧ WroteZa s u t o.vd fun k =>
      if (if o.ty = 0 then act (2 * k) || act (2 * k + 1) else act k)
      then (satE 48 (sgn 48 (elemAt 48 (x.zav o.vd) k) + sign * macTerm x.vcfgNow o.ty act (x.zv o.vs1) (x.zv o.vs2) k)).1
      else elemAt 48 (x.zav o.vd) k := by
  intro x act
  have hlegal : ((o.ty = 0 || o.ty = 2) && !o.z && isZa o.vd) = true := by simpa [isZa, hzero, hvd] using hty
  have hz := issue_zGood h
  rw [macOp, hlegal]
  refine vinstr_wroteZa (containerHas (tyBits o.ty) act)
    (packElems 48 32 fun k => (satE 48 (sgn 48 (elemAt 48 (x.zav o.vd) k) + sign * macTerm x.vcfgNow o.ty act (x.zv o.vs1) (x.zv o.vs2) k)).1) _ h
    (by simp only [hsign]; rw [issue_triad]; rfl) ?_ rfl fun k hk => ?_
  · simp only [issue_pGood h, goodFor_all _ _ _ _ hz, all_zaGood h, Bool.and_self, Bool.not_true]
  · rw [containerHas_tyBits, elemAt_packElems _ _ _ _ hk, Nat.mod_eq_of_lt (satE_lt (by decide) _)]

theorem vzaclr_wrote {s : State} {t : TriadId} {o : VR} (h : VecReady s t) (hty : o.ty = 0) (hvs1 : o.vs1 = 0) (hpg : o.pg = 0)
    (hclear : o.vs2 = 0 ∧ o.z = false) (hvd : o.vd.toNat < 4) :
    ∃ u, exec (.vzaclr t o) s = .next u ∧ WroteZa s u t o.vd fun _ => 0 := by
  have hlegal : (o.ty = 0 && o.vs1 = 0 && o.vs2 = 0 && o.pg = 0 && !o.z && isZa o.vd) = true := by simp [isZa, hty, hvs1, hpg, hclear, hvd]
  rw [exec_vzaclr, execVzaclr, hlegal]
  refine vinstr_wroteZa (fun _ => true) 0 {} h (flags_none _).symm rfl rfl fun k _ => ?_
  simp only [if_true, elemAt, Nat.zero_div, Nat.zero_mod]

theorem vzawr_wrote {s : State} {t : TriadId} {o : VR} (h : VecReady s t) (hty : o.ty = 1 ∨ o.ty = 2) (hclear : o.vs2 = 0 ∧ o.z = false)
    (hvd : o.vd.toNat < 4) :
    let x := s.triad t
    ∃ u, exec (.vzawr t o) s = .next u ∧ WroteZa s u t o.vd fun k =>
      if x.active x.vcfgNow o k then unsgn 48 (sgn 32 (elemAt 32 (x.zv o.vs1) k)) else elemAt 48 (x.zav o.vd) k := by
  intro x
  have hlegal : ((o.ty = 1 || o.ty = 2) && o.vs2 = 0 && !o.z && isZa o.vd) = true := by simpa [isZa, hclear, hvd] using hty
  rw [exec_vzawr, execVzawr, hlegal]
  refine vinstr_wroteZa (x.active x.vcfgNow o) (packElems 48 32 fun k => unsgn 48 (sgn 32 (elemAt 32 (x.zv o.vs1) k))) {} h ?_ ?_ rfl fun k hk => ?_
  · rw [flags_none, issue_triad]
    rfl
  · simp only [issue_pGood h, goodFor_all _ _ _ _ (issue_zGood h), Bool.and_self, Bool.not_true]
  · rw [elemAt_packElems _ _ _ _ hk, Nat.mod_eq_of_lt (unsgn_lt _ _)]

theorem vzard_wrote {s : State} {t : TriadId} {o : VR} (h : VecReady s t) (hty : o.ty = 1 ∨ o.ty = 2) (hvs1 : o.vs1.toNat < 4) :
    let x := s.triad t
    ∃ u, exec (.vzard t o) s = .next u ∧ WroteZ s u t o.vd 32 fun k =>
      if x.active x.vcfgNow o k then (satE 32 (roundShift (qrndFrm x.vcfgNow.qrnd) (sgn 48 (elemAt 48 (x.zav o.vs1) k)) o.vs2.toNat)).1
      else if o.z then 0 else elemAt 32 (x.zv o.vd) k := by
  intro x
  have hlegal : ((o.ty = 1 || o.ty = 2) && isZa o.vs1) = true := by simpa [isZa, hvs1] using hty
  rw [exec_vzard, execVzard, hlegal]
  refine vinstr_wroteZ_as o.z (x.active x.vcfgNow o)
    (fun k => (satE 32 (roundShift (qrndFrm x.vcfgNow.qrnd) (sgn 48 (elemAt 48 (x.zav o.vs1) k)) o.vs2.toNat)).1) _ h (Or.inr rfl)
    (by rw [issue_triad]; rfl) ?_ rfl fun k => ?_
  · simp only [issue_pGood h, all_zaGood h, Bool.and_self, Bool.not_true]
  · rw [Nat.mod_eq_of_lt (satE_lt (by decide) _)]

/-- VZAMVL and VZAMVH: a part of each accumulator element goes to a z element (R135). -/
theorem zaMove_wrote {part : Nat → Nat} (func : Nat) {s : State} {t : TriadId} {o : VR} (h : VecReady s t) (hpart : ∀ v, part v < 2 ^ 32)
    (hsave : saveFields o = true) (hvs1 : o.vs1.toNat < 4) :
    ∃ u, zaMove part func t o s = .next u ∧ WroteZ s u t o.vd 32 fun k => part (elemAt 48 ((s.triad t).zav o.vs1) k) := by
  have hlegal : (saveFields o && isZa o.vs1) = true := by simp [isZa, hsave, hvs1]
  rw [zaMove, hlegal]
  refine vinstr_wroteZ_as false (fun _ => true) (fun k => part (elemAt 48 ((s.triad t).zav o.vs1) k)) {} h (Or.inr rfl) ?_ ?_ rfl fun k => ?_
  · rw [flags_none, issue_triad]
    rfl
  · have hgood := all_zaGood h o.vs1 fun _ => true
    simp only [Bool.not_true, Bool.false_or] at hgood
    rw [hgood]
    rfl
  · rw [if_pos rfl, Nat.mod_eq_of_lt (hpart _)]

theorem vzars_wrote {s : State} {t : TriadId} {o : VR} (h : VecReady s t) (hsave : saveFields o = true) (hvd : o.vd.toNat < 4) :
    let x := s.triad t
    ∃ u, exec (.vzars t o) s = .next u ∧ WroteZa s u t o.vd fun k =>
      elemAt 32 (x.zv o.vs2) k % 2 ^ 16 * 2 ^ 32 + elemAt 32 (x.zv o.vs1) k := by
  intro x
  have hlegal : (saveFields o && isZa o.vd) = true := by simp [isZa, hsave, hvd]
  rw [exec_vzars, execVzars, hlegal]
  refine vinstr_wroteZa (fun _ => true) (packElems 48 32 fun k => elemAt 32 (x.zv o.vs2) k % 2 ^ 16 * 2 ^ 32 + elemAt 32 (x.zv o.vs1) k) {} h ?_ ?_ rfl
    fun k hk => ?_
  · rw [flags_none, issue_triad]
    rfl
  · simp only [goodFor_all _ _ _ _ (issue_zGood h), Bool.and_self, Bool.not_true]
  · have hlow := elemAt_lt 32 (x.zv o.vs1) k
    rw [if_pos rfl, elemAt_packElems _ _ _ _ hk, Nat.mod_eq_of_lt (by omega)]

/-- Settles O23: each instruction passes its checks and writes the elements of one accumulator, or of one z register, below their width. -/
theorem accumulatorsAccumulate : Obligations.AccumulatorsAccumulate := by
  intro s t o h x c act on old clear
  simp only [List.forall_mem_cons, List.not_mem_nil, false_implies, implies_true, and_true, exec_vmac, exec_vmsc, exec_vzamvl,
    exec_vzamvh, execVmac, execVmsc, execVzamvl, execVzamvh]
  refine ⟨⟨macOp_wrote 0x00 h fun p => ?_, macOp_wrote 0x01 h fun p => ?_⟩, vzaclr_wrote h, vzawr_wrote h, vzard_wrote h, fun hsave hvs1 =>
    ⟨zaMove_wrote 0x05 h (fun v => Nat.mod_lt _ (by decide)) hsave hvs1, zaMove_wrote 0x06 h (fun v => unsgn_lt 32 _) hsave hvs1⟩, vzars_wrote h⟩
  · simp
  · simp

end Sys2Proof.Proofs

namespace Sys2Proof.Proofs
open Sys2Proof.Machine Sys2Proof.Safety

/-! ## What a short-vector instruction leaves (R121, R125, R136) -/

/-- On a triad about to execute it, a short-vector instruction of legal fields comes to its body. -/
theorem qinstr_ready {s : State} {t : TriadId} (word : DWord) (body : VCfg → State → Triad → State) (h : ShortReady s t) :
    qinstr t word true body s = instr t (fun m _ => .ok (body (s.triad t).vcfgNow m (m.triad t))) s := by
  have hconfig : (((issue s t).triad t).level != 2 && (vcfgOf ((issue s t).triad t).vcfg).bad) = false := by
    rw [issue_level, issue_triad]
    rcases h.config with hc | hc <;> simp [hc]
  have hnow : ((issue s t).triad t).vcfgNow = (s.triad t).vcfgNow := by rw [issue_triad]; rfl
  rw [qinstr, instr_ready s t _ h.ready, instr_ready s t _ h.ready]
  simp only [Bool.not_true, Bool.false_eq_true, if_false, hconfig, hnow]

/-- Fields R136 does not permit. -/
theorem qinstr_illegal {s : State} {t : TriadId} {word : DWord} {legal : Bool} {body : VCfg → State → Triad → State} (hready : Ready s t)
    (hopen : Open s t) (hlegal : legal = false) : ∃ u, qinstr t word legal body s = .next u ∧ Stopped s u t 0x01 word := by
  subst hlegal
  exact instr_trapped hready hopen (if_pos rfl) (by decide)

theorem qv_lt (x : Triad) (r : Reg) : x.qv r < 2 ^ 128 := BitVec.isLt _

theorem qv_putQ_self (x : Triad) (r : Reg) (v : Nat) : (x.putQ r v).qv r = v % 2 ^ 128 := by
  simp only [Triad.putQ, Triad.qv, Sparse.get_set_self, BitVec.toNat_ofNat]

theorem qv_putQ_other {x : Triad} {r k : Reg} (v : Nat) (h : k ≠ r) : (x.putQ r v).qv k = x.qv k := by
  simp only [Triad.putQ, Triad.qv]
  rw [Sparse.get_set_other _ _ _ _ _ (reg_toNat_ne h.symm)]

/-- A write of a q register and its flags leaves every other field. -/
theorem flags_putQ_eq (x : Triad) (r : Reg) (v : Nat) (f : VFlags) :
    (x.putQ r v).flags f = { x with q := ((x.putQ r v).flags f).q, vxstat := ((x.putQ r v).flags f).vxstat } := rfl

theorem qv_flags (x : Triad) (f : VFlags) (r : Reg) : (x.flags f).qv r = x.qv r := rfl

/-- An instruction whose body writes one q register and nothing else but VXSTAT. -/
theorem instr_wroteQ {s : State} {t : TriadId} {rd : Reg} {e v : Nat} {g : Nat → Nat} {f : VFlags} {body : State → DWord → Res} (h : Ready s t)
    (hb : body (issue s t) (s.triad t).pc = .ok ((issue s t).setTriad t ((((issue s t).triad t).putQ rd v).flags f)))
    (hg : ∀ i < 128 / e, elemAt e (v % 2 ^ 128) i = g i) : ∃ u, instr t body s = .next u ∧ WroteQ s u t rd e g := by
  have hm := State.triad_setTriad_self (issue s t) t ((((issue s t).triad t).putQ rd v).flags f)
  have hy := flags_putQ_eq ((issue s t).triad t) rd v f
  have hqv := qv_flags (((issue s t).triad t).putQ rd v) f
  have hissue : ∀ r, ((issue s t).triad t).qv r = (s.triad t).qv r := fun r => by rw [issue_triad]; rfl
  have hself := qv_putQ_self ((issue s t).triad t) rd v
  have hother := fun (k : Reg) (hk : k ≠ rd) => (qv_putQ_other (x := (issue s t).triad t) v hk).trans (hissue k)
  simp only [← hqv] at hself hother
  generalize (((issue s t).triad t).putQ rd v).flags f = y at *
  rw [issue_triad] at hy
  refine ⟨_, instr_retired h hb (by rw [hm, hy]; exact h.free) (by rw [hm, hy]), onlyTriad_of_sameBut (sameBut_trans (sameBut_trans
    (sameBut_issue s t) (sameBut_setTriad _ _ _)) (sameBut_onTriad _ t retired)), ?_⟩
  rw [State.triad_drivePins, State.triad_onTriad_self, hm]
  refine ⟨?_, fun i hi => (congrArg (elemAt e · i) hself).trans (hg i hi), hother⟩
  rw [retired, hy]

/-- The same, where the register is packed from its elements. -/
theorem instr_packedQ {s : State} {t : TriadId} {rd : Reg} {e n : Nat} {v g : Nat → Nat} {f : VFlags} {body : State → DWord → Res} (h : Ready s t)
    (hb : body (issue s t) (s.triad t).pc = .ok ((issue s t).setTriad t ((((issue s t).triad t).putQ rd (packElems e n v)).flags f)))
    (hen : e * n = 128) (hg : ∀ i, v i % 2 ^ e = g i) : ∃ u, instr t body s = .next u ∧ WroteQ s u t rd e g := by
  have hpos : 0 < e := Nat.pos_of_ne_zero (by rintro rfl; omega)
  refine instr_wroteQ h hb fun i hi => ?_
  rw [Nat.div_eq_of_eq_mul_right hpos hen.symm] at hi
  rw [← hen, Nat.mod_eq_of_lt (packElems_lt e n v), elemAt_packElems _ _ _ _ hi, hg]

theorem tyBits_mul_qElems (ty : BitVec 2) : tyBits ty * qElems ty = 128 := by
  unfold tyBits qElems
  split_ifs <;> rfl

theorem qFields_of {o : VR} (hpg : o.pg = 0) (hz : o.z = false) : qFields o = true := by simp [qFields, hpg, hz]

/-! ## Short-vector operations on elements (R136) -/

theorem shortElem_wrote {op : EOp} (major : Nat) {s : State} {t : TriadId} {f : BitVec 5} {o : VR} (h : ShortReady s t) (hpg : o.pg = 0)
    (hz : o.z = false) (hlegal : op.legal o = true) :
    let x := s.triad t
    let e := tyBits o.ty
    ∃ u, shortElem (some op) major t ⟨f, o⟩ s = .next u ∧ WroteQ s u t o.vd e fun i =>
      (op.f x.vcfgNow o.ty (elemAt e (x.qv o.vs1) i) (if op.imm then o.vs2.toNat else elemAt e (x.qv o.vs2) i) (elemAt e (x.qv o.vd) i)).1 % 2 ^ e := by
  intro x e
  have hfields : shortLegal (some op) o = true := by rw [shortLegal, hlegal, qFields_of hpg hz]; rfl
  rw [shortElem, hfields, qinstr_ready _ _ h]
  refine instr_packedQ h.ready rfl (tyBits_mul_qElems o.ty) fun i => ?_
  rw [issue_triad]
  rfl

/-- Where keys and rows both answer one list, a key and its row answer one entry. -/
theorem exists_of_mem_zipWith {α β γ δ : Type} {g : α → β → γ} {S : α → δ → Prop} {R : β → δ → Prop} {ks : List α} {rows : List β} {ops : List δ}
    (hS : List.Forall₂ S ks ops) (hR : List.Forall₂ R rows ops) {p : γ} (hp : p ∈ ks.zipWith g rows) : ∃ k q op, p = g k q ∧ S k op ∧ R q op := by
  induction hS generalizing rows with
  | nil => cases hp
  | cons hk _ ih =>
    cases hR with
    | cons hq hR =>
      rcases List.mem_cons.mp hp with rfl | hp
      · exact ⟨_, _, _, rfl, hk, hq⟩
      · exact ih hR hp

theorem forall₂_of_map_eq {α δ : Type} {f : α → Option δ} {ks : List α} {ops : List δ} (h : ks.map f = ops.map some) :
    List.Forall₂ (fun k op => f k = some op) ks ops := by
  have hall : List.Forall₂ Eq (ks.map f) (ops.map some) := by rw [List.forall₂_eq_eq_eq, h]
  rwa [List.forall₂_map_left_iff, List.forall₂_map_right_iff] at hall

/-- The function codes of major 0x30, in the order of the operations (R136). -/
theorem shortInt_ops : List.Forall₂ (fun k op => shortInt k = some op) (List.range 20 ++ [0x15]) (elementOps.take 21) := forall₂_of_map_eq rfl

/-- The function codes of major 0x31, in the order of the operations (R136). -/
theorem shortFp_ops : List.Forall₂ (fun k op => shortFp k = some op) (List.range 13) (elementOps.drop 21) := forall₂_of_map_eq rfl

/-- A row of the table of short-vector element operations is an operation of its function code. -/
theorem shortElementTable_row {c : VCfg} {t : TriadId} {o : VR} {f : BitVec 5} {p : Instr × Nat × List (BitVec 2) × Nat × (Nat → Nat → Nat → Nat)}
    (hp : p ∈ Sys2Proof.Statements.shortElementTable c t o f) (hf : f.toNat = p.2.1) :
    ∃ op major, RowOf c o.ty op p.2.2.1 p.2.2.2.1 p.2.2.2.2 ∧ ∀ s, exec p.1 s = shortElem (some op) major t ⟨f, o⟩ s := by
  have hrows := elementTable_rows c t o
  rcases List.mem_append.mp hp with hp | hp
  · obtain ⟨k, q, op, rfl, hcode, hrow, -⟩ := exists_of_mem_zipWith shortInt_ops (List.forall₂_take 21 hrows) hp
    have hop : shortInt f.toNat = some op := by rw [hf, ← hcode]
    exact ⟨op, 0x30, hrow, fun s => by rw [exec_shortVectorIntegerOp, execShortVectorIntegerOp, hop]⟩
  · obtain ⟨k, q, op, rfl, hcode, hrow, -⟩ := exists_of_mem_zipWith shortFp_ops (List.forall₂_drop 21 hrows) hp
    have hop : shortFp f.toNat = some op := by rw [hf, ← hcode]
    exact ⟨op, 0x31, hrow, fun s => by rw [exec_shortVectorFp32Op, execShortVectorFp32Op, hop]⟩

theorem shortElementTable_writes {s : State} {t : TriadId} {f : BitVec 5} {o : VR} (h : ShortReady s t) (hpg : o.pg = 0) (hz : o.z = false) :
    let x := s.triad t
    let e := tyBits o.ty
    ∀ p ∈ Sys2Proof.Statements.shortElementTable x.vcfgNow t o f, f.toNat = p.2.1 → o.ty ∈ p.2.2.1 → (p.2.2.2.1 = 1 → o.vs2 = 0) →
      (p.2.2.2.1 = 2 → o.vs2.toNat < e) → ∃ u, exec p.1 s = .next u ∧ WroteQ s u t o.vd e fun i =>
        p.2.2.2.2 (elemAt e (x.qv o.vs1) i) (if p.2.2.2.1 = 2 then o.vs2.toNat else elemAt e (x.qv o.vs2) i) (elemAt e (x.qv o.vd) i) % 2 ^ e := by
  intro x e p hp hf hty hunary hamount
  obtain ⟨op, major, hrow, hexec⟩ := shortElementTable_row hp hf
  obtain ⟨u, hshort, hwrote⟩ := shortElem_wrote major (f := f) h hpg hz (hrow.legal hty hunary hamount)
  have hvalue : ∀ a b d, (op.f (s.triad t).vcfgNow o.ty a b d).1 = p.2.2.2.2 a b d := hrow.value
  refine ⟨u, (hexec s).trans hshort, ?_⟩
  simp only [hvalue, hrow.amount, decide_eq_true_eq] at hwrote
  exact hwrote

/-! ## Short-vector comparisons and QBSEL (R136) -/

/-- A row of the table of short-vector comparisons is the comparison of its function code. -/
theorem shortCompareTable_row (c : VCfg) (o : VR) : ∀ p ∈ Sys2Proof.Statements.shortCompareTable c o,
    ∃ op, shortCmp p.1 = some op ∧ op.tys = p.2.1 ∧ ∀ a b, (op.f c o.ty a b).1 = p.2.2 a b := by
  simp only [Sys2Proof.Statements.shortCompareTable, List.forall_mem_cons, List.not_mem_nil, false_implies, implies_true, and_true]
  exact ⟨⟨cmpEq, rfl, rfl, signedCmp_value _ c o.ty⟩, ⟨cmpNe, rfl, rfl, fun a b => congrArg (!·) (signedCmp_value _ c o.ty a b)⟩,
    ⟨cmpLt, rfl, rfl, signedCmp_value _ c o.ty⟩, ⟨cmpLe, rfl, rfl, signedCmp_value _ c o.ty⟩, ⟨cmpLtu, rfl, rfl, fun _ _ => rfl⟩,
    ⟨cmpLeu, rfl, rfl, fun _ _ => rfl⟩⟩

theorem shortCompareTable_writes {s : State} {t : TriadId} {f : BitVec 5} {o : VR} (h : ShortReady s t) (hpg : o.pg = 0) (hz : o.z = false) :
    let x := s.triad t
    let e := tyBits o.ty
    ∀ p ∈ Sys2Proof.Statements.shortCompareTable x.vcfgNow o, f.toNat = p.1 → o.ty ∈ p.2.1 → ∃ u, exec (.shortVectorCompare t ⟨f, o⟩) s = .next u ∧
      WroteQ s u t o.vd e fun i => if p.2.2 (elemAt e (x.qv o.vs1) i) (elemAt e (x.qv o.vs2) i) = true then 2 ^ e - 1 else 0 := by
  intro x e p hp hf hty
  obtain ⟨op, hcode, htys, hvalue⟩ := shortCompareTable_row x.vcfgNow o p hp
  have hop : shortCmp f.toNat = some op := by rw [hf, hcode]
  have hlegal : op.tys.contains o.ty = true := by rw [htys]; exact List.contains_iff_mem.mpr hty
  simp only [exec_shortVectorCompare, execShortVectorCompare, hop, qFields_of hpg hz, hlegal, Bool.and_self]
  rw [qinstr_ready _ _ h]
  refine instr_packedQ (v := fun i => if (op.f x.vcfgNow o.ty (elemAt e (x.qv o.vs1) i) (elemAt e (x.qv o.vs2) i)).1 then 2 ^ e - 1 else 0) h.ready
    (by rw [issue_triad]; rfl) (tyBits_mul_qElems o.ty) fun i => ?_
  have hones : 2 ^ e - 1 < 2 ^ e := Nat.sub_lt (by positivity) (by decide)
  rw [hvalue]
  split_ifs
  · exact Nat.mod_eq_of_lt hones
  · rfl

/-- A bit of a selection by the bits of `d` (R136). -/
theorem testBit_select {d a b i n : Nat} (hd : d < 2 ^ n) (hi : i < n) :
    (Nat.lor (Nat.land d a) (Nat.land (2 ^ n - 1 - d) b)).testBit i = if d.testBit i then a.testBit i else b.testBit i := by
  have hnot : (2 ^ n - 1 - d).testBit i = !d.testBit i := by
    rw [show 2 ^ n - 1 - d = 2 ^ n - (d + 1) by omega, Nat.testBit_two_pow_sub_succ hd, decide_eq_true hi, Bool.true_and]
  have hor := Nat.testBit_or (Nat.land d a) (Nat.land (2 ^ n - 1 - d) b) i
  have hleft := Nat.testBit_and d a i
  have hright := Nat.testBit_and (2 ^ n - 1 - d) b i
  refine hor.trans ?_
  rw [show Nat.land d a = d &&& a from rfl, show Nat.land (2 ^ n - 1 - d) b = (2 ^ n - 1 - d) &&& b from rfl, hleft, hright, hnot]
  cases d.testBit i <;> simp

/-- A single bit as an element. -/
theorem elemAt_one (x i : Nat) : elemAt 1 x i = (x.testBit i).toNat := by
  rw [elemAt, Nat.one_mul, pow_one, Nat.toNat_testBit]

theorem qbsel_wrote {s : State} {t : TriadId} {o : VR} (h : ShortReady s t) (hpg : o.pg = 0) (hz : o.z = false) :
    let x := s.triad t
    ∃ u, exec (.qbsel t o) s = .next u ∧ WroteQ s u t o.vd 1 fun i =>
      if elemAt 1 (x.qv o.vd) i = 1 then elemAt 1 (x.qv o.vs1) i else elemAt 1 (x.qv o.vs2) i := by
  intro x
  have hd := qv_lt x o.vd
  rw [exec_qbsel, execQbsel, qFields_of hpg hz, qinstr_ready _ _ h]
  refine instr_wroteQ (v := Nat.lor (Nat.land (x.qv o.vd) (x.qv o.vs1)) (Nat.land (2 ^ 128 - 1 - x.qv o.vd) (x.qv o.vs2))) (f := {}) h.ready
    (by rw [flags_none, issue_triad]; rfl) fun i hi => ?_
  have hi128 : i < 128 := by simpa using hi
  simp only [elemAt_one, Nat.testBit_mod_two_pow, hi128, decide_true, Bool.true_and, testBit_select hd hi128]
  cases (x.qv o.vd).testBit i <;> rfl

end Sys2Proof.Proofs

namespace Sys2Proof.Proofs
open Sys2Proof.Machine Sys2Proof.Safety

/-! ## Short-vector permutes, moves and reductions (R136) -/

/-- A permute of q registers comes to the effect of its function code. -/
theorem exec_shortPermute {s : State} {t : TriadId} {f : BitVec 5} {o : VR} (k : Nat) (h : ShortReady s t) (hpg : o.pg = 0) (hz : o.z = false)
    (hf : f.toNat = k) (hk : k ≤ 0x0F) (hty : (permTys k).contains o.ty = true) :
    exec (.shortVectorPermute t ⟨f, o⟩) s = instr t (fun m _ => .ok (shortPerm k t o (s.triad t).vcfgNow m (m.triad t))) s := by
  have hlegal : (qFields o && decide (f.toNat ≤ 0x0F) && (permTys f.toNat).contains o.ty) = true := by
    rw [hf, hty, qFields_of hpg hz, decide_eq_true hk]
    rfl
  simp only [exec_shortVectorPermute, execShortVectorPermute, hlegal]
  rw [qinstr_ready _ _ h, hf]

/-- The function codes of the permutes move elements as those of the long vectors do. -/
theorem shortPerm_permRows (t : TriadId) (o : VR) (c : VCfg) (s : State) (x : Triad) (reg : Reg → Nat) (n : Nat) :
    ∀ p ∈ permRows o.ty n o reg, p.1 ≤ 0x0F ∧ shortPerm p.1 t o c s x = s.setTriad t
      ((x.putQ o.vd (packElems (tyBits o.ty) (qElems o.ty) fun i => (permElem p.1 o.ty (qElems o.ty) o x.qv i).1)).flags
        (allFlags (qElems o.ty) fun i => (permElem p.1 o.ty (qElems o.ty) o x.qv i).2)) := by
  simp only [permRows, List.forall_mem_cons, List.not_mem_nil, false_implies, implies_true, and_true]
  exact ⟨⟨by decide, rfl⟩, ⟨by decide, rfl⟩, ⟨by decide, rfl⟩, ⟨by decide, rfl⟩, ⟨by decide, rfl⟩, ⟨by decide, rfl⟩, ⟨by decide, rfl⟩,
    ⟨by decide, rfl⟩, ⟨by decide, rfl⟩, ⟨by decide, rfl⟩⟩

/-- Codes 0x00 and 0x02 move a general register into every element, or into the one that g[vs2] names. -/
theorem shortMove_wrote {s : State} {t : TriadId} {f : BitVec 5} {o : VR} (h : ShortReady s t) (hpg : o.pg = 0) (hz : o.z = false) :
    let x := s.triad t
    let e := tyBits o.ty
    let g := (s.gx t o.vs1).toNat
    (f.toNat = 0x00 → ∃ u, exec (.shortVectorPermute t ⟨f, o⟩) s = .next u ∧ WroteQ s u t o.vd e fun _ => g % 2 ^ e) ∧
    (f.toNat = 0x02 → ∃ u, exec (.shortVectorPermute t ⟨f, o⟩) s = .next u ∧ WroteQ s u t o.vd e fun i =>
      (if i = (s.gx t o.vs2).toNat % qElems o.ty then g else elemAt e (x.qv o.vd) i) % 2 ^ e) := by
  intro x e g
  constructor
  · intro hf
    rw [exec_shortPermute 0x00 h hpg hz hf (by decide) (tyAll_contains _)]
    refine instr_packedQ (v := fun _ => g % 2 ^ e) (f := {}) h.ready ?_ (tyBits_mul_qElems o.ty) fun i => Nat.mod_mod _ _
    simp only [shortPerm, flags_none, issue_gx]
    rfl
  · intro hf
    rw [exec_shortPermute 0x02 h hpg hz hf (by decide) (tyAll_contains _)]
    refine instr_packedQ (v := fun i => if i = (s.gx t o.vs2).toNat % qElems o.ty then g % 2 ^ e else elemAt e (x.qv o.vd) i) (f := {}) h.ready ?_
      (tyBits_mul_qElems o.ty) fun i => ?_
    · simp only [shortPerm, flags_none, issue_gx]
      rw [issue_triad]
      rfl
    · split_ifs
      · exact Nat.mod_mod _ _
      · rfl

theorem shortPermuteTable_writes {s : State} {t : TriadId} {f : BitVec 5} {o : VR} (h : ShortReady s t) (hpg : o.pg = 0) (hz : o.z = false) :
    ∀ p ∈ Sys2Proof.Statements.shortPermuteTable s t o, f.toNat = p.1 → o.ty ∈ p.2.1 →
      ∃ u, exec (.shortVectorPermute t ⟨f, o⟩) s = .next u ∧ WroteQ s u t o.vd (tyBits o.ty) fun i => p.2.2 i % 2 ^ tyBits o.ty := by
  obtain ⟨hsplat, hins⟩ := shortMove_wrote (f := f) h hpg hz
  have hperm : ∀ p ∈ permRows o.ty (qElems o.ty) o (s.triad t).qv, f.toNat = p.1 → o.ty ∈ p.2.1 →
      ∃ u, exec (.shortVectorPermute t ⟨f, o⟩) s = .next u ∧ WroteQ s u t o.vd (tyBits o.ty) fun i => p.2.2 i % 2 ^ tyBits o.ty := by
    intro p hp hf hty
    obtain ⟨htys, helem⟩ := permRows_elem o.ty (qElems o.ty) o (s.triad t).qv p hp
    obtain ⟨hk, heffect⟩ := shortPerm_permRows t o (s.triad t).vcfgNow (issue s t) ((issue s t).triad t) _ _ p hp
    rw [exec_shortPermute p.1 h hpg hz hf hk (by rw [htys]; exact List.contains_iff_mem.mpr hty)]
    refine instr_packedQ h.ready (congrArg _ heffect) (tyBits_mul_qElems o.ty) fun i => ?_
    rw [← helem, issue_triad]
    rfl
  exact List.forall_mem_cons.mpr ⟨fun hf _ => hsplat hf, List.forall_mem_cons.mpr ⟨fun hf _ => hins hf, hperm⟩⟩

theorem shortExtract_wrote {s : State} {t : TriadId} {f : BitVec 5} {o : VR} (h : ShortReady s t) (hpg : o.pg = 0) (hz : o.z = false) (hf : f = 1) :
    ∃ u, exec (.shortVectorPermute t ⟨f, o⟩) s = .next u ∧
      WroteG s u t o.vd (toG o.ty (elemAt (tyBits o.ty) ((s.triad t).qv o.vs1) ((s.gx t o.vs2).toNat % qElems o.ty))) := by
  rw [exec_shortPermute 0x01 h hpg hz (by rw [hf]; rfl) (by decide) (tyAll_contains _)]
  refine instr_wroteG h.ready ?_
  simp only [shortPerm, issue_gx]
  rw [issue_triad]
  rfl

theorem shortReduce_wrote {s : State} {t : TriadId} {f : BitVec 5} {o : VR} (h : ShortReady s t) (hpg : o.pg = 0) (hz : o.z = false) :
    let x := s.triad t
    ∀ k ∈ [0x0D, 0x0E, 0x0F], f.toNat = k → ∃ u, exec (.shortVectorPermute t ⟨f, o⟩) s = .next u ∧
      WroteGFlags s u t o.vd (toG o.ty (reduceAll k x.vcfgNow o.ty (qElems o.ty) (elemAt (tyBits o.ty) (x.qv o.vs1))).1)
        (x.vxstat ||| (reduceAll k x.vcfgNow o.ty (qElems o.ty) (elemAt (tyBits o.ty) (x.qv o.vs1))).2.bits) := by
  intro x k hk hf
  have heffect : k ≤ 0x0F ∧ permTys k = tyAll ∧ ∀ m y, shortPerm k t o x.vcfgNow m y =
      (m.setTriad t (y.flags (reduceAll k x.vcfgNow o.ty (qElems o.ty) (elemAt (tyBits o.ty) (y.qv o.vs1))).2)).setG t o.vd
        (toG o.ty (reduceAll k x.vcfgNow o.ty (qElems o.ty) (elemAt (tyBits o.ty) (y.qv o.vs1))).1) := by
    revert k
    simp only [List.forall_mem_cons, List.not_mem_nil, false_implies, implies_true, and_true]
    exact ⟨fun _ => ⟨by decide, rfl, fun _ _ => rfl⟩, fun _ => ⟨by decide, rfl, fun _ _ => rfl⟩, fun _ => ⟨by decide, rfl, fun _ _ => rfl⟩⟩
  obtain ⟨hle, htys, heffect⟩ := heffect
  rw [exec_shortPermute k h hpg hz hf hle (by rw [htys]; exact tyAll_contains _)]
  refine instr_wroteGFlags h.ready ?_
  rw [heffect, issue_triad]
  rfl

theorem qmovg_wrote {s : State} {t : TriadId} {o : VR} (h : ShortReady s t) (hpg : o.pg = 0) (hz : o.z = false) :
    ∃ u, exec (.qmovg t o) s = .next u ∧ WroteG s u t o.vd (BitVec.ofNat 64 (elemAt 64 ((s.triad t).qv o.vs1) (o.vs2.toNat % 2))) := by
  rw [exec_qmovg, execQmovg, qFields_of hpg hz, qinstr_ready _ _ h]
  refine instr_wroteG h.ready ?_
  rw [issue_triad]
  rfl

theorem gmovq_wrote {s : State} {t : TriadId} {o : VR} (h : ShortReady s t) (hpg : o.pg = 0) (hz : o.z = false) :
    ∃ u, exec (.gmovq t o) s = .next u ∧ WroteQ s u t o.vd 64 fun i =>
      if i = o.vs2.toNat % 2 then (s.gx t o.vs1).toNat else elemAt 64 ((s.triad t).qv o.vd) i := by
  rw [exec_gmovq, execGmovq, qFields_of hpg hz, qinstr_ready _ _ h]
  refine instr_packedQ (n := 2) (v := fun i => if i = o.vs2.toNat % 2 then (s.gx t o.vs1).toNat else elemAt 64 ((s.triad t).qv o.vd) i) (f := {}) h.ready
    ?_ rfl fun i => ?_
  · simp only [issue_gx]
    rw [flags_none, issue_triad]
    rfl
  · rw [Nat.mod_eq_of_lt]
    split_ifs
    · exact BitVec.isLt _
    · exact elemAt_lt _ _ _

theorem shortVectorsActOnEveryElement : Sys2Proof.Statements.ShortVectorsActOnEveryElement := by
  intro s t f o h hpg hz
  exact ⟨shortElementTable_writes h hpg hz, shortCompareTable_writes h hpg hz, qbsel_wrote h hpg hz, shortPermuteTable_writes h hpg hz,
    shortExtract_wrote h hpg hz, shortReduce_wrote h hpg hz, qmovg_wrote h hpg hz, gmovq_wrote h hpg hz⟩

/-! ## Where short-vector operations are refused (R125, R136) -/

/-- Fields R136 does not permit of an element operation. -/
theorem shortLegal_illegal {op : Option EOp} {o : VR} (h : qFields o = false) : shortLegal op o = false := by
  cases op with
  | none => rfl
  | some op => rw [shortLegal, h, Bool.and_false]

theorem shortVectorsRefuse : Sys2Proof.Statements.ShortVectorsRefuse := by
  intro s t f o hready hopen
  have hfields : o.pg ≠ 0 ∨ o.z = true → qFields o = false := by
    rintro (hpg | hz)
    · rw [qFields, decide_eq_false hpg, Bool.false_and]
    · simp [qFields, hz]
  simp only [List.forall_mem_cons, List.not_mem_nil, false_implies, implies_true, and_true, exec_shortVectorIntegerOp, exec_shortVectorFp32Op,
    exec_shortVectorCompare, exec_qbsel, exec_shortVectorPermute, exec_qmovg, exec_gmovq, execShortVectorIntegerOp, execShortVectorFp32Op, shortElem,
    execShortVectorCompare, execQbsel, execShortVectorPermute, execQmovg, execGmovq]
  refine ⟨fun hbad => qinstr_illegal hready hopen (shortLegal_illegal (hfields hbad)), fun hbad => qinstr_illegal hready hopen (shortLegal_illegal (hfields hbad)),
    fun hbad => qinstr_illegal hready hopen ?_, fun hbad => qinstr_illegal hready hopen (hfields hbad), fun hbad => qinstr_illegal hready hopen ?_,
    fun hbad => qinstr_illegal hready hopen (hfields hbad), fun hbad => qinstr_illegal hready hopen (hfields hbad)⟩
  · rw [hfields hbad, Bool.false_and]
  · rw [hfields hbad, Bool.false_and, Bool.false_and]

/-! ## Short-vector memory (R137, R142) -/

/-- Plain memory begins outside the device regions. -/
theorem isDevice_plain {s : State} {u : Issuer} {a n : Nat} {k : AccKind} {w : Bool} (h : PlainAccess s u a n k w) : isDevice a = false :=
  (Bool.or_eq_false_iff.mp h.normal).1

/-- A legal configuration raises no VECTOR_CONFIG (R125). -/
theorem qConfig_ready {s : State} {t : TriadId} (h : ShortReady s t) : (issue s t).qConfig t = none := by
  have hconfig : (((issue s t).triad t).level != 2 && (vcfgOf ((issue s t).triad t).vcfg).bad) = false := by
    rw [issue_level, issue_triad]
    rcases h.config with hc | hc <;> simp [hc]
  simp only [State.qConfig, hconfig, Bool.false_eq_true, if_false]

theorem qGuard_aligned {s : State} {a : Nat} (t : Nat) (store : Bool) (halign : a % 16 = 0) (hdev : isDevice a = false) : s.qGuard t a store = none := by
  simp only [State.qGuard, halign, hdev, ne_eq, not_true, if_false, Bool.false_eq_true]

theorem qGuard_misaligned {s : State} {a : Nat} (t : Nat) (store : Bool) (halign : a % 16 ≠ 0) :
    s.qGuard t a store = some (⟨0x03, BitVec.ofNat 64 a, false, 0⟩, s) := if_pos halign

/-- The address of a short-vector access as its body computes it. -/
theorem eaddr_body (s : State) (t : TriadId) (rs1 : Reg) (imm : Imm16) : ((issue s t).gx t rs1 + imm.signExtend 64).toNat = s.eaddr t rs1 imm :=
  eaddr_issue s t rs1 imm

theorem le_lt (s : State) (a n : Nat) : s.le a n < 2 ^ (8 * n) := by
  have hlt := leVal_lt (s.bytes a n)
  rw [State.bytes, List.length_map, List.length_range] at hlt
  rw [pow_mul]
  exact hlt

theorem qld_wrote {s : State} {t : TriadId} (q rs1 : Reg) (imm : Imm16) (h : ShortReady s t) (halign : s.eaddr t rs1 imm % 16 = 0)
    (hplain : PlainAccess s (s.triadIssuer t) (s.eaddr t rs1 imm) 16 .load false) :
    ∃ u, exec (.qld t q rs1 imm) s = .next u ∧ WroteQ s u t q 128 fun _ => s.le (s.eaddr t rs1 imm) 16 := by
  have hload := loadBytes_plain (issue s t) (s.triadIssuer t) (s.eaddr t rs1 imm) 16 .load 2 false (by decide) (plain_issue hplain)
  have hguard := qGuard_aligned (s := issue s t) t false halign (isDevice_plain hplain)
  rw [exec_qld, execQld]
  refine instr_wroteQ (v := s.le (s.eaddr t rs1 imm) 16) (f := {}) h.ready ?_ fun i hi => ?_
  · simp only [eaddr_body, qConfig_ready h, hguard, triadIssuer_issue, hload, Option.orElse_none, flags_none]
    rfl
  · obtain rfl : i = 0 := by omega
    rw [elemAt, Nat.mul_zero, pow_zero, Nat.div_one, Nat.mod_mod, Nat.mod_eq_of_lt (le_lt s _ 16)]

theorem qst_wrote {s : State} {t : TriadId} (q rs1 : Reg) (imm : Imm16) (h : ShortReady s t) (halign : s.eaddr t rs1 imm % 16 = 0)
    (hplain : PlainAccess s (s.triadIssuer t) (s.eaddr t rs1 imm) 16 .store true) :
    ∃ u, exec (.qst t q rs1 imm) s = .next u ∧ u.le (s.eaddr t rs1 imm) 16 = (s.triad t).qv q ∧ StoredAt s u t (s.eaddr t rs1 imm) 16 ∧
      u.triad t = { s.triad t with pc := (s.triad t).pc + 4, instret := (s.triad t).instret + 1, run := .running } := by
  set a := s.eaddr t rs1 imm with ha
  have hlen : (leBytes 16 ((s.triad t).qv q)).length = 16 := length_leBytes _ _
  obtain ⟨s1, hstore, hmem, hbytes, herr⟩ := storeAt_plain (issue s t) (s.triadIssuer t) a (leBytes 16 ((s.triad t).qv q)) .store 3 false
    (by rw [hlen]; decide) (by rw [hlen]; exact plain_issue hplain)
  rw [hlen] at hbytes herr
  have hguard := qGuard_aligned (s := issue s t) t true halign (isDevice_plain hplain)
  have hqv : ((issue s t).triad t).qv q = (s.triad t).qv q := by rw [issue_triad]; rfl
  have htriad : s1.triad t = { s.triad t with run := .running, pc := (s.triad t).pc + 4 } := by rw [triad_memOnly hmem, issue_triad]
  rw [exec_qst, execQst]
  refine ⟨_, instr_retired (m := s1) h.ready ?_ (by rw [htriad]; exact h.ready.free) (by rw [htriad]), ?_,
    storedAt_of_body hmem (sameBut_refl t s1) hbytes herr, ?_⟩
  · simp only [eaddr_body, ← ha, qConfig_ready h, hguard, triadIssuer_issue, hqv, hstore, Option.orElse_none]
  · have hle := le_of_bytes (u := (s1.onTriad t retired).drivePins) (a := a) (n := 16) (v := (s.triad t).qv q) fun x hlo hhi => by
      rw [State.byte_drivePins, State.byte_onTriad, hbytes, if_pos ⟨hlo, hhi⟩]
    rw [hle, Nat.mod_eq_of_lt (qv_lt _ q)]
  · rw [State.triad_drivePins, State.triad_onTriad_self, htriad]
    rfl

theorem qMemory_misaligned {s : State} {t : TriadId} (q rs1 : Reg) (imm : Imm16) (h : ShortReady s t) (halign : s.eaddr t rs1 imm % 16 ≠ 0)
    (hopen : Open s t) : ∀ p ∈ [Instr.qld t q rs1 imm, .qst t q rs1 imm],
      ∃ u, exec p s = .next u ∧ Stopped s u t 0x03 (BitVec.ofNat 64 (s.eaddr t rs1 imm)) := by
  simp only [List.forall_mem_cons, List.not_mem_nil, false_implies, implies_true, and_true, exec_qld, exec_qst, execQld, execQst]
  constructor
  · refine instr_trapped h.ready hopen ?_ (by decide)
    simp only [eaddr_body, qConfig_ready h, qGuard_misaligned _ _ halign, Option.orElse_none]
    rfl
  · refine instr_trapped h.ready hopen ?_ (by decide)
    simp only [eaddr_body, qConfig_ready h, qGuard_misaligned _ _ halign, Option.orElse_none]
    rfl

/-- Settles O28: every operation is the operation of its row on the elements of q, refused where its fields are, and QLD and QST are accesses of
16 bytes. -/
theorem shortVectors : Obligations.ShortVectors :=
  ⟨shortVectorsActOnEveryElement, shortVectorsRefuse, fun _ _ q rs1 imm h => ⟨qld_wrote q rs1 imm h, qst_wrote q rs1 imm h, qMemory_misaligned q rs1 imm h⟩⟩

end Sys2Proof.Proofs

namespace Sys2Proof.Proofs
open Sys2Proof.Machine Sys2Proof.Safety

/-! ## The elements a vector memory instruction accesses (R138 to R140, R145) -/

/-- Whether element `i` is accessed. -/
def vmOn (x : Triad) (c : VCfg) (m : VMode) (o : VM) (i : Nat) : Bool :=
  if m = .r then decide (i < 16) else decide (i < c.n o.ty) && (x.pv o.pg.toNat).getLsbD i && (!o.ff || x.ffm.getLsbD i)

/-- The elements accessed, in ascending order. -/
def vmIndices (x : Triad) (c : VCfg) (m : VMode) (o : VM) : List Nat := (List.range 64).filter (vmOn x c m o)

/-- The address of element `i`. -/
def vmAddrOf (s : State) (t : Nat) (m : VMode) (o : VM) (i : Nat) : Nat := vmAddr m o (s.gx t o.gb) (s.gx t o.ix) ((s.triad t).zv o.ix) i

theorem vmElems_eq (s : State) (t : Nat) (c : VCfg) (m : VMode) (o : VM) :
    s.vmElems t c m o = (vmIndices (s.triad t) c m o).map fun i => (i, vmAddrOf s t m o i) := rfl

theorem mem_vmElems {s : State} {t : Nat} {c : VCfg} {m : VMode} {o : VM} {i a : Nat} :
    (i, a) ∈ s.vmElems t c m o ↔ i ∈ vmIndices (s.triad t) c m o ∧ a = vmAddrOf s t m o i := by
  rw [vmElems_eq, List.mem_map]
  constructor
  · rintro ⟨j, hj, heq⟩
    obtain ⟨rfl, rfl⟩ := Prod.mk.inj heq
    exact ⟨hj, rfl⟩
  · rintro ⟨hi, rfl⟩
    exact ⟨i, hi, rfl⟩

/-- Elements rise in the list. -/
theorem vmElems_rise (s : State) (t : Nat) (c : VCfg) (m : VMode) (o : VM) : (s.vmElems t c m o).Pairwise fun e f => e.1 < f.1 := by
  rw [vmElems_eq, List.pairwise_map]
  exact List.Pairwise.filter _ List.pairwise_lt_range

theorem vmElems_issue (s : State) (t : TriadId) (c : VCfg) (m : VMode) (o : VM) : (issue s t).vmElems t c m o = s.vmElems t c m o := by
  simp only [State.vmElems, issue_gx, issue_triad]
  rfl

theorem vmBytes_cases (m : VMode) (o : VM) : vmBytes m o = 2 ∨ vmBytes m o = 4 ∨ vmBytes m o = 8 := by
  unfold vmBytes tyBits
  split_ifs <;> simp

/-- A configuration in force has a length of at most 32 (R125). -/
theorem vcfgNow_vl {s : State} {t : TriadId} (h : VecReady s t) : (s.triad t).vcfgNow.vl ≤ 32 := by
  unfold Triad.vcfgNow
  split_ifs with hlevel
  · exact le_rfl
  · have hgood := h.config.resolve_left hlevel
    simp only [VCfg.bad, Bool.or_eq_false_iff, decide_eq_false_iff_not] at hgood
    omega

/-- An accessed element lies in its register. -/
theorem vmIndices_lt {s : State} {t : TriadId} {m : VMode} {o : VM} {i : Nat} (h : VecReady s t)
    (hi : i ∈ vmIndices (s.triad t) (s.triad t).vcfgNow m o) : i < 128 / vmBytes m o := by
  have hvl := vcfgNow_vl h
  have hon : vmOn (s.triad t) (s.triad t).vcfgNow m o i = true := (List.mem_filter.mp hi).2
  unfold vmOn at hon
  unfold vmBytes tyBits
  by_cases hm : m = .r
  · simpa [hm] using hon
  · simp only [hm, if_false, Bool.and_eq_true] at hon ⊢
    obtain ⟨⟨hlt, -⟩, -⟩ := hon
    replace hlt := of_decide_eq_true hlt
    unfold VCfg.n at hlt
    split_ifs at * <;> omega

/-! ## Words and elements of memory (R90, R143, R149) -/

/-- An aligned element lies in one word. -/
theorem wordsOf_aligned {a n : Nat} (hn : n = 2 ∨ n = 4 ∨ n = 8) (halign : a % n = 0) : wordsOf a n = [a / 8] := by
  have hone : (a + n - 1) / 8 - a / 8 + 1 = 1 := by rcases hn with rfl | rfl | rfl <;> omega
  simp only [wordsOf, hone]
  rfl

/-- The value of an aligned element out of the bytes of its word. -/
theorem element_of_word (s : State) {a n : Nat} (hn : n = 2 ∨ n = 4 ∨ n = 8) (halign : a % n = 0) :
    leVal (((s.bytes (8 * (a / 8)) 8).drop (a % 8)).take n) = s.le a n := by
  have hb := bytes_wordsOf s a n (by omega)
  rw [wordsOf_aligned hn halign, List.flatMap_singleton] at hb
  rw [hb, State.le]

/-- The word of an aligned element of plain memory is read without a trace. -/
theorem readElement_plain {s : State} {u : Issuer} {a n : Nat} {k : AccKind} (r : Raise) (hn : n = 2 ∨ n = 4 ∨ n = 8) (halign : a % n = 0)
    (h : PlainAccess s u a n k false) : s.readEach u r [a / 8] = ⟨s, s.bytes (8 * (a / 8)) 8, none⟩ := by
  have hread := readEach_good s u r (wordsOf a n) h.home fun w hw => ⟨wordsOf_there (by omega) h.there w hw, h.good w hw⟩
  rwa [wordsOf_aligned hn halign, List.flatMap_singleton] at hread

/-- Element loads from plain memory give each element's value, whatever words have been read before. -/
theorem issueLoads_plain {s : State} {u : Issuer} {n : Nat} (hn : n = 2 ∨ n = 4 ∨ n = 8) (es : List (Nat × Nat)) :
    ∀ (seen : List (Nat × List Byte)) (acc : List (Nat × Nat)), (∀ w ∈ seen, w.2 = s.bytes (8 * w.1) 8) →
      (∀ e ∈ es, e.2 % n = 0 ∧ PlainAccess s u e.2 n .load false) →
      s.issueLoads u n seen acc es = ⟨s, acc.reverse ++ es.map fun e => (e.1, s.le e.2 n), none⟩ := by
  induction es with
  | nil => intro seen acc _ _; simp [State.issueLoads]
  | cons e es ih =>
    obtain ⟨i, a⟩ := e
    intro seen acc hseen hes
    obtain ⟨halign, hplain⟩ := hes (i, a) List.mem_cons_self
    have hrest : ∀ e ∈ es, e.2 % n = 0 ∧ PlainAccess s u e.2 n .load false := fun e he => hes e (List.mem_cons_of_mem _ he)
    have hvalue := element_of_word s hn halign
    have hcons : ∀ v, v = s.le a n → ((i, v) :: acc).reverse ++ es.map (fun e => (e.1, s.le e.2 n)) =
        acc.reverse ++ ((i, a) :: es).map fun e => (e.1, s.le e.2 n) := by rintro v rfl; simp
    unfold State.issueLoads
    cases hfind : seen.find? fun w => w.1 = a / 8 with
    | some w =>
      have hw : w.2 = s.bytes (8 * (a / 8)) 8 := by
        have hkey : w.1 = a / 8 := by simpa using List.find?_some hfind
        rw [← hkey]
        exact hseen w (List.mem_of_find?_eq_some hfind)
      simp only [ih seen _ hseen hrest]
      rw [hcons _ (by rw [hw, hvalue])]
    | none =>
      simp only [readElement_plain _ hn halign hplain]
      rw [ih _ _ (List.forall_mem_cons.mpr ⟨rfl, hseen⟩) hrest, hcons _ hvalue]

/-- A store within one good word: its bytes, and every other byte as it was. -/
theorem putElement_plain (s : State) (u : Issuer) (r : Raise) (a : Nat) (bs : List Byte) (hpos : 0 < bs.length) (hin : a % 8 + bs.length ≤ 8)
    (hroad : 1 ≤ u.unit → u.unit ≤ 18 → s.roadTo u.lane = none) (hbus : s.busError a true = false) (hgood : s.errOf (a / 8) = .good)
    (hinj : s.injectAt (a / 8) = false) :
    ∃ s1, s.putWords u r 2 a bs = (s1, none) ∧ MemOnly s s1 ∧
      (∀ x, s1.byte x = if a ≤ x ∧ x < a + bs.length then bs.getD (x - a) 0 else s.byte x) ∧ ∀ w, s.errOf w = .good → s1.errOf w = .good := by
  obtain ⟨s1, hstore, hmem, hbytes, herr⟩ := storeWord_good s a bs r hgood hinj
  have hdivert : (if 1 ≤ u.unit ∧ u.unit ≤ 18 then s.divertGranule u.lane a else (s, true)) = (s, true) := by
    split_ifs with hu
    · exact divert_home s u a (hroad hu.1 hu.2)
    · rfl
  have hne : bs.isEmpty = false := by cases bs <;> simp_all
  have htake : bs.take (8 - a % 8) = bs := List.take_of_length_le (by omega)
  have hdrop : bs.drop (8 - a % 8) = [] := List.drop_eq_nil_of_le (by omega)
  refine ⟨s1, ?_, hmem, hbytes, herr⟩
  simp only [State.putWords, hne, place_home s u a hroad, hbus, hdivert, htake, hstore, hdrop, List.isEmpty_nil, Bool.not_true, Bool.false_eq_true,
    if_false, if_true]

/-- What a store of an aligned element needs of its issuer and its word. -/
structure Storable (s : State) (u : Issuer) (a n : Nat) : Prop where
  home : 1 ≤ u.unit → u.unit ≤ 18 → s.roadTo u.lane = none
  align : a % n = 0
  bus : s.busError a true = false
  good : s.errOf (a / 8) = .good
  clean : s.injectAt (a / 8) = false

theorem storable_plain {s : State} {u : Issuer} {a n : Nat} {k : AccKind} (hn : n = 2 ∨ n = 4 ∨ n = 8) (halign : a % n = 0)
    (h : PlainAccess s u a n k true) : Storable s u a n := by
  obtain ⟨hgood, hinj⟩ := h.good (a / 8) (by simp [wordsOf_aligned hn halign])
  exact ⟨h.home, halign, h.there a (by omega) (by omega), hgood, hinj⟩

/-- Element stores to plain memory, in order: a byte no element reaches is as it was, and the bytes of an element that none after it overwrites are
its own. -/
theorem issueStores_plain {u : Issuer} {n : Nat} {good : Nat → Bool} {val : Nat → Nat} (hn : n = 2 ∨ n = 4 ∨ n = 8) (es : List (Nat × Nat)) :
    ∀ s : State, (∀ e ∈ es, good e.1 = true ∧ Storable s u e.2 n) →
      ∃ s1, s.issueStores u n good val es = (s1, none) ∧ MemOnly s s1 ∧
        (∀ x, (∀ e ∈ es, x < e.2 ∨ e.2 + n ≤ x) → s1.byte x = s.byte x) ∧
        ∀ before e after, es = before ++ e :: after → (∀ f ∈ after, f.2 ≠ e.2) →
          ∀ x, e.2 ≤ x → x < e.2 + n → s1.byte x = (leBytes n (val e.1)).getD (x - e.2) 0 := by
  induction es with
  | nil => exact fun s _ => ⟨s, rfl, MemOnly.refl s, fun _ _ => rfl, fun before e after heq => absurd heq (by simp)⟩
  | cons e es ih =>
    obtain ⟨i, a⟩ := e
    intro s hes
    obtain ⟨hgood, hroad, halign, hbus, herr, hinj⟩ := hes (i, a) List.mem_cons_self
    have hlen : (leBytes n (val i)).length = n := length_leBytes _ _
    obtain ⟨s0, hput, hmem0, hbytes0, herr0⟩ := putElement_plain s u (raiseOf u 7) a (leBytes n (val i)) (by omega)
      (by rcases hn with rfl | rfl | rfl <;> omega) hroad hbus herr hinj
    obtain ⟨s1, hrest, hmem1, hbytes1, hlast1⟩ := ih s0 fun e he => by
      obtain ⟨hgood', hroad', halign', hbus', herr', hinj'⟩ := hes e (List.mem_cons_of_mem _ he)
      exact ⟨hgood', by rw [roadTo_memOnly hmem0]; exact hroad', halign', by rw [busError_memOnly hmem0]; exact hbus', herr0 _ herr', by rw [injectAt_memOnly hmem0]; exact hinj'⟩
    rw [hlen] at hbytes0
    refine ⟨s1, ?_, hmem0.trans hmem1, fun x hx => ?_, fun before e after heq hafter x hlo hhi => ?_⟩
    · simp only [State.issueStores, hgood, Bool.not_true, Bool.false_eq_true, if_false, hput, hrest]
    · have hhere : x < a ∨ a + n ≤ x := hx (i, a) List.mem_cons_self
      rw [hbytes1 x fun e he => hx e (List.mem_cons_of_mem _ he), hbytes0, if_neg (by omega)]
    · cases before with
      | nil =>
        obtain ⟨rfl, rfl⟩ : (i, a) = e ∧ es = after := by simpa using heq
        rw [hbytes1 x fun f hf => ?_, hbytes0, if_pos ⟨hlo, hhi⟩]
        have hne := hafter f hf
        have hfalign := (hes f (List.mem_cons_of_mem _ hf)).2.align
        dsimp only at hlo hhi hne
        rcases hn with rfl | rfl | rfl <;> omega
      | cons b before =>
        have htail : es = before ++ e :: after := (List.cons.inj heq).2
        exact hlast1 before e after htail hafter x hlo hhi

end Sys2Proof.Proofs

namespace Sys2Proof.Proofs
open Sys2Proof.Machine Sys2Proof.Safety

/-! ## Elements written over containers (R139, R152) -/

theorem elemAt_putZ (x : Triad) (r : Reg) (w : Nat → Bool) (v : Nat) {k : Nat} (hk : k < 32) :
    elemAt 32 ((x.putZ r w v).zv r) k = if w k then elemAt 32 v k else elemAt 32 (x.zv r) k := by
  rw [zv_putZ_self, elemAt_packElems _ _ _ _ hk]
  exact Nat.mod_eq_of_lt (by split_ifs <;> exact elemAt_lt _ _ _)

/-- A 64-bit element is two containers. -/
theorem elemAt_64 (x i : Nat) : elemAt 64 x i = elemAt 32 x (2 * i) + 2 ^ 32 * elemAt 32 x (2 * i + 1) := by
  have hlow : 32 * (2 * i) = 64 * i := by omega
  have hhigh : 32 * (2 * i + 1) = 64 * i + 32 := by omega
  unfold elemAt
  rw [hlow, hhigh, pow_add, ← Nat.div_div_eq_div_mul]
  omega

/-- The containers a vector load writes: those that hold an element loaded. -/
def vmTouch (e : Nat) (on : Nat → Bool) (k : Nat) : Bool := if e = 64 then on (k / 2) else containerHas e on k

/-- What a z register holds after elements of 16, 32 or 64 bits were written over it. -/
theorem elemAt_putZ_touched (x : Triad) (r : Reg) {e : Nat} (he : e = 16 ∨ e = 32 ∨ e = 64) (on : Nat → Bool) (v : Nat → Nat) {i : Nat} (hi : i < 1024 / e) :
    elemAt e ((x.putZ r (vmTouch e on) (packElems e (1024 / e) fun i => if on i then v i else elemAt e (x.zv r) i)).zv r) i =
      if on i then v i % 2 ^ e else elemAt e (x.zv r) i := by
  by_cases h64 : e = 64
  · subst h64
    have hi16 : i < 16 := hi
    have hon : vmTouch 64 on (2 * i) = on i ∧ vmTouch 64 on (2 * i + 1) = on i := by
      simp only [vmTouch, if_true, show 2 * i / 2 = i by omega, show (2 * i + 1) / 2 = i by omega, and_self]
    rw [elemAt_64, elemAt_putZ _ _ _ _ (by omega), elemAt_putZ _ _ _ _ (by omega), hon.1, hon.2]
    by_cases h : on i = true
    · rw [if_pos h, if_pos h, if_pos h, ← elemAt_64, elemAt_packElems _ _ _ _ hi, if_pos h]
    · rw [if_neg h, if_neg h, if_neg h, ← elemAt_64]
  · have htouch : vmTouch e on = fun k => false || containerHas e on k := funext fun k => by rw [vmTouch, if_neg h64, Bool.false_or]
    have hwrite := elemAt_writeElems x r e (by omega) false on v i hi
    rw [Triad.writeElems] at hwrite
    simp only [Bool.false_eq_true, if_false] at hwrite
    rw [htouch]
    exact hwrite

/-! ## What was loaded (R140) -/

theorem loaded_map (l : List Nat) (v : Nat → Nat) (i : Nat) : loaded (l.map fun j => (j, v j)) i = if i ∈ l then some (v i) else none := by
  induction l with
  | nil => rfl
  | cons j l ih =>
    unfold loaded at *
    by_cases hj : j = i
    · simp [hj]
    · have hne : ¬ i = j := fun h => hj h.symm
      simpa [hj, hne] using ih

/-! ## The end of a vector memory instruction (R140, R148) -/

/-- The base advanced in mode P, and the instruction at `pc` no longer one that was abandoned. -/
def vmEnd (s : State) (t : Nat) (c : VCfg) (m : VMode) (o : VM) (pc : DWord) : State :=
  (if m = .p then s.setG t o.gb (s.gx t o.gb + BitVec.ofNat 64 (4 * c.vl)) else s).completes t pc

theorem sameBut_completes (s : State) (t : Nat) (pc : DWord) : SameBut t s (s.completes t pc) := by
  unfold State.completes
  split_ifs
  · exact sameBut_onTriad _ _ _
  · exact sameBut_refl _ _

theorem triad_completes (s : State) (t : Nat) (pc : DWord) :
    (s.completes t pc).triad t = { s.triad t with abandoned := ((s.completes t pc).triad t).abandoned } := by
  unfold State.completes
  split_ifs
  · rw [State.triad_onTriad_self]
  · rfl

theorem gx_completes (s : State) (t : Nat) (pc : DWord) (r : Reg) : (s.completes t pc).gx t r = s.gx t r := by
  rw [State.gx, triad_completes]
  rfl

theorem sameBut_vmEnd (s : State) (t : Nat) (c : VCfg) (m : VMode) (o : VM) (pc : DWord) : SameBut t s (vmEnd s t c m o pc) := by
  unfold vmEnd
  split_ifs
  · exact sameBut_trans (sameBut_setG _ _ _ _) (sameBut_completes _ _ _)
  · exact sameBut_completes _ _ _

theorem triad_vmEnd (s : State) (t : Nat) (c : VCfg) (m : VMode) (o : VM) (pc : DWord) : (vmEnd s t c m o pc).triad t =
    { s.triad t with g := ((vmEnd s t c m o pc).triad t).g, abandoned := ((vmEnd s t c m o pc).triad t).abandoned } := by
  unfold vmEnd
  rw [triad_completes]
  split_ifs
  · rw [triad_setG_self]
  · rfl

theorem gx_vmEnd (s : State) (t : Nat) (c : VCfg) (m : VMode) (o : VM) (pc : DWord) (r : Reg) : (vmEnd s t c m o pc).gx t r =
    if m = .p ∧ r = o.gb ∧ r ≠ 0 then s.gx t r + BitVec.ofNat 64 (4 * c.vl) else s.gx t r := by
  unfold vmEnd
  rw [gx_completes]
  by_cases hm : m = .p
  · rw [if_pos hm, State.gx_setG]
    by_cases hr : r = o.gb
    · simp only [hm, hr, true_and]
    · simp only [hr, false_and, and_false, if_false]
  · rw [if_neg hm, if_neg (by rintro ⟨h, -⟩; exact hm h)]

/-! ## The bodies of vector loads and stores (R140 to R149) -/

/-- On a lane about to execute it, a legal vector memory instruction comes to its load or its store. -/
theorem vmInstr_ready {s : State} {t : TriadId} {m : VMode} {store : Bool} {o : VM} (h : VecReady s t) (hlegal : vmLegal m store o = true) :
    vmInstr m store t o s = instr t (fun n pc => if store then n.vstore t (s.triad t).vcfgNow m o pc else n.vload t (s.triad t).vcfgNow m o pc) s := by
  have hconfig : (m != .r && ((issue s t).triad t).level != 2 && (vcfgOf ((issue s t).triad t).vcfg).bad) = false := by
    rw [issue_level, issue_triad]
    rcases h.config with hc | hc <;> simp [hc]
  have hnow : ((issue s t).triad t).vcfgNow = (s.triad t).vcfgNow := by rw [issue_triad]; rfl
  rw [vmInstr, instr_ready s t _ h.ready, instr_ready s t _ h.ready]
  simp only [h.lane, hlegal, Bool.not_true, decide_false, Bool.or_self, Bool.false_eq_true, if_false, hconfig, hnow]

/-- Operands that pass their checks name and place the elements (R150). -/
theorem vmGood_of {s : State} {t : Nat} {m : VMode} {o : VM} {es : List (Nat × Nat)} (hp : ∀ r, (s.triad t).pGood r = true)
    (hffm : (s.triad t).ffmGood = true) (hz : m = .x → ∀ e ∈ es, (s.triad t).zGood o.ix e.1 = true) : s.vmGood t m o es = true := by
  simp only [State.vmGood, hp, hffm, Bool.or_true, Bool.true_and, Bool.or_eq_true, bne_iff_ne, ne_eq, List.all_eq_true]
  by_cases hm : m = .x
  · exact Or.inr (hz hm)
  · exact Or.inl hm

/-- With no cause ready nothing is abandoned (R148). -/
theorem abandons_quiet {s : State} {t : TriadId} (pc : DWord) (hnext : s.nextInterrupt t = none) (hcheck : (s.triad t).check = none)
    (hover : (s.triad t).overrun = false) : (issue s t).abandons t pc = false := by
  have hnext' : (issue s t).nextInterrupt t = none := (midway_memOnly (MemOnly.refl (issue s t))).nextInterrupt.trans hnext
  simp only [State.abandons, hnext', issue_triad, hcheck, hover, Option.isSome_none, Bool.or_self, Bool.and_false, Bool.false_and]

theorem vectorIssuer_issue (s : State) (t : TriadId) : (issue s t).vectorIssuer t = s.vectorIssuer t := by
  rw [State.vectorIssuer, triadIssuer_issue]
  rfl

/-- An aligned element of plain memory passes what is checked before anything is issued (R142). -/
theorem vmCheck_plain {s : State} {u : Issuer} {size a : Nat} {store : Bool} (halign : a % size = 0) (hlow : a < 2 ^ 40)
    (h : PlainAccess s u a size (if store then .store else .load) store) : s.vmCheck u size a store = none := by
  have hrange : ¬ (2 ^ 40 ≤ a ∨ isDevice a = true) := by
    rw [isDevice_plain h]
    simp only [Bool.false_eq_true, or_false, not_le]
    exact hlow
  simp only [State.vmCheck, halign, hrange, h.allowed, ne_eq, not_true, if_false]

end Sys2Proof.Proofs

namespace Sys2Proof.Proofs
open Sys2Proof.Machine Sys2Proof.Safety

/-! ## Vector loads (R139, R140, R143, R149) -/

theorem vcommit_triad {s : State} {t : Nat} {out : VOut} (hquiet : s.armed [1] = false) (hfail : out.fail = false) (hg : out.g = none) :
    s.vcommit t out = s.setTriad t out.x := by
  simp [State.vcommit, residueInjections_quiet hquiet, State.injectN, hfail, hg]

/-- A triad whose register `r` holds `v i` at each element `i` of width `e` for which `on` holds. -/
def withElements (x : Triad) (r : Reg) (e : Nat) (on : Nat → Bool) (v : Nat → Nat) : Triad :=
  x.putZ r (vmTouch e on) (packElems e (1024 / e) fun i => if on i then v i else elemAt e (x.zv r) i)

theorem withElements_eq (x : Triad) (r : Reg) (e : Nat) (on : Nat → Bool) (v : Nat → Nat) : withElements x r e on v =
    { x with z := (withElements x r e on v).z, zres := (withElements x r e on v).zres } := Triad.putZ_eq _ _ _ _

theorem elemAt_withElements (x : Triad) (r : Reg) {e : Nat} (he : e = 16 ∨ e = 32 ∨ e = 64) (on : Nat → Bool) (v : Nat → Nat) {i : Nat}
    (hi : i < 1024 / e) : elemAt e ((withElements x r e on v).zv r) i = if on i then v i % 2 ^ e else elemAt e (x.zv r) i :=
  elemAt_putZ_touched x r he on v hi

theorem zv_withElements_other (x : Triad) {r q : Reg} (e : Nat) (on : Nat → Bool) (v : Nat → Nat) (h : q ≠ r) :
    (withElements x r e on v).zv q = x.zv q := zv_putZ_other _ _ _ _ _ h

/-- A load whose elements have all been read writes them, advances its base and completes. -/
theorem vmWrite_completes {s : State} {t : Nat} (c : VCfg) (m : VMode) (o : VM) (l : List Nat) (v : Nat → Nat) (pc : DWord) (hquiet : s.armed [1] = false)
    (hz : ∀ r k, k < 32 → (s.triad t).zGood r k = true) :
    (s.vmWrite t c m o (l.map fun i => (i, v i)) none true).completes t pc =
      vmEnd (s.setTriad t (withElements (s.triad t) o.vt (8 * vmBytes m o) (fun i => decide (i ∈ l)) v)) t c m o pc := by
  have hon : ∀ i, (loaded (l.map fun i => (i, v i)) i).isSome = decide (i ∈ l) := fun i => by
    rw [loaded_map]
    by_cases hi : i ∈ l <;> simp [hi]
  have hdata : ∀ i d, (loaded (l.map fun i => (i, v i)) i).getD d = if decide (i ∈ l) then v i else d := fun i d => by
    rw [loaded_map]
    by_cases hi : i ∈ l <;> simp [hi]
  unfold State.vmWrite vmEnd
  simp only [hon, hdata]
  rw [vcommit_triad hquiet (by simp only [keptGood_all _ _ _ _ _ hz, Bool.and_self, Bool.not_true]) rfl]
  rfl

section
variable {s : State} {t : TriadId} {m : VMode} {o : VM}

/-- The elements of a vector memory instruction on plain memory are aligned, in reach and permitted. -/
theorem vecPlain_element {store : Bool} (hplain : Sys2Proof.Statements.VecPlain s t m o store) {e : Nat × Nat}
    (he : e ∈ s.vmElems t (s.triad t).vcfgNow m o) : e.2 % vmBytes m o = 0 ∧ e.2 < 2 ^ 40 ∧
      PlainAccess s (s.vectorIssuer t) e.2 (vmBytes m o) (if store then .store else .load) store := by
  obtain ⟨-, -, -, hels⟩ := hplain
  exact hels e.1 e.2 he

theorem vmCheck_vecPlain {store : Bool} (hplain : Sys2Proof.Statements.VecPlain s t m o store) {e : Nat × Nat}
    (he : e ∈ s.vmElems t (s.triad t).vcfgNow m o) : (issue s t).vmCheck (s.vectorIssuer t) (vmBytes m o) e.2 store = none := by
  obtain ⟨halign, hlow, haccess⟩ := vecPlain_element hplain he
  exact vmCheck_plain halign hlow (plain_issue haccess)

/-- An index or a value of an accessed element lies in a container that passes its check. -/
theorem vmIndex_lt {store : Bool} (h : VecReady s t) (hlegal : vmLegal m store o = true) (hm : m = .x) {e : Nat × Nat}
    (he : e ∈ s.vmElems t (s.triad t).vcfgNow m o) : e.1 < 32 := by
  have hlt := vmIndices_lt h (mem_vmElems.mp he).1
  have hty : o.ty ≠ 0 := by
    simp only [vmLegal, hm, Bool.and_eq_true] at hlegal
    simpa using hlegal.1.2
  have hbytes : vmBytes m o = 4 := by rw [vmBytes, hm, if_neg (by decide), tyBits, if_neg hty]
  rw [hbytes] at hlt
  exact hlt

/-- The body of a load from plain memory. -/
theorem vload_plain (h : VecReady s t) (hlegal : vmLegal m false o = true) (hplain : Sys2Proof.Statements.VecPlain s t m o false) (pc : DWord) :
    (issue s t).vload t (s.triad t).vcfgNow m o pc = .ok (vmEnd ((issue s t).setTriad t
      (withElements ((issue s t).triad t) o.vt (8 * vmBytes m o) (fun i => decide (i ∈ vmIndices (s.triad t) (s.triad t).vcfgNow m o))
        fun i => s.le (vmAddrOf s t m o i) (vmBytes m o))) t (s.triad t).vcfgNow m o pc) := by
  obtain ⟨hnext, hcheck, hover, -⟩ := id hplain
  have htake : (s.vmElems t (s.triad t).vcfgNow m o).takeWhile (fun e => ((issue s t).vmCheck (s.vectorIssuer t) (vmBytes m o) e.2 false).isNone) =
      s.vmElems t (s.triad t).vcfgNow m o := List.takeWhile_eq_self_iff.mpr fun e he => by rw [vmCheck_vecPlain hplain he]; rfl
  have hgood : (issue s t).vmGood t m o (s.vmElems t (s.triad t).vcfgNow m o) = true :=
    vmGood_of (issue_pGood h) (issue_ffmGood h) fun hm e he => issue_zGood h _ _ (vmIndex_lt h hlegal hm he)
  have hloads := issueLoads_plain (s := issue s t) (vmBytes_cases m o) (s.vmElems t (s.triad t).vcfgNow m o) [] [] (by simp)
    fun e he => ⟨(vecPlain_element hplain he).1, plain_issue (vecPlain_element hplain he).2.2⟩
  have hvals : (s.vmElems t (s.triad t).vcfgNow m o).map (fun e => (e.1, (issue s t).le e.2 (vmBytes m o))) =
      (vmIndices (s.triad t) (s.triad t).vcfgNow m o).map fun i => (i, s.le (vmAddrOf s t m o i) (vmBytes m o)) := by
    rw [vmElems_eq, List.map_map]
    rfl
  have hwrite := vmWrite_completes (s := issue s t) (s.triad t).vcfgNow m o (vmIndices (s.triad t) (s.triad t).vcfgNow m o)
    (fun i => s.le (vmAddrOf s t m o i) (vmBytes m o)) pc h.quiet (issue_zGood h)
  simp only [State.vload, vectorIssuer_issue, vmElems_issue, htake, List.drop_length, List.head?_nil, ite_self, abandons_quiet pc hnext hcheck hover,
    Option.toList_none, List.append_nil, hgood, hloads, List.reverse_nil, List.nil_append, hvals, Option.map_none, hwrite, Bool.false_eq_true, if_false]

end

theorem zv_retired (x : Triad) (r : Reg) : (retired x).zv r = x.zv r := rfl

theorem zv_vmEnd (s : State) (t : Nat) (c : VCfg) (m : VMode) (o : VM) (pc : DWord) (r : Reg) :
    ((vmEnd s t c m o pc).triad t).zv r = (s.triad t).zv r := by
  rw [triad_vmEnd]
  rfl

/-- An instruction whose body ends as vector memory instructions do, from a state `w` whose triad differs in z alone. -/
theorem instr_vmEnd {s w : State} {t : TriadId} {c : VCfg} {m : VMode} {o : VM} {pc : DWord} {body : State → DWord → Res} (h : Ready s t)
    (hbody : body (issue s t) (s.triad t).pc = .ok (vmEnd w t c m o pc))
    (hw : w.triad t = { (issue s t).triad t with z := (w.triad t).z, zres := (w.triad t).zres }) :
    ∃ e, instr t body s = .next (e : State).drivePins ∧ SameBut t w e ∧ (∀ r, (e.triad t).zv r = (w.triad t).zv r) ∧
      (e.triad t).ffm = (s.triad t).ffm ∧ (e.triad t).pc = (s.triad t).pc + 4 ∧
      ∀ r, e.gx t r = if m = .p ∧ r = o.gb ∧ r ≠ 0 then s.gx t r + BitVec.ofNat 64 (4 * c.vl) else s.gx t r := by
  have hend := triad_vmEnd w t c m o pc
  have hgx : ∀ r, w.gx t r = s.gx t r := fun r => by
    rw [← issue_gx s t r, State.gx, hw]
    rfl
  refine ⟨_, instr_retired h hbody ?_ ?_, sameBut_trans (sameBut_vmEnd w t c m o pc) (sameBut_onTriad _ t retired), fun r => ?_, ?_, ?_, fun r => ?_⟩
  · rw [hend, hw, issue_triad]
    exact h.free
  · rw [hend, hw, issue_triad]
  · rw [State.triad_onTriad_self, zv_retired, zv_vmEnd]
  · rw [State.triad_onTriad_self, hend, hw, issue_triad]
    rfl
  · rw [State.triad_onTriad_self, hend, hw, issue_triad]
    rfl
  · have hretired := gx_retired (vmEnd w t c m o pc) t r
    rw [State.gx_drivePins] at hretired
    rw [hretired, gx_vmEnd, hgx]

/-- A vector load of any mode. -/
theorem vectorLoad_reads {s : State} {t : TriadId} {m : VMode} {o : VM} (h : VecReady s t) (hlegal : vmLegal m false o = true)
    (hplain : Sys2Proof.Statements.VecPlain s t m o false) :
    let x := s.triad t
    let n := vmBytes m o
    let els := s.vmElems t x.vcfgNow m o
    ∃ u, vmInstr m false t o s = .next u ∧ OnlyTriad s u t ∧
      (∀ i a, (i, a) ∈ els → elemAt (8 * n) ((u.triad t).zv o.vt) i = s.le a n) ∧
      (∀ i < 128 / n, (∀ a, (i, a) ∉ els) → elemAt (8 * n) ((u.triad t).zv o.vt) i = elemAt (8 * n) (x.zv o.vt) i) ∧
      (∀ r, r ≠ o.vt → (u.triad t).zv r = x.zv r) ∧ (u.triad t).ffm = x.ffm ∧ (u.triad t).pc = x.pc + 4 ∧
      ∀ r, u.gx t r = if m = .p ∧ r = o.gb ∧ r ≠ 0 then s.gx t r + BitVec.ofNat 64 (4 * x.vcfgNow.vl) else s.gx t r := by
  intro x n els
  have hwidth : 8 * n = 16 ∨ 8 * n = 32 ∨ 8 * n = 64 := by rcases vmBytes_cases m o with hn | hn | hn <;> simp [n, hn]
  have hcount : 1024 / (8 * n) = 128 / n := by rw [← Nat.div_div_eq_div_mul]
  have hissue : ∀ r, ((issue s t).triad t).zv r = x.zv r := fun r => by rw [issue_triad]; rfl
  set y := withElements ((issue s t).triad t) o.vt (8 * n) (fun i => decide (i ∈ vmIndices x x.vcfgNow m o)) fun i => s.le (vmAddrOf s t m o i) n with hy
  have hset : ((issue s t).setTriad t y).triad t = y := State.triad_setTriad_self _ _ _
  rw [vmInstr_ready h hlegal]
  obtain ⟨e, hexec, hsame, hzv, hffm, hpc, hgx⟩ := instr_vmEnd (w := (issue s t).setTriad t y)
    (body := fun n pc => n.vload t (s.triad t).vcfgNow m o pc) h.ready (vload_plain h hlegal hplain (s.triad t).pc)
    (by rw [hset, hy]; exact withElements_eq _ _ _ _ _)
  rw [hset] at hzv
  refine ⟨_, hexec, onlyTriad_of_sameBut (sameBut_trans (sameBut_trans (sameBut_issue s t) (sameBut_setTriad _ t y)) hsame), fun i a hia => ?_,
    fun i hi hnone => ?_, fun r hr => ?_, hffm, hpc, hgx⟩
  · obtain ⟨hmem, rfl⟩ := mem_vmElems.mp hia
    rw [State.triad_drivePins, hzv, hy, elemAt_withElements _ _ hwidth _ _ (by rw [hcount]; exact vmIndices_lt h hmem), if_pos (decide_eq_true hmem),
      Nat.mod_eq_of_lt (le_lt _ _ _)]
  · have hmem : i ∉ vmIndices x x.vcfgNow m o := fun hmem => hnone _ (mem_vmElems.mpr ⟨hmem, rfl⟩)
    rw [State.triad_drivePins, hzv, hy, elemAt_withElements _ _ hwidth _ _ (by rw [hcount]; exact hi), if_neg (by simpa using hmem), hissue]
  · rw [State.triad_drivePins, hzv, hy, zv_withElements_other _ _ _ _ hr, hissue]

/-- Every row of the table of vector loads is a load of its mode. -/
theorem exec_vectorLoads (s : State) (t : TriadId) (o : VM) :
    ∀ p ∈ [(Instr.vld t o, VMode.c), (.vldP t o, .p), (.vldS t o, .s), (.vldX t o, .x), (.vldR t o, .r)], exec p.1 s = vmInstr p.2 false t o s := by
  simp only [List.forall_mem_cons, List.not_mem_nil, false_implies, implies_true, and_true]
  exact ⟨exec_vld t o s, exec_vldP t o s, exec_vldS t o s, exec_vldX t o s, exec_vldR t o s⟩

theorem vectorLoadsReadElements : Sys2Proof.Statements.VectorLoadsReadElements := by
  intro s t o h p hp hlegal hplain
  rw [exec_vectorLoads s t o p hp]
  exact vectorLoad_reads h hlegal hplain

/-! ## Vector stores (R139, R140, R143, R149) -/

/-- The element value and its container pass their checks (R150). -/
def vmValueGood (x : Triad) (m : VMode) (o : VM) (i : Nat) : Bool :=
  (if 8 * vmBytes m o = 64 then x.zGood o.vt (2 * i) && x.zGood o.vt (2 * i + 1) else x.zGood o.vt (inContainer (8 * vmBytes m o) i)) &&
    (m != .x || x.zGood o.ix i)

theorem vmValueGood_of {s : State} {t : TriadId} {m : VMode} {o : VM} (h : VecReady s t) (hlegal : vmLegal m true o = true) {e : Nat × Nat}
    (he : e ∈ s.vmElems t (s.triad t).vcfgNow m o) : vmValueGood ((issue s t).triad t) m o e.1 = true := by
  have hlt := vmIndices_lt h (mem_vmElems.mp he).1
  have hindex : (m != .x || ((issue s t).triad t).zGood o.ix e.1) = true := by
    by_cases hm : m = .x
    · rw [issue_zGood h _ _ (vmIndex_lt h hlegal hm he), Bool.or_true]
    · rw [bne_iff_ne.mpr hm, Bool.true_or]
  have hz := issue_zGood h o.vt
  rw [vmValueGood, hindex, Bool.and_true]
  rcases vmBytes_cases m o with hn | hn | hn <;> rw [hn] at hlt ⊢
  · exact hz (e.1 / 2) (by omega)
  · exact hz e.1 (by omega)
  · rw [if_pos rfl, hz _ (by omega), hz _ (by omega), Bool.and_self]

/-- A store leaves its operands as it found them. -/
theorem vmGood_advanced {s w : State} {t : TriadId} {m : VMode} {o : VM} (h : VecReady s t) (hlegal : vmLegal m true o = true)
    (hw : w.triad t = { (issue s t).triad t with g := (w.triad t).g }) : w.vmGood t m o (s.vmElems t (s.triad t).vcfgNow m o) = true := by
  refine vmGood_of (fun r => ?_) ?_ fun hm e he => ?_
  · rw [hw]
    exact issue_pGood h r
  · rw [hw]
    exact issue_ffmGood h
  · rw [hw]
    exact issue_zGood h _ _ (vmIndex_lt h hlegal hm he)

/-- The body of a store to plain memory, from what its element stores leave. -/
theorem vstore_plain {s s1 : State} {t : TriadId} {m : VMode} {o : VM} (h : VecReady s t) (hlegal : vmLegal m true o = true)
    (hplain : Sys2Proof.Statements.VecPlain s t m o true) (pc : DWord) (hmem : MemOnly (issue s t) s1)
    (hstores : (issue s t).issueStores (s.vectorIssuer t) (vmBytes m o) (vmValueGood ((issue s t).triad t) m o)
      (fun i => elemAt (8 * vmBytes m o) (((issue s t).triad t).zv o.vt) i) (s.vmElems t (s.triad t).vcfgNow m o) = (s1, none)) :
    (issue s t).vstore t (s.triad t).vcfgNow m o pc = .ok (vmEnd s1 t (s.triad t).vcfgNow m o pc) := by
  obtain ⟨hnext, hcheck, hover, -⟩ := id hplain
  have hfind : ((s.vmElems t (s.triad t).vcfgNow m o).map fun e => (e, (issue s t).vmCheck (s.vectorIssuer t) (vmBytes m o) e.2 true)).find?
      (fun e => e.2.isSome) = none := by
    simp only [List.find?_eq_none, List.mem_map]
    rintro _ ⟨e, he, rfl⟩
    rw [vmCheck_vecPlain hplain he]
    exact Bool.false_ne_true
  have hvalues : (s.vmElems t (s.triad t).vcfgNow m o).all (fun e => vmValueGood ((issue s t).triad t) m o e.1) = true :=
    List.all_eq_true.mpr fun e he => vmValueGood_of h hlegal he
  have htriad := triad_memOnly hmem t
  have hgood : (if m = .p then s1.setG t o.gb (s1.gx t o.gb + BitVec.ofNat 64 (4 * (s.triad t).vcfgNow.vl)) else s1).vmGood t m o
      (s.vmElems t (s.triad t).vcfgNow m o) = true := by
    refine vmGood_advanced h hlegal ?_
    split_ifs
    · rw [triad_setG_self, htriad]
    · rw [htriad]
  unfold vmValueGood at hstores hvalues
  simp only [State.vstore, vectorIssuer_issue, vmElems_issue, hfind, abandons_quiet pc hnext hcheck hover, hstores, hgood, hvalues, State.checkedBy,
    Bool.and_self, if_true, Bool.false_eq_true, if_false]
  rfl

/-- In a list of elements that rise, those after the last one at its address stand elsewhere. -/
theorem address_after {es before after : List (Nat × Nat)} {i a : Nat} (hrise : es.Pairwise fun e f => e.1 < f.1)
    (hsplit : es = before ++ (i, a) :: after) (hlast : ∀ j, i < j → (j, a) ∉ es) : ∀ f ∈ after, f.2 ≠ a := by
  rintro ⟨j, b⟩ hf rfl
  rw [hsplit] at hrise
  have hlt : i < j := (List.pairwise_cons.mp (List.pairwise_append.mp hrise).2.1).1 _ hf
  exact hlast j hlt (by rw [hsplit]; exact List.mem_append_right _ (List.mem_cons_of_mem _ hf))

/-- A vector store of any mode. -/
theorem vectorStore_writes {s : State} {t : TriadId} {m : VMode} {o : VM} (h : VecReady s t) (hlegal : vmLegal m true o = true)
    (hplain : Sys2Proof.Statements.VecPlain s t m o true) :
    let x := s.triad t
    let n := vmBytes m o
    let els := s.vmElems t x.vcfgNow m o
    ∃ u, vmInstr m true t o s = .next u ∧
      (∀ i a, (i, a) ∈ els → (∀ j, i < j → (j, a) ∉ els) → u.le a n = elemAt (8 * n) (x.zv o.vt) i) ∧
      (∀ b, (∀ i a, (i, a) ∈ els → b < a ∨ a + n ≤ b) → u.byte b = s.byte b) ∧
      (∀ r, (u.triad t).zv r = x.zv r) ∧ (u.triad t).pc = x.pc + 4 ∧
      ∀ r, u.gx t r = if m = .p ∧ r = o.gb ∧ r ≠ 0 then s.gx t r + BitVec.ofNat 64 (4 * x.vcfgNow.vl) else s.gx t r := by
  intro x n els
  have hissue : ∀ r, ((issue s t).triad t).zv r = x.zv r := fun r => by rw [issue_triad]; rfl
  have hstorable : ∀ e ∈ els, vmValueGood ((issue s t).triad t) m o e.1 = true ∧ Storable (issue s t) (s.vectorIssuer t) e.2 n := fun e he => by
    obtain ⟨halign, -, haccess⟩ := vecPlain_element hplain he
    exact ⟨vmValueGood_of h hlegal he, storable_plain (vmBytes_cases m o) halign (plain_issue haccess)⟩
  obtain ⟨s1, hstores, hmem, hbytes, hlast⟩ := issueStores_plain (u := s.vectorIssuer t)
    (val := fun i => elemAt (8 * n) (((issue s t).triad t).zv o.vt) i) (vmBytes_cases m o) els (issue s t) hstorable
  have htriad := triad_memOnly hmem t
  rw [vmInstr_ready h hlegal]
  obtain ⟨e, hexec, hsame, hzv, -, hpc, hgx⟩ := instr_vmEnd (w := s1) (body := fun n pc => n.vstore t (s.triad t).vcfgNow m o pc) h.ready
    (vstore_plain h hlegal hplain (s.triad t).pc hmem hstores) (by rw [htriad])
  refine ⟨_, hexec, fun i a hia hhighest => ?_, fun b hb => ?_, fun r => ?_, hpc, hgx⟩
  · obtain ⟨before, after, hsplit⟩ := List.append_of_mem hia
    have hle := le_of_bytes (u := e.drivePins) (a := a) (n := n) (v := elemAt (8 * n) (((issue s t).triad t).zv o.vt) i) fun y hlo hhi => by
      rw [State.byte_drivePins, byte_sameBut hsame]
      exact hlast before (i, a) after hsplit (address_after (vmElems_rise _ _ _ _ _) hsplit hhighest) y hlo hhi
    rw [hle, Nat.mod_eq_of_lt (elemAt_lt _ _ _), hissue]
  · rw [State.byte_drivePins, byte_sameBut hsame, hbytes b fun f hf => hb f.1 f.2 hf, issue_byte]
  · rw [State.triad_drivePins, hzv, htriad, hissue]

/-- Every row of the table of vector stores is a store of its mode. -/
theorem exec_vectorStores (s : State) (t : TriadId) (o : VM) :
    ∀ p ∈ [(Instr.vst t o, VMode.c), (.vstP t o, .p), (.vstS t o, .s), (.vstX t o, .x), (.vstR t o, .r)], exec p.1 s = vmInstr p.2 true t o s := by
  simp only [List.forall_mem_cons, List.not_mem_nil, false_implies, implies_true, and_true]
  exact ⟨exec_vst t o s, exec_vstP t o s, exec_vstS t o s, exec_vstX t o s, exec_vstR t o s⟩

theorem vectorStoresWriteElements : Sys2Proof.Statements.VectorStoresWriteElements := by
  intro s t o h p hp hlegal hplain
  rw [exec_vectorStores s t o p hp]
  exact vectorStore_writes h hlegal hplain

/-- Settles O27: on plain memory every element is read into its place, or its bytes are written at its address, and the instruction completes. -/
theorem vectorMemoryMovesElements : Obligations.VectorMemoryMovesElements := ⟨vectorLoadsReadElements, vectorStoresWriteElements⟩

end Sys2Proof.Proofs

namespace Sys2Proof.Proofs
open Sys2Proof.Machine Sys2Proof.Safety

/-! ## Loops that establish a fact -/

/-- What one step of a loop makes true, and every step keeps, holds at the loop's end. -/
theorem foldl_establishes {α β : Type} (P : α → Prop) (f : α → β → α) (b : β) (hset : ∀ a, P (f a b)) (hkeep : ∀ a c, P a → P (f a c)) (l : List β)
    (hb : b ∈ l) (a : α) : P (l.foldl f a) := by
  have hstays : ∀ (l : List β) (a : α), P a → P (l.foldl f a) := fun l => by
    induction l with
    | nil => exact fun a h => h
    | cons c l ih => exact fun a h => ih (f a c) (hkeep a c h)
  obtain ⟨before, after, rfl⟩ := List.append_of_mem hb
  rw [List.foldl_append, List.foldl_cons]
  exact hstays after _ (hset _)

/-! ## A late sample (R181, R188) -/

/-- The newest sample of an express routing point, and the time of its position. -/
def lateOf (s : State) (p : Nat) : Word × Nat := Sparse.get (fun _ => (0, 0)) s.exp.late p

theorem lateOf_setLate_same (s : State) (fs p : Nat) (v : Word) :
    lateOf (s.setLate fs p v) p = (v, s.rateFrame fs (max s.time (lateOf s p).2)) :=
  Sparse.get_set_self _ _ _ _

theorem lateOf_setLate_other (s : State) (fs p q : Nat) (v : Word) (h : p ≠ q) : lateOf (s.setLate fs p v) q = lateOf s q :=
  Sparse.get_set_other _ _ _ _ _ h

theorem regs_setLate (s : State) (fs p : Nat) (v : Word) : (s.setLate fs p v).regs = s.regs := rfl

theorem mem_setLate (s : State) (fs p : Nat) (v : Word) : (s.setLate fs p v).mem = s.mem := rfl

/-- Two samples at adjacent points: each has its value, and the position one frame after its input's. -/
theorem lateOf_setLate_pair (s : State) (fs p : Nat) (v w : Word) (k : Nat) (hk : k < 2) :
    lateOf ((s.setLate fs p v).setLate fs (p + 1) w) (p + k) = (if k = 0 then v else w, s.rateFrame fs (max s.time (lateOf s (p + k)).2)) := by
  obtain rfl | rfl : k = 0 ∨ k = 1 := by omega
  · rw [lateOf_setLate_other _ _ _ _ _ (by omega), Nat.add_zero, lateOf_setLate_same, if_pos rfl]
  · rw [lateOf_setLate_same, lateOf_setLate_other _ _ _ _ _ (by omega)]
    rfl

/-! ## A sample of an express channel (R187, R188, R193, R195) -/

theorem expVote_agreed (s : State) (b : Nat) (h : s.expUpset b = 0) : s.expVote b = s := by
  rw [State.expVote]
  exact if_pos h

/-- What channel `c` computes from its inputs by its program (R187). -/
def channelOutput (s : State) (c : Nat) (p : ExpProg) : Word × Word :=
  (expSample p (s.expChan c) ((List.range 16).map (s.expInput c)) ((s.param (expKey c 0)).now 4) ((s.param (expKey c 1)).now 4)
    (s.param (expKey c 2)).value).1

/-- Channel `c` carries 0: its block has failed, or every express output is quiet (R195, R230). -/
def silenced (s : State) (c : Nat) : Bool := s.exp.out.contains (s.get (EXP_MAP_BLOCK c)) || decide (s.time < s.exp.quiet)

theorem silenced_iff (s : State) (c : Nat) : silenced s c = true ↔ s.get (EXP_MAP_BLOCK c) ∈ s.exp.out ∨ s.time < s.exp.quiet := by
  simp [silenced]

/-- The sample of channel `c` that leaves for a computed one. -/
def leaving (s : State) (c : Nat) (v : Word) : Word := if silenced s c then 0 else fadeStep (s.expChan c).fade v

theorem leaving_silenced {s : State} {c : Nat} (h : silenced s c = true) (v : Word) : leaving s c v = 0 := if_pos h

theorem leaving_steady {s : State} {c : Nat} (h : silenced s c = false) (hfade : (s.expChan c).fade = none) (v : Word) : leaving s c v = v := by
  rw [leaving, h, hfade]; rfl

/-- A state without what a sample leaves of its channel: its state words, its parameters' ramps, the samples kept for the CRC. -/
def offChannel (s : State) : State :=
  { s with exp := { s.exp with chans := [], outs := [] }, eng := { s.eng with params := [] } }

theorem offChannel_setLate (s : State) (fs p : Nat) (v : Word) : offChannel (s.setLate fs p v) = (offChannel s).setLate fs p v := rfl

@[simp] theorem lateOf_drivePins (s : State) (p : Nat) : lateOf s.drivePins p = lateOf s p := rfl

theorem offChannel_setExpChan (s : State) (c : Nat) (x : ExpChan) : offChannel (s.setExpChan c x) = offChannel s := rfl

theorem offChannel_setParam (s : State) (k : Nat) (v : ParamVal) : offChannel (s.setParam k v) = offChannel s := rfl

theorem regs_offChannel (s : State) : (offChannel s).regs = s.regs := rfl

theorem mem_offChannel (s : State) : (offChannel s).mem = s.mem := rfl

theorem lateOf_offChannel (s : State) (p : Nat) : lateOf (offChannel s) p = lateOf s p := rfl

theorem offChannel_outs (s : State) (outs : Sparse (List Word)) : offChannel { s with exp := { s.exp with outs := outs } } = offChannel s := rfl

/-- While the block's copies agree, a sample of its channel is two late samples, beside the channel's own state. -/
theorem offChannel_expressSample (s : State) (p : ExpProg) (h : s.expUpset (s.get (EXP_MAP_BLOCK p.channel)) = 0) :
    offChannel (s.expressSample p) = offChannel ((s.setLate (rateHz p.rate) (0x4200 + 2 * p.channel)
        (leaving s p.channel (channelOutput s p.channel p).1)).setLate (rateHz p.rate) (0x4201 + 2 * p.channel)
        (leaving s p.channel (channelOutput s p.channel p).2)) := by
  rw [State.expressSample, expVote_agreed s _ h, channelOutput]
  extract_lets keep
  generalize expSample p _ _ _ _ _ = o
  obtain ⟨⟨va, vb⟩, next⟩ := o
  dsimp -zeta only
  extract_lets next' w silent sa sb x
  have hw : offChannel w = offChannel s := by
    simp only [w]
    split_ifs
    · rfl
    · rw [offChannel_setParam, offChannel_setParam, offChannel_setExpChan]
  clear_value w
  have hsilent : silent = silenced s p.channel := by
    have htime : w.time = s.time := congrArg (·.time) hw
    have hquiet : w.exp.quiet = s.exp.quiet := congrArg (·.exp.quiet) hw
    simp only [silent, silenced, htime, hquiet]
  refine (offChannel_outs x _).trans ?_
  simp only [x, sa, sb, hsilent, offChannel_setLate, hw, leaving]

theorem express_sample (s : State) (c : BitVec 6) (p : ExpProg) (hprog : s.exp.progs.find? (fun p => p.channel = c.toNat) = some p)
    (hagree : s.expUpset (s.get (EXP_MAP_BLOCK c.toNat)) = 0) : Gives s (.expressSample c) fun u =>
      u.regs = s.regs ∧ u.mem = s.mem ∧
        (silenced s c.toNat = true → ∀ k < 2, (lateOf u (0x4200 + 2 * c.toNat + k)).1 = 0) ∧
        (silenced s c.toNat = false → (s.expChan c.toNat).fade = none → (lateOf u (0x4200 + 2 * c.toNat)).1 = (channelOutput s c.toNat p).1 ∧
          (lateOf u (0x4201 + 2 * c.toNat)).1 = (channelOutput s c.toNat p).2) ∧
        ∀ k < 2, (lateOf u (0x4200 + 2 * c.toNat + k)).2 =
          s.rateFrame (rateHz p.rate) (max s.time (lateOf s (0x4200 + 2 * c.toNat + k)).2) := by
  have hchan : p.channel = c.toNat := by simpa using List.find?_some hprog
  have hexec : exec (.expressSample c) s = .next (s.expressSample p).drivePins := by
    rw [exec_expressSample, execExpressSample, hprog]; rfl
  have hoff := offChannel_expressSample s p (by rw [hchan]; exact hagree)
  have hnext : 0x4201 + 2 * c.toNat = 0x4200 + 2 * c.toNat + 1 := by omega
  rw [hchan, hnext] at hoff
  refine ⟨_, hexec, ?_⟩
  generalize s.expressSample p = u at hoff
  have hlate : ∀ k < 2, lateOf u (0x4200 + 2 * c.toNat + k) =
      (if k = 0 then leaving s c.toNat (channelOutput s c.toNat p).1 else leaving s c.toNat (channelOutput s c.toNat p).2,
        s.rateFrame (rateHz p.rate) (max s.time (lateOf s (0x4200 + 2 * c.toNat + k)).2)) := fun k hk => by
    rw [← lateOf_offChannel u, hoff, lateOf_offChannel, lateOf_setLate_pair s _ _ _ _ k hk]
  refine ⟨?_, ?_, fun hsilent k hk => ?_, fun hsounds hfade => ⟨?_, ?_⟩, fun k hk => ?_⟩
  · rw [State.drivePins_regs, ← regs_offChannel u, hoff, regs_offChannel, regs_setLate, regs_setLate]
  · rw [State.drivePins_mem, ← mem_offChannel u, hoff, mem_offChannel, mem_setLate, mem_setLate]
  · rw [lateOf_drivePins, hlate k hk, leaving_silenced hsilent, leaving_silenced hsilent, ite_self]
  · have hfirst := hlate 0 (by decide)
    rw [Nat.add_zero] at hfirst
    rw [lateOf_drivePins, hfirst, if_pos rfl, leaving_steady hsounds hfade]
  · rw [lateOf_drivePins, hnext, hlate 1 (by decide), if_neg (by decide), leaving_steady hsounds hfade]
  · rw [lateOf_drivePins, hlate k hk]

/-! ## The voter's resynchronisation (R194) -/

theorem exp_until (s : State) (t : Nat) : (s.until t).exp = s.exp := by rw [State.until_eq]

theorem express_resynchronised (s : State) (b : Fin 9) (hmode : s.get (EXP_VOTE_MODE b) = 1) :
    Gives s (.expressResyncComplete b) fun u => u.get (EXP_VOTE_MODE b) = 0 ∧ u.time = max s.time (s.frameAfter s.time) ∧ u.exp = s.exp := by
  refine ⟨_, (exec_expressResyncComplete b s).trans (occurs_of _ _ _ (by simpa using hmode)), ?_, ?_, ?_⟩
  · exact State.get_put_eq _ (EXP_VOTE_MODE b) 0 (by simp only; omega) (by simp only; omega)
  · exact State.time_until s _
  · exact exp_until s _

/-- The outvoted channel of an express block is a row of the FCU's table. -/
theorem outvotedChannel : ∀ b : Fin 9, (fcRow (176 + b.val)).isSome = true := by decide

theorem express_heldOut (s : State) (b : Fin 9) (hmode : s.get (EXP_VOTE_MODE b) = 1) :
    Gives s (.expressHoldOut b) fun u => u.get (EXP_VOTE_MODE b) = 2 ∧ (u.pair (176 + b)).todo.length = (s.pair (176 + b)).todo.length + 1 := by
  refine ⟨_, (exec_expressHoldOut b s).trans (occurs_of _ _ _ (by simpa using hmode)), ?_, ?_⟩
  · rw [State.get_drivePins, State.get_drive]
    exact State.get_put_eq _ (EXP_VOTE_MODE b) 2 (by simp only; omega) (by simp only; omega)
  · rw [pair_drivePins, State.pair_drive _ _ _ (outvotedChannel b), List.length_append, List.length_singleton, pair_put]

/-! ## Channels move to a block (R195, R196) -/

/-- Channel `k` of block `b` moves to block `d`. -/
def mapChannel (s : State) (b d k : Nat) : State :=
  (s.put (EXP_MAP_BLOCK (8 * b + k)) d).put (EXP_MAP_ON_LAYBY (8 * b + k)) (if d = 8 then 1 else 0)

theorem mapExpress_eq (s : State) (b d : Nat) : s.mapExpress b d = (List.range 8).foldl (fun u k => mapChannel u b d k) s := rfl

theorem reg_mapChannel (s : State) (b d k a : Nat) (ha : EXP_MAP (8 * b + k) ≠ a) : (mapChannel s b d k).reg a = s.reg a := by
  rw [mapChannel, reg_put_other _ (EXP_MAP_ON_LAYBY _) _ _ ha, reg_put_other _ (EXP_MAP_BLOCK _) _ _ ha]

theorem get_mapChannel_other (s : State) (b d k : Nat) (f : Fld) (hf : EXP_MAP (8 * b + k) ≠ f.addr) : (mapChannel s b d k).get f = s.get f := by
  rw [State.get, reg_mapChannel _ _ _ _ _ hf, State.get]

theorem get_mapChannel_block (s : State) (b d k : Nat) (hd : d < 16) : (mapChannel s b d k).get (EXP_MAP_BLOCK (8 * b + k)) = d := by
  rw [mapChannel, State.get_put_apart _ _ _ _ (by simp only; omega) (by simp only; omega), State.get_put_eq _ _ _ (by simp only; omega) hd]

theorem flag_mapChannel_onLayby (s : State) (b k : Nat) : (mapChannel s b 8 k).flag (EXP_MAP_ON_LAYBY (8 * b + k)) = true := by
  rw [mapChannel, State.flag_put_self _ _ _ (by simp only; omega)]; rfl

theorem EXP_MAP_injective {i j : Nat} (h : i ≠ j) : EXP_MAP i ≠ EXP_MAP j := by unfold EXP_MAP; omega

/-- Only the registers of the map change. -/
theorem reg_mapExpress (s : State) (b d a : Nat) (ha : a < EXP_MAP 0) : (s.mapExpress b d).reg a = s.reg a :=
  foldl_keeps (·.reg a) (fun u k => mapChannel u b d k) (fun u k => reg_mapChannel u b d k a (by unfold EXP_MAP at *; omega)) _ s

theorem get_mapExpress_block (s : State) (b d k : Nat) (hd : d < 16) (hk : k < 8) : (s.mapExpress b d).get (EXP_MAP_BLOCK (8 * b + k)) = d := by
  rw [mapExpress_eq]
  refine foldl_establishes (fun u : State => u.get (EXP_MAP_BLOCK (8 * b + k)) = d) _ k (fun u => get_mapChannel_block u b d k hd) (fun u j hu => ?_) _
    (List.mem_range.mpr hk) s
  by_cases hj : j = k
  · rw [hj]; exact get_mapChannel_block u b d k hd
  · rw [get_mapChannel_other _ _ _ _ _ (EXP_MAP_injective (by omega)), hu]

theorem flag_mapExpress_onLayby (s : State) (b k : Nat) (hk : k < 8) : (s.mapExpress b 8).flag (EXP_MAP_ON_LAYBY (8 * b + k)) = true := by
  rw [mapExpress_eq]
  refine foldl_establishes (fun u : State => u.flag (EXP_MAP_ON_LAYBY (8 * b + k)) = true) _ k (fun u => flag_mapChannel_onLayby u b k) (fun u j hu => ?_) _
    (List.mem_range.mpr hk) s
  by_cases hj : j = k
  · rw [hj]; exact flag_mapChannel_onLayby u b k
  · rw [State.flag, get_mapChannel_other _ _ _ _ _ (EXP_MAP_injective (by omega))]; exact hu

/-- A state without the channels of the express blocks. -/
def offChans (s : State) : State := { s with exp := { s.exp with chans := [] } }

theorem offChans_clearExpress (s : State) (b : Nat) : offChans (s.clearExpress b) = offChans s :=
  foldl_keeps offChans (fun s k => s.setExpChan (8 * b + k) { fade := some 0 }) (fun _ _ => rfl) _ s

theorem reg_clearExpress (s : State) (b a : Nat) : (s.clearExpress b).reg a = s.reg a := congrArg (·.reg a) (offChans_clearExpress s b)

theorem get_clearExpress (s : State) (b : Nat) (f : Fld) : (s.clearExpress b).get f = s.get f := congrArg (·.get f) (offChans_clearExpress s b)

theorem expChan_setExpChan_same (s : State) (c : Nat) (x : ExpChan) : (s.setExpChan c x).expChan c = x := Sparse.get_set_self _ _ _ _

theorem expChan_setExpChan_other (s : State) (c d : Nat) (x : ExpChan) (h : c ≠ d) : (s.setExpChan c x).expChan d = s.expChan d :=
  Sparse.get_set_other _ _ _ _ _ h

theorem expChan_clearExpress (s : State) (b k : Nat) (hk : k < 8) : (s.clearExpress b).expChan (8 * b + k) = { fade := some 0 } := by
  refine foldl_establishes (fun u : State => u.expChan (8 * b + k) = { fade := some 0 }) (fun s k => s.setExpChan (8 * b + k) { fade := some 0 }) k
    (fun u => expChan_setExpChan_same _ _ _) (fun u j hu => ?_) _ (List.mem_range.mpr hk) s
  by_cases hj : j = k
  · rw [hj]; exact expChan_setExpChan_same _ _ _
  · rw [expChan_setExpChan_other _ _ _ _ (by omega)]; exact hu

/-! ## The Layby block is taken (R195, R196) -/

/-- The Layby block is marked busy for block `b`. -/
def laybyTaken (s : State) (b : Nat) : State := (s.put EXP_STATUS_LAYBY_BUSY 1).put EXP_STATUS_LAYBY_FOR b

theorem laybyTaken_status (s : State) (b : Nat) (hb : b < 8) :
    (laybyTaken s b).flag EXP_STATUS_LAYBY_BUSY = true ∧ (laybyTaken s b).get EXP_STATUS_LAYBY_FOR = b := by
  refine ⟨?_, State.get_put_eq _ EXP_STATUS_LAYBY_FOR b (by decide) (by simp only; omega)⟩
  rw [State.flag, laybyTaken, State.get_put_apart _ EXP_STATUS_LAYBY_FOR EXP_STATUS_LAYBY_BUSY _ (by decide) (by decide),
    State.get_put_eq _ EXP_STATUS_LAYBY_BUSY 1 (by decide) (by decide)]
  rfl

theorem reg_laybyTaken (s : State) (b a : Nat) (ha : EXP_STATUS ≠ a) : (laybyTaken s b).reg a = s.reg a := by
  rw [laybyTaken, reg_put_other _ EXP_STATUS_LAYBY_FOR _ _ ha, reg_put_other _ EXP_STATUS_LAYBY_BUSY _ _ ha]

theorem get_laybyTaken_map (s : State) (b : Nat) (f : Fld) (hf : EXP_MAP 0 ≤ f.addr) : (laybyTaken s b).get f = s.get f := by
  rw [State.get, reg_laybyTaken _ _ _ (by unfold EXP_MAP EXP_STATUS at *; omega), State.get]

@[simp] theorem expChan_drivePins (s : State) (c : Nat) : s.drivePins.expChan c = s.expChan c := rfl

/-- A takeover by the Layby block: the channels' map, their state and the block's status, and the queue of failed blocks. -/
def takenOver (s : State) (b : Nat) : State := laybyTaken (((s.until (s.frameAfter s.time)).mapExpress b 8).clearExpress b) b

theorem laybyTakeover_eq (s : State) (b : Nat) : s.laybyTakeover b =
    { takenOver s b with exp := { (takenOver s b).exp with failed := (takenOver s b).exp.failed.filter (· ≠ b) } } := by
  unfold State.laybyTakeover takenOver laybyTaken
  rfl

theorem expChan_withFailed (s : State) (l : List Nat) (c : Nat) :
    ({ s with exp := { s.exp with failed := l } } : State).expChan c = s.expChan c := rfl

theorem get_withExp (s : State) (e : Express) (f : Fld) : ({ s with exp := e } : State).get f = s.get f := rfl

theorem get_laybyTakeover (s : State) (b : Nat) (f : Fld) : (s.laybyTakeover b).get f = (takenOver s b).get f := by
  rw [laybyTakeover_eq, get_withExp]

theorem expChan_laybyTaken (s : State) (b c : Nat) : (laybyTaken s b).expChan c = s.expChan c := by
  rw [State.expChan, laybyTaken, State.put_exp, State.put_exp, State.expChan]

theorem expChan_laybyTakeover (s : State) (b c : Nat) :
    (s.laybyTakeover b).expChan c = (((s.until (s.frameAfter s.time)).mapExpress b 8).clearExpress b).expChan c := by
  rw [laybyTakeover_eq, expChan_withFailed, takenOver, expChan_laybyTaken]

theorem not_failed_laybyTakeover (s : State) (b : Nat) : b ∉ (s.laybyTakeover b).exp.failed := by
  rw [laybyTakeover_eq]
  simp

theorem layby_takeover (s : State) (b : Fin 9) (hfirst : s.exp.failed.find? (fun b => decide (b < 8)) = some b.val) (hfree : s.laybyExpressFree = true) :
    Gives s .expressLaybyTakeover fun u =>
      u.flag EXP_STATUS_LAYBY_BUSY = true ∧ u.get EXP_STATUS_LAYBY_FOR = b ∧ b.val ∉ u.exp.failed ∧
      ∀ k < 8, u.get (EXP_MAP_BLOCK (8 * b + k)) = 8 ∧ u.flag (EXP_MAP_ON_LAYBY (8 * b + k)) = true ∧ u.expChan (8 * b + k) = { fade := some 0 } := by
  have hb : b.val < 8 := by simpa using List.find?_some hfirst
  have hexec : exec .expressLaybyTakeover s = .next (s.laybyTakeover b).drivePins := by
    rw [exec_expressLaybyTakeover, execExpressLaybyTakeover, hfirst]
    exact occurs_of _ _ _ hfree
  obtain ⟨hbusy, hfor⟩ := laybyTaken_status (((s.until (s.frameAfter s.time)).mapExpress b 8).clearExpress b) b hb
  have hmap : ∀ (f : Fld), EXP_MAP 0 ≤ f.addr → (s.laybyTakeover b).get f = ((s.until (s.frameAfter s.time)).mapExpress b 8).get f := fun f hf => by
    rw [get_laybyTakeover, takenOver, get_laybyTaken_map _ _ _ hf, get_clearExpress]
  refine ⟨_, hexec, ?_, ?_, not_failed_laybyTakeover s b, fun k hk => ⟨?_, ?_, ?_⟩⟩
  · rw [flag_drivePins, State.flag, get_laybyTakeover]; exact hbusy
  · rw [State.get_drivePins, get_laybyTakeover]; exact hfor
  · rw [State.get_drivePins, hmap _ (by simp only [EXP_MAP]; omega), get_mapExpress_block _ _ _ _ (by decide) hk]
  · rw [flag_drivePins, State.flag, hmap _ (by simp only [EXP_MAP]; omega)]; exact flag_mapExpress_onLayby _ _ _ hk
  · rw [expChan_drivePins, expChan_laybyTakeover, expChan_clearExpress _ _ _ hk]

/-! ## A planned move (R196, R199) -/

theorem regsOnly_of_offRegs {s u : State} (h : offRegs u = offRegs s) : Sys2Proof.Statements.RegsOnly s u.drivePins := by
  rw [Sys2Proof.Statements.RegsOnly, eq_of_offRegs h]; rfl

theorem express_move_armed (s : State) (m : BitVec 8) (lvl : BitVec 2) (v : Word) (hbed : Sys2Proof.Statements.Roadbed s m lvl)
    (hgo : v.getLsbD 31 = true) (hblock : v.toNat % 16 < 8) : Gives s (.expressMoveGo m lvl v) fun u =>
      u.flag EXP_MOVE_BUSY = true ∧ u.get EXP_MOVE_BLOCK = v.toNat % 16 ∧ u.get EXP_MOVE_RETURN = v.toNat / 16 % 2 ∧
      Sys2Proof.Statements.RegsOnly s u := by
  have hwrite : s.writeExpMove m.toNat lvl.toNat v =
      ((s.put EXP_MOVE_RETURN (v.toNat / 16 % 2)).put EXP_MOVE_BLOCK (v.toNat % 16)).put EXP_MOVE_BUSY 1 := by
    simp [State.writeExpMove, bySupervisor_roadbed hbed, hgo, hblock]
  refine ⟨_, (exec_expressMoveGo m lvl v s).trans (access_of _ _ hbed.1), ?_⟩
  rw [hwrite]
  refine ⟨?_, ?_, ?_, regsOnly_of_offRegs (by rw [offRegs_put, offRegs_put, offRegs_put])⟩
  · rw [flag_drivePins, State.flag_put_self _ _ _ (by decide)]; rfl
  · rw [State.get_drivePins, State.get_put_apart _ EXP_MOVE_BUSY EXP_MOVE_BLOCK _ (by decide) (by decide)]
    exact State.get_put_eq _ EXP_MOVE_BLOCK _ (by decide) (by simp only; omega)
  · rw [State.get_drivePins, State.get_put_apart _ EXP_MOVE_BUSY EXP_MOVE_RETURN _ (by decide) (by decide),
      State.get_put_apart _ EXP_MOVE_BLOCK EXP_MOVE_RETURN _ (by decide) (by decide)]
    exact State.get_put_eq _ EXP_MOVE_RETURN _ (by decide) (by simp only; omega)

theorem reg_returnExpress (s : State) (b a : Nat) (ha : EXP_VOTE b ≠ a) : (s.returnExpress b).reg a = s.reg a :=
  (reg_put_other (s.put (EXP_VOTE_MODE b) 0) (EXP_VOTE_ODD b) 0 a ha).trans (reg_put_other s (EXP_VOTE_MODE b) 0 a ha)

/-- A move that takes effect leaves nothing of EXP.MOVE changed but BUSY. -/
theorem reg_expressMove (s : State) : s.expressMove.reg EXP_MOVE = (s.put EXP_MOVE_BUSY 0).reg EXP_MOVE := by
  have hvote : ∀ b, EXP_VOTE b ≠ EXP_MOVE := fun b => by unfold EXP_VOTE EXP_MOVE; omega
  have hmap : ∀ (u : State) (b d : Nat), (u.mapExpress b d).reg EXP_MOVE = u.reg EXP_MOVE := fun u b d => reg_mapExpress u b d _ (by decide)
  have hstatus : ∀ (u : State) (v w : Nat), ((u.put EXP_STATUS_LAYBY_BUSY v).put EXP_STATUS_LAYBY_FOR w).reg EXP_MOVE = u.reg EXP_MOVE := fun u v w => by
    rw [reg_put_other _ EXP_STATUS_LAYBY_FOR _ _ (by decide), reg_put_other _ EXP_STATUS_LAYBY_BUSY _ _ (by decide)]
  unfold State.expressMove
  extract_lets b here t m
  split_ifs
  · rw [reg_returnExpress _ _ _ (hvote b), hstatus, hmap]
    simp only [m]
    split_ifs
    · exact reg_clearExpress _ _ _
    · rfl
  · rw [reg_returnExpress _ _ _ (hvote b), reg_clearExpress]
  · rfl
  · rw [hstatus, hmap]
  · rfl

theorem flag_return_put_busy (s : State) (v : Nat) : (s.put EXP_MOVE_BUSY v).flag EXP_MOVE_RETURN = s.flag EXP_MOVE_RETURN := by
  rw [State.flag, State.get_put_apart _ EXP_MOVE_BUSY EXP_MOVE_RETURN _ (by decide) (by decide), State.flag]

theorem laybyExpressFree_put_busy (s : State) (v : Nat) : (s.put EXP_MOVE_BUSY v).laybyExpressFree = s.laybyExpressFree := by
  rw [State.laybyExpressFree, State.flag, State.get_put_other _ EXP_MOVE_BUSY EXP_STATUS_LAYBY_BUSY _ (by decide), State.put_exp,
    State.laybyExpressFree, State.flag]

/-- A move to a free Layby block, of a block in service. -/
theorem expressMove_away (s : State) (hway : s.flag EXP_MOVE_RETURN = false) (hfree : s.laybyExpressFree = true)
    (hserves : s.get EXP_MOVE_BLOCK ∉ s.exp.out) :
    s.expressMove = laybyTaken ((s.put EXP_MOVE_BUSY 0).mapExpress (s.get EXP_MOVE_BLOCK) 8) (s.get EXP_MOVE_BLOCK) := by
  have hmoves : (s.laybyExpressFree && !s.exp.out.contains (s.get EXP_MOVE_BLOCK)) = true := by simpa [hfree] using hserves
  rw [State.expressMove]
  dsimp only
  rw [flag_return_put_busy, hway, if_neg Bool.false_ne_true, laybyExpressFree_put_busy, State.put_exp, if_pos hmoves, laybyTaken]

theorem express_move_takes_effect (s : State) (hbusy : s.flag EXP_MOVE_BUSY = true) (hdue : s.get64 EXP_MOVE_LO ≤ s.blockN)
    (hblock : s.get EXP_MOVE_BLOCK < 8) : Gives s .expressMoveTakeEffect fun u =>
      u.flag EXP_MOVE_BUSY = false ∧
      (s.flag EXP_MOVE_RETURN = false → s.laybyExpressFree = true → s.get EXP_MOVE_BLOCK ∉ s.exp.out →
        u.flag EXP_STATUS_LAYBY_BUSY = true ∧ u.get EXP_STATUS_LAYBY_FOR = s.get EXP_MOVE_BLOCK ∧
        ∀ k < 8, u.get (EXP_MAP_BLOCK (8 * s.get EXP_MOVE_BLOCK + k)) = 8) := by
  refine ⟨_, (exec_expressMoveTakeEffect s).trans (occurs_of _ _ _ (by simp [hbusy, hdue])), ?_, fun hway hfree hserves => ?_⟩
  · rw [flag_drivePins, State.flag, State.get, reg_expressMove, ← State.get, State.get_put_eq _ EXP_MOVE_BUSY 0 (by decide) (by decide)]
    rfl
  · rw [expressMove_away s hway hfree hserves]
    obtain ⟨hlayby, hfor⟩ := laybyTaken_status ((s.put EXP_MOVE_BUSY 0).mapExpress (s.get EXP_MOVE_BLOCK) 8) _ hblock
    rw [flag_drivePins, State.get_drivePins]
    refine ⟨hlayby, hfor, fun k hk => ?_⟩
    rw [State.get_drivePins, get_laybyTaken_map _ _ _ (by simp only [EXP_MAP]; omega), get_mapExpress_block _ _ _ _ (by decide) hk]

/-- Settles O36: a sample of a channel, the voter's resynchronisation, the takeover of a failed block and a planned move, each by its own lemma. -/
theorem expressBlocks : Obligations.ExpressBlocks := by
  intro s b m lvl v
  refine ⟨fun c p hprog hagree => ?_, fun hmode => ⟨express_resynchronised s b hmode, express_heldOut s b hmode⟩, layby_takeover s b,
    express_move_armed s m lvl v, express_move_takes_effect s⟩
  obtain ⟨u, hexec, hregs, hmem, hsilent, hsounds, hlate⟩ := express_sample s c p hprog hagree
  refine ⟨u, hexec, hregs, hmem, fun hdead => hsilent ((silenced_iff s _).mpr hdead), fun hlive hfade => hsounds ?_ hfade, hlate⟩
  exact Bool.eq_false_iff.mpr fun h => hlive ((silenced_iff s _).mp h)

end Sys2Proof.Proofs

namespace Sys2Proof.Proofs
open Sys2Proof.Machine Sys2Proof.Safety

/-! ## Keyed lists: what a key put finds -/

theorem find?_put {α : Type} (m : Sparse α) (k : Nat) (v : α) : (Sparse.put m k v).find? (fun e => e.1 = k) = some (k, v) := by
  induction m with
  | nil => simp [Sparse.put]
  | cons e m ih =>
    obtain ⟨j, w⟩ := e
    by_cases hlt : k < j
    · simp [Sparse.put, hlt]
    · by_cases hjk : j = k
      · simp [Sparse.put, hjk]
      · simp [Sparse.put, hlt, hjk, ih]

theorem txAt_setTx (s : State) (i : Nat) (x : TxStream) : (s.setTx i x).txAt i = some x := by
  rw [State.txAt, State.setTx]
  exact congrArg (Option.map Prod.snd) (find?_put _ i x)

theorem bufAt_put (b : Sparse Word) (n c : Nat) (v : Word) : bufAt (Sparse.put b (64 * n + c) v) n c = some v :=
  congrArg (Option.map Prod.snd) (find?_put b (64 * n + c) v)

theorem tdmPort_setTdm (s : State) (p : Nat) (x : TdmPort) : (s.setTdm p x).tdmPort p = x := Sparse.get_set_self _ _ _ _

theorem point_setPoint (s : State) (p : Nat) (v : Word) : Sys2Proof.Statements.Point (s.setPoint p v) p = v := Sparse.get_set_self _ _ _ _

/-! ## What moving a word leaves -/

/-- A state without Junction's rings and adapters, the destinations of its routes and the pins: what every delivery keeps. -/
def offJunction (s : State) : State :=
  { s with jct := {}, tdm := [], net := { s.net with tx := [] }, exp := { s.exp with inp := [] }, points := [], pins := {} }

theorem offJunction_drivePins (s : State) : offJunction s.drivePins = offJunction s := rfl

section
variable {s u : State} (h : offJunction u = offJunction s)
include h

theorem get_of_offJunction (f : Fld) : u.get f = s.get f := congrArg (·.get f) h

theorem flag_of_offJunction (f : Fld) : u.flag f = s.flag f := congrArg (·.flag f) h

theorem pair_of_offJunction (n : Nat) : u.pair n = s.pair n := congrArg (·.pair n) h

theorem fcu_of_offJunction : u.fcu = s.fcu := congrArg (·.fcu) h

theorem mem_of_offJunction : u.mem = s.mem := congrArg (·.mem) h

end

theorem offJunction_pushTap (s : State) (k : Nat) (v : Word) : offJunction (s.pushTap k v) = offJunction s := rfl

theorem offJunction_stageDown (s : State) (k : Nat) (v : Word) : offJunction (s.stageDown k v).1 = offJunction s := rfl

theorem offJunction_stageUp (s : State) (k : Nat) (v : Word) : offJunction (s.stageUp k v).1 = offJunction s := rfl

theorem offJunction_adapt (up : Bool) (n : Nat) : ∀ (s : State) (k : Nat) (vs : List Word), offJunction (s.adapt up n k vs).1 = offJunction s := by
  induction n with
  | zero => exact fun _ _ _ => rfl
  | succ n ih =>
    intro s k vs
    refine (ih _ _ _).trans (foldl_keeps (fun acc : State × List Word => offJunction acc.1) _ (fun acc v => ?_) vs (s, []))
    cases up
    · exact offJunction_stageDown acc.1 k v
    · exact offJunction_stageUp acc.1 k v

theorem offJunction_adaptRoute (s : State) (im : Image) (m : Move) (v : Word) : offJunction (s.adaptRoute im m v).1 = offJunction s := by
  unfold State.adaptRoute
  split
  · exact offJunction_adapt _ _ _ _ _
  · rfl

theorem offJunction_setTdm (s : State) (p : Nat) (x : TdmPort) : offJunction (s.setTdm p x) = offJunction s := rfl

theorem offJunction_setTx (s : State) (i : Nat) (x : TxStream) : offJunction (s.setTx i x) = offJunction s := rfl

theorem offJunction_setPoint (s : State) (p : Nat) (v : Word) : offJunction (s.setPoint p v) = offJunction s := rfl

theorem offJunction_withJct (s : State) (j : Junction) : offJunction { s with jct := j } = offJunction s := rfl

theorem offJunction_withInp (s : State) (i : Sparse Word) : offJunction { s with exp := { s.exp with inp := i } } = offJunction s := rfl

theorem offJunction_deliver (s : State) (im : Image) (r : Route) (k : Nat) (v : Word) : offJunction (s.deliver im r k v) = offJunction s := by
  rw [State.deliver]
  split
  · rfl
  · extract_lets ring rings t
    have ht : offJunction t = offJunction s := offJunction_withJct s _
    split
    · exact (offJunction_setTdm _ _ _).trans ht
    · split
      · exact (offJunction_setTx _ _ _).trans ht
      · exact ht
    · exact (offJunction_withInp _ _).trans ht
    · exact (offJunction_setPoint _ _ _).trans ht
    · exact ht

/-- The state in which a word with check `e` is delivered: what its check bits gave is counted and reported (R184). -/
def checked (s : State) (e : JctCheck) : State :=
  match e with
  | .good => s
  | .correctable => s.bump JCT_ECC_CE_COUNT
  | .uncorrectable => ((s.bump JCT_ECC_UE_COUNT).put JCT_STATUS_UE 1).drive 229

/-- One sample of a word is moved: adapted to the destination's rate, and each sample that gives delivered. -/
def moved (s : State) (x : Image × Move) (v : Word) : State :=
  (s.adaptRoute x.1 x.2 v).2.zipIdx.foldl (fun u w => u.deliver x.1 x.2.route ((s.adaptRoute x.1 x.2 v).2.length * x.2.j + w.2) w.1)
    (s.adaptRoute x.1 x.2 v).1

/-- The value a sample of a word is moved with. -/
def carried (s : State) (l : List (Image × Move)) (e : JctCheck) (x : Image × Move) : Word :=
  if e = .uncorrectable then s.lostSample x.2.route else s.moveValue l x

theorem junctionWord_eq (s : State) (l : List (Image × Move)) (e : JctCheck) :
    s.junctionWord l e = l.foldl (fun u x => moved u x (carried u l e x)) (checked s e) := by
  cases e <;> rfl

theorem offJunction_moved (s : State) (x : Image × Move) (v : Word) : offJunction (moved s x v) = offJunction s :=
  (foldl_keeps offJunction _ (fun _ _ => offJunction_deliver _ _ _ _ _) _ _).trans (offJunction_adaptRoute s x.1 x.2 v)

theorem offJunction_junctionWord (s : State) (l : List (Image × Move)) (e : JctCheck) :
    offJunction (s.junctionWord l e) = offJunction (checked s e) := by
  rw [junctionWord_eq]
  exact foldl_keeps offJunction _ (fun u x => offJunction_moved u x _) l _

theorem exec_junctionTransfer_moves {s : State} {p q : Fin 48} {w : BitVec 13} (hword : s.wordMoves p q w.toNat ≠ []) (hquiet : s.armed [4, 5] = false)
    (e : JctCheck) : exec (.junctionTransfer p q w e) s = .next (s.junctionWord (s.wordMoves p q w.toNat) e).drivePins := by
  have hinjected : s.jctInjected p q e = (s, e) := by rw [State.jctInjected, hquiet]; rfl
  rw [exec_junctionTransfer, execJunctionTransfer, hinjected]
  exact occurs_of _ _ _ (by simpa using hword)

/-! ## Check bits of a word (R184) -/

theorem checked_uncorrectable (s : State) :
    (checked s .uncorrectable).get JCT_ECC_UE_COUNT = min (s.get JCT_ECC_UE_COUNT + 1) 65535 ∧ (checked s .uncorrectable).flag JCT_STATUS_UE = true ∧
      ((checked s .uncorrectable).pair 229).todo.length = (s.pair 229).todo.length + 1 ∧ (checked s .uncorrectable).mem = s.mem := by
  refine ⟨?_, ?_, ?_, ?_⟩
  · rw [checked, State.get_drive, State.get_put_other _ _ _ _ (by decide)]
    exact get_bump s JCT_ECC_UE_COUNT (by decide)
  · rw [checked, State.flag_drive, State.flag_put_self _ _ _ (by decide)]; rfl
  · rw [checked, State.pair_drive _ _ _ (by decide), List.length_append, List.length_singleton, State.bump, pair_put, pair_put]
  · rw [checked, State.mem_drive, State.put_mem, State.mem_bump]

section
variable {s : State} {p q : Fin 48} {w : BitVec 13} (hword : s.wordMoves p q w.toNat ≠ []) (hquiet : s.armed [4, 5] = false)
include hword hquiet

/-- A word is delivered: outside Junction and the destinations the state is the one its check bits leave. -/
theorem gives_checked (e : JctCheck) (Q : State → Prop) (hQ : ∀ u, offJunction u = offJunction (checked s e) → Q u) :
    Gives s (.junctionTransfer p q w e) Q :=
  ⟨_, exec_junctionTransfer_moves hword hquiet e, hQ _ ((offJunction_drivePins _).trans (offJunction_junctionWord s _ e))⟩

theorem good_word : Gives s (.junctionTransfer p q w .good) fun u => u.regs = s.regs ∧ u.fcu = s.fcu ∧ u.mem = s.mem ∧ u.triads = s.triads :=
  gives_checked hword hquiet .good _ fun _ hu =>
    ⟨congrArg (·.regs) hu, fcu_of_offJunction hu, mem_of_offJunction hu, congrArg (·.triads) hu⟩

theorem corrected_word : Gives s (.junctionTransfer p q w .correctable) fun u =>
    u.get JCT_ECC_CE_COUNT = min (s.get JCT_ECC_CE_COUNT + 1) 65535 ∧ u.fcu = s.fcu ∧ u.mem = s.mem :=
  gives_checked hword hquiet .correctable _ fun _ hu =>
    ⟨(get_of_offJunction hu _).trans (get_bump s JCT_ECC_CE_COUNT (by decide)), (fcu_of_offJunction hu).trans rfl, (mem_of_offJunction hu).trans rfl⟩

theorem uncorrectable_word : Gives s (.junctionTransfer p q w .uncorrectable) fun u =>
    u.get JCT_ECC_UE_COUNT = min (s.get JCT_ECC_UE_COUNT + 1) 65535 ∧ u.flag JCT_STATUS_UE = true ∧
      (u.pair 229).todo.length = (s.pair 229).todo.length + 1 ∧ u.mem = s.mem := by
  refine gives_checked hword hquiet .uncorrectable _ fun u hu => ?_
  obtain ⟨hcount, hflag, hpair, hmem⟩ := checked_uncorrectable s
  rw [get_of_offJunction hu, flag_of_offJunction hu, pair_of_offJunction hu, mem_of_offJunction hu]
  exact ⟨hcount, hflag, hpair, hmem⟩

end

/-! ## A sample is delivered (R178, R482) -/

/-- A sample at a rate of the image's family reaches its destination. -/
theorem delivered_deliver (s : State) (im : Image) (m : Move) (v : Word) (hin : inFamily im (s.destRate im m.route) = true) :
    Sys2Proof.Statements.Delivered s im m v (s.deliver im m.route m.j v) := by
  have hout : ¬(!inFamily im (s.destRate im m.route)) = true := by rw [hin]; decide
  rw [State.deliver, if_neg hout]
  extract_lets ring rings t port start inp
  refine ⟨?ring, ?slot, ?transmit, ?express, ?point⟩
  case ring =>
    have hring : m.route.kind = 0 ∨ m.route.kind = 4 → Sparse.get (fun _ => []) t.jct.ring m.route.key = ring := fun hk => by
      simp only [t]
      rw [if_pos (by simpa using hk), Sparse.get_set_self]
    rintro (hk | hk)
    · simp only [hk]; exact hring (.inl hk)
    · simp only [hk]; exact hring (.inr hk)
  case slot =>
    intro hk
    simp only [hk]
    refine ⟨start, (Sparse.get (fun _ => []) port.out m.route.index).take 15, ?_, Nat.le_add_right s.frameStart _⟩
    rw [tdmPort_setTdm]
    exact (Sparse.get_put_self _ _ _ _).trans List.take_succ_cons
  case transmit =>
    intro hk x hx
    have hx' : t.txAt m.route.unit = some x := hx
    simp only [hk, hx']
    exact ⟨_, txAt_setTx _ _ _, bufAt_put _ _ _ _⟩
  case express =>
    intro hk
    simp only [hk]
    exact Sparse.get_put_self _ _ _ _
  case point =>
    intro hk
    simp only [hk]
    exact point_setPoint _ _ _

/-- Between equal rates a route has no adapter (R183). -/
theorem adaptRoute_sameRate {s : State} {im : Image} {m : Move} {a : Nat} (hsource : s.sourceRate im m.route.source = some a)
    (hdest : s.destRate im m.route = some a) (v : Word) : s.adaptRoute im m v = (s, [v]) := by
  have hsteps : ∀ x, rateSteps x x = 0 := fun x => by
    rw [rateSteps, max_self, min_self]
    rcases Nat.eq_zero_or_pos x with rfl | hx
    · decide
    · rw [max_eq_right hx, Nat.div_self hx]; decide
  rw [State.adaptRoute, hsource, hdest]
  dsimp only
  rw [hsteps, State.adapt]

/-- A word of one sample between equal rates: the sample is delivered in the state its check bits leave. -/
theorem junctionWord_one {s : State} {im : Image} {m : Move} {a : Nat} {e : JctCheck} (hsource : (checked s e).sourceRate im m.route.source = some a)
    (hdest : (checked s e).destRate im m.route = some a) :
    s.junctionWord [(im, m)] e = (checked s e).deliver im m.route m.j (carried (checked s e) [(im, m)] e (im, m)) := by
  rw [junctionWord_eq, List.foldl_cons, List.foldl_nil, moved, adaptRoute_sameRate hsource hdest]
  simp

/-! ## The word of one sample -/

section
variable {s u : State} (hnet : u.net = s.net) (htdm : ∀ k, u.reg (TDM_FORMAT k) = s.reg (TDM_FORMAT k))

include htdm in
theorem get_tdmRate_of_ports (k : Nat) : u.get (TDM_FORMAT_RATE k) = s.get (TDM_FORMAT_RATE k) := by
  rw [State.get, htdm, State.get]

include htdm in
theorem tdmSlot_of_ports (k i : Nat) : u.tdmSlot k i = s.tdmSlot k i := by
  rw [State.tdmSlot, State.flag, State.get, State.get, htdm]
  rfl

include hnet in
theorem rxHolding_of_ports (c : Nat) : u.rxHolding c = s.rxHolding c := by
  rw [State.rxHolding, hnet, State.rxHolding]

include hnet htdm

/-- The rate of a source is its stream's, its port's or its image's. -/
theorem sourceRate_of_ports (im : Image) (p : Nat) : u.sourceRate im p = s.sourceRate im p := by
  rw [State.sourceRate, rxHolding_of_ports hnet, tdmSlot_of_ports htdm, get_tdmRate_of_ports htdm, State.sourceRate]

theorem destRate_of_ports (im : Image) (r : Route) : u.destRate im r = s.destRate im r := by
  rw [State.destRate, hnet, tdmSlot_of_ports htdm, get_tdmRate_of_ports htdm, State.destRate]

end

theorem tdmFormat_checked (s : State) (k : Nat) : (checked s .uncorrectable).reg (TDM_FORMAT k) = s.reg (TDM_FORMAT k) := by
  have hecc : JCT_ECC_UE_COUNT.addr ≠ TDM_FORMAT k := by show JCT_ECC ≠ TDM_FORMAT k; unfold JCT_ECC TDM_FORMAT; omega
  have hstatus : JCT_STATUS_UE.addr ≠ TDM_FORMAT k := by show JCT_STATUS ≠ TDM_FORMAT k; unfold JCT_STATUS TDM_FORMAT; omega
  rw [checked, State.reg_drive, reg_put_other _ _ _ _ hstatus, State.bump, reg_put_other _ _ _ _ hecc]

theorem net_drive (s : State) (n : Nat) (r : Raise) : (s.drive n r).net = s.net := by rw [State.drive_fcu]

theorem time_drive (s : State) (n : Nat) (r : Raise) : (s.drive n r).time = s.time := by rw [State.drive_fcu]

theorem net_checked (s : State) : (checked s .uncorrectable).net = s.net := by
  rw [checked, net_drive, State.put_net, State.bump, State.put_net]

theorem frameStart_checked (s : State) : (checked s .uncorrectable).frameStart = s.frameStart := by
  have heng : (checked s .uncorrectable).eng = s.eng := by rw [checked, State.eng_drive, State.put_eng, State.bump, State.put_eng]
  have htime : (checked s .uncorrectable).time = s.time := by rw [checked, time_drive, State.put_time, State.bump, State.put_time]
  simp only [State.frameStart, State.frameTime, heng, htime]

theorem inFamily_some (im : Image) (a : Nat) : inFamily im (some a) = decide (family a = family im.rate) := rfl

section
variable {s : State} {p q : Fin 48} {w : BitVec 13} {im : Image} {m : Move} {a : Nat} (hword : s.wordMoves p q w.toNat = [(im, m)])
  (hquiet : s.armed [4, 5] = false) (hsource : s.sourceRate im m.route.source = some a) (hdest : s.destRate im m.route = some a)
include hword hquiet hsource hdest

theorem exec_one_good : exec (.junctionTransfer p q w .good) s =
    .next (s.deliver im m.route m.j (s.moveValue [(im, m)] (im, m))).drivePins := by
  rw [exec_junctionTransfer_moves (by rw [hword]; exact List.cons_ne_nil _ _) hquiet, hword, junctionWord_one (e := .good) hsource hdest]
  rfl

theorem one_good_delivered (hfamily : family a = family im.rate) :
    Gives s (.junctionTransfer p q w .good) (Sys2Proof.Statements.Delivered s im m (s.moveValue [(im, m)] (im, m))) :=
  ⟨_, exec_one_good hword hquiet hsource hdest,
    delivered_deliver s im m _ (by rw [hdest, inFamily_some]; exact decide_eq_true hfamily)⟩

/-- A sample of another family's rate is dropped (R483). -/
theorem one_good_dropped (hfamily : family a ≠ family im.rate) :
    Gives s (.junctionTransfer p q w .good) fun u => u = { s with pins := u.pins } := by
  refine ⟨_, exec_one_good hword hquiet hsource hdest, ?_⟩
  rw [State.deliver, if_pos (by rw [hdest, inFamily_some, decide_eq_false hfamily]; rfl)]
  rfl

/-- An output slot takes 0 for a sample of a discarded word (R184). -/
theorem one_lost_delivered (hfamily : family a = family im.rate) (hkind : m.route.kind = 1) :
    Gives s (.junctionTransfer p q w .uncorrectable) (Sys2Proof.Statements.Delivered s im m 0) := by
  have hnet := net_checked s
  have hstart := frameStart_checked s
  have htdm := tdmFormat_checked s
  have hexec : exec (.junctionTransfer p q w .uncorrectable) s = .next (s.junctionWord [(im, m)] .uncorrectable).drivePins := by
    rw [exec_junctionTransfer_moves (by rw [hword]; exact List.cons_ne_nil _ _) hquiet, hword]
  have hlost : ∀ u : State, carried u [(im, m)] .uncorrectable (im, m) = 0 := fun u => by
    rw [carried, if_pos rfl, State.lostSample, if_neg (by simp [hkind])]
  have hone := junctionWord_one (s := s) (e := .uncorrectable) (im := im) (m := m) (a := a)
  generalize checked s .uncorrectable = c at hnet hstart htdm hone
  have hdest' := (destRate_of_ports hnet htdm im m.route).trans hdest
  obtain ⟨-, hslot, -⟩ := delivered_deliver c im m 0 (by rw [hdest', inFamily_some]; exact decide_eq_true hfamily)
  refine ⟨_, hexec, ?_⟩
  rw [hone ((sourceRate_of_ports hnet htdm im _).trans hsource) hdest', hlost]
  rw [hstart] at hslot
  exact ⟨fun h => by omega, hslot, fun h => by omega, fun h => by omega, fun h => by omega⟩

end

/-- Settles O47: a word's check bits, the word of one sample between equal rates, and a word of nothing, each by its own lemma. -/
theorem junctionMovesWords : Obligations.JunctionMovesWords := by
  intro s p q w im m a
  refine ⟨fun hword hquiet => ⟨good_word hword hquiet, corrected_word hword hquiet, uncorrectable_word hword hquiet⟩,
    fun hword hquiet hsource hdest => ⟨one_good_delivered hword hquiet hsource hdest, one_lost_delivered hword hquiet hsource hdest,
      one_good_dropped hword hquiet hsource hdest⟩, fun hnone => ?_⟩
  rw [Ignored, exec_junctionTransfer, execJunctionTransfer, hnone]
  exact occurs_false _ _

end Sys2Proof.Proofs

namespace Sys2Proof.Proofs
open Sys2Proof.Machine Sys2Proof.Safety

/-! ## Changes of some registers alone -/

/-- `u` is `s` but for registers that `p` names. -/
structure RegsAt (p : Nat → Prop) (s u : State) : Prop where
  off : offRegs u = offRegs s
  reg : ∀ a, ¬p a → u.reg a = s.reg a

theorem RegsAt.refl (p : Nat → Prop) (s : State) : RegsAt p s s := ⟨rfl, fun _ _ => rfl⟩

theorem RegsAt.mono {p p' : Nat → Prop} {s u : State} (h : RegsAt p s u) (hp : ∀ a, p a → p' a) : RegsAt p' s u :=
  ⟨h.off, fun a ha => h.reg a fun hpa => ha (hp a hpa)⟩

theorem RegsAt.trans {p : Nat → Prop} {s u v : State} (h : RegsAt p s u) (g : RegsAt p u v) : RegsAt p s v :=
  ⟨g.off.trans h.off, fun a ha => (g.reg a ha).trans (h.reg a ha)⟩

theorem regsAt_setReg {p : Nat → Prop} (s : State) {a : Nat} (w : Word) (h : p a) : RegsAt p s (s.setReg a w) :=
  ⟨rfl, fun _ hb => State.reg_setReg_other _ _ _ _ fun e => hb (e ▸ h)⟩

theorem regsAt_put {p : Nat → Prop} (s : State) {f : Fld} (v : Nat) (h : p f.addr) : RegsAt p s (s.put f v) := regsAt_setReg s _ h

theorem regsAt_put64 {p : Nat → Prop} (s : State) {lo : Nat} (v : Nat) (h : p lo) (h' : p (lo + 4)) : RegsAt p s (s.put64 lo v) :=
  (regsAt_setReg s _ h).trans (regsAt_setReg _ _ h')

theorem regsAt_bump {p : Nat → Prop} (s : State) {f : Fld} (h : p f.addr) : RegsAt p s (s.bump f) := regsAt_put s _ h

theorem regsAt_pulse {p : Nat → Prop} (s : State) {e : Nat} (h : p (EVR_PEND (e / 32))) : RegsAt p s (s.pulse e) :=
  ⟨offRegs_pulse s e, fun a ha => State.reg_pulse_other s e a fun he => ha (he ▸ h)⟩

theorem RegsAt.get {p : Nat → Prop} {s u : State} (h : RegsAt p s u) {f : Fld} (hf : ¬p f.addr) : u.get f = s.get f := by
  rw [State.get, h.reg _ hf, State.get]

theorem RegsAt.flag {p : Nat → Prop} {s u : State} (h : RegsAt p s u) {f : Fld} (hf : ¬p f.addr) : u.flag f = s.flag f := by
  rw [State.flag, h.get hf, State.flag]

theorem RegsAt.net {p : Nat → Prop} {s u : State} (h : RegsAt p s u) : u.net = s.net := congrArg (·.net) h.off

theorem RegsAt.tg {p : Nat → Prop} {s u : State} (h : RegsAt p s u) : u.tg = s.tg := congrArg (·.tg) h.off

theorem RegsAt.time {p : Nat → Prop} {s u : State} (h : RegsAt p s u) : u.time = s.time := congrArg (·.time) h.off

theorem RegsAt.pair {p : Nat → Prop} {s u : State} (h : RegsAt p s u) (n : Nat) : u.pair n = s.pair n := congrArg (·.pair n) h.off

theorem RegsAt.mem {p : Nat → Prop} {s u : State} (h : RegsAt p s u) : u.mem = s.mem := congrArg (·.mem) h.off

theorem RegsAt.points {p : Nat → Prop} {s u : State} (h : RegsAt p s u) : u.points = s.points := congrArg (·.points) h.off

theorem RegsAt.eq {p : Nat → Prop} {s u : State} (h : RegsAt p s u) : u = { s with regs := u.regs } := eq_of_offRegs h.off

/-! ## Counters -/

theorem get_bump_other (s : State) (f g : Fld) (h : f.addr ≠ g.addr) : (s.bump f).get g = s.get g := State.get_put_other _ _ _ _ h

/-- A counter that wraps, read back after it counted. -/
theorem get_count (s : State) (f : Fld) (h : f.lo + f.width ≤ 32) : (s.count f).get f = (s.get f + 1) % 2 ^ f.width :=
  State.get_put_self s f _ h

theorem get_lt (s : State) (f : Fld) : s.get f < 2 ^ f.width := Nat.mod_lt _ (by positivity)

/-! ## Frames on a network port (R201, R208, R223) -/

theorem regsAt_countFec (s : State) (k : Nat) (fec : FecResult) : RegsAt (· = NP_FEC k) s (s.countFec k fec) := by
  unfold State.countFec
  split
  · exact .refl _ s
  · cases fec
    · exact .refl _ s
    · exact regsAt_bump s rfl
    · exact regsAt_bump s rfl

section
variable {s : State} {k : Fin 4} {bs : ByteList} {fec : FecResult}

theorem exec_frameReceive_up (hup : s.portUp k = true) (chk : FrameCheck) : exec (.frameReceive k chk bs) s =
    .next ((s.countFec k chk.fec).receiveFrame k
      (chk.fcs && !decide (chk.fec = .uncorrectable ∧ s.get (NP_CTRL_SPEED k) = 1)) bs).drivePins := by
  rw [exec_frameReceive]
  exact occurs_of _ _ _ hup

/-- A frame whose codewords and FCS pass is received. -/
theorem exec_frameReceive_whole (hup : s.portUp k = true) (hwhole : Statements.Whole s k fec) :
    exec (.frameReceive k ⟨fec, true⟩ bs) s = .next ((s.countFec k fec).receiveFrame k true bs).drivePins := by
  have hpass : decide (fec = .uncorrectable ∧ s.get (NP_CTRL_SPEED k) = 1) = false := decide_eq_false fun h => hwhole h.1 h.2
  rw [exec_frameReceive_up hup, hpass]; rfl

theorem receiveFrame_failed (s : State) (k : Nat) (bs : ByteList) : s.receiveFrame k false bs = s.bump (NP_ERR_L2_FCS k) := rfl

theorem fcs_counted (s : State) (k : Fin 4) (fec : FecResult) : ((s.countFec k fec).bump (NP_ERR_L2_FCS k)).get (NP_ERR_L2_FCS k) =
    min (s.get (NP_ERR_L2_FCS k) + 1) 65535 := by
  rw [← (regsAt_countFec s k fec).get (f := NP_ERR_L2_FCS k) (by simp)]
  exact get_bump _ (NP_ERR_L2_FCS k) (by simp)

/-- A frame whose FCS fails is counted, and nothing else. -/
theorem frame_failed (hup : s.portUp k = true) : Gives s (.frameReceive k ⟨fec, false⟩ bs) fun u =>
    u.get (NP_ERR_L2_FCS k) = min (s.get (NP_ERR_L2_FCS k) + 1) 65535 ∧ Statements.RegsOnly s u ∧
      u.get (NP_RX_FRAMES_COUNT k) = s.get (NP_RX_FRAMES_COUNT k) := by
  have hfec := regsAt_countFec s k fec
  refine ⟨_, exec_frameReceive_up hup _, fcs_counted s k fec, regsOnly_of_offRegs hfec.off, ?_⟩
  rw [Bool.false_and, receiveFrame_failed, State.get_drivePins, get_bump_other _ _ _ (by simp)]
  exact hfec.get (f := NP_RX_FRAMES_COUNT k) (by simp)

/-- At 25 Gb/s a frame in a codeword that RS-FEC could not correct fails its FCS. -/
theorem frame_uncorrectable (hup : s.portUp k = true) (hspeed : s.get (NP_CTRL_SPEED k) = 1) :
    Gives s (.frameReceive k ⟨.uncorrectable, true⟩ bs) fun u => u.get (NP_FEC_UNCORR k) = min (s.get (NP_FEC_UNCORR k) + 1) 65535 ∧
      u.get (NP_ERR_L2_FCS k) = min (s.get (NP_ERR_L2_FCS k) + 1) 65535 ∧ Statements.RegsOnly s u := by
  have hfail : decide (FecResult.uncorrectable = .uncorrectable ∧ s.get (NP_CTRL_SPEED k) = 1) = true := decide_eq_true ⟨rfl, hspeed⟩
  have hcount : s.countFec k .uncorrectable = s.bump (NP_FEC_UNCORR k) := by rw [State.countFec, if_neg (not_not.mpr hspeed)]
  refine ⟨_, exec_frameReceive_up hup _, ?_⟩
  rw [hfail]
  refine ⟨?_, fcs_counted s k .uncorrectable, regsOnly_of_offRegs (regsAt_countFec s k .uncorrectable).off⟩
  rw [Bool.not_true, Bool.and_false, receiveFrame_failed, State.get_drivePins, get_bump_other _ _ _ (by simp), hcount]
  exact get_bump s (NP_FEC_UNCORR k) (by simp)

theorem frame_corrected (hup : s.portUp k = true) (hspeed : s.get (NP_CTRL_SPEED k) = 1) : Gives s (.frameReceive k ⟨.corrected, false⟩ bs) fun u =>
    u.get (NP_FEC_CORR k) = min (s.get (NP_FEC_CORR k) + 1) 65535 ∧ Statements.RegsOnly s u := by
  have hcount : s.countFec k .corrected = s.bump (NP_FEC_CORR k) := by rw [State.countFec, if_neg (not_not.mpr hspeed)]
  refine ⟨_, exec_frameReceive_up hup _, ?_, regsOnly_of_offRegs (regsAt_countFec s k .corrected).off⟩
  rw [Bool.false_and, receiveFrame_failed, State.get_drivePins, get_bump_other _ _ _ (by simp), hcount]
  exact get_bump s (NP_FEC_CORR k) (by simp)

theorem matchStream_of_net {u s : State} (h : u.net = s.net) (k src dst port : Nat) : u.matchStream k src dst port = s.matchStream k src dst port := by
  rw [State.matchStream, h, State.matchStream]

/-- What counts a frame that is turned away: a field of 16 bits, beside the count of frames. -/
theorem turnedAway_counter {c : FrameClass} {f : Fld} (h : Statements.TurnedAway s k c f) :
    f.lo + f.width ≤ 32 ∧ f.width = 16 ∧ f.addr ≠ NP_FEC k ∧ f.addr ≠ NP_RX_FRAMES k := by
  obtain ⟨-, rfl⟩ | ⟨-, rfl⟩ | ⟨-, rfl⟩ | ⟨-, rfl⟩ | ⟨-, rfl⟩ := h <;> simp

/-- A frame that is turned away is counted, after the count of frames unless its size is wrong. -/
theorem receiveFrame_turnedAway {c : FrameClass} {f : Fld} (hc : classifyFrame (s.get (NP_CTRL_VID k)) bs = c) (h : Statements.TurnedAway s k c f) :
    s.receiveFrame k true bs = (if c = .size then s else s.count (NP_RX_FRAMES_COUNT k)).bump f := by
  rw [State.receiveFrame, hc]
  obtain ⟨rfl, rfl⟩ | ⟨rfl, rfl⟩ | ⟨rfl, rfl⟩ | ⟨rfl, rfl⟩ | ⟨⟨src, dst, port, good, pay, rfl, hnone⟩, rfl⟩ := h
  · rfl
  · rfl
  · rfl
  · rfl
  · have hcount : (s.count (NP_RX_FRAMES_COUNT k)).matchStream k src dst port = none := hnone
    simp only [Bool.not_true, Bool.false_eq_true, if_false, reduceCtorEq, hcount]

theorem frame_turnedAway {f : Fld} (hup : s.portUp k = true) (hwhole : Statements.Whole s k fec)
    (haway : Statements.TurnedAway s k (classifyFrame (s.get (NP_CTRL_VID k)) bs) f) : Gives s (.frameReceive k ⟨fec, true⟩ bs) fun u =>
      u.get f = min (s.get f + 1) 65535 ∧ Statements.RegsOnly s u ∧ u.get (NP_RX_FRAMES_COUNT k) =
        (s.get (NP_RX_FRAMES_COUNT k) + if classifyFrame (s.get (NP_CTRL_VID k)) bs = .size then 0 else 1) % 2 ^ 32 := by
  obtain ⟨hfits, hwidth, hfec, hframes⟩ := turnedAway_counter haway
  have hcount := regsAt_countFec s k fec
  refine ⟨_, exec_frameReceive_whole hup hwhole, ?_⟩
  generalize hv : s.countFec k fec = v at hcount
  have hvid : v.get (NP_CTRL_VID k) = s.get (NP_CTRL_VID k) := hcount.get (f := NP_CTRL_VID k) (by simp)
  have hframesV : v.get (NP_RX_FRAMES_COUNT k) = s.get (NP_RX_FRAMES_COUNT k) := hcount.get (f := NP_RX_FRAMES_COUNT k) (by simp)
  generalize hc : classifyFrame (s.get (NP_CTRL_VID k)) bs = c at haway
  have haway' : Statements.TurnedAway v k c f := by
    simpa only [Statements.TurnedAway, matchStream_of_net hcount.net] using haway
  rw [receiveFrame_turnedAway (by rw [hvid, hc]) haway']
  split_ifs with hsize
  · refine ⟨?_, regsOnly_of_offRegs hcount.off, ?_⟩
    · rw [State.get_drivePins, get_bump _ _ hfits, hcount.get hfec, hwidth]; rfl
    · rw [State.get_drivePins, get_bump_other _ _ _ hframes, hframesV]
      exact (Nat.mod_eq_of_lt (get_lt s (NP_RX_FRAMES_COUNT k))).symm
  · refine ⟨?_, regsOnly_of_offRegs hcount.off, ?_⟩
    · rw [State.get_drivePins, get_bump _ _ hfits, State.count, State.get_put_other _ _ _ _ hframes.symm, hcount.get hfec, hwidth]; rfl
    · rw [State.get_drivePins, get_bump_other _ _ _ hframes, get_count _ _ (by simp), hframesV]

end

end Sys2Proof.Proofs

namespace Sys2Proof.Proofs
open Sys2Proof.Machine Sys2Proof.Safety

/-! ## Words of memory -/

/-- Four-byte words written one after the other, word `c` at `addr c`. -/
def wordsWritten (s : State) (addr : Nat → Nat) (v : Nat → Word) (n : Nat) : State :=
  (List.range n).foldl (fun s c => s.setBytes (addr c) (leBytes 4 (v c).toNat)) s

theorem wordsWritten_succ (s : State) (addr : Nat → Nat) (v : Nat → Word) (n : Nat) :
    wordsWritten s addr v (n + 1) = (wordsWritten s addr v n).setBytes (addr n) (leBytes 4 (v n).toNat) := by
  rw [wordsWritten, List.range_succ, List.foldl_append]; rfl

theorem wordsWritten_eq (s : State) (addr : Nat → Nat) (v : Nat → Word) (n : Nat) :
    wordsWritten s addr v n = { s with mem := (wordsWritten s addr v n).mem } := by
  induction n with
  | zero => rfl
  | succ n ih => rw [wordsWritten_succ, setBytes_eq, ih]

theorem byte_wordsWritten (s : State) {addr : Nat → Nat} (v : Nat → Word) {n a : Nat} (h : ∀ c < n, a < addr c ∨ addr c + 4 ≤ a) :
    (wordsWritten s addr v n).byte a = s.byte a := by
  induction n with
  | zero => rfl
  | succ n ih =>
    rw [wordsWritten_succ, byte_setBytes_outside _ _ _ _ (by rw [length_leBytes]; exact h n (Nat.lt_succ_self n))]
    exact ih fun c hc => h c (by omega)

theorem le_of_byte {s u : State} {a n : Nat} (h : ∀ x, a ≤ x → x < a + n → u.byte x = s.byte x) : u.le a n = s.le a n := by
  rw [State.le, State.le, State.bytes, State.bytes]
  exact congrArg leVal (List.map_congr_left fun i hi => h _ (by omega) (by have := List.mem_range.mp hi; omega))

/-- A word that lies apart from those written reads as before. -/
theorem le_wordsWritten_apart (s : State) {addr : Nat → Nat} (v : Nat → Word) {n a : Nat} (h : ∀ c < n, a + 4 ≤ addr c ∨ addr c + 4 ≤ a) :
    (wordsWritten s addr v n).le a 4 = s.le a 4 :=
  le_of_byte fun x hlo hhi => byte_wordsWritten s v fun c hc => by have := h c hc; omega

/-- A word written reads back, where the words lie apart. -/
theorem le_wordsWritten_same (s : State) {addr : Nat → Nat} (v : Nat → Word) {n : Nat}
    (happart : ∀ c d, c < n → d < n → c ≠ d → addr c + 4 ≤ addr d ∨ addr d + 4 ≤ addr c) {c : Nat} (hc : c < n) :
    BitVec.ofNat 32 ((wordsWritten s addr v n).le (addr c) 4) = v c := by
  induction n with
  | zero => omega
  | succ n ih =>
    rw [wordsWritten_succ]
    by_cases hcn : c = n
    · have hread : ((wordsWritten s addr v n).setBytes (addr n) (leBytes 4 (v n).toNat)).bytes (addr n) 4 = leBytes 4 (v n).toNat := by
        simpa only [length_leBytes] using bytes_setBytes_same (wordsWritten s addr v n) (addr n) (leBytes 4 (v n).toNat)
      rw [hcn, State.le, hread, leVal_leBytes, Nat.mod_eq_of_lt (v n).isLt, BitVec.ofNat_toNat, BitVec.setWidth_eq]
    · have hkeep := happart c n hc (Nat.lt_succ_self n) hcn
      rw [le_of_byte (s := wordsWritten s addr v n) fun x hlo hhi => byte_setBytes_outside _ _ _ _ (by rw [length_leBytes]; omega)]
      exact ih (fun i j hi hj => happart i j (by omega) (by omega)) (by omega)

/-! ## The jitter buffer (R209 to R211) -/

/-- Two words of the buffer whose samples lie less than its depth apart have their own four bytes. -/
theorem jitterAddr_apart (s : State) (r : RxStream) {n i j c d : Nat} (hi : i < 2 ^ r.depthLog) (hj : j < 2 ^ r.depthLog) (h : (i, c) ≠ (j, d)) :
    s.jitterAddr r (n + i) c + 4 ≤ s.jitterAddr r (n + j) d ∨ s.jitterAddr r (n + j) d + 4 ≤ s.jitterAddr r (n + i) c := by
  have hslot : c * 2 ^ r.depthLog + (n + i) % 2 ^ r.depthLog ≠ d * 2 ^ r.depthLog + (n + j) % 2 ^ r.depthLog := by
    intro heq
    have hpos : 0 < 2 ^ r.depthLog := by positivity
    have hmod := congrArg (· % 2 ^ r.depthLog) heq
    have hdiv := congrArg (· / 2 ^ r.depthLog) heq
    simp only [Nat.mod_mod, Nat.mul_comm _ (2 ^ r.depthLog), Nat.mul_add_div hpos,
      Nat.div_eq_of_lt (Nat.mod_lt _ hpos), Nat.mul_add_mod] at hmod hdiv
    have hij : i % 2 ^ r.depthLog = j % 2 ^ r.depthLog := Nat.ModEq.add_left_cancel' n hmod
    rw [Nat.mod_eq_of_lt hi, Nat.mod_eq_of_lt hj] at hij
    exact h (Prod.ext hij (by omega))
  rw [State.jitterAddr, State.jitterAddr]
  omega

theorem jitterAddr_of_regs {s u : State} (h : u.regs = s.regs) (r : RxStream) (n c : Nat) : u.jitterAddr r n c = s.jitterAddr r n c := by
  simp only [State.jitterAddr, State.get, State.reg, h]

theorem jitterWord_of_mem {s u : State} {q r : RxStream} (hmem : u.mem = s.mem) (hbuf : u.get NPE_JBUF_BASE = s.get NPE_JBUF_BASE)
    (hbase : q.base = r.base) (hdepth : q.depthLog = r.depthLog) (n c : Nat) : u.jitterWord q n c = s.jitterWord r n c := by
  rw [State.jitterWord, State.jitterWord, State.jitterAddr, State.jitterAddr, hbuf, hbase, hdepth,
    le_of_byte fun x _ _ => byte_of_mem hmem x]

/-- A sample the stream does not hold enters its words. -/
theorem placeSample_new (s : State) {r : RxStream} {n j : Nat} (pay : List Byte) (h : n + j ∉ r.held) :
    s.placeSample r n pay j = (wordsWritten s (s.jitterAddr r (n + j)) (fun c => payloadSample r pay c j) r.channels,
      { r with held := (n + j) :: r.held }, false) := by
  have hfold : ∀ C, (List.range C).foldl (fun s c => s.setBytes (s.jitterAddr r (n + j) c) (leBytes 4 (payloadSample r pay c j).toNat)) s =
      wordsWritten s (s.jitterAddr r (n + j)) (fun c => payloadSample r pay c j) C := fun C => by
    induction C with
    | zero => simp only [wordsWritten, List.range_zero, List.foldl_nil]
    | succ C ih =>
      have haddr : (wordsWritten s (s.jitterAddr r (n + j)) (fun c => payloadSample r pay c j) C).jitterAddr r (n + j) C = s.jitterAddr r (n + j) C :=
        jitterAddr_of_regs (by rw [wordsWritten_eq]) r _ C
      rw [List.range_succ, List.foldl_append, ih, wordsWritten_succ, List.foldl_cons, List.foldl_nil, haddr]
  have hheld : r.held.contains (n + j) = false := by simpa using h
  simp only [State.placeSample, hheld, Bool.false_eq_true, if_false, hfold]

theorem placeSample_held (s : State) {r : RxStream} {n j : Nat} (pay : List Byte) (h : n + j ∈ r.held) :
    (s.placeSample r n pay j).1 = s ∧ (s.placeSample r n pay j).2.1 = r := by
  rw [State.placeSample, if_pos (by simpa using h)]
  exact ⟨rfl, rfl⟩

/-- What placing the first `m` samples of a packet leaves: the samples the stream held keep their words, the others have entered theirs. -/
structure PlacedUpTo (s : State) (r : RxStream) (n : Nat) (pay : List Byte) (m : Nat) (t : State) (q : RxStream) : Prop where
  state : t = { s with mem := t.mem }
  stream : q = { r with held := q.held }
  held : ∀ i, i ∈ q.held ↔ i ∈ r.held ∨ n ≤ i ∧ i < n + m
  word : ∀ x < fmtP r.format, ∀ ch < r.channels, t.jitterWord r (n + x) ch =
    if n + x ∈ r.held ∨ m ≤ x then s.jitterWord r (n + x) ch else payloadSample r pay ch x
  outside : ∀ a, (∀ x < fmtP r.format, ∀ ch < r.channels, a < s.jitterAddr r (n + x) ch ∨ s.jitterAddr r (n + x) ch + 4 ≤ a) → t.byte a = s.byte a

theorem placedUpTo_zero (s : State) (r : RxStream) (n : Nat) (pay : List Byte) : PlacedUpTo s r n pay 0 s r :=
  ⟨rfl, rfl, fun i => by grind, fun x _ ch _ => by rw [if_pos (Or.inr (Nat.zero_le x))], fun _ _ => rfl⟩

section
variable {s t : State} {r q : RxStream} {n m : Nat} {pay : List Byte} (h : PlacedUpTo s r n pay m t q)
include h

theorem PlacedUpTo.addr (i c : Nat) : t.jitterAddr q i c = s.jitterAddr r i c := by rw [h.state, h.stream]; rfl

theorem PlacedUpTo.sample (c j : Nat) : payloadSample q pay c j = payloadSample r pay c j := by rw [h.stream]; rfl

theorem PlacedUpTo.channels : q.channels = r.channels := by rw [h.stream]

theorem PlacedUpTo.heldNext : n + m ∈ q.held ↔ n + m ∈ r.held := by rw [h.held]; grind

/-- The next sample of the packet is one the stream held. -/
theorem placedUpTo_held (hhas : n + m ∈ q.held) : PlacedUpTo s r n pay (m + 1) t q := by
  have hr := h.heldNext.mp hhas
  refine ⟨h.state, h.stream, fun i => ?_, fun x hx ch hch => ?_, h.outside⟩
  · rw [h.held]
    grind
  · rw [h.word x hx ch hch]
    by_cases hxm : x = m
    · rw [if_pos (Or.inl (hxm ▸ hr)), if_pos (Or.inl (hxm ▸ hr))]
    · exact if_congr (or_congr_right (by omega)) rfl rfl

/-- The next sample of the packet enters its words. -/
theorem placedUpTo_new (hm : m < fmtP r.format) (hfit : fmtP r.format ≤ 2 ^ r.depthLog) (hhas : n + m ∉ q.held) :
    PlacedUpTo s r n pay (m + 1) (wordsWritten t (s.jitterAddr r (n + m)) (fun c => payloadSample r pay c m) r.channels)
      { q with held := (n + m) :: q.held } := by
  have happart : ∀ x < fmtP r.format, ∀ c d, (x, c) ≠ (m, d) → s.jitterAddr r (n + x) c + 4 ≤ s.jitterAddr r (n + m) d ∨
      s.jitterAddr r (n + m) d + 4 ≤ s.jitterAddr r (n + x) c := fun x hx c d hne =>
    jitterAddr_apart s r (hx.trans_le hfit) (hm.trans_le hfit) hne
  have hword : ∀ u : State, u.regs = s.regs → ∀ x ch, u.jitterWord r (n + x) ch = BitVec.ofNat 32 (u.le (s.jitterAddr r (n + x) ch) 4) :=
    fun u hu x ch => by rw [State.jitterWord, jitterAddr_of_regs hu]
  have hstate : wordsWritten t (s.jitterAddr r (n + m)) (fun c => payloadSample r pay c m) r.channels =
      { s with mem := (wordsWritten t (s.jitterAddr r (n + m)) (fun c => payloadSample r pay c m) r.channels).mem } := by
    rw [wordsWritten_eq, h.state]
  refine ⟨hstate, by rw [h.stream], fun i => ?_, fun x hx ch hch => ?_, fun a ha => ?_⟩
  · rw [List.mem_cons, h.held]; grind
  · rw [hword _ (by rw [hstate])]
    by_cases hxm : x = m
    · subst hxm
      rw [if_neg (by rw [← h.heldNext]; grind)]
      exact le_wordsWritten_same _ _ (fun c d _ _ hcd => happart x hx c d fun e => hcd (congrArg Prod.snd e)) hch
    · rw [le_wordsWritten_apart _ _ fun c _ => happart x hx ch c fun e => hxm (congrArg Prod.fst e), ← hword t (by rw [h.state]), h.word x hx ch hch]
      exact if_congr (or_congr_right (by omega)) rfl rfl
  · exact (byte_wordsWritten _ _ fun c hc => ha m hm c hc).trans (h.outside a ha)

/-- One more sample of the packet is placed. -/
theorem placedUpTo_succ (hm : m < fmtP r.format) (hfit : fmtP r.format ≤ 2 ^ r.depthLog) :
    PlacedUpTo s r n pay (m + 1) (t.placeSample q n pay m).1 (t.placeSample q n pay m).2.1 := by
  by_cases hhas : n + m ∈ q.held
  · obtain ⟨hstate, hstream⟩ := placeSample_held t pay hhas
    rw [hstate, hstream]
    exact placedUpTo_held h hhas
  · have haddr : t.jitterAddr q (n + m) = s.jitterAddr r (n + m) := funext (h.addr _)
    have hsample : (fun c => payloadSample q pay c m) = fun c => payloadSample r pay c m := funext fun c => h.sample c m
    rw [placeSample_new t pay hhas, haddr, hsample]
    have hnew := placedUpTo_new h hm hfit hhas
    rwa [← h.channels] at hnew

end

/-- A packet's samples are placed. -/
theorem placePacket_places (s : State) (r : RxStream) (n : Nat) (pay : List Byte) (hfit : fmtP r.format ≤ 2 ^ r.depthLog) :
    PlacedUpTo s r n pay (fmtP r.format) (s.placePacket r n pay).1 (s.placePacket r n pay).2.1 := by
  have hsteps : ∀ m ≤ fmtP r.format, ∀ x, x = (List.range m).foldl (fun acc j =>
      let x := acc.1.placeSample acc.2.1 n pay j
      (x.1, x.2.1, acc.2.2 || x.2.2)) (s, r, false) → PlacedUpTo s r n pay m x.1 x.2.1 := fun m => by
    induction m with
    | zero => rintro - x rfl; exact placedUpTo_zero s r n pay
    | succ m ih =>
      rintro hm x rfl
      rw [List.range_succ, List.foldl_append]
      exact placedUpTo_succ (ih (by omega) _ rfl) hm hfit
  exact hsteps _ le_rfl _ rfl

/-! ## A receive stream is replaced -/

theorem rxAt_setRx (s : State) (i : Nat) (r : RxStream) : (s.setRx i r).rxAt i = some r := by
  rw [State.rxAt, State.setRx]
  exact congrArg (Option.map Prod.snd) (find?_put _ i r)

/-- `u` has stream `i` as `r`, with memory and routing points as in `s` and registers but for those that `p` names. -/
structure StreamSet (p : Nat → Prop) (s u : State) (i : Nat) (r : RxStream) : Prop where
  stream : u.rxAt i = some r
  mem : u.mem = s.mem
  points : u.points = s.points
  reg : ∀ a, ¬p a → u.reg a = s.reg a

theorem streamSet_setRx {p : Nat → Prop} {s t : State} (h : RegsAt p s t) (i : Nat) (r : RxStream) : StreamSet p s (t.setRx i r) i r :=
  ⟨rxAt_setRx t i r, h.mem, h.points, h.reg⟩

theorem StreamSet.put {p : Nat → Prop} {s u : State} {i : Nat} {r : RxStream} (h : StreamSet p s u i r) {f : Fld} (v : Nat) (hf : p f.addr) :
    StreamSet p s (u.put f v) i r :=
  ⟨h.stream, h.mem, h.points, fun a ha => ((regsAt_put u v hf).reg a ha).trans (h.reg a ha)⟩

theorem StreamSet.get {p : Nat → Prop} {s u : State} {i : Nat} {r : RxStream} (h : StreamSet p s u i r) {f : Fld} (hf : ¬p f.addr) :
    u.get f = s.get f := by
  rw [State.get, h.reg _ hf, State.get]

/-- A packet in time touches of its stream what R212 and R213 count alone. -/
theorem streamInTime_sets {p : Nat → Prop} (s : State) (i : Nat) (r : RxStream) (n : Nat) (hp : p (NPE_RXSTAT i)) :
    ∃ recent lastAt episode choice, StreamSet p s (s.streamInTime i r n) i
      { r with recent := recent, lastAt := lastAt, episode := episode, choice := choice } := by
  unfold State.streamInTime
  extract_lets q full t
  have ht : RegsAt p s t := by
    unfold t
    split
    · exact regsAt_put s _ hp
    · exact .refl _ s
  split
  · exact ⟨_, _, _, _, (streamSet_setRx ht i _).put _ hp⟩
  · exact ⟨_, _, _, _, streamSet_setRx ht i _⟩

/-! ## A packet in time is placed (R209 to R211) -/

theorem setLeg_cases (r : RxStream) (blue : Bool) (l : LegRun) : ∃ red other, r.setLeg blue l = { r with redRun := red, blueRun := other } := by
  cases blue <;> exact ⟨_, _, rfl⟩

/-- A packet whose first sample is `n` is placed in stream `i`: routing points and registers but for those that `p` names are as they were. -/
def PlacedIn (p : Nat → Prop) (s u : State) (i : Nat) (r : RxStream) (n : Nat) (pay : List Byte) : Prop :=
  ∃ r', u.rxAt i = some r' ∧ Statements.Placed s u r r' n pay ∧ u.points = s.points ∧ ∀ a, ¬p a → u.reg a = s.reg a

theorem PlacedIn.mono {p p' : Nat → Prop} {s u : State} {i n : Nat} {r : RxStream} {pay : List Byte} (h : PlacedIn p s u i r n pay)
    (hp : ∀ a, p a → p' a) : PlacedIn p' s u i r n pay := by
  obtain ⟨r', hstream, hplaced, hpoints, hreg⟩ := h
  exact ⟨r', hstream, hplaced, hpoints, fun a ha => hreg a fun hpa => ha (hp a hpa)⟩

theorem PlacedIn.get {p : Nat → Prop} {s u : State} {i n : Nat} {r : RxStream} {pay : List Byte} (h : PlacedIn p s u i r n pay) {f : Fld}
    (hf : ¬p f.addr) : u.get f = s.get f := by
  obtain ⟨_, -, -, -, hreg⟩ := h
  rw [State.get, hreg _ hf, State.get]

section
variable {p : Nat → Prop} (hbuf : ¬p NPE_JBUF)
include hbuf

/-- What is placed is told by the stream's buffer, not by its legs. -/
theorem placedIn_of_legs {s v u : State} {i n : Nat} {r q : RxStream} {pay : List Byte} (hv : RegsAt p s v)
    (hq : ∃ red blue, q = { r with redRun := red, blueRun := blue }) (h : PlacedIn p v u i q n pay) : PlacedIn p s u i r n pay := by
  obtain ⟨red, blue, rfl⟩ := hq
  obtain ⟨r', hstream, hplaced, hpoints, hreg⟩ := h
  have hbase : v.get NPE_JBUF_BASE = s.get NPE_JBUF_BASE := hv.get hbuf
  have haddr : ∀ i c, v.jitterAddr { r with redRun := red, blueRun := blue } i c = s.jitterAddr r i c := fun i c => by
    simp only [State.jitterAddr, hbase]
  have hword : ∀ i c, v.jitterWord { r with redRun := red, blueRun := blue } i c = s.jitterWord r i c := jitterWord_of_mem hv.mem hbase rfl rfl
  simp only [Statements.Placed, haddr, hword, byte_of_mem hv.mem] at hplaced
  exact ⟨r', hstream, hplaced, hpoints.trans hv.points, fun a ha => (hreg a ha).trans (hv.reg a ha)⟩

/-- A packet placed stays placed when its stream is replaced with the same buffer. -/
theorem placedIn_of_upTo {s t u : State} {i n : Nat} {r q r' : RxStream} {pay : List Byte} (h : PlacedUpTo s r n pay (fmtP r.format) t q)
    (hset : StreamSet p t u i r') (hheld : r'.held = q.held) (hbase : r'.base = q.base) (hdepth : r'.depthLog = q.depthLog) :
    PlacedIn p s u i r n pay := by
  have hregs : t.regs = s.regs := by rw [h.state]
  have hreg : ∀ a, ¬p a → u.reg a = s.reg a := fun a ha => by rw [hset.reg a ha, State.reg, hregs, State.reg]
  have hbufBase : u.get NPE_JBUF_BASE = t.get NPE_JBUF_BASE := hset.get hbuf
  refine ⟨r', hset.stream, ⟨fun x hx => ⟨?_, fun ch hch => ?_⟩, fun a ha => (byte_of_mem hset.mem a).trans (h.outside a ha)⟩, ?_, hreg⟩
  · rw [hheld, h.held]; omega
  · rw [jitterWord_of_mem (r := r) hset.mem hbufBase (hbase.trans (by rw [h.stream])) (hdepth.trans (by rw [h.stream])), h.word x hx ch hch]
    exact if_congr (or_iff_left (by omega)) rfl rfl
  · rw [hset.points, h.state]

variable {i : Nat} (hstat : p (NPE_RXSTAT i)) (herr : p NPE_STREAM_ERR3)
include hstat herr

/-- The samples of a packet are placed, and its stream has a packet in time. -/
theorem placePacket_inTime (s : State) (r : RxStream) (n : Nat) (pay : List Byte) (hfit : fmtP r.format ≤ 2 ^ r.depthLog) :
    let x := s.placePacket r n pay
    PlacedIn p s ((if x.2.2 then x.1.bump NPE_STREAM_ERR3_MISMATCH else x.1).streamInTime i x.2.1 n) i r n pay := by
  intro x
  have hplaced : PlacedUpTo s r n pay (fmtP r.format) x.1 x.2.1 := placePacket_places s r n pay hfit
  have hmismatch : RegsAt p x.1 (if x.2.2 then x.1.bump NPE_STREAM_ERR3_MISMATCH else x.1) := by
    split
    · exact regsAt_bump _ herr
    · exact .refl _ _
  obtain ⟨recent, lastAt, episode, choice, hset⟩ := streamInTime_sets (if x.2.2 then x.1.bump NPE_STREAM_ERR3_MISMATCH else x.1) i x.2.1 n hstat
  exact placedIn_of_upTo hbuf hplaced ⟨hset.stream, hset.mem.trans hmismatch.mem, hset.points.trans hmismatch.points,
    fun a ha => (hset.reg a ha).trans (hmismatch.reg a ha)⟩ rfl rfl rfl

/-- A packet in time on a leg: its samples are placed. -/
theorem placeOn_places (s : State) (r : RxStream) (blue : Bool) (n : Nat) (q : Rtp) (hfit : fmtP r.format ≤ 2 ^ r.depthLog) :
    PlacedIn p s (s.placeOn i r blue n q) i r n q.payload := by
  unfold State.placeOn
  extract_lets l recent ok v x
  have hleg := setLeg_cases r blue { l with lastAt := v.time, recent := recent, lost := !ok }
  have hv : RegsAt p s v := by
    unfold v
    split
    · exact regsAt_put s _ (by cases blue <;> exact hstat)
    · exact .refl _ s
  refine placedIn_of_legs hbuf hv hleg (placePacket_inTime hbuf hstat herr v _ n q.payload ?_)
  obtain ⟨_, _, e⟩ := hleg
  rwa [e]

end

end Sys2Proof.Proofs

namespace Sys2Proof.Proofs
open Sys2Proof.Machine Sys2Proof.Safety

/-! ## The check of a packet's words (R281 to R289) -/

/-- A check reads the Tollgates, the lock slots and the size of DRAM. -/
theorem check_of_locks {s u : State} (htg : u.tg = s.tg) (hlock : ∀ a, TG_LOCK_BASE 0 ≤ a → a < TG_LOCK_STATUS → u.reg a = s.reg a)
    (hraw : u.get LPD_CONFIG_RAW = s.get LPD_CONFIG_RAW) : u.check = s.check := by
  have hcovers : ∀ k < 8, ∀ a, u.lockCovers k a = s.lockCovers k a := fun k hk a => by
    simp only [State.lockCovers, State.flag, State.get, hlock (TG_LOCK_BASE k) (by grind) (by grind),
      hlock (TG_LOCK_LIMIT k) (by grind) (by grind), hlock (TG_LOCK_PERM k) (by grind) (by grind)]
  have hperm : ∀ k < 8, ∀ f : Fld, f.addr = TG_LOCK_PERM k → u.get f = s.get f := fun k hk f hf => by
    rw [State.get, hf, hlock _ (by grind) (by grind), State.get, hf]
  have hallows : u.lockAllows = s.lockAllows := by
    funext m a need
    rw [Bool.eq_iff_iff, State.lockAllows, State.lockAllows, List.all_eq_true, List.all_eq_true]
    refine forall₂_congr fun k hk => ?_
    have hk8 := List.mem_range.mp hk
    rw [hcovers k hk8, hperm k hk8 (TG_LOCK_PERM_OWNER k) rfl, hperm k hk8 (TG_LOCK_PERM_OWNER_XWR k) rfl, hperm k hk8 (TG_LOCK_PERM_OTHER_XWR k) rfl]
  have hregion : u.region = s.region := by funext a; simp only [State.region, hraw]
  have hmiss : u.missAllows = s.missAllows := by funext i a k; cases k <;> simp only [State.missAllows, hregion]
  have hrules : u.ruleSet = s.ruleSet := by funext i a; rw [State.ruleSet, State.ruleSet, htg]
  have hown : u.ownAllows = s.ownAllows := by funext i a k; rw [State.ownAllows, State.ownAllows, hmiss, hrules]
  have hunit : u.checkUnit = s.checkUnit := by funext i k a; rw [State.checkUnit, State.checkUnit, hallows, hown]
  funext i a n k
  rw [State.check, State.check, hunit]

/-- Registers that counting a frame and its leg may change. -/
def frameReg (k a : Nat) : Prop := a = NP_FEC k ∨ a = NP_RX_FRAMES k ∨ a = NPE_STREAM_ERR2 ∨ a = NPE_STREAM_ERR3

theorem placeCheck_of_counted {s v : State} {k : Nat} {r q : RxStream} (hv : RegsAt (frameReg k) s v)
    (hq : ∃ red blue, q = { r with redRun := red, blueRun := blue }) (n : Nat) : v.placeCheck q n = s.placeCheck r n := by
  obtain ⟨red, blue, rfl⟩ := hq
  have hcheck : v.check = s.check := check_of_locks hv.tg (fun a hlo hhi => hv.reg a (by unfold frameReg; grind))
    (hv.get (by unfold frameReg; grind))
  have hbase : v.get NPE_JBUF_BASE = s.get NPE_JBUF_BASE := hv.get (by unfold frameReg; grind)
  simp only [State.placeCheck, State.engineIssuer, State.inboundIssuer, State.jitterAddr, hcheck, hbase, hv.tg]

/-! ## A packet of a stream (R206, R208, R210, R223) -/

theorem countLeg_counts (s : State) (r : RxStream) (blue : Bool) (p : Rtp) :
    RegsAt (fun a => a = NPE_STREAM_ERR2 ∨ a = NPE_STREAM_ERR3) s (s.countLeg r blue p).1 := by
  unfold State.countLeg
  extract_lets l v w
  have hv : RegsAt (fun a => a = NPE_STREAM_ERR2 ∨ a = NPE_STREAM_ERR3) s v := by
    unfold v
    split
    · split
      · exact regsAt_bump s (Or.inr rfl)
      · exact .refl _ s
    · exact .refl _ s
  unfold w
  split
  · split
    · exact hv.trans (regsAt_bump v (Or.inl rfl))
    · split
      · exact hv.trans (regsAt_bump v (Or.inl rfl))
      · exact hv
  · exact hv

/-- A packet read, once its leg has counted it: too late, too early, or in time. -/
def packetTimed (s : State) (k i : Nat) (r : RxStream) (blue : Bool) (p : Rtp) : State :=
  let fs := rateHz (fmtRate r.format)
  let n := recoverN (sampleCount fs s.time) r.offset p.ts
  let present := sampleTime fs (n + r.lo)
  let placed := s.time + s.get (RWK_NET_RX_HOLD k) * 1000
  if s.lastArrival present < placed then (s.bump NPE_STREAM_ERR_LATE).setRx i r
  else if (2 ^ r.depthLog - fmtP r.format) * 1000000000 < (present - placed) * fs then (s.bump NPE_STREAM_ERR_EARLY).setRx i r
  else s.inTime i r blue n p

theorem receiveRtp_read {r : RxStream} {pay : List Byte} {p : Rtp} (h : readRtp r pay = some p) (s : State) (k i : Nat) (blue : Bool) :
    s.receiveRtp k i r blue true pay = packetTimed (s.countLeg r blue p).1 k i (s.countLeg r blue p).2 blue p := by
  rw [State.receiveRtp, if_pos rfl, h]; rfl

section
variable {s : State} {k : Fin 4} {fec : FecResult} {bs : ByteList} {src dst port j : Nat} {pay : List Byte} {r : RxStream} {leg : Bool} {p : Rtp}

/-- A frame of a stream's packet: counted, and its packet timed. -/
theorem exec_frameReceive_matched (hup : s.portUp k = true) (hwhole : Statements.Whole s k fec)
    (hc : classifyFrame (s.get (NP_CTRL_VID k)) bs = .udp src dst port true pay) (hmatch : s.matchStream k src dst port = some (j, r, leg))
    (hread : readRtp r pay = some p) : ∃ v q, RegsAt (frameReg k) s v ∧ (∃ red blue, q = { r with redRun := red, blueRun := blue }) ∧
      v.get (NP_RX_FRAMES_COUNT k) = (s.get (NP_RX_FRAMES_COUNT k) + 1) % 2 ^ 32 ∧
      exec (.frameReceive k ⟨fec, true⟩ bs) s = .next (packetTimed v k j q leg p).drivePins := by
  have hfec : RegsAt (frameReg k) s (s.countFec k fec) :=
    ⟨(regsAt_countFec s k fec).off, fun a ha => (regsAt_countFec s k fec).reg a fun h => ha (Or.inl h)⟩
  have hframes : (s.countFec k fec).get (NP_RX_FRAMES_COUNT k) = s.get (NP_RX_FRAMES_COUNT k) :=
    (regsAt_countFec s k fec).get (f := NP_RX_FRAMES_COUNT k) (by simp)
  have hvid : (s.countFec k fec).get (NP_CTRL_VID k) = s.get (NP_CTRL_VID k) := hfec.get (f := NP_CTRL_VID k) (by unfold frameReg; grind)
  rw [exec_frameReceive_whole hup hwhole]
  generalize s.countFec k fec = w at *
  have hcount : RegsAt (frameReg k) w (w.count (NP_RX_FRAMES_COUNT k)) := regsAt_put w _ (Or.inr (Or.inl rfl))
  have hleg := countLeg_counts (w.count (NP_RX_FRAMES_COUNT k)) r leg p
  refine ⟨((w.count (NP_RX_FRAMES_COUNT k)).countLeg r leg p).1, ((w.count (NP_RX_FRAMES_COUNT k)).countLeg r leg p).2,
    hfec.trans (hcount.trans ⟨hleg.off, fun a ha => hleg.reg a fun h => ha (Or.inr (Or.inr h))⟩), setLeg_cases r leg _, ?_, ?_⟩
  · rw [hleg.get (f := NP_RX_FRAMES_COUNT k) (by grind), get_count _ _ (by simp), hframes]
  · have hmatch' : (w.count (NP_RX_FRAMES_COUNT k)).matchStream k src dst port = some (j, r, leg) := by
      rw [matchStream_of_net (hcount.net.trans hfec.net), hmatch]
    have hclass : classifyFrame (w.get (NP_CTRL_VID k)) bs = .udp src dst port true pay := by rw [hvid, hc]
    rw [State.receiveFrame, hclass]
    simp only [Bool.not_true, Bool.false_eq_true, if_false, reduceCtorEq, hmatch', receiveRtp_read hread]
end

/-! ## Raises -/

theorem points_drive (s : State) (n : Nat) (r : Raise) : (s.drive n r).points = s.points := by rw [State.drive_fcu]

/-- A raise adds one to those that wait at its pair. -/
theorem todo_drive (s : State) (n : Nat) (r : Raise) (h : (fcRow n).isSome = true) :
    ((s.drive n r).pair n).todo.length = (s.pair n).todo.length + 1 := by
  rw [State.pair_drive s n r h, List.length_append]; rfl

/-! ## A packet in time, refused or late (R206, R210, R289) -/

section
variable {s v : State} {k : Fin 4} {i : Nat} {r q : RxStream} (hv : RegsAt (frameReg k) s v) (hq : ∃ red blue, q = { r with redRun := red, blueRun := blue })
include hv

theorem lastArrival_of_counted (t : Nat) : v.lastArrival t = s.lastArrival t := by
  have hrole : v.get SOV_STATUS_ROLE = s.get SOV_STATUS_ROLE := hv.get (by unfold frameReg; grind)
  have hlead : v.get SOV_CTRL_REPAIR_LEAD = s.get SOV_CTRL_REPAIR_LEAD := hv.get (by unfold frameReg; grind)
  rw [State.lastArrival, State.lastArrival, State.paired, State.paired, hrole, hlead]

include hq

/-- Counting a frame and its leg leaves the time of its packet. -/
theorem packetTimed_of_counted (leg : Bool) (p : Rtp) :
    let fs := rateHz (fmtRate r.format)
    let n := recoverN (sampleCount fs s.time) r.offset p.ts
    let present := sampleTime fs (n + r.lo)
    let placed := s.time + s.get (RWK_NET_RX_HOLD k) * 1000
    packetTimed v k i q leg p = if s.lastArrival present < placed then (v.bump NPE_STREAM_ERR_LATE).setRx i q
      else if (2 ^ r.depthLog - fmtP r.format) * 1000000000 < (present - placed) * fs then (v.bump NPE_STREAM_ERR_EARLY).setRx i q
      else v.inTime i q leg n p := by
  have hlast := lastArrival_of_counted hv
  have hhold : v.get (RWK_NET_RX_HOLD k) = s.get (RWK_NET_RX_HOLD k) := hv.get (by unfold frameReg; grind)
  obtain ⟨red, blue, rfl⟩ := hq
  simp only [packetTimed, hlast, hv.time, hhold]

theorem inTime_placed {n : Nat} (hcheck : s.placeCheck r n = .ok) (hfit : fmtP r.format ≤ 2 ^ r.depthLog) (leg : Bool) (p : Rtp) :
    PlacedIn (fun a => a = NPE_RXSTAT i ∨ a = NPE_STREAM_ERR3) v (v.inTime i q leg n p) i q n p.payload := by
  have hfit' : fmtP q.format ≤ 2 ^ q.depthLog := by obtain ⟨red, blue, rfl⟩ := hq; exact hfit
  rw [State.inTime, placeCheck_of_counted hv hq, hcheck]
  exact placeOn_places (by grind) (Or.inl rfl) (Or.inr rfl) v q leg n p hfit'

/-- A packet that the Tollgate refuses is counted and reported; its stream keeps its samples. -/
theorem inTime_refused {n a : Nat} (hcheck : s.placeCheck r n = .own a) (leg : Bool) (p : Rtp) :
    let u := v.inTime i q leg n p
    StreamSet (fun x => frameReg k x ∨ x = TG_STATUS 25) s u i q ∧
      u.get (TG_STATUS_REFUSALS 25) = min (s.get (TG_STATUS_REFUSALS 25) + 1) 65535 ∧ (u.pair 240).todo.length = (s.pair 240).todo.length + 1 := by
  intro u
  have hcount : v.get (TG_STATUS_REFUSALS 25) = s.get (TG_STATUS_REFUSALS 25) := hv.get (by unfold frameReg; grind)
  have hbump : RegsAt (fun x => frameReg k x ∨ x = TG_STATUS 25) s (v.bump (TG_STATUS_REFUSALS 25)) :=
    (hv.mono fun _ => Or.inl).trans (regsAt_bump v (Or.inr rfl))
  have hu : ∃ c, u = ((v.bump (TG_STATUS_REFUSALS 25)).drive 240 c).setRx i q := by
    simp only [u, State.inTime, placeCheck_of_counted hv hq, hcheck]
    exact ⟨_, rfl⟩
  obtain ⟨c, hu⟩ := hu
  rw [hu]
  refine ⟨⟨rxAt_setRx _ _ _, (State.mem_drive _ _ _).trans hbump.mem, (points_drive _ _ _).trans hbump.points,
    fun x hx => (State.reg_drive _ _ _ x).trans (hbump.reg x hx)⟩, ?_, ?_⟩
  · exact (State.get_drive _ _ _ _).trans ((get_bump v (TG_STATUS_REFUSALS 25) (by simp)).trans (by rw [hcount]; rfl))
  · refine (todo_drive _ 240 c (by decide)).trans ?_
    rw [hbump.pair]

omit hq in
/-- A packet too late is counted; its stream keeps its samples. -/
theorem late_counted : StreamSet (fun x => frameReg k x ∨ x = NPE_STREAM_ERR) s ((v.bump NPE_STREAM_ERR_LATE).setRx i q) i q ∧
    ((v.bump NPE_STREAM_ERR_LATE).setRx i q).get NPE_STREAM_ERR_LATE = min (s.get NPE_STREAM_ERR_LATE + 1) 65535 := by
  have hcount : v.get NPE_STREAM_ERR_LATE = s.get NPE_STREAM_ERR_LATE := hv.get (by unfold frameReg; grind)
  have hbump : RegsAt (fun x => frameReg k x ∨ x = NPE_STREAM_ERR) s (v.bump NPE_STREAM_ERR_LATE) :=
    RegsAt.trans (hv.mono fun _ => Or.inl) (regsAt_bump v (Or.inr rfl))
  exact ⟨streamSet_setRx hbump i q, (get_bump v NPE_STREAM_ERR_LATE (by simp)).trans (by rw [hcount]; rfl)⟩

end

section
variable {s : State} {k : Fin 4} {fec : FecResult} {bs : ByteList} {src dst port j : Nat} {pay : List Byte} {r : RxStream} {leg : Bool} {p : Rtp}

/-- A packet of a stream: in time it is placed or refused, else counted. -/
theorem frame_packet (hup : s.portUp k = true) (hwhole : Statements.Whole s k fec)
    (hc : classifyFrame (s.get (NP_CTRL_VID k)) bs = .udp src dst port true pay) (hmatch : s.matchStream k src dst port = some (j, r, leg))
    (hj : j < 4096) (hread : readRtp r pay = some p) (hfit : fmtP r.format ≤ 2 ^ r.depthLog) :
    let fs := rateHz (fmtRate r.format)
    let n := recoverN (sampleCount fs s.time) r.offset p.ts
    let present := sampleTime fs (n + r.lo)
    let placed := s.time + s.get (RWK_NET_RX_HOLD k) * 1000
    (placed ≤ s.lastArrival present → (present - placed) * fs ≤ (2 ^ r.depthLog - fmtP r.format) * 1000000000 → s.placeCheck r n = .ok →
      Gives s (.frameReceive k ⟨fec, true⟩ bs) fun u => u.points = s.points ∧
        u.get (NP_RX_FRAMES_COUNT k) = (s.get (NP_RX_FRAMES_COUNT k) + 1) % 2 ^ 32 ∧
        ∃ r', u.rxAt j = some r' ∧ Statements.Placed s u r r' n p.payload) ∧
    (∀ a, placed ≤ s.lastArrival present → (present - placed) * fs ≤ (2 ^ r.depthLog - fmtP r.format) * 1000000000 → s.placeCheck r n = .own a →
      Gives s (.frameReceive k ⟨fec, true⟩ bs) fun u => u.points = s.points ∧ u.mem = s.mem ∧
        u.get (TG_STATUS_REFUSALS 25) = min (s.get (TG_STATUS_REFUSALS 25) + 1) 65535 ∧ (u.pair 240).todo.length = (s.pair 240).todo.length + 1 ∧
        u.get (NPE_RXSTAT_STATE j) = s.get (NPE_RXSTAT_STATE j) ∧ ∃ r', u.rxAt j = some r' ∧ r'.held = r.held) ∧
    (s.lastArrival present < placed → Gives s (.frameReceive k ⟨fec, true⟩ bs) fun u => u.points = s.points ∧ u.mem = s.mem ∧
      u.get NPE_STREAM_ERR_LATE = min (s.get NPE_STREAM_ERR_LATE + 1) 65535 ∧ ∃ r', u.rxAt j = some r' ∧ r'.held = r.held) := by
  intro fs n present placed
  obtain ⟨v, q, hv, hq, hcount, hexec⟩ := exec_frameReceive_matched hup hwhole hc hmatch hread
  have htimed := packetTimed_of_counted (i := j) hv hq leg p
  rw [htimed] at hexec
  have hheld : q.held = r.held := by obtain ⟨_, _, rfl⟩ := hq; rfl
  refine ⟨fun htime hdepth hcheck => ?_, fun a htime hdepth hcheck => ?_, fun hlate => ?_⟩
  · rw [if_neg (not_lt.mpr htime), if_neg (not_lt.mpr hdepth)] at hexec
    have hplaced := inTime_placed (i := j) hv hq hcheck hfit leg p
    obtain ⟨r', hstream, hsamples, hpoints, -⟩ := placedIn_of_legs (p := fun a => frameReg k a ∨ a = NPE_RXSTAT j) (by unfold frameReg; grind)
      (hv.mono fun _ => Or.inl) hq (hplaced.mono fun a ha => ha.elim Or.inr fun he => Or.inl (Or.inr (Or.inr (Or.inr he))))
    exact ⟨_, hexec, hpoints, (hplaced.get (f := NP_RX_FRAMES_COUNT k) (by grind)).trans hcount, r', hstream, hsamples⟩
  · rw [if_neg (not_lt.mpr htime), if_neg (not_lt.mpr hdepth)] at hexec
    obtain ⟨hset, hrefused, htodo⟩ := inTime_refused (i := j) hv hq hcheck leg p
    exact ⟨_, hexec, hset.points, hset.mem, hrefused, htodo, hset.get (f := NPE_RXSTAT_STATE j) (by unfold frameReg; grind), q, hset.stream, hheld⟩
  · rw [if_pos hlate] at hexec
    obtain ⟨hset, hcounted⟩ := late_counted (i := j) (q := q) hv
    exact ⟨_, hexec, hset.points, hset.mem, hcounted, q, hset.stream, hheld⟩

end

end Sys2Proof.Proofs

namespace Sys2Proof.Proofs
open Sys2Proof.Machine Sys2Proof.Safety

/-! ## Samples put at routing points -/

/-- The samples `vals` put at the routing points from `first + j` on. -/
def routedFrom (s : State) (first : Nat) (vals : List Word) (j : Nat) : State :=
  (vals.zipIdx j).foldl (fun s x => s.setPoint (first + x.2) x.1) s

theorem routedFrom_cons (s : State) (first : Nat) (v : Word) (vals : List Word) (j : Nat) :
    routedFrom s first (v :: vals) j = routedFrom (s.setPoint (first + j) v) first vals (j + 1) := by
  rw [routedFrom, List.zipIdx_cons]; rfl

theorem point_setPoint_other (s : State) {p p' : Nat} (v : Word) (h : p ≠ p') : Statements.Point (s.setPoint p v) p' = Statements.Point s p' :=
  Sparse.get_set_other _ _ _ _ _ h

theorem routedFrom_eq (s : State) (first : Nat) (vals : List Word) (j : Nat) :
    routedFrom s first vals j = { s with jct := (routedFrom s first vals j).jct, points := (routedFrom s first vals j).points } := by
  induction vals generalizing s j with
  | nil => rfl
  | cons v vals ih => rw [routedFrom_cons, ih]; rfl

theorem point_routedFrom_outside (s : State) {first : Nat} (vals : List Word) {j p : Nat} (h : p < first + j ∨ first + j + vals.length ≤ p) :
    Statements.Point (routedFrom s first vals j) p = Statements.Point s p := by
  induction vals generalizing s j with
  | nil => rfl
  | cons v vals ih =>
    rw [List.length_cons] at h
    rw [routedFrom_cons, ih _ (by omega), point_setPoint_other _ _ (by omega)]

theorem point_routedFrom (s : State) {first : Nat} (vals : List Word) {j c : Nat} (h : c < vals.length) :
    Statements.Point (routedFrom s first vals j) (first + (j + c)) = vals[c] := by
  induction vals generalizing s j c with
  | nil => exact absurd h (Nat.not_lt_zero c)
  | cons v vals ih =>
    rw [routedFrom_cons]
    cases c with
    | zero => rw [point_routedFrom_outside _ _ (by omega)]; exact point_setPoint s _ v
    | succ c => rw [show first + (j + (c + 1)) = first + (j + 1 + c) by omega, ih _ (by simpa using h)]; rfl

/-! ## A stream presents a sample (R209, R212) -/

theorem net_until (s : State) (t : Nat) : (s.until t).net = s.net := by rw [State.until_eq]

theorem points_until (s : State) (t : Nat) : (s.until t).points = s.points := by rw [State.until_eq]

/-- What a sample presented does, whatever it is: the stream's next boundary, and its channels at its points. -/
def shownAt (s : State) (i : Nat) (q : RxStream) (first : Nat) (vals : List Word) : State := routedFrom (s.setRx i q) first vals 0

section
variable (s : State) (i : Nat) (r : RxStream) (m : Nat)

theorem presentSample_here (h : r.held.contains (m - r.lo) = true) : ∃ q, q.next = some (m + 1) ∧ s.presentSample i r m =
    shownAt (s.until (sampleTime (rateHz (fmtRate r.format)) m)) i q r.firstCh ((List.range r.channels).map fun c => s.jitterWord r (m - r.lo) c) := by
  have hword : ∀ c, (s.until (sampleTime (rateHz (fmtRate r.format)) m)).jitterWord { r with missing := 0 } (m - r.lo) c = s.jitterWord r (m - r.lo) c :=
    jitterWord_of_mem (mem_until _ _) (State.get_until _ _ _) rfl rfl _
  unfold State.presentSample
  simp only [h, if_true, hword]
  exact ⟨_, rfl, rfl⟩

theorem presentSample_waiting (h : r.held.contains (m - r.lo) = false) (hstate : s.get (NPE_RXSTAT_STATE i) = 1) :
    ∃ q, q.next = some (m + 1) ∧ s.presentSample i r m =
      shownAt (s.until (sampleTime (rateHz (fmtRate r.format)) m)) i q r.firstCh ((List.range r.channels).map fun _ => 0) := by
  unfold State.presentSample
  simp only [h, Bool.false_eq_true, if_false, State.get_until, hstate, if_true]
  exact ⟨_, rfl, rfl⟩

/-- A sample is missing of a stream that runs, and no episode begins. -/
theorem noteMissing_quiet (hstate : s.get (NPE_RXSTAT_STATE i) = 2) (hhost : s.net.hostConceal = false) : ∃ v q, s.noteMissing i r = (v, q) ∧
    RegsAt (fun a => a = NPE_RXSTAT i ∨ a = NPE_CONCEAL) s v ∧ v.get (NPE_RXSTAT_STATE i) = 3 ∧
    ∃ missing owed recent, q = { r with missing := missing, owed := owed, recent := recent } := by
  unfold State.noteMissing
  extract_lets owed full u st starts v q
  have hu : RegsAt (fun a => a = NPE_RXSTAT i ∨ a = NPE_CONCEAL) s u := by
    unfold u
    split
    · exact (regsAt_bump s (Or.inl rfl)).trans (regsAt_bump _ (Or.inr rfl))
    · exact .refl _ s
  have hst : st = 2 := by
    unfold st u
    split
    · rw [get_bump_other _ _ _ (by grind), State.bump, State.get_put_apart _ _ _ _ (by simp) (by simp), hstate]
    · exact hstate
  have hv : v = u.put (NPE_RXSTAT_STATE i) 3 := if_neg (by omega)
  have hquiet : (v.net.hostConceal && !q.episode && starts) = false := by
    rw [hv, State.put_net, hu.net, hhost]; rfl
  rw [hquiet]
  exact ⟨v, q, rfl, hv ▸ hu.trans (regsAt_put u _ (Or.inl rfl)), hv ▸ State.get_put_eq _ _ _ (by simp) (by simp), _, _, _, rfl⟩

theorem presentSample_missing (h : r.held.contains (m - r.lo) = false) (hstate : s.get (NPE_RXSTAT_STATE i) = 2)
    (hhost : s.net.hostConceal = false) (hepisode : r.episode = false) : ∃ v q, q.next = some (m + 1) ∧
      RegsAt (fun a => a = NPE_RXSTAT i ∨ a = NPE_CONCEAL) (s.until (sampleTime (rateHz (fmtRate r.format)) m)) v ∧ v.get (NPE_RXSTAT_STATE i) = 3 ∧
      s.presentSample i r m = shownAt v i q r.firstCh ((List.range r.channels).map fun c => r.concealed r.conceal c) := by
  obtain ⟨v, q, hnote, hv, hget, missing, owed, recent, rfl⟩ := noteMissing_quiet (s.until (sampleTime (rateHz (fmtRate r.format)) m)) i r
    ((State.get_until _ _ _).trans hstate) (by rw [net_until, hhost])
  have hpolicy : v.concealPolicy { r with missing := missing, owed := owed, recent := recent } = r.conceal := by
    simp only [State.concealPolicy, hepisode, Bool.false_eq_true, if_false]
  have hwaiting : ¬s.get (NPE_RXSTAT_STATE i) = 1 := by omega
  unfold State.presentSample
  simp only [h, Bool.false_eq_true, if_false, State.get_until, hwaiting, hnote, hpolicy]
  exact ⟨v, _, rfl, hv, hget, rfl⟩

end

/-- A sample presented: its channels at the stream's points, the time of its boundary. -/
theorem shownAt_presents {p : Nat → Prop} {s v : State} {at' : Nat} (hv : RegsAt p (s.until at') v) (i : Nat) (q : RxStream) (first : Nat)
    (val : Nat → Word) (n : Nat) :
    let u := (shownAt v i q first ((List.range n).map val)).drivePins
    u.time = max s.time at' ∧ u.rxAt i = some q ∧ u.mem = s.mem ∧ (∀ ch < n, Statements.Point u (first + ch) = val ch) ∧
      (∀ x, x < first ∨ first + n ≤ x → Statements.Point u x = Statements.Point s x) ∧ ∀ f, u.get f = v.get f := by
  intro u
  have hu : u = { v.setRx i q with jct := u.jct, points := u.points, pins := u.pins } := by
    simp only [u, shownAt, State.drivePins]
    rw [routedFrom_eq]
  have hlength : ((List.range n).map val).length = n := by rw [List.length_map, List.length_range]
  refine ⟨?_, ?_, ?_, fun ch hch => ?_, fun x hx => ?_, fun f => ?_⟩
  · rw [hu]; exact hv.time.trans (State.time_until s at')
  · rw [hu]; exact rxAt_setRx v i q
  · rw [hu]; exact hv.mem.trans (mem_until s at')
  · have hpoint := point_routedFrom (v.setRx i q) (first := first) ((List.range n).map val) (j := 0) (c := ch) (by rwa [hlength])
    rw [Nat.zero_add, List.getElem_map, List.getElem_range] at hpoint
    exact hpoint
  · refine (point_routedFrom_outside (v.setRx i q) ((List.range n).map val) (j := 0) (by rwa [hlength])).trans ?_
    exact congrArg (fun m => Sparse.get (fun _ => 0) m x) (hv.points.trans (points_until s at'))
  · rw [hu]; rfl

/-- SAMPLE_PRESENT: the sample held, 0 before the first packet, else what conceals it. -/
theorem samplePresent_shows {s : State} {i : BitVec 12} {r : RxStream} {m : Nat} (hstream : s.rxAt i.toNat = some r) (hnext : r.next = some m) :
    let st := s.get (NPE_RXSTAT_STATE i.toNat)
    let here := r.held.contains (m - r.lo)
    here = true ∨ st = 1 ∨ st = 2 ∧ s.net.hostConceal = false ∧ r.episode = false → Gives s (.samplePresent i) fun u =>
      u.time = max s.time (sampleTime (rateHz (fmtRate r.format)) m) ∧ (∃ r', u.rxAt i.toNat = some r' ∧ r'.next = some (m + 1)) ∧ u.mem = s.mem ∧
      (∀ ch < r.channels, Statements.Point u (r.firstCh + ch) =
        if here = true then s.jitterWord r (m - r.lo) ch else if st = 1 then 0 else r.concealed r.conceal ch) ∧
      (∀ p, p < r.firstCh ∨ r.firstCh + r.channels ≤ p → Statements.Point u p = Statements.Point s p) ∧
      u.get (NPE_RXSTAT_STATE i.toNat) = if here = true then st else if st = 1 then 1 else 3 := by
  intro st here hcase
  have hexec : exec (.samplePresent i) s = .next (s.presentSample i.toNat r m).drivePins := by
    rw [exec_samplePresent, execSamplePresent, hstream]
    simp only [hnext, Option.getD_some]
    rfl
  by_cases hhere : here = true
  · obtain ⟨q, hq, hshown⟩ := presentSample_here s i.toNat r m hhere
    obtain ⟨htime, hrx, hmem, hpoint, houtside, hget⟩ := shownAt_presents (.refl (fun _ => False) _) i.toNat q r.firstCh _ r.channels
    rw [hshown] at hexec
    simp only [if_pos hhere]
    exact ⟨_, hexec, htime, ⟨q, hrx, hq⟩, hmem, hpoint, houtside, (hget _).trans (State.get_until _ _ _)⟩
  · have hout : r.held.contains (m - r.lo) = false := Bool.eq_false_of_not_eq_true hhere
    by_cases hwaiting : st = 1
    · obtain ⟨q, hq, hshown⟩ := presentSample_waiting s i.toNat r m hout hwaiting
      obtain ⟨htime, hrx, hmem, hpoint, houtside, hget⟩ := shownAt_presents (.refl (fun _ => False) _) i.toNat q r.firstCh _ r.channels
      rw [hshown] at hexec
      simp only [if_neg hhere, if_pos hwaiting]
      exact ⟨_, hexec, htime, ⟨q, hrx, hq⟩, hmem, hpoint, houtside, (hget _).trans ((State.get_until _ _ _).trans hwaiting)⟩
    · obtain ⟨hst, hhost, hepisode⟩ := (hcase.resolve_left hhere).resolve_left hwaiting
      obtain ⟨v, q, hq, hv, hstate, hshown⟩ := presentSample_missing s i.toNat r m hout hst hhost hepisode
      obtain ⟨htime, hrx, hmem, hpoint, houtside, hget⟩ := shownAt_presents hv i.toNat q r.firstCh _ r.channels
      rw [hshown] at hexec
      simp only [if_neg hhere, if_neg hwaiting]
      exact ⟨_, hexec, htime, ⟨q, hrx, hq⟩, hmem, hpoint, houtside, (hget _).trans hstate⟩

/-! ## Legs and streams without packets (R211, R212) -/

/-- What a leg or stream reported absent leaves: the time, a field, a raise, the stream. -/
theorem absent_reported (s : State) (at' : Nat) (f : Fld) (v n i : Nat) (q : RxStream) (hfit : f.lo + f.width ≤ 32) (hv : v < 2 ^ f.width)
    (hraise : (fcRow n).isSome = true) :
    let u := ((((s.until at').put f v).drive n { note := i }).setRx i q).drivePins
    u.get f = v ∧ (u.pair n).todo.length = (s.pair n).todo.length + 1 ∧ u.time = max s.time at' ∧ u.points = s.points ∧ u.rxAt i = some q := by
  intro u
  have hpair : ∀ k, (s.until at').pair k = s.pair k := fun k => by rw [State.until_eq]; rfl
  refine ⟨?_, ?_, ?_, ?_, rxAt_setRx _ i q⟩
  · exact (State.get_drive _ _ _ _).trans (State.get_put_eq _ _ _ hfit hv)
  · exact (todo_drive _ n _ hraise).trans (by rw [pair_put, hpair])
  · exact (time_drive _ _ _).trans (State.time_until s at')
  · exact (points_drive _ _ _).trans (points_until s at')

theorem legLoss_reported {s : State} {i : BitVec 12} {blue : Bool} {r : RxStream} (hstream : s.rxAt i.toNat = some r) (hgood : (r.leg blue).lost = false)
    (hleg : fmtProt r.format = true ∨ blue = false) : Gives s (.legLoss i blue) fun u =>
      u.flag (legOk i.toNat blue) = false ∧ (u.pair 252).todo.length = (s.pair 252).todo.length + 1 ∧
      u.time = max s.time ((r.leg blue).lastAt + r.absentMs * 1000000) ∧ u.points = s.points ∧
      ∃ r', u.rxAt i.toNat = some r' ∧ (r'.leg blue).lost = true ∧ r'.held = r.held := by
  have hexec : exec (.legLoss i blue) s = .next ((((s.until ((r.leg blue).lastAt + r.absentMs * 1000000)).put (legOk i.toNat blue) 0).drive 252
      { note := i.toNat }).setRx i.toNat (r.setLeg blue { r.leg blue with lost := true, recent := [] })).drivePins := by
    rw [exec_legLoss, execLegLoss, hstream]
    exact occurs_of _ _ _ (by simpa [hgood] using hleg)
  obtain ⟨hflag, htodo, htime, hpoints, hrx⟩ := absent_reported s ((r.leg blue).lastAt + r.absentMs * 1000000) (legOk i.toNat blue) 0 252 i.toNat
    (r.setLeg blue { r.leg blue with lost := true, recent := [] }) (by cases blue <;> simp [legOk]) (by positivity) (by decide)
  refine ⟨_, hexec, by rw [State.flag, hflag]; rfl, htodo, htime, hpoints, _, hrx, ?_, ?_⟩
  · cases blue <;> rfl
  · cases blue <;> rfl

theorem streamAbsent_reported {s : State} {i : BitVec 12} {r : RxStream} (hstream : s.rxAt i.toNat = some r)
    (hhere : s.get (NPE_RXSTAT_STATE i.toNat) ≠ 4) : Gives s (.streamAbsent i) fun u =>
      u.get (NPE_RXSTAT_STATE i.toNat) = 4 ∧ (u.pair 253).todo.length = (s.pair 253).todo.length + 1 ∧
      u.time = max s.time (r.lastAt + r.absentMs * 1000000) ∧ u.points = s.points := by
  have hexec : exec (.streamAbsent i) s = .next ((((s.until (r.lastAt + r.absentMs * 1000000)).put (NPE_RXSTAT_STATE i.toNat) 4).drive 253
      { note := i.toNat }).setRx i.toNat { r with recent := [] }).drivePins := by
    rw [exec_streamAbsent, execStreamAbsent, hstream]
    exact occurs_of _ _ _ (by simpa using hhere)
  obtain ⟨hstate, htodo, htime, hpoints, -⟩ := absent_reported s (r.lastAt + r.absentMs * 1000000) (NPE_RXSTAT_STATE i.toNat) 4 253 i.toNat
    { r with recent := [] } (by simp) (by simp) (by decide)
  exact ⟨_, hexec, hstate, htodo, htime, hpoints⟩

/-- The network ports receive. -/
theorem networkPorts_receive : Statements.NetworkPortsReceiveStreams := by
  intro s k fec bs i blue c
  refine ⟨fun hup => frame_failed hup, fun hup hspeed => ⟨frame_uncorrectable hup hspeed, frame_corrected hup hspeed⟩,
    fun f hup hwhole haway => frame_turnedAway hup hwhole haway, fun hdown => ?_,
    fun src dst port pay j r leg p hup hwhole hc hmatch hj hread _ hfit => frame_packet hup hwhole hc hmatch hj hread hfit,
    fun r m hstream hnext => samplePresent_shows hstream hnext, fun r hstream hgood hleg => legLoss_reported hstream hgood hleg,
    fun r hstream hhere => streamAbsent_reported hstream hhere⟩
  rw [Ignored, exec_frameReceive, execFrameReceive, hdown, occurs_false]

end Sys2Proof.Proofs

namespace Sys2Proof.Proofs
open Sys2Proof.Machine Sys2Proof.Safety

/-! ## Frames sent -/

theorem sendFrame_eq (s : State) (k : Nat) (bs : List Byte) :
    s.sendFrame k bs = { s with regs := (s.sendFrame k bs).regs, net := { s.net with sent := (s.sendFrame k bs).net.sent } } := by
  unfold State.sendFrame
  split <;> rfl

theorem sendFrame_up {s : State} {k : Nat} (h : s.portUp k = true) (bs : List Byte) :
    s.sendFrame k bs = { s.count (NP_TX_FRAMES_COUNT k) with net := { s.net with sent := Sparse.put s.net.sent k bs } } := if_pos h

theorem sendFrame_down {s : State} {k : Nat} (h : s.portUp k = false) (bs : List Byte) : s.sendFrame k bs = s :=
  if_neg (Bool.eq_false_iff.mp h)

theorem reg_sendFrame_other (s : State) {k a : Nat} (bs : List Byte) (h : NP_TX_FRAMES k ≠ a) : (s.sendFrame k bs).reg a = s.reg a := by
  cases hup : s.portUp k with
  | true => rw [sendFrame_up hup]; exact reg_put_other s _ _ _ h
  | false => rw [sendFrame_down hup]

theorem get_sendFrame_other (s : State) {k : Nat} {f : Fld} (bs : List Byte) (h : NP_TX_FRAMES k ≠ f.addr) : (s.sendFrame k bs).get f = s.get f := by
  rw [State.get, reg_sendFrame_other s bs h, State.get]

theorem portUp_of_regs {s u : State} {k : Nat} (hctrl : u.reg (NP_CTRL k) = s.reg (NP_CTRL k)) (hstatus : u.reg (NP_STATUS k) = s.reg (NP_STATUS k)) :
    u.portUp k = s.portUp k := by
  rw [State.portUp, State.portUp, State.flag, State.flag, State.get, State.get, State.get, State.get, hctrl, hstatus]

theorem portUp_sendFrame (s : State) (k j : Nat) (bs : List Byte) : (s.sendFrame k bs).portUp j = s.portUp j :=
  portUp_of_regs (reg_sendFrame_other s bs (by grind)) (reg_sendFrame_other s bs (by grind))

/-- The frame that left a port last. -/
def lastSent (s : State) (k : Nat) : List Byte := Sparse.get (fun _ => []) s.net.sent k

theorem lastSent_sendFrame {s : State} {k : Nat} (h : s.portUp k = true) (bs : List Byte) : lastSent (s.sendFrame k bs) k = bs := by
  rw [sendFrame_up h]
  exact Sparse.get_put_self _ _ _ _

theorem lastSent_sendFrame_other (s : State) {k j : Nat} (bs : List Byte) (h : k ≠ j) : lastSent (s.sendFrame k bs) j = lastSent s j := by
  cases hup : s.portUp k with
  | true => rw [sendFrame_up hup]; exact Sparse.get_put_other _ _ _ _ _ h
  | false => rw [sendFrame_down hup]

/-! ## Packets launched (R206, R207, R215 to R219) -/

/-- `u` has transmit stream `i` past packet `n`, with the time, memory and routing points of `s`. -/
structure LaunchedAt (s u : State) (i n : Nat) : Prop where
  stream : ∃ x', u.txAt i = some x' ∧ x'.last = some n
  time : u.time = s.time
  points : u.points = s.points
  mem : u.mem = s.mem

theorem LaunchedAt.put {s u : State} {i n : Nat} (h : LaunchedAt s u i n) (f : Fld) (v : Nat) : LaunchedAt s (u.put f v) i n :=
  ⟨h.stream, h.time, h.points, h.mem⟩

theorem LaunchedAt.bump {s u : State} {i n : Nat} (h : LaunchedAt s u i n) (f : Fld) : LaunchedAt s (u.bump f) i n := h.put f _

theorem LaunchedAt.sendFrame {s u : State} {i n : Nat} (h : LaunchedAt s u i n) (k : Nat) (bs : List Byte) : LaunchedAt s (u.sendFrame k bs) i n := by
  rw [sendFrame_eq]
  exact ⟨h.stream, h.time, h.points, h.mem⟩

theorem launchedAt_setTx {p : Nat → Prop} {s t : State} (h : RegsAt p s t) (i : Nat) {n : Nat} {x : TxStream} (hlast : x.last = some n) :
    LaunchedAt s (t.setTx i x) i n :=
  ⟨⟨x, txAt_setTx t i x, hlast⟩, h.time, h.points, h.mem⟩

theorem get_setTx (s : State) (i : Nat) (x : TxStream) (f : Fld) : (s.setTx i x).get f = s.get f := rfl

theorem reg_setTx (s : State) (i : Nat) (x : TxStream) (a : Nat) : (s.setTx i x).reg a = s.reg a := rfl

theorem sent_setTx (s : State) (i : Nat) (x : TxStream) : (s.setTx i x).net.sent = s.net.sent := rfl

theorem LaunchedAt.drivePins {s u : State} {i n : Nat} (h : LaunchedAt s u i n) : LaunchedAt s u.drivePins i n := by
  rw [State.drivePins]
  exact ⟨h.stream, h.time, h.points, h.mem⟩

/-- The status of a stream: the legs it sends. -/
def showLegs (s : State) (i : Nat) (legs : Bool × Bool) : State :=
  (s.put (NPE_TXSTAT_RED_ON i) (if legs.1 then 1 else 0)).put (NPE_TXSTAT_BLUE_ON i) (if legs.2 then 1 else 0)

/-- A stream at a packet's launch: the legs it sends, its buffer without the packet. -/
def launchBegun (s : State) (i : Nat) (x : TxStream) (n : Nat) (legs : Bool × Bool) : State := (showLegs s i legs).setTx i
  { x with last := some n, redOn := legs.1, blueOn := legs.2, buf := x.buf.filter fun e => decide ((n + 1) * fmtP x.format ≤ e.1 / 64) }

/-- The packet `n` of a stream, on its legs. -/
def sentOn (s : State) (x : TxStream) (n : Nat) (legs : Bool × Bool) : State :=
  let red := if legs.1 then s.sendFrame x.ports (packetBytes x x.red n fun a c => (bufAt x.buf a c).getD 0) else s
  if legs.2 then red.sendFrame (x.ports + 1) (packetBytes x x.blue n fun a c => (bufAt x.buf a c).getD 0) else red

section
variable (s : State) (i : Nat) (x : TxStream) (n : Nat) (legs : Bool × Bool)

theorem regsAt_showLegs : RegsAt (· = NPE_TXSTAT i) s (showLegs s i legs) :=
  RegsAt.trans (regsAt_put (f := NPE_TXSTAT_RED_ON i) s _ rfl) (regsAt_put (f := NPE_TXSTAT_BLUE_ON i) _ _ rfl)

theorem showLegs_skipped : (showLegs s i legs).get (NPE_TXSTAT_SKIPPED i) = s.get (NPE_TXSTAT_SKIPPED i) := by
  rw [showLegs, State.get_put_apart _ _ _ _ (by simp) (by simp), State.get_put_apart _ _ _ _ (by simp) (by simp)]

theorem launchBegun_launchedAt : LaunchedAt s (launchBegun s i x n legs) i n := by
  rw [launchBegun]
  exact launchedAt_setTx (regsAt_showLegs s i legs) i rfl

theorem launchBegun_get (f : Fld) : (launchBegun s i x n legs).get f = (showLegs s i legs).get f := by
  rw [launchBegun]
  exact get_setTx _ i _ f

theorem launchBegun_sent : (launchBegun s i x n legs).net.sent = s.net.sent := by
  rw [launchBegun, sent_setTx, (regsAt_showLegs s i legs).net]

end

/-- Every sample of a packet has been delivered. -/
def wholePacket (x : TxStream) (n : Nat) : Bool :=
  (List.range (fmtP x.format)).all fun j => (List.range x.channels).all fun c => (bufAt x.buf (n * fmtP x.format + j) c).isSome

section
variable (s : State) (i : Nat) (x : TxStream) (n : Nat)

/-- The state in which a packet is launched: its instant, after the port's hold. -/
def launchTime : State := s.until (launchAt x n + s.get (RWK_NET_TX_HOLD x.ports) * 1000)

/-- The legs of a packet. -/
def packetLegs : Bool × Bool := s.legsOf x (sampleTime (rateHz (fmtRate x.format)) (n * fmtP x.format))

theorem legsOf_launchTime (t : Nat) : (launchTime s x n).legsOf x t = s.legsOf x t := by
  have hrole : (launchTime s x n).legRole t = s.legRole t := by
    rw [State.legRole, State.legRole, launchTime, sov_until, State.get_until]
  have hdiffer : (launchTime s x n).classesDiffer = s.classesDiffer := by rw [State.classesDiffer, launchTime, State.flag_until, State.classesDiffer]
  have hsov : (launchTime s x n).sov = s.sov := sov_until s _
  have hflag : ∀ f, (launchTime s x n).flag f = s.flag f := State.flag_until s _
  rw [State.legsOf, State.legsOf, hrole, hdiffer, hsov, hflag, hflag, hflag]

/-- What a launch does at its instant, on its legs. -/
def launchOn (s : State) (i : Nat) (x : TxStream) (n : Nat) (legs : Bool × Bool) : State :=
  if s.flag FCU_STATUS_SAFE || !wholePacket x n then (s.bump (NPE_TXSTAT_SKIPPED i)).put (NPE_TXSTAT_STATE i) 2
  else
    let t := s.put (NPE_TXSTAT_STATE i) 1
    sentOn (if (legs.1 || legs.2) && !((legs.1 && t.portUp x.ports) || (legs.2 && t.portUp (x.ports + 1)))
      then t.bump (NPE_TXSTAT_SKIPPED i) else t) x n legs

/-- A packet's launch: at its instant, on its legs. -/
def launchStep (s : State) (i : Nat) (x : TxStream) (n : Nat) : State :=
  launchOn (launchBegun (launchTime s x n) i x n (packetLegs (launchTime s x n) x n)) i x n (packetLegs (launchTime s x n) x n)

/-- Equal as functions: the kernel would evaluate the legs to compare the bodies, so they are named first. -/
theorem launchPacket_eq : State.launchPacket = launchStep := by
  delta State.launchPacket
  funext s i x n
  extract_lets +onlyGivenNames p fs u whole
  change _ = launchOn (launchBegun u i x n (u.legsOf x (sampleTime fs (n * p)))) i x n (u.legsOf x (sampleTime fs (n * p)))
  generalize u.legsOf x (sampleTime fs (n * p)) = legs
  obtain ⟨red, blue⟩ := legs
  rfl

theorem packetLegs_launchTime : packetLegs (launchTime s x n) x n = packetLegs s x n := legsOf_launchTime s x n _

end

/-! ### On the legs -/

section
variable {s : State} (x : TxStream) (n : Nat) {legs : Bool × Bool}

theorem LaunchedAt.sentOn {u : State} {i m : Nat} (h : LaunchedAt s u i m) : LaunchedAt s (sentOn u x n legs) i m := by
  have hred : LaunchedAt s (if legs.1 then u.sendFrame x.ports (packetBytes x x.red n fun a c => (bufAt x.buf a c).getD 0) else u) i m := by
    split
    · exact h.sendFrame _ _
    · exact h
  rw [Proofs.sentOn]
  split
  · exact hred.sendFrame _ _
  · exact hred

/-- A launch changes no register below those of the ports. -/
theorem get_sentOn {f : Fld} (h : f.addr < NP_CTRL 0) : (sentOn s x n legs).get f = s.get f := by
  have hred : (if legs.1 then s.sendFrame x.ports (packetBytes x x.red n fun a c => (bufAt x.buf a c).getD 0) else s).get f = s.get f := by
    split
    · exact get_sendFrame_other _ _ (by grind)
    · rfl
  rw [sentOn]
  split
  · exact (get_sendFrame_other _ _ (by grind)).trans hred
  · exact hred

theorem lastSent_sentOn_red (hred : legs.1 = true) (hup : s.portUp x.ports = true) :
    lastSent (sentOn s x n legs) x.ports = packetBytes x x.red n fun a c => (bufAt x.buf a c).getD 0 := by
  rw [sentOn, if_pos hred]
  split
  · exact (lastSent_sendFrame_other _ _ (by omega)).trans (lastSent_sendFrame hup _)
  · exact lastSent_sendFrame hup _

theorem lastSent_sentOn_blue (hblue : legs.2 = true) (hup : s.portUp (x.ports + 1) = true) :
    lastSent (sentOn s x n legs) (x.ports + 1) = packetBytes x x.blue n fun a c => (bufAt x.buf a c).getD 0 := by
  rw [sentOn, if_pos hblue]
  refine lastSent_sendFrame ?_ _
  split
  · exact (portUp_sendFrame _ _ _ _).trans hup
  · exact hup

end

/-! ### PACKET_LAUNCH -/

section
variable {s : State} {i : BitVec 12} {x : TxStream} (hstream : s.txAt i.toNat = some x)
include hstream

theorem packetLaunch_lowerFirst (hlower : s.lowerFirst i.toNat x = true) : Ignored s (.packetLaunch i) := by
  rw [Ignored, exec_packetLaunch, execPacketLaunch, hstream]
  simp only [hlower, Bool.not_true, occurs_false]

end

/-- What a launch found of its stream's device before it: the safe state, the ports, the count of packets skipped. -/
structure LaunchReads (s t : State) (i : Nat) : Prop where
  safe : t.flag FCU_STATUS_SAFE = s.flag FCU_STATUS_SAFE
  port : ∀ k, t.portUp k = s.portUp k
  skipped : t.get (NPE_TXSTAT_SKIPPED i) = s.get (NPE_TXSTAT_SKIPPED i)
  sent : t.net.sent = s.net.sent

section
variable {s : State} {i : Nat} (hi : i < 4096) (x : TxStream) (n : Nat) (legs : Bool × Bool)

theorem launchBegun_launchTime : LaunchedAt (launchTime s x n) (launchBegun (launchTime s x n) i x n legs) i n := launchBegun_launchedAt _ i x n legs

include hi

theorem launchBegun_reads : LaunchReads s (launchBegun (launchTime s x n) i x n legs) i := by
  have hreg : ∀ a, a ≠ NPE_TXSTAT i → (launchBegun (launchTime s x n) i x n legs).reg a = s.reg a := fun a ha => by
    rw [launchBegun, reg_setTx, (regsAt_showLegs _ i legs).reg a ha, launchTime, State.reg_until]
  refine ⟨?_, fun k => portUp_of_regs (hreg _ (by grind)) (hreg _ (by grind)), ?_, ?_⟩
  · rw [State.flag, State.get, hreg _ (by grind), State.flag, State.get]
  · rw [launchBegun_get, showLegs_skipped, launchTime, State.get_until]
  · rw [launchBegun_sent, launchTime, net_until]

end

/-- A launch whose turn it is: from a state that reads as `s` does, with the stream past the packet. -/
theorem exec_packetLaunch_first {s : State} {i : BitVec 12} {x : TxStream} (hstream : s.txAt i.toNat = some x) (hfirst : s.lowerFirst i.toNat x = false) :
    ∃ t, LaunchedAt (launchTime s x (s.nextPacket x)) t i.toNat (s.nextPacket x) ∧ LaunchReads s t i.toNat ∧
      exec (.packetLaunch i) s = .next (launchOn t i.toNat x (s.nextPacket x) (packetLegs s x (s.nextPacket x))).drivePins := by
  refine ⟨_, launchBegun_launchTime x _ (packetLegs s x (s.nextPacket x)), launchBegun_reads i.isLt x _ _, ?_⟩
  rw [exec_packetLaunch, execPacketLaunch, hstream, launchPacket_eq]
  simp only [hfirst, Bool.not_false, launchStep, packetLegs_launchTime]
  exact occurs_of _ _ _ rfl

/-! ### What a launch leaves -/

/-- What a launch reads is left by its status. -/
theorem LaunchReads.state {s t : State} {i : Nat} (h : LaunchReads s t i) (hi : i < 4096) (v : Nat) : LaunchReads s (t.put (NPE_TXSTAT_STATE i) v) i where
  safe := by rw [State.flag, State.get_put_other _ _ _ _ (by grind)]; exact h.safe
  port := fun k => (portUp_of_regs (reg_put_other _ _ _ _ (by grind)) (reg_put_other _ _ _ _ (by grind))).trans (h.port k)
  skipped := (State.get_put_apart _ _ _ _ (by simp) (by simp)).trans h.skipped
  sent := by rw [State.put_net, h.sent]

/-- A stream that skips a packet. -/
def launchSkipped (t : State) (i : Nat) : State := (t.bump (NPE_TXSTAT_SKIPPED i)).put (NPE_TXSTAT_STATE i) 2

/-- A stream that sends: its state, and a packet counted as skipped when `none` of its ports is up. -/
def launchCounted (t : State) (i : Nat) (none : Prop) [Decidable none] : State :=
  if none then (t.put (NPE_TXSTAT_STATE i) 1).bump (NPE_TXSTAT_SKIPPED i) else t.put (NPE_TXSTAT_STATE i) 1

section
variable {s t : State} {i n : Nat} {x : TxStream} {legs : Bool × Bool} (hreads : LaunchReads s t i) (hi : i < 4096)
include hreads hi

omit hi in
/-- A packet skipped: counted, and no frame sent. -/
theorem launchOn_skips (hskip : s.flag FCU_STATUS_SAFE = true ∨ wholePacket x n = false) :
    launchOn t i x n legs = launchSkipped t i := by
  rw [launchOn, hreads.safe]
  exact if_pos (by rcases hskip with h | h <;> simp [h])

omit hi in
theorem skipped_counted : (t.bump (NPE_TXSTAT_SKIPPED i)).get (NPE_TXSTAT_SKIPPED i) = min (s.get (NPE_TXSTAT_SKIPPED i) + 1) 65535 :=
  (get_bump t (NPE_TXSTAT_SKIPPED i) (by simp)).trans (by rw [hreads.skipped]; rfl)

/-- A packet sent, before its legs: its stream's state, and whether it counts as skipped. -/
theorem launchOn_sends (hsafe : s.flag FCU_STATUS_SAFE = false) (hwhole : wholePacket x n = true) :
    let up := (legs.1 && s.portUp x.ports) || (legs.2 && s.portUp (x.ports + 1))
    launchOn t i x n legs = sentOn (launchCounted t i ((legs.1 || legs.2) = true ∧ up = false)) x n legs := by
  intro up
  have hport := (hreads.state hi 1).port
  rw [launchOn, hreads.safe, hsafe, hwhole]
  simp only [hport]
  rw [if_neg (by simp)]
  congr 1
  refine if_congr ?_ rfl rfl
  rw [Bool.and_eq_true, Bool.not_eq_true']

omit hi in
theorem launchSkipped_leaves {l : State} {m : Nat} (hlaunched : LaunchedAt l t i m) :
    (launchSkipped t i).get (NPE_TXSTAT_STATE i) = 2 ∧ (launchSkipped t i).get (NPE_TXSTAT_SKIPPED i) = min (s.get (NPE_TXSTAT_SKIPPED i) + 1) 65535 ∧
      (launchSkipped t i).net.sent = s.net.sent ∧ LaunchedAt l (launchSkipped t i) i m := by
  rw [launchSkipped]
  refine ⟨State.get_put_eq _ _ _ (by simp) (by simp), ?_, ?_, (hlaunched.bump _).put _ _⟩
  · rw [State.get_put_apart _ _ _ _ (by simp) (by simp), skipped_counted hreads]
  · rw [State.put_net, State.bump, State.put_net, hreads.sent]

theorem launchCounted_leaves {l : State} {m : Nat} (hlaunched : LaunchedAt l t i m) (none : Prop) [Decidable none] :
    (launchCounted t i none).get (NPE_TXSTAT_STATE i) = 1 ∧
      (launchCounted t i none).get (NPE_TXSTAT_SKIPPED i) = (if none then min (s.get (NPE_TXSTAT_SKIPPED i) + 1) 65535 else s.get (NPE_TXSTAT_SKIPPED i)) ∧
      (∀ k, (launchCounted t i none).portUp k = s.portUp k) ∧ LaunchedAt l (launchCounted t i none) i m := by
  have hstate : (t.put (NPE_TXSTAT_STATE i) 1).get (NPE_TXSTAT_STATE i) = 1 := State.get_put_eq _ _ _ (by simp) (by simp)
  have hnext := hreads.state hi 1
  have hlaunched' := hlaunched.put (NPE_TXSTAT_STATE i) 1
  rw [launchCounted]
  generalize t.put (NPE_TXSTAT_STATE i) 1 = w at *
  split
  · refine ⟨?_, skipped_counted hnext, fun k => ?_, hlaunched'.bump _⟩
    · rw [State.bump, State.get_put_apart _ _ _ _ (by simp) (by simp), hstate]
    · exact (portUp_of_regs (reg_put_other _ _ _ _ (by grind)) (reg_put_other _ _ _ _ (by grind))).trans (hnext.port k)
  · exact ⟨hstate, hnext.skipped, hnext.port, hlaunched'⟩

end

section
variable {s : State} {i : BitVec 12} {x : TxStream} (hstream : s.txAt i.toNat = some x) (hfirst : s.lowerFirst i.toNat x = false)
include hstream hfirst

theorem packetLaunch_skips (hskip : s.flag FCU_STATUS_SAFE = true ∨ wholePacket x (s.nextPacket x) = false) : Gives s (.packetLaunch i) fun u =>
    u.get (NPE_TXSTAT_SKIPPED i.toNat) = min (s.get (NPE_TXSTAT_SKIPPED i.toNat) + 1) 65535 ∧ u.get (NPE_TXSTAT_STATE i.toNat) = 2 ∧
    u.net.sent = s.net.sent ∧ ∃ x', u.txAt i.toNat = some x' ∧ x'.last = some (s.nextPacket x) := by
  obtain ⟨t, hlaunched, hreads, hexec⟩ := exec_packetLaunch_first hstream hfirst
  rw [launchOn_skips hreads hskip] at hexec
  obtain ⟨hstate, hskipped, hsent, hlaunched⟩ := launchSkipped_leaves hreads hlaunched
  generalize launchSkipped t i.toNat = w at *
  exact ⟨_, hexec, (State.get_drivePins _ _).trans hskipped, (State.get_drivePins _ _).trans hstate, by rw [State.drivePins_net, hsent],
    hlaunched.drivePins.stream⟩

theorem packetLaunch_sends (hsafe : s.flag FCU_STATUS_SAFE = false) (hwhole : wholePacket x (s.nextPacket x) = true) :
    let n := s.nextPacket x
    let legs := packetLegs s x n
    let up := (legs.1 && s.portUp x.ports) || (legs.2 && s.portUp (x.ports + 1))
    Gives s (.packetLaunch i) fun u =>
      u.get (NPE_TXSTAT_SKIPPED i.toNat) = (if (legs.1 || legs.2) = true ∧ up = false then min (s.get (NPE_TXSTAT_SKIPPED i.toNat) + 1) 65535
        else s.get (NPE_TXSTAT_SKIPPED i.toNat)) ∧
      u.get (NPE_TXSTAT_STATE i.toNat) = 1 ∧ u.time = max s.time (launchAt x n + s.get (RWK_NET_TX_HOLD x.ports) * 1000) ∧
      (∃ x', u.txAt i.toNat = some x' ∧ x'.last = some n) ∧ u.points = s.points ∧ u.mem = s.mem ∧
      (legs.1 = true → s.portUp x.ports = true → lastSent u x.ports = packetBytes x x.red n fun a c => (bufAt x.buf a c).getD 0) ∧
      (legs.2 = true → s.portUp (x.ports + 1) = true → lastSent u (x.ports + 1) = packetBytes x x.blue n fun a c => (bufAt x.buf a c).getD 0) := by
  intro n legs up
  obtain ⟨t, hlaunched, hreads, hexec⟩ := exec_packetLaunch_first hstream hfirst
  rw [launchOn_sends hreads i.isLt hsafe hwhole] at hexec
  obtain ⟨hstate, hcount, hport, hlaunched⟩ := launchCounted_leaves hreads i.isLt hlaunched ((legs.1 || legs.2) = true ∧ up = false)
  generalize launchCounted t i.toNat ((legs.1 || legs.2) = true ∧ up = false) = w at *
  have hbelow : NPE_TXSTAT i.toNat < NP_CTRL 0 := by have := i.isLt; grind
  have hfinal := (hlaunched.sentOn x n (legs := legs)).drivePins
  refine ⟨_, hexec, ?_, ?_, hfinal.time.trans (State.time_until _ _), hfinal.stream, hfinal.points.trans (points_until _ _),
    hfinal.mem.trans (mem_until _ _), fun hred hup => ?_, fun hblue hup => ?_⟩
  · rw [State.get_drivePins, get_sentOn x n hbelow, hcount]
  · rw [State.get_drivePins, get_sentOn x n hbelow, hstate]
  · exact lastSent_sentOn_red x n hred ((hport _).trans hup)
  · exact lastSent_sentOn_blue x n hblue ((hport _).trans hup)

end

/-! ## Links (R223) -/

/-- A port's link, its block lock and its FEC alignment. -/
def statusPut (s : State) (k link lock align : Nat) : State :=
  ((s.put (NP_STATUS_LINK k) link).put (NP_STATUS_BLOCK_LOCK k) lock).put (NP_STATUS_FEC_ALIGN k) align

theorem statusPut_flags (s : State) (k link lock align : Nat) :
    RegsAt (· = NP_STATUS k) s (statusPut s k link lock align) ∧
      (statusPut s k link lock align).flag (NP_STATUS_LINK k) = (link % 2 != 0) ∧
      (statusPut s k link lock align).flag (NP_STATUS_BLOCK_LOCK k) = (lock % 2 != 0) ∧
      (statusPut s k link lock align).flag (NP_STATUS_FEC_ALIGN k) = (align % 2 != 0) := by
  have hput : ∀ (t : State) (f : Fld) (v : Nat), f.addr = NP_STATUS k → RegsAt (· = NP_STATUS k) t (t.put f v) := fun t f v hf => regsAt_put t v hf
  refine ⟨((hput s _ _ rfl).trans (hput _ _ _ rfl)).trans (hput _ _ _ rfl), ?_, ?_, ?_⟩
  · rw [statusPut, State.flag, State.get_put_apart _ _ _ _ (by simp) (by simp), State.get_put_apart _ _ _ _ (by simp) (by simp),
      State.get_put_self _ _ _ (by simp), pow_one]
  · rw [statusPut, State.flag, State.get_put_apart _ _ _ _ (by simp) (by simp), State.get_put_self _ _ _ (by simp), pow_one]
  · rw [statusPut, State.flag, State.get_put_self _ _ _ (by simp), pow_one]

section
variable {s : State} {k : Fin 4}

theorem linkDown_reported (hlink : s.flag (NP_STATUS_LINK k) = true) : Gives s (.linkDown k) fun u =>
    u.flag (NP_STATUS_LINK k) = false ∧ u.flag (NP_STATUS_BLOCK_LOCK k) = false ∧ u.flag (NP_STATUS_FEC_ALIGN k) = false ∧
    (u.pair (248 + k)).todo.length = (s.pair (248 + k)).todo.length + 1 ∧ u = { s with regs := u.regs, fcu := u.fcu, pins := u.pins } := by
  have hraise : ∀ k : Fin 4, (fcRow (248 + k.val)).isSome = true := by decide
  have hput := statusPut_flags s k 0 0 0
  have hexec : exec (.linkDown k) s = .next ((statusPut s k 0 0 0).drive (248 + k.val) { reduced := s.linkProtected k }).drivePins := by
    rw [exec_linkDown, execLinkDown]
    exact occurs_of _ _ _ hlink
  obtain ⟨hregs, hlinked, hlock, halign⟩ := hput
  generalize statusPut s k 0 0 0 = t at *
  refine ⟨_, hexec, (State.flag_drive _ _ _ _).trans hlinked, (State.flag_drive _ _ _ _).trans hlock, (State.flag_drive _ _ _ _).trans halign,
    (todo_drive t _ _ (hraise k)).trans (by rw [hregs.pair]), ?_⟩
  rw [State.drive_fcu, hregs.eq]
  rfl

theorem linkUp_linked (hspeed : s.get (NP_CTRL_SPEED k) ≠ 0) : Gives s (.linkUp k) fun u =>
    u.flag (NP_STATUS_LINK k) = true ∧ u.flag (NP_STATUS_BLOCK_LOCK k) = true ∧ u.flag (NP_STATUS_FEC_ALIGN k) = (s.get (NP_CTRL_SPEED k) == 1) ∧
    k.val ∉ u.host.recal ∧ u.net = s.net ∧ u.fcu = s.fcu := by
  have hexec : exec (.linkUp k) s = .next (statusPut (s.recalDone k) k 1 1 (if s.get (NP_CTRL_SPEED k) = 1 then 1 else 0)).drivePins := by
    rw [exec_linkUp, execLinkUp]
    exact occurs_of _ _ _ (decide_eq_true hspeed)
  obtain ⟨hregs, hlinked, hlock, halign⟩ := statusPut_flags (s.recalDone k) k 1 1 (if s.get (NP_CTRL_SPEED k) = 1 then 1 else 0)
  generalize statusPut (s.recalDone k) k 1 1 (if s.get (NP_CTRL_SPEED k) = 1 then 1 else 0) = t at *
  have hhost : t.host.recal = s.host.recal.filter (· ≠ k.val) := congrArg (·.host.recal) hregs.off
  have hfcu : t.fcu = s.fcu := congrArg (·.fcu) hregs.off
  refine ⟨_, hexec, hlinked, hlock, halign.trans ?_, ?_, hregs.net, hfcu⟩
  · split_ifs with h <;> simp [h]
  · rw [State.drivePins_host, hhost]
    simp

theorem linkUp_disabled (hspeed : s.get (NP_CTRL_SPEED k) = 0) : Ignored s (.linkUp k) := by
  rw [Ignored, exec_linkUp, execLinkUp]
  simp only [hspeed]
  exact occurs_false _ _

end

/-- The network ports launch packets, and their links go up and down. -/
theorem networkPorts_launch : Statements.NetworkPortsLaunchPackets := by
  intro s k i
  refine ⟨fun x hstream => ?_, fun x hstream hlower => packetLaunch_lowerFirst hstream hlower, fun hlink => linkDown_reported hlink,
    fun hspeed => linkUp_linked hspeed, fun hspeed => linkUp_disabled hspeed⟩
  intro n p legs whole up hfirst
  exact ⟨fun hsafe hwhole => packetLaunch_sends hstream hfirst hsafe hwhole, fun hskip => packetLaunch_skips hstream hfirst hskip⟩

/-- Settles O49, clause by clause: receiving by the induction over a packet's samples (`PlacedUpTo`), launching by the state a launch reads. -/
theorem networkPortsCarryStreams : Obligations.NetworkPortsCarryStreams := by
  unfold Obligations.NetworkPortsCarryStreams
  exact ⟨networkPorts_receive, networkPorts_launch⟩

end Sys2Proof.Proofs

namespace Sys2Proof.Proofs
open Sys2Proof.Machine Sys2Proof.Safety

/-! ## PTP's state of a port -/

section
variable (s : State) (k : Nat)

theorem ptp_setPtp (p : PtpPort) : (s.setPtp k p).ptp k = p := Sparse.get_set_self _ _ _ _

theorem ptp_onPtp (f : PtpPort → PtpPort) : (s.onPtp k f).ptp k = f (s.ptp k) := ptp_setPtp s k _

theorem get_setPtp (p : PtpPort) (f : Fld) : (s.setPtp k p).get f = s.get f := rfl

theorem reg_setPtp (p : PtpPort) (a : Nat) : (s.setPtp k p).reg a = s.reg a := rfl

theorem clk_setPtp (p : PtpPort) : (s.setPtp k p).clk = s.clk := rfl

theorem ptp_until (t : Nat) : (s.until t).ptp k = s.ptp k := by rw [State.ptp, net_until, State.ptp]

end

section
variable {p : Nat → Prop} {s u : State} (h : RegsAt p s u)
include h

theorem RegsAt.ptp (k : Nat) : u.ptp k = s.ptp k := by rw [State.ptp, h.net, State.ptp]

theorem RegsAt.clk : u.clk = s.clk := congrArg (·.clk) h.off

end

/-! ### Messages discarded (R224) -/

theorem regsAt_dropPtp {p : Nat → Prop} (s : State) {k : Nat} (h : p (NP_CTRLQ k)) : RegsAt p s (s.dropPtp k) :=
  regsAt_bump (f := NP_CTRLQ_PTP_DROP k) s h

theorem dropPtp_counts (s : State) (k : Nat) :
    (s.dropPtp k).get (NP_CTRLQ_PTP_DROP k) = min (s.get (NP_CTRLQ_PTP_DROP k) + 1) 65535 := by
  rw [State.dropPtp, get_bump _ _ (by simp)]; rfl

/-! ### The state of a port (R305) -/

section
variable {s : State} {k st : Nat}

theorem setPtpState_same (h : s.get (NP_STATUS_PTP_STATE k) = st) : s.setPtpState k st = s := if_pos h

theorem setPtpState_new (h : s.get (NP_STATUS_PTP_STATE k) ≠ st) : s.setPtpState k st = (s.put (NP_STATUS_PTP_STATE k) st).pulse 43 := if_neg h

theorem regsAt_setPtpState {p : Nat → Prop} (s : State) (st : Nat) (hstatus : p (NP_STATUS k)) (hevent : p (EVR_PEND 1)) :
    RegsAt p s (s.setPtpState k st) := by
  by_cases h : s.get (NP_STATUS_PTP_STATE k) = st
  · rw [setPtpState_same h]; exact .refl p s
  · rw [setPtpState_new h]
    exact (regsAt_put (f := NP_STATUS_PTP_STATE k) s st hstatus).trans (regsAt_pulse _ hevent)

theorem setPtpState_state (s : State) (k : Nat) (h : st < 2 ^ (NP_STATUS_PTP_STATE k).width) :
    (s.setPtpState k st).get (NP_STATUS_PTP_STATE k) = st := by
  by_cases hsame : s.get (NP_STATUS_PTP_STATE k) = st
  · rw [setPtpState_same hsame, hsame]
  · rw [setPtpState_new hsame, State.get_pulse_other _ _ _ (by grind)]
    exact State.get_put_eq _ _ _ (by simp) h

theorem setPtpState_event (h : s.get (NP_STATUS_PTP_STATE k) ≠ st) : (s.setPtpState k st).eventPending 43 = true := by
  rw [setPtpState_new h]
  exact State.eventPending_pulse _ 43 (by decide) (by decide)

end

/-! ### Messages sent (R220, R221) -/

section
variable {s : State} {k : Nat} (hup : s.portUp k = true) (bs : List Byte)
include hup

theorem sendFrame_counted : (s.sendFrame k bs).get (NP_TX_FRAMES_COUNT k) = (s.get (NP_TX_FRAMES_COUNT k) + 1) % 2 ^ 32 := by
  rw [sendFrame_up hup]
  exact get_count s (NP_TX_FRAMES_COUNT k) (by simp)

end

section
variable (s : State) (k : Nat) (bs : List Byte)

theorem ptp_sendFrame : (s.sendFrame k bs).net.ptp = s.net.ptp := by rw [sendFrame_eq]

theorem clk_sendFrame : (s.sendFrame k bs).clk = s.clk := by rw [sendFrame_eq]

end

theorem portUp_of_ptpOn {s : State} {k : Nat} (h : s.ptpOn k = true) : s.portUp k = true := by
  simp only [State.ptpOn, State.ptpRuns, Bool.and_eq_true] at h
  obtain ⟨⟨⟨-, hspeed⟩, -⟩, hlink⟩ := h
  rw [State.portUp, hspeed, hlink]; rfl

theorem ptpRuns_of_ptpOn {s : State} {k : Nat} (h : s.ptpOn k = true) : s.ptpRuns k = true := by
  rw [State.ptpOn, Bool.and_eq_true] at h
  exact h.1

/-! ## The best master's decision (R220) -/

/-- Registers the BMCA writes: ports' states, event 43, the grandmaster's identity. -/
def bmcaReg (a : Nat) : Prop := (∃ j < 4, a = NP_STATUS j) ∨ a = EVR_PEND 1 ∨ a = MCK_GM_ID_LO ∨ a = MCK_GM_ID_HI

/-- The states the BMCA gives the ports. -/
def decided (s : State) (ports : List Nat) : State := ports.foldl (fun s k => if s.ptpRuns k then s.setPtpState k (s.decidePort k) else s) s

theorem regsAt_decided (s : State) (ports : List Nat) (h : ∀ k ∈ ports, k < 4) : RegsAt bmcaReg s (decided s ports) := by
  refine List.foldlRecOn (motive := RegsAt bmcaReg s) ports _ (.refl _ s) fun t ht k hk => ?_
  split
  · exact ht.trans (regsAt_setPtpState t _ (Or.inl ⟨k, h k hk, rfl⟩) (Or.inr (Or.inl rfl)))
  · exact ht

theorem regsAt_gmId (s : State) (v : Nat) : RegsAt bmcaReg s (s.put64 MCK_GM_ID_LO v) :=
  regsAt_put64 s v (Or.inr (Or.inr (Or.inl rfl))) (Or.inr (Or.inr (Or.inr rfl)))

theorem regsAt_runBmca (s : State) : RegsAt bmcaReg s s.runBmca := by
  have hports : RegsAt bmcaReg s (decided s (List.range 4)) := regsAt_decided s _ fun k hk => List.mem_range.mp hk
  have hrun : ∃ v, s.runBmca = (decided s (List.range 4)).put64 MCK_GM_ID_LO v := by
    rw [State.runBmca, ← decided]
    split <;> exact ⟨_, rfl⟩
  obtain ⟨v, hv⟩ := hrun
  rw [hv]
  exact hports.trans (regsAt_gmId _ v)

/-! ## An offset sample (R222, R226) -/

/-- What an accepted sample leaves once it is taken: the clock's offset and run, MCK.OFFSET, the count of samples, the Sync that waits. -/
structure SampleKept (k : Nat) (s u : State) : Prop where
  clk : u.clk = s.clk
  offset : u.reg MCK_OFFSET = s.reg MCK_OFFSET
  syncs : (u.ptp k).syncs = (s.ptp k).syncs
  sync : (u.ptp k).sync = (s.ptp k).sync

theorem SampleKept.refl (k : Nat) (s : State) : SampleKept k s s := ⟨rfl, rfl, rfl, rfl⟩

theorem SampleKept.trans {k : Nat} {s u v : State} (h : SampleKept k s u) (g : SampleKept k u v) : SampleKept k s v :=
  ⟨g.clk.trans h.clk, g.offset.trans h.offset, g.syncs.trans h.syncs, g.sync.trans h.sync⟩

theorem RegsAt.sampleKept {p : Nat → Prop} {s u : State} (h : RegsAt p s u) (hp : ¬p MCK_OFFSET) (k : Nat) : SampleKept k s u :=
  ⟨h.clk, h.reg _ hp, by rw [h.ptp], by rw [h.ptp]⟩

theorem sampleKept_irq (s : State) (v k : Nat) : SampleKept k s (s.irq v) := by
  refine ⟨by rw [State.irq_eq], State.reg_irq_other s v _ (by decide), ?_, ?_⟩
  · rw [State.ptp, State.irq_eq, State.ptp]
  · rw [State.ptp, State.irq_eq, State.ptp]

theorem sampleKept_put (s : State) (k : Nat) {f : Fld} (v : Nat) (h : f.addr ≠ MCK_OFFSET) : SampleKept k s (s.put f v) :=
  (regsAt_put (p := (· = f.addr)) s v rfl).sampleKept (Ne.symm h) k

theorem sampleKept_setClock (s : State) (k st : Nat) : SampleKept k s (s.setClock st) := by
  have hstate : SampleKept k s (if s.get MCK_STATUS_STATE = st then s else ((s.put MCK_STATUS_STATE st).pulse 42).irq 26) := by
    split
    · exact .refl k s
    · have hpulse : RegsAt (· = EVR_PEND 1) (s.put MCK_STATUS_STATE st) ((s.put MCK_STATUS_STATE st).pulse 42) := regsAt_pulse _ rfl
      exact ((sampleKept_put s k st (by decide)).trans (hpulse.sampleKept (by decide) k)).trans (sampleKept_irq _ 26 k)
  rw [State.setClock]
  exact (hstate.trans (sampleKept_put _ k _ (by decide))).trans (sampleKept_put _ k _ (by decide))

theorem sampleKept_checkQualified (s : State) (k : Nat) : SampleKept k s (s.checkQualified k) := by
  rw [State.checkQualified]
  split
  · have hset : SampleKept k s (s.setPtp k { s.ptp k with qualified := true }) :=
      ⟨clk_setPtp _ _ _, reg_setPtp _ _ _ _, by rw [ptp_setPtp], by rw [ptp_setPtp]⟩
    exact hset.trans ((regsAt_runBmca _).sampleKept (by unfold bmcaReg; grind) k)
  · exact .refl k s

/-- The state with a filtered offset `f`. -/
def sampleTaken (s : State) (k : Nat) (forth f : Int) : State :=
  ((s.setPtp k { s.ptp k with syncs := (s.ptp k).syncs + 1, outliers := 0, forth := forth }).setReg MCK_OFFSET (sat32 f)).onClk
    fun c => { c with offset := f, run := if f.natAbs ≤ 100 then c.run + 1 else 0 }

/-- The phase error follows a sample of the source in use; beyond 100 ns the clock is not locked. -/
def phaseFollows (s : State) (f : Int) : State :=
  if s.inUse && s.get MCK_STATUS_SOURCE = 1 then
    if (s.setReg MCK_PHASE_ERR (sat32 f)).get MCK_STATUS_STATE = 3 ∧ 100 < f.natAbs then (s.setReg MCK_PHASE_ERR (sat32 f)).setClock 2
    else s.setReg MCK_PHASE_ERR (sat32 f)
  else s

theorem sampleKept_phaseFollows (s : State) (k : Nat) (f : Int) : SampleKept k s (phaseFollows s f) := by
  have hset : RegsAt (· = MCK_PHASE_ERR) s (s.setReg MCK_PHASE_ERR (sat32 f)) := regsAt_setReg s _ rfl
  have herr := hset.sampleKept (by decide) k
  rw [phaseFollows]
  split
  · split
    · exact herr.trans (sampleKept_setClock _ k 2)
    · exact herr
  · exact .refl k s

theorem ptp_sampleTaken (s : State) (k : Nat) (forth f : Int) :
    (sampleTaken s k forth f).ptp k = { s.ptp k with syncs := (s.ptp k).syncs + 1, outliers := 0, forth := forth } := ptp_setPtp s k _

theorem offset_sampleTaken (s : State) (k : Nat) (forth f : Int) : (sampleTaken s k forth f).reg MCK_OFFSET = sat32 f :=
  State.reg_setReg_self (s.setPtp k _) MCK_OFFSET (sat32 f)

theorem clk_sampleTaken (s : State) (k : Nat) (forth f : Int) :
    (sampleTaken s k forth f).clk = { s.clk with offset := f, run := if f.natAbs ≤ 100 then s.clk.run + 1 else 0 } := rfl

/-- The filtered offset: the first sample itself. -/
def filtered (s : State) (k : Nat) (x : Int) : Int :=
  if (s.ptp k).syncs = 0 then x else Config.ptpFilter (s.get MCK_CTRL_PTP_BW) s.clk.offset x

/-- A sample that the filter takes. -/
theorem takeOffset_taken (s : State) (k : Nat) (forth : Int)
    (hin : (s.ptp k).syncs = 0 ∨ (forth - (s.reg MCK_MPD).toInt - s.clk.offset).natAbs ≤ 1000) :
    SampleKept k (sampleTaken s k forth (filtered s k (forth - (s.reg MCK_MPD).toInt))) (s.takeOffset k forth) := by
  have hout : ¬((s.ptp k).syncs ≠ 0 ∧ 1000 < (forth - (s.reg MCK_MPD).toInt - s.clk.offset).natAbs) := by omega
  have heq : s.takeOffset k forth =
      (phaseFollows (sampleTaken s k forth (filtered s k (forth - (s.reg MCK_MPD).toInt))) (filtered s k (forth - (s.reg MCK_MPD).toInt))).checkQualified k := by
    rw [State.takeOffset]
    dsimp only
    rw [if_neg hout]
    rfl
  rw [heq]
  exact (sampleKept_phaseFollows _ k _).trans (sampleKept_checkQualified _ k)

/-- An outlier is dropped and counted. -/
theorem takeOffset_outlier (s : State) (k : Nat) (forth : Int) (hsyncs : (s.ptp k).syncs ≠ 0)
    (hout : 1000 < (forth - (s.reg MCK_MPD).toInt - s.clk.offset).natAbs) (hfew : (s.ptp k).outliers < 7) :
    s.takeOffset k forth = (s.dropPtp k).setPtp k { s.ptp k with outliers := (s.ptp k).outliers + 1 } := by
  rw [State.takeOffset]
  dsimp only
  rw [if_pos ⟨hsyncs, hout⟩, if_neg (by omega)]

end Sys2Proof.Proofs

namespace Sys2Proof.Proofs
open Sys2Proof.Machine Sys2Proof.Safety

/-! ## PTP messages received (R220 to R224) -/

theorem exec_ptpMessage_on {s : State} {k : Fin 4} (hon : s.ptpOn k = true) (m : PtpMessage) :
    exec (.ptpMessage k m) s = .next (s.ptpMessage k m).drivePins := by
  rw [exec_ptpMessage]
  exact occurs_of _ _ _ hon

theorem ptpMessage_unusable {s : State} {m : PtpMessage} (k : Nat)
    (h : m.version ≠ 2 ∨ m.domain.toNat ≠ s.get MCK_PTP_CFG_DOMAIN ∨ m.body = .unsupported) : s.ptpMessage k m = s.dropPtp k := by
  rw [State.ptpMessage]
  by_cases hhead : m.version ≠ 2 ∨ m.domain.toNat ≠ s.get MCK_PTP_CFG_DOMAIN
  · rw [if_pos hhead]
  · have hbody : m.body = .unsupported := by tauto
    rw [if_neg hhead, hbody]

/-- The Sync that waited is used. -/
def syncUsed (s : State) (k : Nat) : State := s.onPtp k fun p => { p with sync := none }

theorem ptp_syncUsed (s : State) (k : Nat) : (syncUsed s k).ptp k = { s.ptp k with sync := none } := ptp_onPtp s k _

theorem get_syncUsed (s : State) (k : Nat) (f : Fld) : (syncUsed s k).get f = s.get f := get_setPtp s k _ f

theorem reg_syncUsed (s : State) (k a : Nat) : (syncUsed s k).reg a = s.reg a := reg_setPtp s k _ a

theorem clk_syncUsed (s : State) (k : Nat) : (syncUsed s k).clk = s.clk := clk_setPtp s k _

section
variable {s : State} {m : PtpMessage} (hgood : Statements.GoodPtp s m) (k : Nat)
include hgood

/-- A good message is read by its body. -/
theorem ptpMessage_good : s.ptpMessage k m = match m.body with
    | .unsupported => s.dropPtp k
    | .announce d => s.takeAnnounce k m d
    | .sync two t => s.takeSync k m two t
    | .followUp t => s.takeFollowUp k m t
    | .delayReq => if s.get (NP_STATUS_PTP_STATE k) = 3 then s.sendDelayResp k m else s
    | .delayResp t who => s.takeDelayResp k m t who.toNat := by
  obtain ⟨hversion, hdomain, hwhole⟩ := hgood
  rw [State.ptpMessage, if_neg (by simp [hversion, hdomain]), hwhole]
  cases m.body <;> rfl

variable {t : PtpTime}

/-! ### Sync and Follow_Up -/

theorem ptpMessage_sync (two : Bool) (hbody : m.body = .sync two t) (hfrom : s.fromMaster k m = true) (hnone : (s.ptp k).sync = none) :
    s.ptpMessage k m = if two then s.setPtp k { s.ptp k with sync := some (m.seq.toNat, s.time, m.correction.toInt + s.asym k) }
      else (syncUsed s k).takeOffset k (Int.ofNat s.time - timeNanos t - (m.correction.toInt + s.asym k)) := by
  rw [ptpMessage_good hgood, hbody]
  simp only [State.takeSync, hfrom, Bool.not_true, Bool.false_eq_true, if_false, hnone, Option.isSome_none, syncUsed, State.onPtp]

theorem ptpMessage_followUp {received : Nat} {old : Int} (hbody : m.body = .followUp t) (hfrom : s.fromMaster k m = true)
    (hsync : (s.ptp k).sync = some (m.seq.toNat, received, old)) : s.ptpMessage k m =
      (syncUsed s k).takeOffset k (Int.ofNat received - timeNanos t - old - m.correction.toInt) := by
  rw [ptpMessage_good hgood, hbody]
  simp only [State.takeFollowUp, hsync, hfrom, decide_true, Bool.and_self, if_true, syncUsed]

/-! ### Delay_Resp -/

theorem ptpMessage_delayResp {sent : Nat} {who : BitVec 80} (hbody : m.body = .delayResp t who) (hfrom : s.fromMaster k m = true)
    (hreq : (s.ptp k).req = some (m.seq.toNat, sent)) (hwho : who.toNat = s.portId k) : s.ptpMessage k m =
      (s.setPtp k { s.ptp k with req := none, noResp := 0 }).setReg MCK_MPD
        (sat32 (((s.ptp k).forth + (timeNanos t - Int.ofNat sent - m.correction.toInt + s.asym k)) / 2)) := by
  rw [ptpMessage_good hgood, hbody]
  simp only [State.takeDelayResp, hreq, hfrom, hwho, and_self, decide_true, Bool.and_self, if_true, State.onPtp]

/-! ### Announce -/

theorem ptpMessage_announce {d : PtpAnnounce} (hbody : m.body = .announce d) (hsteps : d.steps.toNat < 255) (hnone : (s.ptp k).best = none) :
    s.ptpMessage k m = (s.setPtp k { s.ptp k with best := some (annOf m d), annAt := s.time, annCount := 1, badAnn := 0 }).runBmca := by
  rw [ptpMessage_good hgood, hbody]
  simp only [State.takeAnnounce, not_le.mpr hsteps, if_false, hnone, State.onPtp]

/-! ### Delay_Req -/

theorem ptpMessage_delayReq (hbody : m.body = .delayReq) (hmaster : s.get (NP_STATUS_PTP_STATE k) = 3) :
    s.ptpMessage k m = s.sendFrame k (udpFrame (s.ptpLeg k 320) (s.ptpBytes k 9 0 m.seq.toNat (m.correction.signExtend 64).toNat 3
      (logByte (s.get MCK_PTP_CFG_LOG_DREQ)) (ptpStamp s.time ++ beBytes 10 m.source.toNat))) := by
  rw [ptpMessage_good hgood, hbody]
  simp only [hmaster, if_true, State.sendDelayResp, State.sendPtp]
  rw [if_neg (by omega)]

end

/-! ### What a message leaves -/

theorem filtered_syncUsed (s : State) (k : Nat) (x : Int) : filtered (syncUsed s k) k x = filtered s k x := by
  rw [filtered, filtered, ptp_syncUsed, get_syncUsed, clk_syncUsed]

/-- A sample within 1 µs, or the first: the filtered offset takes it. -/
theorem sample_taken (s : State) (k : Nat) (forth : Int)
    (hin : (s.ptp k).syncs = 0 ∨ (forth - (s.reg MCK_MPD).toInt - s.clk.offset).natAbs ≤ 1000) :
    let u := (syncUsed s k).takeOffset k forth
    let f := filtered s k (forth - (s.reg MCK_MPD).toInt)
    u.clk.offset = f ∧ u.reg MCK_OFFSET = sat32 f ∧ (u.ptp k).syncs = (s.ptp k).syncs + 1 ∧ (u.ptp k).sync = none ∧
      u.clk.run = if f.natAbs ≤ 100 then s.clk.run + 1 else 0 := by
  intro u f
  have hkept := takeOffset_taken (syncUsed s k) k forth (by rw [ptp_syncUsed, reg_syncUsed, clk_syncUsed]; exact hin)
  rw [filtered_syncUsed, reg_syncUsed] at hkept
  obtain ⟨hclk, hoffset, hsyncs, hsync⟩ := hkept
  rw [clk_sampleTaken, clk_syncUsed] at hclk
  rw [offset_sampleTaken] at hoffset
  rw [ptp_sampleTaken, ptp_syncUsed] at hsyncs hsync
  exact ⟨by rw [hclk], hoffset, hsyncs, hsync, by rw [hclk]⟩

/-- An outlier leaves the clock as it was. -/
theorem sample_outlier (s : State) (k : Nat) (forth : Int) (hsyncs : (s.ptp k).syncs ≠ 0)
    (hout : 1000 < (forth - (s.reg MCK_MPD).toInt - s.clk.offset).natAbs) (hfew : (s.ptp k).outliers < 7) :
    let u := (syncUsed s k).takeOffset k forth
    u.get (NP_CTRLQ_PTP_DROP k) = min (s.get (NP_CTRLQ_PTP_DROP k) + 1) 65535 ∧ u.clk = s.clk ∧ (u.ptp k).outliers = (s.ptp k).outliers + 1 := by
  intro u
  have hu : u = ((syncUsed s k).dropPtp k).setPtp k { (syncUsed s k).ptp k with outliers := ((syncUsed s k).ptp k).outliers + 1 } :=
    takeOffset_outlier _ k forth (by rwa [ptp_syncUsed]) (by rwa [reg_syncUsed, clk_syncUsed]) (by rwa [ptp_syncUsed])
  have hdrop : RegsAt (· = NP_CTRLQ k) (syncUsed s k) ((syncUsed s k).dropPtp k) := regsAt_dropPtp _ rfl
  refine ⟨?_, ?_, ?_⟩
  · rw [hu, get_setPtp, dropPtp_counts, get_syncUsed]
  · rw [hu, clk_setPtp, hdrop.clk, clk_syncUsed]
  · rw [hu, ptp_setPtp, ptp_syncUsed]

section
variable {s : State} {k : Fin 4} {m : PtpMessage} {t : PtpTime} (hon : s.ptpOn k = true)
include hon

theorem ptpMessage_drops (h : m.version ≠ 2 ∨ m.domain.toNat ≠ s.get MCK_PTP_CFG_DOMAIN ∨ m.body = .unsupported) :
    Gives s (.ptpMessage k m) fun u => u.get (NP_CTRLQ_PTP_DROP k) = min (s.get (NP_CTRLQ_PTP_DROP k) + 1) 65535 ∧ Statements.RegsOnly s u := by
  have hexec := exec_ptpMessage_on hon m
  rw [ptpMessage_unusable k h] at hexec
  have hdrop : RegsAt (· = NP_CTRLQ k) s (s.dropPtp k) := regsAt_dropPtp s rfl
  exact ⟨_, hexec, (State.get_drivePins _ _).trans (dropPtp_counts s k), regsOnly_of_offRegs hdrop.off⟩

variable (hgood : Statements.GoodPtp s m)
include hgood

section
variable (hfrom : s.fromMaster k m = true)
include hfrom

theorem sync_sample (hbody : m.body = .sync false t) (hnone : (s.ptp k).sync = none) :
    exec (.ptpMessage k m) s = .next ((syncUsed s k).takeOffset k (Int.ofNat s.time - timeNanos t - (m.correction.toInt + s.asym k))).drivePins := by
  rw [exec_ptpMessage_on hon, ptpMessage_sync hgood k false hbody hfrom hnone, if_neg Bool.false_ne_true]

theorem sync_first (hbody : m.body = .sync false t) (hnone : (s.ptp k).sync = none) (hsyncs : (s.ptp k).syncs = 0) :
    let x : Int := Int.ofNat s.time - timeNanos t - (m.correction.toInt + s.asym k) - (s.reg MCK_MPD).toInt
    Gives s (.ptpMessage k m) fun u => u.clk.offset = x ∧ u.reg MCK_OFFSET = sat32 x ∧ (u.ptp k).syncs = 1 := by
  intro x
  have hf : filtered s k x = x := if_pos hsyncs
  obtain ⟨hclk, hoffset, hcount, -, -⟩ := sample_taken s k (Int.ofNat s.time - timeNanos t - (m.correction.toInt + s.asym k)) (Or.inl hsyncs)
  exact ⟨_, sync_sample hon hgood hfrom hbody hnone, hclk.trans hf, hoffset.trans (congrArg sat32 hf), hcount.trans (by rw [hsyncs])⟩

theorem sync_filtered (hbody : m.body = .sync false t) (hnone : (s.ptp k).sync = none) (hsyncs : (s.ptp k).syncs ≠ 0) :
    let x : Int := Int.ofNat s.time - timeNanos t - (m.correction.toInt + s.asym k) - (s.reg MCK_MPD).toInt
    (x - s.clk.offset).natAbs ≤ 1000 → Gives s (.ptpMessage k m) fun u =>
      let f := Config.ptpFilter (s.get MCK_CTRL_PTP_BW) s.clk.offset x
      u.clk.offset = f ∧ u.reg MCK_OFFSET = sat32 f ∧ (u.ptp k).syncs = (s.ptp k).syncs + 1 ∧ u.clk.run = if f.natAbs ≤ 100 then s.clk.run + 1 else 0 := by
  intro x hin
  have hf : filtered s k x = Config.ptpFilter (s.get MCK_CTRL_PTP_BW) s.clk.offset x := if_neg hsyncs
  have htaken := sample_taken s k (Int.ofNat s.time - timeNanos t - (m.correction.toInt + s.asym k)) (Or.inr hin)
  rw [hf] at htaken
  obtain ⟨hclk, hoffset, hcount, -, hrun⟩ := htaken
  exact ⟨_, sync_sample hon hgood hfrom hbody hnone, hclk, hoffset, hcount, hrun⟩

theorem sync_outlier (hbody : m.body = .sync false t) (hnone : (s.ptp k).sync = none) (hsyncs : (s.ptp k).syncs ≠ 0)
    (hout : 1000 < (Int.ofNat s.time - timeNanos t - (m.correction.toInt + s.asym k) - (s.reg MCK_MPD).toInt - s.clk.offset).natAbs)
    (hfew : (s.ptp k).outliers < 7) : Gives s (.ptpMessage k m) fun u =>
      u.get (NP_CTRLQ_PTP_DROP k) = min (s.get (NP_CTRLQ_PTP_DROP k) + 1) 65535 ∧ u.clk = s.clk ∧ (u.ptp k).outliers = (s.ptp k).outliers + 1 := by
  obtain ⟨hdrop, hclk, hcount⟩ := sample_outlier s k _ hsyncs hout hfew
  exact ⟨_, sync_sample hon hgood hfrom hbody hnone, hdrop, hclk, hcount⟩

theorem sync_waits (hbody : m.body = .sync true t) (hnone : (s.ptp k).sync = none) : Gives s (.ptpMessage k m) fun u =>
    u.ptp k = { s.ptp k with sync := some (m.seq.toNat, s.time, m.correction.toInt + s.asym k) } ∧ u.regs = s.regs ∧ u.clk = s.clk := by
  have hexec := exec_ptpMessage_on hon m
  rw [ptpMessage_sync hgood k true hbody hfrom hnone, if_pos rfl] at hexec
  exact ⟨_, hexec, ptp_setPtp s k _, State.drivePins_regs _, rfl⟩

theorem followUp_first {received : Nat} {old : Int} (hbody : m.body = .followUp t) (hsync : (s.ptp k).sync = some (m.seq.toNat, received, old))
    (hsyncs : (s.ptp k).syncs = 0) : Gives s (.ptpMessage k m) fun u =>
      u.clk.offset = Int.ofNat received - timeNanos t - old - m.correction.toInt - (s.reg MCK_MPD).toInt ∧ (u.ptp k).sync = none := by
  have hexec := exec_ptpMessage_on hon m
  rw [ptpMessage_followUp hgood k hbody hfrom hsync] at hexec
  obtain ⟨hclk, -, -, hused, -⟩ := sample_taken s k (Int.ofNat received - timeNanos t - old - m.correction.toInt) (Or.inl hsyncs)
  exact ⟨_, hexec, hclk.trans (if_pos hsyncs), hused⟩

theorem delayResp_taken {sent : Nat} {who : BitVec 80} (hbody : m.body = .delayResp t who) (hreq : (s.ptp k).req = some (m.seq.toNat, sent))
    (hwho : who.toNat = s.portId k) : Gives s (.ptpMessage k m) fun u =>
      u.reg MCK_MPD = sat32 (((s.ptp k).forth + (timeNanos t - Int.ofNat sent - m.correction.toInt + s.asym k)) / 2) ∧
        (u.ptp k).req = none ∧ u.clk = s.clk := by
  have hexec := exec_ptpMessage_on hon m
  rw [ptpMessage_delayResp hgood k hbody hfrom hreq hwho] at hexec
  generalize sat32 (((s.ptp k).forth + (timeNanos t - Int.ofNat sent - m.correction.toInt + s.asym k)) / 2) = w at *
  have hset : RegsAt (· = MCK_MPD) (s.setPtp k { s.ptp k with req := none, noResp := 0 })
    ((s.setPtp k { s.ptp k with req := none, noResp := 0 }).setReg MCK_MPD w) := regsAt_setReg _ w rfl
  refine ⟨_, hexec, (State.reg_drivePins _ _).trans (State.reg_setReg_self _ _ _), ?_, hset.clk.trans (clk_setPtp _ _ _)⟩
  exact congrArg (·.req) ((hset.ptp k).trans (ptp_setPtp s k _))

end

theorem announce_first {d : PtpAnnounce} (hbody : m.body = .announce d) (hsteps : d.steps.toNat < 255) (hnone : (s.ptp k).best = none) :
    Gives s (.ptpMessage k m) fun u =>
      (u.ptp k).best = some (annOf m d) ∧ (u.ptp k).annAt = s.time ∧ (u.ptp k).annCount = 1 ∧ u.clk = s.clk := by
  have hexec := exec_ptpMessage_on hon m
  rw [ptpMessage_announce hgood k hbody hsteps hnone] at hexec
  have hbmca := regsAt_runBmca (s.setPtp k { s.ptp k with best := some (annOf m d), annAt := s.time, annCount := 1, badAnn := 0 })
  have hport := (hbmca.ptp k).trans (ptp_setPtp s k _)
  exact ⟨_, hexec, congrArg (·.best) hport, congrArg (·.annAt) hport, congrArg (·.annCount) hport, hbmca.clk.trans (clk_setPtp s k _)⟩

theorem delayReq_answered (hbody : m.body = .delayReq) (hmaster : s.get (NP_STATUS_PTP_STATE k) = 3) : Gives s (.ptpMessage k m) fun u =>
    u.get (NP_TX_FRAMES_COUNT k) = (s.get (NP_TX_FRAMES_COUNT k) + 1) % 2 ^ 32 ∧ u.clk = s.clk ∧ u.net.ptp = s.net.ptp ∧
      lastSent u k = udpFrame (s.ptpLeg k 320) (s.ptpBytes k 9 0 m.seq.toNat (m.correction.signExtend 64).toNat 3
        (logByte (s.get MCK_PTP_CFG_LOG_DREQ)) (ptpStamp s.time ++ beBytes 10 m.source.toNat)) := by
  have hup := portUp_of_ptpOn hon
  have hexec := exec_ptpMessage_on hon m
  rw [ptpMessage_delayReq hgood k hbody hmaster] at hexec
  exact ⟨_, hexec, sendFrame_counted hup _, clk_sendFrame s k _, ptp_sendFrame s k _, lastSent_sendFrame hup _⟩

end

end Sys2Proof.Proofs

namespace Sys2Proof.Proofs
open Sys2Proof.Machine Sys2Proof.Safety

/-! ## PTP messages sent (R220, R221) -/

section
variable {s : State} {k : Fin 4} (hon : s.ptpOn k = true)
include hon

theorem exec_ptpMessageSend_on (kind : PtpKind) : exec (.ptpMessageSend k kind) s = .next (s.ptpSend k kind).drivePins := by
  rw [exec_ptpMessageSend]
  exact occurs_of _ _ _ hon

/-- A message sent by a port with its sequence numbers changed: counted, and on the wire. -/
theorem sent_after_setPtp (q : PtpPort) (bs : List Byte) :
    let u := (s.setPtp k q).sendFrame k bs
    u.get (NP_TX_FRAMES_COUNT k) = (s.get (NP_TX_FRAMES_COUNT k) + 1) % 2 ^ 32 ∧ u.ptp k = q ∧ lastSent u k = bs := by
  intro u
  have hup : (s.setPtp k q).portUp k = true :=
    (portUp_of_regs (reg_setPtp s k q _) (reg_setPtp s k q _)).trans (portUp_of_ptpOn hon)
  refine ⟨(sendFrame_counted hup bs).trans (by rw [get_setPtp]), ?_, lastSent_sendFrame hup bs⟩
  rw [State.ptp, ptp_sendFrame]
  exact ptp_setPtp s k q

/-- Two messages sent one after the other. -/
theorem sent_twice (q : PtpPort) (bs bs' : List Byte) :
    let u := ((s.setPtp k q).sendFrame k bs).sendFrame k bs'
    u.get (NP_TX_FRAMES_COUNT k) = (s.get (NP_TX_FRAMES_COUNT k) + 2) % 2 ^ 32 ∧ u.ptp k = q := by
  intro u
  obtain ⟨hcount, hport, -⟩ := sent_after_setPtp hon q bs
  have hup : ((s.setPtp k q).sendFrame k bs).portUp k = true := (portUp_sendFrame _ _ _ _).trans
    ((portUp_of_regs (reg_setPtp s k q _) (reg_setPtp s k q _)).trans (portUp_of_ptpOn hon))
  refine ⟨(sendFrame_counted hup bs').trans ?_, ?_⟩
  · rw [hcount, Nat.mod_add_mod]
  · rw [State.ptp, ptp_sendFrame]
    exact hport

end

theorem ptpBytes_setPtp (s : State) (k j : Nat) (q : PtpPort) : (s.setPtp k q).ptpBytes j = s.ptpBytes j := rfl

theorem ptpLeg_setPtp (s : State) (k j : Nat) (q : PtpPort) : (s.setPtp k q).ptpLeg j = s.ptpLeg j := rfl

section
variable (s : State) (k : Nat) (q : PtpPort) (flags seq corr ctl log : Nat) (body : List Byte)

/-- An event message leaves on UDP port 319, a general one on 320. -/
theorem sendPtp_setPtp (ty : Nat) : (s.setPtp k q).sendPtp k ty flags seq corr ctl log body =
    (s.setPtp k q).sendFrame k (udpFrame (s.ptpLeg k (if ty < 8 then 319 else 320)) (s.ptpBytes k ty flags seq corr ctl log body)) := by
  rw [State.sendPtp, ptpBytes_setPtp, ptpLeg_setPtp]

end

/-- A MASTER's Sync: in one step, or with the Follow_Up that carries its time. -/
theorem ptpSend_sync {s : State} {k : Nat} (hmaster : s.get (NP_STATUS_PTP_STATE k) = 3) :
    let t := s.setPtp k { s.ptp k with seqSync := ((s.ptp k).seqSync + 1) % 65536 }
    let log := logByte (s.get MCK_PTP_CFG_LOG_SYNC)
    s.ptpSend k .sync = if s.flag (NP_CTRL_ONE_STEP k) = true then t.sendPtp k 0 0 (s.ptp k).seqSync 0 0 log (ptpStamp s.time)
      else (t.sendPtp k 0 0x0200 (s.ptp k).seqSync 0 0 log (ptpStamp 0)).sendPtp k 8 0 (s.ptp k).seqSync 0 2 log (ptpStamp s.time) := by
  rw [State.ptpSend]
  exact if_neg (not_not.mpr hmaster)

section
variable {s : State} {k : Fin 4} (hon : s.ptpOn k = true)
include hon

theorem sync_sent (hmaster : s.get (NP_STATUS_PTP_STATE k) = 3) : Gives s (.ptpMessageSend k .sync) fun u =>
    u.get (NP_TX_FRAMES_COUNT k) = (s.get (NP_TX_FRAMES_COUNT k) + if s.flag (NP_CTRL_ONE_STEP k) = true then 1 else 2) % 2 ^ 32 ∧
      (u.ptp k).seqSync = ((s.ptp k).seqSync + 1) % 65536 ∧
      (s.flag (NP_CTRL_ONE_STEP k) = true → lastSent u k = udpFrame (s.ptpLeg k 319)
        (s.ptpBytes k 0 0 (s.ptp k).seqSync 0 0 (logByte (s.get MCK_PTP_CFG_LOG_SYNC)) (ptpStamp s.time))) := by
  have hexec := exec_ptpMessageSend_on hon .sync
  rw [ptpSend_sync hmaster] at hexec
  split_ifs at hexec ⊢ with hone
  · rw [sendPtp_setPtp] at hexec
    obtain ⟨hcount, hport, hlast⟩ := sent_after_setPtp hon { s.ptp k with seqSync := ((s.ptp k).seqSync + 1) % 65536 }
      (udpFrame (s.ptpLeg k 319) (s.ptpBytes k 0 0 (s.ptp k).seqSync 0 0 (logByte (s.get MCK_PTP_CFG_LOG_SYNC)) (ptpStamp s.time)))
    exact ⟨_, hexec, hcount, congrArg (·.seqSync) hport, fun _ => hlast⟩
  · rw [sendPtp_setPtp, State.sendPtp] at hexec
    obtain ⟨hcount, hport⟩ := sent_twice hon { s.ptp k with seqSync := ((s.ptp k).seqSync + 1) % 65536 } _ _
    exact ⟨_, hexec, hcount, congrArg (·.seqSync) hport, fun h => absurd h hone⟩

theorem announce_sent (hmaster : s.get (NP_STATUS_PTP_STATE k) = 3) : Gives s (.ptpMessageSend k .announce) fun u =>
    u.get (NP_TX_FRAMES_COUNT k) = (s.get (NP_TX_FRAMES_COUNT k) + 1) % 2 ^ 32 ∧ (u.ptp k).seqAnn = ((s.ptp k).seqAnn + 1) % 65536 ∧
      lastSent u k = udpFrame (s.ptpLeg k 320) (s.ptpBytes k 11 8 (s.ptp k).seqAnn 0 5 (logByte (s.get MCK_PTP_CFG_LOG_ANN)) s.announced.body) := by
  have hexec := exec_ptpMessageSend_on hon .announce
  have hsend : s.ptpSend k .announce = (s.setPtp k { s.ptp k with seqAnn := ((s.ptp k).seqAnn + 1) % 65536 }).sendPtp k 11 8 (s.ptp k).seqAnn 0 5
      (logByte (s.get MCK_PTP_CFG_LOG_ANN)) s.announced.body := by
    rw [State.ptpSend, hmaster]; rfl
  rw [hsend, sendPtp_setPtp] at hexec
  obtain ⟨hcount, hport, hlast⟩ := sent_after_setPtp hon { s.ptp k with seqAnn := ((s.ptp k).seqAnn + 1) % 65536 }
    (udpFrame (s.ptpLeg k 320) (s.ptpBytes k 11 8 (s.ptp k).seqAnn 0 5 (logByte (s.get MCK_PTP_CFG_LOG_ANN)) s.announced.body))
  exact ⟨_, hexec, hcount, congrArg (·.seqAnn) hport, hlast⟩

theorem delayReq_sent (hslave : s.get (NP_STATUS_PTP_STATE k) = 5 ∨ s.get (NP_STATUS_PTP_STATE k) = 6) :
    Gives s (.ptpMessageSend k .delayReq) fun u => u.get (NP_TX_FRAMES_COUNT k) = (s.get (NP_TX_FRAMES_COUNT k) + 1) % 2 ^ 32 ∧
      (u.ptp k).req = some ((s.ptp k).seqReq, s.time) ∧ (u.ptp k).seqReq = ((s.ptp k).seqReq + 1) % 65536 := by
  have hexec := exec_ptpMessageSend_on hon .delayReq
  have hsend : s.ptpSend k .delayReq = (s.setPtp k { s.ptp k with req := some ((s.ptp k).seqReq, s.time), seqReq := ((s.ptp k).seqReq + 1) % 65536 }).sendPtp
      k 1 0 (s.ptp k).seqReq 0 1 0x7F (ptpStamp 0) := by
    rw [State.ptpSend]
    exact if_neg (by omega)
  rw [hsend, sendPtp_setPtp] at hexec
  obtain ⟨hcount, hport, -⟩ := sent_after_setPtp hon { s.ptp k with req := some ((s.ptp k).seqReq, s.time), seqReq := ((s.ptp k).seqReq + 1) % 65536 }
    (udpFrame (s.ptpLeg k 319) (s.ptpBytes k 1 0 (s.ptp k).seqReq 0 1 0x7F (ptpStamp 0)))
  exact ⟨_, hexec, hcount, congrArg (·.req) hport, congrArg (·.seqReq) hport⟩

end

/-! ## PTP's timers (R220, R222, R224) -/

/-- What a lost source leaves of PTP: the network's state, device time. -/
def netTime (s : State) : Net × Nat := (s.net, s.time)

theorem RegsAt.netTime {p : Nat → Prop} {s u : State} (h : RegsAt p s u) : netTime u = netTime s := Prod.ext h.net h.time

theorem netTime_put (s : State) (f : Fld) (v : Nat) : netTime (s.put f v) = netTime s := rfl

theorem netTime_onClk (s : State) (f : Clock → Clock) : netTime (s.onClk f) = netTime s := rfl

theorem netTime_irq (s : State) (v : Nat) : netTime (s.irq v) = netTime s := by rw [State.irq_eq]; rfl

theorem netTime_drive (s : State) (n : Nat) (r : Raise) : netTime (s.drive n r) = netTime s := by rw [State.drive_fcu]; rfl

theorem netTime_steer (s : State) : netTime s.steer = netTime s := by
  rw [State.steer]
  split <;> rfl

theorem netTime_setClock (s : State) (st : Nat) : netTime (s.setClock st) = netTime s := by
  rw [State.setClock, netTime_put, netTime_put]
  split
  · rfl
  · have hpulse : RegsAt (fun _ => True) (s.put MCK_STATUS_STATE st) ((s.put MCK_STATUS_STATE st).pulse 42) := regsAt_pulse _ trivial
    rw [netTime_irq, hpulse.netTime, netTime_put]

theorem netTime_enterHoldover (s : State) : netTime s.enterHoldover = netTime s := by
  rw [State.enterHoldover, netTime_setClock, netTime_steer, netTime_onClk, State.bump, netTime_put]

theorem netTime_loseSource (s : State) (k : Nat) : netTime (s.loseSource k) = netTime s := by
  have hlose : ∀ (t : State) (n : Nat), netTime (if t.inUse && t.get MCK_STATUS_SOURCE = k then t.enterHoldover.drive n else t) = netTime t := fun t n => by
    split
    · rw [netTime_drive, netTime_enterHoldover]
    · rfl
  rw [State.loseSource]
  split
  · exact (hlose _ 254).trans (netTime_put _ _ _)
  · exact (hlose _ 257).trans (netTime_put _ _ _)

/-- A port that loses its master hears none. -/
theorem loseMaster_leaves (s : State) (k : Nat) : ((s.loseMaster k).ptp k).best = none ∧ (s.loseMaster k).time = s.time := by
  have hbmca : RegsAt bmcaReg (s.listen k) (s.listen k).runBmca := regsAt_runBmca _
  have hlisten : netTime (s.listen k).runBmca = netTime (s.setPtp k
      { since := s.time, seqSync := (s.ptp k).seqSync, seqReq := (s.ptp k).seqReq, seqAnn := (s.ptp k).seqAnn }) := by
    have hstate : RegsAt (fun _ => True) _ ((s.setPtp k
      { since := s.time, seqSync := (s.ptp k).seqSync, seqReq := (s.ptp k).seqReq, seqAnn := (s.ptp k).seqAnn }).setPtpState k 1) :=
      regsAt_setPtpState _ 1 trivial trivial
    exact hbmca.netTime.trans hstate.netTime
  have hlost : netTime (s.loseMaster k) = netTime (s.listen k).runBmca := by
    rw [State.loseMaster]
    split
    · exact netTime_loseSource _ 1
    · rfl
  obtain ⟨hnet, htime⟩ := Prod.mk.inj (hlost.trans hlisten)
  refine ⟨?_, htime⟩
  rw [State.ptp, hnet]
  exact congrArg (·.best) (ptp_setPtp s k _)

section
variable {s : State} {k : Fin 4} (hon : s.ptpOn k = true)
include hon

theorem announceTimeout_preMaster (hnone : (s.ptp k).best = none) (hlistening : s.get (NP_STATUS_PTP_STATE k) = 1)
    (hfree : s.flag MCK_PTP_CFG_SLAVE_ONLY = false) : Gives s (.announceReceiptTimeout k) fun u =>
      u.get (NP_STATUS_PTP_STATE k) = 2 ∧ u.eventPending 43 = true ∧
        u.time = max s.time ((s.ptp k).since + s.get MCK_PTP_CFG_ANN_TIMEOUT * logNs (s.get MCK_PTP_CFG_LOG_ANN)) := by
  have hsend : s.announceTimeout k =
      (s.until ((s.ptp k).since + s.get MCK_PTP_CFG_ANN_TIMEOUT * logNs (s.get MCK_PTP_CFG_LOG_ANN))).setPtpState k 2 := by
    simp only [State.announceTimeout, hnone, State.get_until, State.flag_until, hlistening, hfree, decide_true, Bool.not_false, Bool.and_self, if_true]
  have hexec : exec (.announceReceiptTimeout k) s = .next (s.announceTimeout k).drivePins := by
    rw [exec_announceReceiptTimeout]
    exact occurs_of _ _ _ (ptpRuns_of_ptpOn hon)
  rw [hsend] at hexec
  have htime := State.time_until s ((s.ptp k).since + s.get MCK_PTP_CFG_ANN_TIMEOUT * logNs (s.get MCK_PTP_CFG_LOG_ANN))
  have hstate := State.get_until s ((s.ptp k).since + s.get MCK_PTP_CFG_ANN_TIMEOUT * logNs (s.get MCK_PTP_CFG_LOG_ANN)) (NP_STATUS_PTP_STATE k)
  generalize s.until ((s.ptp k).since + s.get MCK_PTP_CFG_ANN_TIMEOUT * logNs (s.get MCK_PTP_CFG_LOG_ANN)) = w at *
  have hregs : RegsAt (fun _ => True) w (w.setPtpState k 2) := regsAt_setPtpState w 2 trivial trivial
  exact ⟨_, hexec, (State.get_drivePins _ _).trans (setPtpState_state w k (by simp)),
    (eventPending_drivePins _ _).trans (setPtpState_event (by omega)), hregs.time.trans htime⟩

theorem announceTimeout_loses (hbest : (s.ptp k).best ≠ none) : Gives s (.announceReceiptTimeout k) fun u =>
    (u.ptp k).best = none ∧ u.time = max s.time ((s.ptp k).annAt + s.get MCK_PTP_CFG_ANN_TIMEOUT * logNs (s.get MCK_PTP_CFG_LOG_ANN)) := by
  obtain ⟨d, hd⟩ := Option.ne_none_iff_exists'.mp hbest
  have hlose : s.announceTimeout k =
      (s.until ((s.ptp k).annAt + s.get MCK_PTP_CFG_ANN_TIMEOUT * logNs (s.get MCK_PTP_CFG_LOG_ANN))).loseMaster k := by
    simp only [State.announceTimeout, hd]
  have hexec : exec (.announceReceiptTimeout k) s = .next (s.announceTimeout k).drivePins := by
    rw [exec_announceReceiptTimeout]
    exact occurs_of _ _ _ (ptpRuns_of_ptpOn hon)
  rw [hlose] at hexec
  obtain ⟨hnone, htime⟩ := loseMaster_leaves (s.until ((s.ptp k).annAt + s.get MCK_PTP_CFG_ANN_TIMEOUT * logNs (s.get MCK_PTP_CFG_LOG_ANN))) k
  exact ⟨_, hexec, hnone, htime.trans (State.time_until _ _)⟩

omit hon in
/-- A timer that drops what it waited for: the drop is counted, the port's state replaced. -/
theorem dropped_at (s : State) (k at' : Nat) (q : PtpPort) :
    let u := ((s.until at').dropPtp k).setPtp k q
    u.get (NP_CTRLQ_PTP_DROP k) = min (s.get (NP_CTRLQ_PTP_DROP k) + 1) 65535 ∧ u.ptp k = q ∧ u.time = max s.time at' := by
  have hdrop : RegsAt (· = NP_CTRLQ k) (s.until at') ((s.until at').dropPtp k) := regsAt_dropPtp _ rfl
  have hcount := dropPtp_counts (s.until at') k
  rw [State.get_until] at hcount
  have htime := hdrop.time.trans (State.time_until s at')
  generalize (s.until at').dropPtp k = w at *
  exact ⟨hcount, ptp_setPtp w k q, htime⟩

omit hon in
theorem ptp_dropped_until (s : State) (k at' : Nat) : ((s.until at').dropPtp k).ptp k = s.ptp k := by
  have hdrop : RegsAt (· = NP_CTRLQ k) (s.until at') ((s.until at').dropPtp k) := regsAt_dropPtp _ rfl
  rw [hdrop.ptp, ptp_until]

theorem delayRespTimeout_drops {n sent : Nat} (hreq : (s.ptp k).req = some (n, sent)) (hfew : (s.ptp k).noResp < 15) :
    Gives s (.delayRespTimeout k) fun u => u.get (NP_CTRLQ_PTP_DROP k) = min (s.get (NP_CTRLQ_PTP_DROP k) + 1) 65535 ∧
      (u.ptp k).req = none ∧ (u.ptp k).noResp = (s.ptp k).noResp + 1 ∧ u.time = max s.time (sent + logNs (s.get MCK_PTP_CFG_LOG_DREQ)) := by
  have hdelay : s.delayTimeout k sent = ((s.until (sent + logNs (s.get MCK_PTP_CFG_LOG_DREQ))).dropPtp k).setPtp k
      { s.ptp k with req := none, noResp := (s.ptp k).noResp + 1 } := by
    rw [State.delayTimeout, State.onPtp, ptp_dropped_until]
    rw [if_neg (by rw [ptp_setPtp]; dsimp only; omega)]
  have hexec : exec (.delayRespTimeout k) s = .next (s.delayTimeout k sent).drivePins := by
    rw [exec_delayRespTimeout, execDelayRespTimeout, hreq]
    exact occurs_of _ _ _ (ptpRuns_of_ptpOn hon)
  rw [hdelay] at hexec
  obtain ⟨hcount, hport, htime⟩ := dropped_at s k (sent + logNs (s.get MCK_PTP_CFG_LOG_DREQ)) { s.ptp k with req := none, noResp := (s.ptp k).noResp + 1 }
  exact ⟨_, hexec, hcount, congrArg (·.req) hport, congrArg (·.noResp) hport, htime⟩

theorem followUpTimeout_drops {n received : Nat} {c : Int} (hsync : (s.ptp k).sync = some (n, received, c)) :
    Gives s (.followUpTimeout k) fun u => u.get (NP_CTRLQ_PTP_DROP k) = min (s.get (NP_CTRLQ_PTP_DROP k) + 1) 65535 ∧
      u.ptp k = { s.ptp k with sync := none } ∧ u.time = max s.time (received + logNs (s.get MCK_PTP_CFG_LOG_SYNC)) := by
  have hexec : exec (.followUpTimeout k) s = .next (((s.until (received + logNs (s.get MCK_PTP_CFG_LOG_SYNC))).dropPtp k).setPtp k
      { s.ptp k with sync := none }).drivePins := by
    rw [exec_followUpTimeout, execFollowUpTimeout, hsync, ← ptp_dropped_until s k (received + logNs (s.get MCK_PTP_CFG_LOG_SYNC))]
    exact occurs_of _ _ _ (ptpRuns_of_ptpOn hon)
  obtain ⟨hcount, hport, htime⟩ := dropped_at s k (received + logNs (s.get MCK_PTP_CFG_LOG_SYNC)) { s.ptp k with sync := none }
  exact ⟨_, hexec, hcount, hport, htime⟩

end

/-! ## PRE_MASTER to MASTER (R220) -/

section
variable {s : State} {j st : Nat}

theorem get_setPtpState_other (s : State) {f : Fld} (hstatus : f.addr ≠ NP_STATUS j) (hevent : f.addr ≠ EVR_PEND 1) :
    (s.setPtpState j st).get f = s.get f :=
  (regsAt_setPtpState (p := fun a => a = NP_STATUS j ∨ a = EVR_PEND 1) s st (Or.inl rfl) (Or.inr rfl)).get (by tauto)

theorem eventPending_setPtpState (h : s.eventPending 43 = true) : (s.setPtpState j st).eventPending 43 = true := by
  by_cases hsame : s.get (NP_STATUS_PTP_STATE j) = st
  · rwa [setPtpState_same hsame]
  · exact setPtpState_event hsame

/-- A port that takes another state runs on, and so do the others. -/
theorem ptpRuns_setPtpState (hruns : s.ptpRuns j = true) (hne : st ≠ 0) (hfit : st < 8) (i : Nat) :
    (s.setPtpState j st).ptpRuns i = s.ptpRuns i := by
  have hen : (s.setPtpState j st).flag (NP_CTRL_PTP_EN i) = s.flag (NP_CTRL_PTP_EN i) := by
    rw [State.flag, get_setPtpState_other s (by grind) (by grind), State.flag]
  have hspeed : (s.setPtpState j st).get (NP_CTRL_SPEED i) = s.get (NP_CTRL_SPEED i) := get_setPtpState_other s (by grind) (by grind)
  by_cases hij : i = j
  · subst hij
    simp only [State.ptpRuns, Bool.and_eq_true] at hruns ⊢
    obtain ⟨⟨hflag, hrate⟩, hstate⟩ := hruns
    rw [hen, hspeed, setPtpState_state s i hfit, hflag, hrate, hstate]
    simp [hne]
  · have hstate : (s.setPtpState j st).get (NP_STATUS_PTP_STATE i) = s.get (NP_STATUS_PTP_STATE i) := get_setPtpState_other s (by grind) (by grind)
    rw [State.ptpRuns, State.ptpRuns, hen, hspeed, hstate]

end

/-- The best master depends on what the ports that run have heard. -/
theorem bestMaster_of_ports {s u : State} (hruns : ∀ j, u.ptpRuns j = s.ptpRuns j) (hport : ∀ j, u.ptp j = s.ptp j) : u.bestMaster = s.bestMaster := by
  have hr : u.ptpRuns = s.ptpRuns := funext hruns
  have hp : u.ptp = s.ptp := funext hport
  rw [State.bestMaster, State.bestMaster, hr, hp]

/-- While no port hears a master: port `k` is MASTER, event 43 pending, and the ports run as in `s`. -/
structure MasterHere (k : Nat) (s u : State) : Prop where
  regs : RegsAt bmcaReg s u
  master : u.get (NP_STATUS_PTP_STATE k) = 3
  event : u.eventPending 43 = true
  runs : ∀ j, u.ptpRuns j = s.ptpRuns j

section
variable {s u : State} {k : Nat} (h : MasterHere k s u) (hnone : s.bestMaster = none) (hfree : s.flag MCK_PTP_CFG_SLAVE_ONLY = false)
include h hnone

theorem MasterHere.bestMaster : u.bestMaster = none := (bestMaster_of_ports h.runs h.regs.ptp).trans hnone

include hfree

omit hnone in
theorem MasterHere.slaveOnly : u.flag MCK_PTP_CFG_SLAVE_ONLY = false := (h.regs.flag (by unfold bmcaReg; grind)).trans hfree

/-- With no master heard a port is MASTER, LISTENING or PRE_MASTER. -/
theorem MasterHere.decidePort (j : Nat) : u.decidePort j =
    if u.get (NP_STATUS_PTP_STATE j) = 3 then 3 else if u.get (NP_STATUS_PTP_STATE j) = 1 ∧ (u.ptp j).best.isNone then 1 else 2 := by
  simp only [State.decidePort, h.bestMaster hnone, h.slaveOnly hfree, Bool.false_eq_true, if_false]

theorem MasterHere.step {j : Nat} (hj : j < 4) : MasterHere k s (if u.ptpRuns j then u.setPtpState j (u.decidePort j) else u) := by
  split
  next hruns =>
    have hdecide := h.decidePort hnone hfree j
    by_cases hjk : j = k
    · rw [hdecide, hjk, if_pos h.master, setPtpState_same h.master]
      exact h
    · have hstate : u.decidePort j ≠ 0 ∧ u.decidePort j < 8 := by rw [hdecide]; split_ifs <;> decide
      generalize u.decidePort j = st at *
      exact ⟨h.regs.trans (regsAt_setPtpState u st (Or.inl ⟨j, hj, rfl⟩) (Or.inr (Or.inl rfl))),
        (get_setPtpState_other u (by grind) (by grind)).trans h.master, eventPending_setPtpState h.event,
        fun i => (ptpRuns_setPtpState hruns hstate.1 hstate.2 i).trans (h.runs i)⟩
  next => exact h

theorem MasterHere.decided (ports : List Nat) (hports : ∀ j ∈ ports, j < 4) : MasterHere k s (decided u ports) :=
  List.foldlRecOn (motive := MasterHere k s) ports _ h fun _ ht j hj => ht.step hnone hfree (hports j hj)

/-- The BMCA leaves port `k` MASTER, and the device's own identity the grandmaster's. -/
theorem MasterHere.runBmca (hk : k < 4) : u.runBmca.get (NP_STATUS_PTP_STATE k) = 3 ∧ u.runBmca.eventPending 43 = true ∧
    u.runBmca.get64 MCK_GM_ID_LO = s.clockId % 2 ^ 64 := by
  have hports := h.decided hnone hfree (List.range 4) fun j hj => List.mem_range.mp hj
  have hrun : u.runBmca = (Proofs.decided u (List.range 4)).put64 MCK_GM_ID_LO (Proofs.decided u (List.range 4)).clockId := by
    have hbest := hports.bestMaster hnone
    have hany : ((List.range 4).any fun j => (Proofs.decided u (List.range 4)).get (NP_STATUS_PTP_STATE j) = 3) = true :=
      List.any_eq_true.mpr ⟨k, List.mem_range.mpr hk, decide_eq_true hports.master⟩
    rw [State.runBmca, ← Proofs.decided, hbest]
    simp only [hany, if_true]
  have hid : (Proofs.decided u (List.range 4)).clockId = s.clockId := by
    have hmac : (Proofs.decided u (List.range 4)).portMac 0 = s.portMac 0 := by
      rw [State.portMac, hports.regs.get (by unfold bmcaReg; grind), hports.regs.get (by unfold bmcaReg; grind), State.portMac]
    rw [State.clockId, hmac, State.clockId]
  rw [hrun, hid]
  obtain ⟨-, hmaster, hevent, -⟩ := hports
  generalize Proofs.decided u (List.range 4) = w at *
  have hput : RegsAt (fun a => a = MCK_GM_ID_LO ∨ a = MCK_GM_ID_HI) w (w.put64 MCK_GM_ID_LO s.clockId) := regsAt_put64 w _ (Or.inl rfl) (Or.inr rfl)
  exact ⟨(hput.get (by grind)).trans hmaster, (eventPending_put64 _ _ _ _ (by decide) (by decide)).trans hevent, get64_put64_same _ _ _⟩

end

theorem clockId_lt (s : State) : s.clockId < 2 ^ 64 := by
  have hhi := get_lt s (NP_MAC_HI_MAC 0)
  have hlo := get_lt s (NP_MAC_LO_MAC 0)
  simp only [State.clockId, State.portMac] at *
  omega

theorem preMaster_qualifies {s : State} {k : Fin 4} (hon : s.ptpOn k = true) (hpre : s.get (NP_STATUS_PTP_STATE k) = 2)
    (hfree : s.flag MCK_PTP_CFG_SLAVE_ONLY = false) (hnone : s.bestMaster = none) : Gives s (.preMasterQualification k) fun u =>
      u.get (NP_STATUS_PTP_STATE k) = 3 ∧ u.eventPending 43 = true ∧ u.get64 MCK_GM_ID_LO = s.clockId := by
  have hruns := ptpRuns_of_ptpOn hon
  have hexec : exec (.preMasterQualification k) s = .next (s.setPtpState k 3).runBmca.drivePins := by
    rw [exec_preMasterQualification]
    exact occurs_of _ _ _ (by rw [hruns, hpre, hfree]; rfl)
  have hbegun : MasterHere k s (s.setPtpState k 3) := ⟨regsAt_setPtpState s 3 (Or.inl ⟨k, k.isLt, rfl⟩) (Or.inr (Or.inl rfl)),
    setPtpState_state s k (by simp), setPtpState_event (by omega), ptpRuns_setPtpState hruns (by decide) (by decide)⟩
  obtain ⟨hmaster, hevent, hid⟩ := hbegun.runBmca hnone hfree k.isLt
  generalize (s.setPtpState k 3).runBmca = w at *
  exact ⟨_, hexec, (State.get_drivePins _ _).trans hmaster, (eventPending_drivePins _ _).trans hevent,
    (get64_drivePins _ _).trans (hid.trans (Nat.mod_eq_of_lt (clockId_lt s)))⟩

/-- Settles O51, clause by clause: messages by their bodies, samples by what the filter takes, PRE_MASTER by the BMCA's fold over the ports. -/
theorem ptpFollowsTheMaster : Obligations.PtpFollowsTheMaster := by
  unfold Obligations.PtpFollowsTheMaster
  intro s k m t hon p c drops sends last
  refine ⟨ptpMessage_drops hon, fun hgood hfrom => ⟨?_, ?_, ?_, ?_⟩, ?_, ?_, ?_, delayReq_sent hon, ⟨?_, ?_⟩, ?_, ?_, ?_⟩
  · intro hbody hnone x
    exact ⟨sync_first hon hgood hfrom hbody hnone, sync_filtered hon hgood hfrom hbody hnone, sync_outlier hon hgood hfrom hbody hnone⟩
  · exact fun hbody hnone => sync_waits hon hgood hfrom hbody hnone
  · exact fun old received hbody hsync hsyncs => followUp_first hon hgood hfrom hbody hsync hsyncs
  · exact fun sent who hbody hreq hwho => delayResp_taken hon hgood hfrom hbody hreq hwho
  · exact fun d hgood hbody hsteps hnone => announce_first hon hgood hbody hsteps hnone
  · exact fun hgood hbody hmaster => delayReq_answered hon hgood hbody hmaster
  · exact fun hmaster => ⟨sync_sent hon hmaster, announce_sent hon hmaster⟩
  · exact fun hnone hlistening hfree => announceTimeout_preMaster hon hnone hlistening hfree
  · exact fun hbest => announceTimeout_loses hon hbest
  · exact fun n sent hreq hfew => delayRespTimeout_drops hon hreq hfew
  · exact fun n received c' hsync => followUpTimeout_drops hon hsync
  · exact fun hpre hfree hnone => preMaster_qualifies hon hpre hfree hnone

end Sys2Proof.Proofs
